-- ==== Sys2Proof/Word.lean ====
section
/-! DEFINITION. The word types of the YL-D480: a byte of a packet, descriptor or record, and a host-window word. -/

namespace Sys2Proof

/-- A byte, as R14 counts sizes. -/
abbrev Byte := BitVec 8

/-- A 32-bit word of the host window (R321). -/
abbrev Word := BitVec 32

end Sys2Proof
end

