-- ==== Sys2Proof/Packet.lean ====
section
/-! DEFINITION. The data a happening brings with it: the command packet of R302 and the frames, words and measurements
that the other rows of spec/opcode_table.json take from the world. -/

namespace Sys2Proof

/-- The five transports of R332 Table 21, in its order. -/
inductive Transport where
  | spi | canA | canB | ethernet | levee
  deriving DecidableEq, Repr

/-- The destination channels of R24 Table 2, in its order. -/
inductive Channel where
  | m1ax | m1ls | m2ax | m2ls | sa | sb | fl | net | recd | fg | wd | llu
  deriving DecidableEq, Repr

/-- A command packet as a transport delivers it whole (R302 to R304). -/
structure Packet where
  /-- instant at which its last word arrived, ns since power was applied -/
  time : Nat
  /-- the transport that carried it -/
  transport : Transport
  /-- source address and UDP port; forwarding member on the levee link -/
  src : Nat × Nat
  /-- VERSION -/
  version : Nat
  /-- FLAGS, Table 2 -/
  flags : Nat
  /-- OPCODE -/
  opcode : Nat
  /-- SEQ -/
  seq : Nat
  /-- SESSION -/
  session : Nat
  /-- TARGET: kind in bits 15 to 8, index in bits 7 to 0 -/
  target : Nat
  /-- the LENGTH payload bytes: launch time, command payload, tag -/
  payload : List Byte
  deriving DecidableEq, Repr

/-- What a read of a code word finds (R34): it matches, it matches on the retry, or it is damaged. -/
inductive CodeErr where
  | none | transient | persistent
  deriving DecidableEq, Repr

/-- What a damaged word belongs to: the kinds of data of R36 Table 5 and of the rules that name more. -/
inductive Damaged where
  /-- profile-engine state of an axis (R107); the committed queue, the commanded position or speed are damaged too -/
  | motionProfile (axis : Nat) (queue position : Bool)
  /-- rate-multiplier path of an axis (R103) -/
  | stepMultiplier (axis : Nat)
  /-- step-timer state of an axis (R100) -/
  | stepTimer (axis : Nat)
  /-- mirrored state held as standby; the partner's own item is damaged or gone -/
  | mirrored (sourceDamaged : Bool)
  /-- a record in the log buffer, by its SEQ; its sources still exist; its index entry is damaged as well (R442) -/
  | record (seq : Nat) (sources index : Bool)
  /-- operator profile or module configuration; both signed copies are damaged -/
  | config (sourceDamaged : Bool)
  /-- program code of the island -/
  | program (sourceDamaged : Bool)
  /-- door and step state of a portal -/
  | doorState (portal : Nat)
  /-- force map working copy of a portal; both MRAM halves damaged -/
  | forceMap (portal : Nat) (sourceDamaged : Bool)
  /-- session state of the floodgate -/
  | session (num : Nat)
  /-- evaluation state of a safety island; its fresh inputs are damaged too -/
  | safetyEval (inputsDamaged : Bool)
  /-- frame of a CAN receive object (R375) -/
  | canFrame (ctl obj : Nat)
  /-- binding of a CAN receive object (R375) -/
  | canBinding (ctl obj : Nat)
  /-- a word of the Polder window (R331) -/
  | window (addr : Nat)
  /-- accumulator of a load channel of the island, or, with 0, the island's copy of the module accumulator (R255) -/
  | accumulator (ls : Nat)
  /-- any other word; its owner takes the source of its data again -/
  | other
  deriving DecidableEq, Repr

/-- A mismatch the scrubber found (R34, R37): the address, whether the retry mismatched too, and what it belongs to. -/
structure Mismatch where
  addr : Nat
  err : CodeErr
  item : Damaged
  deriving DecidableEq, Repr

/-- A CAN data frame (R371, R385): identifier word with IDE at bit 31, CAN FD, bit-rate switch, data bytes. -/
structure CanFrame where
  id : Nat := 0
  fd : Bool := false
  brs : Bool := false
  data : List Byte := []
  deriving DecidableEq, Repr

/-- How a transmission attempt ended in an error frame (R365, R366): no acknowledgement, with a dominant bit seen while
the error flag was sent or without; a stuff error in arbitration, which ISO 11898-1 excepts; any other error. -/
inductive TxErr where
  | ack (dominant : Bool) | arbitrationStuff | other
  deriving DecidableEq, Repr

/-- What a levee frame carries (R457, R466, R479, R491): a lease message, a forwarded packet, the reply to one by the number
of its forward, a frame of an epoch, its commit, or anything else. -/
inductive LeveeBody where
  | lease (kind : Nat) (message : List Byte)
  | inner (forward : Nat) (bytes : List Byte)
  | reply (forward : Nat) (bytes : List Byte)
  | epochPart
  | commit (num : Nat)
  | vector (tick : Nat)
  | other (bytes : List Byte)
  deriving DecidableEq, Repr

/-- A frame of the levee link (R457): source and destination member, hops made, sequence number of the source, CRC valid. -/
structure LeveeFrame where
  src : Nat
  dest : Nat
  hops : Nat := 0
  seq : Nat
  crcOk : Bool := true
  body : LeveeBody
  deriving DecidableEq, Repr

/-- A PTP message (R344): an Announce with currentUtcOffset and the data set the best master clock algorithm of IEEE
1588-2019 compares (priority 1, class, accuracy, variance, priority 2, identity, steps removed); or what the Sync and delay
messages of a grandmaster measured: the instant of the stamp, the source time then in ns, the mean path delay in ns. -/
inductive PtpMessage where
  | announce (domain ptpTransport utc : Nat) (data : List Nat)
  | measurement (domain ptpTransport identity arrived source delay : Nat)
  deriving DecidableEq, Repr

/-- One sample of the warden's sensors (R523 Table 1, R565): TS1 to TS12 in 0.1 °C; VCTL in 10 mV; VDRV, VDRV_BULK, VLS, VFO and HOLD_CAP in
0.1 V; a mask of the logic rails outside ±5 %; the dew-point margin in 0.1 K; the peak of each accelerometer axis in 0.01 g; the logic power
in 0.1 W; of each load channel the current in mA, the voltage at its terminal in 0.1 V and its junction in 0.1 °C, and of each field output
the current and the junction. -/
structure SensorSample where
  temps : List Int
  vctl : Nat
  vdrv : Nat
  bulk : Nat
  vls : Nat
  vfo : Int
  holdCap : Nat
  rails : Nat
  dew : Int
  shock : Nat × Nat × Nat
  pLogic : Nat
  loads : List (Nat × Nat × Int)
  outputs : List (Nat × Int)
  deriving DecidableEq, Repr

end Sys2Proof
end

