-- ==== Sys2Proof/Mirror.lean ====
section
/-! DEFINITION. What the members of a pair tell each other (chapter 16): lease messages, comparison vectors, mirrored items;
with the states and records that these carry. -/

namespace Sys2Proof.Machine

/-- Door states (R46 Table 2). -/
inductive DoorState where
  | closedLocked | released | unlocking | opening | openD | closingWarning | closing | obstructed
  | locking | isolated | emergencyOpen | homing | fault
  deriving DecidableEq, Repr

/-- Step states (R46 Table 3). -/
inductive StepState where | stowed | deploying | deployed | stowing | stepFault
  deriving DecidableEq, Repr

/-- AXIS_MOVE modes (R109 Table 4). -/
inductive MoveMode where | absolute | relative | velocity
  deriving DecidableEq, Repr

/-- One entry of the move queue (R84), its fields resolved under R82, R85 and R92. -/
structure Move where
  /-- enum | 03 R109 | - | MODE -/
  mode : MoveMode
  /-- 1 | 03 R109 | - | NOTIFY -/
  notify : Bool := false
  /-- 1 | 03 R109 | - | BLEND -/
  blend : Bool := false
  /-- 16 | 03 R109 | - | MOVE_ID; 0xFFFF for a portal move -/
  id : Nat := 0xFFFF
  /-- 32 | 03 R109 | - | absolute target, or signed speed for VELOCITY -/
  target : Int
  /-- 32 | 03 R82 | - | SPEED, units/s -/
  speed : Nat
  /-- 32 | 03 R82 | - | ACCEL, units/s² -/
  accel : Nat
  /-- 32 | 03 R82 | - | DECEL, units/s² -/
  decel : Nat
  /-- 32 | 03 R82 | - | JERK, units/s³ -/
  jerk : Nat
  /-- Rat | 03 R86 | - | junction speed at which this move's end is passed, units/s, 0 when it ends at rest -/
  junction : Rat := 0
  deriving DecidableEq, Repr

/-- One bin of a force map (R190 Table 3). -/
structure Bin where
  /-- 16 s | 06 R190 | spec 0 when reset (R195) | VALUE, 0.1 N -/
  value : Int := 0
  /-- 8 | 06 R190 | spec 0 when reset (R195) | COUNT -/
  count : Nat := 0
  deriving DecidableEq, Repr

/-- A force map record (R190 Table 2), without its CRC. -/
structure MapRecord where
  /-- 16 | 06 R190 | spec 0 as delivered (R195) | FORMAT; 0: never written -/
  format : Nat := 0
  /-- 2 | 06 R190 | spec clear | OPEN learned -/
  openLearned : Bool := false
  /-- 1 | 06 R190 | spec clear | CLOSE learned -/
  closeLearned : Bool := false
  /-- 32 | 06 R190 | spec 0 as delivered | GEN, wrapping -/
  gen : Nat := 0
  /-- 16 s | 06 R190 | spec 0 | BASE_OPEN -/
  baseOpen : Int := 0
  /-- 16 s | 06 R190 | spec 0 | BASE_CLOSE -/
  baseClose : Int := 0
  /-- 32 | 06 R190 | spec 0 as delivered | CONFIG_TAG -/
  tag : Nat := 0
  /-- 256 bins | 06 R190 | spec 0 | OPEN_BINS -/
  openBins : List Bin := List.replicate 256 {}
  /-- 256 bins | 06 R190 | spec 0 | CLOSE_BINS -/
  closeBins : List Bin := List.replicate 256 {}
  /-- 1 | 06 R195 | DC1 true | its CRC passes -/
  crcOk : Bool := true
  deriving DecidableEq, Repr

/-- Pair roles (R492 Table 11). -/
inductive PairRole where | single | duty | standby | cold | unfit | lapsed | searching | solo
  deriving DecidableEq, Repr

/-- A pending profile schedule (R66). -/
structure ProfileSched where
  /-- 3 | 02 R66 | - | slot -/
  slot : Nat
  /-- 80 | 02 R66 | - | launch time: s, ns -/
  launch : Nat × Nat
  /-- 1 | 11 R355 | - | STRICT -/
  strict : Bool
  /-- 3 | 11 R354 | - | transport that carried it -/
  transport : Nat
  /-- 32 | 11 R354 | - | its SEQ -/
  seq : Nat
  /-- time | 11 R355 | - | since when it is held back, its launch time having come; in an epoch the time it has been held back -/
  heldSince : Option Nat := none
  deriving DecidableEq, Repr

/-- Mirrored items of one portal (R478 Table 5): its timers as the time they have run, so that the members' clocks do not
enter. -/
structure EpochDoor where
  /-- 4 | 16 R478 | - | door state -/
  door : DoorState := .closedLocked
  /-- 3 | 16 R478 | - | step state -/
  step : StepState := .stowed
  /-- 32 | 02 R59 | - | target of the present deployment -/
  stepAim : Option Int := none
  /-- 1 | 02 R72 | - | the step has been DEPLOYED since it was last STOWED -/
  wasDeployed : Bool := false
  /-- time | 16 R478 | - | ns since entry into the door state -/
  age : Nat := 0
  /-- time | 16 R478 | - | ns the auto-close timer has run -/
  autoAge : Option Nat := none
  /-- time | 16 R478 | - | ns since the reversal was done -/
  revAge : Option Nat := none
  /-- 1 | 16 R478 | - | REDUCED -/
  reduced : Bool := false
  /-- 1 | 16 R478 | - | OPEN_PENDING -/
  openPending : Bool := false
  /-- 8 | 16 R478 | - | re-close count -/
  recloses : Nat := 0
  /-- 32 | 16 R478 | - | DOOR_CYCLES -/
  doorCycles : Nat := 0
  /-- 32 | 16 R478 | - | STEP_CYCLES -/
  stepCycles : Nat := 0
  deriving DecidableEq, Repr

/-- Mirrored items of one SHARED axis (R478 Table 5). -/
structure EpochAxis where
  /-- 3 | 16 R478 | - | axis -/
  axis : Nat
  /-- 32 | 16 R478 | - | commanded position -/
  cmdPos : Int := 0
  /-- 32 | 16 R478 | - | commanded speed -/
  speed : Int := 0
  /-- 32 | 16 R478 | - | commanded acceleration -/
  accel : Int := 0
  /-- 10 | 16 R478 | - | electrical angle -/
  angle : Nat := 0
  /-- 16 entries | 16 R478 | - | move queue -/
  queue : List Move := []
  /-- 1 | 16 R481 | - | position valid -/
  posValid : Bool := false
  deriving DecidableEq, Repr

/-- A mirror epoch (R478, R479), or the handover state of a RELINQUISH (R476): its number and the mirrored items. -/
structure Epoch where
  /-- 32 | 16 R479 | DC1 0 | epoch number, wrapping -/
  num : Nat := 0
  /-- 4 | 16 R478 | DC1 empty | portals 1 to 4 -/
  doors : List EpochDoor := []
  /-- 8 | 16 R478 | DC1 empty | SHARED axes -/
  axes : List EpochAxis := []
  /-- 16 | 16 R478 | DC1 0 | load-channel demands -/
  lsDemand : Nat := 0
  /-- 16 | 16 R478 | DC1 0 | field-output demands -/
  foDemand : Nat := 0
  /-- 4 | 16 R478 | DC1 empty | pulse generators -/
  pg : List (Nat × Nat) := []
  /-- list | 16 R478 | DC1 empty | force map records of the portals -/
  maps : List MapRecord := []
  /-- 3 | 16 R478 | DC1 none | active slot -/
  slot : Option Nat := none
  /-- struct | 16 R478 | DC1 none | pending profile schedule -/
  schedule : Option ProfileSched := none
  /-- 1 | 02 R64 | DC1 false | a PROFILE_SELECT has been made -/
  selected : Bool := false
  /-- 2 × 2 | 16 R478 | DC1 0 | platform classes, left and right -/
  classes : Nat × Nat := (0, 0)
  /-- list | 16 R478 | DC1 empty | process-image SEQ of CANA and CANB, of the TRDP dataset and of PD_SEQ -/
  piSeq : List Nat := []
  /-- list | 16 R478 | DC1 empty | freshness values of CANA and CANB -/
  fresh : List Nat := []
  deriving DecidableEq, Repr

/-- A comparison vector (R471): the items of Table 4, channel sets as masks. -/
structure CompareVector where
  /-- 32 | 16 R471 | - | portal-tick number -/
  tick : Nat := 0
  /-- 4 | 16 R471 | DC1 empty | door and step state of each portal -/
  doors : List (DoorState × StepState) := []
  /-- list | 16 R471 | DC1 empty | SHARED axes: axis, commanded position, move target, queue length -/
  axes : List (Nat × Int × Int × Nat) := []
  /-- 16 | 16 R471 | DC1 0 | load-channel demands -/
  lsDemand : Nat := 0
  /-- 16 | 16 R471 | DC1 0 | field-output demands -/
  foDemand : Nat := 0
  /-- 16 | 16 R471 | DC1 0 | lines of the load channels read as high -/
  lines : Nat := 0
  /-- 16 | 16 R471 | DC1 0 | published states of the load channels: on -/
  published : Nat := 0
  /-- 16 | 16 R471 | DC1 0 | lines of the field outputs read as high -/
  foLines : Nat := 0
  /-- 16 | 16 R471 | DC1 0 | published states of the field outputs: on -/
  foPublished : Nat := 0
  /-- 2 × 3 | 16 R471 | DC1 empty | close_ok and release, left and right, of each safety island -/
  safety : List (Bool × Bool × Bool) := []
  deriving DecidableEq, Repr

/-- A lease message (R466 Table 3) as it is received; its TYPE is the row's. -/
structure LeaseMsg where
  /-- 8 | 16 R466 | - | ROLE -/
  role : PairRole
  /-- 5 | 16 R466 | - | FLAGS -/
  discord : Bool := false
  safe : Bool := false
  fenced : Bool := false
  fenceOk : Bool := true
  armed : Bool := true
  /-- 32 | 16 R466 | - | LEASE_NO -/
  leaseNo : Nat := 0
  /-- 16 | 16 R466 | - | LEASE_MS -/
  leaseMs : Nat := 20
  /-- 16 | 16 R466 | - | COMPAT -/
  compat : Nat := 0
  /-- 32 | 16 R466 | - | EPOCH -/
  epoch : Nat := 0
  /-- 256 | 16 R466 | - | CONFIG_DIGEST -/
  digest : Nat := 0
  /-- 80 | 16 R466 | - | TIME -/
  time : Nat × Nat := (0, 0)
  deriving DecidableEq, Repr

/-- Clock quality (R342 Table 3). -/
inductive Quality where | free | syncing | locked | holdover
  deriving DecidableEq, Repr

end Sys2Proof.Machine
end

