-- ==== Sys2Proof/Syntax.lean ====
section
/-! DEFINITION. The commands of the block: one constructor for each row of spec/opcode_table.json, in its order. The 109
packet commands carry their packet; every other row carries its instant t in ns since power was applied and what the
world brings with it. -/

namespace Sys2Proof

/-- A command of the block. -/
inductive Instr where
  /-- ARM (R579). Command that arms the module, energises axes awaiting angle validation and starts pair search. -/
  | arm (p : Packet)
  /-- DISARM (R580). Command that stops axes, opens sluices and switches channels and outputs off. -/
  | disarm (p : Packet)
  /-- MODULE_RESET (R581). Command that replies and then resets the whole module after the flush. -/
  | moduleReset (p : Packet)
  /-- ISLAND_RESTART (R581). Command that replies and then has the warden restart one island. -/
  | islandRestart (p : Packet)
  /-- RESET_STATUS (R581). Command that returns the reset cause, hold window and restart counts. -/
  | resetStatus (p : Packet)
  /-- READ_ISLAND_HEALTH (R40). Command that returns the error counts and states of all ten islands. -/
  | readIslandHealth (p : Packet)
  /-- ECHO (R332). Command that returns its payload unchanged, with no actions. -/
  | echo (p : Packet)
  /-- NOTIFY_ROUTE (R318). Command that enables or ends notification routes on network transports for the session. -/
  | notifyRoute (p : Packet)
  /-- TRANSPORT_STATUS (R627). Command that returns the state and counters of the five transports. -/
  | transportStatus (p : Packet)
  /-- PORTAL_OPEN (R52). Command that raises an open request for a portal, evaluated at the next portal tick. -/
  | portalOpen (p : Packet)
  /-- PORTAL_CLOSE (R52). Command that raises a close request for a portal, evaluated at the next portal tick. -/
  | portalClose (p : Packet)
  /-- TRAIN_OPEN (R69). Command that raises open requests on every enabled portal of the named sides at one tick. -/
  | trainOpen (p : Packet)
  /-- TRAIN_CLOSE (R69). Command that raises close requests on every enabled portal of the named sides at one tick. -/
  | trainClose (p : Packet)
  /-- SET_PLATFORM_CLASS (R70). Command that sets the platform-height class of one or both sides for later step deployments. -/
  | setPlatformClass (p : Packet)
  /-- PORTAL_CLEAR (R52). Command that takes a portal out of FAULT, EMERGENCY_OPEN or STEP_FAULT by state from the field. -/
  | portalClear (p : Packet)
  /-- PORTAL_HOME (R61). Command that starts the warning and homing of a portal in OPEN or FAULT. -/
  | portalHome (p : Packet)
  /-- PORTAL_STATUS (R68). Command that returns portal status entries. -/
  | portalStatus (p : Packet)
  /-- READ_PORTAL_CONFIG (R68). Command that returns portal configuration entries. -/
  | readPortalConfig (p : Packet)
  /-- PROFILE_SET_LOAD (R71). Segmented command that collects, verifies, checks and stores a signed profile set. -/
  | profileSetLoad (p : Packet)
  /-- PROFILE_SELECT (R66). Command that selects a profile slot at once or as the pending schedule. -/
  | profileSelect (p : Packet)
  /-- PROFILE_CANCEL (R67). Command that removes a pending profile schedule. -/
  | profileCancel (p : Packet)
  /-- PROFILE_STATUS (R68). Command that returns the active and pending slots and the set digest. -/
  | profileStatus (p : Packet)
  /-- AXIS_MOVE (R84). Command that appends or replaces moves in an axis move queue. -/
  | axisMove (p : Packet)
  /-- AXIS_STOP (R95). Command that flushes an axis queue and brings the axis to rest in DECEL or QUICK mode. -/
  | axisStop (p : Packet)
  /-- AXIS_STATUS (R109). Command that returns axis status entries. -/
  | axisStatus (p : Packet)
  /-- READ_AXIS_CONFIG (R109). Command that returns axis settings entries. -/
  | readAxisConfig (p : Packet)
  /-- AXIS_SET_POSITION (R111). Command that redefines the commanded position of an axis at rest and marks it valid. -/
  | axisSetPosition (p : Packet)
  /-- AXIS_STEP_PATH (R112). Command that places an axis on the fallback or returns it to the timer after a self-test. -/
  | axisStepPath (p : Packet)
  /-- DRIVE_STATUS (R144). Command that returns drive status entries. -/
  | driveStatus (p : Packet)
  /-- READ_DRIVE_CONFIG (R144). Command that returns drive settings entries. -/
  | readDriveConfig (p : Packet)
  /-- DRIVE_FAULT_CLEAR (R138). Command that unlatches a bridge-faulted axis when the cause conditions allow. -/
  | driveFaultClear (p : Packet)
  /-- SOLENOID_SET (R125). Command that drives or ends the solenoid current on phase B of a DC_SOLENOID axis. -/
  | solenoidSet (p : Packet)
  /-- BRIDGE_TEST (R146). Command that tests the eight bridge devices and the sluices of an axis into an internal load. -/
  | bridgeTest (p : Packet)
  /-- FEEDBACK_STATUS (R181). Command that returns feedback status entries. -/
  | feedbackStatus (p : Packet)
  /-- READ_FEEDBACK_CONFIG (R181). Command that returns feedback settings entries. -/
  | readFeedbackConfig (p : Packet)
  /-- MARK_SET (R176). Command that arms or replaces a zone mark, answering MARK_BEHIND when already passed. -/
  | markSet (p : Packet)
  /-- MARK_CLEAR (R181). Command that disarms the zone marks named in its mask. -/
  | markClear (p : Packet)
  /-- LATCH_ARM (R179). Command that arms a position latch on a field input or the Z line. -/
  | latchArm (p : Packet)
  /-- LATCH_READ (R181). Command that returns both latch entries of an axis. -/
  | latchRead (p : Packet)
  /-- OBSTACLE_STATUS (R210). Command that returns obstacle status entries. -/
  | obstacleStatus (p : Packet)
  /-- READ_OBSTACLE_CONFIG (R210). Command that returns obstacle settings entries. -/
  | readObstacleConfig (p : Packet)
  /-- FORCE_MAP_READ (R210). Command that returns the working force map record of a portal. -/
  | forceMapRead (p : Packet)
  /-- FORCE_MAP_RESET (R211). Command that resets the named force maps of a portal at rest and writes the record. -/
  | forceMapReset (p : Packet)
  /-- RING_STATUS (R237). Command that returns the ring status. -/
  | ringStatus (p : Packet)
  /-- READ_RING_CONFIG (R237). Command that returns the ring settings entry. -/
  | readRingConfig (p : Packet)
  /-- RING_TEST (R238). Command that runs a test pulse, or the proof test when a switch or test latch is held. -/
  | ringTest (p : Packet)
  /-- RING_CLEAR (R228). Command that removes the latches of both safety islands when the conditions hold. -/
  | ringClear (p : Packet)
  /-- LS_SET (R246). Command that sets the demand of one load channel on or off. -/
  | lsSet (p : Packet)
  /-- LS_SET_MULTI (R266). Command that sets the demands of several load channels together. -/
  | lsSetMulti (p : Packet)
  /-- LS_CLEAR (R254). Command that clears latch, spent and module-spent causes of load channels. -/
  | lsClear (p : Packet)
  /-- LS_STATUS (R265). Command that returns load-channel status entries. -/
  | lsStatus (p : Packet)
  /-- READ_LS_CONFIG (R265). Command that returns load-channel settings entries. -/
  | readLsConfig (p : Packet)
  /-- PG_SET (R260). Command that sets frequency and duty of a pulse generator from its next period. -/
  | pgSet (p : Packet)
  /-- PG_STATUS (R265). Command that returns the four pulse-generator settings. -/
  | pgStatus (p : Packet)
  /-- FI_STATUS (R300). Command that returns an input entry or the input image. -/
  | fiStatus (p : Packet)
  /-- FO_SET (R285). Command that sets the demand of one field output. -/
  | foSet (p : Packet)
  /-- FO_SET_MULTI (R266). Command that sets the demands of several field outputs together. -/
  | foSetMulti (p : Packet)
  /-- FO_CLEAR (R287). Command that clears the latch of field outputs below 130 degrees. -/
  | foClear (p : Packet)
  /-- FO_STATUS (R300). Command that returns field-output status entries. -/
  | foStatus (p : Packet)
  /-- LINK_STATUS (R300). Command that returns the three barrier-link lane entries. -/
  | linkStatus (p : Packet)
  /-- READ_FIELD_CONFIG (R300). Command that returns the field settings block. -/
  | readFieldConfig (p : Packet)
  /-- TIME_STATUS (R356). Command that returns module time, quality and source data. -/
  | timeStatus (p : Packet)
  /-- TIME_SET (R357). Command that applies a host time as a measurement under the step and slew rule. -/
  | timeSet (p : Packet)
  /-- READ_TIME_CONFIG (R356). Command that returns the time settings entry. -/
  | readTimeConfig (p : Packet)
  /-- SCHEDULE_CANCEL (R358). Command that removes a held scheduled packet by SEQ and transport. -/
  | scheduleCancel (p : Packet)
  /-- CAN_STATUS (R385). Command that returns a CAN controller status entry. -/
  | canStatus (p : Packet)
  /-- READ_CAN_CONFIG (R385). Command that returns a CAN controller settings entry. -/
  | readCanConfig (p : Packet)
  /-- CAN_MODE (R367). Command that orders a CAN controller mode change for the next bus idle. -/
  | canMode (p : Packet)
  /-- CAN_RX_BIND (R370). Command that binds or unbinds a CAN receive object. -/
  | canRxBind (p : Packet)
  /-- CAN_RX_READ (R372). Command that copies receive objects consistently and optionally clears NEW and LOST. -/
  | canRxRead (p : Packet)
  /-- CAN_TX (R377). Command that loads a host transmit buffer as PENDING or WAITING. -/
  | canTx (p : Packet)
  /-- CAN_TX_ABORT (R378). Command that aborts a PENDING or WAITING host transmit buffer. -/
  | canTxAbort (p : Packet)
  /-- ETH_STATUS (R401). Command that returns the Ethernet status and port entries. -/
  | ethStatus (p : Packet)
  /-- READ_ETH_CONFIG (R401). Command that returns the Ethernet settings entry. -/
  | readEthConfig (p : Packet)
  /-- ETH_RING_SET (R400). Command that defines or stops a raw-frame ring. -/
  | ethRingSet (p : Packet)
  /-- ETH_TOPO_SET (R395). Command that sets the topography counters of the process data. -/
  | ethTopoSet (p : Packet)
  /-- CV_START (R423). Command that starts a host culvert channel at a descriptor with watermarks and lap limit. -/
  | cvStart (p : Packet)
  /-- CV_STOP (R415). Command that stops a culvert channel at its next descriptor boundary. -/
  | cvStop (p : Packet)
  /-- CV_STATUS (R423). Command that returns culvert channel status and the halt record. -/
  | cvStatus (p : Packet)
  /-- CULVERT_CLEAR (R419). Command that ends a culvert halt and makes host channels IDLE. -/
  | culvertClear (p : Packet)
  /-- CV_TRACE_SET (R412). Command that enables or disables an axis trace queue and sets its divider. -/
  | cvTraceSet (p : Packet)
  /-- REC_STATUS (R453). Command that returns the recorder status. -/
  | recStatus (p : Packet)
  /-- LOG_READ (R451). Command that flushes the buffer, fixes TO_KEY and starts a log readout through CV15. -/
  | logRead (p : Packet)
  /-- LOG_READ_NEXT (R451). Command that returns a buffer half to the recorder for the next chunk. -/
  | logReadNext (p : Packet)
  /-- LOG_READ_STOP (R451). Command that ends a readout at the next chunk boundary. -/
  | logReadStop (p : Packet)
  /-- READ_REC_CONFIG (R453). Command that returns the recorder settings entry. -/
  | readRecConfig (p : Packet)
  /-- SNAPSHOT_TRIGGER (R439). Command that triggers a fault snapshot. -/
  | snapshotTrigger (p : Packet)
  /-- CLUSTER_STATUS (R492). Command that returns the pair and cluster status. -/
  | clusterStatus (p : Packet)
  /-- READ_PAIR_CONFIG (R492). Command that returns the pair settings entry. -/
  | readPairConfig (p : Packet)
  /-- DUTY_HANDOVER (R465). Command that orders a planned transfer of duty now or at the next safe moment. -/
  | dutyHandover (p : Packet)
  /-- CLUSTER_FORWARD (R491). Command that forwards an inner packet to a cluster member and returns its reply. -/
  | clusterForward (p : Packet)
  /-- DISCORD_CLEAR (R473). Command that ends DISCORD in a pair. -/
  | discordClear (p : Packet)
  /-- CLUSTER_SOLO (R470). Command that lets a FENCED searching module take duty by silence. -/
  | clusterSolo (p : Packet)
  /-- SEC_STATUS (R520). Command that returns the security status. -/
  | secStatus (p : Packet)
  /-- IDENTITY_READ (R520). Command that returns the identity public key and the signed KEM key. -/
  | identityRead (p : Packet)
  /-- SESSION_OPEN (R504). Unsecured segmented command that decapsulates a secret, signs the transcript and opens an unconfirmed session. -/
  | sessionOpen (p : Packet)
  /-- SESSION_CONFIRM (R504). Command that makes a session ACTIVE when its tag verifies and H matches. -/
  | sessionConfirm (p : Packet)
  /-- SESSION_CLOSE (R508). Command that closes the carrying session. -/
  | sessionClose (p : Packet)
  /-- ATTEST (R520). Command that returns the security state signed with the next leaf. -/
  | attest (p : Packet)
  /-- KEY_SET (R521). Command that installs, erases or revokes role, group, signing or vendor keys. -/
  | keySet (p : Packet)
  /-- LIFECYCLE_ADVANCE (R496). Command that moves the lifecycle along an allowed transition. -/
  | lifecycleAdvance (p : Packet)
  /-- KEM_ROTATE (R520). Command that makes a new KEM key pair and signed certificate. -/
  | kemRotate (p : Packet)
  /-- MGMT_HEALTH (R544). Command that returns warden sensor readings and clears the shock peaks. -/
  | mgmtHealth (p : Packet)
  /-- BANK_STATUS (R544). Command that returns the two NOR bank entries. -/
  | bankStatus (p : Packet)
  /-- IMAGE_WRITE (R532). Command that optionally erases and writes data into the inactive image region. -/
  | imageWrite (p : Packet)
  /-- IMAGE_VERIFY (R533). Command that starts the check of the inactive bank image. -/
  | imageVerify (p : Packet)
  /-- CONFIG_LOAD (R530). Segmented command that checks a signed module configuration and stores it as pending. -/
  | configLoad (p : Packet)
  /-- ACTIVATE (R535). Command that begins an activation onto a new image, a pending configuration or the other bank. -/
  | activate (p : Packet)
  /-- SUPPLY_STATUS (R565). Command that returns supply, holdup and thermal status from one warden sample. -/
  | supplyStatus (p : Packet)
  /-- CMD_FIFO_WRITE (R327). SPI write of a word into CMD_FIFO, completing packets for the interpreter or entering discard. -/
  | cmdFifoWrite (t : Nat) (w : Word)
  /-- RSP_FIFO_READ (R328). SPI read that removes a word from RSP_FIFO, or sets SPI_ERR when empty. -/
  | rspFifoRead (t : Nat)
  /-- EVT_FIFO_READ (R328). SPI read that removes a word from EVT_FIFO, or sets SPI_ERR when empty. -/
  | evtFifoRead (t : Nat)
  /-- HW_IRQ_STATUS_CLEAR (R325). Write of 1s to HW_IRQ_STATUS that clears interrupt flags, re-setting ready flags while packets remain. -/
  | hwIrqStatusClear (t : Nat) (w : Word)
  /-- CMD_ERR_FLUSH (R327). Write of 1 to CMD_ERR that flushes the incomplete packet and ends discard. -/
  | cmdErrFlush (t : Nat)
  /-- DOORBELL_ETH_TX (R399). DOORBELL write of ETH_TX that makes the transmit ring read its next descriptor again. -/
  | doorbellEthTx (t : Nat)
  /-- DOORBELL_ETH_RX (R399). DOORBELL write of ETH_RX that makes the receive ring read its next descriptor again. -/
  | doorbellEthRx (t : Nat)
  /-- DOORBELL_CV (R413). DOORBELL write of a CV bit that makes a starved culvert channel read its descriptor again. -/
  | doorbellCv (t : Nat) (cv : Nat)
  /-- WIN_DATA_READ (R331). Read of one Polder-window word at WIN_ADDR, advancing the address and flagging damaged words. -/
  | winDataRead (t : Nat) (err : CodeErr)
  /-- WIN_DATA_WRITE (R330). Write of one Polder-window word at WIN_ADDR, advancing the address. -/
  | winDataWrite (t : Nat) (w : Word)
  /-- TIME_SNAP_READ (R11). Read of TIME_SNAP_S that latches seconds, nanoseconds and quality of module time. -/
  | timeSnapRead (t : Nat)
  /-- REGISTER_WRITE (R10). Write of a host-window register without behaviour of its own, such as HW_IRQ_ENABLE, WIN_ADDR or HW_SCRATCH. -/
  | registerWrite (t : Nat) (reg : Nat) (w : Word)
  /-- SPI_TRANSACTION_ABORTED (R322). CS_N rising within a header or data word, discarding the part and setting SPI_ERR. -/
  | spiTransactionAborted (t : Nat)
  /-- CAN_TP_FRAME_RECEIVED (R381). ISO 15765-2 frame on REQ_ID received, flow-controlled and assembled into a command packet. -/
  | canTpFrameReceived (t : Nat) (ctl : Nat) (data : List Byte)
  /-- CAN_TP_N_CR_TIMEOUT (R381). TP_N_CR expires without a consecutive frame and the reception is aborted. -/
  | canTpNCrTimeout (t : Nat) (ctl : Nat)
  /-- CAN_TP_N_BS_TIMEOUT (R381). TP_N_BS expires without flow control and the transmission is aborted. -/
  | canTpNBsTimeout (t : Nat) (ctl : Nat)
  /-- UDP_DATAGRAM_RECEIVED (R319). UDP datagram to port 19788 taken whole as a command packet. -/
  | udpDatagramReceived (t : Nat) (src port ident : Nat) (data : List Byte)
  /-- UDP_REASSEMBLY_TIMEOUT (R319). A fragmented datagram not reassembled within 200 ms is dropped. -/
  | udpReassemblyTimeout (t : Nat) (src ident : Nat)
  /-- LEVEE_FRAME_RECEIVED (R457). Levee frame received, passed on, deduplicated or delivered, including forwarded packets. -/
  | leveeFrameReceived (t : Nat) (link : Nat) (f : LeveeFrame)
  /-- DISPATCH_ROOM_TIMEOUT (R25). 5 ms pass without channel room and the held packet is answered QUEUE_FULL. -/
  | dispatchRoomTimeout (t : Nat)
  /-- ACTION_ACKNOWLEDGED (R21). An island acknowledges an action; after the last one the reply is sent and a waiting BARRIER packet may proceed. -/
  | actionAcknowledged (t : Nat) (chan : Channel) (errs : Nat)
  /-- ACTION_ACK_TIMEOUT (R27). An action unacknowledged for 10 ms, or 100 ms for RING_TEST, fails with ISLAND_NO_ACK. -/
  | actionAckTimeout (t : Nat) (chan : Channel)
  /-- SEGMENT_TIMEOUT (R310). No segment for 2 s discards an open segmented collection. -/
  | segmentTimeout (t : Nat) (transport : Transport)
  /-- SCRUB_PASS (R37). The scrubber of an island reads each word over every 2 s and applies the retry rule. -/
  | scrubPass (t : Nat) (island : Nat) (found : List Mismatch)
  /-- MEM_TRANSIENT_REPORT (R38). Once-per-second logging of the transient error count of an island. -/
  | memTransientReport (t : Nat) (island : Nat)
  /-- WATCHDOG_EXPIRY (R570). An island watchdog expires and the warden restarts that island. -/
  | watchdogExpiry (t : Nat) (island : Nat)
  /-- ISLAND_RESTART_DONE (R570). A restarting island is running again and rebuilds what its restart lost. -/
  | islandRestartDone (t : Nat) (island : Nat) (started : Bool) (damage : List Nat)
  /-- AUTO_REARM (R572). After a disarming restart not ordered by command, the module arms itself once every island runs. -/
  | autoRearm (t : Nat)
  /-- HOLD_WINDOW_END (R576). HOLD_MS after a restart, held load channels not taken over switch off and HOLD_ENDED is logged. -/
  | holdWindowEnd (t : Nat)
  /-- PORTAL_TICK (R49). 1 ms tick evaluating egress, isolation, faults, contacts, obstacles, release, requests and motion completion per portal. -/
  | portalTick (t : Nat)
  /-- PROFILE_SCHEDULE_LAUNCH (R66). The launch time of the pending profile schedule arrives and the change is applied or held back. -/
  | profileScheduleLaunch (t : Nat)
  /-- CONTACT_DISAGREE_TIMEOUT (R52). Contacts A and B disagree for 100 ms and the portal enters FAULT. -/
  | contactDisagreeTimeout (t : Nat) (portal : Nat)
  /-- UNLOCK_TIMEOUT (R52). UNLOCK_TIMEOUT expires in UNLOCKING, leading to RELEASED or FAULT. -/
  | unlockTimeout (t : Nat) (portal : Nat)
  /-- UNLOCK_PULSE_END (R55). UNLOCK_PULSE after entry into UNLOCKING the PULSE-mode lock channel switches off. -/
  | unlockPulseEnd (t : Nat) (portal : Nat)
  /-- LOCK_TIMEOUT (R52). LOCK_TIMEOUT expires in LOCKING, leading to OBSTRUCTED or FAULT. -/
  | lockTimeout (t : Nat) (portal : Nat)
  /-- MOVE_TIMEOUT (R52). MOVE_TIMEOUT expires in OPENING or CLOSING and the portal enters FAULT. -/
  | moveTimeout (t : Nat) (portal : Nat)
  /-- AUTO_CLOSE_EXPIRY (R52). The auto-close timer expires in OPEN and the closing warning starts. -/
  | autoCloseExpiry (t : Nat) (portal : Nat)
  /-- WARN_TIME_ELAPSED (R52). WARN_TIME elapses in CLOSING_WARNING and the close move starts. -/
  | warnTimeElapsed (t : Nat) (portal : Nat)
  /-- WARNING_PATTERN_TOGGLE (R54). BUZ_ON, BUZ_OFF, LAMP_ON or LAMP_OFF ends and the warning output toggles. -/
  | warningPatternToggle (t : Nat) (portal : Nat) (lamp : Bool)
  /-- RECLOSE_DELAY_ELAPSED (R52). RECLOSE_DELAY elapses after a reversal and a re-close or final action follows. -/
  | recloseDelayElapsed (t : Nat) (portal : Nat)
  /-- STEP_TIMEOUT (R59). STEP_TIMEOUT expires in DEPLOYING or STOWING and the step enters STEP_FAULT. -/
  | stepTimeout (t : Nat) (portal : Nat)
  /-- STEP_RESTOW_WAIT (R59). The 1 s wait after a step obstacle ends and the stow move restarts. -/
  | stepRestowWait (t : Nat) (portal : Nat)
  /-- HOME_TIMEOUT (R61). HOME_TIMEOUT expires in HOMING and the portal enters FAULT. -/
  | homeTimeout (t : Nat) (portal : Nat)
  /-- STEP_TIMER_EXPIRY (R98). The step timer ends an interval, issues a step and takes the next buffered interval. -/
  | stepTimerExpiry (t : Nat) (axis : Nat) (fed counted : Bool)
  /-- FALLBACK_INCREMENT_LOAD (R101). Every 20 us the engine loads the multiplier increment that keeps the issued position on plan. -/
  | fallbackIncrementLoad (t : Nat) (axis : Nat) (counted : Bool)
  /-- STEP_TIMER_RESTORE (R102). An axis at rest on the fallback runs the self-test and returns to the timer path. -/
  | stepTimerRestore (t : Nat) (axis : Nat) (passed : Bool)
  /-- CURRENT_LOOP_UPDATE (R124). Every 20 us update of phase setpoints, position loop, amplitude servo and chopper windows. -/
  | currentLoopUpdate (t : Nat) (axis : Nat) (ia ib temp : Int) (chopA chopB : Nat)
  /-- STALL_WINDOW_EXCEEDED (R139). The position difference stays beyond the stall or warn window for STALL_FILTER samples. -/
  | stallWindowExceeded (t : Nat) (axis : Nat)
  /-- HOLD_DELAY_EXPIRY (R130). HOLD_DELAY at rest elapses and the current ramps to standstill. -/
  | holdDelayExpiry (t : Nat) (axis : Nat)
  /-- SOLENOID_PULL_END (R125). PULL_MS ends and the solenoid current falls to HOLD_MA. -/
  | solenoidPullEnd (t : Nat) (axis : Nat)
  /-- BRIDGE_OVERCURRENT_TRIP (R136). A bridge device trips and the axis switches off and latches with a classified cause. -/
  | bridgeOvercurrentTrip (t : Nat) (axis tripped : Nat) (deadTime : Bool) (ia ib : Int)
  /-- BRIDGE_OVERTEMP (R137). A device junction reaches 175 degrees and the axis latches. -/
  | bridgeOvertemp (t : Nat) (axis : Nat)
  /-- OPEN_PHASE_DETECTED (R137). Phase current stays below a quarter of the setpoint for 2 ms and the axis latches. -/
  | openPhaseDetected (t : Nat) (axis : Nat) (follows : Bool)
  /-- GATE_SUPPLY_FAULT (R137). The gate supply stays below 9.0 V for 10 us with VDRV present and the axis latches. -/
  | gateSupplyFault (t : Nat) (axis : Nat)
  /-- GATE_SUPPLY_RECOVERED (R137). The gate supply has stayed above 10.0 V for 1 ms. -/
  | gateSupplyRecovered (t : Nat) (axis : Nat)
  /-- SLUICE_CHECK (R121). Every 10 ms comparison of bridge and motor sides of open sluices, latching a stuck-closed sluice. -/
  | sluiceCheck (t : Nat) (axis follow : Nat)
  /-- SLUICE_CLOSED_READBACK (R120). A sluice reads back closed and the bridge is enabled. -/
  | sluiceClosedReadback (t : Nat) (axis : Nat)
  /-- ANGLE_VALIDATION_DONE (R134). The 30 ms angle validation ends with the position validated or rejected. -/
  | angleValidationDone (t : Nat) (axis : Nat)
  /-- REGEN_LIMIT_ENTER (R143). VDRV_BULK exceeds 160 V and choppers use slow decay only. -/
  | regenLimitEnter (t : Nat) (bulk clamp : Nat)
  /-- REGEN_LIMIT_END (R143). VDRV_BULK falls below 150 V and the regeneration limit ends. -/
  | regenLimitEnd (t : Nat) (bulk : Nat)
  /-- REGEN_BRAKE (R143). The clamp accumulator reaches 5 J and every axis is braked and moving axes latched. -/
  | regenBrake (t : Nat) (bulk clamp : Nat)
  /-- STANDBY_BRIDGE_TEST (R482). A standby runs BRIDGE_TEST on a SHARED axis every TEST_MIN. -/
  | standbyBridgeTest (t : Nat) (axis : Nat) (currents : List Nat) (follow : Nat)
  /-- ENCODER_EDGE (R157). An encoder or tooth edge is accepted after MIN_EDGE and changes the count. -/
  | encoderEdge (t : Nat) (axis line : Nat) (levelA levelB : Bool) (at_ : Nat) (levelZ : Bool)
  /-- EDGE_FAULTS_REPORT (R159). Once-per-second logging of the edge faults of an input. -/
  | edgeFaultsReport (t : Nat) (axis : Nat)
  /-- ENC_SUPPLY_OVERLOAD (R151). An encoder supply output is overloaded and switches off. -/
  | encSupplyOverload (t : Nat) (axis current : Nat)
  /-- ENC_SUPPLY_RETRY (R151). Once per second an overloaded encoder supply retries. -/
  | encSupplyRetry (t : Nat) (axis : Nat)
  /-- ENC_SIGNAL_LOSS (R160). An RS422 input stays in the undefined band or without supply for 1 us and counting stops. -/
  | encSignalLoss (t : Nat) (axis : Nat) (supply : Bool)
  /-- ENC_SIGNAL_RESTORED (R160). The signal has been good for 10 ms and signal loss ends. -/
  | encSignalRestored (t : Nat) (axis : Nat)
  /-- TERM_PARTNER_TIMEOUT (R152). No lease message from the partner for 25 ms connects a PAIR_AUTO termination on an odd module. -/
  | termPartnerTimeout (t : Nat) (axis : Nat)
  /-- TERM_PARTNER_RETURN (R152). 25 ms after lease messages return the PAIR_AUTO termination disconnects again. -/
  | termPartnerReturn (t : Nat) (axis : Nat)
  /-- OBSERVER_UPDATE (R167). Every 20 us tracking observer update and speed blending of an axis with feedback. -/
  | observerUpdate (t : Nat) (axis : Nat)
  /-- SPEED_STILL_TIMEOUT (R169). T_STILL without a counting edge sets speed status STILL and resets the observer. -/
  | speedStillTimeout (t : Nat) (axis : Nat)
  /-- SSP_READING (R170). A serial sensor frame is read each SSP_CYCLE and judged good or bad. -/
  | sspReading (t : Nat) (axis : Nat) (started : Bool) (frame copy : Nat)
  /-- FORCE_ESTIMATE_UPDATE (R189). Every 20 us the resisting force is formed and compared with its limit. -/
  | forceEstimateUpdate (t : Nat) (portal : Nat)
  /-- OBST_TIME_ELAPSED (R198). The force has stayed above its limit for OBST_TIME and an obstacle is declared. -/
  | obstTimeElapsed (t : Nat) (portal : Nat) (step : Bool)
  /-- KE_EXCEEDED (R202). Kinetic energy above 1.25 times KE_LIMIT for 10 ms is logged. -/
  | keExceeded (t : Nat) (portal : Nat)
  /-- EDGE_FAULT_TIMEOUT (R207). A supervised edge in a fault state for 100 ms becomes degraded. -/
  | edgeFaultTimeout (t : Nat) (portal : Nat)
  /-- EDGE_DEGRADE_END (R207). An edge NORMAL for 1 s outside CLOSING stops being degraded. -/
  | edgeDegradeEnd (t : Nat) (portal : Nat)
  /-- SAFETY_EVALUATION (R221). Every 500 us a safety island evaluates confirmation, close_ok and release and drives its switch. -/
  | safetyEvaluation (t : Nat) (sw : Nat)
  /-- CLOSE_CONFIRM_ELAPSED (R222). close_ok held for CLOSE_CONFIRM starts the island's carrier. -/
  | closeConfirmElapsed (t : Nat) (sw : Nat)
  /-- RELEASE_CONFIRM_ELAPSED (R223). A side held for RELEASE_CONFIRM is reported as granted. -/
  | releaseConfirmElapsed (t : Nat) (sw : Nat) (right : Bool)
  /-- COMPARISON_WORD_RECEIVED (R224). A comparison word from the other safety island is received and compared. -/
  | comparisonWordReceived (t : Nat) (sw : Nat) (err : CodeErr)
  /-- DISCREPANCY_LATCH (R225). A difference lasting longer than DISC_TIME makes both islands take the DISCREPANCY latch. -/
  | discrepancyLatch (t : Nat) (sw kind index : Nat)
  /-- COMPARE_LOST (R227). No valid comparison word for two evaluations opens the switch and withdraws release. -/
  | compareLost (t : Nat) (sw : Nat)
  /-- COMPARE_RESUMED (R227). Ten consecutive comparison words let closing resume. -/
  | compareResumed (t : Nat) (sw : Nat)
  /-- POSITION_WORD_RECEIVED (R217). A motion island position word with AT_CLOSED reaches a safety island. -/
  | positionWordReceived (t : Nat) (sw portal : Nat) (err : CodeErr)
  /-- POSITION_WORD_STALE (R217). A position word older than 1 ms makes the portal count as not at the closed end. -/
  | positionWordStale (t : Nat) (sw portal : Nat)
  /-- RING_READBACK_FAULT (R230). A read-back observation held for 5 ms reports a failed switch and latches where given. -/
  | ringReadbackFault (t : Nat) (obs : Nat)
  /-- RING_TEST_PULSE_DUE (R231). A periodic test of a ring switch falls due and runs when its conditions hold. -/
  | ringTestPulseDue (t : Nat) (sw : Nat)
  /-- RING_TEST_PULSE_JUDGED (R232). 60 us after the quench the test pulse is judged and the carrier resumes. -/
  | ringTestPulseJudged (t : Nat) (sw current vA vB : Nat)
  /-- RING_TEST_OVERDUE (R231). 24 h without a passed test of a switch logs RING_TEST_OVERDUE. -/
  | ringTestOverdue (t : Nat) (sw : Nat)
  /-- LS_CURRENT_LIMIT (R248). A load channel reaches I_LIMIT and reports LIMITING. -/
  | lsCurrentLimit (t : Nat) (ls current : Nat)
  /-- LS_THERMAL_SHUTDOWN (R248). A load channel junction reaches shutdown level and turns off or latches. -/
  | lsThermalShutdown (t : Nat) (ls : Nat) (temp : Int)
  /-- LS_COOLED (R248). A channel cooled by 20 K switches on again using one retry. -/
  | lsCooled (t : Nat) (ls : Nat)
  /-- LS_RETRY_RESET (R249). 60 s on without shutdown returns the retry count to 0. -/
  | lsRetryReset (t : Nat) (ls : Nat)
  /-- PG_PERIOD_EDGE (R260). A pulse generator reaches a channel's on or off phase and the channel switches. -/
  | pgPeriodEdge (t : Nat) (copy pg : Nat) (start : Bool) (rise fall : Nat)
  /-- LSPWM_EDGE (R260). An LSPWM pin changes level and its PIN-mode channels follow. -/
  | lspwmEdge (t : Nat) (pin : Nat) (level : Bool)
  /-- LS_OPEN_LOAD_TIMEOUT (R257). On-state current below OL_THRESH for 50 ms sets, or above clears, the open-load flag. -/
  | lsOpenLoadTimeout (t : Nat) (ls current : Nat)
  /-- LS_OFF_DIAG_JUDGED (R258). An off channel's terminal voltage held 10 ms is judged high, open or loaded. -/
  | lsOffDiagJudged (t : Nat) (ls volt : Nat)
  /-- VLS_LEVEL_CHANGE (R263). VLS crosses VLS_LOW, VLS_CUT or recovery and channels are cut or restored. -/
  | vlsLevelChange (t : Nat) (vls : Nat)
  /-- VLS_RESTART_STEP (R263). Every 200 us the next cut channel with demand on switches on again. -/
  | vlsRestartStep (t : Nat)
  /-- FIELD_INPUT_EDGE (R276). A raw input level held for FILTER becomes the filtered level and is stamped as an edge. -/
  | fieldInputEdge (t : Nat) (fi : Nat) (sample2 : Bool) (volt : Int) (since : Nat)
  /-- FI_REVERSED_TIMEOUT (R274). An input below -5 V for 100 ms sets, or above -2 V clears, REVERSED. -/
  | fiReversedTimeout (t : Nat) (fi : Nat) (volt : Int)
  /-- SAMPLE_DISAGREE_TIMEOUT (R280). Two samples of a safety-class input differing for 10 ms set DISAGREE. -/
  | sampleDisagreeTimeout (t : Nat) (fi : Nat)
  /-- SUPERVISED_MEASURE (R281). Every 100 us a supervised input loop resistance is measured and banded. -/
  | supervisedMeasure (t : Nat) (fi ohms : Nat)
  /-- SUP_FAULT_TIMEOUT (R282). A supervised input in a fault state for 100 ms logs SUP_FAULT. -/
  | supFaultTimeout (t : Nat) (fi : Nat)
  /-- BARRIER_FRAME_RECEIVED (R294). A barrier-link lane frame is received, validated and its content applied. -/
  | barrierFrameReceived (t : Nat) (lane : Nat) (fore : Bool) (seq : Option Nat) (crcOk : Bool) (loopMa vA vB : Nat)
  /-- BARRIER_LANE_LOST (R295). Three consecutive lost frames make a lane lost with its side's reaction. -/
  | barrierLaneLost (t : Nat) (lane : Nat) (fore : Bool)
  /-- BARRIER_LANE_RESTORED (R296). Ten consecutive valid frames restore a lost lane. -/
  | barrierLaneRestored (t : Nat) (lane : Nat) (fore : Bool)
  /-- FO_RESTART_STEP (R296). Every 100 us the next field output with demand on switches on again after recovery. -/
  | foRestartStep (t : Nat)
  /-- FO_OVERLOAD_TIMEOUT (R286). A field output held in its limit for 10 ms turns off into OVERLOAD_OFF. -/
  | foOverloadTimeout (t : Nat) (fo current : Nat)
  /-- FO_THERMAL_SHUTDOWN (R286). A field output junction reaches shutdown level and turns off or latches. -/
  | foThermalShutdown (t : Nat) (fo : Nat) (temp : Int)
  /-- FO_OVERLOAD_RETRY (R287). 1 s after an overload the output switches on again using one retry. -/
  | foOverloadRetry (t : Nat) (fo : Nat)
  /-- FO_COOLED (R287). A thermally shut output cooled by 20 K switches on again using one retry. -/
  | foCooled (t : Nat) (fo : Nat)
  /-- FO_OPEN_WIRE_TIMEOUT (R288). On-state current below OW_THRESH for 50 ms sets the open-wire flag. -/
  | foOpenWireTimeout (t : Nat) (fo current : Nat)
  /-- FO_OFF_DIAG_JUDGED (R288). An off output's terminal voltage held 10 ms is judged high, open or loaded. -/
  | foOffDiagJudged (t : Nat) (fo volt : Nat)
  /-- VFO_LEVEL_CHANGE (R292). VFO crosses VFO_LOW, VFO_CUT or recovery and outputs are cut or restored. -/
  | vfoLevelChange (t : Nat) (vfo : Int)
  /-- PTP_MESSAGE_RECEIVED (R344). A PTP message is received and a measurement disciplines module time. -/
  | ptpMessageReceived (t : Nat) (msg : PtpMessage)
  /-- PTP_SOURCE_LOST (R341). SYNC_TIMEOUT without a usable measurement loses the source. -/
  | ptpSourceLost (t : Nat)
  /-- HOLDOVER_EXPIRY (R342). HOLDOVER_MAX passes in HOLDOVER and quality falls to FREE. -/
  | holdoverExpiry (t : Nat)
  /-- PPS_IN_EDGE (R349). A PPS_IN edge is stamped and used as a measurement in source PPS. -/
  | ppsInEdge (t : Nat) (edge : Nat) (falling : Bool)
  /-- PPS_OUT_PULSE (R348). At each whole second PPS_OUT rises when driven. -/
  | ppsOutPulse (t : Nat)
  /-- PPS_OUT_FALL (R348). PPS_WIDTH after the whole second PPS_OUT falls. -/
  | ppsOutFall (t : Nat)
  /-- COMPARE_TARGET_ARM (R350). A held target coming within 1 s of module time is armed in a compare unit. -/
  | compareTargetArm (t : Nat) (unit : Nat)
  /-- COMPARE_UNIT_FIRE (R350). A compare unit reaches its target and fires. -/
  | compareUnitFire (t : Nat) (unit : Nat)
  /-- REF_25M_LOST (R616). The reference stops or leaves 200 ppm and the network island changes to its own oscillator. -/
  | ref25mLost (t : Nat)
  /-- REF_25M_RESTORED (R616). The reference has been within 50 ppm for 1 s and is used again. -/
  | ref25mRestored (t : Nat)
  /-- CAN_FRAME_RECEIVED (R371). A valid CAN frame is received and stored in its bound object after dedup and tag checks. -/
  | canFrameReceived (t : Nat) (ctl sof : Nat) (f : CanFrame)
  /-- CAN_RATE_DWELL_END (R368). RATE_DWELL ends and the next candidate is tried. -/
  | canRateDwellEnd (t : Nat) (ctl : Nat)
  /-- CAN_TX_SUCCESS (R377). A buffer's frame is transmitted and acknowledged and the buffer becomes DONE. -/
  | canTxSuccess (t : Nat) (ctl buf sof : Nat)
  /-- CAN_TX_ERROR_FRAME (R377). A transmission attempt ends in an error frame, counting a retry and updating TEC. -/
  | canTxErrorFrame (t : Nat) (ctl buf : Nat) (err : TxErr)
  /-- CAN_BUS_OFF_RECOVERED (R365). 128 occurrences of 11 recessive bits return a bus-off controller to error-active. -/
  | canBusOffRecovered (t : Nat) (ctl : Nat)
  /-- CAN_MODE_APPLY (R367). An ordered CAN mode change takes effect at bus idle. -/
  | canModeApply (t : Nat) (ctl : Nat)
  /-- CAN_BUS_INTEGRATED (R364). After a network restart the controllers return to START_MODE after bus integration. -/
  | canBusIntegrated (t : Nat) (ctl : Nat)
  /-- CAN_TXD_TIMEOUT (R362). TXD dominant beyond 2.5 ms releases the bus and logs a bus fault. -/
  | canTxdTimeout (t : Nat) (ctl : Nat)
  /-- CAN_BUS_DOMINANT (R362). The bus reads dominant beyond 2.5 ms without transmission and a bus fault is logged. -/
  | canBusDominant (t : Nat) (ctl : Nat)
  /-- CAN_PI_PERIOD (R383). Each PI_PERIOD the door process image frame is formed and queued. -/
  | canPiPeriod (t : Nat) (ctl : Nat)
  /-- ETH_LINK_CHANGE (R387). An Ethernet port link goes up or down. -/
  | ethLinkChange (t : Nat) (eport : Nat) (up : Bool) (speed flags : Nat)
  /-- ETH_FRAME_RECEIVED (R390). A frame received on a switch port is filtered, learned, forwarded or consumed. -/
  | ethFrameReceived (t : Nat) (eport sof residence : Nat) (good : Bool) (frame : List Byte)
  /-- ETH_ADDRESS_AGED (R390). A learned address is aged out after AGE_TIME. -/
  | ethAddressAged (t : Nat) (vid mac : Nat)
  /-- ETH_TX_COMPLETE (R398). A transmit descriptor's frame has left and the descriptor is written back. -/
  | ethTxComplete (t : Nat) (sof : Nat)
  /-- TRDP_PD_PERIOD (R395). Each PD_PERIOD the door process image is published as TRDP process data. -/
  | trdpPdPeriod (t : Nat) (left : Bool)
  /-- CV_DESCRIPTOR_START (R407). A culvert channel reads and checks its next descriptor. -/
  | cvDescriptorStart (t : Nat) (cv : Nat)
  /-- CV_BURST (R405). A ready culvert channel moves one 64-byte burst. -/
  | cvBurst (t : Nat) (cv : Nat)
  /-- CV_PACE_READY (R410). A paced channel's queue reaches its watermark and bursts start. -/
  | cvPaceReady (t : Nat) (cv : Nat)
  /-- CV_DESCRIPTOR_COMPLETE (R408). A descriptor's writes are acknowledged, it is written back and NEXT is followed. -/
  | cvDescriptorComplete (t : Nat) (cv : Nat)
  /-- CV_ACCESS_TIMEOUT (R403). An access without response for 256 cycles ends in a bus error. -/
  | cvAccessTimeout (t : Nat) (cv : Nat) (wbFail : Option Nat)
  /-- CV_BUS_ERROR (R416). A bus error halts the whole culvert engine. -/
  | cvBusError (t : Nat) (cv addr : Nat) (wbFail : Option Nat)
  /-- CV_RECORDER_RESUME (R419). 1 ms after a halt the recorder resumes CV14 and CV15. -/
  | cvRecorderResume (t : Nat)
  /-- TRACE_SAMPLE (R412). Every DIV times 20 us a trace sample is queued for an axis. -/
  | traceSample (t : Nat) (axis : Nat)
  /-- RECORD_TAKE_IN (R425). The recorder takes a record in and gives it the next key. -/
  | recordTakeIn (t : Nat)
  /-- RECORD_FLUSH_TIMER (R440). 1 s after its first record a buffer half is flushed to NAND. -/
  | recordFlushTimer (t : Nat)
  /-- NAND_FLUSH_DONE (R440). A buffer half flush to NAND completes and SEQ is saved. -/
  | nandFlushDone (t : Nat)
  /-- NAND_BLOCK_FAILURE (R430). A NAND program or erase failure retires the block. -/
  | nandBlockFailure (t : Nat) (region block cause : Nat)
  /-- OP_TIME_SAVE (R426). Every 100 ms operating time is written to the persistent-state area. -/
  | opTimeSave (t : Nat)
  /-- TRACE_SPACING_SAMPLE (R437). Every TRACE_SPACING a door trace sample is taken for a traced portal. -/
  | traceSpacingSample (t : Nat) (portal : Nat)
  /-- SNAPSHOT_SAMPLE (R439). Every 1 ms each axis delivers a sample to the snapshot history. -/
  | snapshotSample (t : Nat)
  /-- SNAPSHOT_COLLECT_DONE (R439). A snapshot's later samples are collected and it is written with its header. -/
  | snapshotCollectDone (t : Nat)
  /-- LOG_CHUNK_DONE (R451). CV15 completes a readout chunk into a buffer half. -/
  | logChunkDone (t : Nat)
  /-- LOG_READ_TIMEOUT (R451). 60 s after the last LOG_READ_NEXT the readout ends. -/
  | logReadTimeout (t : Nat)
  /-- POWER_FAIL_FLUSH_DONE (R446). The power-fail flush completes and the module is held in reset. -/
  | powerFailFlushDone (t : Nat) (stages : Nat)
  /-- LEASE_RENEW_SEND (R462). The duty unit sends RENEW every 5 ms or LEASE_MS/4. -/
  | leaseRenewSend (t : Nat)
  /-- LEASE_RENEW_RECEIVED (R464). A RENEW is received, acknowledged and the lease view updated. -/
  | leaseRenewReceived (t : Nat) (msg : Machine.LeaseMsg)
  /-- LEASE_ACK_RECEIVED (R463). An ACK extends the holder's lease end. -/
  | leaseAckReceived (t : Nat) (msg : Machine.LeaseMsg)
  /-- HELLO_SEND (R470). A SEARCHING module sends HELLO every 5 ms. -/
  | helloSend (t : Nat)
  /-- HELLO_RECEIVED (R470). A HELLO from a partner is judged for claim or acknowledgement. -/
  | helloReceived (t : Nat) (msg : Machine.LeaseMsg)
  /-- CLAIM_RECEIVED (R470). A CLAIM from the preferred unit is acknowledged and the receiver becomes UNFIT. -/
  | claimReceived (t : Nat) (msg : Machine.LeaseMsg)
  /-- RELINQUISH_RECEIVED (R465). A RELINQUISH with handover state makes the partner take duty at once. -/
  | relinquishReceived (t : Nat) (msg : Machine.LeaseMsg) (cause : Nat) (st : Machine.Epoch)
  /-- LEAVE_RECEIVED (R469). A LEAVE from the partner makes a holder continue as SOLO. -/
  | leaveReceived (t : Nat) (msg : Machine.LeaseMsg)
  /-- LEASE_LAPSE (R463). At lease end minus 2 ms the holder stops exclusive outputs and becomes LAPSED. -/
  | leaseLapse (t : Nat)
  /-- FENCE_SOLO_DELAY (R467). 1 ms after asserting the fence a lapsed holder acts again as SOLO. -/
  | fenceSoloDelay (t : Nat)
  /-- LEASE_EXPIRY_TAKEOVER (R468). The partner's lease view plus 2 ms passes and it fences and takes duty. -/
  | leaseExpiryTakeover (t : Nat)
  /-- SEARCH_SILENCE_TIMEOUT (R470). 100 or 200 ms of silence while SEARCHING lets the module take duty as SOLO. -/
  | searchSilenceTimeout (t : Nat)
  /-- FENCE_INPUT_ASSERTED (R458). A partner fence input asserted for 50 us holds the module in reset. -/
  | fenceInputAsserted (t : Nat) (link : Nat)
  /-- FENCE_INPUT_RELEASED (R458). 10 ms after the fence input releases the fenced module leaves reset. -/
  | fenceInputReleased (t : Nat) (link straps : Nat) (damage : List Nat)
  /-- FENCE_OUTPUT_END (R458). An asserted fence returns to idle after 100 ms. -/
  | fenceOutputEnd (t : Nat) (link : Nat)
  /-- COMPARISON_VECTOR_RECEIVED (R471). Each 1 ms comparison vector of the partner is compared with the own vector. -/
  | comparisonVectorReceived (t : Nat) (v : Machine.CompareVector) (partnerDisagrees testFailed : Bool)
  /-- DISCORD_TIMEOUT (R473). 10 s without a mismatch ends DISCORD. -/
  | discordTimeout (t : Nat)
  /-- MIRROR_EPOCH_CLOSE (R479). The duty unit closes a changed or full mirror epoch with EPOCH_COMMIT. -/
  | mirrorEpochClose (t : Nat) (wanted : Bool)
  /-- EPOCH_COMMIT_RECEIVED (R479). The standby validates an epoch commit and makes its buffer current. -/
  | epochCommitReceived (t : Nat) (e : Machine.Epoch) (full crcOk : Bool)
  /-- EPOCH_COMMIT_TIMEOUT (R479). No valid commit within 2 ms discards the partial epoch and requests a full one. -/
  | epochCommitTimeout (t : Nat)
  /-- STANDBY_FIT (R480). After a full epoch and 10 s of matching comparisons an UNFIT module becomes STANDBY. -/
  | standbyFit (t : Nat)
  /-- PLANNED_TRANSFER (R465). At a safe moment the holder stops and relinquishes duty to the partner. -/
  | plannedTransfer (t : Nat) (asked : Bool)
  /-- ROTATE_DUE (R484). ROTATE_H since the last change of duty makes the pair rotate at the next safe moment. -/
  | rotateDue (t : Nat)
  /-- REVERT_DUE (R485). T_REVERT as STANDBY lets the preferred unit take duty back. -/
  | revertDue (t : Nat)
  /-- TRANSFER_CHECK_DONE (R484). The 5 ms drive after a planned transfer ends, handing duty back on a fault. -/
  | transferCheckDone (t : Nat)
  /-- DISCORDANT_END (R486). Digests and classes matching for 1 s end DISCORDANT. -/
  | discordantEnd (t : Nat)
  /-- LEVEE_PORT_CHANGE (R457). A levee port goes UP after 100 us of idle symbols or DOWN on loss or CRC failures. -/
  | leveePortChange (t : Nat) (link : Nat) (up : Bool)
  /-- LEVEE_DELAY_MEASURE (R459). Every 1 ms link delay is measured and cluster time disciplined. -/
  | leveeDelayMeasure (t : Nat) (link delay : Nat) (root : Bool) (offset : Int) (q : Machine.Quality)
  /-- FORWARD_TIMEOUT (R491). No forwarded reply within 50 ms answers MEMBER_UNREACHABLE. -/
  | forwardTimeout (t : Nat) (forward : Nat)
  /-- TAMPER_TRIP (R518). A tamper sensor trips and every session is erased and closed. -/
  | tamperTrip (t : Nat) (sensor : Nat)
  /-- TAMPER_CLEARED (R518). 10 s after all sensors clear, sessions can open again. -/
  | tamperCleared (t : Nat) (since : Nat)
  /-- SESSION_CONFIRM_TIMEOUT (R504). A session not confirmed within 5 s is discarded. -/
  | sessionConfirmTimeout (t : Nat) (num : Nat)
  /-- SESSION_EXPIRY (R508). A session's granted lifetime ends and it closes. -/
  | sessionExpiry (t : Nat) (num : Nat)
  /-- SUBTREE_BUILD_DONE (R501). A background bottom-subtree cache build completes. -/
  | subtreeBuildDone (t : Nat)
  /-- FRESHNESS_LOW (R516). The transmit freshness counter reaches 0xC000_0000, or 24 h pass again, and it is logged. -/
  | freshnessLow (t : Nat) (ctl : Nat)
  /-- WARDEN_SENSOR_SAMPLE (R523). Every 10 ms the warden samples its sensors and logs warnings and shocks. -/
  | wardenSensorSample (t : Nat) (x : SensorSample)
  /-- CONDENSATION_CHANGE (R524). The dew margin below 2.0 K or above 4.0 K for 60 s sets or clears CONDENSATION. -/
  | condensationChange (t : Nat)
  /-- RAIL_FAULT_DETECTED (R526). A logic rail outside 5 % for 1 ms is a rail fault. -/
  | railFaultDetected (t : Nat) (rail mv : Nat) (owner : Option Nat)
  /-- IMAGE_ERASE_DONE (R532). The image-region erase completes. -/
  | imageEraseDone (t : Nat) (failed : Bool)
  /-- IMAGE_VERIFY_DONE (R533). The image check ends and the bank becomes VERIFIED or REFUSED. -/
  | imageVerifyDone (t : Nat)
  /-- ACTIVATION_CHECK_DONE (R536). The recheck of TO_BANK passes and the COMMITTED record is written and FW_SVN raised. -/
  | activationCheckDone (t : Nat) (norFault : Bool)
  /-- ACTIVATION_ISLAND_DONE (R536). An island restarted from TO_BANK runs and the next one in order restarts, ending with END. -/
  | activationIslandDone (t : Nat) (started norFault : Bool) (damage : List Nat)
  /-- VCTL_POWER_FAIL (R553). VCTL below 4.2 V for 20 us logs power fail, hands duty over, disarms and starts the flush. -/
  | vctlPowerFail (t : Nat)
  /-- HOLDUP_STATE_CHANGE (R550). The usable holdup energy crosses 0.30 J and the holdup state changes. -/
  | holdupStateChange (t : Nat) (holdCap : Nat)
  /-- HOLDUP_READY_TIMEOUT (R550). READY not reached 2 s after power-on makes the holdup LOW. -/
  | holdupReadyTimeout (t : Nat)
  /-- HOLDUP_CAP_MEASURE (R551). Every 24 h the warden measures holdup capacitance by a 2 V discharge. -/
  | holdupCapMeasure (t : Nat) (uf : Nat)
  /-- VDRV_LEVEL_CHANGE (R555). VDRV_BULK crosses a level and moves are slowed, paused, cut off or resumed. -/
  | vdrvLevelChange (t : Nat) (bulk : Nat)
  /-- VDRV_SURGE_DISCONNECT (R556). VDRV above 156 V for 1 s or 180 V at once opens the reverse-blocking stage. -/
  | vdrvSurgeDisconnect (t : Nat) (vdrv : Nat)
  /-- VDRV_RECONNECT (R556). VDRV below 150 V for 100 ms closes the reverse-blocking stage. -/
  | vdrvReconnect (t : Nat) (vdrv since : Nat)
  /-- BASEPLATE_HOT (R562). TS12 at or above 105 degrees for 1 s scales phase setpoints by 0.75. -/
  | baseplateHot (t : Nat) (since : Nat) (ts12 : Int)
  /-- BASEPLATE_HOT_CLEAR (R562). TS12 below 100 degrees for 10 s ends the baseplate scaling. -/
  | baseplateHotClear (t : Nat) (since : Nat) (ts12 : Int)
  /-- THERMAL_SHUTDOWN (R562). TS12 at or above 115 degrees for 1 s disarms the module. -/
  | thermalShutdown (t : Nat) (since : Nat) (ts12 : Int)
  /-- POWER_ON_RESET (R567). A power-on reset ends; the journal is read, the power-cycle count raised and the spill area recovered. -/
  | powerOnReset (t : Nat) (brownout : Bool) (straps : Nat) (damage : List Nat)
  /-- RESET_N_ASSERTED (R567). RESET_N low for at least 10 us resets the whole module. -/
  | resetNAsserted (t : Nat)
  /-- WARDEN_WATCHDOG_RESET (R567). The warden fails to serve its supervisor for 100 ms and the module resets. -/
  | wardenWatchdogReset (t : Nat)
  /-- RAIL_FAULT_RESET (R567). A rail fault outside a safety island's own regulator resets the module for 10 ms. -/
  | railFaultReset (t : Nat)
  /-- MODULE_READY (R577). Every island runs and every input has left SETTLING, so the module becomes ready. -/
  | moduleReady (t : Nat)
  /-- RESET_RELEASED (R567). A module reset other than a power-on ends and the module starts again: straps sampled, journal read, islands started, angle records judged under R569. -/
  | resetReleased (t : Nat) (straps : Nat) (damage : List Nat)
  /-- CAN_RX_ERROR (R365). A CAN controller detects an error while receiving, raises REC and may change error state. -/
  | canRxError (t : Nat) (ctl : Nat) (dominant : Bool)
  /-- FENCE_WIRE_FAULT (R458). An idle fence loop carries less than 1 mA, so the sender clears FENCE_OK for that port and logs FENCE with kind WIRE_FAULT. -/
  | fenceWireFault (t : Nat) (link : Nat)
  /-- DEBUG_PROBE_ATTACHED (R498). A debug probe is attached or removed on the service pads before SEALED, setting or clearing DEBUG_OPEN. -/
  | debugProbeAttached (t : Nat) (attached : Bool)
  /-- TRANSCEIVER_THERMAL (R386). A CAN transceiver overheats and the module logs CAN_BUS_FAULT with cause TRANSCEIVER_THERMAL. -/
  | transceiverThermal (t : Nat) (ctl : Nat)
  deriving DecidableEq, Repr

end Sys2Proof
end

