-- ==== Sys2Proof/WellFormed.lean ====
section
/-! DEFINITION. Which terms of Instr are commands: every operand names an object the module has (R306, R324), and a
packet's fields fit their sizes (R302). A happening with an operand outside cannot occur. -/

namespace Sys2Proof

/-- The fields of a packet fit the header of R302 Table 1. -/
def Packet.wf (p : Packet) : Bool :=
  p.version < 2 ^ 8 && p.flags < 2 ^ 8 && p.opcode < 2 ^ 16 && p.seq < 2 ^ 32 && p.session < 2 ^ 16 &&
    p.target < 2 ^ 16 && p.payload.length < 2 ^ 16

/-- A well-formed command. -/
def Instr.wf : Instr → Bool
  | .arm p => p.wf
  | .disarm p => p.wf
  | .moduleReset p => p.wf
  | .islandRestart p => p.wf
  | .resetStatus p => p.wf
  | .readIslandHealth p => p.wf
  | .echo p => p.wf
  | .notifyRoute p => p.wf
  | .transportStatus p => p.wf
  | .portalOpen p => p.wf
  | .portalClose p => p.wf
  | .trainOpen p => p.wf
  | .trainClose p => p.wf
  | .setPlatformClass p => p.wf
  | .portalClear p => p.wf
  | .portalHome p => p.wf
  | .portalStatus p => p.wf
  | .readPortalConfig p => p.wf
  | .profileSetLoad p => p.wf
  | .profileSelect p => p.wf
  | .profileCancel p => p.wf
  | .profileStatus p => p.wf
  | .axisMove p => p.wf
  | .axisStop p => p.wf
  | .axisStatus p => p.wf
  | .readAxisConfig p => p.wf
  | .axisSetPosition p => p.wf
  | .axisStepPath p => p.wf
  | .driveStatus p => p.wf
  | .readDriveConfig p => p.wf
  | .driveFaultClear p => p.wf
  | .solenoidSet p => p.wf
  | .bridgeTest p => p.wf
  | .feedbackStatus p => p.wf
  | .readFeedbackConfig p => p.wf
  | .markSet p => p.wf
  | .markClear p => p.wf
  | .latchArm p => p.wf
  | .latchRead p => p.wf
  | .obstacleStatus p => p.wf
  | .readObstacleConfig p => p.wf
  | .forceMapRead p => p.wf
  | .forceMapReset p => p.wf
  | .ringStatus p => p.wf
  | .readRingConfig p => p.wf
  | .ringTest p => p.wf
  | .ringClear p => p.wf
  | .lsSet p => p.wf
  | .lsSetMulti p => p.wf
  | .lsClear p => p.wf
  | .lsStatus p => p.wf
  | .readLsConfig p => p.wf
  | .pgSet p => p.wf
  | .pgStatus p => p.wf
  | .fiStatus p => p.wf
  | .foSet p => p.wf
  | .foSetMulti p => p.wf
  | .foClear p => p.wf
  | .foStatus p => p.wf
  | .linkStatus p => p.wf
  | .readFieldConfig p => p.wf
  | .timeStatus p => p.wf
  | .timeSet p => p.wf
  | .readTimeConfig p => p.wf
  | .scheduleCancel p => p.wf
  | .canStatus p => p.wf
  | .readCanConfig p => p.wf
  | .canMode p => p.wf
  | .canRxBind p => p.wf
  | .canRxRead p => p.wf
  | .canTx p => p.wf
  | .canTxAbort p => p.wf
  | .ethStatus p => p.wf
  | .readEthConfig p => p.wf
  | .ethRingSet p => p.wf
  | .ethTopoSet p => p.wf
  | .cvStart p => p.wf
  | .cvStop p => p.wf
  | .cvStatus p => p.wf
  | .culvertClear p => p.wf
  | .cvTraceSet p => p.wf
  | .recStatus p => p.wf
  | .logRead p => p.wf
  | .logReadNext p => p.wf
  | .logReadStop p => p.wf
  | .readRecConfig p => p.wf
  | .snapshotTrigger p => p.wf
  | .clusterStatus p => p.wf
  | .readPairConfig p => p.wf
  | .dutyHandover p => p.wf
  | .clusterForward p => p.wf
  | .discordClear p => p.wf
  | .clusterSolo p => p.wf
  | .secStatus p => p.wf
  | .identityRead p => p.wf
  | .sessionOpen p => p.wf
  | .sessionConfirm p => p.wf
  | .sessionClose p => p.wf
  | .attest p => p.wf
  | .keySet p => p.wf
  | .lifecycleAdvance p => p.wf
  | .kemRotate p => p.wf
  | .mgmtHealth p => p.wf
  | .bankStatus p => p.wf
  | .imageWrite p => p.wf
  | .imageVerify p => p.wf
  | .configLoad p => p.wf
  | .activate p => p.wf
  | .supplyStatus p => p.wf
  | .cmdFifoWrite _ _ => true
  | .rspFifoRead _ => true
  | .evtFifoRead _ => true
  | .hwIrqStatusClear _ _ => true
  | .cmdErrFlush _ => true
  | .doorbellEthTx _ => true
  | .doorbellEthRx _ => true
  | .doorbellCv _ cv => cv < 16
  | .winDataRead _ _ => true
  | .winDataWrite _ _ => true
  | .timeSnapRead _ => true
  | .registerWrite _ reg _ => reg < 16
  | .spiTransactionAborted _ => true
  | .canTpFrameReceived _ ctl _ => ctl < 2
  | .canTpNCrTimeout _ ctl => ctl < 2
  | .canTpNBsTimeout _ ctl => ctl < 2
  | .udpDatagramReceived _ _ _ _ _ => true
  | .udpReassemblyTimeout _ _ _ => true
  | .leveeFrameReceived _ link _ => 1 ≤ link && link ≤ 2
  | .dispatchRoomTimeout _ => true
  | .actionAcknowledged _ _ _ => true
  | .actionAckTimeout _ _ => true
  | .segmentTimeout _ _ => true
  | .scrubPass _ island _ => island < 10
  | .memTransientReport _ island => island < 10
  | .watchdogExpiry _ island => island < 9
  | .islandRestartDone _ island _ _ => island < 10
  | .autoRearm _ => true
  | .holdWindowEnd _ => true
  | .portalTick _ => true
  | .profileScheduleLaunch _ => true
  | .contactDisagreeTimeout _ portal => 1 ≤ portal && portal ≤ 4
  | .unlockTimeout _ portal => 1 ≤ portal && portal ≤ 4
  | .unlockPulseEnd _ portal => 1 ≤ portal && portal ≤ 4
  | .lockTimeout _ portal => 1 ≤ portal && portal ≤ 4
  | .moveTimeout _ portal => 1 ≤ portal && portal ≤ 4
  | .autoCloseExpiry _ portal => 1 ≤ portal && portal ≤ 4
  | .warnTimeElapsed _ portal => 1 ≤ portal && portal ≤ 4
  | .warningPatternToggle _ portal _ => 1 ≤ portal && portal ≤ 4
  | .recloseDelayElapsed _ portal => 1 ≤ portal && portal ≤ 4
  | .stepTimeout _ portal => 1 ≤ portal && portal ≤ 4
  | .stepRestowWait _ portal => 1 ≤ portal && portal ≤ 4
  | .homeTimeout _ portal => 1 ≤ portal && portal ≤ 4
  | .stepTimerExpiry _ axis _ _ => axis < 8
  | .fallbackIncrementLoad _ axis _ => axis < 8
  | .stepTimerRestore _ axis _ => axis < 8
  | .currentLoopUpdate _ axis _ _ _ _ _ => axis < 8
  | .stallWindowExceeded _ axis => axis < 8
  | .holdDelayExpiry _ axis => axis < 8
  | .solenoidPullEnd _ axis => axis < 8
  | .bridgeOvercurrentTrip _ axis _ _ _ _ => axis < 8
  | .bridgeOvertemp _ axis => axis < 8
  | .openPhaseDetected _ axis _ => axis < 8
  | .gateSupplyFault _ axis => axis < 8
  | .gateSupplyRecovered _ axis => axis < 8
  | .sluiceCheck _ axis _ => axis < 8
  | .sluiceClosedReadback _ axis => axis < 8
  | .angleValidationDone _ axis => axis < 8
  | .regenLimitEnter _ _ _ => true
  | .regenLimitEnd _ _ => true
  | .regenBrake _ _ _ => true
  | .standbyBridgeTest _ axis _ _ => axis < 8
  | .encoderEdge _ axis _ _ _ _ _ => axis < 8
  | .edgeFaultsReport _ axis => axis < 8
  | .encSupplyOverload _ axis _ => axis < 8
  | .encSupplyRetry _ axis => axis < 8
  | .encSignalLoss _ axis _ => axis < 8
  | .encSignalRestored _ axis => axis < 8
  | .termPartnerTimeout _ axis => axis < 8
  | .termPartnerReturn _ axis => axis < 8
  | .observerUpdate _ axis => axis < 8
  | .speedStillTimeout _ axis => axis < 8
  | .sspReading _ axis _ _ _ => axis < 8
  | .forceEstimateUpdate _ portal => 1 ≤ portal && portal ≤ 4
  | .obstTimeElapsed _ portal _ => 1 ≤ portal && portal ≤ 4
  | .keExceeded _ portal => 1 ≤ portal && portal ≤ 4
  | .edgeFaultTimeout _ portal => 1 ≤ portal && portal ≤ 4
  | .edgeDegradeEnd _ portal => 1 ≤ portal && portal ≤ 4
  | .safetyEvaluation _ sw => sw < 2
  | .closeConfirmElapsed _ sw => sw < 2
  | .releaseConfirmElapsed _ sw _ => sw < 2
  | .comparisonWordReceived _ sw _ => sw < 2
  | .discrepancyLatch _ sw _ _ => sw < 2
  | .compareLost _ sw => sw < 2
  | .compareResumed _ sw => sw < 2
  | .positionWordReceived _ sw portal _ => sw < 2 && 1 ≤ portal && portal ≤ 4
  | .positionWordStale _ sw portal => sw < 2 && 1 ≤ portal && portal ≤ 4
  | .ringReadbackFault _ obs => obs < 5
  | .ringTestPulseDue _ sw => sw < 2
  | .ringTestPulseJudged _ sw _ _ _ => sw < 2
  | .ringTestOverdue _ sw => sw < 2
  | .lsCurrentLimit _ ls _ => 1 ≤ ls && ls ≤ 16
  | .lsThermalShutdown _ ls _ => 1 ≤ ls && ls ≤ 16
  | .lsCooled _ ls => 1 ≤ ls && ls ≤ 16
  | .lsRetryReset _ ls => 1 ≤ ls && ls ≤ 16
  | .pgPeriodEdge _ copy pg _ _ _ => copy < 2 && 1 ≤ pg && pg ≤ 4
  | .lspwmEdge _ pin _ => pin < 4
  | .lsOpenLoadTimeout _ ls _ => 1 ≤ ls && ls ≤ 16
  | .lsOffDiagJudged _ ls _ => 1 ≤ ls && ls ≤ 16
  | .vlsLevelChange _ _ => true
  | .vlsRestartStep _ => true
  | .fieldInputEdge _ fi _ _ _ => 1 ≤ fi && fi ≤ 48
  | .fiReversedTimeout _ fi _ => 1 ≤ fi && fi ≤ 48
  | .sampleDisagreeTimeout _ fi => 1 ≤ fi && fi ≤ 48
  | .supervisedMeasure _ fi _ => 1 ≤ fi && fi ≤ 48
  | .supFaultTimeout _ fi => 1 ≤ fi && fi ≤ 48
  | .barrierFrameReceived _ lane _ _ _ _ _ _ => lane < 3
  | .barrierLaneLost _ lane _ => lane < 3
  | .barrierLaneRestored _ lane _ => lane < 3
  | .foRestartStep _ => true
  | .foOverloadTimeout _ fo _ => 1 ≤ fo && fo ≤ 16
  | .foThermalShutdown _ fo _ => 1 ≤ fo && fo ≤ 16
  | .foOverloadRetry _ fo => 1 ≤ fo && fo ≤ 16
  | .foCooled _ fo => 1 ≤ fo && fo ≤ 16
  | .foOpenWireTimeout _ fo _ => 1 ≤ fo && fo ≤ 16
  | .foOffDiagJudged _ fo _ => 1 ≤ fo && fo ≤ 16
  | .vfoLevelChange _ _ => true
  | .ptpMessageReceived _ _ => true
  | .ptpSourceLost _ => true
  | .holdoverExpiry _ => true
  | .ppsInEdge _ _ _ => true
  | .ppsOutPulse _ => true
  | .ppsOutFall _ => true
  | .compareTargetArm _ unit => unit < 8
  | .compareUnitFire _ unit => unit < 8
  | .ref25mLost _ => true
  | .ref25mRestored _ => true
  | .canFrameReceived _ ctl _ _ => ctl < 2
  | .canRateDwellEnd _ ctl => ctl < 2
  | .canTxSuccess _ ctl _ _ => ctl < 2
  | .canTxErrorFrame _ ctl _ _ => ctl < 2
  | .canBusOffRecovered _ ctl => ctl < 2
  | .canModeApply _ ctl => ctl < 2
  | .canBusIntegrated _ ctl => ctl < 2
  | .canTxdTimeout _ ctl => ctl < 2
  | .canBusDominant _ ctl => ctl < 2
  | .canPiPeriod _ ctl => ctl < 2
  | .ethLinkChange _ eport _ _ _ => eport < 2
  | .ethFrameReceived _ eport _ _ _ _ => eport < 2
  | .ethAddressAged _ _ _ => true
  | .ethTxComplete _ _ => true
  | .trdpPdPeriod _ _ => true
  | .cvDescriptorStart _ cv => cv < 16
  | .cvBurst _ cv => cv < 16
  | .cvPaceReady _ cv => cv < 16
  | .cvDescriptorComplete _ cv => cv < 16
  | .cvAccessTimeout _ cv _ => cv < 16
  | .cvBusError _ cv _ _ => cv < 16
  | .cvRecorderResume _ => true
  | .traceSample _ axis => axis < 8
  | .recordTakeIn _ => true
  | .recordFlushTimer _ => true
  | .nandFlushDone _ => true
  | .nandBlockFailure _ _ _ _ => true
  | .opTimeSave _ => true
  | .traceSpacingSample _ portal => 1 ≤ portal && portal ≤ 4
  | .snapshotSample _ => true
  | .snapshotCollectDone _ => true
  | .logChunkDone _ => true
  | .logReadTimeout _ => true
  | .powerFailFlushDone _ _ => true
  | .leaseRenewSend _ => true
  | .leaseRenewReceived _ _ => true
  | .leaseAckReceived _ _ => true
  | .helloSend _ => true
  | .helloReceived _ _ => true
  | .claimReceived _ _ => true
  | .relinquishReceived _ _ _ _ => true
  | .leaveReceived _ _ => true
  | .leaseLapse _ => true
  | .fenceSoloDelay _ => true
  | .leaseExpiryTakeover _ => true
  | .searchSilenceTimeout _ => true
  | .fenceInputAsserted _ link => 1 ≤ link && link ≤ 2
  | .fenceInputReleased _ link _ _ => 1 ≤ link && link ≤ 2
  | .fenceOutputEnd _ link => 1 ≤ link && link ≤ 2
  | .comparisonVectorReceived _ _ _ _ => true
  | .discordTimeout _ => true
  | .mirrorEpochClose _ _ => true
  | .epochCommitReceived _ _ _ _ => true
  | .epochCommitTimeout _ => true
  | .standbyFit _ => true
  | .plannedTransfer _ _ => true
  | .rotateDue _ => true
  | .revertDue _ => true
  | .transferCheckDone _ => true
  | .discordantEnd _ => true
  | .leveePortChange _ link _ => 1 ≤ link && link ≤ 2
  | .leveeDelayMeasure _ link _ _ _ _ => 1 ≤ link && link ≤ 2
  | .forwardTimeout _ _ => true
  | .tamperTrip _ sensor => sensor < 2
  | .tamperCleared _ _ => true
  | .sessionConfirmTimeout _ _ => true
  | .sessionExpiry _ _ => true
  | .subtreeBuildDone _ => true
  | .freshnessLow _ ctl => ctl < 2
  | .wardenSensorSample _ x => x.temps.length == 12
  | .condensationChange _ => true
  | .railFaultDetected _ rail _ owner => rail < 8 && owner.all (· < 2)
  | .imageEraseDone _ _ => true
  | .imageVerifyDone _ => true
  | .activationCheckDone _ _ => true
  | .activationIslandDone _ _ _ _ => true
  | .vctlPowerFail _ => true
  | .holdupStateChange _ _ => true
  | .holdupReadyTimeout _ => true
  | .holdupCapMeasure _ _ => true
  | .vdrvLevelChange _ _ => true
  | .vdrvSurgeDisconnect _ _ => true
  | .vdrvReconnect _ _ _ => true
  | .baseplateHot _ _ _ => true
  | .baseplateHotClear _ _ _ => true
  | .thermalShutdown _ _ _ => true
  | .powerOnReset _ _ _ _ => true
  | .resetNAsserted _ => true
  | .wardenWatchdogReset _ => true
  | .railFaultReset _ => true
  | .moduleReady _ => true
  | .resetReleased _ _ _ => true
  | .canRxError _ ctl _ => ctl < 2
  | .fenceWireFault _ link => 1 ≤ link && link ≤ 2
  | .debugProbeAttached _ _ => true
  | .transceiverThermal _ ctl => ctl < 2

end Sys2Proof
end

