-- ==== Sys2Proof/Decode.lean ====
section
/-! DEFINITION. Bytes and their meaning: byte order (R5), the check sums of R302 and R434, a packet read from its bytes
and written to them (R302), and the decoder of table words, which has nothing to decode: no row of
spec/opcode_table.json gives bits. -/

namespace Sys2Proof

/-- A little-endian number from bytes (R5). -/
def leNat : List Byte → Nat
  | [] => 0
  | b :: r => b.toNat + 256 * leNat r

/-- The low n bytes of a number, little-endian (R5). -/
def leBytes : Nat → Nat → List Byte
  | 0, _ => []
  | n + 1, v => BitVec.ofNat 8 v :: leBytes n (v / 256)

/-- A signed number of n bytes in two's complement, as its bytes (R5). -/
def leInt (n : Nat) (v : Int) : List Byte := leBytes n (v % (256 ^ n : Nat)).toNat

/-- A number of n bits read as two's complement. -/
def signed (n v : Nat) : Int := if v % 2 ^ n < 2 ^ (n - 1) then (v % 2 ^ n : Nat) else (v % 2 ^ n : Nat) - (2 ^ n : Nat)

/-- n bytes from an offset as a little-endian number; bytes beyond the end read 0. -/
def getN (b : List Byte) (off n : Nat) : Nat := leNat ((b.drop off).take n)

/-- n bytes from an offset as a signed little-endian number. -/
def getI (b : List Byte) (off n : Nat) : Int := signed (8 * n) (getN b off n)

/-- Bit i of a number. -/
def bit (v i : Nat) : Bool := v.testBit i

/-- n bits of a number from bit i. -/
def bitsAt (v i n : Nat) : Nat := v / 2 ^ i % 2 ^ n

/-- A number with bit i set or cleared. -/
def setBit (v i : Nat) (b : Bool) : Nat :=
  if v.testBit i = b then v else if b then v + 2 ^ i else v - 2 ^ i

/-- 1 for true. -/
def bitOf (b : Bool) (i : Nat) : Nat := if b then 2 ^ i else 0

/-- n zero bytes. -/
def zeros (n : Nat) : List Byte := List.replicate n 0

/-- Exactly n bytes: cut, or padded with zero bytes. -/
def padTo (n : Nat) (b : List Byte) : List Byte := b.take n ++ zeros (n - b.length)

/-- One bit step of CRC-16/CCITT. -/
def crc16Bit (c : BitVec 16) : BitVec 16 := if c.getLsbD 15 then (c <<< 1) ^^^ 0x1021#16 else c <<< 1

/-- CRC-16/CCITT of R302: polynomial 0x1021, initial value 0xFFFF, no reflection, no final XOR. -/
def crc16 (b : List Byte) : Nat :=
  (b.foldl (fun (c : BitVec 16) (x : Byte) => crc16Bit^[8] (c ^^^ ((x.setWidth 16 : BitVec 16) <<< (8 : Nat))))
    0xFFFF#16).toNat

/-- One bit step of the reflected CRC-32. -/
def crc32Bit (c : BitVec 32) : BitVec 32 := if c.getLsbD 0 then (c >>> 1) ^^^ 0xEDB88320#32 else c >>> 1

/-- CRC-32 of ISO HDLC (R434). -/
def crc32 (b : List Byte) : Nat :=
  ((b.foldl (fun (c : BitVec 32) (x : Byte) => crc32Bit^[8] (c ^^^ (x.setWidth 32 : BitVec 32))) 0xFFFFFFFF#32) ^^^
    0xFFFFFFFF#32).toNat

/-- Bytes 0 to 13 of a packet header (R302). -/
def headerBytes (version flags opcode seq session target length : Nat) : List Byte :=
  leBytes 1 version ++ leBytes 1 flags ++ leBytes 2 opcode ++ leBytes 4 seq ++ leBytes 2 session ++ leBytes 2 target ++
    leBytes 2 length

/-- A whole packet with its HDR_CHECK (R302). -/
def packetBytes (flags opcode seq session target : Nat) (payload : List Byte) : List Byte :=
  let h := headerBytes 2 flags opcode seq session target payload.length
  h ++ leBytes 2 (crc16 h) ++ payload

/-- HDR_CHECK of a header of 16 bytes matches (step 1 of R307 Table 4). -/
def headerOk (h : List Byte) : Bool := 16 ≤ h.length && crc16 (h.take 14) == getN h 14 2

/-- LENGTH of a header. -/
def headerLength (h : List Byte) : Nat := getN h 12 2

/-- A packet from bytes that passed steps 1 and 2. -/
def readPacket (time : Nat) (transport : Transport) (src : Nat × Nat) (b : List Byte) : Packet :=
  { time, transport, src, version := getN b 0 1, flags := getN b 1 1, opcode := getN b 2 2, seq := getN b 4 4,
    session := getN b 8 2, target := getN b 10 2, payload := (b.drop 16).take (headerLength b) }

/-- 32-bit words of bytes, the last padded with zero bytes (R326). -/
def toWords : List Byte → List Word
  | a :: b :: c :: d :: r => BitVec.ofNat 32 (leNat [a, b, c, d]) :: toWords r
  | [] => []
  | r => [BitVec.ofNat 32 (leNat r)]

/-- Bytes of a 32-bit word, least significant first (R321). -/
def wordBytes (w : Word) : List Byte := leBytes 4 w.toNat

/-- Index of an island in R40 Table 7. -/
abbrev isPolder : Nat := 0
abbrev isM1 : Nat := 1
abbrev isM2 : Nat := 2
abbrev isSafetyA : Nat := 3
abbrev isSafetyB : Nat := 4
abbrev isForeland : Nat := 5
abbrev isNetwork : Nat := 6
abbrev isRecorder : Nat := 7
abbrev isFloodgate : Nat := 8
abbrev isWarden : Nat := 9

/-- The island behind a destination channel (R24 Table 2). The levee-link unit is none; its PLL follows the network
island (R570 Table 2), so it counts as that. -/
def Channel.island : Channel → Nat
  | .m1ax => isM1 | .m1ls => isM1 | .m2ax => isM2 | .m2ls => isM2 | .sa => isSafetyA | .sb => isSafetyB
  | .fl => isForeland | .net => isNetwork | .recd => isRecorder | .fg => isFloodgate | .wd => isWarden | .llu => isNetwork

/-- Index of a transport (R332 Table 21). -/
def Transport.index : Transport → Nat
  | .spi => 0 | .canA => 1 | .canB => 2 | .ethernet => 3 | .levee => 4

/-- The transport of an index. -/
def Transport.ofIndex : Nat → Transport
  | 0 => .spi | 1 => .canA | 2 => .canB | 3 => .ethernet | _ => .levee

/-- The command a word of the table's bits spells: no row gives bits, so no word spells one. -/
def decodeTableWord (_nbits _w : Nat) : Option Instr := none

end Sys2Proof
end

