-- ==== Sys2Proof/Machine/Codes.lean ====
section
/-! DEFINITION. The status codes of R623 Table 3, and the event codes of R625 Table 4 with their marks. -/

namespace Sys2Proof.Machine

/-! ### Statuses (R623) -/

/-- OK: carried out -/
abbrev stOk : Nat := 0x0000
/-- EXECUTED_LATE: launch time passed (R354, R379) -/
abbrev stExecutedLate : Nat := 0x0011
/-- MARK_BEHIND: mark armed behind position (R176) -/
abbrev stMarkBehind : Nat := 0x0012
/-- CLAMPED: target clamped to soft limit (R92) -/
abbrev stClamped : Nat := 0x0013
/-- DEFERRED: demand set, applied later -/
abbrev stDeferred : Nat := 0x0015
/-- VERSION_UNSUPPORTED: VERSION not 0x02 -/
abbrev stVersionUnsupported : Nat := 0x8001
/-- LENGTH_INVALID: LENGTH wrong -/
abbrev stLengthInvalid : Nat := 0x8002
/-- OPCODE_UNKNOWN: opcode not in Table 2 -/
abbrev stOpcodeUnknown : Nat := 0x8003
/-- TARGET_ABSENT: index absent or disabled -/
abbrev stTargetAbsent : Nat := 0x8004
/-- VALUE_RESERVED: reserved field or value (R15) -/
abbrev stValueReserved : Nat := 0x8005
/-- SET_MALFORMED: profile set malformed -/
abbrev stSetMalformed : Nat := 0x8006
/-- VALUE_OUT_OF_RANGE: field outside its range -/
abbrev stValueOutOfRange : Nat := 0x8007
/-- TARGET_KIND: kind not accepted -/
abbrev stTargetKind : Nat := 0x8008
/-- PAYLOAD_SIZE: payload size wrong -/
abbrev stPayloadSize : Nat := 0x8009
/-- FLAG_INVALID: SCHEDULED or MORE not allowed -/
abbrev stFlagInvalid : Nat := 0x800A
/-- SEGMENT_ORDER: segment breaks R309 -/
abbrev stSegmentOrder : Nat := 0x800B
/-- SEGMENTS_TOO_LONG: segments exceed limit -/
abbrev stSegmentsTooLong : Nat := 0x800C
/-- CONFIG_INVALID: configuration breaks a rule -/
abbrev stConfigInvalid : Nat := 0x800D
/-- ROLE_DENIED: role not listed -/
abbrev stRoleDenied : Nat := 0x8101
/-- SIGNATURE_INVALID: signature does not verify -/
abbrev stSignatureInvalid : Nat := 0x8102
/-- TAG_INVALID: KMAC tag fails -/
abbrev stTagInvalid : Nat := 0x8103
/-- SESSION_UNKNOWN: session not open -/
abbrev stSessionUnknown : Nat := 0x8104
/-- SECURED_REQUIRED: SECURED needed (R500) -/
abbrev stSecuredRequired : Nat := 0x8105
/-- REPLAYED: SEQ already seen -/
abbrev stReplayed : Nat := 0x8106
/-- ROLLBACK: SVN below FW_SVN -/
abbrev stRollback : Nat := 0x8107
/-- KEY_ABSENT: key or generation missing -/
abbrev stKeyAbsent : Nat := 0x8108
/-- TAMPERED: tamper sensor tripped -/
abbrev stTampered : Nat := 0x8109
/-- WRONG_STATE: state does not allow it -/
abbrev stWrongState : Nat := 0x8201
/-- NOT_RELEASED: no release permission -/
abbrev stNotReleased : Nat := 0x8202
/-- NOT_ARMED: module disarmed -/
abbrev stNotArmed : Nat := 0x8203
/-- PROFILE_EMPTY: slot not valid -/
abbrev stProfileEmpty : Nat := 0x8204
/-- NO_SCHEDULE: nothing pending -/
abbrev stNoSchedule : Nat := 0x8205
/-- BARRIER_BROKEN: earlier action failed (R32) -/
abbrev stBarrierBroken : Nat := 0x8206
/-- LAUNCH_PAST: STRICT launch late -/
abbrev stLaunchPast : Nat := 0x8207
/-- AXIS_OWNED: axis owned by portal -/
abbrev stAxisOwned : Nat := 0x8208
/-- CHANNEL_OWNED: channel owned elsewhere -/
abbrev stChannelOwned : Nat := 0x8209
/-- CONTROLLER_SILENT: CAN controller cannot send -/
abbrev stControllerSilent : Nat := 0x820A
/-- LIFECYCLE_STATE: lifecycle does not allow it -/
abbrev stLifecycleState : Nat := 0x820B
/-- QUEUE_FULL: destination queues full (R25) -/
abbrev stQueueFull : Nat := 0x8301
/-- ISLAND_RESTARTING: island restarting (R26) -/
abbrev stIslandRestarting : Nat := 0x8302
/-- MOVE_QUEUE_FULL: axis queue full -/
abbrev stMoveQueueFull : Nat := 0x8303
/-- BUDGET_SPENT: spillway budget spent -/
abbrev stBudgetSpent : Nat := 0x8304
/-- SEGMENT_BUSY: segment limit reached -/
abbrev stSegmentBusy : Nat := 0x8305
/-- SCHEDULE_FULL: 32 packets held -/
abbrev stScheduleFull : Nat := 0x8306
/-- TX_BUSY: CAN buffer in use -/
abbrev stTxBusy : Nat := 0x8307
/-- RECORDER_BUSY: flush or halt running -/
abbrev stRecorderBusy : Nat := 0x8308
/-- SIGN_BUSY: signing rate or cache -/
abbrev stSignBusy : Nat := 0x8309
/-- SESSIONS_FULL: 16 sessions open -/
abbrev stSessionsFull : Nat := 0x830A
/-- UPDATE_BUSY: update in progress -/
abbrev stUpdateBusy : Nat := 0x830B
/-- ISLAND_NO_ACK: action not acknowledged (R27) -/
abbrev stIslandNoAck : Nat := 0x8401
/-- STEP_PATH_FAULT: no step path -/
abbrev stStepPathFault : Nat := 0x8402
/-- BRIDGE_LATCHED: axis latched -/
abbrev stBridgeLatched : Nat := 0x8403
/-- CHANNEL_LATCHED: channel or output latched -/
abbrev stChannelLatched : Nat := 0x8404
/-- LINK_DOWN: general lane lost -/
abbrev stLinkDown : Nat := 0x8405
/-- CULVERT_HALTED: engine halted -/
abbrev stCulvertHalted : Nat := 0x8406
/-- IDENTITY_EXHAUSTED: no leaves left -/
abbrev stIdentityExhausted : Nat := 0x8407
/-- FLOODGATE_FAULT: floodgate item unreadable -/
abbrev stFloodgateFault : Nat := 0x8408
/-- NOR_FAULT: NOR operation failed -/
abbrev stNorFault : Nat := 0x8409
/-- NOT_ON_DUTY: module lacks duty (R474) -/
abbrev stNotOnDuty : Nat := 0x8501
/-- NO_PARTNER: no partner heard -/
abbrev stNoPartner : Nat := 0x8502
/-- PARTNER_UNFIT: partner not STANDBY -/
abbrev stPartnerUnfit : Nat := 0x8503
/-- PAIR_DISCORDANT: pair discordant (R486) -/
abbrev stPairDiscordant : Nat := 0x8504
/-- MEMBER_UNREACHABLE: forward unanswered (R491) -/
abbrev stMemberUnreachable : Nat := 0x8505
/-- DUTY_HELD: activation refused on duty unit -/
abbrev stDutyHeld : Nat := 0x8506

/-! ### Events (R625) -/

/-- MEM_TRANSIENT -/
abbrev evMemTransient : Nat := 0x0010
/-- MEM_PERSISTENT -/
abbrev evMemPersistent : Nat := 0x0011
/-- MEM_RESTART -/
abbrev evMemRestart : Nat := 0x0012
/-- MEM_ISLAND_LOST -/
abbrev evMemIslandLost : Nat := 0x0013
/-- COUNTER_SATURATED -/
abbrev evCounterSaturated : Nat := 0x0014
/-- CONFIG_UNAVAILABLE: marks N S -/
abbrev evConfigUnavailable : Nat := 0x0015
/-- CMD_REJECTED -/
abbrev evCmdRejected : Nat := 0x0020
/-- ACTION_TIMEOUT -/
abbrev evActionTimeout : Nat := 0x0021
/-- PACKET_DISCARDED -/
abbrev evPacketDiscarded : Nat := 0x0022
/-- SEGMENT_TIMEOUT -/
abbrev evSegmentTimeout : Nat := 0x0023
/-- NOTIFY_DROPPED -/
abbrev evNotifyDropped : Nat := 0x0024
/-- ARMED: marks N -/
abbrev evArmed : Nat := 0x0030
/-- DISARMED: marks N -/
abbrev evDisarmed : Nat := 0x0031
/-- ISLAND_RESTARTED: marks N -/
abbrev evIslandRestarted : Nat := 0x0032
/-- MODULE_STARTED -/
abbrev evModuleStarted : Nat := 0x0033
/-- HOLD_ENDED -/
abbrev evHoldEnded : Nat := 0x0034
/-- ISLAND_HELD: marks N S -/
abbrev evIslandHeld : Nat := 0x0035
/-- PORTAL_STATE: marks N -/
abbrev evPortalState : Nat := 0x0101
/-- UNLOCK_FAILED -/
abbrev evUnlockFailed : Nat := 0x0102
/-- LOCK_FAILED -/
abbrev evLockFailed : Nat := 0x0103
/-- STEP_BLOCKED -/
abbrev evStepBlocked : Nat := 0x0104
/-- EGRESS_OPERATED -/
abbrev evEgressOperated : Nat := 0x0105
/-- HOMING_DONE -/
abbrev evHomingDone : Nat := 0x0106
/-- HOMING_FAILED -/
abbrev evHomingFailed : Nat := 0x0107
/-- PROFILE_CHANGED -/
abbrev evProfileChanged : Nat := 0x0108
/-- PROFILE_SCHEDULE_REPLACED -/
abbrev evProfileScheduleReplaced : Nat := 0x0109
/-- PROFILE_SET_STORED -/
abbrev evProfileSetStored : Nat := 0x010A
/-- STEP_FALLBACK: marks N -/
abbrev evStepFallback : Nat := 0x0201
/-- STEP_TIMER_RESTORED -/
abbrev evStepTimerRestored : Nat := 0x0202
/-- MOVE_DONE: marks R N -/
abbrev evMoveDone : Nat := 0x0203
/-- PROFILE_REPLANNED: marks N -/
abbrev evProfileReplanned : Nat := 0x0204
/-- MOVE_FLUSHED -/
abbrev evMoveFlushed : Nat := 0x0205
/-- SOFT_LIMIT_STOP -/
abbrev evSoftLimitStop : Nat := 0x0206
/-- STEP_PATH_LOST: marks N -/
abbrev evStepPathLost : Nat := 0x0207
/-- MOTION_PAUSED -/
abbrev evMotionPaused : Nat := 0x0208
/-- MOTION_RESUMED -/
abbrev evMotionResumed : Nat := 0x0209
/-- BRIDGE_FAULT: marks N S -/
abbrev evBridgeFault : Nat := 0x0210
/-- STALL_WARNING -/
abbrev evStallWarning : Nat := 0x0211
/-- STALL_DETECTED: marks N -/
abbrev evStallDetected : Nat := 0x0212
/-- ANGLE_VALIDATED -/
abbrev evAngleValidated : Nat := 0x0213
/-- ANGLE_REJECTED -/
abbrev evAngleRejected : Nat := 0x0214
/-- REGEN_LIMIT -/
abbrev evRegenLimit : Nat := 0x0215
/-- REGEN_BRAKE: marks N S -/
abbrev evRegenBrake : Nat := 0x0216
/-- BRIDGE_TEST_DONE -/
abbrev evBridgeTestDone : Nat := 0x0217
/-- ENC_WRAP -/
abbrev evEncWrap : Nat := 0x0301
/-- EDGE_FAULTS -/
abbrev evEdgeFaults : Nat := 0x0302
/-- ZONE_MARK: marks R N -/
abbrev evZoneMark : Nat := 0x0303
/-- LATCH_CAPTURED: marks R -/
abbrev evLatchCaptured : Nat := 0x0304
/-- ENC_SIGNAL_LOST: marks N -/
abbrev evEncSignalLost : Nat := 0x0305
/-- POSITION_INVALID -/
abbrev evPositionInvalid : Nat := 0x0306
/-- SSP_FAULT: marks N -/
abbrev evSspFault : Nat := 0x0307
/-- TOOTH_REF_ERROR: marks N -/
abbrev evToothRefError : Nat := 0x0308
/-- TERM_CHANGED -/
abbrev evTermChanged : Nat := 0x0309
/-- ENC_SUPPLY_FAULT -/
abbrev evEncSupplyFault : Nat := 0x030A
/-- OBSTACLE: marks N -/
abbrev evObstacle : Nat := 0x0401
/-- OBSTACLE_FINAL: marks N S -/
abbrev evObstacleFinal : Nat := 0x0402
/-- STEP_OBSTACLE: marks N -/
abbrev evStepObstacle : Nat := 0x0403
/-- EDGE_FAULT: marks N -/
abbrev evEdgeFault : Nat := 0x0404
/-- MAP_LEARNED -/
abbrev evMapLearned : Nat := 0x0405
/-- MAP_RESET -/
abbrev evMapReset : Nat := 0x0406
/-- FRICTION_DRIFT -/
abbrev evFrictionDrift : Nat := 0x0407
/-- KE_EXCEEDED -/
abbrev evKeExceeded : Nat := 0x0408
/-- RING_OPENED -/
abbrev evRingOpened : Nat := 0x0501
/-- RING_CLOSED -/
abbrev evRingClosed : Nat := 0x0502
/-- RELEASE_CHANGED -/
abbrev evReleaseChanged : Nat := 0x0503
/-- DISCREPANCY: marks N S -/
abbrev evDiscrepancy : Nat := 0x0504
/-- COMPARE_LOST: marks N -/
abbrev evCompareLost : Nat := 0x0505
/-- RING_SWITCH_FAULT: marks N S -/
abbrev evRingSwitchFault : Nat := 0x0506
/-- RING_TEST_DONE -/
abbrev evRingTestDone : Nat := 0x0507
/-- RING_TEST_OVERDUE: marks N -/
abbrev evRingTestOverdue : Nat := 0x0508
/-- RING_CLEARED -/
abbrev evRingCleared : Nat := 0x0509
/-- LS_THERMAL_OFF -/
abbrev evLsThermalOff : Nat := 0x0601
/-- LS_LATCHED: marks N S -/
abbrev evLsLatched : Nat := 0x0602
/-- LS_OPEN_LOAD -/
abbrev evLsOpenLoad : Nat := 0x0603
/-- LS_HIGH_WHILE_OFF -/
abbrev evLsHighWhileOff : Nat := 0x0604
/-- SPILLWAY_SPENT: marks N -/
abbrev evSpillwaySpent : Nat := 0x0605
/-- SPILLWAY_OVERRUN -/
abbrev evSpillwayOverrun : Nat := 0x0606
/-- VLS_LOW -/
abbrev evVlsLow : Nat := 0x0608
/-- VLS_CUT: marks N -/
abbrev evVlsCut : Nat := 0x0609
/-- VLS_RESTORED -/
abbrev evVlsRestored : Nat := 0x060A
/-- LS_CLEARED -/
abbrev evLsCleared : Nat := 0x060B
/-- LS_REFUSED -/
abbrev evLsRefused : Nat := 0x060C
/-- FI_EDGE: marks R -/
abbrev evFiEdge : Nat := 0x0701
/-- SAMPLE_DISAGREE -/
abbrev evSampleDisagree : Nat := 0x0702
/-- FI_REVERSED: marks N -/
abbrev evFiReversed : Nat := 0x0703
/-- SUP_FAULT -/
abbrev evSupFault : Nat := 0x0704
/-- FO_OVERLOAD -/
abbrev evFoOverload : Nat := 0x0705
/-- FO_THERMAL_OFF -/
abbrev evFoThermalOff : Nat := 0x0706
/-- FO_LATCHED: marks N -/
abbrev evFoLatched : Nat := 0x0707
/-- FO_OPEN_WIRE -/
abbrev evFoOpenWire : Nat := 0x0708
/-- FO_HIGH_WHILE_OFF -/
abbrev evFoHighWhileOff : Nat := 0x0709
/-- FORELAND_LOST: marks N S -/
abbrev evForelandLost : Nat := 0x070A
/-- FORELAND_RESTORED -/
abbrev evForelandRestored : Nat := 0x070B
/-- VFO_LOW -/
abbrev evVfoLow : Nat := 0x070C
/-- VFO_CUT: marks N -/
abbrev evVfoCut : Nat := 0x070D
/-- VFO_RESTORED -/
abbrev evVfoRestored : Nat := 0x070E
/-- EDGE_OVERFLOW -/
abbrev evEdgeOverflow : Nat := 0x070F
/-- FO_CLEARED -/
abbrev evFoCleared : Nat := 0x0710
/-- CLOCK_STEP: marks N C -/
abbrev evClockStep : Nat := 0x0801
/-- TIME_QUALITY: marks N -/
abbrev evTimeQuality : Nat := 0x0802
/-- PTP_MASTER_CHANGED -/
abbrev evPtpMasterChanged : Nat := 0x0803
/-- LAUNCH_LATE -/
abbrev evLaunchLate : Nat := 0x0804
/-- CAN_ERROR_STATE: marks N -/
abbrev evCanErrorState : Nat := 0x0901
/-- CAN_TX_ABORTED: marks N -/
abbrev evCanTxAborted : Nat := 0x0902
/-- CAN_TX_DONE: marks R -/
abbrev evCanTxDone : Nat := 0x0903
/-- CAN_NO_ACK_PEER: marks N -/
abbrev evCanNoAckPeer : Nat := 0x0904
/-- CAN_RATE_FOUND -/
abbrev evCanRateFound : Nat := 0x0905
/-- CAN_RATE_NOT_FOUND -/
abbrev evCanRateNotFound : Nat := 0x0906
/-- CAN_BUS_FAULT: marks N -/
abbrev evCanBusFault : Nat := 0x0907
/-- CAN_AUTH_FAIL -/
abbrev evCanAuthFail : Nat := 0x0908
/-- CAN_TP_ERROR -/
abbrev evCanTpError : Nat := 0x0909
/-- CAN_PI_SKIPPED -/
abbrev evCanPiSkipped : Nat := 0x090A
/-- CAN_OBJECT_LOST -/
abbrev evCanObjectLost : Nat := 0x090B
/-- ETH_LINK: marks N -/
abbrev evEthLink : Nat := 0x0A01
/-- ETH_RX_NO_DESC -/
abbrev evEthRxNoDesc : Nat := 0x0A02
/-- ETH_STORM_DROP -/
abbrev evEthStormDrop : Nat := 0x0A03
/-- ETH_DESC_ERROR -/
abbrev evEthDescError : Nat := 0x0A04
/-- TRDP_SKIPPED -/
abbrev evTrdpSkipped : Nat := 0x0A05
/-- CV_DONE: marks R -/
abbrev evCvDone : Nat := 0x0B01
/-- CV_STARVED: marks N -/
abbrev evCvStarved : Nat := 0x0B02
/-- CV_HALT: marks N S -/
abbrev evCvHalt : Nat := 0x0B03
/-- CV_LAP_END -/
abbrev evCvLapEnd : Nat := 0x0B04
/-- CV_STOPPED -/
abbrev evCvStopped : Nat := 0x0B05
/-- CV_DESC_ERROR: marks N -/
abbrev evCvDescError : Nat := 0x0B06
/-- SUPPRESSED: marks C -/
abbrev evSuppressed : Nat := 0x0C01
/-- LOG_GAP: marks N C -/
abbrev evLogGap : Nat := 0x0C02
/-- SNAPSHOT_TAKEN: marks N -/
abbrev evSnapshotTaken : Nat := 0x0C03
/-- FLUSH_INCOMPLETE: marks N C -/
abbrev evFlushIncomplete : Nat := 0x0C04
/-- NAND_BLOCK_RETIRED -/
abbrev evNandBlockRetired : Nat := 0x0C05
/-- CYCLE_REGION_GROWN -/
abbrev evCycleRegionGrown : Nat := 0x0C06
/-- LOG_CHUNK: marks N -/
abbrev evLogChunk : Nat := 0x0C07
/-- LOG_READ_END: marks N -/
abbrev evLogReadEnd : Nat := 0x0C08
/-- RECORD_DAMAGED -/
abbrev evRecordDamaged : Nat := 0x0C09
/-- DUTY_TAKEN: marks N, S with cause EXPIRY -/
abbrev evDutyTaken : Nat := 0x0D01
/-- DUTY_RELEASED -/
abbrev evDutyReleased : Nat := 0x0D02
/-- DUTY_LAPSED: marks N -/
abbrev evDutyLapsed : Nat := 0x0D03
/-- PARTNER_CHANGED -/
abbrev evPartnerChanged : Nat := 0x0D04
/-- FENCE: marks N -/
abbrev evFence : Nat := 0x0D05
/-- COMPARE_MISMATCH -/
abbrev evCompareMismatch : Nat := 0x0D06
/-- ARBITRATION: marks N S -/
abbrev evArbitration : Nat := 0x0D07
/-- DISCORD: marks N -/
abbrev evDiscord : Nat := 0x0D08
/-- PAIR_DISCORDANT: marks N -/
abbrev evPairDiscordant : Nat := 0x0D09
/-- EPOCH_DISCARDED -/
abbrev evEpochDiscarded : Nat := 0x0D0A
/-- STANDBY_TEST_FAILED -/
abbrev evStandbyTestFailed : Nat := 0x0D0B
/-- TIME_DISAGREE -/
abbrev evTimeDisagree : Nat := 0x0D0C
/-- LEVEE_PORT -/
abbrev evLeveePort : Nat := 0x0D0D
/-- SESSION_OPENED -/
abbrev evSessionOpened : Nat := 0x0E01
/-- SESSION_CLOSED -/
abbrev evSessionClosed : Nat := 0x0E02
/-- TAG_FAIL -/
abbrev evTagFail : Nat := 0x0E03
/-- TAMPER: marks N S -/
abbrev evTamper : Nat := 0x0E04
/-- LIFECYCLE_CHANGED: marks N C -/
abbrev evLifecycleChanged : Nat := 0x0E05
/-- KEY_CHANGED -/
abbrev evKeyChanged : Nat := 0x0E06
/-- LEAVES_BURNED -/
abbrev evLeavesBurned : Nat := 0x0E07
/-- IMAGE_REFUSED: marks N -/
abbrev evImageRefused : Nat := 0x0E08
/-- FRESHNESS_LOW -/
abbrev evFreshnessLow : Nat := 0x0E09
/-- SIGNING_STOPPED: marks N -/
abbrev evSigningStopped : Nat := 0x0E0A
/-- SVN_RAISED -/
abbrev evSvnRaised : Nat := 0x0E0B
/-- FLOODGATE_FAULT: marks N C -/
abbrev evFloodgateFault : Nat := 0x0E0C
/-- SENSOR_WARN -/
abbrev evSensorWarn : Nat := 0x0F01
/-- CONDENSATION -/
abbrev evCondensation : Nat := 0x0F02
/-- SHOCK -/
abbrev evShock : Nat := 0x0F03
/-- RAIL_FAULT: marks N S -/
abbrev evRailFault : Nat := 0x0F04
/-- CONFIG_STORED -/
abbrev evConfigStored : Nat := 0x0F05
/-- IMAGE_ERASED -/
abbrev evImageErased : Nat := 0x0F06
/-- IMAGE_VERIFIED -/
abbrev evImageVerified : Nat := 0x0F07
/-- ACTIVATION_DONE: marks N -/
abbrev evActivationDone : Nat := 0x0F08
/-- ACTIVATION_ABANDONED: marks N -/
abbrev evActivationAbandoned : Nat := 0x0F09
/-- ISLAND_START_FAILED: marks N S -/
abbrev evIslandStartFailed : Nat := 0x0F0A
/-- NOR_FAULT: marks N -/
abbrev evNorFault : Nat := 0x0F0B
/-- VCTL_POWER_FAIL: marks N C -/
abbrev evVctlPowerFail : Nat := 0x0F0C
/-- HOLDUP_STATE -/
abbrev evHoldupState : Nat := 0x0F0D
/-- VDRV_STATE: marks N -/
abbrev evVdrvState : Nat := 0x0F0E
/-- VDRV_DISCONNECT: marks N -/
abbrev evVdrvDisconnect : Nat := 0x0F0F
/-- THERMAL_LIMIT -/
abbrev evThermalLimit : Nat := 0x0F10
/-- BASEPLATE_HOT: marks N -/
abbrev evBaseplateHot : Nat := 0x0F11
/-- THERMAL_SHUTDOWN: marks N S -/
abbrev evThermalShutdown : Nat := 0x0F12

/-- Events sent as notifications: mark N of R625 Table 4. -/
def notifying : List Nat :=
  [evConfigUnavailable, evArmed, evDisarmed, evIslandRestarted, evIslandHeld, evPortalState, evStepFallback,
   evMoveDone, evProfileReplanned, evStepPathLost, evBridgeFault, evStallDetected, evRegenBrake, evZoneMark,
   evEncSignalLost, evSspFault, evToothRefError, evObstacle, evObstacleFinal, evStepObstacle, evEdgeFault,
   evDiscrepancy, evCompareLost, evRingSwitchFault, evRingTestOverdue, evLsLatched, evSpillwaySpent, evVlsCut,
   evFiReversed, evFoLatched, evForelandLost, evVfoCut, evClockStep, evTimeQuality, evCanErrorState, evCanTxAborted,
   evCanNoAckPeer, evCanBusFault, evEthLink, evCvStarved, evCvHalt, evCvDescError, evLogGap, evSnapshotTaken,
   evFlushIncomplete, evLogChunk, evLogReadEnd, evDutyTaken, evDutyLapsed, evFence, evArbitration, evDiscord,
   evPairDiscordant, evTamper, evLifecycleChanged, evImageRefused, evSigningStopped, evFloodgateFault, evRailFault,
   evActivationDone, evActivationAbandoned, evIslandStartFailed, evNorFault, evVctlPowerFail, evVdrvState,
   evVdrvDisconnect, evBaseplateHot, evThermalShutdown]

/-- Events that trigger a fault snapshot: mark S of R625 Table 4; DUTY_TAKEN does so with cause EXPIRY alone. -/
def snapshotting : List Nat :=
  [evConfigUnavailable, evIslandHeld, evBridgeFault, evRegenBrake, evObstacleFinal, evDiscrepancy, evRingSwitchFault,
   evLsLatched, evForelandLost, evCvHalt, evArbitration, evTamper, evRailFault, evIslandStartFailed,
   evThermalShutdown]

/-- Events that are critical without a snapshot: mark C of R625 Table 4. -/
def criticalOnly : List Nat :=
  [evClockStep, evSuppressed, evLogGap, evFlushIncomplete, evLifecycleChanged, evFloodgateFault, evVctlPowerFail]

end Sys2Proof.Machine
end

