-- ==== Sys2Proof/Config.lean ====
section
/-! DEFINITION. What the spec leaves open: free values, the cryptographic functions whose values the spec takes from
other standards, and byte layouts the spec does not give. None has a body. -/

namespace Sys2Proof.Config

/-- Fresh free value number n (log entry 2): the spec states no value. The state field `free` counts those used. -/
opaque freeValue : Nat → Nat

/-- DATA bytes of an event (R315, R435): the event tables name items and give them no byte layout (log entry 3). -/
opaque eventData : Nat → List Int → List Byte

/-- KMAC256 (NIST SP 800-185) as R504, R506, R509 and R514 use it: key, X, length in bits, S; the output as a
little-endian number of that many bits (log entry 4). -/
opaque kmac256 : List Byte → List Byte → Nat → String → Nat

/-- SHAKE256 with an output of the given number of bytes, as a little-endian number (log entry 4). -/
opaque shake256 : List Byte → Nat → Nat

/-- An integrator or vendor signature verifies: public key, message, signature (R510, R511; log entry 4). -/
opaque signatureOk : List Byte → List Byte → List Byte → Bool

/-- XMSS^MT signature of the module over a message with a leaf (R501): 9 893 bytes (log entry 4). -/
opaque sign : Nat → List Byte → List Byte

/-- ML-KEM-768 decapsulation (R504): generation of the key pair and ciphertext to shared secret (log entry 4). -/
opaque decapsulate : Nat → List Byte → List Byte

/-- ML-KEM-768 encapsulation key of a generation, 1 184 bytes (R520; log entry 4). -/
opaque kemPublic : Nat → List Byte

/-- XMSS^MT public key of the module, 68 bytes (R501; log entry 4). -/
opaque identityKey : List Byte

/-- The vendor signing public key of a slot, written at manufacture (R512; log entry 4). -/
opaque vendorKey : Nat → List Byte

/-- A byte of the image region of a NOR bank as delivered, by bank and offset (R528): written at manufacture (log entry 5). -/
opaque deliveredImage : Nat → Nat → Byte

/-- The manufacturing serial number (R425): fixed at manufacture (log entry 6). -/
opaque serialNumber : Nat

/-- The lowest MAC address, that of the host port, as its six octets give it (R389): fixed at manufacture (log entry 6). -/
opaque macBase : Nat

/-- HW_REVISION (R324): fixed at build (log entry 6). -/
opaque hwRevision : Nat

/-- MiB by which the cycle region grows at a time: the erase block of R431 has no stated size (log entry 18). -/
opaque eraseBlockMib : Nat

/-- The current of a phase at an instant in ns, mA (R127; log entry 136): twice the axis, and 1 more for phase B. No row brings it; those of
CURRENT_LOOP_UPDATE bring averages over 20 µs. -/
opaque phaseCurrent : Nat → Nat → Int

/-- A trace-queue or servo gain that the spec leaves to the design: number of the gain, operands (log entry 9). -/
opaque servo : Nat → List Int → Int

/-- How far the writing of an item into its two MRAM copies has come when holdup energy ends (R432, R446; log entry 83): free number, item. -/
opaque tornWrite : Nat → Nat → Nat

/-- DESC_ADDR of a transfer of the recorder's own channels, CV14 and CV15 (R404, R423; log entry 165): channel, transfer. -/
opaque ownDesc : Nat → Nat → BitVec 32

/-- START_KEY of a cycle whose PORTAL_STATE was dropped without a key (R433, R444; log entry 166), as a little-endian number: number of the
start. -/
opaque lostKey : Nat → BitVec 128

/-- Where in the band between the levels of its class a comparator of a field input switches (R272; log entry 142), by the input and its
sample: two numbers, of which `ModuleState.rawLevel` keeps to the band and the hysteresis. -/
opaque comparator : Nat → Bool → Nat × Nat

/-- Frames that each of the four queues of an egress port holds (R390; log entry 145). -/
opaque queueDepth : Nat

/-- The MAC address, as its six octets give it, that ARP finds for an IPv4 address at an instant; none: nothing answers (R320, R393; log entry
162). -/
opaque arp : Nat → Nat → Option Nat

/-- The CAN controller whose group key and freshness counter secure TRDP process data (R395 names none; log entry 90), modulo 2. -/
opaque trdpGroup : Nat

/-- A record whose NAND page cannot be read when a block fails a read (R430; log entry 146): free number, block, SEQ of the record. -/
opaque pageLost : Nat → Nat → Nat → Bool

/-- Byte k of a record as its unreadable page delivers it (R430; log entry 146): free number, SEQ of the record, k. -/
opaque pageByte : Nat → Nat → Nat → Byte

/-- Where between its typical and its maximum value a coefficient of Tables 4 and 5 of chapter 19 lies (R557, R559; log entry 152): kind, and the
junction temperature in 0.1 °C; modulo 1 001, in thousandths of the step. -/
opaque share : Nat → Int → Nat

end Sys2Proof.Config
end

