-- ==== Sys2Proof/Machine/Parts.lean ====
section
/-! DEFINITION. The parts of the state, chapter by chapter. Each field's comment gives its width, the file of spec/ and
the rule that names it, its reset value (spec: stated there; DC1: log entry 1; MODEL: the model's own; -: no instance at
reset), and what it holds. -/

namespace Sys2Proof.Machine

/-! ### Islands, reset, arming -/

/-- State of one island (R40 Table 7). -/
inductive IslandState where | running | restarting | stopped
  deriving DecidableEq, Repr

/-- Cause of an island restart (R581 Table 8, LAST_CAUSE). -/
inductive RestartCause where | watchdog | channel | memory | rail | command | activation
  deriving DecidableEq, Repr

/-- One island of R18 Table 1. -/
structure Island where
  /-- 2 | 01 R40 | DC1 running once started | STATE of the island -/
  state : IslandState := .running
  /-- 16 | 01 R40 | spec 0 at power-on | RESTARTS, saturating -/
  restarts : Nat := 0
  /-- 32 | 01 R38 | spec 0 at power-on | TRANSIENT error count, saturating -/
  transient : Nat := 0
  /-- 32 | 01 R38 | spec 0 at power-on | PERSISTENT error count, saturating -/
  persistent : Nat := 0
  /-- 32 | 01 R40 | spec 0 at power-on | SCRUB_PASSES, saturating -/
  scrubPasses : Nat := 0
  /-- list | 01 R39 | DC1 empty | times of the persistent errors of the last 60 s -/
  persTimes : List Nat := []
  /-- time | 01 R39 | DC1 none | time of the last restart under R39 -/
  memRestartAt : Option Nat := none
  /-- 32 | 01 R38 | DC1 0 | transient errors since the last MEM_TRANSIENT -/
  transientSecond : Nat := 0
  /-- time | 01 R38 | DC1 none | time of the last MEM_TRANSIENT -/
  transientAt : Option Nat := none
  /-- list | 20 R573 | DC1 empty | times of the counted restarts of the last hour -/
  restartTimes : List Nat := []
  /-- 3 | 20 R570 | DC1 watchdog | cause of the present or last restart -/
  restartCause : RestartCause := .watchdog
  /-- 2 | 18 R539 | DC1 0 | failed starts from the committed bank -/
  startFails : Nat := 0
  deriving DecidableEq, Repr

/-- Where the module is between power-on and ready (R567, R577, R540, R553). -/
inductive Phase where
  | held      -- held in a module reset
  | starting  -- reset ended, islands starting, not ready
  | ready     -- READY
  | recovery  -- R540
  | lockout   -- third WARDEN_WATCHDOG reset within 1 h (R573)
  deriving DecidableEq, Repr

/-- Reset, start-up and arming (chapter 20). -/
structure ResetState where
  /-- enum | 20 R567 | spec held in the power-on reset | phase of the module -/
  phase : Phase := .held
  /-- 8 | 20 R568 | spec POWER_ON | RESET_CAUSE, HW_STATUS[23:16] -/
  cause : Nat := 0x01
  /-- 1 | 10 R324 | spec 0 | HW_STATUS ARMED -/
  armed : Bool := false
  /-- 16 | 20 R579 | DC1 0 | HOLD_MS in force -/
  holdMs : Nat := 0
  /-- time | 20 R567 | MODEL 0 | beginning of the present or last reset -/
  heldAt : Nat := 0
  /-- time | 20 R581 | DC1 0 | end of the last reset -/
  resetEndAt : Nat := 0
  /-- 16 | 20 R581 | DC1 0 | READY_MS -/
  readyMs : Nat := 0
  /-- 8 | 20 R581 | spec 0xFF none | LAST_ISLAND -/
  lastIsland : Nat := 0xFF
  /-- 3 | 20 R581 | DC1 watchdog | LAST_CAUSE -/
  lastCause : RestartCause := .watchdog
  /-- time | 20 R581 | DC1 0 | time of the last ARMED -/
  armedAt : Nat := 0
  /-- 1 | 20 R572 | DC1 false | the module was armed before the disarming restart and re-arms by itself -/
  autoRearm : Bool := false
  /-- time | 20 R576 | DC1 none | start of the hold window -/
  holdStart : Option Nat := none
  /-- 16 | 20 R576 | DC1 0 | channels taken over in this hold window -/
  holdTaken : Nat := 0
  /-- list | 20 R573 | DC1 empty | times of WARDEN_WATCHDOG resets of the last hour -/
  wardenResets : List Nat := []
  /-- 1 | 20 R581 | DC1 false | MODULE_RESET accepted, its reset not yet begun -/
  resetPending : Bool := false
  /-- list | 20 R581 | DC1 empty | ISLAND_RESTART orders accepted, their restarts not yet begun, in the order placed (R28) -/
  restartOrders : List Nat := []
  deriving DecidableEq, Repr

/-! ### Portals -/

/-- FAULT_CAUSE of Table 16 (R68). -/
inductive FaultCause where
  | none | axisFault | contactDisagree | unexpectedUnlock | unlockDisagree | moveTimeout
  | lockFailed | homingFailed | configUnavailable
  deriving DecidableEq, Repr

/-- Where a HOMING stands in the steps of R61. -/
inductive HomingPhase where | warning | driving | waitLock | reversing | waitReclose
  deriving DecidableEq, Repr

/-- The summary of the running cycle, source of its cycle record (R433). -/
structure CycleSummary where
  /-- 32 | 15 R433 | DC1 none | number of the start: the PORTAL_STATE that gives START_KEY -/
  startNo : Option Nat := none
  /-- 112 | 15 R433 | DC1 none | START_KEY, once the record is taken in: operating time, power cycle, SEQ -/
  startKey : Option (Nat × Nat × Nat) := none
  /-- 1 | 15 R433 | DC1 true | FROM_FIELD: the start lies before the last state from the field -/
  fromField : Bool := true
  /-- time | 15 R433 | DC1 none | operating time of the start, ms -/
  startMs : Option Nat := none
  /-- time | 15 R433 | DC1 none | first entry into OPEN -/
  openMs : Option Nat := none
  /-- time | 15 R433 | DC1 none | first entry into CLOSING -/
  closingMs : Option Nat := none
  /-- time | 15 R433 | DC1 none | last entry into LOCKING -/
  lockingMs : Option Nat := none
  /-- 16 | 15 R433 | DC1 0 | PEAK_FORCE -/
  peakForce : Int := 0
  /-- 8 | 15 R433 | DC1 0 | OBSTACLES, saturating at 255 -/
  obstacles : Nat := 0
  /-- 8 | 15 R433 | DC1 0xFFFF | lowest VDRV of the cycle, 0.1 V, as the warden samples it (R523) -/
  minVdrv : Nat := 0xFFFF
  /-- 16 | 15 R433 | DC1 0 | ENERGY, 10 mJ, measured (log entry 20) -/
  energy : Nat := 0
  /-- 1 | 15 R433 | DC1 false | HOMING in the cycle -/
  homing : Bool := false
  /-- 1 | 15 R433 | DC1 false | REDUCED was set -/
  reduced : Bool := false
  deriving DecidableEq, Repr

/-- One portal (chapter 02). -/
structure Portal where
  /-- 32 | 03 R88 | DC1 none | target of the present reversal: its move is complete there -/
  reverseAim : Option Int := none
  /-- 32 | 15 R433 | DC1 0 | starts of cycles so far -/
  starts : Nat := 0
  /-- 4 | 02 R46 | DC1 CLOSED_LOCKED until the first state from the field (R578) | DOOR_STATE -/
  door : DoorState := .closedLocked
  /-- 3 | 02 R46 | DC1 STOWED (the spec states it without a step axis) | STEP_STATE -/
  step : StepState := .stowed
  /-- 1 | 02 R52 | DC1 false | REDUCED -/
  reduced : Bool := false
  /-- 1 | 02 R52 | DC1 false | OPEN_PENDING -/
  openPending : Bool := false
  /-- 8 | 02 R52 | DC1 0 | RECLOSE_COUNT -/
  recloseCount : Nat := 0
  /-- 8 | 02 R68 | DC1 NONE | FAULT_CAUSE -/
  faultCause : FaultCause := .none
  /-- time | 02 R68 | DC1 0 | entry into DOOR_STATE, from which STATE_TIME and the timeouts run -/
  enteredAt : Nat := 0
  /-- time | 02 R59 | DC1 0 | start of the present step move -/
  stepMoveAt : Nat := 0
  /-- 32 | 02 R59 | DC1 none | target of the present deployment -/
  stepAim : Option Int := none
  /-- 32 | 02 R73 | DC1 0 as delivered, kept for life | DOOR_CYCLES -/
  doorCycles : Nat := 0
  /-- 32 | 02 R73 | DC1 0 as delivered, kept for life | STEP_CYCLES -/
  stepCycles : Nat := 0
  /-- time | 02 R52 | DC1 none | start of the auto-close timer -/
  autoCloseAt : Option Nat := none
  /-- time | 02 R52 | DC1 none | since when contacts A and B disagree -/
  disagreeSince : Option Nat := none
  /-- 4 | 06 R199 | DC1 0 | cause mask of a force declaration waiting for the tick -/
  obstCause : Nat := 0
  /-- 64 | 06 R199 | DC1 0 | measured position at the declaration -/
  obstPos : Int := 0
  /-- 1 | 06 R204 | DC1 false | a step obstacle waits for the tick -/
  stepObst : Bool := false
  /-- 2 | 02 R59 | DC1 0 | obstacles in this stow -/
  stepObstCount : Nat := 0
  /-- time | 02 R59 | DC1 none | start of the 1 s wait before the stow move restarts -/
  stepWaitAt : Option Nat := none
  /-- time | 02 R52 | DC1 none | when the reversal of OBSTRUCTED was done -/
  reversalDoneAt : Option Nat := none
  /-- enum | 02 R61 | DC1 warning | step of the homing procedure -/
  homingPhase : HomingPhase := .warning
  /-- time | 02 R61 | DC1 0 | when the present homing step began -/
  homingPhaseAt : Nat := 0
  /-- 2 | 02 R61 | DC1 0 | failed homing attempts -/
  homingAttempts : Nat := 0
  /-- 1 | 02 R61 | DC1 false | a homing stall waits for the tick -/
  homingStall : Bool := false
  /-- 1 | 02 R52 | DC1 false | stall window exceeded or position declared invalid since the last tick (row 4) -/
  lostPosition : Bool := false
  /-- 1 | 02 R52 | DC1 false | axis fault of the door axis reported since the last tick (row 3) -/
  doorAxisFault : Bool := false
  /-- 1 | 02 R59 | DC1 false | axis fault of the step axis reported since the last tick -/
  stepAxisFault : Bool := false
  /-- 1 | 02 R52 | DC1 false | operator profile or configuration unavailable under R36 (row 41) -/
  configLost : Bool := false
  /-- 1 | 02 R52 | DC1 false | release permission as the last tick saw it -/
  releaseSeen : Bool := false
  /-- 1 | 02 R72 | DC1 false | the door left the LOCK_WINDOW since it was last CLOSED_LOCKED -/
  leftWindow : Bool := false
  /-- 1 | 02 R72 | DC1 false | the step has been DEPLOYED since it was last STOWED -/
  wasDeployed : Bool := false
  /-- 1 | 02 R54 | DC1 false | warning pattern: buzzer phase on -/
  buzOn : Bool := false
  /-- time | 02 R54 | DC1 0 | start of the buzzer phase -/
  buzAt : Nat := 0
  /-- 1 | 02 R54 | DC1 false | warning pattern: outside-lamp phase on -/
  lampOn : Bool := false
  /-- time | 02 R54 | DC1 0 | start of the lamp phase -/
  lampAt : Nat := 0
  /-- 1 | 02 R54 | DC1 false | the warning pattern runs -/
  warning : Bool := false
  /-- 1 | 20 R579 | DC1 false | to be taken from the field once every axis has its validation result -/
  awaitField : Bool := false
  /-- struct | 15 R433 | DC1 empty | summary of the running cycle -/
  cycle : CycleSummary := {}
  /-- list | 15 R437 | DC1 empty | trace codes of the running cycle -/
  trace : List Nat := []
  /-- 16 | 15 R438 | DC1 0 | running decoded speed and force of the trace coder, samples taken -/
  traceRun : Int × Int × Nat := (0, 0, 0)
  /-- 1 | 15 R438 | DC1 true | the next trace sample is FULL -/
  traceFull : Bool := true
  /-- time | 15 R437 | DC1 0 | time of the last trace sample or MARK -/
  traceAt : Nat := 0
  /-- 1 | 15 R437 | DC1 false | a trace record of the running cycle ends at its largest size -/
  traceCut : Bool := false
  deriving DecidableEq, Repr

/-- A portal request waiting for the next tick (R48). -/
inductive PortalReq where
  | openReq (noStep : Bool) (height : Option Nat)
  | closeReq
  | clearReq
  | homeReq
  deriving DecidableEq, Repr

/-- Who raised a portal request: the reference of an in-flight command, or a pushbutton, or row 7. -/
structure Request where
  /-- 3 | 02 R48 | - | portal 1 to 4 -/
  portal : Nat
  /-- enum | 02 R48 | - | what is asked -/
  req : PortalReq
  /-- ref | 02 R48 | - | in-flight command it answers, none for a pushbutton -/
  ref : Option Nat
  /-- 1 | 02 R69 | - | raised by TRAIN_OPEN or TRAIN_CLOSE -/
  train : Bool := false
  /-- 16 | 02 R69 | - | its portal's status, until the train-wide command is answered -/
  answer : Option Nat := none
  deriving DecidableEq, Repr

/-- The profile set and its selection (R62 to R67). -/
structure Profiles where
  /-- bytes | 02 R62 | DC1 empty (no set stored as delivered) | bytes 0 to 1 031 of the set in use; empty: none -/
  set : List Byte := []
  /-- 3 | 02 R64 | DC1 none (no active slot kept as delivered) | active slot kept in MRAM -/
  active : Option Nat := none
  /-- struct | 02 R66 | DC1 none | pending change at the next rest: slot, and since when it is held back -/
  change : Option (Nat × Nat) := none
  /-- bytes | 02 R66 | DC1 none | a newly stored set that is not yet in use -/
  staged : Option (List Byte) := none
  /-- struct | 02 R66 | DC1 none | pending schedule -/
  schedule : Option ProfileSched := none
  /-- 1 | 02 R64 | DC1 false as delivered | a PROFILE_SELECT has been made: the active slot is kept over a power cycle -/
  selected : Bool := false
  /-- 2 | 02 R70 | spec 0 at power-on | platform-height class of the left side -/
  classL : Nat := 0
  /-- 2 | 02 R70 | spec 0 at power-on | platform-height class of the right side -/
  classR : Nat := 0
  deriving DecidableEq, Repr

/-! ### Axes -/

/-- How an axis is being brought to rest (R95). -/
inductive StopKind where | decel | quick
  deriving DecidableEq, Repr

/-- Which step path drives an axis (R101, Table 8). -/
inductive StepPath where | timer | fallback | none
  deriving DecidableEq, Repr

/-- A stretch of a planned trajectory along the direction of travel, with one rate of change of acceleration (R81). -/
structure Piece where
  /-- Rat | 03 R81 | - | how long it lasts, s -/
  dur : Rat
  /-- Rat | 03 R81 | - | acceleration at its beginning, units/s² -/
  acc : Rat
  /-- Rat | 03 R81 | - | rate of change of its acceleration, units/s³ -/
  jerk : Rat
  deriving DecidableEq, Repr

/-- Travel, speed and acceleration at an instant, along the direction of travel. -/
structure Kin where
  /-- Rat | 03 R98 | - | distance travelled, units -/
  x : Rat
  /-- Rat | 03 R98 | - | speed, units/s -/
  v : Rat
  /-- Rat | 03 R98 | - | acceleration, units/s² -/
  a : Rat
  deriving DecidableEq, Repr

/-- The ideal trajectory of an axis on its way (R81, R98): one direction of travel, ending at a commanded position. -/
structure Plan where
  /-- 1 | 03 R98 | - | direction of travel, 1 or −1 -/
  dir : Int
  /-- 32 | 03 R98 | - | commanded position at which it ends -/
  aim : Int
  /-- Rat | 03 R98 | - | instant at which it begins, s -/
  since : Rat
  /-- Rat | 03 R98 | - | position at that instant, units -/
  origin : Rat
  /-- struct | 03 R98 | - | travel 0, speed and acceleration at that instant -/
  begins : Kin
  /-- list | 03 R81 | - | its stretches in order -/
  pieces : List Piece
  deriving DecidableEq, Repr

/-- Motion state of one axis (chapter 03). -/
structure Axis where
  /-- 32 | 03 R75 | spec 0, or the measured position with feedback (R628) | CMD_POS -/
  cmdPos : Int := 0
  /-- 32 | 03 R109 | DC1 0 | CMD_SPEED, units/s -/
  cmdSpeed : Int := 0
  /-- 32 | 03 R109 | DC1 0 | CMD_ACCEL, units/s² -/
  cmdAccel : Int := 0
  /-- 1 | 04 R134 | spec not valid | position valid -/
  posValid : Bool := false
  /-- 1 | 05 R166 | DC1 false | made not valid, and not set under R165 since -/
  lost : Bool := false
  /-- 16 entries | 03 R84 | DC1 empty | move queue, the move in progress first -/
  queue : List Move := []
  /-- 32 | 03 R84 | DC1 0 | position and speed at which the move in progress began -/
  began : Int × Int := (0, 0)
  /-- 32 ×2 | 07 R217 | DC1 0 | sequence number of the latest position word to safety island A and to B -/
  wordSeq : Nat × Nat := (0, 0)
  /-- enum | 03 R95 | DC1 none | a stop in progress -/
  stopping : Option StopKind := none
  /-- 32 | 03 R91 | DC1 0 | DECEL and JERK of the stop in progress -/
  stopRate : Nat × Nat := (0, 0)
  /-- 32 | 03 R91 | DC1 none | position beyond which travel in the present direction does not go: the target of the move
  that a replacement or a stop flushed -/
  bound : Option Int := none
  /-- 32 ×2 | 03 R91 | DC1 0 | greatest DECEL and JERK of the moves flushed with that way, which keep the axis within it -/
  boundRate : Nat × Nat := (0, 0)
  /-- struct | 03 R98 | DC1 none | the trajectory in progress, none at rest -/
  plan : Option Plan := none
  /-- 1 | 03 R90 | DC1 false | the trajectory brings the axis to rest before it reverses, or before it approaches its target anew -/
  turning : Bool := false
  /-- time | 03 R107 | DC1 none | replanning since: the timer repeats its last interval -/
  replanAt : Option Nat := none
  /-- 1 | 20 R580 | DC1 false | its bridge switches off when it comes to rest -/
  offAtRest : Bool := false
  /-- time | 03 R108 | DC1 none | motion paused since -/
  pausedAt : Option Nat := none
  /-- 16 | 03 R109 | spec 0xFFFF none | DONE_ID -/
  doneId : Nat := 0xFFFF
  /-- 16 | 03 R109 | spec 0 at power-on | FALLBACKS, timer faults, saturating -/
  fallbacks : Nat := 0
  /-- 16 | 03 R109 | spec 0 at power-on | REPLANS, saturating -/
  replans : Nat := 0
  /-- enum | 03 R101 | DC1 TIMER | PATH -/
  path : StepPath := .timer
  /-- list | 03 R102 | DC1 empty | times of timer faults -/
  timerFaults : List Nat := []
  /-- 1 | 03 R109 | DC1 false | soft-limit stop since last read -/
  softStop : Bool := false
  /-- 1 | 03 R109 | DC1 false | last reply CLAMPED -/
  clamped : Bool := false
  /-- 3 | 03 R104 | DC1 RES_256 | resolution 0 to 4 -/
  res : Nat := 0
  /-- 2 × 32 | 03 R97 | DC1 empty | interval buffer, units of 5 ns -/
  intervals : List Nat := []
  /-- time | 03 R97 | DC1 0 | when the interval the timer runs began -/
  stepAt : Nat := 0
  /-- 32 | 03 R97 | DC1 none | interval the timer runs, units of 5 ns -/
  interval : Option Nat := none
  /-- 64 | 03 R98 | DC1 0 | rounded time, since the axis left rest, at which the interval the timer runs began, units of 5 ns -/
  stepTime : Nat := 0
  /-- 64 | 03 R98 | DC1 0 | remainder of an interval longer than 32 bits, units of 5 ns -/
  intervalRest : Nat := 0
  /-- 32 | 03 R100 | DC1 0 | step count of the timer -/
  stepCount : Nat := 0
  /-- 48 | 03 R99 | spec cleared at each timer step | phase accumulator of the rate multiplier -/
  phaseAcc : Nat := 0
  /-- time | 03 R99 | DC1 0 | instant up to which the phase accumulator has run -/
  phaseAt : Nat := 0
  /-- 48 | 03 R99 | DC1 0 | increment of the rate multiplier -/
  increment : Nat := 0
  /-- 1 | 19 R555 | DC1 false | planned at half speed under VDRV_LOW -/
  halved : Bool := false
  /-- 32 | 05 R177 | DC1 none | SPEED lowered by a SLOW mark for the move in progress -/
  slowTo : Option Nat := none
  /-- time | 04 R130 | DC1 0 | since when the axis is at rest with an empty queue -/
  restSince : Nat := 0
  /-- time | 05 R161 | DC1 0 | since when the commanded speed is 0 -/
  speedZeroSince : Nat := 0
  deriving DecidableEq, Repr

/-- BRIDGE of the drive status (R144 Table 8). -/
inductive Bridge where | off | driving | holding | latched | testing | braking
  deriving DecidableEq, Repr

/-- Bridge fault causes (R137 Table 4), NONE included. -/
inductive FaultCode where
  | none | shortToVdrv | shortToPgnd | phaseToPhase | overcurrent | openPhase | bridgeOvertemp
  | gateSupply | sluiceStuckOpen | sluiceStuckClosed | testFailed
  deriving DecidableEq, Repr

/-- The copies of an item in the two MRAM halves (R41, R432); none: what lies there fails its CRC, or nothing was ever written. -/
structure Halves (α : Type) where
  half0 : Option α := none
  half1 : Option α := none
  deriving DecidableEq, Repr

/-- An item written to half 0 and then to half 1. -/
def Halves.both {α : Type} (x : α) : Halves α := { half0 := some x, half1 := some x }

/-- An item read from half 0 when it passes there, else from half 1. -/
def Halves.read {α : Type} (h : Halves α) : Option α := h.half0.or h.half1

/-- A change of a list of items written to half 0 and then to half 1. -/
def Halves.onLists {α : Type} (h : Halves (List α)) (f : List α → List α) : Halves (List α) :=
  { half0 := some (f (h.half0.getD [])), half1 := some (f (h.half1.getD [])) }

/-- A write cut off (R432): not begun 0, half 0 spoilt 1, half 0 written 2, half 1 spoilt too 3; what spoiling and writing do to a copy. -/
def Halves.tear {α : Type} (h : Halves α) (n : Nat) (gone write : Option α → Option α) : Halves α :=
  { half0 := if n % 4 = 0 then h.half0 else if n % 4 = 1 then gone h.half0 else write h.half0
    half1 := if n % 4 = 3 then gone h.half1 else h.half1 }

/-- An item written whole, or cut off. -/
def Halves.put {α : Type} (h : Halves α) (cut : Option Nat) (x : α) : Halves α :=
  match cut with
  | none => .both x
  | some n => h.tear n (fun _ => none) fun _ => some x

/-- An angle record of the persistent-state area (R133). -/
structure AngleRecord where
  /-- 10 | 04 R133 | - | electrical angle -/
  angle : Nat
  /-- 32 | 04 R133 | - | commanded position -/
  pos : Int
  /-- 1 | 04 R133 | - | MOVING -/
  moving : Bool
  /-- 32 | 04 R133 | - | power-cycle count -/
  cycle : Nat
  deriving DecidableEq, Repr

/-- Solenoid order of phase B (R125). -/
structure Solenoid where
  /-- 2 | 04 R145 | - | OFF 0, POSITIVE 1, NEGATIVE 2 -/
  state : Nat := 0
  /-- 16 | 04 R145 | - | PULL_MA -/
  pullMa : Nat := 0
  /-- 16 | 04 R145 | - | HOLD_MA -/
  holdMa : Nat := 0
  /-- 16 | 04 R145 | - | PULL_MS -/
  pullMs : Nat := 0
  /-- time | 04 R125 | - | when the order took effect -/
  since : Nat := 0
  /-- 1 | 04 R125 | - | the pull time has ended -/
  holding : Bool := false
  deriving DecidableEq, Repr

/-- The hysteresis chopper of one phase (R127). -/
structure Chopper where
  /-- 1 | 04 R127 | DC1 true | on-time; else off-time -/
  on : Bool := true
  /-- time | 04 R127 | DC1 0 | when the on-time or off-time began -/
  since : Nat := 0
  /-- time | 04 R127 | DC1 0 | when the chopper period began -/
  periodAt : Nat := 0
  /-- 1 | 04 R128 | DC1 false | the decay in effect is fast -/
  fast : Bool := false
  /-- time | 04 R137 | DC1 none | the setpoint is at least 500 mA and the current below 25 % of it since -/
  lowSince : Option Nat := none
  deriving DecidableEq, Repr

/-- Drive state of one axis (chapter 04). -/
structure Drive where
  /-- enum | 04 R144 | spec OFF (R575) | BRIDGE -/
  bridge : Bridge := .off
  /-- 4 | 04 R118 | spec open (R575) | sluices A1 A2 B1 B2, bit set: closed -/
  sluices : Nat := 0
  /-- time | 04 R120 | DC1 none | when the closed sluices of phase A were ordered open -/
  openAt : Option Nat := none
  /-- time | 04 R120 | DC1 none | when the closed sluices of phase B were ordered open -/
  openBAt : Option Nat := none
  /-- 4 | 04 R120 | spec open (R575) | sluices ordered closed -/
  sluiceOrder : Nat := 0
  /-- enum | 04 R137 | spec NONE after a power-on (R138) | FAULT_CODE -/
  fault : FaultCode := .none
  /-- list | 04 R138 | DC1 empty | times of overcurrent latches, codes 1 to 4 -/
  ocTimes : List Nat := []
  /-- 1 | 04 R138 | DC1 false | a BRIDGE_TEST has passed since the fault -/
  testPassed : Bool := false
  /-- 1 | 04 R138 | spec within limits while VDRV present (DEDUCED) | gate supply within limits -/
  gateOk : Bool := true
  /-- 16 s | 04 R122 | DC1 0 | I_A_SET, mA -/
  iaSet : Int := 0
  /-- 16 s | 04 R126 | DC1 0 | I_A_MEAS, mA -/
  iaMeas : Int := 0
  /-- 16 s | 04 R122 | DC1 0 | I_B_SET, mA -/
  ibSet : Int := 0
  /-- 16 s | 04 R126 | DC1 0 | I_B_MEAS, mA -/
  ibMeas : Int := 0
  /-- 16 s | 04 R129 | spec 0 when the bridge is enabled | OFFSET_A, mA -/
  offA : Rat := 0
  /-- 16 s | 04 R129 | spec 0 when the bridge is enabled | OFFSET_B, mA -/
  offB : Rat := 0
  /-- 8 | 04 R144 | DC1 0 | CHOP_KHZ_A and CHOP_KHZ_B -/
  chop : Nat × Nat := (0, 0)
  /-- 1 | 04 R128 | DC1 false | fast decay forced on phase A, B by a falling setpoint -/
  fastNow : Bool × Bool := (false, false)
  /-- struct | 04 R127 | DC1 on-time | choppers of phases A and B -/
  chopper : Chopper × Chopper := ({}, {})
  /-- 1 | 04 R143 | DC1 false | braked: all four low-side devices on -/
  lowOn : Bool := false
  /-- enum | 04 R132 | DC1 OFF | BRIDGE that returns with VDRV -/
  kept : Bridge := .off
  /-- 16 | 04 R123 | DC1 0 | I_amp, mA -/
  iAmp : Rat := 0
  /-- time | 04 R130 | DC1 none | start of the 10 ms standstill ramp -/
  holdRampAt : Option Nat := none
  /-- time | 04 R132 | DC1 none | start of the 2 ms re-entry ramp -/
  reentryAt : Option Nat := none
  /-- 10 | 04 R122 | DC1 0 | electrical angle θ -/
  angle : Nat := 0
  /-- Rat | 04 R123 | DC1 0 | amplitude servoed in STEPPER_CLOSED, mA -/
  servoAmp : Rat := 0
  /-- Rat | 04 R124 | DC1 0 | integral of the speed error -/
  dcInt : Rat := 0
  /-- 16 s | 04 R144, 19 R561 | DC1 0 | BRIDGE_TEMP, 0.1 °C: the estimate of the hottest junction -/
  temp : Int := 0
  /-- 1 | 04 R144 | DC1 false | angle validated since power-on -/
  angleOk : Bool := false
  /-- 1 | 04 R117 | DC1 false | CLAMP_LIMITED -/
  limited : Bool := false
  /-- 1 | 04 R144 | DC1 false | stall since last read -/
  stallFlag : Bool := false
  /-- 1 | 04 R144 | DC1 false | warning since last read -/
  warnFlag : Bool := false
  /-- 1 | 04 R139 | DC1 false | STALL_WARNING logged for this move or standstill -/
  warned : Bool := false
  /-- 8 | 04 R139 | DC1 0 | consecutive samples beyond WARN_WINDOW and STALL_WINDOW -/
  beyond : Nat × Nat := (0, 0)
  /-- 16 | 04 R120 | spec 0 at power-on | SLUICE_HOT_OPENS, saturating -/
  hotOpens : Nat := 0
  /-- 16 | 04 R144 | spec 0 at power-on | LATCHES, saturating -/
  latches : Nat := 0
  /-- 4×2 | 04 R121 | DC1 0 | consecutive comparisons that found a pin following, per pin -/
  following : List Nat := [0, 0, 0, 0]
  /-- time | 04 R134 | DC1 none | angle validation running since -/
  validatingAt : Option Nat := none
  /-- 1 | 04 R134 | DC1 false | waits for validation at the next energisation -/
  awaitVal : Bool := false
  /-- 1 | 04 R137 | DC1 false | that validation uses the angle kept through a latch -/
  valKept : Bool := false
  /-- 2 records | 04 R133 | DC1 none as delivered | angle record in the two halves of MRAM -/
  records : Halves AngleRecord := {}
  /-- struct | 04 R125 | DC1 OFF | solenoid order -/
  solenoid : Solenoid := {}
  /-- 1 | 04 R143 | DC1 false | latched by REGEN_BRAKE -/
  regenLatched : Bool := false
  /-- 10 | 19 R561 | spec unscaled | thermal scale, 1/1000 -/
  scale : Nat := 1000
  deriving DecidableEq, Repr

/-- The angle record as read (R133). -/
def Drive.record (d : Drive) : Option AngleRecord := d.records.read

/-- Module-wide drive state (R142, R143). -/
structure DriveCommon where
  /-- mJ | 04 R142 | DC1 0 | clamp energy accumulator, mJ, and the time it holds for -/
  clampMj : Rat := 0
  /-- time | 04 R142 | DC1 0 | time of the accumulator value -/
  clampAt : Nat := 0
  /-- 1 | 04 R143 | DC1 false | regeneration limit active -/
  regenLimit : Bool := false
  deriving DecidableEq, Repr

/-! ### Feedback -/

/-- Speed status (R169). -/
inductive SpeedState where | still | estimating | valid | invalid
  deriving DecidableEq, Repr

/-- A zone mark (R174 to R177). -/
structure Mark where
  /-- 1 | 05 R174 | DC1 false | armed -/
  armed : Bool := false
  /-- 1 | 05 R181 | DC1 COMMANDED | SOURCE measured -/
  measured : Bool := false
  /-- 2 | 05 R175 | DC1 0 | DIRECTION: POSITIVE 0, NEGATIVE 1, BOTH 2 -/
  dir : Nat := 0
  /-- 3 | 05 R177 | DC1 0 | ACTION of Table 4 -/
  action : Nat := 0
  /-- 32 s | 05 R175 | DC1 0 | POSITION M -/
  pos : Int := 0
  /-- 32 | 05 R177 | DC1 0 | VALUE -/
  value : Nat := 0
  /-- 16 | 05 R175 | DC1 0 | HYST -/
  hyst : Nat := 0
  /-- 1 | 05 R175 | DC1 false | REARM -/
  rearm : Bool := false
  /-- 1 | 05 R178 | DC1 false | NOTIFY -/
  notify : Bool := false
  /-- 1 | 05 R175 | DC1 true | may fire: after a firing with REARM, false until HYST has been left -/
  ready : Bool := true
  /-- 1 | 05 R175 | DC1 false | last compared difference position − M was negative -/
  below : Bool := false
  deriving DecidableEq, Repr

/-- Latch states (R181 Table 9). -/
inductive LatchState where | idle | armed | captured | stale
  deriving DecidableEq, Repr

/-- A position latch (R179). -/
structure Latch where
  /-- enum | 05 R179 | DC1 IDLE | STATE -/
  state : LatchState := .idle
  /-- 1 | 05 R181 | DC1 false | SOURCE is INDEX -/
  index : Bool := false
  /-- 6 | 05 R181 | DC1 0 | INPUT -/
  input : Nat := 0
  /-- 2 | 05 R181 | DC1 0 | EDGE: RISING 0, FALLING 1, BOTH 2 -/
  edge : Nat := 0
  /-- 1 | 05 R180 | DC1 false | NOTIFY -/
  notify : Bool := false
  /-- 16 | 05 R179 | DC1 0 | MISSED, saturating -/
  missed : Nat := 0
  /-- 64 s | 05 R179 | DC1 0 | MEAS_POS -/
  meas : Int := 0
  /-- 32 s | 05 R179 | DC1 0 | CMD_POS -/
  cmd : Int := 0
  /-- 80 | 05 R179 | DC1 0 | STAMP seconds and nanoseconds -/
  stamp : Nat × Nat := (0, 0)
  deriving DecidableEq, Repr

/-- An edge on a line of an encoder input that MIN_EDGE still holds back (R157). -/
structure HeldEdge where
  /-- 2 | 05 R157 | - | line A 0, B 1, Z 2, A and B within the same 5 ns 3 -/
  line : Nat
  /-- stamp | 05 R157 | - | when it occurred, to 5 ns -/
  stamp : Nat
  /-- 2 | 05 R158 | - | levels of lines A and B after it -/
  levels : Bool × Bool
  /-- 1 | 05 R179 | - | level of line Z after it -/
  index : Bool
  /-- 1 | 05 R157 | - | rejected: a further edge followed within MIN_EDGE -/
  rejected : Bool
  /-- 1 | 05 R161 | - | the commanded speed was positive as it occurred; none: 0 for more than 10 ms -/
  aim : Option Bool
  deriving DecidableEq, Repr

/-- Feedback state of one axis (chapter 05). -/
structure Feedback where
  /-- 1 | 05 R172 | DC1 false | the OFFSET record waits to be written until the recorder runs -/
  offsetDue : Bool := false
  /-- 32 s | 05 R162 | spec 0 (R628) | counter; sensor word for SERIAL -/
  counter : Int := 0
  /-- 32 s | 05 R162 | spec 0 (R628) | extension word -/
  ext : Int := 0
  /-- 64 s | 05 R164 | spec 0 (R628) | OFFSET -/
  offset : Int := 0
  /-- 2 records | 05 R172 | DC1 none as delivered | OFFSET record of a SERIAL source in the two halves of MRAM -/
  offsetRecs : Halves Int := {}
  /-- 16 s | 05 R163 | DC1 0 | revolution tally -/
  revs : Int := 0
  /-- 32 | 05 R159 | spec 0 since power-on | edge-fault counter, saturating -/
  edgeFaults : Nat := 0
  /-- list | 05 R159 | DC1 empty | times of edge faults of the last 1 s -/
  faultTimes : List Nat := []
  /-- 32 | 05 R159 | DC1 0 | faults since the last EDGE_FAULTS, and when that was logged -/
  faultsSecond : Nat × Nat := (0, 0)
  /-- 2 | 05 R158 | DC1 low | levels of lines A and B after the last accepted edge -/
  lines : Bool × Bool := (false, false)
  /-- list | 05 R157 | DC1 empty | edges of the last MIN_EDGE that are not yet accepted, oldest first -/
  heldEdges : List HeldEdge := []
  /-- 1 | 05 R160 | DC1 false | signal lost -/
  signalLost : Bool := false
  /-- time | 05 R160 | DC1 0 | last instant at which the signal was found bad, or its supply off -/
  badAt : Nat := 0
  /-- 1 | 05 R151 | DC1 false | encoder supply switched off by overload -/
  supplyFault : Bool := false
  /-- time | 05 R151 | DC1 0 | when the supply was switched off by overload -/
  supplyAt : Nat := 0
  /-- 1 | 05 R151 | spec off in reset (R575) | encoder supply output on -/
  supplyOn : Bool := false
  /-- 1 | 05 R152 | spec disconnected in reset (R153) | termination connected -/
  term : Bool := false
  /-- 1 | 05 R162 | DC1 false | wrap since the last 20 µs update; an earlier one not yet read stands in that update's entry -/
  wrapped : Bool := false
  /-- enum | 05 R169 | DC1 STILL | speed status -/
  speed : SpeedState := .still
  /-- Rat | 05 R167 | DC1 0 | p_hat -/
  pHat : Rat := 0
  /-- Rat | 05 R167 | DC1 0 | v_hat -/
  vHat : Rat := 0
  /-- Rat | 05 R167 | DC1 0 | a_hat -/
  aHat : Rat := 0
  /-- stamp | 05 R168 | DC1 none | stamps t_last and t_prev of counting edges, ns -/
  tLast : Option Nat := none
  tPrev : Option Nat := none
  /-- 1 | 05 R169 | DC1 true | last counting edge was positive -/
  lastUp : Bool := true
  /-- 1 | 05 R169 | DC1 false | an edge against the last direction was taken in VALID: speed is v_hat -/
  reversed : Bool := false
  /-- 32 s | 05 R168 | DC1 0 | reported SPEED -/
  repSpeed : Rat := 0
  /-- 32 s | 05 R168 | DC1 0 | reported ACCEL -/
  repAccel : Rat := 0
  /-- 2 | 05 R171 | DC1 0 | consecutive bad readings -/
  sspBad : Nat := 0
  /-- 7 | 05 R171 | DC1 0 | consecutive good readings while in fault -/
  sspGood : Nat := 0
  /-- 1 | 05 R171 | DC1 false | serial port in fault -/
  sspFault : Bool := false
  /-- 1 | 05 R172 | DC1 false | a good reading has been taken since start-up -/
  sspSeen : Bool := false
  /-- 32 s | 05 R170 | DC1 none | sensor position not yet taken by the observer -/
  sspMeas : Option Int := none
  /-- 1 | 05 R171 | DC1 false | BiSS-C warning bit -/
  sspWarn : Bool := false
  /-- time | 05 R170 | DC1 none | last reading of the serial port -/
  sspAt : Option Nat := none
  /-- 64 | 05 R161 | DC1 none | stamp and interval of the last tooth, ns -/
  tooth : Option (Nat × Nat) := none
  /-- 32 | 05 R161 | DC1 none | count since the first reference -/
  sinceRef : Option Int := none
  /-- 32 | 05 R183 | DC1 0 | count since the last reference -/
  sinceLast : Int := 0
  /-- 8 | 05 R174 | DC1 none armed | zone marks 0 to 7 -/
  marks : List Mark := List.replicate 8 {}
  /-- 2 | 05 R179 | DC1 IDLE | latches 0 and 1 -/
  latches : List Latch := List.replicate 2 {}
  /-- list | 05 R180 | DC1 empty | history of the measured position over the last 1.024 ms: time, position -/
  history : List (Nat × Int) := []
  /-- 32 bytes | 05 R181 | DC1 empty | feedback status entry of the last 20 µs update; empty before the first -/
  shown : List Byte := []
  deriving DecidableEq, Repr

/-- The OFFSET record as read (R172). -/
def Feedback.offsetRec (f : Feedback) : Option Int := f.offsetRecs.read

/-! ### Obstacle detection -/

/-- Edge states (R205, Table 9). -/
inductive EdgeState where | none | normal | actuated | faultOpen | faultShort
  deriving DecidableEq, Repr

/-- Obstacle state of one portal (chapter 06). -/
structure Obstacle where
  /-- 1 | 06 R195 | DC1 false | the map record waits to be written until the recorder runs -/
  mapDue : Bool := false
  /-- 1 | 06 R195 | DC1 false | the maps wait to be taken from MRAM until the recorder runs -/
  mapWanted : Bool := false
  /-- enum | 06 R205 | DC1 none | state of the edge input -/
  edge : EdgeState := .none
  /-- time | 06 R207 | DC1 0 | since when the edge is in that state -/
  edgeSince : Nat := 0
  /-- 1 | 06 R207 | DC1 false | edge degraded -/
  degraded : Bool := false
  /-- 1 | 06 R207 | DC1 false | EDGE_FAULT logged for the present fault of the edge -/
  edgeFaultLogged : Bool := false
  /-- list | 06 R189 | DC1 empty | last 50 values of F_r -/
  samples : List Rat := []
  /-- Rat | 06 R189 | DC1 0 | mean resisting force F̄_r, N -/
  force : Rat := 0
  /-- Rat | 06 R197 | DC1 none | present limit of Table 4 -/
  limit : Option Rat := none
  /-- Rat | 06 R189 | DC1 0 | kinetic energy, mJ -/
  ke : Rat := 0
  /-- 8 | 06 R190 | DC1 0 | present bin -/
  bin : Nat := 0
  /-- 4 | 06 R210 | DC1 0 | LAST_CAUSE -/
  lastCause : Nat := 0
  /-- 32 | 06 R208 | spec 0 since power-on | OBSTACLES, saturating -/
  obstacles : Nat := 0
  /-- record | 06 R195 | spec reset maps | working map -/
  work : MapRecord := {}
  /-- record ×2 | 06 R195 | spec all zeros as delivered | map record of MRAM half 0 and half 1 -/
  half0 : MapRecord := {}
  half1 : MapRecord := {}
  /-- list | 06 R191 | DC1 empty | sums and numbers of F̄_r updates per bin of the present move -/
  binSums : List (Nat × Rat × Nat) := []
  /-- list | 06 R192 | DC1 empty | the finished CLOSING move's samples, waiting for row 32 -/
  closeSums : List (Nat × Rat × Nat) := []
  /-- 1 | 06 R191 | DC1 false | the present move can no longer be a good move -/
  spoiled : Bool := false
  /-- 1 | 06 R191 | DC1 true | a counted cycle since the last HOMING, or none since power-on -/
  cycleSinceHoming : Bool := true
  /-- 32 | 06 R212 | DC1 0 | good cycles taken, OPEN and CLOSE -/
  goodCycles : Nat × Nat := (0, 0)
  /-- time | 06 R198 | DC1 none | first update at which F̄_r was above its limit -/
  overSince : Option Nat := none
  /-- time | 06 R202 | DC1 none | since when the energy exceeds 1.25 KE_LIMIT -/
  keSince : Option Nat := none
  /-- 1 | 06 R202 | DC1 false | KE_EXCEEDED logged in this move -/
  keLogged : Bool := false
  /-- 2 | 06 R194 | DC1 false | FRICTION_DRIFT logged this power cycle, OPEN and CLOSE -/
  driftLogged : Bool × Bool := (false, false)
  /-- Rat | 06 R210 | DC1 0 | PEAK_CLOSE -/
  peakClose : Rat := 0
  /-- list | 06 R204 | DC1 empty | last 50 values of the step's F_r -/
  stepSamples : List Rat := []
  /-- Rat | 06 R204 | DC1 0 | STEP_FORCE -/
  stepForce : Rat := 0
  /-- time | 06 R204 | DC1 none | first update at which the step force was above its limit -/
  stepOverSince : Option Nat := none
  deriving DecidableEq, Repr

/-! ### Dike ring -/

/-- LATCH_CAUSE (R237 Table 9). -/
inductive RingLatch where
  | none | discrepancy | settings | switchA | switchB | switchBoth | test
  deriving DecidableEq, Repr

/-- A comparison word (R224). -/
structure CompareWord where
  /-- 32 | 07 R224 | - | evaluation count -/
  count : Nat := 0
  /-- 16 | 07 R224 | - | safety-input samples -/
  inputs : Nat := 0
  /-- 4 | 07 R224 | - | confirmed mask -/
  confirmed : Nat := 0
  /-- 1 | 07 R224 | - | close_ok -/
  closeOk : Bool := false
  /-- 1 | 07 R224 | - | left release -/
  left : Bool := false
  /-- 1 | 07 R224 | - | right release -/
  right : Bool := false
  /-- 32 | 07 R224 | - | settings CRC -/
  crc : Nat := 0
  deriving DecidableEq, Repr

/-- An item in which the islands differ (R225). -/
structure Diff where
  /-- 2 | 07 R240 | - | INPUT 0, CONFIRMED 1, CLOSE 2, RELEASE 3 -/
  kind : Nat
  /-- 5 | 07 R240 | - | input or portal; for RELEASE left 0, right 1 -/
  index : Nat
  /-- time | 07 R225 | - | since when it differs -/
  since : Nat
  /-- 1 | 07 R225 | - | DISCREPANCY logged for it -/
  logged : Bool := false
  deriving DecidableEq, Repr

/-- An enabled portal as a safety island's copy of the configuration has it (R221). -/
structure RingDoor where
  /-- 3 | 07 R221 | - | the portal -/
  portal : Nat
  /-- 5 | 07 R221 | - | CL_A_FI -/
  clA : Nat
  /-- 5 | 07 R221 | - | CL_B_FI -/
  clB : Nat
  /-- 5 | 07 R221 | - | ISOLATE_FI -/
  isolate : Nat
  deriving DecidableEq, Repr

/-- One safety island with its ring switch (chapter 07). -/
structure Safety where
  /-- 16 | 07 R216 | spec inactive until frames arrive (R298) | samples of FI01 to FI16 on its lane -/
  inputs : Nat := 0
  /-- 4 × (time, bit, 32) | 07 R217 | spec counts as not at the closed end | latest position words: time, AT_CLOSED, sequence number -/
  words : List (Option (Nat × Bool × Nat)) := [none, none, none, none]
  /-- 32 bytes | 07 R218 | DC1 empty (no configuration) | its copy of the ring settings entry -/
  copy : List Byte := []
  /-- list | 07 R221 | DC1 empty (no configuration) | its copy of the enabled portals' contacts and isolation switches -/
  doors : List RingDoor := []
  /-- struct | 07 R220 | spec none held after a reset | RELEASE_MODE of the active profile and SIDE mask held -/
  settings : Option (Nat × Nat) := none
  /-- 32 | 07 R218 | DC1 0 | CRC-32 over its settings copy -/
  crc : Nat := 0
  /-- struct | 07 R224 | DC1 0 | its latest evaluation -/
  own : CompareWord := {}
  /-- struct | 07 R224 | DC1 none | latest comparison word received -/
  seen : Option CompareWord := none
  /-- 8 | 07 R227 | DC1 0 | own evaluations since the last valid comparison word -/
  missed : Nat := 0
  /-- 8 | 07 R227 | DC1 0 | consecutive comparison words received -/
  run : Nat := 0
  /-- 1 | 07 R227 | DC1 true (R233: no words received yet) | comparison words lost -/
  lost : Bool := true
  /-- 1 | 07 R227 | DC1 false | COMPARE_LOST logged for this loss -/
  lostLogged : Bool := false
  /-- time | 07 R222 | DC1 none | close_ok held since -/
  closeSince : Option Nat := none
  /-- time | 07 R223 | DC1 none | left held since; right held since -/
  leftSince : Option Nat := none
  rightSince : Option Nat := none
  /-- 2 | 07 R223 | spec withdrawn | left and right reported as granted -/
  grantL : Bool := false
  grantR : Bool := false
  /-- 1 | 07 R233 | spec off at reset | carrier on (switch commanded closed) -/
  carrier : Bool := false
  /-- 1 | 07 R215 | spec open at reset | the switch conducts -/
  closed : Bool := false
  /-- 1 | 07 R233 | DC1 false | the first closing since the reset has been made -/
  firstClosed : Bool := false
  /-- 1 | 07 R233 | DC1 false | the switch has been read as open since the reset -/
  readOpen : Bool := false
  /-- enum | 07 R228 | spec none after a reset | its latch -/
  latch : RingLatch := .none
  /-- list | 07 R225 | DC1 empty | items in which its evaluation differs now from the other island's words -/
  diffs : List Diff := []
  /-- time | 07 R231 | DC1 none until first closed | next due time of the periodic test -/
  testDue : Option Nat := none
  /-- time | 07 R231 | DC1 none | time of the last passed test -/
  lastPass : Option Nat := none
  /-- time | 07 R231 | DC1 0 | from when the 24 h without a pass count -/
  overdueFrom : Nat := 0
  /-- 1 | 07 R231 | DC1 false | test overdue -/
  overdue : Bool := false
  /-- time | 07 R232 | DC1 none | a test pulse runs since -/
  pulseAt : Option Nat := none
  /-- 16 | 07 R239 | DC1 0 | own-path current before the pulse, mA -/
  before : Nat := 0
  /-- 16 | 07 R229 | DC1 0 | own-path current it has read, mA (0: inactive, R295) -/
  loopMa : Nat := 0
  /-- 16 | 07 R229 | DC1 0 | voltage across SW_A it has read, 0.1 V -/
  vA : Nat := 0
  /-- 16 | 07 R229 | DC1 0 | voltage across SW_B it has read, 0.1 V -/
  vB : Nat := 0
  deriving DecidableEq, Repr

/-- A running RING_TEST (R238, R239). -/
structure RingTest where
  /-- 2 | 07 R237 | - | SWITCH -/
  which : Nat
  /-- ref | 07 R238 | - | in-flight command -/
  ref : Nat
  /-- 1 | 07 R239 | - | proof test -/
  proof : Bool
  /-- list | 07 R239 | - | steps 1 to 3, or pulses on SW_A 0 and SW_B 1, still to start -/
  todo : List Nat
  /-- struct | 07 R239 | - | the step that runs, and since when -/
  running : Option (Nat × Nat) := none
  /-- time | 07 R239 | - | when the present or next step starts -/
  stepAt : Nat
  /-- 2 | 07 R237 | - | RESULT_A, RESULT_B -/
  resA : Nat := 3
  resB : Nat := 3
  /-- 16 | 07 R237 | - | I_BEFORE, I_DURING -/
  iBefore : Nat := 0
  iDuring : Nat := 0
  deriving DecidableEq, Repr

/-- The dike ring (chapter 07). -/
structure DikeRing where
  a : Safety := {}
  b : Safety := {}
  /-- 5 | 07 R230 | DC1 none | read-back observations held now: row of Table 3 (the last one for SW_A 3, SW_B 4), since, reported -/
  obs : List (Nat × Nat × Bool) := []
  /-- 2 | 07 R228 | DC1 none | SW_A, SW_B affected by a fault with no RING_TEST passed since -/
  unproved : Bool × Bool := (false, false)
  /-- time | 07 R231 | DC1 none | due time of the first test of SW_A -/
  firstTest : Option Nat := none
  /-- 32 | 07 R237 | spec 0 since power-on | OPENINGS, saturating -/
  openings : Nat := 0
  /-- 1 | 07 R240 | spec open | the ring was last logged as closed -/
  closedLogged : Bool := false
  /-- 2 | 07 R240 | DC1 0 | combined side mask last logged by RELEASE_CHANGED -/
  sideMask : Nat := 0
  /-- struct | 07 R238 | DC1 none | running RING_TEST -/
  test : Option RingTest := none
  deriving DecidableEq, Repr

/-! ### Load channels -/

/-- One load channel (chapter 08). Its STATE of R245 is computed from these fields by `lsState`. -/
structure Load where
  /-- 1 | 08 R246 | spec off (R575) | DEMAND -/
  demand : Bool := false
  /-- 1 | 08 R245 | spec off (R575) | the switch is on, or follows its source -/
  on : Bool := false
  /-- 1 | 08 R245 | DC1 false | current held at I_LIMIT -/
  limiting : Bool := false
  /-- 1 | 08 R248 | DC1 false | THERMAL_OFF -/
  thermalOff : Bool := false
  /-- 1 | 08 R250 | spec clear at power-on (R255) | LATCHED -/
  latched : Bool := false
  /-- 1 | 08 R253 | spec clear at power-on (R255) | SPENT -/
  spent : Bool := false
  /-- 1 | 08 R263 | DC1 false | VLS_CUT -/
  cut : Bool := false
  /-- 1 | 08 R253 | DC1 false | off only because of MODULE_SPENT -/
  heldSpent : Bool := false
  /-- 1 | 20 R576 | DC1 false | held on through a restart in the hold window -/
  held : Bool := false
  /-- 1 | 08 R260 | DC1 false | GENERATOR mode: in the on-phase of its generator -/
  phaseOn : Bool := false
  /-- time | 08 R257 | DC1 0 | start of the present or latest on-phase of its source -/
  phaseAt : Nat := 0
  /-- time | 08 R257 | DC1 none | end of the latest on-phase of at least 100 µs -/
  longAt : Option Nat := none
  /-- time | 08 R258 | DC1 0 | since when the switch is off -/
  offSince : Nat := 0
  /-- 4 | 08 R249 | spec 0 at power-on (R255) | RETRIES -/
  retries : Nat := 0
  /-- 1 | 08 R264 | DC1 false | cooled while VLS was cut: the restart at recovery uses a retry -/
  oweRetry : Bool := false
  /-- 1 | 08 R257 | DC1 false | open load while on -/
  openOn : Bool := false
  /-- 1 | 08 R258 | DC1 false | open load while off -/
  openOff : Bool := false
  /-- 1 | 08 R259 | DC1 false | high while off -/
  highOff : Bool := false
  /-- 1 | 08 R261 | DC1 false | expected high -/
  expectedHigh : Bool := false
  /-- Rat mJ | 08 R255 | spec 250 mJ at power-on | accumulator, at accumAt -/
  accum : Rat := 250
  /-- time | 08 R252 | DC1 0 | time of the accumulator value -/
  accumAt : Nat := 0
  /-- 16 | 08 R265 | DC1 0 | LAST_CLAMP, 0.1 mJ, saturating -/
  lastClamp : Nat := 0
  /-- 32 | 08 R265 | spec 0 since power-on | TURN_OFFS, saturating -/
  turnOffs : Nat := 0
  /-- 16 | 08 R265 | spec 0 since power-on | SHUTDOWNS, saturating -/
  shutdowns : Nat := 0
  /-- time | 08 R249 | DC1 0 | since when ON or LIMITING without a thermal shutdown -/
  onSince : Nat := 0
  /-- 1 | 08 R261 | DC1 false | the partner's published state is on -/
  partnerOn : Bool := false
  deriving DecidableEq, Repr

/-- The load-channel part common to all channels. -/
structure LoadCommon where
  /-- Rat mJ | 08 R255 | spec 1.5 J at power-on | module accumulator, copy of M1 -/
  accum1 : Rat := 1500
  /-- Rat mJ | 08 R255 | spec 1.5 J at power-on | module accumulator, copy of M2 -/
  accum2 : Rat := 1500
  /-- time | 08 R252 | DC1 0 | time of the module accumulator values -/
  accumAt : Nat := 0
  /-- 1 | 08 R253 | spec clear at power-on (R255) | MODULE_SPENT -/
  moduleSpent : Bool := false
  /-- 4 × (12, 15) | 08 R265 | spec DUTY 0, 100 Hz at power-on | PG1 to PG4: DUTY, FREQ as set -/
  pg : List (Nat × Nat) := List.replicate 4 (0, 100)
  /-- 2 × 4 × (12, 15) | 08 R260 | spec DUTY 0, 100 Hz at power-on | settings in use by the copies of M1 and of M2 -/
  pgUse : List (Nat × Nat) := List.replicate 8 (0, 100)
  /-- 2 × 4 × time | 08 R260 | DC1 none | start of the present period of the copies of M1 and of M2 -/
  pgAt : List (Option Nat) := List.replicate 8 none
  /-- 4 | 08 R260 | DC1 low | levels of LSPWM0 to LSPWM3 -/
  pins : List Bool := List.replicate 4 false
  /-- 16 | 08 R263 | DC1 0 | VLS, 0.1 V -/
  vls : Nat := 0
  /-- 1 | 08 R263 | DC1 false | VLS-low flag -/
  vlsLow : Bool := false
  /-- 1 | 08 R263 | DC1 false | VLS below its cut-off -/
  vlsCut : Bool := false
  /-- time | 08 R263 | DC1 0 | time of the last restart step after recovery -/
  restartAt : Nat := 0
  deriving DecidableEq, Repr

/-! ### Foreland -/

/-- Supervised states (R281 Table 3). -/
inductive SupState where | normal | actuated | faultOpen | faultShort
  deriving DecidableEq, Repr

/-- One field input (chapter 09). -/
structure FieldIn where
  /-- 1 | 09 R275 | spec reads inactive (R298) | filtered level, sample 1 -/
  level : Bool := false
  /-- 1 | 09 R279 | spec reads inactive (R298) | filtered level, sample 2 -/
  level2 : Bool := false
  /-- 2 | 09 R272 | DC1 inactive | raw levels of the comparators of sample 1 and sample 2 -/
  raw : Bool := false
  raw2 : Bool := false
  /-- 2 | 09 R298 | spec SETTLING at power-on | SETTLING, of sample 1 and of sample 2 -/
  settling : Bool := true
  settling2 : Bool := true
  /-- time | 09 R280 | DC1 none | since when the samples differ -/
  differSince : Option Nat := none
  /-- 1 | 09 R280 | DC1 false | DISAGREE -/
  disagree : Bool := false
  /-- 1 | 09 R274 | DC1 false | REVERSED -/
  reversed : Bool := false
  /-- 32 | 09 R275 | spec 0 since power-on | glitch counter, saturating -/
  glitches : Nat := 0
  /-- 80 | 09 R300 | spec 0 when none | LAST_EDGE -/
  lastEdge : Nat × Nat := (0, 0)
  /-- 32 | 09 R281 | DC1 0 | loop resistance, Ω -/
  ohms : Nat := 0
  /-- 2 | 09 R281 | DC1 NORMAL | supervised state -/
  sup : SupState := .normal
  /-- time | 09 R282 | DC1 0 | since when in that supervised state -/
  supSince : Nat := 0
  /-- 1 | 09 R282 | DC1 false | SUP_FAULT logged for this fault -/
  supLogged : Bool := false
  /-- struct | 09 R281 | DC1 none | a new supervised state being filtered: code, since -/
  supNew : Option (Nat × Nat) := none
  /-- time | 09 R273 | DC1 none | start of the last wetting pulse -/
  wetAt : Option Nat := none
  /-- 2 | 09 R298 | DC1 false | level and sample 2 in the polder side's image -/
  image : Bool := false
  image2 : Bool := false
  /-- 2 | 09 R293 | DC1 NORMAL | supervised state in the polder side's image -/
  supImage : SupState := .normal
  deriving DecidableEq, Repr

/-- One field output (chapter 09). Its STATE of R285 is computed by `foState`. -/
structure FieldOut where
  /-- 1 | 09 R285 | spec off (R575) | DEMAND -/
  demand : Bool := false
  /-- 1 | 09 R285 | spec off (R575) | the switch is on -/
  on : Bool := false
  /-- 2 | 09 R287 | DC1 0 | cause of the last shutdown: overload 1, over-temperature 2 -/
  lastCause : Nat := 0
  /-- time | 09 R286 | DC1 none | OVERLOAD_OFF since -/
  overloadAt : Option Nat := none
  /-- 1 | 09 R286 | DC1 false | THERMAL_OFF -/
  thermalOff : Bool := false
  /-- 1 | 09 R287 | DC1 false | LATCHED -/
  latched : Bool := false
  /-- 1 | 09 R292 | DC1 false | VFO_CUT -/
  cut : Bool := false
  /-- 1 | 09 R295 | DC1 false | LINK_OFF -/
  linkOff : Bool := false
  /-- 1 | 09 R299 | DC1 false | a retry is used at the next restart -/
  oweRetry : Bool := false
  /-- 4 | 09 R287 | DC1 0 | RETRIES -/
  retries : Nat := 0
  /-- 1 | 09 R288 | DC1 false | open wire while on -/
  openOn : Bool := false
  /-- 1 | 09 R288 | DC1 false | open wire while off -/
  openOff : Bool := false
  /-- 1 | 09 R288 | DC1 false | high while off -/
  highOff : Bool := false
  /-- 1 | 09 R290 | DC1 false | expected high -/
  expectedHigh : Bool := false
  /-- 16 | 09 R300 | spec 0 since power-on | SHUTDOWNS, saturating -/
  shutdowns : Nat := 0
  /-- time | 09 R287 | DC1 0 | since when on without a shutdown (R249) -/
  onSince : Nat := 0
  /-- time | 09 R288 | DC1 0 | since when the switch is off -/
  offSince : Nat := 0
  /-- 1 | 09 R290 | DC1 false | the partner's published state is on -/
  partnerOn : Bool := false
  deriving DecidableEq, Repr

/-- Lane states (R300 Table 15). -/
inductive LaneState where | up | lost | recovering
  deriving DecidableEq, Repr

/-- One barrier-link lane (R293). -/
structure Lane where
  /-- 2 | 09 R300 | DC1 UP | STATE -/
  state : LaneState := .up
  /-- 16 | 09 R300 | spec 0 since power-on | LOSSES, saturating -/
  losses : Nat := 0
  /-- 32 | 09 R300 | DC1 0 | FRAMES_OK, wrapping -/
  framesOk : Nat := 0
  /-- 32 | 09 R300 | DC1 0 | CRC_ERRORS, saturating -/
  crcErrors : Nat := 0
  /-- 32 | 09 R300 | DC1 0 | SEQ_ERRORS, saturating -/
  seqErrors : Nat := 0
  /-- 8 | 09 R294 | DC1 none | sequence number of the last valid frame -/
  seq : Option Nat := none
  /-- 4 | 09 R295 | DC1 0 | consecutive lost frames -/
  lostRun : Nat := 0
  /-- 4 | 09 R296 | DC1 0 | consecutive valid frames while recovering -/
  goodRun : Nat := 0
  /-- time | 09 R296 | DC1 0 | start of the loss -/
  lostAt : Nat := 0
  /-- time | 09 R296 | DC1 0 | end of the last loss -/
  backAt : Nat := 0
  deriving DecidableEq, Repr

/-- An edge waiting in the foreland edge queue (R278). -/
structure Edge where
  /-- 6 | 09 R276 | - | input 1 to 48 -/
  input : Nat
  /-- 1 | 09 R276 | - | new filtered level -/
  level : Bool
  /-- 80 | 09 R276 | - | stamp -/
  stamp : Nat × Nat
  /-- time | 09 R276 | - | world time of the stamp, for the latches of R180 -/
  at_ : Nat
  /-- 1 | 09 R277 | - | FREE_RUN -/
  freeRun : Bool
  deriving DecidableEq, Repr

/-- The foreland part common to inputs and outputs. -/
structure Foreland where
  inputs : List FieldIn := List.replicate 48 {}
  outputs : List FieldOut := List.replicate 16 {}
  /-- 48, 16 | 09 R293 | spec as inputs and outputs at power-on | inputs and outputs as the last frame of the general lane carried them -/
  seenIn : List FieldIn := List.replicate 48 {}
  seenOut : List FieldOut := List.replicate 16 {}
  /-- 3 × 16 | 09 R293 | DC1 0 | ring read-back of the last frame of the general lane: mA, and 0.1 V across SW_A and SW_B -/
  seenRing : Nat × Nat × Nat := (0, 0, 0)
  /-- number | 09 R295 | DC1 none | the free values that stand for what the last frame of a lost general lane had measured -/
  frozen : Option Nat := none
  /-- time, 80 | 09 R277 | DC1 none | when the foreland's copy of module time began to run free, and its count then, ns -/
  copied : Option (Nat × Nat) := none
  /-- 3 | 09 R293 | DC1 UP | the lanes general, A and B as the polder side sees them -/
  lanes : List Lane := List.replicate 3 {}
  /-- 3 | 09 R295 | DC1 UP | the same lanes as the foreland sees them: state, last sequence number, runs -/
  fore : List Lane := List.replicate 3 {}
  /-- 256 entries | 09 R278 | DC1 empty | foreland edge queue -/
  edges : List Edge := []
  /-- 32 | 09 R278 | DC1 0 | edges dropped and not yet reported -/
  dropped : Nat := 0
  /-- 1 | 09 R300 | DC1 false | edge overflow since last read -/
  overflow : Bool := false
  /-- 1 | 09 R295 | DC1 false | STALE: the image is held -/
  stale : Bool := false
  /-- time | 09 R298 | DC1 0 | when the filters last started -/
  startedAt : Nat := 0
  /-- 1 | 09 R292 | DC1 false | VFO-low flag -/
  vfoLow : Bool := false
  /-- 1 | 09 R292 | DC1 false | VFO below its cut-off -/
  vfoCut : Bool := false
  /-- time | 09 R296 | DC1 0 | when the next output may switch on again -/
  restartAt : Nat := 0
  /-- 16 | 09 R296 | DC1 0 | outputs still to be switched on again, bit n − 1 for FOn -/
  restore : Nat := 0
  deriving DecidableEq, Repr

/-! ### Packets in work and the host window -/

/-- What a reply needs of its command (R312). -/
structure ReplyTo where
  /-- 3 | 10 R312 | - | transport that carried the command -/
  transport : Transport
  /-- 32, 16 | 10 R312 | - | source address and port of a UDP command; forwarding member for the levee link -/
  src : Nat × Nat
  /-- 16 | 10 R312 | - | OPCODE -/
  opcode : Nat
  /-- 32 | 10 R312 | - | SEQ -/
  seq : Nat
  /-- 16 | 10 R312 | - | SESSION -/
  session : Nat
  /-- 16 | 10 R312 | - | TARGET -/
  target : Nat
  /-- 1 | 10 R312 | - | SECURED -/
  secured : Bool
  /-- 1 | 10 R303 | - | NEEDS_REPLY -/
  needsReply : Bool
  /-- 256 | 17 R506 | - | K_rsp of the session that carried it, none for a packet without SECURED -/
  key : Option Nat
  /-- 1 | 10 R307 | - | SCHEDULED: no reply once its session has closed -/
  sched : Bool
  deriving DecidableEq, Repr

/-- A command dispatched and not yet answered (R21). -/
structure Inflight where
  /-- ref | 01 R21 | - | reference -/
  ref : Nat
  replyTo : ReplyTo
  /-- 16 | 01 R21 | - | status to be answered -/
  status : Nat
  /-- bytes | 01 R21 | - | reply payload after STATUS -/
  payload : List Byte
  /-- count | 01 R21 | - | actions not yet acknowledged -/
  left : Nat
  deriving DecidableEq, Repr

/-- An action placed on a destination channel (R24). -/
structure PlacedAction where
  /-- id | 01 R32 | - | the action's own number, by which a BARRIER packet waits for it -/
  id : Nat
  /-- ref | 01 R21 | - | command it belongs to -/
  ref : Nat
  channel : Channel
  /-- time | 01 R27 | - | when it was placed -/
  placed : Nat
  opcode : Nat
  deriving DecidableEq, Repr

/-- An open segmented collection (R309, R310). -/
structure Collection where
  transport : Transport
  opcode : Nat
  target : Nat
  session : Nat
  /-- 32 | 10 R309 | - | SEQ of the last segment -/
  seq : Nat
  /-- bytes | 10 R309 | - | payload collected -/
  data : List Byte
  /-- 1 | 10 R309 | - | BARRIER seen on a segment -/
  barrier : Bool
  /-- time | 10 R310 | - | time of the last segment -/
  last : Nat
  deriving DecidableEq, Repr

/-- Per-transport counters and notification route (R332 Table 21, R318). -/
structure Port where
  /-- 32 | 10 R332 | DC1 0 | PACKETS_IN, wrapping -/
  packetsIn : Nat := 0
  /-- 32 | 10 R332 | DC1 0 | REPLIES_OUT, wrapping -/
  repliesOut : Nat := 0
  /-- 16 | 10 R332 | DC1 0 | DISCARDED, saturating -/
  discarded : Nat := 0
  /-- 16 | 10 R332 | DC1 0 | REJECTED, saturating -/
  rejected : Nat := 0
  /-- 16 | 10 R332 | DC1 0 | LOST, saturating -/
  lost : Nat := 0
  /-- struct | 10 R318 | spec none; host SPI enabled | notification route: session, destination address and port -/
  route : Option (Nat × Nat × Nat) := none
  /-- 32 | 10 R315 | spec 0 at power-on | SEQ of the next notification -/
  notifySeq : Nat := 0
  /-- 32 | 10 R316 | DC1 0 | notifications dropped in the present episode -/
  dropped : Nat := 0
  /-- list | 10 R308 | DC1 empty | times of CMD_REJECTED events of the last second -/
  rejTimes : List Nat := []
  /-- 32 | 10 R308 | DC1 0 | CMD_REJECTED events suppressed -/
  rejSuppressed : Nat := 0
  /-- time | 17 R507 | DC1 none | last TAG_FAIL logged, and failures since -/
  tagFailAt : Option Nat := none
  tagFails : Nat := 0
  deriving DecidableEq, Repr

/-- A packet sent on a network transport: a reply or a notification, its header and payload bytes. -/
structure OutPacket where
  transport : Transport
  dest : Nat × Nat
  bytes : List Byte
  deriving DecidableEq, Repr

/-- The host window (chapter 10). -/
structure HostWin where
  /-- 10 | 10 R324 | spec 0 | HW_IRQ_STATUS -/
  irq : Word := 0
  /-- 10 | 10 R324 | spec 0 | HW_IRQ_ENABLE -/
  irqEnable : Word := 0
  /-- 32 | 10 R324 | spec 0 | HW_SCRATCH -/
  scratch : Word := 0
  /-- 18 | 10 R324 | spec 0 | WIN_ADDR -/
  winAddr : Word := 0
  /-- 32 words | 10 R326 | spec empty | words of the incomplete packet in CMD_FIFO -/
  partialCmd : List Word := []
  /-- 1 | 10 R324 | spec 0 | CMD_DISCARD -/
  discard : Bool := false
  /-- list | 10 R326 | spec empty | RSP_FIFO: words of each complete packet, the first perhaps part read -/
  rsp : List (List Word) := []
  /-- list | 10 R326 | spec empty | EVT_FIFO, the same -/
  evt : List (List Word) := []
  /-- 16 replies | 10 R329 | DC1 empty | replies held for room in RSP_FIFO: the packets of each that are not yet placed -/
  heldReplies : List (List (List Word)) := []
  /-- 30 | 10 R324 | spec 0 | TIME_SNAP_NS latched nanoseconds -/
  snapNs : Nat := 0
  /-- 2 | 10 R324 | spec 0 | TIME_SNAP_NS latched quality -/
  snapQuality : Nat := 0
  /-- 32 | 10 R321 | DC1 0 | the word the last register read delivered on MISO -/
  readData : Word := 0
  /-- list | 10 R331, 14 R420 | DC1 empty | damaged words by culvert address: of the Polder window, and of recorder SRAM -/
  damaged : List Nat := []
  deriving DecidableEq, Repr

/-! ### Time -/

/-- Time sources (R356 Table 7). -/
inductive TimeSource where | none | ptp | pps | host | cluster
  deriving DecidableEq, Repr

/-- A master whose Announce messages are heard (R344, IEEE 1588-2019). -/
structure Foreign where
  /-- list | 11 R344 | - | its data set: priority 1, class, accuracy, variance, priority 2, identity, steps removed -/
  data : List Nat
  /-- 16 | 11 R344 | - | currentUtcOffset of its last Announce -/
  utc : Nat
  /-- time | 11 R344 | - | its last Announce -/
  last : Nat
  /-- time | 11 R344 | - | the one before it -/
  prev : Option Nat := none
  deriving DecidableEq, Repr

/-- The time unit (chapter 11). Module time at `now` follows from the value at `asOf` and TRIM. -/
structure TimeUnit where
  /-- 48 | 11 R336 | spec saved value or 0 at power-on (R339) | seconds at asOf -/
  sec : Nat := 0
  /-- 30 | 11 R336 | spec 0 | nanoseconds at asOf -/
  ns : Nat := 0
  /-- 32 | 11 R336 | DC1 0 | fraction at asOf, 2^-32 ns -/
  frac : Nat := 0
  /-- time | 11 R336 | DC1 0 | instant of those values -/
  asOf : Nat := 0
  /-- time, 64 s | 11 R346 | DC1 none | instant and size, ns, of the latest step -/
  stepped : Option (Nat × Int) := none
  /-- 32 s | 11 R336 | DC1 0 | TRIM once the offset is slewed out -/
  trim : Int := 0
  /-- 32 s | 11 R346 | DC1 0 | TRIM while the offset is slewed out -/
  slew : Int := 0
  /-- 2 | 11 R342 | spec FREE at power-on | quality -/
  quality : Quality := .free
  /-- 64 s | 11 R356 | DC1 0 | OFFSET, last measured offset, ns -/
  offset : Int := 0
  /-- 96 s | 11 R346 | DC1 0 | offset not yet slewed out at asOf, 2^-32 ns -/
  residue : Int := 0
  /-- 5 | 11 R342 | DC1 0 | consecutive measurements within ±500 ns -/
  goodRun : Nat := 0
  /-- 16 | 11 R356 | spec 0 when unknown | UTC_OFFSET -/
  utc : Nat := 0
  /-- 32 | 11 R356 | DC1 0 | PATH_DELAY -/
  pathDelay : Nat := 0
  /-- 64 | 11 R356 | spec 0 when none | identity of the grandmaster chosen last; GM_IDENTITY while one is chosen -/
  gm : Nat := 0
  /-- list | 11 R344 | DC1 none | data set of the chosen grandmaster: priority 1, class, accuracy, variance, priority 2, identity, steps removed -/
  gmData : Option (List Nat) := none
  /-- list | 11 R344 | DC1 empty | masters whose Announce messages are heard -/
  masters : List Foreign := []
  /-- 16 | 11 R344 | DC1 0 | sequenceId of the next Delay_Req -/
  delaySeq : Nat := 0
  /-- 16 | 11 R356 | spec 0 since power-on | STEPS, saturating -/
  steps : Nat := 0
  /-- time | 11 R356 | DC1 none | start of the present HOLDOVER -/
  holdoverAt : Option Nat := none
  /-- time | 11 R341 | DC1 none | last usable PTP measurement -/
  ptpAt : Option Nat := none
  /-- time | 11 R341 | DC1 none | last usable PPS_IN edge -/
  ppsAt : Option Nat := none
  /-- 1 | 11 R341 | DC1 false | a TIME_SET has been accepted since power-on -/
  timeSet : Bool := false
  /-- list | 11 R343 | DC1 empty | spans of the last 16 s in LOCKED: begin, end, sum of TRIM over the 8 ns periods -/
  trims : List (Nat × Nat × Int) := []
  /-- 48 | 11 R348 | DC1 none | the last whole second the latest step crossed forward, if it crossed one -/
  crossed : Option Nat := none
  /-- 1 | 11 R348 | spec low in reset (R575) | PPS_OUT level -/
  ppsOut : Bool := false
  /-- time | 11 R348 | DC1 0 | last rise of PPS_OUT -/
  ppsOutAt : Nat := 0
  /-- 2 times | 11 R339 | DC1 none as delivered | module time saved by the power-fail flush in the two halves of MRAM: s, ns -/
  savedRecs : Halves (Nat × Nat) := {}
  /-- 1 | 22 R616 | DC1 false | the 25 MHz reference is in use -/
  ref25 : Bool := false
  /-- 8 | 11 R350 | DC1 none | targets held by armed compare units, ns on the count of R337 -/
  units : List (Option Nat) := List.replicate 8 none
  deriving DecidableEq, Repr

/-- The saved module time as read (R339). -/
def TimeUnit.saved (x : TimeUnit) : Option (Nat × Nat) := x.savedRecs.read

/-! ### Security -/

/-- Lifecycle (R496). -/
inductive Lifecycle where | blank | provisioned | sealed | retired
  deriving DecidableEq, Repr

/-- Roles (R520 Table 8). -/
inductive Role where | operator | maintainer | integrator
  deriving DecidableEq, Repr

/-- A session, open or unconfirmed (R504 to R508). -/
structure Session where
  /-- 16 | 17 R505 | - | number -/
  num : Nat
  /-- 2 | 17 R504 | - | role -/
  role : Role
  /-- 2 | 17 R504 | - | role-key slot -/
  slot : Nat
  /-- enum | 17 R505 | - | transport it is bound to -/
  transport : Transport
  /-- 3 × 256 | 17 R504 | - | K_cmd, K_rsp, K_wrap -/
  kCmd : Nat
  kRsp : Nat
  kWrap : Nat
  /-- 256 | 17 R504 | - | transcript hash H -/
  h : Nat
  /-- 1 | 17 R504 | - | ACTIVE -/
  active : Bool
  /-- 32 | 17 R504 | - | granted lifetime, s -/
  life : Nat
  /-- time | 17 R508 | - | operating time of the opening or confirmation, ns -/
  since : Nat
  /-- 32 | 17 R507 | - | highest SEQ accepted -/
  high : Option Nat
  /-- 64 | 17 R507 | - | map of the 64 values below it -/
  seen : Nat
  /-- list | 17 R507 | - | times of tag failures of the last second -/
  fails : List Nat
  /-- ref | 17 R521 | - | command whose reply must be sent before this session closes -/
  closeAfter : Option Nat := none
  deriving DecidableEq, Repr

/-- The floodgate (chapter 17). -/
structure Security where
  /-- 2 | 17 R496 | DC1 BLANK as delivered | lifecycle state -/
  life : Lifecycle := .blank
  /-- 40 | 17 R502 | DC1 0 as delivered | LEAF_RESERVED -/
  leafReserved : Nat := 0
  /-- 40 | 17 R502 | DC1 0 | next leaf index -/
  leafNext : Nat := 0
  /-- 40 | 17 R502 | DC1 none | last leaf index used, where known -/
  leafUsed : Option Nat := none
  /-- enum | 17 R503 | DC1 none | signing stopped: cause EXHAUSTED 0, MRAM_FAULT 1 -/
  signStopped : Option Nat := none
  /-- 1 | 17 R501 | DC1 true | subtree cache ready (SIGN_READY) -/
  signReady : Bool := true
  /-- 1 | 17 R501 | DC1 false | a background subtree build runs -/
  building : Bool := false
  /-- list | 17 R503 | DC1 empty | times of the signatures of the last second -/
  signTimes : List Nat := []
  /-- 32 | 17 R520 | DC1 0 as delivered | KEM_GEN -/
  kemGen : Nat := 0
  /-- 40 | 17 R520 | DC1 0 | leaf that signed the KEM certificate -/
  kemLeaf : Nat := 0
  /-- 1 | 17 R494 | DC1 true | KEM key pair readable -/
  kemOk : Bool := true
  /-- 12 × 256 | 17 R494 | DC1 empty slots | role keys, slot 4 × role + slot -/
  roleKeys : List (Option Nat) := List.replicate 12 none
  /-- 2 × 544 | 17 R494 | DC1 empty slots | integrator signing public keys -/
  signKeys : List (Option (List Byte)) := List.replicate 2 none
  /-- 4 | 17 R512 | DC1 none revoked | revocation mask of the vendor slots -/
  vendorRevoked : Nat := 0
  /-- 2 × 256 | 17 R514 | DC1 none | group keys of CANA and CANB -/
  groupKeys : List (Option Nat) := [none, none]
  /-- 2 × 32 | 17 R514 | DC1 0 | KEY_EPOCH -/
  epochs : List Nat := [0, 0]
  /-- 2 × 32 | 17 R515 | DC1 0 | transmit freshness counters -/
  fresh : List Nat := [0, 0]
  /-- 2 × 32 | 16 R477 | DC1 0 | the duty unit's freshness values of its last epoch, which a standby's images carry -/
  dutyFresh : List Nat := [0, 0]
  /-- 2 × 32 | 17 R515 | DC1 0 | freshness reservations -/
  freshRes : List Nat := [0, 0]
  /-- time ×2 | 17 R516 | DC1 none | last FRESHNESS_LOW -/
  freshLowAt : List (Option Nat) := [none, none]
  /-- 32 | 17 R513 | DC1 0 | FW_SVN -/
  fwSvn : Nat := 0
  /-- 32 | 17 R518 | DC1 0 | tamper count, saturating -/
  tamperCount : Nat := 0
  /-- 2 | 17 R518 | DC1 clear | tripped sensors: MESH bit 0, LIGHT bit 1 -/
  tripped : Nat := 0
  /-- time | 17 R518 | DC1 none | sessions held back since all sensors cleared; some while tripped -/
  heldBack : Option Nat := none
  /-- 32 | 17 R520 | spec 0 since power-on | TAG_FAILS, saturating -/
  tagFails : Nat := 0
  /-- 1 | 17 R498 | DC1 false | DEBUG_OPEN -/
  debugOpen : Bool := false
  /-- list | 17 R505 | spec none after a power cycle | sessions -/
  sessions : List Session := []
  /-- 16 | 17 R505 | DC1 0 | last session number assigned -/
  lastNum : Nat := 0
  deriving DecidableEq, Repr

/-! ### Recorder -/

/-- A record key without UNIT (R425). -/
structure Key where
  /-- 48 | 15 R425 | - | OP_TIME -/
  op : Nat
  /-- 32 | 15 R425 | - | POWER_CYCLE -/
  cycle : Nat
  /-- 32 | 15 R425 | - | SEQ -/
  seq : Nat
  deriving DecidableEq, Repr

/-- An event on its way to the recorder (R443). -/
structure Event where
  /-- 16 | 23 R625 | - | event code -/
  code : Nat
  /-- 16 | 10 R315 | - | TARGET word of the source -/
  source : Nat
  /-- items | 10 R315 | - | payload items, in the order of the event's table -/
  items : List Int
  /-- 80 | 10 R315 | - | module time: s, ns -/
  time : Nat × Nat
  /-- 2 | 10 R315 | - | quality -/
  quality : Nat
  /-- numbers | 15 R433 | - | a PORTAL_STATE with which a cycle starts: portal, number of the start -/
  start : Option (Nat × Nat) := none
  deriving DecidableEq, Repr

/-- What a record holds (R430). -/
inductive RecordBody where
  | event (e : Event) (part : Nat)
  | cycle (portal slot : Nat) (c : CycleSummary) (time : Nat × Nat) (quality : Nat) (nowMs : Nat) (temp : Int)
  | trace (portal : Nat) (cycleKey : Key) (spacing : Nat) (samples : Nat) (body : List Byte) (truncated : Bool)
  | snapshot (slot trigger : Nat)
  deriving DecidableEq, Repr

/-- A record with its key (R425). -/
structure Rec where
  key : Key
  body : RecordBody
  damaged : Bool := false
  /-- 1 | 15 R430 | - | its NAND page cannot be read: the number of its free bytes -/
  unread : Option Nat := none
  deriving DecidableEq, Repr

/-- A fault snapshot (R439 Table 9). -/
structure Snapshot where
  /-- 128 | 15 R439 | - | KEY -/
  key : Key
  /-- 80 | 15 R439 | - | module time of the trigger -/
  time : Nat × Nat
  /-- 2 | 15 R439 | - | QUALITY -/
  quality : Nat
  /-- 5 | 15 R439 | - | SLOT -/
  slot : Nat
  /-- struct | 15 R439 | - | event that triggered it, none for power fail or command -/
  trigger : Option Event
  /-- 8 × 2 500 samples | 15 R439 | - | samples of each axis, oldest first -/
  blocks : List (List (List Word))
  /-- 11 | 15 R439 | - | PRE_SAMPLES -/
  pre : Nat
  /-- 9 | 15 R439 | - | POST_SAMPLES -/
  post : Nat := 0
  /-- 1 | 15 R439 | - | POWER_FAIL -/
  powerFail : Bool := false
  /-- 8 | 15 R439 | - | EXTRA_TRIGGERS, saturating at 255 -/
  extra : Nat := 0
  /-- 4 096 bytes | 15 R439 | - | header, written last -/
  header : List Byte := []
  deriving DecidableEq, Repr

/-- A running log readout (R451). -/
structure Readout where
  region : Nat
  fromKey : Key
  toKey : Key
  bufAddr : Nat
  halfSize : Nat
  /-- 32 | 15 R451 | - | chunks written -/
  chunk : Nat := 0
  /-- 1 | 15 R451 | - | half being filled next -/
  half : Nat := 0
  /-- 2 | 15 R451 | - | halves owned by the recorder -/
  free : Nat := 3
  /-- 16 | 15 R451 | - | bytes of the chunk in work that CV15 has moved -/
  moved : Nat := 0
  /-- 2 | 15 R451 | - | halves filled and not yet returned -/
  filled : Nat := 0
  /-- 1 | 15 R451 | - | LOG_READ_STOP ordered -/
  stop : Bool := false
  /-- time | 15 R451 | - | last LOG_READ or LOG_READ_NEXT -/
  lastNext : Nat
  /-- ref | 15 R451 | - | the LOG_READ still waiting for the flushes before its reply -/
  waiting : Option Nat := none
  /-- refs | 15 R451 | - | LOG_READ_STOP commands to be answered at the end -/
  stopRefs : List Nat := []
  /-- 128 | 15 R451 | - | key of the last record or snapshot delivered whole; bytes delivered of the one after it -/
  done : Option Key := none
  doneBytes : Nat := 0
  /-- 1 | 15 R450 | - | records were overwritten before the readout reached them -/
  overrun : Bool := false
  deriving DecidableEq, Repr

/-- What stage 1 of the power-fail flush writes (R446): operating time, SEQ, module time, angle records by axis. -/
structure SavedItems where
  op : Nat
  seq : Nat
  time : Nat × Nat
  angles : List (Option AngleRecord)
  deriving DecidableEq, Repr

/-- The recorder island (chapter 15). -/
structure Recorder where
  /-- 48 | 15 R426 | DC1 0 as delivered | operating time at opAt, ms -/
  opMs : Nat := 0
  /-- time | 15 R426 | DC1 0 | instant of that value -/
  opAt : Nat := 0
  /-- 2 × 48 | 15 R426 | DC1 0 as delivered | saved operating time, ms, in the two halves of MRAM -/
  opRecs : Halves Nat := .both 0
  /-- 2 × 32 | 15 R427 | DC1 0 as delivered | power-cycle count in the two halves of MRAM -/
  cycleRecs : Halves Nat := .both 0
  /-- 32 | 15 R428 | spec 0 at power-on | SEQ of the next record -/
  seq : Nat := 0
  /-- 2 × 32 | 15 R428 | DC1 0 | SEQ saved at the last NAND flush, in the two halves of MRAM -/
  seqRecs : Halves Nat := .both 0
  /-- struct | 15 R453 | DC1 0 | LAST_KEY -/
  lastKey : Key := ⟨0, 0, 0⟩
  /-- 4 096 entries | 15 R443 | DC1 empty | event queue, oldest first -/
  queue : List Event := []
  /-- list | 15 R445 | DC1 empty | critical events their producing islands hold while every entry is critical -/
  producers : List Event := []
  /-- 16 | 15 R453 | DC1 0 | QUEUE_PEAK -/
  queuePeak : Nat := 0
  /-- 32 | 15 R444 | DC1 0 | dropped events not yet reported -/
  drops : Nat := 0
  /-- list | 15 R444 | DC1 empty | drops per group, and span of the drops -/
  dropGroups : List (Nat × Nat) := []
  dropSpan : Nat × Nat := (0, 0)
  /-- 32 | 15 R453 | spec 0 since power-on | SUPPRESSED, saturating -/
  suppressed : Nat := 0
  /-- 64 KiB | 15 R440 | DC1 empty | buffer half taking records, its bytes, and when its first record came -/
  buf : List Rec := []
  bufBytes : Nat := 0
  bufAt : Option Nat := none
  /-- 64 KiB | 15 R440 | DC1 empty | buffer half being flushed -/
  flushing : List Rec := []
  /-- 1 | 15 R440 | DC1 false | a NAND flush is running -/
  flushBusy : Bool := false
  /-- 17 | 15 R440 | DC1 0 | bytes of the half being flushed that CV14 has still to move -/
  flushLeft : Nat := 0
  /-- list | 15 R430 | DC1 empty as delivered | records in the CYCLE region -/
  cycles : List Rec := []
  /-- list | 15 R430 | DC1 empty as delivered | records in the TRACE region -/
  traces : List Rec := []
  /-- list | 15 R430 | DC1 empty as delivered | records in the EVENT region -/
  events : List Rec := []
  /-- 2 lists | 15 R432 | DC1 empty as delivered | event ring in the two halves of MRAM: the last 10 240 event records -/
  boxes : Halves (List Rec) := .both []
  /-- 2 lists | 15 R432 | DC1 empty as delivered | spill area in the two halves of MRAM, 256 KiB each -/
  spills : Halves (List Rec) := .both []
  /-- 2 × 32 | 15 R448 | DC1 present as delivered | power-fail marker in the two halves of MRAM, with the records not kept; none: absent -/
  markers : Halves (Option Nat) := .both (some 0)
  /-- struct | 15 R446 | DC1 none | items that stage 1 of a running power-fail flush writes -/
  stage1 : Option SavedItems := none
  /-- list | 15 R433 | DC1 empty | keys given to the PORTAL_STATE records with which cycles started: portal, number of the start -/
  startKeys : List ((Nat × Nat) × Key) := []
  /-- 1 | 15 R453 | DC1 true | last power-fail flush complete -/
  lastFlushOk : Bool := true
  /-- time | 15 R446 | DC1 none | power-fail flush running since -/
  failFlushAt : Option Nat := none
  /-- 32 | 15 R446 | DC1 0 | records lost after stage 3 began -/
  notKept : Nat := 0
  /-- list | 15 R442 | DC1 empty | cycle and trace records whose sources are kept until a buffer half has room -/
  waiting : List RecordBody := []
  /-- 2 × 22 slots | 15 R439 | DC1 empty as delivered | snapshot slots in the two halves of MRAM -/
  slots : Halves (List Snapshot) := .both []
  /-- 5 | 15 R439 | DC1 0 | next snapshot slot -/
  nextSlot : Nat := 0
  /-- struct | 15 R439 | DC1 none | snapshot collecting its later samples -/
  collecting : Option Snapshot := none
  /-- 8 × 2 000 samples of 4 words | 15 R439 | DC1 empty | snapshot history of each axis, oldest first -/
  history : List (List (List Word)) := List.replicate 8 []
  /-- 16 | 15 R453 | DC1 0 | RETIRED, NAND blocks retired, saturating -/
  retired : Nat := 0
  /-- 32 | 15 R453 | spec 0 since power-on | DAMAGED, saturating -/
  damaged : Nat := 0
  /-- 32 | 15 R430 | DC1 0 as delivered | bytes of the oldest erase block of the trace ring that lie before its first record -/
  traceOff : Nat := 0
  /-- 16 | 15 R431 | spec 3 GiB region, 4.5 GiB ring | MiB of the cycle region and of the trace ring -/
  cycleMib : Nat := 3072
  traceMib : Nat := 4608
  /-- 1 | 15 R431 | DC1 false | the cycle region has become a ring -/
  wrapping : Bool := false
  /-- struct | 15 R451 | DC1 none | running readout -/
  readout : Option Readout := none
  /-- 1 | 15 R452 | DC1 false | CV15 halted, CV14 halted -/
  cv15Halted : Bool := false
  cv14Halted : Bool := false
  deriving DecidableEq, Repr

/-- The saved operating time (R426). -/
def Recorder.opSaved (r : Recorder) : Nat := r.opRecs.read.getD 0

/-- The power-cycle count (R427). -/
def Recorder.cycle (r : Recorder) : Nat := r.cycleRecs.read.getD 0

/-- The saved SEQ (R428). -/
def Recorder.seqSaved (r : Recorder) : Nat := r.seqRecs.read.getD 0

/-- The power-fail marker with the records not kept; none: absent (R448). -/
def Recorder.marker (r : Recorder) : Option Nat := r.markers.read.join

/-- Records of a list in the two halves: what passes in half 0, and what passes in half 1 alone before it (R432). -/
def readRecs (h : Halves (List Rec)) : List Rec :=
  let a := h.half0.getD []
  ((h.half1.getD []).filter fun x => !a.any fun y => y.key == x.key) ++ a

/-- The MRAM event ring as read (R432). -/
def Recorder.box (r : Recorder) : List Rec := readRecs r.boxes

/-- The spill area as read (R432). -/
def Recorder.spill (r : Recorder) : List Rec := readRecs r.spills

/-- The snapshot slots as read (R432): a slot from half 0 when it is whole there, else from half 1. -/
def Recorder.snaps (r : Recorder) : List Snapshot :=
  let a := r.slots.half0.getD []
  ((r.slots.half1.getD []).filter fun x => !a.any fun y => y.slot == x.slot) ++ a

/-! ### Warden, NOR banks, supplies -/

/-- Bank states (R544 Table 10). -/
inductive BankState where | empty | written | verified | refused | active
  deriving DecidableEq, Repr

/-- One NOR bank (R528). -/
structure Bank where
  /-- enum | 18 R544 | DC1 bank 0 ACTIVE, bank 1 EMPTY as delivered | STATE -/
  state : BankState := .empty
  /-- 1 | 18 R532 | DC1 bank 0 not erased, bank 1 erased as delivered | the image region has been erased: what is not written reads 0xFF -/
  erased : Bool := true
  /-- list | 18 R532 | DC1 empty | image-region writes since the last erase: offset, bytes -/
  writes : List (Nat × List Byte) := []
  deriving DecidableEq, Repr

/-- A journal record (R534 Table 5). -/
structure Journal where
  /-- 32 | 18 R534 | DC1 0 | GEN -/
  gen : Nat := 0
  /-- 2 | 18 R534 | DC1 IDLE as delivered | STEP: IDLE 0, BEGUN 1, COMMITTED 2, END 3 -/
  step : Nat := 0
  /-- 2 | 18 R534 | DC1 IMAGE | WHAT: IMAGE 0, CONFIG_ONLY 1, FALLBACK 2 -/
  what : Nat := 0
  /-- 1 | 18 R534 | DC1 0 | FROM_BANK -/
  fromBank : Nat := 0
  /-- 1 | 18 R534 | DC1 0 | TO_BANK -/
  toBank : Nat := 0
  /-- 10 | 18 R534 | DC1 0 | DONE_MASK -/
  doneMask : Nat := 0
  deriving DecidableEq, Repr

/-- Holdup states (R550). -/
inductive Holdup where | charging | ready | low
  deriving DecidableEq, Repr

/-- VDRV levels (R565 Table 8). -/
inductive VdrvLevel where | normal | low | min | absent
  deriving DecidableEq, Repr

/-- The warden (chapters 18 and 19). -/
structure Warden where
  /-- 12 × 16 s | 18 R523 | DC1 0 | TS1 to TS12, 0.1 °C -/
  temps : List Int := List.replicate 12 0
  /-- 12 | 18 R523 | DC1 0 | temperature warnings set -/
  tempWarn : Nat := 0
  /-- 16 | 18 R544 | DC1 0 | VCTL, 10 mV -/
  vctl : Nat := 0
  /-- 16 | 18 R544 | DC1 0 | VDRV, 0.1 V -/
  vdrv : Nat := 0
  /-- 16 | 18 R544 | DC1 0 | VDRV_BULK, 0.1 V -/
  bulk : Nat := 0
  /-- 16 s | 19 R565 | DC1 0 | VFO, 0.1 V -/
  vfo : Int := 0
  /-- 16 | 18 R544 | DC1 0 | HOLD_CAP, 0.1 V -/
  holdCap : Nat := 0
  /-- 8 | 18 R544 | DC1 0 | logic rails outside ±5 % -/
  rails : Nat := 0
  /-- 1 | 18 R544 | DC1 false | RAIL_FAULT -/
  railFault : Bool := false
  /-- 1 | 20 R567 | DC1 false | a rail fault outside the safety islands' regulators whose module reset has not begun -/
  railReset : Bool := false
  /-- 1 | 18 R524 | DC1 false | CONDENSATION -/
  condensation : Bool := false
  /-- 16 s | 18 R524 | DC1 0 | dew-point margin, 0.1 K -/
  dew : Int := 0
  /-- time | 18 R524 | DC1 none | margin below 2.0 K since; above 4.0 K since -/
  dewLowSince : Option Nat := none
  dewHighSince : Option Nat := none
  /-- 3 × 16 | 18 R544 | DC1 0 | SHOCK_PEAK -/
  shock : Nat × Nat × Nat := (0, 0, 0)
  /-- time | 18 R525 | DC1 none | last SHOCK -/
  shockAt : Option Nat := none
  banks : List Bank := [{ state := .active, erased := false }, {}]
  /-- 1 | 18 R528 | DC1 0 as delivered | active bank -/
  activeBank : Nat := 0
  /-- bytes | 18 R528 | DC1 empty as delivered | active module configuration, bytes 0 to 3 151 -/
  config : List Byte := []
  /-- bytes | 18 R528 | DC1 none as delivered | pending module configuration -/
  pendingCfg : Option (List Byte) := none
  journal : Journal := {}
  /-- time | 18 R532 | DC1 none | image-region erase running since -/
  erasing : Option Nat := none
  /-- list | 18 R532 | DC1 none | data to be written after the erase -/
  afterErase : List Byte := []
  /-- time | 18 R533 | DC1 none | image check running since -/
  verifying : Option Nat := none
  /-- 1 | 18 R535 | DC1 none | activation in progress: start, REARM, position in Table 4 -/
  activation : Option (Nat × Bool × Nat) := none
  /-- time | 19 R550 | MODEL 0 | end of the last power-on reset -/
  powerAt : Nat := 0
  /-- enum | 19 R550 | spec CHARGING from power-on | HOLDUP -/
  holdup : Holdup := .charging
  /-- 16 | 19 R551 | spec 0 when not yet measured | HOLD_UF -/
  holdUf : Nat := 0
  /-- time | 19 R551 | DC1 0 | last capacitance measurement -/
  holdMeasAt : Nat := 0
  /-- enum | 19 R555 | DC1 NORMAL | VDRV level -/
  level : VdrvLevel := .normal
  /-- 1 | 19 R556 | DC1 false | reverse-blocking stage open -/
  disconnected : Bool := false
  /-- time | 19 R556 | DC1 none | VDRV above 156 V since -/
  surgeAt : Option Nat := none
  /-- 1 | 19 R562 | DC1 false | BASEPLATE_HOT -/
  hot : Bool := false
  /-- 1 | 19 R562 | DC1 false | THERMAL_SHUTDOWN holds ARM off -/
  shutdown : Bool := false
  /-- 16 | 19 R565 | DC1 0 | P_LOGIC, P_MODULE, P_MEAN60, 0.1 W -/
  pLogic : Nat := 0
  pModule : Nat := 0
  pMean60 : Nat := 0
  /-- list | 19 R565 | DC1 empty | dissipation under Table 4 at the samples of the last 60 s: time, nW -/
  powers : List (Nat × Nat) := []
  deriving DecidableEq, Repr

/-! ### Pairs and clusters -/

/-- One levee port (R457, R458). -/
structure LeveePort where
  /-- 1 | 16 R457 | DC1 DOWN | UP -/
  up : Bool := false
  /-- 1 | 16 R458 | DC1 true | FENCE_OK: loop read back -/
  fenceOk : Bool := true
  /-- 1 | 16 R458 | spec idle in reset (R575) | own fence output asserted since -/
  fenceOut : Option Nat := none
  /-- 1 | 16 R458 | DC1 false | fence input asserted -/
  fenceIn : Bool := false
  /-- 32 | 16 R459 | DC1 0 | measured link delay, ns -/
  delay : Nat := 0
  deriving DecidableEq, Repr

/-- A forwarded packet waiting for its reply (R491). -/
structure Forward where
  ref : Nat
  dest : Nat
  sent : Nat
  seq : Nat
  deriving DecidableEq, Repr

/-- The pair machine (chapter 16). -/
structure Pair where
  /-- 2 | 16 R455 | DC1 0 straps | CLUSTER_ID sampled when reset was released -/
  id : Nat := 0
  /-- enum | 16 R492 | spec SINGLE by configuration | ROLE -/
  role : PairRole := .single
  /-- 8 | 16 R492 | spec 0xFF unknown | PARTNER_ROLE -/
  partner : Option PairRole := none
  /-- time | 16 R470 | DC1 0 | last lease message from the partner -/
  heardAt : Option Nat := none
  /-- time | 05 R152 | DC1 none | first lease message after the last silence of 25 ms -/
  heardSince : Option Nat := none
  /-- 4 | 16 R492 | DC1 never | last time each member was heard -/
  members : List (Option Nat) := List.replicate 4 none
  /-- 1 | 16 R473 | DC1 false | DISCORD; last mismatch -/
  discord : Bool := false
  mismatchAt : Nat := 0
  /-- enum | 16 R486 | DC1 none | DISCORDANT: CONFIG 0, VERSION 1; since when all matches again -/
  discordant : Option Nat := none
  matchSince : Option Nat := none
  /-- 1 | 16 R470 | DC1 false | FENCED -/
  fenced : Bool := false
  /-- 1 | 16 R470 | DC1 false | CLUSTER_SOLO accepted: duty by silence allowed -/
  soloAllowed : Bool := false
  /-- 1 | 16 R487 | DC1 false | time disagree -/
  timeDisagree : Bool := false
  /-- 1 | 16 R483 | DC1 false | the partner is at a safe moment -/
  partnerSafe : Bool := false
  /-- 32 | 16 R466 | DC1 0 | LEASE_NO of the last RENEW sent or acknowledged -/
  leaseNo : Nat := 0
  /-- list | 16 R463 | DC1 empty | RENEWs sent and not yet acknowledged: number, time -/
  renews : List (Nat × Nat) := []
  /-- time | 16 R463 | DC1 none | holder's lease end -/
  leaseEnd : Option Nat := none
  /-- time | 16 R464 | DC1 none | partner's view of the lease end -/
  leaseView : Option Nat := none
  /-- time | 16 R462 | DC1 0 | last RENEW or HELLO sent -/
  sentAt : Nat := 0
  /-- 32 | 16 R479 | DC1 0 | last committed EPOCH -/
  epoch : Nat := 0
  /-- struct | 16 R479 | DC1 empty | current epoch buffer of a standby -/
  current : Epoch := {}
  /-- time | 16 R479 | DC1 none | first frame of a partial epoch -/
  partialAt : Option Nat := none
  /-- 1 | 16 R479 | DC1 true | a full epoch is wanted -/
  wantFull : Bool := true
  /-- time | 16 R479 | DC1 0 | last full epoch sent -/
  fullAt : Nat := 0
  /-- struct | 16 R479 | DC1 empty | last epoch, or handover state, sent -/
  lastSent : Epoch := {}
  /-- time | 16 R479 | DC1 0 | when it was sent -/
  epochAt : Nat := 0
  /-- time | 16 R480 | DC1 none | comparisons have matched since -/
  fitSince : Option Nat := none
  /-- time | 16 R480 | DC1 0 | last comparison that matched -/
  fitLast : Nat := 0
  /-- 8 × (32, vector) | 16 R471 | DC1 empty | own vectors of the latest portal ticks, by tick number, oldest first -/
  vectors : List (Nat × CompareVector) := []
  /-- 1 | 16 R480 | DC1 false | a full epoch has committed since UNFIT -/
  fullSeen : Bool := false
  /-- list | 16 R472 | DC1 empty | items that mismatched in the last comparison, with their portal, axis or channel: consecutive mismatches -/
  mismatches : List ((Nat × Nat) × Nat) := []
  /-- struct | 16 R472 | DC1 none | arbitration: comparisons left, and of each item in it the own disagreements counted -/
  arb : Option (Nat × List ((Nat × Nat) × Nat)) := none
  /-- time | 16 R492 | DC1 0 | last change of duty -/
  dutyAt : Nat := 0
  /-- 16 | 16 R492 | spec 0 since power-on | TAKEOVERS, saturating -/
  takeovers : Nat := 0
  /-- 16 | 16 R492 | spec 0 since power-on | ARBITRATIONS, saturating -/
  arbitrations : Nat := 0
  /-- 16 | 16 R492 | spec 0 unknown | PARTNER_COMPAT -/
  partnerCompat : Nat := 0
  /-- 32 s | 16 R492 | DC1 0 | TIME_DIFF, ns -/
  timeDiff : Int := 0
  /-- enum | 16 R484 | DC1 none | planned transfer: its DUTY_TAKEN cause, and whether it waits for a safe moment -/
  planned : Option (Nat × Bool) := none
  /-- 1 | 16 R470 | DC1 false | CLAIM sent while SEARCHING -/
  claimed : Bool := false
  /-- 1 | 16 R485 | DC1 false | duty was lost on expiry or by arbitration -/
  lostDuty : Bool := false
  /-- time | 16 R485 | DC1 none | STANDBY without a break since -/
  standbySince : Option Nat := none
  /-- time | 16 R484 | DC1 none | 5 ms drive after a planned transfer, since -/
  checkAt : Option Nat := none
  /-- time | 16 R467 | DC1 none | fence asserted by a lapsed holder, since -/
  soloAt : Option Nat := none
  /-- time | 16 R470 | DC1 0 | start of SEARCHING -/
  searchAt : Nat := 0
  /-- 1 | 16 R482 | DC1 false | a standby test has failed -/
  testFailed : Bool := false
  /-- 1 | 16 R482 | DC1 false | the partner's standby test has failed -/
  partnerTestFailed : Bool := false
  /-- time ×8 | 16 R482 | DC1 0 | last standby test of each axis -/
  testAt : List Nat := List.replicate 8 0
  port1 : LeveePort := {}
  port2 : LeveePort := {}
  /-- 4 × 32 | 16 R457 | DC1 none | last sequence number accepted from each source -/
  seqs : List (Option Nat) := List.replicate 4 none
  /-- 32 | 16 R457 | DC1 0 | own sequence number -/
  ownSeq : Nat := 0
  /-- list | 16 R491 | DC1 empty | forwards waiting for a reply -/
  forwards : List Forward := []
  /-- list | 16 R457 | DC1 empty | frames handed to the ports: port 1 or 2, 0 both -/
  out : List (Nat × LeveeFrame) := []
  deriving DecidableEq, Repr

/-! ### CAN FD controllers -/

/-- Controller modes (R364 Table 3). -/
inductive CanMode where | off | normal | listenOnly | autoRate
  deriving DecidableEq, Repr

/-- Error states (R365, Table 15). -/
inductive CanError where | active | passive | busOff
  deriving DecidableEq, Repr

/-- States of a host transmit buffer (Table 15). -/
inductive BufState where | empty | waiting | pending | done | aborted
  deriving DecidableEq, Repr

/-- A receive object (R370 to R375). -/
structure RxObj where
  /-- 32 | 12 R370 | DC1 unbound | bound identifier word -/
  bound : Option Nat := none
  /-- 1 | 12 R374 | DC1 false | SECURED binding -/
  secured : Bool := false
  /-- 1 | 12 R373 | DC1 false | DEDUP binding -/
  dedup : Bool := false
  /-- frame | 12 R371 | DC1 none | frame stored -/
  frame : Option CanFrame := none
  /-- 16 | 12 R371 | DC1 0 | COUNT, wrapping -/
  count : Nat := 0
  /-- 1 | 12 R371 | DC1 false | NEW -/
  fresh : Bool := false
  /-- 1 | 12 R371 | DC1 false | LOST, sticky -/
  lost : Bool := false
  /-- 80 | 12 R371 | spec 0 when nothing is stored | STAMP -/
  stamp : Nat × Nat := (0, 0)
  /-- 16 | 12 R373 | DC1 none | last stored SEQ of a DEDUP binding -/
  lastSeq : Option Nat := none
  /-- time | 12 R373 | DC1 none | when a frame was last stored -/
  storedAt : Option Nat := none
  /-- 32 | 12 R374 | DC1 none | last stored freshness -/
  lastFresh : Option Nat := none
  /-- time | 12 R374 | DC1 none | last CAN_AUTH_FAIL of this object -/
  failAt : Option Nat := none
  /-- 16 | 12 R374 | DC1 0 | failures since that event -/
  fails : Nat := 0
  deriving DecidableEq, Repr

/-- A host transmit buffer (R377 to R380). -/
structure TxBuf where
  /-- enum | 12 R377 | DC1 EMPTY | state -/
  state : BufState := .empty
  /-- 8 | 12 R385 | spec 0xFF none | ABORT_CAUSE -/
  cause : Nat := 0xFF
  frame : CanFrame := {}
  /-- 4 | 12 R377 | DC1 0 | RETRY -/
  retry : Nat := 0
  /-- count | 12 R377 | DC1 0 | attempts made -/
  attempts : Nat := 0
  /-- 1 | 12 R377 | DC1 false | NOTIFY -/
  notify : Bool := false
  /-- 1 | 12 R380 | DC1 false | SECURED -/
  secured : Bool := false
  /-- 1 | 12 R379 | DC1 false | STRICT -/
  strict : Bool := false
  /-- 80 | 12 R379 | DC1 0 | LAUNCH: s, ns -/
  launch : Nat × Nat := (0, 0)
  /-- 1 | 12 R379 | DC1 false | LATE -/
  late : Bool := false
  /-- 1 | 12 R378 | DC1 false | aborted by the host while its attempt was on the bus -/
  abortAsked : Bool := false
  /-- time | 12 R376 | DC1 0 | PENDING since -/
  since : Nat := 0
  deriving DecidableEq, Repr

/-- An ISO 15765-2 reception in progress (R381). -/
structure TpRx where
  /-- 13 | 12 R381 | - | message length -/
  len : Nat
  /-- bytes | 12 R381 | - | bytes received -/
  got : List Byte
  /-- 4 | 12 R381 | - | next sequence number -/
  next : Nat
  /-- 8 | 12 R381 | - | frames received in the present block -/
  block : Nat
  /-- time | 12 R381 | - | when the last frame came -/
  last : Nat
  deriving DecidableEq, Repr

/-- An ISO 15765-2 transmission in progress (R381). -/
structure TpTx where
  /-- bytes | 12 R381 | - | whole message -/
  msg : List Byte
  /-- 13 | 12 R381 | - | bytes handed to the transport buffer -/
  sent : Nat
  /-- 4 | 12 R381 | - | next sequence number -/
  next : Nat
  /-- time | 12 R381 | - | waiting for flow control since -/
  waitFc : Option Nat
  /-- 4 | 12 R381 | - | consecutive WAIT frames -/
  waits : Nat
  /-- 8 | 12 R381 | - | frames left in the block, none: no limit -/
  blockLeft : Option Nat
  /-- 8 | 12 R381 | - | STmin byte of the receiver -/
  stmin : Nat
  deriving DecidableEq, Repr

/-- One CAN FD controller (chapter 12). -/
structure Can where
  /-- 2 | 12 R364 | spec OFF until ready | MODE -/
  mode : CanMode := .off
  /-- 2 | 12 R367 | DC1 none | mode ordered, taken at the next bus idle -/
  order : Option CanMode := none
  /-- 1 | 12 R364 | DC1 false | bus integration after a network restart runs -/
  integrating : Bool := false
  /-- 2 | 12 R365 | DC1 error-active | ERROR_STATE -/
  err : CanError := .active
  /-- 9 | 12 R365 | DC1 0 | TEC -/
  tec : Nat := 0
  /-- 8 | 12 R365 | DC1 0 | REC -/
  rec_ : Nat := 0
  /-- 1 | 12 R365 | DC1 false | recovery from bus-off runs -/
  recovering : Bool := false
  /-- 1 | 12 R366 | DC1 false | NO_ACK_PEER -/
  noAck : Bool := false
  /-- 5 | 12 R366 | DC1 0 | consecutive attempts ended in an acknowledgement error -/
  noAckRun : Nat := 0
  /-- 1 | 12 R385 | DC1 false | bus fault present -/
  busFault : Bool := false
  /-- 1 | 12 R363 | spec disconnected until the configuration is loaded | termination connected -/
  term : Bool := false
  /-- 1 | 12 R368 | DC1 false | DATA_UNVERIFIED -/
  unverified : Bool := false
  /-- 3 | 12 R369 | DC1 none (TIMING) | accepted candidate in use -/
  candidate : Option Nat := none
  /-- 3 | 12 R368 | DC1 0 | candidate being tried -/
  trying : Nat := 0
  /-- time | 12 R368 | DC1 0 | start of its dwell -/
  dwellAt : Nat := 0
  /-- 2 | 12 R368 | DC1 0 | good frames in a row at it -/
  goodRun : Nat := 0
  /-- 1 | 12 R368 | DC1 false | a frame with BRS was received at it -/
  brsSeen : Bool := false
  /-- 32 | 12 R368 | DC1 0 | candidate cycles completed -/
  cycles : Nat := 0
  /-- time | 12 R368 | DC1 none | last CAN_RATE_NOT_FOUND -/
  notFoundAt : Option Nat := none
  /-- 64 objects | 12 R370 | DC1 unbound | receive objects -/
  objs : List RxObj := List.replicate 64 {}
  /-- 3 buffers | 12 R376 | DC1 EMPTY | host transmit buffers -/
  bufs : List TxBuf := List.replicate 3 {}
  /-- frame | 12 R376 | DC1 none | transport buffer pending -/
  tpBuf : Option CanFrame := none
  /-- time | 12 R376 | DC1 0 | the transport buffer is pending since; after a consecutive frame STmin lies between (R381) -/
  tpSince : Nat := 0
  /-- time | 12 R376 | DC1 0 | the publication buffer is pending since -/
  piSince : Nat := 0
  /-- time | 12 R376 | DC1 0 | end of the last attempt or of the last frame received: no attempt now on the bus began earlier -/
  idleAt : Nat := 0
  /-- frame | 12 R381 | DC1 none | flow control waiting for the transport buffer -/
  fcPend : Option CanFrame := none
  /-- 1 | 12 R381 | DC1 false | the frame in the transport buffer is flow control -/
  tpBufFc : Bool := false
  /-- frame | 12 R376 | DC1 none | publication buffer pending, with failed attempts -/
  piBuf : Option (CanFrame × Nat) := none
  tpRx : Option TpRx := none
  tpTx : Option TpTx := none
  /-- 8 messages | 12 R382 | DC1 empty | replies and notifications waiting for the transport -/
  tpWait : List (List Byte) := []
  /-- 16 | 12 R383 | DC1 0 | SEQ of the last process image -/
  piSeq : Nat := 0
  /-- time | 12 R383 | DC1 0 | start of the present PI_PERIOD -/
  piAt : Nat := 0
  /-- time, list | 12 R383 | DC1 none | last CAN_PI_SKIPPED, and times of the frames skipped in the last second -/
  piSkipAt : Option Nat := none
  piSkips : List Nat := []
  /-- 32 | 12 R385 | DC1 0 | RX_FRAMES, wrapping -/
  rxFrames : Nat := 0
  /-- 32 | 12 R385 | DC1 0 | TX_FRAMES, wrapping -/
  txFrames : Nat := 0
  /-- 32 | 12 R385 | DC1 0 | ERRORS, saturating -/
  errors : Nat := 0
  /-- 16 | 12 R385 | DC1 0 | AUTH_FAILS, saturating -/
  authFails : Nat := 0
  /-- 16 | 12 R385 | DC1 0 | DUPLICATES, saturating -/
  duplicates : Nat := 0
  /-- 16 | 12 R385 | DC1 0 | PI_SKIPPED, saturating -/
  piSkipped : Nat := 0
  /-- 16 | 12 R385 | DC1 0 | TP_ERRORS, saturating -/
  tpErrors : Nat := 0
  deriving DecidableEq, Repr

/-! ### Ethernet -/

/-- Status of one switch port (Table 10). -/
structure EthPort where
  /-- 1 | 13 R401 | spec DOWN in reset (R392); UP for HOST | LINK -/
  link : Bool := false
  /-- 2 | 13 R401 | spec NONE in reset | SPEED: NONE 0, M10 1, M100 2, M1000 3 -/
  speed : Nat := 0
  /-- 2 | 13 R401 | DC1 0 | [1] MDI-X, [0] full duplex -/
  flags : Nat := 0
  /-- 32 | 13 R401 | DC1 0 | RX_FRAMES, wrapping -/
  rx : Nat := 0
  /-- 32 | 13 R401 | DC1 0 | TX_FRAMES, wrapping -/
  tx : Nat := 0
  /-- 32 | 13 R401 | DC1 0 | RX_ERRORS, saturating -/
  rxErrors : Nat := 0
  /-- 32 | 13 R401 | DC1 0 | DROPS, saturating -/
  drops : Nat := 0
  deriving DecidableEq, Repr

/-- A learned address (R390). -/
structure Learned where
  /-- 12 | 13 R390 | - | VID -/
  vid : Nat
  /-- 48 | 13 R390 | - | MAC address -/
  mac : Nat
  /-- 2 | 13 R390 | - | port 0 to 2 -/
  port : Nat
  /-- time | 13 R390 | - | when the address was last seen -/
  seen : Nat
  deriving DecidableEq, Repr

/-- A frame that waits in a queue of an egress port (R390). -/
structure QueuedFrame where
  /-- 1 | 13 R390 | - | egress port: ETH1 0, ETH2 1 -/
  port : Nat
  /-- 2 | 13 R390 | - | queue, 0 the highest -/
  prio : Nat
  /-- bytes | 13 R390 | - | the frame without FCS -/
  bytes : List Byte
  /-- time | 13 R390 | - | since when it waits -/
  since : Nat
  deriving DecidableEq, Repr

/-- A Follow_Up that waits for the residence time of its Sync (R394). -/
structure HeldFollowUp where
  /-- 88 | 13 R394 | - | domain, source port identity and sequence -/
  key : List Byte
  /-- 12 | 13 R394 | - | VID -/
  vid : Nat
  /-- 2 | 13 R394 | - | ingress port -/
  ingress : Nat
  /-- 16 | 13 R394 | - | tag control -/
  tci : Nat
  /-- bytes | 13 R394 | - | the frame without tag -/
  body : List Byte
  deriving DecidableEq, Repr

/-- A raw-frame ring (R399, R400). -/
structure EthRing where
  /-- 18 | 13 R400 | DC1 0 | BASE -/
  base : Nat := 0
  /-- 9 | 13 R400 | DC1 0 stopped | COUNT; 0: stopped -/
  count : Nat := 0
  /-- 8 | 13 R399 | DC1 0 | next index -/
  next : Nat := 0
  /-- 1 | 13 R399 | DC1 false | idle at a descriptor whose OWN was clear, until a DOORBELL write -/
  idle : Bool := false
  /-- 9 | 13 R399 | DC1 0 | transmit: descriptors from the next one on that a DOORBELL write has found module-owned -/
  told : Nat := 0
  /-- frame | 13 R399 | DC1 none | transmit: frame of the descriptor being sent, its CTRL_STATUS -/
  sending : Option (Nat × List Byte) := none
  /-- refs | 13 R400 | DC1 empty | ETH_RING_SET commands with COUNT 0 that wait for the descriptor boundary -/
  stopping : List Nat := []
  deriving DecidableEq, Repr

/-- A UDP reassembly in progress (R319). -/
structure Reassembly where
  /-- 32, 16 | 10 R319 | - | source address, IP identification -/
  key : Nat × Nat
  /-- list | 10 R319 | - | fragments received: offset, bytes -/
  parts : List (Nat × List Byte)
  /-- time | 10 R319 | - | first fragment -/
  since : Nat
  deriving DecidableEq, Repr

/-- The Ethernet part of the network island (chapter 13). -/
structure Eth where
  port1 : EthPort := {}
  port2 : EthPort := {}
  portH : EthPort := { link := true }
  /-- 1 024 entries | 13 R390 | DC1 empty | learned addresses -/
  learned : List Learned := []
  /-- 14 | 13 R391 | DC1 0 | broadcast and multicast frames admitted to the host port this second, and its start -/
  storm : Nat × Nat := (0, 0)
  /-- list | 13 R391 | DC1 empty | times of the frames dropped in the last second, and when ETH_STORM_DROP was logged last -/
  stormDrops : List Nat := []
  stormAt : Option Nat := none
  tx : EthRing := {}
  rx : EthRing := {}
  /-- list | 13 R399 | DC1 empty | times of the frames dropped in the last second, and when ETH_RX_NO_DESC was logged last -/
  noDesc : List Nat := []
  noDescAt : Option Nat := none
  /-- 32 | 13 R395 | spec 0 at power-on | etbTopoCnt -/
  etbTopo : Nat := 0
  /-- 32 | 13 R395 | spec 0 at power-on | opTrnTopoCnt -/
  opTopo : Nat := 0
  /-- 32 | 13 R401 | DC1 0 | PD_SEQ -/
  pdSeq : Nat := 0
  /-- 16 | 13 R395 | DC1 0 | SEQ of the dataset -/
  dsSeq : Nat := 0
  /-- bytes | 13 R395 | DC1 none | process-data datagram not yet left -/
  pd : Option (List Byte) := none
  /-- time | 13 R395 | DC1 0 | start of the present PD_PERIOD -/
  pdAt : Nat := 0
  /-- list | 13 R395 | DC1 empty | times of the periods skipped in the last second, and when TRDP_SKIPPED was logged last -/
  pdSkips : List Nat := []
  pdSkipAt : Option Nat := none
  /-- list | 13 R394 | DC1 empty | residence times of two-step Syncs: domain, source port identity and sequence; egress port; ns -/
  residence : List (List Byte × Nat × Nat) := []
  /-- list | 13 R394 | DC1 empty | Follow_Ups that wait for the residence time of their Sync -/
  followUps : List HeldFollowUp := []
  /-- 2 × 4 queues | 13 R390 | DC1 empty | frames that wait in the queues of ETH1 and ETH2, in the order they came -/
  queued : List QueuedFrame := []
  /-- time | 13 R390 | DC1 0 | until when the frames that left last keep ETH1 and ETH2 busy -/
  busy : Nat × Nat := (0, 0)
  /-- 16 | 10 R319 | DC1 0 | identification of the next IPv4 datagram the module sends -/
  ipIdent : Nat := 0
  /-- 8 | 10 R319 | DC1 empty | UDP reassemblies -/
  reasm : List Reassembly := []
  /-- list | 13 R390 | MODEL empty | frames that leave by ETH1 and ETH2: egress port, queue of it, 0 the highest, frame bytes without FCS -/
  out : List (Nat × Nat × List Byte) := []
  /-- 1 | 13 R392 | spec before the configuration is loaded | configuration loaded: R390 applies -/
  configured : Bool := false
  deriving DecidableEq, Repr

/-! ### Culvert -/

/-- Channel states (Table 10). -/
inductive CvState where
  | idle | running | waiting | starved | stopping | halted | error | lapEnd
  deriving DecidableEq, Repr

/-- A descriptor as the channel read it (R406). -/
structure Desc where
  /-- 32 | 14 R406 | - | CTRL_STATUS -/
  ctrl : Nat
  /-- 24 | 14 R406 | - | BYTE_COUNT -/
  count : Nat
  /-- 32 | 14 R406 | - | SRC -/
  src : Nat
  /-- 32 | 14 R406 | - | DST -/
  dst : Nat
  /-- 32 | 14 R406 | - | NEXT -/
  next : Nat
  /-- 32 | 14 R406 | - | SGL_PTR -/
  sglPtr : Nat := 0
  /-- list | 14 R406 | - | the list of a GATHER or SCATTER: address, length -/
  sgl : List (Nat × Nat)
  deriving DecidableEq, Repr

/-- One culvert channel (R404 to R415). -/
structure CvChan where
  /-- 3 | 14 R423 | spec IDLE (R421) | STATE -/
  state : CvState := .idle
  /-- 32 | 14 R423 | DC1 0 | DESC_ADDR, current or last descriptor -/
  descAddr : Nat := 0
  /-- struct | 14 R406 | DC1 none | descriptor in progress -/
  desc : Option Desc := none
  /-- 24 | 14 R423 | DC1 0 | bytes moved of the descriptor in progress; BYTES_LEFT is its count less this -/
  moved : Nat := 0
  /-- 16 | 14 R414 | DC1 0 | LAPS, saturating -/
  laps : Nat := 0
  /-- 32 | 14 R414 | DC1 0 | descriptor that CV_START named -/
  start : Nat := 0
  /-- 11 | 14 R410 | spec lost at reset (R421) | HIGH -/
  high : Nat := 1
  /-- 11 | 14 R410 | spec lost at reset (R421) | LOW -/
  low : Nat := 0
  /-- 16 | 14 R414 | spec lost at reset (R421) | LAP_LIMIT -/
  lapLimit : Nat := 0
  /-- 32 | 14 R423 | DC1 0 | DESCRIPTORS, wrapping -/
  descriptors : Nat := 0
  /-- 32 | 14 R423 | DC1 0 | BYTES, wrapping -/
  bytes : Nat := 0
  /-- refs | 14 R415 | DC1 empty | CV_STOP commands waiting for the descriptor boundary -/
  stops : List Nat := []
  /-- 1 | 14 R410 | DC1 false | bursts of a paced descriptor have started -/
  flowing : Bool := false
  /-- 1 | 14 R406 | DC1 false | the channel is to read the descriptor at DESC_ADDR -/
  due : Bool := false
  /-- words | 14 R411 | DC1 empty | words the sink holds until their packet is whole -/
  sink : List Word := []
  /-- 1 | 14 R411 | DC1 false | the sink discards the rest of this descriptor's words -/
  sinkBad : Bool := false
  deriving DecidableEq, Repr

/-- The halt record (Table 9). -/
structure HaltRec where
  /-- 8 | 14 R418 | spec NONE | HALT_CAUSE -/
  cause : Nat := 0
  /-- 8 | 14 R418 | DC1 0 | CHANNEL -/
  channel : Nat := 0
  /-- 16 | 14 R422 | DC1 0 | HALT_ERRORS, saturating -/
  errors : Nat := 0
  /-- 32 | 14 R418 | DC1 0 | DESC_ADDR -/
  descAddr : Nat := 0
  /-- 32 | 14 R418 | DC1 0 | FAIL_ADDR -/
  failAddr : Nat := 0
  /-- 80 | 14 R418 | DC1 0 | TIME: s, ns -/
  time : Nat × Nat := (0, 0)
  deriving DecidableEq, Repr

/-- One axis trace queue (R412). -/
structure TraceQ where
  /-- 1 | 14 R412 | spec lost at reset (R421) | trace enabled -/
  on : Bool := false
  /-- 16 | 14 R412 | spec lost at reset (R421) | DIV -/
  div : Nat := 1
  /-- 1 024 words | 14 R412 | DC1 empty | queue, oldest first -/
  words : List Word := []
  /-- 32 | 14 R423 | DC1 0 | DROPS since the previous CV_TRACE_SET, saturating -/
  drops : Nat := 0
  /-- time | 14 R412 | DC1 none | last sample, from which DIV × 20 µs run -/
  lastAt : Option Nat := none
  deriving DecidableEq, Repr

/-- The culvert (chapter 14). -/
structure Culvert where
  chans : List CvChan := List.replicate 16 {}
  halt : HaltRec := {}
  /-- 1 | 14 R416 | spec no halt at reset (R421) | engine halted -/
  halted : Bool := false
  /-- time | 14 R419 | DC1 none | the halt was logged: CV14 and CV15 resume 1 ms later -/
  haltAt : Option Nat := none
  /-- 4 | 14 R405 | DC1 0 | host channel served next in the round robin -/
  rr : Nat := 0
  /-- 8 queues | 14 R412 | DC1 off | axis trace queues -/
  traces : List TraceQ := List.replicate 8 {}
  deriving DecidableEq, Repr

/-! ### The interpreter and the whole module -/

/-- A packet the interpreter holds: for room on its channels (R25), or as a BARRIER packet (R31). -/
structure Hold where
  packet : Packet
  /-- time | 01 R25 | - | when it was decoded -/
  since : Nat
  /-- list | 01 R32 | - | actions it waits for; empty: it waits for room -/
  waits : List Nat
  /-- 1 | 01 R32 | - | one of those actions has failed -/
  broken : Bool
  /-- 1 | 10 R307 | - | steps 3 to 12 are passed: what is left is its own conditions and its dispatch -/
  checked : Bool
  /-- 2 | 17 R499 | - | role of its session, when checked -/
  role : Option Role
  /-- bytes | 10 R309 | - | its whole command payload, when checked -/
  data : List Byte
  /-- 1 | 11 R354 | - | dispatched after its launch time -/
  late : Bool
  /-- 81 | 11 R355 | - | launch time and STRICT of a SCHEDULED PROFILE_SELECT held for room -/
  launch : Option (Nat × Nat × Bool) := none
  /-- 1 | 11 R354 | - | a scheduled packet at a barrier: its dispatch has not begun, and its lateness is judged when it does -/
  unjudged : Bool := false
  deriving DecidableEq, Repr

/-- A held scheduled packet (R353). -/
structure Sched where
  packet : Packet
  /-- 80 | 11 R353 | - | launch time: s, ns -/
  launch : Nat × Nat
  /-- 1 | 11 R352 | - | STRICT -/
  strict : Bool
  /-- 2 | 17 R499 | - | role of its session at arrival -/
  role : Option Role
  /-- bytes | 10 R304 | - | its command payload -/
  data : List Byte
  deriving DecidableEq, Repr

/-- The command interpreter of the polder core (R21 to R32, R309, R353). -/
structure Interp where
  /-- list | 01 R22 | DC1 empty | packets waiting, in the order received -/
  waiting : List Packet := []
  /-- 3 | 01 R22 | DC1 4 (the host SPI is served first) | transport served last -/
  last : Nat := 4
  /-- struct | 01 R25 | DC1 none | packet held for room or at a barrier -/
  hold : Option Hold := none
  /-- list | 01 R21 | DC1 empty | commands dispatched and not yet answered -/
  inflight : List Inflight := []
  /-- list, 32 per channel | 01 R24 | DC1 empty | actions not yet acknowledged, in the order placed -/
  actions : List PlacedAction := []
  /-- 2 | 10 R310 | DC1 empty | open segmented collections -/
  collections : List Collection := []
  /-- 32 packets | 11 R353 | spec none after a reset | held scheduled packets -/
  scheduled : List Sched := []
  /-- list | 11 R353 | spec none after a reset | scheduled packets whose launch time has come, waiting for the interpreter -/
  launched : List Sched := []
  /-- ref | 01 R21 | MODEL 0 | next reference for a command or an action -/
  nextRef : Nat := 0
  /-- list | 02 R48 | DC1 empty | portal requests waiting for the next tick -/
  requests : List Request := []
  /-- 5 | 10 R332 | DC1 counters 0 | SPI, CANA, CANB, Ethernet, levee link -/
  ports : List Port := List.replicate 5 {}
  deriving DecidableEq, Repr

/-- Everything of the module but the command queue and the culvert-addressed memory. -/
structure ModuleState where
  /-- ns | 00 R9 | MODEL 0 | instant of the latest happening, ns since power was applied -/
  now : Nat := 0
  /-- count | - | MODEL 0 | index of the next free value (Config.freeValue) -/
  free : Nat := 0
  /-- 4 | 00 R2 | DC1 4 (YL-D480-4P) | VARIANT: 2 for the 2P, 4 for the 4P -/
  variant : Nat := 4
  /-- 10 | 01 R40 | DC1 running | islands in the order of Table 1 -/
  islands : List Island := List.replicate 10 {}
  reset : ResetState := {}
  portals : List Portal := List.replicate 4 {}
  profiles : Profiles := {}
  axes : List Axis := List.replicate 8 {}
  drives : List Drive := List.replicate 8 {}
  driveCommon : DriveCommon := {}
  feedback : List Feedback := List.replicate 8 {}
  obst : List Obstacle := List.replicate 4 {}
  ring : DikeRing := {}
  loads : List Load := List.replicate 16 {}
  loadCommon : LoadCommon := {}
  field : Foreland := {}
  host : HostWin := {}
  interp : Interp := {}
  time : TimeUnit := {}
  sec : Security := {}
  recd : Recorder := {}
  can : List Can := List.replicate 2 {}
  eth : Eth := {}
  cv : Culvert := {}
  warden : Warden := {}
  pair : Pair := {}
  /-- list | 10 R312 | MODEL empty | replies and notifications handed to the network transports, oldest first -/
  out : List OutPacket := []
  deriving DecidableEq, Repr

end Sys2Proof.Machine
end

