-- ==== Sys2Proof/Machine/State.lean ====
section
/-! DEFINITION. The machine's state: the queue of waiting commands, the culvert-addressed memory, and the module; the
reasons it stops; the state right after power has been applied. -/

namespace Sys2Proof.Machine

/-- Memory of the culvert's address map (R403): addresses and bytes, addresses strictly rising, no byte 0 listed. An
unlisted address reads as 0 (R324 Table 17 gives WIN_DATA the reset value 0; log entry 10). -/
abbrev Memory := List Host.Cell

/-- The canonical form of a memory. -/
abbrev Memory.wf (mem : Memory) : Prop :=
  mem.Pairwise (fun p q => p.1 < q.1) ∧ ∀ p ∈ mem, p.2 ≠ 0#8

/-- Why the machine stops on a command. -/
inductive Fault where
  /-- A row names an axis, portal, channel, input, island or controller the module does not have (R306, R1). Raised by
  the rows that carry an index. Safe: such a happening cannot occur. -/
  | noSuchObject
  deriving DecidableEq, Repr

/-- Why a command has no meaning. -/
inductive Refusal where
  /-- The command has no meaning in the model yet. Raised by exec's arms alone. Safe. -/
  | notModelled (mnemonic : String)
  deriving DecidableEq, Repr

/-- The state of the block. -/
structure State where
  /-- list | - | MODEL empty | commands waiting, first in, first out -/
  pending : List Instr := []
  /-- bytes | 14 R403 | DC1 empty (all bytes 0) | Polder window, recorder SRAM and NAND page buffer by culvert address -/
  mem : Memory := []
  /-- struct | - | MODEL | everything else -/
  m : ModuleState := {}
  deriving DecidableEq, Repr

/-- The module right after VCTL has been applied: held in the power-on reset (R567 Table 1), every register at the value
its field's comment names, as delivered: lifecycle BLANK, no configuration and no profile set stored (log entry 1). -/
def State.reset : State := {}

end Sys2Proof.Machine
end

