-- ==== Sys2Proof/Machine/Base.lean ====
section
/-! DEFINITION. The named operations shared by the meanings, first part: memory, lists of like things, islands, module time, the configuration,
counters, target words. An operation is one update of the state whose fields are computed, so that what it leaves alone is plain. -/

namespace Sys2Proof.Machine

/-! ### Happenings -/

/-- A happening at instant t: the module's clock stands at t, or at the latest instant seen, and f gives its effect. -/
def State.at (t : Nat) (f : ModuleState → ModuleState) (s : State) : State :=
  { s with m := f { s.m with now := max s.m.now t } }

/-- The outcome of a happening that names an object: it happens when the object exists. -/
def happen (ok : Bool) (t : Nat) (f : ModuleState → ModuleState) (s : State) : Host.Outcome State Fault Refusal :=
  if ok then .next (s.at t f) else .fault .noSuchObject

/-! ### Memory -/

/-- The byte at an address; an unlisted address reads as 0. -/
def Memory.read : Memory → Nat → Byte
  | [], _ => 0
  | (k, v) :: r, a => if k = a then v else Memory.read r a

/-- A memory with one byte written, in canonical form. -/
def Memory.write : Memory → Nat → Byte → Memory
  | [], a, b => if b = 0 then [] else [(a, b)]
  | (k, v) :: r, a, b =>
    if a < k then (if b = 0 then (k, v) :: r else (a, b) :: (k, v) :: r)
    else if a = k then (if b = 0 then r else (a, b) :: r)
    else (k, v) :: Memory.write r a b

/-- n bytes from an address upward. -/
def Memory.bytes (mem : Memory) (a : Nat) : Nat → List Byte
  | 0 => []
  | n + 1 => mem.read a :: mem.bytes (a + 1) n

/-- Bytes written from an address upward. -/
def Memory.store (mem : Memory) (a : Nat) : List Byte → Memory
  | [] => mem
  | b :: r => (mem.write a b).store (a + 1) r

/-! ### Lists of like things -/

/-- A list with its element i changed; unchanged when there is none. -/
def upd {α : Type} (l : List α) (i : Nat) (f : α → α) : List α := l.modify i f

/-- A list with every element changed. -/
def updAll {α : Type} (l : List α) (f : α → α) : List α := l.map f

/-- A list with the elements that satisfy a test changed. -/
def updIf {α : Type} (l : List α) (c : α → Bool) (f : α → α) : List α := l.map fun x => if c x then f x else x

/-- Damaged words that n written bytes from an address cover are whole again (R331). -/
def ModuleState.mend (m : ModuleState) (a n : Nat) : ModuleState :=
  { m with host := { m.host with damaged := m.host.damaged.filter fun w => !(decide (a ≤ w) && decide (w + 4 ≤ a + n)) } }

/-- Axis by index. -/
def ModuleState.axis (m : ModuleState) (a : Nat) : Axis := m.axes.getD a {}
/-- Drive by axis index. -/
def ModuleState.drive (m : ModuleState) (a : Nat) : Drive := m.drives.getD a {}
/-- Feedback by axis index. -/
def ModuleState.fb (m : ModuleState) (a : Nat) : Feedback := m.feedback.getD a {}
/-- Portal by number 1 to 4. -/
def ModuleState.portal (m : ModuleState) (p : Nat) : Portal := m.portals.getD (p - 1) {}
/-- Obstacle state by portal number 1 to 4. -/
def ModuleState.ob (m : ModuleState) (p : Nat) : Obstacle := m.obst.getD (p - 1) {}
/-- Load channel by number 1 to 16. -/
def ModuleState.load (m : ModuleState) (n : Nat) : Load := m.loads.getD (n - 1) {}
/-- Field input by number 1 to 48. -/
def ModuleState.fin (m : ModuleState) (n : Nat) : FieldIn := m.field.inputs.getD (n - 1) {}
/-- Field output by number 1 to 16. -/
def ModuleState.fout (m : ModuleState) (n : Nat) : FieldOut := m.field.outputs.getD (n - 1) {}
/-- Island by index of R40 Table 7. -/
def ModuleState.island (m : ModuleState) (i : Nat) : Island := m.islands.getD i {}
/-- CAN controller by index. -/
def ModuleState.ctl (m : ModuleState) (c : Nat) : Can := m.can.getD c {}
/-- Culvert channel by index. -/
def ModuleState.chan (m : ModuleState) (c : Nat) : CvChan := m.cv.chans.getD c {}

/-- The module with one axis changed. -/
def ModuleState.setAxis (m : ModuleState) (a : Nat) (f : Axis → Axis) : ModuleState := { m with axes := upd m.axes a f }
/-- The module with one drive changed. -/
def ModuleState.setDrive (m : ModuleState) (a : Nat) (f : Drive → Drive) : ModuleState :=
  { m with drives := upd m.drives a f }
/-- The module with one axis's feedback changed. -/
def ModuleState.setFb (m : ModuleState) (a : Nat) (f : Feedback → Feedback) : ModuleState :=
  { m with feedback := upd m.feedback a f }
/-- The module with one portal changed. -/
def ModuleState.setPortal (m : ModuleState) (p : Nat) (f : Portal → Portal) : ModuleState :=
  { m with portals := upd m.portals (p - 1) f }
/-- The module with one portal's obstacle state changed. -/
def ModuleState.setOb (m : ModuleState) (p : Nat) (f : Obstacle → Obstacle) : ModuleState :=
  { m with obst := upd m.obst (p - 1) f }
/-- The module with one load channel changed. -/
def ModuleState.setLoad (m : ModuleState) (n : Nat) (f : Load → Load) : ModuleState :=
  { m with loads := upd m.loads (n - 1) f }
/-- The module with one field input changed. -/
def ModuleState.setFin (m : ModuleState) (n : Nat) (f : FieldIn → FieldIn) : ModuleState :=
  { m with field := { m.field with inputs := upd m.field.inputs (n - 1) f } }
/-- The module with one field output changed. -/
def ModuleState.setFout (m : ModuleState) (n : Nat) (f : FieldOut → FieldOut) : ModuleState :=
  { m with field := { m.field with outputs := upd m.field.outputs (n - 1) f } }
/-- The module with one island changed. -/
def ModuleState.setIsland (m : ModuleState) (i : Nat) (f : Island → Island) : ModuleState :=
  { m with islands := upd m.islands i f }
/-- The module with one CAN controller changed. -/
def ModuleState.setCtl (m : ModuleState) (c : Nat) (f : Can → Can) : ModuleState := { m with can := upd m.can c f }
/-- The module with one culvert channel changed. -/
def ModuleState.setChan (m : ModuleState) (c : Nat) (f : CvChan → CvChan) : ModuleState :=
  { m with cv := { m.cv with chans := upd m.cv.chans c f } }

/-- The module after one update for each element of a list, in order. -/
def ModuleState.each {α : Type} (m : ModuleState) (l : List α) (f : ModuleState → α → ModuleState) : ModuleState :=
  l.foldl f m

/-- Portal numbers. -/
def portalNums : List Nat := [1, 2, 3, 4]
/-- Axis indexes. -/
def axisNums : List Nat := [0, 1, 2, 3, 4, 5, 6, 7]
/-- Numbers 1 to 16. -/
def nums16 : List Nat := [1, 2, 3, 4, 5, 6, 7, 8, 9, 10, 11, 12, 13, 14, 15, 16]

/-! ### Islands -/

/-- The module is held in a reset (R567, R573). -/
def ModuleState.held (m : ModuleState) : Bool := m.reset.phase == .held || m.reset.phase == .lockout

/-- An island runs: it is RUNNING and the module is not held in reset (R567 stops every island). -/
def ModuleState.runs (m : ModuleState) (i : Nat) : Bool :=
  (m.island i).state == .running && m.reset.phase != .held && m.reset.phase != .lockout

/-- The whole host window answers (R323, R573): the module is ready and the polder core runs. -/
def ModuleState.windowOpen (m : ModuleState) : Bool := m.reset.phase == .ready && m.runs isPolder

/-- CMD_FIFO, CMD_LEVEL, RSP_FIFO and RSP_LEVEL answer (R323, R540). -/
def ModuleState.cmdOpen (m : ModuleState) : Bool := m.windowOpen || m.reset.phase == .recovery

/-- The motion island of an axis: M1 serves D1, S1, D2, S2 (indexes 0, 1, 4, 5), M2 the others (R18, R75). -/
def axisIsland (a : Nat) : Nat := if a % 4 < 2 then isM1 else isM2

/-- The axis channel of an axis (R24). -/
def axisChannel (a : Nat) : Channel := if a % 4 < 2 then .m1ax else .m2ax

/-- The load channel's destination channel (R24). -/
def loadChannel (n : Nat) : Channel := if n ≤ 8 then .m1ls else .m2ls

/-- An axis is populated: the 2P carries D1, S1, D2 and S2 alone (R1). -/
def ModuleState.populated (m : ModuleState) (a : Nat) : Bool := a < 8 && (m.variant == 4 || a % 4 < 2)

/-! ### Module time -/

/-- Whole 8 ns periods since asOf. -/
def TimeUnit.periods (u : TimeUnit) (now : Nat) : Nat := (now - u.asOf) / 8

/-- Periods for which the offset is still slewed out (R346). -/
def TimeUnit.slewPeriods (u : TimeUnit) : Nat := u.residue.natAbs / max 1 u.slew.natAbs

/-- TRIM added in n periods (R336, R346). -/
def TimeUnit.trimmed (u : TimeUnit) (n : Nat) : Int :=
  (min n u.slewPeriods : Nat) * u.slew + (n - u.slewPeriods : Nat) * u.trim

/-- TRIM at an instant. -/
def TimeUnit.trimAt (u : TimeUnit) (now : Nat) : Int := if u.periods now < u.slewPeriods then u.slew else u.trim

/-- Module time at an instant, in units of 2^-32 ns (R336): 8 ns plus TRIM for every 8 ns period. -/
def TimeUnit.sub (u : TimeUnit) (now : Nat) : Int :=
  (((u.sec * 1000000000 + u.ns) * 4294967296 + u.frac : Nat) : Int) + (u.periods now : Int) * (8 * 4294967296) +
    u.trimmed (u.periods now)

/-- The count of R337 at an instant before that of the unit's values: counted back at the present rate, and before the latest step on the scale
that it ended (log entry 176). -/
def TimeUnit.before (u : TimeUnit) (t : Nat) : Nat :=
  let rate : Int := 8 * 4294967296 + u.trimAt u.asOf
  let c := (u.sub u.asOf - ((u.asOf - t + 7) / 8 : Nat) * rate) / 4294967296
  match u.stepped with
  | some (at_, d) => if t < at_ then (c - d).toNat else c.toNat
  | none => c.toNat

/-- The continuous nanosecond count of R337 at an instant. -/
def TimeUnit.count (u : TimeUnit) (now : Nat) : Nat := if now < u.asOf then u.before now else (u.sub now / 4294967296).toNat

/-- Module time at an instant: seconds and nanoseconds. -/
def TimeUnit.stamp (u : TimeUnit) (now : Nat) : Nat × Nat :=
  (u.count now / 1000000000 % 2 ^ 48, u.count now % 1000000000)

/-- The time unit with its values brought forward to the last whole period before an instant. -/
def TimeUnit.rebase (u : TimeUnit) (now : Nat) : TimeUnit :=
  let n := u.periods now
  { u with sec := u.count now / 1000000000 % 2 ^ 48, ns := u.count now % 1000000000,
           frac := (u.sub now % 4294967296).toNat, asOf := u.asOf + n * 8,
           residue := if n < u.slewPeriods then u.residue + n * u.slew else 0 }

/-- The time unit set to a module time at an instant. -/
def TimeUnit.set (u : TimeUnit) (now : Nat) (t : Nat × Nat) : TimeUnit :=
  { u with sec := t.1, ns := t.2, frac := 0, asOf := now, residue := 0
           stepped := some (now, ((t.1 * 1000000000 + t.2 : Nat) : Int) - (u.sub now / 4294967296)) }

/-- Module time now. -/
def ModuleState.stamp (m : ModuleState) : Nat × Nat := m.time.stamp m.now

/-- The continuous nanosecond count of R337 now. -/
def ModuleState.count (m : ModuleState) : Nat := m.time.count m.now

/-- A time stamp in 10 bytes (R338). -/
def stampBytes (t : Nat × Nat) : List Byte := leBytes 6 t.1 ++ leBytes 4 t.2

/-- Code of a clock quality (R342 Table 3). -/
def Quality.code : Quality → Nat
  | .free => 0 | .syncing => 1 | .locked => 2 | .holdover => 3

/-- Whole milliseconds in ns. -/
def ms (n : Nat) : Nat := n * 1000000

/-- Whole seconds in ns. -/
def seconds (n : Nat) : Nat := n * 1000000000

/-- A span has run out: it began at an instant and lasts so long. -/
def ModuleState.due (m : ModuleState) (began span : Nat) : Bool := began + span ≤ m.now

/-- A span that began at an instant, if it runs, has run out. -/
def ModuleState.dueO (m : ModuleState) (began : Option Nat) (span : Nat) : Bool :=
  match began with
  | some b => m.due b span
  | none => false

/-! ### The configuration -/

/-- n bytes of the active module configuration as a number (R529). -/
def ModuleState.cfg (m : ModuleState) (off n : Nat) : Nat := getN m.warden.config off n

/-- n bytes of the active module configuration as a signed number. -/
def ModuleState.cfgInt (m : ModuleState) (off n : Nat) : Int := getI m.warden.config off n

/-- An active configuration exists (R530). -/
def ModuleState.configured (m : ModuleState) : Bool := !m.warden.config.isEmpty

/-- Bytes of the active module configuration, as a READ command returns an entry. -/
def ModuleState.cfgEntry (m : ModuleState) (off n : Nat) : List Byte := padTo n (m.warden.config.drop off)

/-- NOR bank by number. -/
def ModuleState.bank (m : ModuleState) (n : Nat) : Bank := m.warden.banks.getD n {}

/-- A byte of a bank's image region: the last write to it since the erase, else 0xFF, or what was delivered (R528, R532). -/
def Bank.byte (b : Bank) (n off : Nat) : Byte :=
  match b.writes.reverse.find? fun w => w.1 ≤ off && off < w.1 + w.2.length with
  | some w => w.2.getD (off - w.1) 0
  | none => if b.erased then 0xFF else Config.deliveredImage n off

/-- Bytes of a bank's image region. -/
def ModuleState.image (m : ModuleState) (n off len : Nat) : List Byte := (List.range len).map fun k => (m.bank n).byte n (off + k)

/-- A field of the signature block of a bank (R511 Table 5); 0 when the bank is EMPTY (R544 Table 10). -/
def ModuleState.sigField (m : ModuleState) (n off len : Nat) : Nat :=
  if (m.bank n).state == .empty then 0 else leNat (m.image n off len)

/-! ### Counters -/

/-- A counter that saturates at its largest value (R9). -/
def sat (max v : Nat) : Nat := if v < max then v + 1 else max

/-- A counter that saturates, raised by an amount. -/
def satAdd (max v n : Nat) : Nat := min max (v + n)

abbrev max8 : Nat := 0xFF
abbrev max16 : Nat := 0xFFFF
abbrev max32 : Nat := 0xFFFFFFFF

/-! ### Target words -/

/-- TARGET word of the module (R306). -/
abbrev tgModule : Nat := 0
/-- TARGET word of a portal. -/
def tgPortal (p : Nat) : Nat := 0x100 + p
/-- TARGET word of an axis. -/
def tgAxis (a : Nat) : Nat := 0x200 + a
/-- TARGET word of a load channel. -/
def tgLoad (n : Nat) : Nat := 0x300 + n
/-- TARGET word of a field input. -/
def tgFin (n : Nat) : Nat := 0x400 + n
/-- TARGET word of a field output. -/
def tgFout (n : Nat) : Nat := 0x400 + 64 + n
/-- TARGET word of a culvert channel. -/
def tgChan (n : Nat) : Nat := 0x600 + n

end Sys2Proof.Machine
end

