-- ==== Sys2Proof/Machine/Switch.lean ====
section
/-! DEFINITION. The switch as every frame meets it (R388 to R390): settings, frames with their VLAN, learned addresses and egress ports, the
queues of the egress ports; and the module's own datagrams on it (R319, R393). -/

namespace Sys2Proof.Machine

/-! ### Bytes in network order -/

/-- n bytes from an offset, first octet most significant. -/
def beN (b : List Byte) (off n : Nat) : Nat := leNat ((padTo n (b.drop off)).reverse)

/-- n bytes of a number, first octet most significant. -/
def beBytes (n v : Nat) : List Byte := (leBytes n v).reverse

/-- Bytes with a part replaced. -/
def patch (b : List Byte) (off : Nat) (x : List Byte) : List Byte := b.take off ++ x ++ b.drop (off + x.length)

/-- Sum of 16-bit words in network order. -/
def sumWords : List Byte → Nat
  | a :: b :: r => a.toNat * 256 + b.toNat + sumWords r
  | [a] => a.toNat * 256
  | [] => 0

/-- The Internet checksum of RFC 1071. -/
def inetSum (b : List Byte) : Nat := 0xFFFF - (sumWords b - 1) % 0xFFFF - (if sumWords b = 0 then 0 else 1)

/-! ### Settings -/

/-- Offset of the Ethernet settings entry (R529, R388). -/
abbrev ethCfg : Nat := 3016

/-- FLAGS of the Ethernet settings (R388). -/
def ModuleState.ethFlags (m : ModuleState) : Nat := m.cfg ethCfg 1

/-- HOST_VID (R388). -/
def ModuleState.hostVid (m : ModuleState) : Nat := m.cfg (ethCfg + 12) 2

/-- MEMBER and UNTAGGED of a VLAN (R388 Table 2): bit 0 ETH1, bit 1 ETH2, bit 2 HOST; no port for a VLAN without entry. -/
def ModuleState.vlan (m : ModuleState) (vid : Nat) : Nat × Nat :=
  match (List.range 8).find? fun k => vid != 0 && m.cfg (ethCfg + 40 + 4 * k) 2 == vid with
  | some k => (m.cfg (ethCfg + 42 + 4 * k) 1, m.cfg (ethCfg + 43 + 4 * k) 1)
  | none => (0, 0)

/-- VLAN of untagged frames of a port (R390). -/
def ModuleState.pvid (m : ModuleState) (port : Nat) : Nat :=
  if port = 0 then m.cfg (ethCfg + 14) 2 else if port = 1 then m.cfg (ethCfg + 16) 2 else m.hostVid

/-! ### The switch -/

/-- Ethernet with one port changed: ETH1 0, ETH2 1, HOST 2. -/
def Eth.setPort (e : Eth) (port : Nat) (f : EthPort → EthPort) : Eth :=
  if port = 0 then { e with port1 := f e.port1 } else if port = 1 then { e with port2 := f e.port2 }
  else { e with portH := f e.portH }

/-- A port of Ethernet. -/
def Eth.port (e : Eth) (port : Nat) : EthPort := if port = 0 then e.port1 else if port = 1 then e.port2 else e.portH

/-- The module with its Ethernet part changed. -/
def ModuleState.setEth (m : ModuleState) (f : Eth → Eth) : ModuleState := { m with eth := f m.eth }

/-- A frame as the switch handles it: its tag control, 0 for none, whether it was tagged, and its bytes without the tag. -/
structure SwFrame where
  tci : Nat
  tagged : Bool
  body : List Byte
  deriving DecidableEq, Repr

/-- A frame from its bytes without FCS. -/
def readFrame (b : List Byte) : SwFrame :=
  if beN b 12 2 = 0x8100 then { tci := beN b 14 2, tagged := true, body := b.take 12 ++ b.drop 16 }
  else { tci := 0, tagged := false, body := b }

/-- EtherType of a frame, after any tag. -/
def SwFrame.etherType (f : SwFrame) : Nat := beN f.body 12 2
/-- Destination and source address, as their octets give them. -/
def SwFrame.dst (f : SwFrame) : Nat := getN f.body 0 6
def SwFrame.src (f : SwFrame) : Nat := getN f.body 6 6
/-- A broadcast or multicast destination. -/
def SwFrame.group (f : SwFrame) : Bool := bit f.dst 0

/-- Offset of the PTP header in a frame without tag: IEEE 802.3 or an IPv4 datagram to UDP port 319 or 320 (R394). -/
def ptpOffset (f : SwFrame) : Option Nat :=
  if f.etherType = 0x88F7 then some 14
  else
    let ihl := bitsAt (getN f.body 14 1) 0 4 * 4
    if f.etherType = 0x0800 ∧ getN f.body 23 1 = 17 ∧ (beN f.body (14 + ihl + 2) 2 = 319 ∨ beN f.body (14 + ihl + 2) 2 = 320) then
      some (14 + ihl + 8)
    else none

/-- A PTP event message: Sync, Delay_Req, Pdelay_Req or Pdelay_Resp (IEEE 1588). -/
def SwFrame.ptpEvent (f : SwFrame) : Bool := (ptpOffset f).any fun off => bitsAt (getN f.body off 1) 0 4 < 4

/-- The queue of an egress port a frame goes to, 0 the highest (R390): two PCP values each; PTP event messages in the highest. -/
def SwFrame.queue (f : SwFrame) : Nat := if f.ptpEvent then 0 else 3 - f.tci / 8192 % 8 / 2

/-- Bytes of a frame on an egress port: untagged where the VLAN says so (R390). -/
def ModuleState.egressBytes (m : ModuleState) (vid port : Nat) (f : SwFrame) : List Byte :=
  if bit (m.vlan vid).2 port then f.body
  else f.body.take 12 ++ beBytes 2 0x8100 ++ beBytes 2 (f.tci / 4096 * 4096 + vid) ++ f.body.drop 12

/-! ### Egress queues -/

/-- Time a frame takes on a link of a speed, with preamble, FCS and gap, in ns (R400's example: 24 byte times more than its bytes). -/
def wireTime (speed len : Nat) : Nat := (if speed = 3 then 8 else if speed = 2 then 80 else 800) * (max 60 len + 24)

/-- From when an egress port is free. -/
def Eth.freeAt (e : Eth) (port : Nat) : Nat := if port = 0 then e.busy.1 else e.busy.2

/-- A frame begins to leave by a port: it is counted, and the port is busy until it has left. -/
def Eth.begins (e : Eth) (port prio start : Nat) (b : List Byte) : Eth :=
  let till := start + wireTime (e.port port).speed b.length
  { e.setPort port (fun x => { x with tx := (x.tx + 1) % 2 ^ 32 }) with
    out := e.out ++ [(port, prio, b)], busy := if port = 0 then (till, e.busy.2) else (e.busy.1, till) }

/-- The frame a port sends next (R390): of those that wait when it is free the first in the highest queue, else the first to come. -/
def Eth.nextFrame (e : Eth) (port : Nat) : Option QueuedFrame :=
  let mine := e.queued.filter (·.port == port)
  match [0, 1, 2, 3].findSome? fun k => mine.find? fun x => x.prio == k && x.since ≤ e.freeAt port with
  | some x => some x
  | none => mine.head?

/-- What has begun to leave by a port until now, its queues served by strict priority (R390). -/
def Eth.servePort (now port : Nat) : Nat → Eth → Eth
  | 0, e => e
  | n + 1, e =>
    match e.nextFrame port with
    | none => e
    | some x =>
      let start := max x.since (e.freeAt port)
      if start ≤ now then servePort now port n ({ e with queued := e.queued.erase x }.begins port x.prio start x.bytes) else e

/-- The egress queues served up to now (log entry 145). -/
def Eth.served (e : Eth) (now : Nat) : Eth :=
  let e1 := e.servePort now 0 e.queued.length
  e1.servePort now 1 e1.queued.length

/-- Frames a queue of an egress port can still take (R390; its depth is open, log entry 145), one more when the port is free. -/
def Eth.roomIn (e : Eth) (now port prio : Nat) : Nat :=
  Config.queueDepth - (e.queued.filter fun x => x.port == port && x.prio == prio).length +
    (if e.freeAt port ≤ now && e.queued.all (·.port != port) then 1 else 0)

/-- A frame put on an egress port with link (R390): it leaves at once when the port is free and nothing waits, else it waits in the queue of its
priority; a full queue takes none. -/
def Eth.put (e : Eth) (now port prio : Nat) (b : List Byte) : Eth :=
  if e.freeAt port ≤ now && e.queued.all (·.port != port) then e.begins port prio now b
  else if e.roomIn now port prio = 0 then e.setPort port fun x => { x with drops := sat max32 x.drops }
  else { e with queued := e.queued ++ [{ port, prio, bytes := b, since := now }] }

/-- A frame sent on egress ports, as it leaves each (R390): ports without link send nothing. -/
def ModuleState.putOn (m : ModuleState) (e : Eth) (vid : Nat) (ports : List Nat) (f : Nat → SwFrame) : Eth :=
  ports.foldl (fun e p => if (e.port p).link then e.put m.now p (f p).queue (m.egressBytes vid p (f p)) else e) (e.served m.now)

/-- The source address learned or refreshed (R390). -/
def Eth.learn (e : Eth) (now vid mac port : Nat) : Eth :=
  if bit mac 0 then e
  else if e.learned.any fun x => x.vid == vid && x.mac == mac then
    { e with learned := updIf e.learned (fun x => x.vid == vid && x.mac == mac) fun x => { x with port, seen := now } }
  else if 1024 ≤ e.learned.length then e
  else { e with learned := e.learned ++ [{ vid, mac, port, seen := now }] }

/-- Ports a frame goes to (R390): the learned one, or every other member of its VLAN. -/
def ModuleState.egressOf (m : ModuleState) (e : Eth) (vid ingress : Nat) (f : SwFrame) : List Nat :=
  let members := [0, 1, 2].filter fun p => p != ingress && bit (m.vlan vid).1 p
  if f.dst = Config.macBase ∧ bit (m.vlan vid).1 2 then members.filter (· == 2)
  else if f.group then members
  else match e.learned.find? fun x => x.vid == vid && x.mac == f.dst with
    | some x => members.filter (· == x.port)
    | none => members

/-- Ports a frame goes to from the switch as it is. -/
def ModuleState.egressPorts (m : ModuleState) (vid ingress : Nat) (f : SwFrame) : List Nat := m.egressOf m.eth vid ingress f

/-! ### The module's own datagrams -/

/-- IPv4 address of the module, its octets in order. -/
def ModuleState.ipBytes (m : ModuleState) : List Byte := m.cfgEntry (ethCfg + 4) 4

/-- CMD_PCP (R388). -/
def ModuleState.cmdPcp (m : ModuleState) : Nat := m.cfg (ethCfg + 18) 1

/-- A frame the module sends in HOST_VID with a priority (R393), through the switch: received by it on the host port. -/
def ModuleState.ownFrame (m : ModuleState) (e : Eth) (pcp : Nat) (body : List Byte) : Eth :=
  let f : SwFrame := { tci := pcp * 8192, tagged := true, body }
  m.putOn (e.setPort 2 fun q => { q with rx := (q.rx + 1) % 2 ^ 32 }) m.hostVid ((m.egressOf e m.hostVid 2 f).filter (· != 2)) fun _ => f

/-- An IPv4 address, as its octets give it, as a number with the first octet highest. -/
def ipNum (a : Nat) : Nat := beN (leBytes 4 a) 0 4

/-- Two addresses lie in the module's own network (R388: PREFIX_LEN). -/
def ModuleState.local (m : ModuleState) (a : Nat) : Bool :=
  let k := 2 ^ (32 - m.cfg (ethCfg + 3) 1)
  ipNum a / k == ipNum (m.cfg (ethCfg + 4) 4) / k

/-- The MAC address a datagram to an IPv4 address goes to: that of its group, of all stations, or what ARP gives for the address or for GATEWAY
(R388; log entry 162); none when it cannot be reached (R320). -/
def ModuleState.macOf (m : ModuleState) (a : Nat) : Option Nat :=
  let n := ipNum a
  if n / 2 ^ 28 = 14 then some (leNat ([1, 0, 0x5E] ++ beBytes 3 (n % 2 ^ 23)))
  else if n = 2 ^ 32 - 1 ∨ (m.local a ∧ (n + 1) % 2 ^ (32 - m.cfg (ethCfg + 3) 1) = 0) then some (2 ^ 48 - 1)
  else if m.local a then Config.arp a m.now
  else if m.cfg (ethCfg + 8) 4 = 0 then none
  else Config.arp (m.cfg (ethCfg + 8) 4) m.now

/-- Pieces of an IP payload, each a multiple of 8 bytes that fits a frame of 1 500 bytes (R319): fuel, bytes. -/
def ipPieces : Nat → List Byte → List (List Byte)
  | 0, b => [b]
  | n + 1, b => if b.length ≤ 1480 then [b] else b.take 1480 :: ipPieces n (b.drop 1480)

/-- A UDP datagram with its checksum (RFC 768): ports, addresses, data. -/
def udpDatagram (own dest : List Byte) (srcPort port : Nat) (b : List Byte) : List Byte :=
  let n := 8 + b.length
  let head := beBytes 2 srcPort ++ beBytes 2 port ++ beBytes 2 n
  let sum := inetSum (own ++ dest ++ beBytes 2 17 ++ beBytes 2 n ++ head ++ b)
  head ++ beBytes 2 (if sum = 0 then 0xFFFF else sum) ++ b

/-- An IPv4 packet to UDP (RFC 791): identification, offset in 8 bytes, more fragments follow. -/
def ipPacket (own dest : List Byte) (ident off : Nat) (more : Bool) (b : List Byte) : List Byte :=
  let head (sum : Nat) := [0x45, 0] ++ beBytes 2 (20 + b.length) ++ beBytes 2 ident ++ beBytes 2 (bitOf more 13 + off) ++ [64, 17] ++ beBytes 2 sum ++
    own ++ dest
  head (inetSum (head 0)) ++ b

/-- The frames of a UDP datagram the module sends, fragmented where it does not fit one (R319), without tag; none when its destination cannot be
reached. -/
def ModuleState.udpFrames (m : ModuleState) (ident srcPort : Nat) (dest : Nat × Nat) (b : List Byte) : List (List Byte) :=
  match m.macOf dest.1 with
  | none => []
  | some mac =>
    let ps := ipPieces b.length (udpDatagram m.ipBytes (leBytes 4 dest.1) srcPort dest.2 b)
    (ps.zip (List.range ps.length)).map fun x =>
      let f := leBytes 6 mac ++ leBytes 6 Config.macBase ++ beBytes 2 0x0800 ++
        ipPacket m.ipBytes (leBytes 4 dest.1) ident (185 * x.2) (x.2 + 1 < ps.length) x.1
      f ++ zeros (60 - f.length)

/-- A UDP datagram sent with a priority (R319, R393): its frames go into the switch. -/
def ModuleState.sendUdp (m : ModuleState) (e : Eth) (srcPort pcp : Nat) (dest : Nat × Nat) (b : List Byte) : Eth :=
  (m.udpFrames e.ipIdent srcPort dest b).foldl (fun e f => m.ownFrame e pcp f) { e with ipIdent := (e.ipIdent + 1) % 65536 }

/-- Some linked port of HOST_VID can take the frames of some datagrams to an address, and it can be reached (R316, R320). -/
def ModuleState.udpFits (m : ModuleState) (e : Eth) (dest : Nat × Nat) (ps : List (List Byte)) : Bool :=
  let prio := 3 - m.cmdPcp % 8 / 2
  let n := (ps.map fun b => (m.udpFrames 0 19788 dest b).length).sum
  (m.macOf dest.1).isSome && [0, 1].all fun p =>
    !(e.port p).link || !bit (m.vlan m.hostVid).1 p || n ≤ (e.served m.now).roomIn m.now p prio

end Sys2Proof.Machine
end

