-- ==== Sys2Proof/Machine/Ops.lean ====
section
/-! DEFINITION. The named operations shared by the meanings, second part: what events and replies touch, the host FIFOs, packets handed to
network transports, records, events and notifications, replies, free values. -/

namespace Sys2Proof.Machine

/-! ### Sessions and tags -/

/-- An open or unconfirmed session by its number. -/
def Security.session (x : Security) (n : Nat) : Option Session := x.sessions.find? (fun q => q.num == n)

/-- Bytes of a packet the module sends: secured with a tag under K_rsp when there is a key (R312, R506). -/
def sentPacket (key : Option Nat) (flags opcode seq session target : Nat) (payload : List Byte) : List Byte :=
  match key with
  | none => packetBytes flags opcode seq session target payload
  | some k =>
    let h := headerBytes 2 (flags + 1) opcode seq session target (payload.length + 16)
    packetBytes (flags + 1) opcode seq session target
      (payload ++ leBytes 16 (Config.kmac256 (leBytes 32 k) (h ++ payload) 128 "YL-D480 RSP"))

/-! ### What events and replies touch -/

/-- The parts of the module that an event, a notification or a reply changes. -/
structure Comm where
  recd : Recorder
  host : HostWin
  interp : Interp
  can : List Can
  eth : Eth
  out : List OutPacket
  deriving DecidableEq, Repr

/-- Those parts of a module. -/
def ModuleState.comm (m : ModuleState) : Comm :=
  { recd := m.recd, host := m.host, interp := m.interp, can := m.can, eth := m.eth, out := m.out }

/-- A module with those parts replaced. -/
def ModuleState.withComm (m : ModuleState) (c : Comm) : ModuleState :=
  { m with recd := c.recd, host := c.host, interp := c.interp, can := c.can, eth := c.eth, out := c.out }

/-- Comm with one transport's counters changed. -/
def Comm.port (c : Comm) (x : Transport) (f : Port → Port) : Comm :=
  { c with interp := { c.interp with ports := upd c.interp.ports x.index f } }

/-- Counters of one transport. -/
def Comm.portOf (c : Comm) (x : Transport) : Port := c.interp.ports.getD x.index {}

/-! ### Host FIFOs -/

/-- Words of complete packets in a FIFO. -/
def fifoUsed (f : List (List Word)) : Nat := (f.map List.length).sum

/-- HW_IRQ_STATUS with a bit set (R324 Table 11). -/
def HostWin.raise (h : HostWin) (b : Nat) : HostWin := { h with irq := h.irq ||| BitVec.ofNat 32 (2 ^ b) }

/-- RSP_FIFO takes held replies while it has room for the next (R329). -/
def releaseReplies : Nat → HostWin → HostWin
  | 0, h => h
  | n + 1, h =>
    match h.heldReplies with
    | [] => h
    | [] :: r => releaseReplies n { h with heldReplies := r }
    | (p :: ps) :: r =>
      if fifoUsed h.rsp + p.length ≤ 1024 then
        releaseReplies n ({ h with rsp := h.rsp ++ [p], heldReplies := if ps.isEmpty then r else ps :: r }.raise 0)
      else h

/-- What is held goes to RSP_FIFO as far as there is room (R329). -/
def HostWin.release (h : HostWin) : HostWin := releaseReplies (h.heldReplies.length + h.heldReplies.flatten.length) h

/-- The packets of a reply for the host SPI: placed in RSP_FIFO, or held behind those already held (R326, R329). -/
def HostWin.placeReply (h : HostWin) (ps : List (List Word)) : HostWin := { h with heldReplies := h.heldReplies ++ [ps] }.release

/-! ### Handing packets to network transports -/

/-- Valid lengths of a CAN FD frame of at least n bytes (R385 Table 16), padded with 0xCC (R381). -/
def tpPad (b : List Byte) : List Byte :=
  let n := b.length
  let k := if n ≤ 8 then 8 else if n ≤ 12 then 12 else if n ≤ 16 then 16 else if n ≤ 20 then 20 else if n ≤ 24 then 24
    else if n ≤ 32 then 32 else if n ≤ 48 then 48 else 64
  b ++ List.replicate (k - n) 0xCC

/-- Offset of a controller's settings entry in the configuration (R529, R360). -/
def canCfg (c : Nat) : Nat := 2728 + 144 * c

/-- Data bytes of a full transport frame: 64 with TP_FD, else 8 (R381). -/
def ModuleState.tpSize (m : ModuleState) (c : Nat) : Nat := if bit (m.cfg (canCfg c + 3) 1) 0 then 64 else 8

/-- A transport frame on RSP_ID (R381): CAN FD with BRS when TP_FD is set (log entry 13). -/
def ModuleState.tpFrame (m : ModuleState) (c : Nat) (b : List Byte) : CanFrame :=
  let fd := bit (m.cfg (canCfg c + 3) 1) 0
  { id := m.cfg (canCfg c + 20) 4, fd := fd, brs := fd, data := tpPad b }

/-- The transport buffer takes the first frame of the next waiting message when it is idle (R381, R382): a single frame,
or a first frame, with the escape for a message of 4 096 bytes (ISO 15765-2; log entry 13). -/
def ModuleState.tpStart (m : ModuleState) (i : Nat) (c : Can) : Can :=
  match c.tpTx, c.tpBuf, c.tpWait with
  | none, none, msg :: rest =>
    let k := m.tpSize i
    let n := msg.length
    if n ≤ 7 then
      { c with tpWait := rest, tpBuf := some (m.tpFrame i (BitVec.ofNat 8 n :: msg)), tpBufFc := false, tpSince := m.now }
    else if n ≤ k - 2 && k == 64 then
      { c with tpWait := rest, tpBuf := some (m.tpFrame i (0 :: BitVec.ofNat 8 n :: msg)), tpBufFc := false, tpSince := m.now }
    else
      let head : List Byte := if n ≤ 4095 then [BitVec.ofNat 8 (0x10 + n / 256), BitVec.ofNat 8 n]
        else [0x10, 0, BitVec.ofNat 8 (n / 16777216), BitVec.ofNat 8 (n / 65536), BitVec.ofNat 8 (n / 256), BitVec.ofNat 8 n]
      let d := k - head.length
      { c with
        tpWait := rest, tpBuf := some (m.tpFrame i (head ++ msg.take d)), tpBufFc := false, tpSince := m.now
        tpTx := some { msg, sent := d, next := 1, waitFc := some m.now, waits := 0, blockLeft := some 0, stmin := 0 } }
  | _, _, _ => c

/-- A controller can carry packets: NORMAL and not bus-off (R627). -/
def Can.carries (c : Can) : Bool := c.mode == .normal && c.err != .busOff

/-- Some port that is a member of HOST_VID has link (R627): the VLAN entry of HOST_VID names ETH1 in bit 0, ETH2 in
bit 1. -/
def ModuleState.hostLink (m : ModuleState) : Bool :=
  (List.range 8).any fun k =>
    m.cfg (3016 + 40 + 4 * k) 2 == m.cfg (3016 + 12) 2 && m.cfg (3016 + 12) 2 != 0 &&
      ((bit (m.cfg (3016 + 42 + 4 * k) 1) 0 && m.eth.port1.link) || (bit (m.cfg (3016 + 42 + 4 * k) 1) 1 && m.eth.port2.link))

/-- MODE of the pair settings entry: SINGLE 0, PAIR 1, CLUSTER4 2 (R457 Table 1). -/
def ModuleState.pairMode (m : ModuleState) : Nat := m.cfg 3120 1

/-- A transport is UP (R627). -/
def ModuleState.up (m : ModuleState) : Transport → Bool
  | .spi => m.reset.phase == .ready
  | .canA => (m.ctl 0).carries && m.cfg (canCfg 0 + 16) 4 != 0xFFFFFFFF && m.configured
  | .canB => (m.ctl 1).carries && m.cfg (canCfg 1 + 16) 4 != 0xFFFFFFFF && m.configured
  | .ethernet => m.runs isNetwork && bit (m.cfg 3016 1) 0 && m.hostLink
  | .levee => m.pairMode != 0 && m.configured && (m.pair.port1.up || m.pair.port2.up)

/-- Messages a controller's transport can still take (R382): 8 wait for the transport buffer, and one more when the buffer is idle. -/
def Can.spare (q : Can) : Nat := (if q.tpTx.isNone && q.tpBuf.isNone && q.tpWait.isEmpty then 9 else 8) - q.tpWait.length

/-- Whether a network transport can take some more packets to a destination now (R316, R320, R382). -/
def ModuleState.takes (m : ModuleState) (c : Comm) (x : Transport) (dest : Nat × Nat) (ps : List (List Byte)) : Bool :=
  match x with
  | .spi => true
  | .canA => m.up .canA && ps.length ≤ (c.can.getD 0 {}).spare
  | .canB => m.up .canB && ps.length ≤ (c.can.getD 1 {}).spare
  | .ethernet => m.up .ethernet && m.udpFits c.eth dest ps
  | .levee => m.up .levee

/-- A packet handed to a network transport that takes it: on Ethernet a datagram from port 19788 with CMD_PCP (R319, R393). -/
def ModuleState.hand (m : ModuleState) (c : Comm) (x : Transport) (dest : Nat × Nat) (b : List Byte) : Comm :=
  match x with
  | .canA => { c with can := upd c.can 0 fun q => m.tpStart 0 { q with tpWait := q.tpWait ++ [b] } }
  | .canB => { c with can := upd c.can 1 fun q => m.tpStart 1 { q with tpWait := q.tpWait ++ [b] } }
  | .ethernet =>
    { c with eth := m.sendUdp c.eth 19788 m.cmdPcp dest b, out := c.out ++ [{ transport := x, dest, bytes := b }] }
  | _ => { c with out := c.out ++ [{ transport := x, dest, bytes := b }] }

/-! ### Records -/

/-- Operating time in ms: it counts while the recorder island runs (R426). -/
def ModuleState.opTime (m : ModuleState) : Nat :=
  if m.runs isRecorder then m.recd.opMs + (m.now - m.recd.opAt) / 1000000 else m.recd.opMs

/-- UNIT of the record key (R425). -/
def ModuleState.unit (m : ModuleState) : Nat := Config.serialNumber % 2 ^ 14 * 4 + m.pair.id

/-- A record key in 16 bytes (R425). -/
def ModuleState.keyBytes (m : ModuleState) (k : Key) : List Byte :=
  leBytes 6 k.op ++ leBytes 4 k.cycle ++ leBytes 4 k.seq ++ leBytes 2 m.unit

/-- Bytes a record takes in the record buffer (R433, R435, R437). A snapshot is written to MRAM. -/
def RecordBody.size : RecordBody → Nat
  | .event _ _ => 64
  | .cycle _ _ _ _ _ _ _ => 64
  | .trace _ _ _ _ body _ => 44 + body.length
  | .snapshot _ _ => 0

/-- Bytes of a list of records. -/
def recBytesSum (l : List Rec) : Nat := (l.map fun x => x.body.size).sum

/-- When stage 3 of a power-fail flush begins (R446): stage 1 writes 16 KiB, stage 2 the pending records and the event
records among them to both halves, at 50 MB/s (R432). -/
def Recorder.stage3At (r : Recorder) (began : Nat) : Nat :=
  let all := r.flushing ++ r.buf
  let ev := all.filter fun x => match x.body with
    | .event _ _ => true
    | _ => false
  began + 20 * (16384 + 2 * recBytesSum all + 2 * recBytesSum ev)

/-- An event that would trigger a snapshot is not recorded once stage 2 of a power-fail flush has begun (R450 Table 11): stage 1 writes
16 KiB at 50 MB/s. -/
def ModuleState.tooLate (m : ModuleState) (r : Recorder) (e : Event) : Bool :=
  match r.failFlushAt with
  | some t => (snapshotting.contains e.code || (e.code == evDutyTaken && e.items.head? == some 1)) && t + 20 * 16384 ≤ m.now
  | none => false

/-- Stage 3 of a power-fail flush has begun: records are lost from now on (R446). -/
def ModuleState.flushClosed (m : ModuleState) (r : Recorder) : Bool :=
  match r.failFlushAt with
  | some t => r.stage3At t ≤ m.now
  | none => false

/-- The recorder can take records of so many bytes: it runs, stage 3 of a power-fail flush has not begun, and a buffer half
has room or the other half is free (R440, R446). -/
def ModuleState.recTakes (m : ModuleState) (r : Recorder) (size : Nat) : Bool :=
  m.runs isRecorder && !m.flushClosed r && (r.bufBytes + size ≤ 65536 || !r.flushBusy)

/-- The buffer half taking records goes to NAND through CV14 (R440), when no flush runs and it holds records. -/
def Recorder.startFlush (r : Recorder) : Recorder :=
  if r.flushBusy || r.buf.isEmpty then r
  else { r with flushing := r.buf, flushBusy := true, flushLeft := r.bufBytes, buf := [], bufBytes := 0, bufAt := none }

/-- A record taken in: the next key, and its place in the buffer; a full half goes to NAND (R425, R428, R440). -/
def ModuleState.takeRec (m : ModuleState) (r : Recorder) (b : RecordBody) : Recorder :=
  let k : Key := { op := m.opTime, cycle := r.cycle, seq := r.seq }
  let full := 65536 < r.bufBytes + b.size
  let r1 := { r with
    seq := (r.seq + 1) % 2 ^ 32
    lastKey := k
    flushing := if full then r.buf else r.flushing
    flushBusy := r.flushBusy || full
    flushLeft := if full then r.bufBytes else r.flushLeft
    buf := (if full then [] else r.buf) ++ [{ key := k, body := b }]
    bufBytes := (if full then 0 else r.bufBytes) + b.size
    bufAt := if full then some m.now else some (r.bufAt.getD m.now) }
  if r1.bufBytes = 65536 then r1.startFlush else r1

/-- Records of an event: 28 bytes of data each (R435). -/
def Event.parts (e : Event) : Nat := max 1 (((Config.eventData e.code e.items).length + 27) / 28)

/-- An event triggers a fault snapshot (R625). -/
def Event.snapshots (e : Event) : Bool :=
  snapshotting.contains e.code || (e.code == evDutyTaken && e.items.head? == some 1)

/-- An event is critical (R443). -/
def Event.critical (e : Event) : Bool := e.snapshots || criticalOnly.contains e.code

/-- A fault snapshot triggered by an event or a command, or counted while one collects (R439, R450). EXTRA_TRIGGERS stands in no reply field, so
that its largest value raises no COUNTER_SATURATED (DEDUCED, log entry 128). -/
def ModuleState.trigger (m : ModuleState) (r : Recorder) (e : Option Event) : Recorder :=
  if r.failFlushAt.isSome then r else
  match r.collecting with
  | some s => { r with collecting := some { s with extra := satAdd 255 s.extra 1 } }
  | none =>
    let k : Key := { op := m.opTime, cycle := r.cycle, seq := r.seq }
    { r with
      seq := (r.seq + 1) % 2 ^ 32
      lastKey := k
      nextSlot := (r.nextSlot + 1) % 22
      collecting := some { key := k, time := m.stamp, quality := m.time.quality.code, slot := r.nextSlot, trigger := e,
                           blocks := r.history, pre := (r.history.map List.length).foldl max 0 } }

/-- Payload of an EVENT packet (R315 Table 6). -/
def ModuleState.eventPayload (m : ModuleState) (e : Event) (k : Key) : List Byte :=
  let d := Config.eventData e.code e.items
  leBytes 2 e.code ++ leBytes 2 d.length ++ m.keyBytes k ++ stampBytes e.time ++ leBytes 1 e.quality ++
    leBytes 1 (bitOf e.critical 0) ++ d

/-- A notification on one transport: placed, with the NOTIFY_LOSS packet before it that ends an episode, or dropped and
counted (R315, R316, R318). The list holds the events that follow. -/
def ModuleState.notifyOn (m : ModuleState) (c : Comm) (x : Transport) (e : Event) (k : Key) : Comm × List (Nat × List Int) :=
  let q := c.portOf x
  let route := if x = .spi then some (0, 0, 0) else q.route
  match route with
  | none => (c, [])
  | some (sn, dst) =>
    let key := if x = .spi then none else (m.sec.session sn).map (·.kRsp)
    let pkt := sentPacket key 0 0x7F01 q.notifySeq sn e.source (m.eventPayload e k)
    let loss := sentPacket key 0 0x7F02 q.notifySeq sn tgModule (leBytes 4 q.dropped)
    let room := if x = .spi then
        fifoUsed c.host.evt + (toWords pkt).length + (if q.dropped = 0 then 0 else (toWords loss).length) ≤ 1024 &&
          m.runs isPolder
      else m.takes c x dst (if q.dropped = 0 then [pkt] else [loss, pkt]) && m.runs isPolder
    let seq' := (q.notifySeq + 1) % 2 ^ 32
    if room then
      let c1 := if x = .spi then
          { c with host := { c.host with
              evt := c.host.evt ++ (if q.dropped = 0 then [] else [toWords loss]) ++ [toWords pkt] }.raise 1 }
        else
          let c0 := if q.dropped = 0 then c else m.hand c x dst loss
          m.hand c0 x dst pkt
      (c1.port x fun y => { y with notifySeq := seq', dropped := 0 },
        if q.dropped = 0 then [] else [(evNotifyDropped, [(x.index : Int), (q.dropped : Int)])])
    else
      ((if x = .spi then { c with host := c.host.raise 3 } else c).port x fun y =>
        { y with notifySeq := seq', dropped := y.dropped + 1, lost := sat max16 y.lost },
        if q.lost + 1 = max16 then [(evCounterSaturated, [0, 0x0009, (16 + 16 * x.index : Nat)])] else [])

/-- The event as the module notes it now (R315). -/
def ModuleState.event (m : ModuleState) (code source : Nat) (items : List Int) : Event :=
  { code, source, items, time := m.stamp, quality := m.time.quality.code }

/-- The transports that can carry notifications (R318). -/
def notifyPorts : List Transport := [.spi, .canA, .canB, .ethernet]

/-- Non-critical entries of the event queue. -/
def plainEntries (q : List Event) : Nat := (q.filter (fun e => !e.critical)).length

/-- The newest entry that satisfies a test, and the list without it. -/
def dropNewest (p : Event → Bool) (q : List Event) : Option (Event × List Event) :=
  let r := q.reverse
  match r.find? p with
  | some e => some (e, (r.eraseIdx (r.findIdx p)).reverse)
  | none => none

/-- A dropped event counted (R444). -/
def Recorder.countDrop (r : Recorder) (now : Nat) (e : Event) : Recorder :=
  let g := e.code / 256
  { r with
    drops := r.drops + 1
    suppressed := sat max32 r.suppressed
    dropSpan := if r.drops = 0 then (now, now) else (r.dropSpan.1, now)
    dropGroups := if r.dropGroups.any (·.1 == g) then r.dropGroups.map fun x => if x.1 = g then (x.1, x.2 + 1) else x
      else r.dropGroups ++ [(g, 1)] }

/-- An event queued for the recorder, dropped and counted, or held by its producer (R443 to R445). -/
def Recorder.enqueue (r : Recorder) (now : Nat) (e : Event) : Recorder :=
  let push (r : Recorder) := { r with queue := r.queue ++ [e], queuePeak := max r.queuePeak (r.queue.length + 1) }
  if e.critical then
    if r.queue.length < 4096 then push r
    else match dropNewest (fun x => !x.critical) r.queue with
      | some (x, q) => push ({ r with queue := q }.countDrop now x)
      | none => { r with producers := r.producers ++ [e] }
  else if 3840 ≤ plainEntries r.queue || 4096 ≤ r.queue.length then r.countDrop now e
  else push r

/-- The key of a PORTAL_STATE with which a cycle starts, kept for the cycle's record (R433): those of a portal's last two starts. -/
def Recorder.noteStart (r : Recorder) (e : Event) (k : Key) : Recorder :=
  match e.start with
  | none => r
  | some (p, n) => { r with startKeys := r.startKeys.filter (fun x => !(x.1.1 == p && (x.1.2 == n || x.1.2 + 2 ≤ n))) ++ [((p, n), k)] }

/-- A record of one event that follows another, taken in, or queued while the buffer has no room for it (R440, R443). -/
def ModuleState.takeNext (m : ModuleState) (r : Recorder) (e : Event) : Recorder :=
  if m.recTakes r 64 then m.takeRec r (.event e 0) else r.enqueue m.now e

/-- An event taken in as a record, its snapshot triggered, its notification placed (R425, R435, R439, R315). The events
that follow from the notification are taken in as records with it: none of them is a notification. -/
def ModuleState.takeEvent (m : ModuleState) (c : Comm) (e : Event) : Comm :=
  let k : Key := { op := m.opTime, cycle := c.recd.cycle, seq := c.recd.seq }
  let r1 := ((List.range e.parts).foldl (fun r i => m.takeRec r (.event e i)) c.recd).noteStart e k
  let r2 := if e.snapshots then m.trigger r1 (some e) else r1
  let c1 := { c with recd := r2 }
  if notifying.contains e.code then
    let q := notifyPorts.foldl (fun (q : Comm × List (Nat × List Int)) x =>
      let n := m.notifyOn q.1 x e k
      (n.1, q.2 ++ n.2)) (c1, [])
    { q.1 with recd := q.2.foldl (fun r x => m.takeNext r (m.event x.1 tgModule x.2)) q.1.recd }
  else c1

/-- An event logged: taken in at once when nothing waits before it and the recorder can take it, else queued (R443). -/
def ModuleState.logE (m : ModuleState) (c : Comm) (e : Event) : Comm :=
  if m.flushClosed c.recd || m.tooLate c.recd e then { c with recd := { c.recd with notKept := c.recd.notKept + e.parts } }
  else if c.recd.queue.isEmpty && m.recTakes c.recd (64 * e.parts) then m.takeEvent c e
  else
    let r := c.recd.enqueue m.now e
    { c with recd := if c.recd.suppressed + 1 = max32 ∧ r.suppressed = max32 then
        r.enqueue m.now (m.event evCounterSaturated tgModule [0, 0x0C00, 30]) else r }

/-- An event logged by its code, TARGET word of the source and payload items. -/
def ModuleState.logC (m : ModuleState) (c : Comm) (code source : Nat) (items : List Int) : Comm := m.logE c (m.event code source items)

/-- The module after it logs an event, if it does. -/
def ModuleState.logIf (m : ModuleState) (b : Bool) (code source : Nat) (items : List Int) : ModuleState :=
  m.withComm (if b then m.logC m.comm code source items else m.comm)

/-- The module after it logs an event: code, TARGET word of the source, payload items in the order of the event's
table. -/
def ModuleState.log (m : ModuleState) (code source : Nat) (items : List Int) : ModuleState :=
  m.withComm (m.logC m.comm code source items)

/-- COUNTER_SATURATED at the moment a counter reaches its largest value (R9): the counter before, its source, the opcode
and byte offset of the reply field that reports it. -/
def ModuleState.saturated (m : ModuleState) (max before source opcode off : Nat) : ModuleState :=
  m.logIf (before + 1 == max) evCounterSaturated source [(source : Int), (opcode : Int), (off : Int)]

/-- A transport's REJECTED or LOST counted, with COUNTER_SATURATED (R9, R332 Table 21): a field, and its offset. -/
def ModuleState.bumpC (m : ModuleState) (c : Comm) (x : Transport) (lost : Bool) : Comm :=
  let q := c.portOf x
  let c1 := c.port x fun q => if lost then { q with lost := sat max16 q.lost } else { q with rejected := sat max16 q.rejected }
  if (if lost then q.lost else q.rejected) + 1 = max16 then
    m.logC c1 evCounterSaturated tgModule [0, 0x0009, ((if lost then 16 else 14) + 16 * x.index : Nat)]
  else c1

/-- A 1 or 0 for an event item. -/
def flagItem (b : Bool) : Int := if b then 1 else 0

/-! ### Replies -/

/-- Pieces of a reply's data, each at most n bytes; one empty piece when there is none (R313). -/
def pieces (n : Nat) : Nat → List Byte → List (List Byte)
  | 0, b => [b]
  | k + 1, b => if b.length ≤ n then [b] else b.take n :: pieces n k (b.drop n)

/-- The packets of a reply (R312, R313). -/
def replyPackets (r : ReplyTo) (status : Nat) (data : List Byte) : List (List Byte) :=
  let n := if r.key.isSome then 4062 else 4078
  let ps := pieces n data.length data
  (ps.zip (List.range ps.length)).map fun x =>
    sentPacket r.key (bitOf (x.2 + 1 < ps.length) 3) (r.opcode % 0x8000 + 0x8000) r.seq r.session r.target (leBytes 2 status ++ x.1)

/-- A reply sent on the transport that carried the command; each of its packets that the transport does not take is lost and counted
(R312, R313, R320, R329, R382). -/
def ModuleState.sendReply (m : ModuleState) (c : Comm) (r : ReplyTo) (status : Nat) (data : List Byte) : Comm :=
  let ps := replyPackets r status data
  match r.transport with
  | .spi =>
    { c with host := c.host.placeReply (ps.map toWords) }.port .spi fun q =>
      { q with repliesOut := (q.repliesOut + 1) % 2 ^ 32 }
  | x =>
    let c1 := ps.foldl (fun c p => if m.takes c x r.src [p] then m.hand c x r.src p else m.bumpC c x true) c
    if m.takes c x r.src (ps.take 1) then c1.port x fun q => { q with repliesOut := (q.repliesOut + 1) % 2 ^ 32 } else c1

/-- Packets of a transport dropped, counted in DISCARDED (R332 Table 21), with COUNTER_SATURATED (R9). -/
def ModuleState.discardOn (m : ModuleState) (x : Transport) : ModuleState :=
  let q := m.comm.portOf x
  let c := m.comm.port x fun q => { q with discarded := sat max16 q.discarded }
  m.withComm (if q.discarded + 1 = max16 then
    m.logC c evCounterSaturated tgModule [0, 0x0009, ((12 + 16 * x.index : Nat) : Int)] else c)

/-- Replies of a transport lost, counted in LOST (R320, R332 Table 21). -/
def ModuleState.lostOn (m : ModuleState) (x : Transport) : Nat → ModuleState
  | 0 => m
  | n + 1 =>
    let m1 := m.lostOn x n
    m1.withComm (m1.bumpC m1.comm x true)

/-- CMD_REJECTED for a failed command without a reply: at most ten within any second per transport; the first one logged after a
suppression carries the number suppressed since the last one logged (R308; log entry 122). -/
def ModuleState.rejectC (m : ModuleState) (c : Comm) (r : ReplyTo) (status : Nat) : Comm :=
  let q := c.portOf r.transport
  let recent := q.rejTimes.filter fun t => m.now < t + seconds 1
  if recent.length < 10 then
    (m.logC c evCmdRejected tgModule [(r.transport.index : Int), (r.opcode : Int), (r.seq : Int), (status : Int),
      (q.rejSuppressed : Int)]).port r.transport fun q =>
        { q with rejTimes := recent ++ [m.now], rejSuppressed := 0 }
  else c.port r.transport fun q => { q with rejTimes := recent, rejSuppressed := q.rejSuppressed + 1 }

/-- A command answered (R303, R308, R314): with a reply when NEEDS_REPLY asks for one, counted in REJECTED when it fails (R332); the reply of a secured scheduled
packet is lost when its session has closed (R307). -/
def ModuleState.answerC (m : ModuleState) (c : Comm) (r : ReplyTo) (status : Nat) (data : List Byte) : Comm :=
  if r.needsReply then
    if r.sched && r.secured && (m.sec.session r.session).isNone then
      let c1 := m.bumpC c r.transport true
      if 0x8000 ≤ status then m.rejectC c1 r status else c1
    else m.sendReply (if 0x8000 ≤ status then m.bumpC c r.transport false else c) r status data
  else if 0x8000 ≤ status then m.rejectC c r status else c

/-- The module after a command is answered. -/
def ModuleState.answer (m : ModuleState) (r : ReplyTo) (status : Nat) (data : List Byte) : ModuleState :=
  m.withComm (m.answerC m.comm r status data)

/-- A command in flight given its status and data, with one thing less to wait for; answered when nothing is left
(R21, R23). -/
def ModuleState.settleC (m : ModuleState) (c : Comm) (ref : Nat) (status : Option Nat) (data : Option (List Byte)) : Comm :=
  match c.interp.inflight.find? (·.ref == ref) with
  | none => c
  | some f =>
    let f' := { f with status := status.getD f.status, payload := data.getD f.payload, left := f.left - 1 }
    if f'.left = 0 then
      m.answerC { c with interp := { c.interp with inflight := c.interp.inflight.filter (·.ref != ref) } } f'.replyTo
        f'.status f'.payload
    else { c with interp := { c.interp with
        inflight := c.interp.inflight.map fun x => if x.ref = ref then f' else x } }

/-- The module after one part of a command in flight is done. -/
def ModuleState.settle (m : ModuleState) (ref : Nat) (status : Option Nat) (data : Option (List Byte)) : ModuleState :=
  m.withComm (m.settleC m.comm ref status data)

/-- A command in flight ended at once with a status, whatever else it waits for. -/
def ModuleState.endC (m : ModuleState) (c : Comm) (ref status : Nat) (data : List Byte) : Comm :=
  match c.interp.inflight.find? (·.ref == ref) with
  | none => c
  | some f => m.answerC { c with interp := { c.interp with inflight := c.interp.inflight.filter (·.ref != ref) } } f.replyTo
      status data

/-- The module after a command in flight is ended. -/
def ModuleState.endRef (m : ModuleState) (ref status : Nat) (data : List Byte) : ModuleState :=
  m.withComm (m.endC m.comm ref status data)

/-! ### Free values -/

/-- The next free value and the module that has used it. -/
def ModuleState.fresh (m : ModuleState) : Nat × ModuleState :=
  (Config.freeValue m.free, { m with free := m.free + 1 })

end Sys2Proof.Machine
end

