-- ==== Sys2Proof/Machine/Submit.lean ====
section
/-! DEFINITION. How a command packet is handled: the checks on arrival in the order of R307 Table 4, sessions and tags
(R499 to R508), segments (R309 to R311), scheduled packets (R352 to R355), the barrier (R31, R32), and the placing of
actions (R21 to R26). Each command gives a CmdSpec: what the tables of its chapter say of it, and its own effect. -/

namespace Sys2Proof.Machine

/-! ### What a command is -/

/-- The Roles column of R622 Table 2. -/
inductive Roles where
  /-- all roles -/
  | all
  /-- the roles listed -/
  | only (l : List Role)
  /-- unsecured packets alone -/
  | unsecured
  /-- any role of the session -/
  | session
  deriving DecidableEq, Repr

/-- What a command's own meaning sees: its packet, target, command payload, the role of its session, its reference, and
for a SCHEDULED PROFILE_SELECT its launch time with STRICT. -/
structure Cmd where
  p : Packet
  kind : Nat
  idx : Nat
  data : List Byte
  role : Option Role
  ref : Nat
  launch : Option (Nat × Nat × Bool) := none
  deriving DecidableEq, Repr

/-- What a command's own meaning gives: the status and reply payload after it, the channels of its actions, the channels of
islands whose data it reads (log entry 16), whether the answer waits for something else that happens later, and the
module. -/
structure Result where
  status : Nat := 0
  data : List Byte := []
  acts : List Channel := []
  needs : List Channel := []
  wait : Bool := false
  m : ModuleState

/-- A command refused at step 13: it has no effect (R314). -/
def refuse (m : ModuleState) (status : Nat) : Result := { status, m }

/-- A command that returns data. -/
def returnData (m : ModuleState) (data : List Byte) : Result := { data, m }

/-- A command that returns data of the islands behind some channels (R26; log entry 16). -/
def readFrom (needs : List Channel) (m : ModuleState) (data : List Byte) : Result := { data, needs, m }

/-- An object exists for its target kind (R306 Table 3, R2); CAN objects and cluster members are judged by their
commands. -/
def targetThere (m : ModuleState) (kind idx : Nat) : Bool :=
  match kind with
  | 0 => idx == 0
  | 1 => 1 ≤ idx && idx ≤ 4
  | 2 => m.populated idx
  | 3 => 1 ≤ idx && idx ≤ 16
  | 4 => (1 ≤ idx && idx ≤ 48) || (65 ≤ idx && idx ≤ 80)
  | 5 => true
  | 6 => idx < 16
  | 7 => true
  | _ => false

/-- What the tables say of a command. -/
structure CmdSpec where
  opcode : Nat
  /-- target kinds it accepts (R306) -/
  kinds : List Nat := [0]
  roles : Roles
  /-- size of its command payload (step 10) -/
  size : Nat → Bool
  /-- size of a command payload whose own fields say it (step 10) -/
  sized : List Byte → Bool := fun _ => true
  /-- SCH of R622 Table 2 -/
  sched : Bool := false
  /-- SEG of R622 Table 2, with the most bytes its segments may hold together (R310) -/
  seg : Option Nat := none
  /-- the index exists (step 9) -/
  present : ModuleState → Nat → Nat → Bool := targetThere
  /-- reserved fields are 0 and enumerated fields carry listed values (step 12, R15) -/
  fields : List Byte → Bool := fun _ => true
  /-- its own conditions and effect (step 13) -/
  body : Cmd → ModuleState → Result

/-! ### Sessions -/

/-- A transport's notification route belongs to a session (R318). -/
def Port.routedTo (q : Port) (n : Nat) : Bool :=
  match q.route with
  | some r => r.1 == n
  | none => false

/-- A session closes (R508): it leaves the list, its notification routes end (R318), and SESSION_CLOSED is logged with
the cause. -/
def ModuleState.closeSession (m : ModuleState) (n cause : Nat) : ModuleState :=
  let m1 := { m with
    sec := { m.sec with sessions := m.sec.sessions.filter (·.num != n) }
    interp := { m.interp with ports := updAll m.interp.ports fun q =>
      { q with route := if q.routedTo n then none else q.route } } }
  m1.logIf (m.sec.session n).isSome evSessionClosed tgModule [(n : Int), (cause : Int)]

/-- Every session of a list closes with a cause. -/
def ModuleState.closeSessions (m : ModuleState) (l : List Nat) (cause : Nat) : ModuleState :=
  m.each l fun m n => m.closeSession n cause

/-- A SEQ is acceptable: ahead of the highest by 1 to 2^31 - 1, or an unseen one of the 64 below it (R507). -/
def Session.accepts (x : Session) (seq : Nat) : Bool :=
  match x.high with
  | none => true
  | some h =>
    let d := (seq + 2 ^ 32 - h) % 2 ^ 32
    let b := (h + 2 ^ 32 - seq) % 2 ^ 32
    (1 ≤ d && d < 2 ^ 31) || (1 ≤ b && b ≤ 64 && !x.seen.testBit (b - 1))

/-- A session after a SEQ is marked as seen (R507). -/
def Session.mark (x : Session) (seq : Nat) : Session :=
  match x.high with
  | none => { x with high := some seq, seen := 0 }
  | some h =>
    let d := (seq + 2 ^ 32 - h) % 2 ^ 32
    if 1 ≤ d && d < 2 ^ 31 then { x with high := some seq, seen := (x.seen * 2 ^ d + 2 ^ (d - 1)) % 2 ^ 64 }
    else { x with seen := x.seen ||| 2 ^ ((h + 2 ^ 32 - seq) % 2 ^ 32 - 1) }

/-- The tag of a secured packet verifies under K_cmd (R506). -/
def tagOk (k : Nat) (p : Packet) : Bool :=
  let n := p.payload.length - 16
  let h := headerBytes p.version p.flags p.opcode p.seq p.session p.target p.payload.length
  leNat (p.payload.drop n) == Config.kmac256 (leBytes 32 k) (h ++ p.payload.take n) 128 "YL-D480 CMD" % 2 ^ 128

/-- A failed tag noted (R507): TAG_FAILS counts it, TAG_FAIL is logged at most once a second per transport with the
failures of that second, and sixteen failures of a session within 1 s close it. -/
def ModuleState.tagFailed (m : ModuleState) (x : Transport) (n : Nat) : ModuleState :=
  let q := m.interp.ports.getD x.index {}
  let now : Bool := (q.tagFailAt.map fun t => decide (t + seconds 1 ≤ m.now)).getD true
  let fails := (m.sec.session n).map fun s => s.fails.filter (fun t => m.now < t + seconds 1) ++ [m.now]
  let m1 := { m with
    sec := { m.sec with
      tagFails := sat max32 m.sec.tagFails
      sessions := updIf m.sec.sessions (·.num == n) fun s => { s with fails := fails.getD [] } }
    interp := { m.interp with ports := upd m.interp.ports x.index fun q =>
      if now then { q with tagFailAt := some m.now, tagFails := 0 } else { q with tagFails := q.tagFails + 1 } } }
  let m2 := (m1.saturated max32 m.sec.tagFails tgModule 0x0E00 28).logIf now evTagFail tgModule
    [(x.index : Int), (n : Int), (q.tagFails + 1 : Nat)]
  if 16 ≤ (fails.getD []).length then m2.closeSession n 2 else m2

/-- Opcodes a packet without SECURED may carry on any transport (R500). -/
def openOpcodes : List Nat := [0x0007, 0x0E00, 0x0E01, 0x0E02]

/-- Opcodes a packet without SECURED may carry on the host SPI of a RETIRED module (R498). -/
def retiredOpcodes : List Nat := [0x0C00, 0x0C01, 0x0C02, 0x0C03]

/-- What step 6 gives: the module after it, and the failing status, or the role of the session. -/
structure Admission where
  m : ModuleState
  fail : Option Nat := none
  role : Option Role := none

/-- Step 6 of R307 Table 4: the tag and replay of a secured packet (R507), or the rule for one without SECURED
(R500). -/
def admission (spec : CmdSpec) (p : Packet) (m : ModuleState) : Admission :=
  if bit p.flags 0 then
    match (m.sec.session p.session).filter fun s => s.transport == p.transport && (s.active || spec.opcode == 0x0E03) with
    | none => { m, fail := some stSessionUnknown }
    | some s =>
      if !tagOk s.kCmd { p with opcode := spec.opcode } then
        { m := m.tagFailed p.transport p.session, fail := some stTagInvalid }
      else if !s.accepts p.seq then { m, fail := some stReplayed }
      else { m := { m with sec := { m.sec with
                      sessions := updIf m.sec.sessions (·.num == s.num) fun x => x.mark p.seq } },
             role := some s.role }
  else if p.session ≠ 0 then { m, fail := some stSessionUnknown }
  else if openOpcodes.contains spec.opcode ||
      (p.transport == .spi && (spec.roles == .all || spec.opcode == 0x0008)) ||
      (p.transport == .spi && m.sec.life == .retired && retiredOpcodes.contains spec.opcode) then { m }
  else { m, fail := some stSecuredRequired }

/-- Step 11: the role of the session is listed (R499); a packet without SECURED is not judged (R500). -/
def Roles.admits (r : Roles) (p : Packet) (role : Option Role) : Bool :=
  match r, role with
  | .only l, some x => l.contains x
  | .unsecured, some _ => false
  | .unsecured, none => !bit p.flags 0
  | .session, none => false
  | _, _ => true

/-! ### Replying -/

/-- Whom to answer, with the session's key for a secured packet (R312); a packet that fails with SESSION_UNKNOWN or
TAG_INVALID is answered without SECURED (R507). -/
def replyTo (m : ModuleState) (p : Packet) (opcode : Nat) (bare : Bool) : ReplyTo :=
  { transport := p.transport, src := p.src, opcode, seq := p.seq, session := p.session, target := p.target,
    secured := bit p.flags 0, needsReply := bit p.flags 1,
    key := if bit p.flags 0 && !bare then (m.sec.session p.session).map (·.kRsp) else none,
    sched := bit p.flags 4 }

/-! ### Dispatch -/

/-- An island is being restarted (R26). -/
def ModuleState.restarting (m : ModuleState) (i : Nat) : Bool := (m.island i).state == .restarting

/-- Every channel of a list has room for all of the packet's actions: 32 each (R24, R25). -/
def ModuleState.room (m : ModuleState) (acts : List Channel) : Bool :=
  acts.all fun ch => (m.interp.actions.filter (·.channel == ch)).length + (acts.filter (· == ch)).length ≤ 32

/-- The actions of a packet, numbered from its reference upward. -/
def placed (ref now opcode : Nat) (acts : List Channel) : List PlacedAction :=
  (acts.zip (List.range acts.length)).map fun x => { id := ref + 1 + x.2, ref, channel := x.1, placed := now, opcode }

/-- The packet held by the interpreter. -/
def ModuleState.holdPacket (m : ModuleState) (h : Hold) : ModuleState :=
  { m with interp := { m.interp with hold := some h } }

/-- A module time as one count of nanoseconds. -/
def stampNs (t : Nat × Nat) : Nat := t.1 * 1000000000 + t.2

/-- LAUNCH_LATE of a packet carried out after its launch time (R354): transport, OPCODE, SEQ, lateness in µs. -/
def ModuleState.logLate (m : ModuleState) (p : Packet) (opcode : Nat) : ModuleState :=
  m.log evLaunchLate tgModule [(p.transport.index : Int), (opcode : Int), (p.seq : Int),
    (((stampNs m.stamp - stampNs (getN p.payload 0 6, getN p.payload 6 4 % 2 ^ 30)) / 1000 : Nat) : Int)]

/-- What a command gives that is dispatched late (R354): EXECUTED_LATE in place of its own status, and LAUNCH_LATE, when it is carried out. -/
def Result.ranLate (x : Result) (p : Packet) (opcode : Nat) (late : Bool) : Result :=
  if late && x.status < 0x8000 then { x with status := stExecutedLate, m := x.m.logLate p opcode } else x

/-- Step 13 and dispatch (R21, R25, R26): the command's own conditions; then its actions are placed when no island they
go to restarts and every channel has room, and it is answered when the last is acknowledged, or at once when there is
nothing to wait for. -/
def runCmd (spec : CmdSpec) (p : Packet) (role : Option Role) (data : List Byte) (launch : Option (Nat × Nat × Bool))
    (late : Bool) (m : ModuleState) : ModuleState :=
  let ref := m.interp.nextRef
  let r := replyTo m p spec.opcode false
  let c : Cmd := { p, kind := p.target / 256, idx := p.target % 256, data, role, ref, launch }
  let x := (spec.body c m).ranLate p spec.opcode late
  let status := x.status
  if 0x8000 ≤ x.status then x.m.answer r x.status x.data
  else if (x.acts ++ x.needs).any fun ch => m.restarting ch.island then m.answer r stIslandRestarting []
  else if !m.room x.acts then
    m.holdPacket { packet := p, since := m.now, waits := [], broken := false, checked := true, role, data, late, launch }
  else if x.acts.isEmpty && !x.wait then x.m.answer r status x.data
  else { x.m with interp := { x.m.interp with
      nextRef := ref + 1 + x.acts.length
      actions := x.m.interp.actions ++ placed ref m.now spec.opcode x.acts
      inflight := x.m.interp.inflight ++ [{ ref, replyTo := r, status, payload := x.data,
                                            left := x.acts.length + (if x.wait then 1 else 0) }] } }

/-! ### Scheduled packets -/

/-- Seven days in seconds (R352). -/
def sevenDays : Nat := 604800

/-- A launch time from its 10 bytes: seconds, nanoseconds, STRICT; and bit 30 (R338, R352). -/
def readLaunch (b : List Byte) : Nat × Nat × Bool × Bool :=
  (getN b 0 6, getN b 6 4 % 2 ^ 30, bit (getN b 6 4) 31, bit (getN b 6 4) 30)

/-- A launch time is in its range: nanoseconds below 1 000 000 000, at most 7 days ahead (R352). -/
def ModuleState.launchInRange (m : ModuleState) (s n : Nat) : Bool :=
  n < 1000000000 && stampNs (s, n) ≤ stampNs m.stamp + sevenDays * 1000000000

/-- A packet whose checks are done is dispatched: behind every earlier action when it carries BARRIER (R31), else at once. -/
def dispatch (spec : CmdSpec) (p : Packet) (role : Option Role) (data : List Byte) (launch : Option (Nat × Nat × Bool))
    (late : Bool) (m : ModuleState) : ModuleState :=
  if bit p.flags 2 && !m.interp.actions.isEmpty then
    m.holdPacket { packet := { p with opcode := spec.opcode }, since := m.now, waits := m.interp.actions.map (·.id), broken := false,
                   checked := true, role, data, late, launch, unjudged := bit p.flags 4 && !late && launch.isNone }
  else runCmd spec p role data launch late m

/-- A scheduled packet that passed step 12 (R353, R354): held for its launch time, or carried out at once when that has
passed, or refused. PROFILE_SELECT is judged and answered on arrival (R355). Either waits at a barrier when it is dispatched (R31). -/
def scheduleCmd (spec : CmdSpec) (p : Packet) (role : Option Role) (data : List Byte) (m : ModuleState) : ModuleState :=
  let (s, n, strict, _) := readLaunch p.payload
  let r := replyTo m p spec.opcode false
  if spec.opcode = 0x0111 then dispatch spec p role data (some (s, n, strict)) false m
  else if stampNs (s, n) ≤ stampNs m.stamp then
    if strict then m.answer r stLaunchPast []
    else dispatch spec p role data none true m
  else if 32 ≤ m.interp.scheduled.length then m.answer r stScheduleFull []
  else { m with interp := { m.interp with
      scheduled := m.interp.scheduled ++ [{ packet := { p with opcode := spec.opcode }, launch := (s, n), strict, role, data }] } }

/-! ### The checks -/

/-- The command payload of a packet: without launch time and tag (R304). -/
def commandPart (p : Packet) : List Byte :=
  let b := if bit p.flags 4 then p.payload.drop 10 else p.payload
  if bit p.flags 0 then b.take (b.length - 16) else b

/-- Bytes FLAGS announce: launch time and tag (step 4). -/
def announced (p : Packet) : Nat := (if bit p.flags 4 then 10 else 0) + (if bit p.flags 0 then 16 else 0)

/-- Steps 12 and 13 for a whole command payload. -/
def finishChecks (spec : CmdSpec) (p : Packet) (role : Option Role) (data : List Byte) (m : ModuleState) : ModuleState :=
  let r := replyTo m p spec.opcode false
  let (s, n, _, b30) := readLaunch p.payload
  if !spec.fields data then m.answer r stValueReserved []
  else if bit p.flags 4 then
    if b30 then m.answer r stValueReserved []
    else if !m.launchInRange s n then m.answer r stValueOutOfRange []
    else scheduleCmd spec p role data m
  else runCmd spec p role data none false m

/-- A collection discarded. -/
def ModuleState.dropCollection (m : ModuleState) (x : Transport) (session opcode : Nat) : ModuleState :=
  { m with interp := { m.interp with collections := m.interp.collections.filter fun c =>
      !(c.transport == x && c.session == session && c.opcode == opcode) } }

/-- A collection opened or continued. -/
def ModuleState.addCollection (m : ModuleState) (c : Collection) : ModuleState :=
  { m with interp := { m.interp with collections := m.interp.collections ++ [c] } }

/-- A segment of a segmented command (R309 to R311): collected, refused, or the last, which makes the command whole. -/
def segment (spec : CmdSpec) (limit : Nat) (p : Packet) (role : Option Role) (m : ModuleState) : ModuleState :=
  let r := replyTo m p spec.opcode false
  let more := bit p.flags 3
  let part := commandPart p
  let mine := m.interp.collections.find? fun c => c.transport == p.transport && c.session == p.session
  match mine.filter (·.opcode == spec.opcode) with
  | some c =>
    let m0 := m.dropCollection p.transport p.session spec.opcode
    if p.target ≠ c.target ∨ p.seq ≠ (c.seq + 1) % 2 ^ 32 then m0.answer r stSegmentOrder []
    else if limit < c.data.length + part.length then m0.answer r stSegmentsTooLong []
    else if more then
      m0.addCollection
        { c with seq := p.seq, data := c.data ++ part, barrier := c.barrier || bit p.flags 2, last := m.now }
          |>.answer r stOk []
    else finishChecks spec p role (c.data ++ part) m0
  | none =>
    if more then
      if mine.isSome || 2 ≤ m.interp.collections.length then m.answer r stSegmentBusy []
      else if limit < part.length then m.answer r stSegmentsTooLong []
      else m.addCollection
        { transport := p.transport, opcode := spec.opcode, target := p.target, session := p.session, seq := p.seq,
          data := part, barrier := bit p.flags 2, last := m.now } |>.answer r stOk []
    else if limit < part.length then m.answer r stSegmentsTooLong []
    else finishChecks spec p role part m

/-- The command payload that a packet makes whole has the size of its command's table (R307 step 10): of a segmented command the payload
of its last segment together with what is collected; a segment that R309 or R310 refuse is left to them. -/
def sizeFits (spec : CmdSpec) (p : Packet) (m : ModuleState) : Bool :=
  let n := (commandPart p).length
  match spec.seg with
  | none => spec.size n && spec.sized (commandPart p)
  | some limit =>
    match m.interp.collections.find? fun c => c.transport == p.transport && c.session == p.session && c.opcode == spec.opcode with
    | some c => bit p.flags 3 || p.target != c.target || p.seq != (c.seq + 1) % 2 ^ 32 || limit < c.data.length + n || spec.size (c.data.length + n)
    | none => bit p.flags 3 || limit < n || spec.size n

/-- Steps 7 to 13 of R307 Table 4 for an admitted packet. -/
def judge (spec : CmdSpec) (p : Packet) (role : Option Role) (m : ModuleState) : ModuleState :=
  let r := replyTo m p spec.opcode false
  let kind := p.target / 256
  let idx := p.target % 256
  if bitsAt p.flags 5 3 ≠ 0 then m.answer r stValueReserved []
  else if (bit p.flags 4 && !spec.sched) || (bit p.flags 3 && spec.seg.isNone) || (bit p.flags 3 && bit p.flags 4) then
    m.answer r stFlagInvalid []
  else if !spec.kinds.contains kind then m.answer r stTargetKind []
  else if !spec.present m kind idx then m.answer r stTargetAbsent []
  else if !sizeFits spec p m then (m.dropCollection p.transport p.session spec.opcode).answer r stPayloadSize []
  else if !spec.roles.admits p role then m.answer r stRoleDenied []
  else match spec.seg with
    | some limit => segment spec limit p role m
    | none => finishChecks spec p role (commandPart p) m

/-- Steps 3 to 13 of R307 Table 4. -/
def process (spec : Option CmdSpec) (p : Packet) (m : ModuleState) : ModuleState :=
  let op := match spec with
    | some s => s.opcode
    | none => p.opcode
  let r := replyTo m p op false
  if p.version ≠ 2 then m.answer r stVersionUnsupported []
  else if 4080 < p.payload.length ∨ p.payload.length < announced p then m.answer r stLengthInvalid []
  else match spec with
    | none => m.answer r stOpcodeUnknown []
    | some s =>
      let a := admission s p m
      match a.fail with
      | some st =>
        let bare := st == stSessionUnknown || st == stTagInvalid
        a.m.answer (replyTo m p op bare) st []
      | none => judge s p a.role a.m

/-! ### The interpreter's input -/

/-- A packet is to be ordered behind every earlier action (R31): its own BARRIER flag, or one on a segment of the command
it ends (R309); a scheduled packet is decoded at its launch time. -/
def ModuleState.barrier (m : ModuleState) (p : Packet) : Bool :=
  !bit p.flags 3 && !bit p.flags 4 &&
    (bit p.flags 2 || m.interp.collections.any fun c =>
      c.transport == p.transport && c.session == p.session && c.opcode == p.opcode && c.barrier)

/-- The interpreter reaches a packet: it waits at a barrier while earlier actions are outstanding (R31), else it is
judged. -/
def reach (look : Nat → Option CmdSpec) (p : Packet) (m : ModuleState) : ModuleState :=
  let m1 := { m with interp := { m.interp with last := p.transport.index } }
  if m.barrier p && !m.interp.actions.isEmpty then
    m1.holdPacket { packet := p, since := m.now, waits := m.interp.actions.map (·.id), broken := false, checked := false,
                    role := none, data := [], late := false }
  else process (look p.opcode) p m1

/-- Words a packet takes in CMD_FIFO (R319). -/
def packetWords (p : Packet) : Nat := (16 + p.payload.length + 3) / 4

/-- USED of CMD_LEVEL: an incomplete packet's words, and those of packets not yet taken (R326). -/
def ModuleState.cmdUsed (m : ModuleState) : Nat :=
  m.host.partialCmd.length + ((m.interp.waiting.filter (·.transport == .spi)).map packetWords).sum

/-- CMD_DRAINED: FREE has risen from below 512 words to 512 or more (R324 Table 11). -/
def ModuleState.drained (m : ModuleState) (before : Nat) : ModuleState :=
  if 512 < before && m.cmdUsed ≤ 512 then { m with host := m.host.raise 2 } else m

/-- The interpreter may take a packet of a transport: none from CMD_FIFO while 16 replies are held (R329). -/
def ModuleState.takeable (m : ModuleState) (x : Transport) : Bool := x != .spi || m.host.heldReplies.length < 16

/-- The next waiting packet in turn after the transport served last (R22), and the packets left. -/
def ModuleState.nextWaiting (m : ModuleState) : Option (Packet × List Packet) :=
  let turn := [1, 2, 3, 4, 5].map fun k => Transport.ofIndex ((m.interp.last + k) % 5)
  match turn.find? fun x => m.takeable x && m.interp.waiting.any (·.transport == x) with
  | none => none
  | some x =>
    match m.interp.waiting.find? (·.transport == x) with
    | none => none
    | some p => some (p, m.interp.waiting.eraseIdx (m.interp.waiting.findIdx (·.transport == x)))

/-- A scheduled packet whose launch time has come is dispatched (R353, R354): late when more than 1 ms has passed, and then
refused with STRICT; it waits at a barrier (R31). -/
def launch (look : Nat → Option CmdSpec) (x : Sched) (m : ModuleState) : ModuleState :=
  let late := stampNs x.launch + 1000000 < stampNs m.stamp
  let op := x.packet.opcode
  if late && x.strict then m.answer (replyTo m x.packet op false) stLaunchPast []
  else
    match look op with
      | none => m
      | some s => dispatch s x.packet x.role x.data none late m

/-- The interpreter takes launched packets and waiting packets while it is free (R22, R326, R353); a packet's time is then the moment it was
taken (R357). -/
def drain (look : Nat → Option CmdSpec) : Nat → ModuleState → ModuleState
  | 0, m => m
  | n + 1, m =>
    if m.interp.hold.isSome then m
    else match m.interp.launched with
      | x :: r => drain look n (launch look x { m with interp := { m.interp with launched := r } })
      | [] => match m.nextWaiting with
        | none => m
        | some (p, rest) =>
          let before := m.cmdUsed
          let m1 := ({ m with interp := { m.interp with waiting := rest } }).drained before
          drain look n (reach look { p with time := m.now } m1)

/-- The held packet looked at again (R25, R31, R32): a barrier whose actions are all acknowledged or failed is judged, or
answered BARRIER_BROKEN; a packet held for room is dispatched when there is room. Then waiting packets are taken. -/
def resume (look : Nat → Option CmdSpec) (m : ModuleState) : ModuleState :=
  let m1 := match m.interp.hold with
    | none => m
    | some h =>
      if !h.waits.isEmpty then m
      else
        let free := { m with interp := { m.interp with hold := none } }
        if h.broken then free.answer (replyTo m h.packet h.packet.opcode false) stBarrierBroken []
        else if h.unjudged then
          let (s, n, strict, _) := readLaunch h.packet.payload
          launch look { packet := h.packet, launch := (s, n), strict, role := h.role, data := h.data } free
        else if h.checked then
          match look h.packet.opcode with
          | none => free
          | some s =>
            let r := runCmd s h.packet h.role h.data h.launch h.late free
            { r with interp := { r.interp with hold := r.interp.hold.map fun x => { x with since := h.since } } }
        else process (look h.packet.opcode) h.packet free
  drain look (m1.interp.launched.length + m1.interp.waiting.length) m1

/-- The interpreter of the polder core runs (R626): the module is ready and the polder core runs. -/
def ModuleState.interprets (m : ModuleState) : Bool := m.reset.phase == .ready && m.runs isPolder

/-- Opcodes the warden answers in recovery (R540): RESET_STATUS, READ_ISLAND_HEALTH, BANK_STATUS, MGMT_HEALTH,
SUPPLY_STATUS, ACTIVATE. -/
def recoveryOpcodes : List Nat := [0x0005, 0x0006, 0x0F01, 0x0F00, 0x0F06, 0x0F05]

/-- A packet from CMD_FIFO judged by the warden in recovery (R540): steps 1 to 5 and 7 to 10. -/
def recovering (spec : Option CmdSpec) (p : Packet) (m : ModuleState) : ModuleState :=
  let op := match spec with
    | some s => s.opcode
    | none => p.opcode
  let r := replyTo m p op true
  if p.version ≠ 2 then m.answer r stVersionUnsupported []
  else if 4080 < p.payload.length ∨ p.payload.length < announced p then m.answer r stLengthInvalid []
  else match spec with
    | none => m.answer r stOpcodeUnknown []
    | some s =>
      let data := commandPart p
      if bit p.flags 0 || p.session ≠ 0 then m.answer r stSessionUnknown []
      else if bitsAt p.flags 5 3 ≠ 0 then m.answer r stValueReserved []
      else if (bit p.flags 4 && !s.sched) || (bit p.flags 3 && s.seg.isNone) || (bit p.flags 3 && bit p.flags 4) then
        m.answer r stFlagInvalid []
      else if !s.kinds.contains (p.target / 256) then m.answer r stTargetKind []
      else if !s.present m (p.target / 256) (p.target % 256) then m.answer r stTargetAbsent []
      else if !(s.size data.length && s.sized data) then m.answer r stPayloadSize []
      else if !recoveryOpcodes.contains s.opcode || (s.opcode == 0x0F05 && getN data 0 1 != 2) then
        m.answer r stWrongState []
      else if !s.fields data then m.answer r stValueReserved []
      else runCmd s p none data none false m

/-- A whole packet reaches the module on its transport (R21, R22, R626): it is counted and judged when the interpreter is
free, or waits; without an interpreter it is dropped. -/
def arrive (look : Nat → Option CmdSpec) (p : Packet) (m : ModuleState) : ModuleState :=
  if m.interprets then
    let m1 := m.withComm (m.comm.port p.transport fun q => { q with packetsIn := (q.packetsIn + 1) % 2 ^ 32 })
    if m1.interp.hold.isNone && m1.interp.launched.isEmpty && m1.takeable p.transport &&
        !(m1.interp.waiting.any fun q => m1.takeable q.transport) then
      reach look p (if p.transport = .spi then m1.drained (m1.cmdUsed + packetWords p) else m1)
    else { m1 with interp := { m1.interp with waiting := m1.interp.waiting ++ [p] } }
  else if m.reset.phase = .recovery ∧ p.transport = .spi then
    recovering (look p.opcode) p (m.withComm (m.comm.port .spi fun q => { q with packetsIn := (q.packetsIn + 1) % 2 ^ 32 }))
  else if p.transport = .spi then m
  else m.discardOn p.transport

/-- A row of the opcode table: its packet reaches the module. -/
def submit (spec : CmdSpec) (p : Packet) (s : State) : State :=
  s.at p.time fun m => arrive (fun _ => some spec) { p with opcode := spec.opcode } m

end Sys2Proof.Machine
end

