-- ==== Sys2Proof/Machine/Can.lean ====
section
/-! DEFINITION. The CAN FD controllers (chapter 12): commands R385, modes and error states R364 to R369, receive objects
R370 to R375, transmit buffers R376 to R380, the ISO 15765-2 transport R381 and R382. -/

namespace Sys2Proof.Machine

/-! ### Settings and codes -/

/-- FLAGS of a controller's settings entry (R360). -/
def ModuleState.canFlags (m : ModuleState) (c : Nat) : Nat := m.cfg (canCfg c + 2) 1

/-- REQ_ID, RSP_ID and PI_ID of a controller (R360). -/
def ModuleState.reqId (m : ModuleState) (c : Nat) : Nat := m.cfg (canCfg c + 16) 4
def ModuleState.rspId (m : ModuleState) (c : Nat) : Nat := m.cfg (canCfg c + 20) 4
def ModuleState.piId (m : ModuleState) (c : Nat) : Nat := m.cfg (canCfg c + 24) 4

/-- Mode of a code (R364 Table 3). -/
def CanMode.ofCode : Nat → CanMode
  | 1 => .normal | 2 => .listenOnly | 3 => .autoRate | _ => .off

/-- Code of a mode (R364 Table 3). -/
def CanMode.code : CanMode → Nat
  | .off => 0 | .normal => 1 | .listenOnly => 2 | .autoRate => 3

/-- Code of an error state (R385 Table 15). -/
def CanError.code : CanError → Nat
  | .active => 0 | .passive => 1 | .busOff => 2

/-- Code of a buffer state (R385 Table 15). -/
def BufState.code : BufState → Nat
  | .empty => 0 | .waiting => 1 | .pending => 2 | .done => 3 | .aborted => 4

/-- The candidate in use (R368, R369, R385): the one being tried in AUTO_RATE, else the accepted one; none for TIMING. -/
def Can.inUse (q : Can) : Option Nat := if q.mode = .autoRate then some q.trying else q.candidate

/-- Offset of the timing in use: TIMING, or a candidate (R369). -/
def ModuleState.timingOff (m : ModuleState) (c : Nat) : Nat :=
  match (m.ctl c).inUse with
  | some k => canCfg c + 40 + 12 * k
  | none => canCfg c + 4

/-- Bit rate from prescaler and segments: 80 MHz / (BRP × (1 + TSEG1 + TSEG2)) (R360). -/
def bitRate (brp t1 t2 : Nat) : Nat := 80000000 / (brp * (1 + t1 + t2))

/-- NOMINAL_BPS and DATA_BPS of a timing entry at an offset (R360 Table 2, R385 Table 15). -/
def ModuleState.rates (m : ModuleState) (off : Nat) : Nat × Nat :=
  (bitRate (m.cfg off 2) (m.cfg (off + 2) 2) (m.cfg (off + 4) 1),
   bitRate (m.cfg (off + 6) 1) (m.cfg (off + 7) 1) (m.cfg (off + 8) 1))

/-! ### Secured frames -/

/-- The tag of a secured frame (R383, R514): the first 8 bytes of KMAC256 under the group key over the identifier word,
LEN and bytes 0 to 55. -/
def groupTag (key id : Nat) (b : List Byte) : List Byte :=
  leBytes 8 (Config.kmac256 (leBytes 32 key) (leBytes 4 id ++ leBytes 1 64 ++ b.take 56) 256 "YL-D480 CAN")

/-- The group key of a controller. -/
def ModuleState.groupKey (m : ModuleState) (c : Nat) : Option Nat := m.sec.groupKeys.getD c none

/-- A secured frame can be sent: a group key is installed and the freshness counter has values left (R516). -/
def ModuleState.canSecure (m : ModuleState) (c : Nat) : Bool :=
  (m.groupKey c).isSome && m.sec.fresh.getD c 0 < 0xFFFFFFFF

/-- The freshness counter of a controller takes its next value; the reservation moves on by 1 024 at its boundary
(R384, R515). -/
def ModuleState.takeFresh (m : ModuleState) (c : Nat) : ModuleState :=
  { m with sec := { m.sec with
      fresh := upd m.sec.fresh c (· + 1)
      freshRes := if m.sec.freshRes.getD c 0 ≤ m.sec.fresh.getD c 0 then upd m.sec.freshRes c (· + 1024) else m.sec.freshRes } }

/-- 64 bytes with a freshness value and its tag in bytes 52 to 63 (R380, R383). -/
def securedBytes (key id freshness : Nat) (b : List Byte) : List Byte :=
  let b1 := padTo 52 b ++ leBytes 4 freshness
  b1 ++ groupTag key id b1

/-! ### Arbitration -/

/-- A host buffer of a controller. -/
def Can.buf (c : Can) (b : Nat) : TxBuf := c.bufs.getD b {}

/-- How an identifier word ranks in arbitration, lower first (ISO 11898-1): base identifier, then IDE, then the identifier extension. -/
def arbitration (id : Nat) : Nat := if bit id 31 then id / 2 ^ 18 % 2 ^ 11 * 2 ^ 19 + 2 ^ 18 + id % 2 ^ 18 else id % 2 ^ 11 * 2 ^ 19

/-- A buffer by its number, host buffers 0 to 2, the transport buffer 3, the publication buffer 4: its frame and the instant since which it is
pending (R376). -/
def Can.offer (c : Can) (b : Nat) : Option (CanFrame × Nat) :=
  if b < 3 then (if (c.buf b).state = .pending then some ((c.buf b).frame, (c.buf b).since) else none)
  else if b = 3 then c.tpBuf.map fun f => (f, c.tpSince)
  else if b = 4 then c.piBuf.map fun f => (f.1, c.piSince)
  else none

/-- Rank of a buffer that is pending at an instant (R376); none of one that is not. -/
def Can.rank (c : Can) (b when : Nat) : Option Nat := (c.offer b).bind fun x => if x.2 ≤ when then some (arbitration x.1.id) else none

/-- The lowest-ranked of some buffers pending at an instant, the earlier in the list among equals. -/
def Can.first (c : Can) (when : Nat) (l : List Nat) : Option Nat :=
  (l.find? fun b => (c.rank b when).any fun r => l.all fun x => (c.rank x when).all (r ≤ ·))

/-- The buffer a controller offers to arbitration at a bus idle at an instant (R376): the lowest identifier of the transport buffer, the
publication buffer and one host buffer, which TX_ORDER chooses. -/
def Can.offered (c : Can) (order : Bool) (when : Nat) : Option Nat :=
  let host := if order then [0, 1, 2].find? fun b => (c.rank b when).isSome else c.first when [0, 1, 2]
  c.first when ([3, 4] ++ host.toList)

/-- An attempt of a buffer can be on the bus now (R376): at some bus idle since the last attempt or frame it was the one offered. -/
def ModuleState.offers (m : ModuleState) (c b : Nat) : Bool :=
  let q := m.ctl c
  let idles := (q.idleAt :: [0, 1, 2, 3, 4].filterMap fun x => (q.offer x).map (·.2)).filter fun x => q.idleAt ≤ x && x ≤ m.now
  q.carries && idles.any fun x => q.offered (bit (m.canFlags c) 1) x == some b

/-! ### Aborts and error states -/

/-- A host buffer is aborted with a cause (R377): CAN_TX_ABORTED carries controller, buffer, cause and attempts. -/
def ModuleState.abortBuf (m : ModuleState) (c b cause : Nat) : ModuleState :=
  (m.setCtl c fun q => { q with bufs := upd q.bufs b fun x => { x with state := .aborted, cause, abortAsked := false } }).log
    evCanTxAborted tgModule [(c : Int), (b : Int), (cause : Int), (((m.ctl c).buf b).attempts : Int)]

/-- Every PENDING host buffer is aborted with a cause (R365, R367). -/
def ModuleState.abortPending (m : ModuleState) (c cause : Nat) : ModuleState :=
  m.each [0, 1, 2] fun m b => if ((m.ctl c).buf b).state = .pending then m.abortBuf c b cause else m

/-- Transport of a controller. -/
def canTransport (c : Nat) : Transport := if c = 0 then .canA else .canB

/-- The transport exchanges of a controller are dropped: replies and notifications in them are lost and counted (R320,
R365, R367). -/
def ModuleState.dropTp (m : ModuleState) (c : Nat) : ModuleState :=
  let q := m.ctl c
  let lost := q.tpWait.length + (if q.tpTx.isSome || (q.tpBuf.isSome && !q.tpBufFc) then 1 else 0)
  let m1 := m.setCtl c fun q => { q with tpWait := [], tpTx := none, tpRx := none, tpBuf := none, tpBufFc := false, fcPend := none }
  m1.lostOn (canTransport c) lost

/-- Error state of the counters (R365; ISO 11898-1: error-passive from 128, bus-off from 256). -/
def errorOf (tec rc : Nat) : CanError := if 256 ≤ tec then .busOff else if 128 ≤ tec || 128 ≤ rc then .passive else .active

/-- The error counters take new values (R365): a change of state logs CAN_ERROR_STATE; bus-off aborts every PENDING host
buffer, drops the transport exchanges and suspends the process image. -/
def ModuleState.setErrors (m : ModuleState) (c tec rc : Nat) : ModuleState :=
  let q := m.ctl c
  let new := errorOf tec rc
  let m1 := (m.setCtl c fun q => { q with tec, rec_ := rc, err := new }).logIf (q.err != new) evCanErrorState tgModule
    [(c : Int), (q.err.code : Int), (new.code : Int), (tec : Int), (rc : Int)]
  if q.err ≠ .busOff ∧ new = .busOff then
    ((m1.abortPending c 2).dropTp c).setCtl c fun q => { q with piBuf := none, recovering := bit (m.canFlags c) 3 }
  else m1

/-- NO_ACK_PEER clears at an acknowledged transmission or a valid frame received (R366). -/
def ModuleState.clearNoAck (m : ModuleState) (c : Nat) : ModuleState :=
  (m.setCtl c fun q => { q with noAck := false, noAckRun := 0, busFault := false }).logIf (m.ctl c).noAck evCanNoAckPeer
    tgModule [(c : Int), 1]

/-! ### Modes -/

/-- A controller enters a mode (R364, R367), an order that waits for bus idle still to come: leaving NORMAL aborts PENDING buffers and drops the transport; AUTO_RATE
begins with candidate 0 (R368). -/
def ModuleState.enterMode (m : ModuleState) (c : Nat) (mode : CanMode) : ModuleState :=
  let old := (m.ctl c).mode
  let m1 := if old = .normal ∧ mode ≠ .normal then (m.abortPending c 3).dropTp c else m
  m1.setCtl c fun q =>
    { q with
      mode
      piBuf := if mode = .normal then q.piBuf else none
      piAt := if mode = .normal && old != .normal then m.now else q.piAt
      recovering := if mode = .normal && q.err == .busOff then true else q.recovering
      candidate := if mode = .autoRate then none else q.candidate
      trying := if mode = .autoRate then 0 else q.trying
      dwellAt := if mode = .autoRate then m.now else q.dwellAt
      goodRun := 0, brsSeen := false
      cycles := if mode = .autoRate then 0 else q.cycles }

/-- CAN_MODE_APPLY (R367): an ordered mode takes effect at bus idle. -/
def execCanModeApply (t ctl : Nat) (s : State) : Host.Outcome State Fault Refusal :=
  happen (ctl < 2) t (fun m =>
    match (m.ctl ctl).order with
    | some mode => (m.enterMode ctl mode).setCtl ctl fun q => { q with order := none }
    | none => m) s

/-- CAN_BUS_INTEGRATED (R364): after bus integration the controller of a ready module returns to START_MODE. -/
def execCanBusIntegrated (t ctl : Nat) (s : State) : Host.Outcome State Fault Refusal :=
  happen (ctl < 2) t (fun m =>
    if (m.ctl ctl).integrating && m.runs isNetwork && m.configured && m.reset.phase == .ready then
      (m.enterMode ctl (CanMode.ofCode (m.cfg (canCfg ctl + 1) 1))).setCtl ctl fun q => { q with integrating := false }
    else m) s

/-- CAN_BUS_OFF_RECOVERED (R365): 128 occurrences of 11 recessive bits return a recovering controller to error-active. -/
def execCanBusOffRecovered (t ctl : Nat) (s : State) : Host.Outcome State Fault Refusal :=
  happen (ctl < 2) t (fun m =>
    if (m.ctl ctl).err = .busOff ∧ (m.ctl ctl).recovering ∧ (m.ctl ctl).mode = .normal then
      (m.setErrors ctl 0 0).setCtl ctl fun q => { q with recovering := false }
    else m) s

/-- A bus fault noted (R362, R386): TXD_TIMEOUT 0, BUS_DOMINANT 1, TRANSCEIVER_THERMAL 2. -/
def ModuleState.busFault (m : ModuleState) (c cause : Nat) : ModuleState :=
  (m.setCtl c fun q => { q with busFault := true }).log evCanBusFault tgModule [(c : Int), (cause : Int)]

/-- CAN_TXD_TIMEOUT (R362). -/
def execCanTxdTimeout (t ctl : Nat) (s : State) : Host.Outcome State Fault Refusal :=
  happen (ctl < 2) t (fun m => if m.runs isNetwork then m.busFault ctl 0 else m) s

/-- CAN_BUS_DOMINANT (R362). -/
def execCanBusDominant (t ctl : Nat) (s : State) : Host.Outcome State Fault Refusal :=
  happen (ctl < 2) t (fun m => if m.runs isNetwork then m.busFault ctl 1 else m) s

/-- TRANSCEIVER_THERMAL (R386). -/
def execTransceiverThermal (t ctl : Nat) (s : State) : Host.Outcome State Fault Refusal :=
  happen (ctl < 2) t (fun m => if m.runs isNetwork then m.busFault ctl 2 else m) s

/-! ### The transport -/

/-- A CAN_TP_ERROR counted and logged with its cause (R381, R386). -/
def ModuleState.tpError (m : ModuleState) (c cause : Nat) : ModuleState :=
  ((m.setCtl c fun q => { q with tpErrors := sat max16 q.tpErrors }).saturated max16 (m.ctl c).tpErrors tgModule 0x0900
    44).log evCanTpError tgModule [(c : Int), (cause : Int)]

/-- A transmission in progress is aborted (R381): its message is lost and counted (R320), and the next one starts. -/
def ModuleState.abortTx (m : ModuleState) (c cause : Nat) : ModuleState :=
  let m1 := (m.setCtl c fun q => m.tpStart c { q with tpTx := none, tpBuf := if q.tpBufFc then q.tpBuf else none }).tpError c cause
  m1.lostOn (canTransport c) 1

/-- Flow control sent with a status, TP_BS and TP_STMIN (R381): at once, or next when the transport buffer is busy. -/
def ModuleState.sendFc (m : ModuleState) (i : Nat) (status : Nat) (c : Can) : Can :=
  let f := m.tpFrame i [BitVec.ofNat 8 (0x30 + status), BitVec.ofNat 8 (m.cfg (canCfg i + 30) 1), BitVec.ofNat 8 (m.cfg (canCfg i + 31) 1)]
  if c.tpBuf.isNone then { c with tpBuf := some f, tpBufFc := true, tpSince := m.now } else { c with fcPend := some f }

/-- STmin of a received flow control in ns (R381; ISO 15765-2): 0 to 127 ms, 100 to 900 µs; a reserved value counts as 127 ms. -/
def stMin (b : Nat) : Nat := if b ≤ 0x7F then ms b else if 0xF1 ≤ b ∧ b ≤ 0xF9 then (b - 0xF0) * 100000 else ms 127

/-- The next consecutive frame of a transmission that may go on (R381), pending after a span. -/
def ModuleState.nextCf (m : ModuleState) (i span : Nat) (c : Can) : Can :=
  match c.tpTx, c.tpBuf with
  | some x, none =>
    if x.waitFc.isSome || x.msg.length ≤ x.sent then c
    else
      let d := m.tpSize i - 1
      let left := x.blockLeft.map (· - 1)
      { c with
        tpBuf := some (m.tpFrame i (BitVec.ofNat 8 (0x20 + x.next) :: (x.msg.drop x.sent).take d)), tpBufFc := false
        tpSince := m.now + span
        tpTx := some { x with sent := x.sent + d, next := (x.next + 1) % 16, blockLeft := left } }
  | _, _ => c

/-- What the transport buffer sends next after a frame has left (R381, R382): waiting flow control; the message's next
frame, or a wait for flow control at the end of a block; the next message. -/
def ModuleState.tpNext (m : ModuleState) (i : Nat) (c : Can) : Can :=
  match c.fcPend with
  | some f => { c with tpBuf := some f, tpBufFc := true, fcPend := none, tpSince := m.now }
  | none =>
    match c.tpTx with
    | some x =>
      if x.waitFc.isSome then { c with tpTx := some { x with waitFc := some m.now } }
      else if x.msg.length ≤ x.sent then m.tpStart i { c with tpTx := none }
      else if x.blockLeft = some 0 then { c with tpTx := some { x with waitFc := some m.now } }
      else m.nextCf i (stMin x.stmin) c
    | none => m.tpStart i c

/-- A transport frame received on REQ_ID (R381): the module after it, and the message it completes. -/
def ModuleState.tpReceive (m : ModuleState) (i : Nat) (d : List Byte) : ModuleState × Option (List Byte) :=
  let c := m.ctl i
  if !c.carries || m.reqId i = 0xFFFFFFFF || !m.configured then (m, none)
  else
    let b0 := getN d 0 1
    let super := if c.tpRx.isSome then (m.setCtl i fun q => { q with tpRx := none }).tpError i 5 else m
    match b0 / 16 with
    | 0 =>
      let n := if b0 % 16 = 0 then (if 8 < d.length then getN d 1 1 else 0) else b0 % 16
      let msg := ((d.drop (if b0 % 16 = 0 then 2 else 1)).take n)
      if n = 0 ∨ msg.length < n then (m, none) else (super, some msg)
    | 1 =>
      let short := b0 % 16 * 256 + getN d 1 1
      let len := if short = 0 then ((getN d 2 1 * 256 + getN d 3 1) * 256 + getN d 4 1) * 256 + getN d 5 1 else short
      let body := d.drop (if short = 0 then 6 else 2)
      if 4096 < len then ((super.setCtl i (m.sendFc i 2)).tpError i 3, none)
      else (super.setCtl i fun q => m.sendFc i 0 { q with tpRx := some { len, got := body.take len, next := 1, block := 0, last := m.now } },
        none)
    | 2 =>
      match c.tpRx with
      | none => (m, none)
      | some x =>
        if b0 % 16 ≠ x.next then ((m.setCtl i fun q => { q with tpRx := none }).tpError i 2, none)
        else
          let got := (x.got ++ d.drop 1).take x.len
          if x.len ≤ got.length then (m.setCtl i fun q => { q with tpRx := none }, some got)
          else
            let bs := m.cfg (canCfg i + 30) 1
            let full := bs != 0 && x.block + 1 == bs
            let y := { x with got, next := (x.next + 1) % 16, block := if full then 0 else x.block + 1, last := m.now }
            (m.setCtl i fun q => (if full then m.sendFc i 0 else id) { q with tpRx := some y }, none)
    | 3 =>
      match c.tpTx with
      | none => (m, none)
      | some x =>
        if x.waitFc.isNone then (m, none)
        else match b0 % 16 with
          | 0 =>
            let bs := getN d 1 1
            (m.setCtl i fun q => m.nextCf i 0 { q with tpTx := some { x with
                waitFc := none, waits := 0, stmin := getN d 2 1, blockLeft := if bs = 0 then none else some bs } }, none)
          | 1 =>
            if 8 ≤ x.waits then (m.abortTx i 4, none)
            else (m.setCtl i fun q => { q with tpTx := some { x with waits := x.waits + 1, waitFc := some m.now } }, none)
          | 2 => (m.abortTx i 3, none)
          | _ => (m, none)
    | _ => (m, none)

/-- CAN_TP_N_CR_TIMEOUT (R381): no consecutive frame for TP_N_CR aborts the reception. -/
def execCanTpNCrTimeout (t ctl : Nat) (s : State) : Host.Outcome State Fault Refusal :=
  happen (ctl < 2) t (fun m =>
    match (m.ctl ctl).tpRx with
    | some x =>
      if m.due x.last (ms (m.cfg (canCfg ctl + 32) 2)) then (m.setCtl ctl fun q => { q with tpRx := none }).tpError ctl 0 else m
    | none => m) s

/-- CAN_TP_N_BS_TIMEOUT (R381, R320): no flow control for TP_N_BS aborts the transmission, whose message is lost. -/
def execCanTpNBsTimeout (t ctl : Nat) (s : State) : Host.Outcome State Fault Refusal :=
  happen (ctl < 2) t (fun m =>
    match (m.ctl ctl).tpTx with
    | some x =>
      if m.dueO x.waitFc (ms (m.cfg (canCfg ctl + 34) 2)) && (m.ctl ctl).tpBuf.isNone then m.abortTx ctl 1 else m
    | none => m) s

/-! ### Receiving -/

/-- A frame that fails the checks of a SECURED binding (R374): TAG 0, FRESHNESS 1, LENGTH 2. -/
def ModuleState.authFail (m : ModuleState) (c o cause : Nat) : ModuleState :=
  let x := (m.ctl c).objs.getD o {}
  let now : Bool := (x.failAt.map fun t => decide (t + seconds 1 ≤ m.now)).getD true
  let m1 := m.setCtl c fun q => { q with
    authFails := sat max16 q.authFails
    objs := upd q.objs o fun x => if now then { x with failAt := some m.now, fails := 0 } else { x with fails := x.fails + 1 } }
  (m1.saturated max16 (m.ctl c).authFails tgModule 0x0900 38).logIf now evCanAuthFail tgModule
    [(c : Int), (o : Int), (cause : Int), (x.fails + 1 : Nat)]

/-- The DEDUP test of a frame passes (R373). -/
def dedupOk (x : RxObj) (now : Nat) (f : CanFrame) : Bool :=
  match x.lastSeq, x.storedAt with
  | some last, some t =>
    let d := (getN f.data 0 2 + 65536 - last) % 65536
    t + seconds 1 ≤ now || (1 ≤ d && d ≤ 32767)
  | _, _ => true

/-- A frame stored in a receive object (R371, R372). -/
def storeFrame (now : Nat) (stamp : Nat × Nat) (f : CanFrame) (x : RxObj) : RxObj :=
  { x with
    frame := some f, count := (x.count + 1) % 65536, lost := x.lost || x.fresh, fresh := true, stamp,
    lastSeq := if x.dedup then some (getN f.data 0 2) else x.lastSeq, storedAt := some now,
    lastFresh := if x.secured then some (getN f.data 52 4) else x.lastFresh }

/-- A valid frame offered to the receive objects (R370 to R374). -/
def ModuleState.offerFrame (m : ModuleState) (c sof : Nat) (f : CanFrame) : ModuleState :=
  let q := m.ctl c
  let o := q.objs.findIdx fun x => x.bound == some f.id
  if q.objs.length ≤ o then m
  else
    let x := q.objs.getD o {}
    if x.dedup && !dedupOk x m.now f then
      (m.setCtl c fun q => { q with duplicates := sat max16 q.duplicates }).saturated max16 q.duplicates tgModule 0x0900 40
    else if x.secured && (!f.fd || f.data.length != 64) then m.authFail c o 2
    else if x.secured && !((m.groupKey c).any fun k => groupTag k f.id f.data == f.data.drop 56) then m.authFail c o 0
    else if x.secured && signed 32 ((getN f.data 52 4 + 2 ^ 32 - x.lastFresh.getD 0) % 2 ^ 32) ≤ 0 then m.authFail c o 1
    else m.setCtl c fun q => { q with objs := upd q.objs o (storeFrame m.now (m.time.stamp sof) f) }

/-- A candidate rate is accepted (R369). -/
def ModuleState.acceptRate (m : ModuleState) (c : Nat) (brs : Bool) : ModuleState :=
  let q := m.ctl c
  let k := q.trying
  let m1 := m.setCtl c fun q => { q with candidate := some k, unverified := !brs }
  let m2 := m1.enterMode c (if bit (m.canFlags c) 2 then .normal else .listenOnly)
  (m2.setCtl c fun q => { q with candidate := some k }).log evCanRateFound tgModule [(c : Int), (k : Int), flagItem (!brs)]

/-- CAN_FRAME_RECEIVED (R371): a valid data frame whose start-of-frame bit came at sof, here at its end of frame (R372). An attempt of the
controller has lost arbitration against it, so that one the host wants aborted ends (R378). -/
def execCanFrameReceived (t ctl sof : Nat) (f : CanFrame) (s : State) : Host.Outcome State Fault Refusal :=
  happen (ctl < 2) t (fun m =>
    let q := m.ctl ctl
    match q.mode with
    | .off => m
    | .autoRate =>
      let brs := q.brsSeen || f.brs
      let m1 := (m.clearNoAck ctl).setCtl ctl fun q =>
        { q with rxFrames := (q.rxFrames + 1) % 2 ^ 32, unverified := q.unverified && !f.brs, goodRun := q.goodRun + 1, brsSeen := brs }
      if 1 ≤ q.goodRun then m1.acceptRate ctl brs else m1
    | _ =>
      if q.mode = .normal ∧ q.err = .busOff then m
      else
        let (v, m1) := if 127 < q.rec_ then m.fresh else (0, m)
        let rc := if q.mode = .listenOnly then q.rec_ else if 127 < q.rec_ then 119 + v % 9 else q.rec_ - 1
        let m2 := (m1.clearNoAck ctl).setErrors ctl q.tec rc
        let m3 := m2.setCtl ctl fun q =>
          { q with rxFrames := (q.rxFrames + 1) % 2 ^ 32, unverified := q.unverified && !f.brs, idleAt := m.now }
        let m4 := m3.each [0, 1, 2] fun m b => if ((m.ctl ctl).buf b).abortAsked then m.abortBuf ctl b 1 else m
        m4.offerFrame ctl sof f) s

/-- CAN_RX_ERROR (R365): an error detected while receiving raises REC by 1, and by 8 more when a dominant bit follows the error
flag (ISO 11898-1); in AUTO_RATE it restarts the count of good frames (R368). -/
def execCanRxError (t ctl : Nat) (dominant : Bool) (s : State) : Host.Outcome State Fault Refusal :=
  happen (ctl < 2) t (fun m =>
    let q := m.ctl ctl
    match q.mode with
    | .off => m
    | .normal =>
      if q.err = .busOff then m
      else
        let m1 := ((m.setCtl ctl fun q => { q with errors := sat max32 q.errors }).saturated max32 q.errors tgModule 0x0900 34).setErrors
          ctl q.tec (min 255 (q.rec_ + 1))
        if dominant then m1.setErrors ctl q.tec (min 255 (q.rec_ + 9)) else m1
    | _ => (m.setCtl ctl fun q => { q with errors := sat max32 q.errors, goodRun := 0 }).saturated max32 q.errors tgModule
        0x0900 34) s

/-- CAN_RATE_DWELL_END (R368): the next candidate is tried; after the last one a cycle is complete. -/
def execCanRateDwellEnd (t ctl : Nat) (s : State) : Host.Outcome State Fault Refusal :=
  happen (ctl < 2) t (fun m =>
    let q := m.ctl ctl
    if q.mode = .autoRate ∧ m.due q.dwellAt (ms (m.cfg (canCfg ctl + 36) 2)) then
      let wrap := m.cfg (canCfg ctl + 38) 1 ≤ q.trying + 1
      let say : Bool := wrap && (q.notFoundAt.map fun t => decide (t + seconds 60 ≤ m.now)).getD true
      (m.setCtl ctl fun q => { q with
        trying := if wrap then 0 else q.trying + 1, dwellAt := m.now, goodRun := 0, brsSeen := false
        cycles := if wrap then (q.cycles + 1) % 2 ^ 32 else q.cycles
        notFoundAt := if say then some m.now else q.notFoundAt }).logIf say evCanRateNotFound tgModule
          [(ctl : Int), (q.cycles + 1 : Nat)]
    else m) s

/-! ### Transmitting -/


/-- CAN_TX_SUCCESS (R377): the frame of a buffer, whose start-of-frame bit left at sof, is acknowledged. -/
def execCanTxSuccess (t ctl buf sof : Nat) (s : State) : Host.Outcome State Fault Refusal :=
  happen (ctl < 2) t (fun m =>
    let q := m.ctl ctl
    if !m.offers ctl buf then m
    else
      let m1 := ((m.clearNoAck ctl).setErrors ctl (q.tec - 1) q.rec_).setCtl ctl fun q =>
        { q with txFrames := (q.txFrames + 1) % 2 ^ 32, idleAt := m.now }
      if buf < 3 then
        let x := q.buf buf
        let st := m.time.stamp sof
        (m1.setCtl ctl fun q => { q with bufs := upd q.bufs buf fun x =>
            { x with state := .done, attempts := x.attempts + 1, abortAsked := false } }).logIf x.notify evCanTxDone tgModule
          [(ctl : Int), (buf : Int), (st.1 : Int), (st.2 : Int), (x.attempts + 1 : Nat), flagItem x.late]
      else if buf = 3 then m1.setCtl ctl fun q => m.tpNext ctl { q with tpBuf := none, tpBufFc := false }
      else m1.setCtl ctl fun q => { q with piBuf := none }) s

/-- TEC after a failed attempt (R365): plus 8, except for an acknowledgement error of an error-passive transmitter that
sees no dominant bit, and for a stuff error in arbitration. -/
def tecAfter (q : Can) : TxErr → Nat
  | .ack dominant => if q.err = .passive && !dominant then q.tec else q.tec + 8
  | .arbitrationStuff => q.tec
  | .other => q.tec + 8

/-- CAN_TX_ERROR_FRAME (R377): an attempt of a buffer ends in an error frame. -/
def execCanTxErrorFrame (t ctl buf : Nat) (err : TxErr) (s : State) : Host.Outcome State Fault Refusal :=
  happen (ctl < 2) t (fun m =>
    let q := m.ctl ctl
    if !m.offers ctl buf then m
    else
      let isAck := match err with
        | .ack _ => true
        | _ => false
      let run := if isAck then min 16 (q.noAckRun + 1) else 0
      let set := run == 16 && !q.noAck
      let m1 := (m.setCtl ctl fun q => { q with
        errors := sat max32 q.errors, noAckRun := run, noAck := q.noAck || set, idleAt := m.now
        bufs := if buf < 3 then upd q.bufs buf fun x => { x with attempts := x.attempts + 1 } else q.bufs
        piBuf := if buf = 4 then (q.piBuf.bind fun x => if 3 ≤ x.2 then none else some (x.1, x.2 + 1)) else q.piBuf })
      let m2 := (m1.saturated max32 q.errors tgModule 0x0900 34).setErrors ctl (tecAfter q err) q.rec_
      let m3 := m2.logIf set evCanNoAckPeer tgModule [(ctl : Int), 0]
      let x := (m3.ctl ctl).buf buf
      if buf < 3 ∧ x.state = .pending then
        if x.retry ≠ 0 ∧ 1 + x.retry ≤ x.attempts then m3.abortBuf ctl buf 0
        else if x.abortAsked then m3.abortBuf ctl buf 1
        else m3
      else m3) s

/-- A loaded buffer becomes PENDING (R379, R380): a secured frame takes its freshness value and tag now. -/
def ModuleState.makePending (m : ModuleState) (c b : Nat) (late : Bool) : ModuleState :=
  let x := (m.ctl c).buf b
  if x.secured then
    if m.canSecure c then
      let v := m.sec.fresh.getD c 0 + 1
      (m.takeFresh c).setCtl c fun q => { q with bufs := upd q.bufs b fun x => { x with
        state := .pending, late, since := m.now
        frame := { x.frame with data := securedBytes ((m.groupKey c).getD 0) x.frame.id v (x.frame.data.take 52) } } }
    else m
  else m.setCtl c fun q => { q with bufs := upd q.bufs b fun x => { x with state := .pending, late, since := m.now } }

/-- A WAITING buffer reaches its LAUNCH (R379): more than 1 ms late, a STRICT one aborts with LAUNCH_PAST. PENDING on a controller that is in
bus-off or has left NORMAL, it is aborted like every PENDING buffer there (R365, R367; log entry 144). -/
def ModuleState.launchBuf (m : ModuleState) (c b : Nat) : ModuleState :=
  let x := (m.ctl c).buf b
  let late := stampNs x.launch + 1000000 < stampNs m.stamp
  if late && x.strict then m.abortBuf c b 4
  else if (m.ctl c).mode ≠ .normal then m.abortBuf c b 3
  else if (m.ctl c).err = .busOff then m.abortBuf c b 2
  else m.makePending c b late

/-! ### Commands -/

/-- CONTROLLER payload of R385 Table 11 is one of the two controllers, its reserved bytes 0. -/
def ctlPayload (withMode : Bool) (b : List Byte) : Bool :=
  getN b 0 1 < 2 && (if withMode then getN b 1 1 < 4 else getN b 1 1 == 0) && getN b 2 2 == 0

/-- Controller status entry, 44 bytes (R385 Table 15). -/
def ModuleState.canStatus (m : ModuleState) (c : Nat) : List Byte :=
  let q := m.ctl c
  let fd := bit (m.canFlags c) 0
  let r := m.rates (m.timingOff c)
  leBytes 1 c ++ leBytes 1 q.mode.code ++ leBytes 1 q.err.code ++
    leBytes 1 (bitOf q.unverified 4 + bitOf q.term 3 + bitOf q.noAck 2 + bitOf q.busFault 1 + bitOf fd 0) ++
    leBytes 2 (min 256 q.tec) ++ leBytes 1 (min 128 q.rec_) ++ leBytes 1 (q.inUse.getD 0xFF) ++ leBytes 4 r.1 ++
    leBytes 4 (if fd then r.2 else 0) ++ (q.bufs.map fun x => leBytes 1 x.state.code).flatten ++
    (q.bufs.map fun x => leBytes 1 x.cause).flatten ++ zeros 2 ++ leBytes 4 q.rxFrames ++ leBytes 4 q.txFrames ++
    leBytes 4 q.errors ++ leBytes 2 q.authFails ++ leBytes 2 q.duplicates ++ leBytes 2 q.piSkipped ++ leBytes 2 q.tpErrors

def canStatusSpec : CmdSpec :=
  { opcode := 0x0900, roles := .all, size := (· == 4), fields := ctlPayload false,
    body := fun c m => readFrom [.net] m (m.canStatus (getN c.data 0 1)) }

/-- CAN_STATUS (R385). -/
def execCanStatus (p : Packet) (s : State) : Host.Outcome State Fault Refusal := .next (submit canStatusSpec p s)

def readCanConfigSpec : CmdSpec :=
  { opcode := 0x0901, roles := .all, size := (· == 4), fields := ctlPayload false,
    body := fun c m => readFrom [.net] m (m.cfgEntry (canCfg (getN c.data 0 1)) 144) }

/-- READ_CAN_CONFIG (R385). -/
def execReadCanConfig (p : Packet) (s : State) : Host.Outcome State Fault Refusal := .next (submit readCanConfigSpec p s)

/-- CAN_MODE (R367): the order is taken at the next bus idle; NORMAL to a controller in bus-off starts recovery. -/
def canModeBody (c : Cmd) (m : ModuleState) : Result :=
  let i := getN c.data 0 1
  let mode := CanMode.ofCode (getN c.data 1 1)
  let q := m.ctl i
  if mode = .normal ∧ q.mode = .normal ∧ q.err = .active then refuse m stWrongState
  else { acts := [.net], m := m.setCtl i fun q =>
    { q with order := some mode, recovering := q.recovering || (mode == .normal && q.err == .busOff) } }

def canModeSpec : CmdSpec :=
  { opcode := 0x0902, roles := .only [.maintainer, .integrator], size := (· == 4), fields := ctlPayload true,
    body := canModeBody }

/-- CAN_MODE (R367). -/
def execCanMode (p : Packet) (s : State) : Host.Outcome State Fault Refusal := .next (submit canModeSpec p s)

/-- An identifier word without IDE is at most 0x7FF (R361, R385 Table 17). -/
def idInRange (id : Nat) : Bool := bit id 31 || id ≤ 0x7FF

/-- CAN_RX_BIND (R370, R373, R374): binds or unbinds an object and clears its frame, NEW, LOST and COUNT. -/
def canRxBindBody (c : Cmd) (m : ModuleState) : Result :=
  let i := c.idx / 128
  let o := c.idx % 64
  let id := getN c.data 0 4
  let fl := getN c.data 4 1
  if id ≠ 0xFFFFFFFF ∧ !idInRange id then refuse m stValueOutOfRange
  else if id ≠ 0xFFFFFFFF ∧ ((((m.ctl i).objs.eraseIdx o).any (·.bound == some id)) ∨ id = m.reqId i ∨ id = m.rspId i ∨
      id = m.piId i) then refuse m stWrongState
  else { acts := [.net], m := m.setCtl i fun q => { q with objs := upd q.objs o fun _ =>
    if id = 0xFFFFFFFF then {} else { bound := some id, secured := bit fl 1, dedup := bit fl 0 } } }

def canRxBindSpec : CmdSpec :=
  { opcode := 0x0903, kinds := [5], roles := .only [.operator, .maintainer, .integrator], size := (· == 8),
    present := fun _ _ i => !bit i 6,
    fields := fun b => (getN b 0 4 == 0xFFFFFFFF || bitsAt (getN b 0 4) 29 2 == 0) && getN b 4 1 < 4 && getN b 5 3 == 0,
    body := canRxBindBody }

/-- CAN_RX_BIND (R370). -/
def execCanRxBind (p : Packet) (s : State) : Host.Outcome State Fault Refusal := .next (submit canRxBindSpec p s)

/-- Receive object entry, 88 bytes (R385 Table 14). -/
def rxEntry (o : Nat) (x : RxObj) : List Byte :=
  let f := x.frame.getD {}
  leBytes 1 o ++ leBytes 1 (bitOf x.lost 7 + bitOf x.fresh 6 + bitOf f.fd 4 + bitOf f.brs 3 + bitOf x.secured 2 +
      bitOf x.dedup 1 + bitOf x.bound.isSome 0) ++
    leBytes 1 f.data.length ++ zeros 1 ++ leBytes 4 (x.bound.getD 0xFFFFFFFF) ++ leBytes 2 x.count ++ stampBytes x.stamp ++
    padTo 64 f.data ++ zeros 4

/-- CAN_RX_READ (R372): each entry holds one whole frame; CLEAR clears NEW and LOST of exactly the frames returned. -/
def canRxReadBody (c : Cmd) (m : ModuleState) : Result :=
  let i := getN c.data 0 1
  let fl := getN c.data 1 1
  let mask := getN c.data 4 8
  let q := m.ctl i
  let take := (List.range 64).filter fun o => bit mask o && (!bit fl 1 || (q.objs.getD o {}).fresh)
  let m1 := m.setCtl i fun q => { q with
    objs := take.foldl (fun l o => upd l o fun x => { x with fresh := false, lost := false }) q.objs }
  { needs := [.net], data := (take.map fun o => rxEntry o (q.objs.getD o {})).flatten, m := if bit fl 0 then m1 else m }

def canRxReadSpec : CmdSpec :=
  { opcode := 0x0904, roles := .all, size := (· == 12),
    fields := fun b => getN b 0 1 < 2 && getN b 1 1 < 4 && getN b 2 2 == 0, body := canRxReadBody }

/-- CAN_RX_READ (R372). -/
def execCanRxRead (p : Packet) (s : State) : Host.Outcome State Fault Refusal := .next (submit canRxReadSpec p s)

/-- Valid LEN of a frame to send (R385 Table 16). -/
def lenOk (fd : Bool) (n : Nat) : Bool := n ≤ 8 || (fd && [12, 16, 20, 24, 32, 48, 64].contains n)

/-- CAN_TX (R377, R379, R380): loads a buffer as PENDING, or WAITING for its LAUNCH. -/
def canTxBody (c : Cmd) (m : ModuleState) : Result :=
  let i := c.idx / 128
  let b := c.idx % 64
  let d := c.data
  let fl := getN d 0 1
  let n := getN d 2 1
  let fd := bit fl 2
  let id := getN d 4 4
  let atTime := bit fl 6
  let l := (getN d 8 6, getN d 14 4)
  let past := atTime && stampNs l ≤ stampNs m.stamp
  let x := (m.ctl i).buf b
  if !idInRange id || !lenOk fd n || (bit fl 4 && !(fd && n == 64)) || (bit fl 3 && !fd) || 15 < getN d 1 1 ||
      (atTime && !m.launchInRange l.1 l.2) then refuse m stValueOutOfRange
  else if bit fl 4 && !m.canSecure i then refuse m stKeyAbsent
  else if past && bit fl 7 then refuse m stLaunchPast
  else if !(m.ctl i).carries then refuse m stControllerSilent
  else if fd && !bit (m.canFlags i) 0 then refuse m stWrongState
  else if x.state = .waiting ∨ x.state = .pending then refuse m stTxBusy
  else
    let m1 := m.setCtl i fun q => { q with bufs := upd q.bufs b fun _ =>
      { state := .waiting, frame := { id, fd, brs := bit fl 3, data := (d.drop 20).take n }, retry := getN d 1 1,
        notify := bit fl 5, secured := bit fl 4, strict := bit fl 7, launch := if atTime then l else (0, 0) } }
    { status := if past then stExecutedLate else stOk, acts := [.net],
      m := if atTime && !past then m1 else m1.makePending i b past }

def canTxSpec : CmdSpec :=
  { opcode := 0x0905, kinds := [5], roles := .only [.operator, .maintainer], size := (· == 84),
    present := fun _ _ i => bit i 6 && i % 64 < 3,
    fields := fun b => getN b 0 1 % 4 == 0 && getN b 3 1 == 0 && bitsAt (getN b 4 4) 29 2 == 0 && getN b 14 4 < 2 ^ 30 &&
      (bit (getN b 0 1) 6 || getN b 8 10 == 0) && getN b 18 2 == 0 && leNat (b.drop (20 + getN b 2 1)) == 0,
    body := canTxBody }

/-- CAN_TX (R377). -/
def execCanTx (p : Packet) (s : State) : Host.Outcome State Fault Refusal := .next (submit canTxSpec p s)

/-- CAN_TX_ABORT (R378): a WAITING or PENDING buffer ends with cause HOST; an attempt on the bus finishes first. Whether the attempt of a
PENDING buffer that can be on the bus is there is a free value: the spec gives no row for the start of an attempt (log entry 14). -/
def canTxAbortBody (c : Cmd) (m : ModuleState) : Result :=
  let i := c.idx / 128
  let b := c.idx % 64
  match ((m.ctl i).buf b).state with
  | .waiting => { acts := [.net], m := m.abortBuf i b 1 }
  | .pending =>
    let (v, m1) := m.fresh
    { acts := [.net],
      m := if v % 2 = 1 ∧ m.offers i b then m1.setCtl i fun q => { q with bufs := upd q.bufs b fun x => { x with abortAsked := true } }
        else m1.abortBuf i b 1 }
  | _ => { acts := [.net], m }

def canTxAbortSpec : CmdSpec :=
  { opcode := 0x0906, kinds := [5], roles := .only [.operator, .maintainer], size := (· == 0),
    present := fun _ _ i => bit i 6 && i % 64 < 3, body := canTxAbortBody }

/-- CAN_TX_ABORT (R378). -/
def execCanTxAbort (p : Packet) (s : State) : Host.Outcome State Fault Refusal := .next (submit canTxAbortSpec p s)

/-! ### Losses -/

/-- A damaged frame of a receive object (R375): discarded, NEW cleared, LOST set. -/
def ModuleState.loseFrame (m : ModuleState) (c o : Nat) : ModuleState :=
  m.setCtl c fun q => { q with objs := upd q.objs o fun x => { x with frame := none, fresh := false, lost := true, stamp := (0, 0) } }

/-- A damaged binding (R375): the object is unbound, CAN_OBJECT_LOST logged. -/
def ModuleState.loseBinding (m : ModuleState) (c o : Nat) : ModuleState :=
  (m.setCtl c fun q => { q with objs := upd q.objs o fun _ => {} }).log evCanObjectLost tgModule [(c : Int), (o : Int)]

/-- What a restart of the network island leaves of a controller (R364, R370): OFF until bus integration; the termination
holds its state (R363). -/
def Can.restarted (q : Can) : Can :=
  { q with mode := .off, order := none, integrating := false, err := .active, tec := 0, rec_ := 0, recovering := false,
           noAck := false, noAckRun := 0, busFault := false, candidate := none, goodRun := 0, brsSeen := false,
           unverified := false, objs := List.replicate 64 {}, bufs := List.replicate 3 {}, tpBuf := none, tpBufFc := false, tpSince := 0, piSince := 0, idleAt := 0,
           fcPend := none, piBuf := none, tpRx := none, tpTx := none, tpWait := [] }

end Sys2Proof.Machine
end

