-- ==== Sys2Proof/Machine/Eth.lean ====
section
/-! DEFINITION. Ethernet ports and switch (chapter 13): frames on the switch R391 to R394, the module's own frames R393, the raw-frame
rings R396 to R400, and the commands R401. The switch itself stands in Switch.lean, TRDP process data (R395) in Image.lean. -/

namespace Sys2Proof.Machine

/-! ### Ports -/

/-- A saturating port counter raised, with COUNTER_SATURATED (R9, R401): RX_ERRORS at offset 12 of its entry, DROPS at 16. -/
def ModuleState.portError (m : ModuleState) (port : Nat) (drop : Bool) : ModuleState :=
  let q := m.eth.port port
  (m.setEth fun e => e.setPort port fun x =>
    if drop then { x with drops := sat max32 x.drops } else { x with rxErrors := sat max32 x.rxErrors }).saturated max32
      (if drop then q.drops else q.rxErrors) tgModule 0x0A00 (24 + 24 * port + (if drop then 16 else 12))

/-- A frame sent on egress ports, as it leaves each (R390), with COUNTER_SATURATED of their DROPS (R9). -/
def ModuleState.sendFrame (m : ModuleState) (vid : Nat) (ports : List Nat) (f : Nat → SwFrame) : ModuleState :=
  let e := m.putOn m.eth vid ports f
  (m.setEth fun _ => e).each [0, 1] fun n p =>
    n.logIf ((m.eth.port p).drops + 1 == max32 && (e.port p).drops == max32) evCounterSaturated tgModule [0, 0x0A00, ((40 + 24 * p : Nat) : Int)]

/-- A frame the module sends in HOST_VID with a priority (R393), through the switch. -/
def ModuleState.sendOwn (m : ModuleState) (pcp : Nat) (body : List Byte) : ModuleState := m.setEth fun e => m.ownFrame e pcp body

/-- Times of a thing that happens now, of the last second. -/
def lastSecond (l : List Nat) (now : Nat) : List Nat := (l.filter fun t => now < t + seconds 1) ++ [now]

/-! ### Transparent clock -/

/-- UDP checksum of an IPv4 datagram formed anew, when it carries one (R394). -/
def fixUdp (b : List Byte) : List Byte :=
  let u := 14 + bitsAt (getN b 14 1) 0 4 * 4
  if beN b (u + 6) 2 = 0 then b
  else
    let len := beN b (u + 4) 2
    let b0 := patch b (u + 6) [0, 0]
    let pseudo := (b0.drop 26).take 8 ++ beBytes 2 17 ++ beBytes 2 len ++ (b0.drop u).take len
    patch b0 (u + 6) (beBytes 2 (if inetSum pseudo = 0 then 0xFFFF else inetSum pseudo))

/-- correctionField of a PTP message raised by a residence time in ns (IEEE 1588: units of 2^-16 ns). -/
def addCorrection (f : SwFrame) (off ns : Nat) : SwFrame :=
  let c := (beN f.body (off + 8) 8 + ns * 65536) % 2 ^ 64
  let b := patch f.body (off + 8) (beBytes 8 c)
  { f with body := if f.etherType = 0x0800 then fixUdp b else b }

/-- Domain, source port identity and sequence of a PTP message. -/
def ptpKey (f : SwFrame) (off : Nat) : List Byte := (f.body.drop (off + 4)).take 1 ++ (f.body.drop (off + 20)).take 12

/-- Message type of a PTP frame, and where its header stands. -/
def SwFrame.ptpKind (f : SwFrame) : Option (Nat × Nat) := (ptpOffset f).map fun off => (bitsAt (getN f.body off 1) 0 4, off)

/-- A Sync whose residence time goes into its Follow_Up (R394). -/
def SwFrame.twoStep (f : SwFrame) (off : Nat) : Bool := bit (getN f.body (off + 6) 1) 1

/-- A frame as it leaves a port of the transparent clock after its residence time (R394): a one-step Sync and a Delay_Req take it, a Follow_Up
takes that of its Sync. -/
def Eth.corrected (e : Eth) (residence : Nat) (port : Nat) (f : SwFrame) : SwFrame :=
  match f.ptpKind with
  | some (0, off) => if f.twoStep off then f else addCorrection f off residence
  | some (1, off) => addCorrection f off residence
  | some (8, off) =>
    match e.residence.find? fun x => x.1 == ptpKey f off && x.2.1 == port with
    | some x => addCorrection f off x.2.2
    | none => f
  | _ => f

/-! ### The module's own frames -/

/-- The answer to an ARP request for IP_ADDR (R393, RFC 826). -/
def ModuleState.arpReply (m : ModuleState) (f : SwFrame) : ModuleState :=
  let own := leBytes 6 Config.macBase
  let sender := (f.body.drop 22).take 10
  if beN f.body 20 2 = 1 ∧ (f.body.drop 38).take 4 = m.ipBytes then
    m.sendOwn m.cmdPcp (sender.take 6 ++ own ++ beBytes 2 0x0806 ++ (f.body.drop 14).take 6 ++ beBytes 2 2 ++ own ++ m.ipBytes ++ sender ++
      zeros 18)
  else m

/-- The answer to an ICMP echo request to IP_ADDR (R393, RFC 792). -/
def ModuleState.echoReply (m : ModuleState) (f : SwFrame) : ModuleState :=
  let own := leBytes 6 Config.macBase
  let u := 14 + bitsAt (getN f.body 14 1) 0 4 * 4
  let len := beN f.body 16 2
  let icmp := (f.body.drop u).take (len + 14 - u)
  let data := patch (patch icmp 0 [0]) 2 [0, 0]
  let ip := patch (patch ((f.body.drop 14).take (u - 14)) 12 (m.ipBytes ++ (f.body.drop 26).take 4)) 10 [0, 0]
  if getN f.body u 1 = 8 ∧ (f.body.drop 30).take 4 = m.ipBytes then
    let b := (f.body.drop 6).take 6 ++ own ++ beBytes 2 0x0800 ++ patch ip 10 (beBytes 2 (inetSum ip)) ++
      patch data 2 (beBytes 2 (inetSum data))
    m.sendOwn m.cmdPcp (b ++ zeros (60 - b.length))
  else m

/-- Key of an IPv4 fragment: source address and identification. -/
def SwFrame.fragKey (f : SwFrame) : Nat × Nat := (getN f.body 26 4, beN f.body 18 2)

/-- A fragment of a UDP datagram to the command port (R319): the first one, or a later one of a reassembly in progress (log entry 88). -/
def ModuleState.takesFragment (m : ModuleState) (f : SwFrame) : Bool :=
  let u := 14 + bitsAt (getN f.body 14 1) 0 4 * 4
  let field := beN f.body 20 2 % 2 ^ 14
  f.etherType == 0x0800 && getN f.body 23 1 == 17 && field != 0 && bit m.ethFlags 0 && (f.body.drop 30).take 4 == m.ipBytes &&
    ((field % 2 ^ 13 == 0 && beN f.body (u + 2) 2 == 19788) || m.eth.reasm.any (·.key == f.fragKey))

/-- A fragment taken into its reassembly (R319): eight in progress at most, IP length 4 124 at most. -/
def ModuleState.takeFragment (m : ModuleState) (f : SwFrame) : ModuleState :=
  let hdr := bitsAt (getN f.body 14 1) 0 4 * 4
  let off := beN f.body 20 2 % 2 ^ 13 * 8
  let data := (f.body.drop (14 + hdr)).take (beN f.body 16 2 - hdr)
  m.setEth fun e =>
    if 4124 < off + beN f.body 16 2 then { e with reasm := e.reasm.filter (·.key != f.fragKey) }
    else if e.reasm.any (·.key == f.fragKey) then
      { e with reasm := updIf e.reasm (·.key == f.fragKey) fun x => { x with parts := x.parts ++ [(off, data)] } }
    else if 8 ≤ e.reasm.length then e
    else { e with reasm := e.reasm ++ [{ key := f.fragKey, parts := [(off, data)], since := m.now }] }

/-- The multicast groups the module uses (R393): those of IEEE 1588 for Ethernet and for IPv4 (log entry 35). -/
def ptpGroups : List Nat := [0x000000191B01, 0x8101005E0001]

/-- A frame at the host port that the module consumes (R393): ARP, ICMP echo requests, UDP commands, PTP. -/
def ModuleState.consumes (m : ModuleState) (vid : Nat) (f : SwFrame) : Bool :=
  let u := 14 + bitsAt (getN f.body 14 1) 0 4 * 4
  let udp := f.etherType == 0x0800 && getN f.body 23 1 == 17 && beN f.body 20 2 % 2 ^ 13 == 0
  let port := beN f.body (u + 2) 2
  let ptpUdp := m.cfg 2701 1 == 1
  vid == m.hostVid &&
    ((f.dst == Config.macBase || f.dst == 2 ^ 48 - 1) && (m.takesFragment f || (f.etherType == 0x0806 && beN f.body 20 2 ≤ 2 && (f.body.drop 38).take 4 == m.ipBytes) ||
     (f.etherType == 0x0800 && getN f.body 23 1 == 1 && getN f.body u 1 == 8 && (f.body.drop 30).take 4 == m.ipBytes) ||
     (udp && port == 19788 && bit m.ethFlags 0)) ||
     (f.dst == Config.macBase || f.dst == 2 ^ 48 - 1 || ptpGroups.contains f.dst) && (if ptpUdp then udp && (port == 319 || port == 320) else f.etherType == 0x88F7))

/-! ### Raw-frame rings -/

/-- Address of a ring's next descriptor. -/
def EthRing.addr (r : EthRing) : Nat := r.base + 32 * r.next

/-- A ring moved on by one descriptor (R399). -/
def EthRing.advance (r : EthRing) : EthRing := { r with next := if r.count ≤ r.next + 1 then 0 else r.next + 1, told := r.told - 1 }

/-- HW_IRQ_STATUS ETH_RING set (R399). -/
def ModuleState.ringIrq (m : ModuleState) (b : Bool) : ModuleState := { m with host := if b then m.host.raise 7 else m.host }

/-- CTRL_STATUS at completion (R398): OWN cleared, RESULT set, the rest kept. -/
def doneCtrl (ctrl result : Nat) : Nat := ctrl % 2 ^ 31 / 2 ^ 24 * 2 ^ 24 + result * 65536 + ctrl % 65536

/-- What lies in a ring's descriptor (R395 Table 3): CTRL_STATUS, BUF_ADDR, LENGTH. -/
def Memory.ringDesc (mem : Memory) (a : Nat) : Nat × Nat × Nat :=
  (leNat (mem.bytes a 4), leNat (mem.bytes (a + 4) 4), leNat (mem.bytes (a + 8) 2))

/-- A buffer lies inside the window, on a multiple of 4 (Table 4). -/
def bufOk (addr len : Nat) : Bool := addr % 4 == 0 && addr + len ≤ 0x40000

/-- A failed or finished descriptor noted (R398): ETH_DESC_ERROR for a failure, ETH_RING with IRQ. -/
def ModuleState.descDone (m : ModuleState) (ring index ctrl result : Nat) : ModuleState :=
  (m.logIf (result != 0) evEthDescError tgModule [(ring : Int), (index : Int), (result : Int)]).ringIrq (bit ctrl 7)

/-- A frame for the receive ring (R396, R398, R399): stored in the next descriptor's buffer, or dropped and counted when the
module does not own that descriptor; a stopped ring takes none. -/
def ringReceive (sof : Nat) (f : SwFrame) (x : ModuleState × Memory) : ModuleState × Memory :=
  let (m, mem) := x
  let r := m.eth.rx
  if r.count = 0 then x
  else
    let (ctrl, addr, len) := mem.ringDesc r.addr
    if r.idle || !bit ctrl 31 then
      let say : Bool := (m.eth.noDescAt.map fun t => decide (t + seconds 1 ≤ m.now)).getD true
      let m1 := (m.setEth fun e => { e with
        rx := { e.rx with idle := true }, noDesc := lastSecond e.noDesc m.now
        noDescAt := if say then some m.now else e.noDescAt }).portError 2 false
      ((m1.logIf say evEthRxNoDesc tgModule [((lastSecond m.eth.noDesc m.now).length : Int)]).ringIrq true, mem)
    else
      let n := f.body.length
      let result := if !bufOk addr len then 3 else if len < n then 4 else 0
      let mem1 := if result = 3 then mem else mem.store addr (f.body.take len)
      let mem2 := ((mem1.store (r.addr + 16) (stampBytes (m.time.stamp sof))).store (r.addr + 10) (leBytes 2 n)).store (r.addr + 12)
        (leBytes 2 f.tci)
      let m0 := ((if result = 3 then m else m.mend addr (min len n)).mend (r.addr + 16) 10).mend r.addr 4
      let m1 := m0.setEth fun e => { e with rx := e.rx.advance }
      (m1.descDone 1 r.next ctrl result, mem2.store r.addr (leBytes 4 (doneCtrl ctrl result)))

/-- A frame given to the host port (R391, R393): broadcasts and multicasts beyond 10 000 in a second are dropped; a frame the
module consumes is answered by its own protocol, or is a packet or PTP message of a row of its own; others go to the receive
ring when their EtherType is listed. -/
def hostReceive (sof vid : Nat) (f : SwFrame) (x : ModuleState × Memory) : ModuleState × Memory :=
  let (m, mem) := x
  let window := if m.now < m.eth.storm.2 + seconds 1 then m.eth.storm else (0, m.now)
  if f.group && 10000 ≤ window.1 then
    let say : Bool := (m.eth.stormAt.map fun t => decide (t + seconds 1 ≤ m.now)).getD true
    let m1 := (m.setEth fun e => { e with
      stormDrops := lastSecond e.stormDrops m.now, stormAt := if say then some m.now else e.stormAt }).portError 2 true
    (m1.logIf say evEthStormDrop tgModule [((lastSecond m.eth.stormDrops m.now).length : Int)], mem)
  else
    let m1 := m.setEth fun e => { e.setPort 2 (fun q => { q with tx := (q.tx + 1) % 2 ^ 32 }) with
      storm := if f.group then (window.1 + 1, window.2) else window }
    if m.consumes vid f then
      (if m1.takesFragment f then m1.takeFragment f
       else if f.etherType = 0x0806 then m1.arpReply f
       else if f.etherType = 0x0800 ∧ getN f.body 23 1 = 1 then m1.echoReply f
       else m1, mem)
    else if bit m.ethFlags 3 && (m.cfg (ethCfg + 32) 2 == 0xFFFF ||
        (f.etherType != 0 && [32, 34, 36, 38].any fun o => m.cfg (ethCfg + o) 2 == f.etherType)) then
      ringReceive sof f (m1, mem)
    else (m1, mem)

/-- A frame sent on by the switch (R390, R394): to ETH1 and ETH2 as it leaves each, to the host port with its reception. -/
def forward (vid sof : Nat) (ports : List Nat) (residence : Nat → Nat) (f : SwFrame) (x : ModuleState × Memory) : ModuleState × Memory :=
  let (m, mem) := x
  let e := m.eth
  let m1 := m.sendFrame vid (ports.filter (· != 2)) fun p => e.corrected (residence p) p f
  if ports.contains 2 then hostReceive sof vid (e.corrected (residence 2) 2 f) (m1, mem) else (m1, mem)

/-- A frame taken into the switch at a port (R390): filtered by VLAN, its source learned, sent on. The residence time of an event message is
the one measured for ETH1 and ETH2, or a free value where the row brings none (R394; log entry 163); a two-step Sync leaves it to its Follow_Up, and
a Follow_Up waits for it. -/
def switchFrame (ingress sof : Nat) (residence : Option Nat) (b : List Byte) (x : ModuleState × Memory) : ModuleState × Memory :=
  let (m, mem) := x
  let f := readFrame b
  let vid := if f.tci % 4096 = 0 then m.pvid ingress else f.tci % 4096
  if !bit (m.vlan vid).1 ingress then (if ingress = 2 then m else m.portError ingress true, mem)
  else
    let m1 := m.setEth fun e => e.learn m.now vid f.src ingress
    let ports := m1.egressPorts vid ingress f
    let took : Nat → Nat := fun p => if p = 2 then Config.freeValue m.free else residence.getD (Config.freeValue (m.free + 1 + p))
    let m2 := if f.ptpEvent then { m1 with free := m1.free + 3 } else m1
    match f.ptpKind with
    | some (0, off) =>
      if f.twoStep off then
        let key := ptpKey f off
        let m3 := m2.setEth fun e => { e with residence := (e.residence.filter (·.1 != key)) ++ ports.map fun p => (key, p, took p) }
        let y := forward vid sof ports took f (m3, mem)
        let late := y.1.eth.followUps.filter (·.key == key)
        let z := late.foldl (fun z h =>
          let g : SwFrame := { tci := h.tci, tagged := true, body := h.body }
          forward h.vid sof (z.1.egressPorts h.vid h.ingress g) (fun _ => 0) g z) y
        if late.isEmpty then y
        else (z.1.setEth fun e => { e with followUps := e.followUps.filter (·.key != key), residence := e.residence.filter (·.1 != key) }, z.2)
      else forward vid sof ports took f (m2, mem)
    | some (8, off) =>
      let key := ptpKey f off
      if m2.eth.residence.any (·.1 == key) then
        let y := forward vid sof ports took f (m2, mem)
        (y.1.setEth fun e => { e with residence := e.residence.filter (·.1 != key) }, y.2)
      else
        (m2.setEth fun e => { e with followUps :=
          (e.followUps.filter (·.key != key)) ++ [{ key, vid, ingress, tci := f.tci, body := f.body }] }, mem)
    | _ => forward vid sof ports took f (m2, mem)

/-- The transmit descriptor at the ring's index read, and those that fail completed, until a frame is in sending or OWN is
clear (R396, R398, R399); no descriptor is read that no DOORBELL write has told of. -/
def fetchTx : Nat → ModuleState × Memory → ModuleState × Memory
  | 0, x => x
  | n + 1, x =>
    let (m, mem) := x
    let r := m.eth.tx
    let (ctrl, addr, len) := mem.ringDesc r.addr
    if r.count = 0 || r.sending.isSome then x
    else if r.told = 0 || !bit ctrl 31 then (m.setEth fun e => { e with tx := { e.tx with idle := true } }, mem)
    else
      let port := bitsAt ctrl 4 2
      let linked := if port = 1 then m.eth.port1.link else if port = 2 then m.eth.port2.link
        else m.eth.port1.link || m.eth.port2.link
      let bad : Bool := m.host.damaged.any fun a => addr ≤ a + 3 && a < addr + len
      let result := if len < 14 ∨ 1518 < len then 2 else if !bufOk addr len then 3 else if bad then 5 else if !linked then 1 else 0
      if result = 0 then
        let b := mem.bytes addr len
        (m.setEth fun e => { e with tx := { e.tx with idle := false, sending := some (ctrl, b ++ zeros (60 - b.length)) } }, mem)
      else
        let m1 := (m.mend r.addr 4).setEth fun e => { e with tx := { e.tx.advance with idle := false } }
        fetchTx n (m1.descDone 0 r.next ctrl result, mem.store r.addr (leBytes 4 (doneCtrl ctrl result)))

/-- A happening that changes the module and the memory. -/
def State.both (t : Nat) (f : ModuleState × Memory → ModuleState × Memory) (s : State) : State :=
  let x := f ({ s.m with now := max s.m.now t }, s.mem)
  { s with m := x.1, mem := x.2 }

/-- The network island forwards and serves rings (R392). -/
def ModuleState.ethRuns (m : ModuleState) : Bool := m.runs isNetwork && m.eth.configured

/-! ### Events -/

/-- A port's mode allows a link at a speed with flags (R388): AUTO any, AUTO_100_MAX up to 100 Mbit/s, FIXED_100_FULL and FIXED_10_FULL one
each, in full duplex; DISABLED none. Before the configuration is loaded no mode holds it. -/
def ModuleState.linkAllowed (m : ModuleState) (eport speed flags : Nat) : Bool :=
  1 ≤ speed && speed ≤ 3 && flags < 4 &&
    (!m.eth.configured || match m.cfg (ethCfg + 1 + eport) 1 with
      | 0 => true
      | 1 => speed ≤ 2
      | 2 => speed == 2 && bit flags 0
      | 3 => speed == 1 && bit flags 0
      | _ => false)

/-- ETH_LINK_CHANGE (R387): a port's link goes up, as its mode allows, or down, and what waits for it is gone. -/
def execEthLinkChange (t eport : Nat) (up : Bool) (speed flags : Nat) (s : State) : Host.Outcome State Fault Refusal :=
  happen (eport < 2) t (fun m =>
    let on := up && m.linkAllowed eport speed flags && m.runs isNetwork
    let sp := if on then speed else 0
    (m.setEth fun e => ({ e.served m.now with queued := (e.served m.now).queued.filter fun x => on || x.port != eport }).setPort eport fun x => { x with link := on, speed := sp, flags := if on then flags else 0 }).logIf
      ((m.eth.port eport).link != on) evEthLink tgModule [(eport : Int), flagItem on, (sp : Int)]) s

/-- ETH_FRAME_RECEIVED (R390, R392): a frame without FCS received on ETH1 or ETH2, its start-of-frame bit at sof, its time in
the switch if it is sent on; a frame with a wrong FCS counts in RX_ERRORS. From 50 ms after VCTL until the configuration is loaded frames pass
unchanged; a power-on reset ends 10 ms after VCTL (R567 Table 1). -/
def execEthFrameReceived (t eport sof residence : Nat) (good : Bool) (frame : List Byte) (s : State) :
    Host.Outcome State Fault Refusal :=
  if eport < 2 then .next (s.both t fun x =>
    let (m, mem) := x
    if !m.runs isNetwork || !(m.eth.port eport).link then x
    else if !good then (m.portError eport false, mem)
    else
      let m1 := m.setEth fun e => e.setPort eport fun q => { q with rx := (q.rx + 1) % 2 ^ 32 }
      if m.eth.configured then switchFrame eport sof (some residence) frame (m1, mem)
      else
        let other := 1 - eport
        let early : Bool := [1, 2].contains m.reset.cause && !m.due m.reset.resetEndAt (ms 40)
        (if (m.eth.port other).link && !early then m1.setEth fun e => (e.served m.now).put m.now other (readFrame frame).queue frame else m1, mem))
  else .fault .noSuchObject

/-- ETH_ADDRESS_AGED (R390): a learned address not seen for AGE_TIME goes. -/
def execEthAddressAged (t vid mac : Nat) (s : State) : Host.Outcome State Fault Refusal :=
  happen true t (fun m => m.setEth fun e => { e with learned := e.learned.filter fun x =>
    !(x.vid == vid && x.mac == mac && m.due x.seen (seconds (m.cfg (ethCfg + 72) 2))) }) s

/-- ETH_TX_COMPLETE (R397 to R400): the frame in sending has left, its start-of-frame bit at sof; its descriptor is written
back; a stop ordered takes effect; the next descriptor is read. -/
def execEthTxComplete (t sof : Nat) (s : State) : Host.Outcome State Fault Refusal :=
  .next (s.both t fun x =>
    let (m, mem) := x
    match m.eth.tx.sending with
    | none => x
    | some (ctrl, b) =>
      let r := m.eth.tx
      let (v, mf) := m.fresh
      let port := if bitsAt ctrl 4 2 = 3 then v % 3 else bitsAt ctrl 4 2
      let m0 := if bitsAt ctrl 4 2 = 3 then mf else m
      let m1 := m0.setEth fun e => { e.setPort 2 (fun q => { q with rx := (q.rx + 1) % 2 ^ 32 }) with tx := { e.tx with sending := none } }
      let y := if port = 0 then switchFrame 2 sof none b (m1, mem)
        else
          let f := readFrame b
          let vid := if f.tci % 4096 = 0 then m.hostVid else f.tci % 4096
          (if bit (m.vlan vid).1 2 && bit (m.vlan vid).1 (port - 1) then m1.sendFrame vid [port - 1] fun _ => f else m1, mem)
      let mem1 := if bit ctrl 6 then y.2.store (r.addr + 16) (stampBytes (m.time.stamp sof)) else y.2
      let mem2 := mem1.store r.addr (leBytes 4 (doneCtrl ctrl 0))
      let m2 := (((if bit ctrl 6 then y.1.mend (r.addr + 16) 10 else y.1).mend r.addr 4).setEth fun e => { e with tx := e.tx.advance }).descDone 0 r.next ctrl 0
      if r.stopping.isEmpty then fetchTx 256 (m2, mem2)
      else ((m2.setEth fun e => { e with tx := {} }).each r.stopping fun m ref => m.settle ref none none, mem2))

/-- How many descriptors of a ring from its next one on are module-owned, of so many. -/
def Memory.owned (mem : Memory) : Nat → EthRing → Nat
  | 0, _ => 0
  | n + 1, r => if bit (mem.ringDesc r.addr).1 31 then mem.owned n r.advance + 1 else 0

/-- DOORBELL_ETH_TX (R323, R399): the transmit ring may read the descriptors now module-owned; an idle one reads its next descriptor again. -/
def execDoorbellEthTx (t : Nat) (s : State) : Host.Outcome State Fault Refusal :=
  .next (s.both t fun x =>
    let (m, mem) := x
    if !m.windowOpen || !m.ethRuns then x
    else
      let m1 := m.setEth fun e => { e with tx := { e.tx with told := mem.owned e.tx.count e.tx } }
      if m.eth.tx.idle then fetchTx 257 (m1, mem) else (m1, mem))

/-- DOORBELL_ETH_RX (R323, R399): the receive ring reads its next descriptor again. -/
def execDoorbellEthRx (t : Nat) (s : State) : Host.Outcome State Fault Refusal :=
  happen true t (fun m => if m.windowOpen then m.setEth fun e => { e with rx := { e.rx with idle := false } } else m) s

/-! ### Commands -/

/-- Port status entry, 24 bytes (R401 Table 10). -/
def EthPort.entry (q : EthPort) (port : Nat) : List Byte :=
  leBytes 1 port ++ leBytes 1 (bitOf q.link 0) ++ leBytes 1 q.speed ++ leBytes 1 q.flags ++ leBytes 4 q.rx ++ leBytes 4 q.tx ++
    leBytes 4 q.rxErrors ++ leBytes 4 q.drops ++ zeros 4

/-- NEXT index of a ring, 0xFFFF when stopped (R401 Table 9). -/
def EthRing.shown (r : EthRing) : Nat := if r.count = 0 then 0xFFFF else r.next

/-- ETH_STATUS reply (R401 Table 9): the counters with what has left until now. -/
def ModuleState.ethStatus (m : ModuleState) : List Byte :=
  let e := m.eth.served m.now
  leBytes 6 Config.macBase ++ leBytes 4 m.eth.etbTopo ++ leBytes 4 m.eth.opTopo ++ leBytes 4 m.eth.pdSeq ++
    leBytes 2 m.eth.tx.shown ++ leBytes 2 m.eth.rx.shown ++ e.port1.entry 0 ++ e.port2.entry 1 ++ e.portH.entry 2

def ethStatusSpec : CmdSpec :=
  { opcode := 0x0A00, roles := .all, size := (· == 0), body := fun _ m => readFrom [.net] m m.ethStatus }

/-- ETH_STATUS (R401). -/
def execEthStatus (p : Packet) (s : State) : Host.Outcome State Fault Refusal := .next (submit ethStatusSpec p s)

def readEthConfigSpec : CmdSpec :=
  { opcode := 0x0A01, roles := .all, size := (· == 0), body := fun _ m => readFrom [.net] m (m.cfgEntry ethCfg 96) }

/-- READ_ETH_CONFIG (R401). -/
def execReadEthConfig (p : Packet) (s : State) : Host.Outcome State Fault Refusal := .next (submit readEthConfigSpec p s)

/-- ETH_RING_SET (R400): defines a ring, or stops it at the next descriptor boundary with the reply after the stop. -/
def ethRingSetBody (c : Cmd) (m : ModuleState) : Result :=
  let ring := getN c.data 0 1
  let count := getN c.data 2 2
  let base := getN c.data 4 4
  let r := if ring = 0 then m.eth.tx else m.eth.rx
  if 256 < count ∨ base % 32 ≠ 0 ∨ 0x40000 < base + 32 * count then refuse m stValueOutOfRange
  else if count ≠ 0 ∧ r.count ≠ 0 then refuse m stWrongState
  else if count = 0 ∧ r.sending.isSome then
    { acts := [.net], wait := true,
      m := m.setEth fun e => { e with tx := { e.tx with stopping := e.tx.stopping ++ [c.ref] } } }
  else
    let new : EthRing := if count = 0 then {} else { base, count, idle := ring == 0 }
    { acts := [.net], m := m.setEth fun e => if ring = 0 then { e with tx := new } else { e with rx := new } }

def ethRingSetSpec : CmdSpec :=
  { opcode := 0x0A02, roles := .only [.operator, .maintainer], size := (· == 8),
    fields := fun b => getN b 0 1 < 2 && getN b 1 1 == 0, body := ethRingSetBody }

/-- ETH_RING_SET (R400). -/
def execEthRingSet (p : Packet) (s : State) : Host.Outcome State Fault Refusal := .next (submit ethRingSetSpec p s)

def ethTopoSetSpec : CmdSpec :=
  { opcode := 0x0A03, roles := .only [.operator, .maintainer], size := (· == 8),
    body := fun c m =>
      { acts := [.net], m := m.setEth fun e => { e with etbTopo := getN c.data 0 4, opTopo := getN c.data 4 4 } } }

/-- ETH_TOPO_SET (R395). -/
def execEthTopoSet (p : Packet) (s : State) : Host.Outcome State Fault Refusal := .next (submit ethTopoSetSpec p s)

/-- What a restart of the network island leaves of the Ethernet part (R392, R400): rings and what waits on the ports lost, nothing learned. -/
def Eth.restarted (e : Eth) : Eth :=
  { e with tx := {}, rx := {}, learned := [], storm := (0, 0), pd := none, reasm := [], residence := [], followUps := [], queued := [],
           port1 := { e.port1 with link := false, speed := 0, flags := 0 },
           port2 := { e.port2 with link := false, speed := 0, flags := 0 } }

end Sys2Proof.Machine
end

