-- ==== Sys2Proof/Machine/Records.lean ====
section
/-! DEFINITION. Records as stored (R425 to R439), the regions a readout reads, and its next chunk (R451). -/

namespace Sys2Proof.Machine

/-! ### Keys -/

/-- A key from its 16 bytes (R425), without UNIT. -/
def readKey (b : List Byte) : Key := { op := getN b 0 6, cycle := getN b 6 4, seq := getN b 10 4 }

/-- A key comes before another, or is it (R429). -/
def Key.le (a b : Key) : Bool :=
  a.op < b.op || (a.op == b.op && (a.cycle < b.cycle || (a.cycle == b.cycle && 0 ≤ signed 32 ((b.seq + 2 ^ 32 - a.seq) % 2 ^ 32))))

/-! ### Records as bytes -/

/-- Bytes with their CRC-32 behind them (R434). -/
def withCrc (b : List Byte) : List Byte := b ++ leBytes 4 (crc32 b)

/-- A span in ms between two optional instants, 0 when one is missing, saturating at 16 bits. -/
def spanMs (a b : Option Nat) (unit : Nat) : Nat :=
  match a, b with
  | some x, some y => min max16 ((y - x) / unit)
  | _, _ => 0

/-- A cycle record, 64 bytes (R433 Table 4). -/
def ModuleState.cycleBytes (m : ModuleState) (k : Key) (damaged : Bool) (portal slot : Nat) (c : CycleSummary) (time : Nat × Nat)
    (quality nowMs : Nat) (temp : Int) : List Byte :=
  if damaged then withCrc (m.keyBytes k ++ zeros 26 ++ leBytes 1 0x80 ++ zeros 17)
  else
    let start := match c.startKey with
      | some x => m.keyBytes { op := x.1, cycle := x.2.1, seq := x.2.2 }
      | none => leBytes 16 (Config.lostKey (c.startNo.getD 0)).toNat
    withCrc (m.keyBytes k ++ start ++ stampBytes time ++
      leBytes 1 (bitOf c.fromField 6 + bitOf c.reduced 5 + bitOf c.homing 4 + quality) ++ leBytes 1 (slot * 16 + portal) ++
      leBytes 2 (spanMs c.startMs c.openMs 1) ++ leBytes 2 (spanMs c.openMs c.closingMs 100) ++ leBytes 2 (spanMs c.closingMs c.lockingMs 1) ++
      leBytes 2 (spanMs c.lockingMs (some nowMs) 1) ++ leInt 2 c.peakForce ++ leBytes 1 c.obstacles ++ leBytes 1 (min 255 (c.minVdrv / 10)) ++
      leBytes 2 (min max16 c.energy) ++ leInt 1 temp ++ zeros 1)

/-- An event record, 64 bytes (R435 Table 5). -/
def ModuleState.eventBytes (m : ModuleState) (k : Key) (damaged : Bool) (e : Event) (part : Nat) : List Byte :=
  if damaged then withCrc (m.keyBytes k ++ zeros 10 ++ leBytes 1 0x80 ++ zeros 1 ++ leBytes 2 e.code ++ zeros 30)
  else
    let d := ((Config.eventData e.code e.items).drop (28 * part)).take 28
    withCrc (m.keyBytes k ++ stampBytes e.time ++ leBytes 1 (bitOf e.critical 6 + bitOf (0 < part) 5 + e.quality) ++ leBytes 1 d.length ++
      leBytes 2 e.code ++ leBytes 2 e.source ++ padTo 28 d)

/-- A trace record (R437 Table 7). -/
def ModuleState.traceBytes (m : ModuleState) (k : Key) (damaged : Bool) (portal : Nat) (cycleKey : Key) (spacing samples : Nat)
    (body : List Byte) (truncated : Bool) : List Byte :=
  if damaged then withCrc (m.keyBytes k ++ zeros 17 ++ leBytes 1 0x80 ++ zeros 4 ++ leBytes 2 44)
  else
    withCrc (m.keyBytes k ++ m.keyBytes cycleKey ++ leBytes 1 portal ++ leBytes 1 (bitOf truncated 6) ++ leBytes 1 spacing ++ zeros 1 ++
      leBytes 2 samples ++ leBytes 2 (44 + body.length) ++ body)

/-- A record as written. -/
def ModuleState.writtenBytes (m : ModuleState) (r : Rec) : List Byte :=
  match r.body with
  | .event e part => m.eventBytes r.key r.damaged e part
  | .cycle p slot c time q now temp => m.cycleBytes r.key r.damaged p slot c time q now temp
  | .trace p ck sp n body tr => m.traceBytes r.key r.damaged p ck sp n body tr
  | .snapshot _ _ => []

/-- As many bytes as a record has, from a page that cannot be read (R430): free, but that the record fails its CRC. -/
def spoiltBytes (n seq len : Nat) : List Byte :=
  let body := (List.range (len - 4)).map (Config.pageByte n seq)
  let crc := crc32 body
  let stored := getN ((List.range 4).map fun k => Config.pageByte n seq (len - 4 + k)) 0 4
  body ++ leBytes 4 (if stored = crc then (crc + 1) % 2 ^ 32 else stored)

/-- A record as stored: a page that cannot be read is delivered as it stands, and its records fail their CRC (R430). -/
def ModuleState.recBytes (m : ModuleState) (r : Rec) : List Byte :=
  match r.unread with
  | some n => spoiltBytes n r.key.seq (m.writtenBytes r).length
  | none => m.writtenBytes r

/-- Bytes of a snapshot (R439): the header, then the axis blocks. -/
def Snapshot.bytes (s : Snapshot) : List Byte := s.header ++ (s.blocks.map fun b => (b.map fun x => x.flatMap wordBytes).flatten).flatten

/-- The recorder with part of it changed. -/
def ModuleState.setRec (m : ModuleState) (f : Recorder → Recorder) : ModuleState := { m with recd := f m.recd }

/-- Kind of a record in RECORD_DAMAGED (log entry 62). -/
def RecordBody.kind : RecordBody → Nat
  | .cycle .. => 0 | .trace .. => 1 | .event .. => 2 | .snapshot .. => 3

/-- The running readout changed. -/
def ModuleState.setReadout (m : ModuleState) (f : Readout → Readout) : ModuleState := m.setRec fun r => { r with readout := r.readout.map f }

/-- An event record. -/
def Rec.isEvent (r : Rec) : Bool := match r.body with
  | .event _ _ => true
  | _ => false
/-- A cycle record. -/
def Rec.isCycle (r : Rec) : Bool := match r.body with
  | .cycle .. => true
  | _ => false
/-- A trace record. -/
def Rec.isTrace (r : Rec) : Bool := match r.body with
  | .trace .. => true
  | _ => false

/-! ### Readouts -/

/-- Records of a readout's region (R451 Table 14), in key order. -/
def Recorder.region (r : Recorder) (n : Nat) : List Rec :=
  if n = 0 then r.cycles else if n = 1 then r.traces else if n = 2 then r.events else r.box

/-- The complete snapshots, in key order. -/
def Recorder.complete (r : Recorder) : List Snapshot := (r.snaps.filter fun s => !s.header.isEmpty).insertionSort fun a b => a.key.le b.key

/-- A key that a readout has yet to deliver whole. -/
def Readout.wants (o : Readout) (k : Key) : Bool := o.fromKey.le k && k.le o.toKey && !(o.done.any fun d => k.le d)

/-- Keys a readout has yet to deliver whole. -/
def Readout.left (o : Readout) (r : Recorder) : List Key :=
  ((if o.region = 4 then r.complete.map (·.key) else (r.region o.region).map (·.key))).filter o.wants

/-- Records that fit into so many bytes, in order. -/
def takeFit (m : ModuleState) : Nat → List Rec → List Rec
  | _, [] => []
  | room, x :: r =>
    let n := (m.recBytes x).length
    if n ≤ room then x :: takeFit m (room - n) r else []

/-- Records still to be delivered. -/
def Readout.rest (o : Readout) (r : Recorder) : List Rec := (r.region o.region).filter fun x => o.wants x.key

/-- Chunk header, 16 bytes (R453 Table 13). -/
def chunkHeader (chunk bytes records : Nat) (overrun last : Bool) (region damaged : Nat) : List Byte :=
  leBytes 4 chunk ++ leBytes 4 bytes ++ leBytes 2 records ++ leBytes 1 (bitOf overrun 1 + bitOf last 0) ++ leBytes 1 region ++
    leBytes 2 damaged ++ zeros 2

/-- Snapshots whose bytes end within the bytes delivered: the key of the last one, and the bytes delivered of the next. -/
def passSnaps : List Snapshot → Nat → Option Key → Option Key × Nat
  | [], _, k => (k, 0)
  | x :: r, n, k => if x.bytes.length ≤ n then passSnaps r (n - x.bytes.length) (some x.key) else (k, n)

/-- The next chunk of a readout (R451): its bytes, whether it is the last, and the readout after it. A record longer than a half has room
for runs on into the next chunk, as a snapshot does: DESIGN CHOICE (log entry 147). -/
def ModuleState.nextChunk (m : ModuleState) (o : Readout) : List Byte × Bool × Readout :=
  let room := o.halfSize - 16
  if o.region = 4 then
    let snaps := m.recd.complete.filter fun s => o.wants s.key
    let all := (snaps.map Snapshot.bytes).flatten.drop o.doneBytes
    let part := all.take room
    let last : Bool := decide (all.length ≤ room)
    let at_ := passSnaps snaps (o.doneBytes + part.length) o.done
    (chunkHeader o.chunk part.length 0 o.overrun last 4 0 ++ part, last, { o with done := at_.1, doneBytes := at_.2 })
  else
    let rest := o.rest m.recd
    let part := takeFit m room rest
    match part, rest with
    | [], x :: more =>
      let all := (m.recBytes x).drop o.doneBytes
      let ends : Bool := decide (all.length ≤ room)
      let last := ends && more.isEmpty
      (chunkHeader o.chunk (min room all.length) (bitOf ends 0) o.overrun last o.region (bitOf (ends && x.unread.isSome) 0) ++ all.take room, last,
        { o with done := if ends then some x.key else o.done, doneBytes := if ends then 0 else o.doneBytes + room })
    | _, _ =>
      let last : Bool := decide (part.length = rest.length)
      let body := (part.map m.recBytes).flatten
      let bad := (part.filter fun x => x.unread.isSome).length
      (chunkHeader o.chunk body.length part.length o.overrun last o.region bad ++ body, last,
        { o with done := (part.getLast?.map (·.key)).or o.done })

end Sys2Proof.Machine
end

