-- ==== Sys2Proof/Machine/Culvert.lean ====
section
/-! DEFINITION. The culvert DMA engine (chapter 14): the address map R403, descriptors R406 to R408, pacing R410, the sink
R411, rings and starvation R413 and R414, stops R415, the global halt R416 to R419, and the commands R423. -/

namespace Sys2Proof.Machine

/-! ### Address map (R403 Table 1) -/

/-- A memory region: Polder window, recorder SRAM, NAND page buffer. -/
def cvMemory (a : Nat) : Bool :=
  a < 0x40000 || (0x10000000 ≤ a && a < 0x10200000) || (0x20000000 ≤ a && a < 0x20010000)

/-- Where descriptors and lists may lie (R406, R407): Polder window or recorder SRAM. -/
def cvDescRegion (a : Nat) : Bool := a < 0x40000 || (0x10000000 ≤ a && a < 0x10200000)

/-- The host reply-FIFO sink. -/
def cvSink (a : Nat) : Bool := 0x30000000 ≤ a && a < 0x30000004

/-- An axis trace source. -/
def cvTrace (a : Nat) : Bool := 0x40000000 ≤ a && a < 0x40080000

/-- Axis of a trace source address. -/
def cvTraceAxis (a : Nat) : Nat := (a - 0x40000000) / 0x10000

/-- A read access at an address is answered. -/
def ModuleState.cvReads (m : ModuleState) (a : Nat) : Bool := cvMemory a || (cvTrace a && m.populated (cvTraceAxis a))

/-- A write access at an address is answered. -/
def cvWrites (a : Nat) : Bool := cvMemory a || cvSink a

/-! ### Descriptors -/

/-- GATHER, SCATTER and PACE of CTRL_STATUS (R406 Table 3). -/
def Desc.gather (d : Desc) : Bool := bit d.ctrl 7
def Desc.scatter (d : Desc) : Bool := bit d.ctrl 6
def Desc.pace (d : Desc) : Nat := bitsAt d.ctrl 4 2

/-- Address of byte k of a list of segments. -/
def segAddr : List (Nat × Nat) → Nat → Nat
  | [], _ => 0
  | (a, n) :: r, k => if k < n then a + k else segAddr r (k - n)

/-- Source address of byte k of a transfer. -/
def Desc.srcAt (d : Desc) (k : Nat) : Nat :=
  if d.gather then segAddr d.sgl k else if bitsAt d.ctrl 10 2 = 1 then d.src + k % 4 else d.src + k

/-- Destination address of byte k of a transfer. -/
def Desc.dstAt (d : Desc) (k : Nat) : Nat :=
  if d.scatter then segAddr d.sgl k else if bitsAt d.ctrl 8 2 = 1 then d.dst + k % 4 else d.dst + k

/-- Entries of a list (R406 Table 4): address, length with its reserved bits. -/
def readSgl (mem : Memory) (a : Nat) : Nat → List (Nat × Nat)
  | 0 => []
  | n + 1 => (leNat (mem.bytes a 4), leNat (mem.bytes (a + 4) 4)) :: readSgl mem (a + 8) n

/-- A side of a transfer keeps the mode its region asks for: a port FIXED on a multiple of 4 with a count that is one, memory
INC (R407). An address of no region breaks no format: it does not answer (R403). -/
def sideOk (addr mode count : Nat) : Bool :=
  if cvSink addr || cvTrace addr then mode == 1 && addr % 4 == 0 && count % 4 == 0 else mode == 0 || !cvMemory addr

/-- The format of a descriptor, without its list (R407). -/
def descFormatOk (d : Desc) (countWord sglPtr sglCount tail : Nat) : Bool :=
  bitsAt d.ctrl 28 1 == 0 && bitsAt d.ctrl 16 8 == 0 && bitsAt d.ctrl 0 4 == 0 && countWord < 2 ^ 24 && tail == 0 &&
    bitsAt d.ctrl 10 2 < 2 && bitsAt d.ctrl 8 2 < 2 && d.pace < 3 && d.count != 0 && !(d.gather && d.scatter) &&
    (d.gather || d.scatter || (sglPtr == 0 && sglCount == 0)) && ((!d.gather && !d.scatter) || sglPtr % 8 == 0) &&
    (if d.gather then bitsAt d.ctrl 10 2 == 0 else sideOk d.src (bitsAt d.ctrl 10 2) d.count) &&
    (if d.scatter then bitsAt d.ctrl 8 2 == 0 else sideOk d.dst (bitsAt d.ctrl 8 2) d.count) &&
    (d.pace != 1 || (!d.gather && cvTrace d.src)) && (d.pace != 2 || (!d.scatter && d.dst == 0x30000000)) &&
    (bit d.ctrl 12 || (d.next % 32 == 0 && cvDescRegion d.next))

/-- A list of a descriptor is good (R407): its entries, and where it lies. -/
def listOk (d : Desc) (sglPtr sglCount : Nat) : Bool :=
  1 ≤ sglCount && sglCount ≤ 256 && cvDescRegion sglPtr && cvDescRegion (sglPtr + 8 * sglCount - 1) &&
    d.sgl.all (fun e => 1 ≤ e.2 && !cvSink e.1 && !cvTrace e.1) && (d.sgl.map (·.2)).sum == d.count

/-- HW_IRQ_STATUS CULVERT set (R408, R418). -/
def ModuleState.cvIrq (m : ModuleState) (b : Bool) : ModuleState := { m with host := if b then m.host.raise 6 else m.host }

/-- A descriptor written back (R408): BYTE_COUNT, TSTAMP, then CTRL_STATUS with OWN cleared, the engine's bits set and the host's
kept. -/
def writeBack (m : ModuleState) (mem : Memory) (a : Nat) (d : Desc) (moved result : Nat) (halt tail : Bool) : Memory :=
  let m1 := mem.store (a + 4) (leBytes 4 moved)
  let m2 := if bit d.ctrl 13 then m1.store (a + 28) (leBytes 4 m.count) else m1
  m2.store a (leBytes 4 (bitOf tail 30 + bitOf halt 29 + result * 2 ^ 24 + d.ctrl % 2 ^ 24))

/-- Words of a descriptor written back are whole again (R331). -/
def ModuleState.mendBack (m : ModuleState) (a : Nat) (d : Desc) : ModuleState :=
  let m1 := m.mend a 8
  if bit d.ctrl 13 then m1.mend (a + 28) 4 else m1

/-- A descriptor that ends in an error (R407, R411, R420): written back, the channel in ERROR, CV_DESC_ERROR logged. A stop that waited for it
finds the channel at a boundary: it ends IDLE with CV_STOPPED, and the reply names the descriptor that failed, for its NEXT is not followed (R415; log
entry 164). -/
def cvError (c : Nat) (d : Desc) (moved result : Nat) (x : ModuleState × Memory) : ModuleState × Memory :=
  let (m, mem) := x
  let q := m.chan c
  let m1 := m.setChan c fun q => { q with state := .error, desc := none, due := false, sink := [], sinkBad := false, stops := [] }
  let m2 := (m1.cvIrq (bit d.ctrl 15)).log evCvDescError (tgChan c) [(c : Int), (q.descAddr : Int), (result : Int)]
  let m3 := if q.stops.isEmpty then m2
    else (m2.setChan c fun q => { q with state := .idle }).log evCvStopped (tgChan c) [(c : Int), (q.descAddr : Int)]
  ((m3.each q.stops fun m ref => m.settle ref none (some (leBytes 4 q.descAddr))).mendBack q.descAddr d,
    writeBack m mem q.descAddr d moved result false false)

/-! ### The recorder's own channels (R404) -/

/-- CV14 carries a NAND flush, CV15 the chunk of a readout. -/
def ModuleState.ownBusy (m : ModuleState) (c : Nat) : Bool :=
  if c = 14 then m.recd.flushBusy && m.recd.failFlushAt.isNone
  else c == 15 && m.recd.readout.any fun o => o.waiting.isNone && bit o.free o.half

/-- The chunk in work and where it stands in its half: what CV15 has still to move. -/
def ModuleState.chunkRest (m : ModuleState) : Nat × List Byte :=
  match m.recd.readout with
  | some o => (o.bufAddr + o.half * o.halfSize + o.moved, (m.nextChunk o).1.drop o.moved)
  | none => (0, [])

/-- Bytes that CV14 or CV15 has still to move. -/
def ModuleState.ownLeft (m : ModuleState) (c : Nat) : Nat :=
  if !m.ownBusy c then 0 else if c = 14 then m.recd.flushLeft else m.chunkRest.2.length

/-- CV14 and CV15 move on while the recorder has not to resume them (R419). -/
def ModuleState.ownReady (m : ModuleState) (c : Nat) : Bool :=
  0 < m.ownLeft c && !(if c = 14 then m.recd.cv14Halted else m.recd.cv15Halted)

/-- DESC_ADDR of a channel (R423); where the recorder lays its own descriptors is free (log entry 165). -/
def ModuleState.cvDescAddr (m : ModuleState) (c : Nat) : Nat :=
  if c < 14 then (m.chan c).descAddr else (Config.ownDesc c (m.chan c).descriptors).toNat

/-- One burst of CV14 or CV15 (R405): bytes of the half being flushed into the NAND page buffer, whose layout is the recorder's own (log entry
165); bytes of the chunk into the host's half (R451). -/
def ownBurst (c : Nat) (x : ModuleState × Memory) : ModuleState × Memory :=
  let (m, mem) := x
  let n := min 64 (m.ownLeft c)
  let m1 := m.setChan c fun q => { q with bytes := (q.bytes + n) % 2 ^ 32 }
  if c = 14 then ({ m1 with recd := { m1.recd with flushLeft := m1.recd.flushLeft - n } }, mem)
  else
    let (at_, rest) := m.chunkRest
    let m2 := m1.setReadout fun o => { o with moved := o.moved + n }
    (m2.mend at_ n, mem.store at_ (rest.take n))

/-! ### The global halt -/

/-- A channel whose descriptor the halt has written back (R416, R417): OWN clear, ABORT_HALT or ERR_TAIL set. -/
def ModuleState.haltWrote (m : ModuleState) (mem : Memory) (k : Nat) : Bool :=
  let w := leNat (mem.bytes (m.chan k).descAddr 4)
  k < 16 && w < 2 ^ 31 && (bit w 29 || bit w 30)

/-- The engine halts (R416 to R418): every descriptor in progress is written back, that of the failing channel with ERR_TAIL when
its BYTE_COUNT had reached 0, the others with ABORT_HALT; the descriptor whose own write-back fails keeps OWN. A second bus error while halted counts, but for a write-back
that fails only then (R422). -/
def cvHalt (c cause addr : Nat) (wbFail : Option Nat) (x : ModuleState × Memory) : ModuleState × Memory :=
  let (m, mem) := x
  let failed := wbFail.filter fun k => (m.chan k).desc.isSome
  if m.cv.halted then
    match wbFail.filter (m.haltWrote mem) with
    | some k =>
      let a := (m.chan k).descAddr
      ({ m with cv := { m.cv with halt := { m.cv.halt with cause := 4, descAddr := a } } },
        mem.store a (leBytes 4 (2 ^ 31 + leNat (mem.bytes a 4) % 2 ^ 24)))
    | none =>
      (({ m with cv := { m.cv with halt := { m.cv.halt with errors := sat max16 m.cv.halt.errors } } }).saturated max16
        m.cv.halt.errors tgModule 0x0B02 4, mem)
  else
    let tail (q : CvChan) (k : Nat) : Bool := k == c && match q.desc with
      | some d => d.count ≤ q.moved
      | none => m.ownBusy k && m.ownLeft k == 0
    let mem1 := (List.range 16).foldl (fun mem k =>
      let q := m.chan k
      match q.desc with
      | some d => if failed = some k then mem else writeBack m mem q.descAddr d q.moved 0 (!tail q k) (tail q k)
      | none => mem) mem
    let isTail := tail (m.chan c) c
    let rec0 : HaltRec :=
      { cause := if failed.isSome then 4 else if isTail then 3 else cause, channel := c, errors := 0,
        descAddr := match failed with
          | some k => (m.chan k).descAddr
          | none => m.cvDescAddr c
        failAddr := addr, time := m.stamp }
    let stops := (m.cv.chans.map fun q => q.stops.map fun r => (r, (q.desc.map (·.next)).getD q.descAddr)).flatten
    let m1 := { m with cv := { m.cv with
      halted := true, haltAt := some m.now, halt := rec0
      chans := updAll m.cv.chans fun q =>
        { q with state := .halted, desc := none, due := false, flowing := false, sink := [], sinkBad := false, stops := [] } } }
    let m2 := { m1 with recd := { m1.recd with cv14Halted := true, cv15Halted := true } }
    let m3 := (m2.cvIrq true).log evCvHalt (tgChan c) [(c : Int), (rec0.cause : Int), (rec0.channel : Int), (rec0.errors : Int),
      (rec0.descAddr : Int), (rec0.failAddr : Int), (rec0.time.1 : Int), (rec0.time.2 : Int)]
    let m4 := m3.each (List.range 16) fun m' k => match (m.chan k).desc with
      | some d => if failed = some k then m' else m'.mendBack (m.chan k).descAddr d
      | none => m'
    (m4.each stops fun m r => m.settle r.1 (some stOk) (some (leBytes 4 r.2)), mem1)

/-! ### Starting a descriptor -/

/-- Words a paced or port side still needs. -/
def CvChan.wordsLeft (q : CvChan) (d : Desc) : Nat := (d.count - q.moved + 3) / 4

/-- Words in the trace queue a descriptor reads from. -/
def ModuleState.traceLevel (m : ModuleState) (a : Nat) : Nat := (m.cv.traces.getD (cvTraceAxis a) {}).words.length

/-- FREE of RSP_FIFO, less what the sinks hold (R410, R411). -/
def ModuleState.rspFree (m : ModuleState) : Nat := 1024 - fifoUsed m.host.rsp - (m.cv.chans.map fun q => q.sink.length).sum

/-- Words of the queue a paced descriptor waits on (R410). -/
def ModuleState.paceLevel (m : ModuleState) (d : Desc) : Nat := if d.pace = 1 then m.traceLevel d.src else m.rspFree

/-- A paced descriptor's bursts can start (R410). -/
def ModuleState.paceReady (m : ModuleState) (q : CvChan) (d : Desc) : Bool :=
  d.pace == 0 || min q.high (q.wordsLeft d) ≤ m.paceLevel d

/-- CV_STARVED once per episode (R413). -/
def ModuleState.starve (m : ModuleState) (c : Nat) : ModuleState :=
  let q := m.chan c
  (m.setChan c fun q => { q with state := .starved, due := false }).logIf (q.state != .starved) evCvStarved (tgChan c)
    [(c : Int), (q.descAddr : Int)]

/-- The first address of a list at which a read is not answered (R403, R407): the list is read when it starts in the Polder window or in recorder
SRAM, or in no region; in another region, or with a count outside 1 to 256, it is BAD_LIST unread (log entry 164). -/
def ModuleState.listSilent (m : ModuleState) (a n : Nat) : Option Nat :=
  if n < 1 ∨ 256 < n ∨ (!cvDescRegion a && (cvMemory a || cvSink a || cvTrace a)) then none
  else ((List.range (2 * n)).map fun k => a + 4 * k).find? fun b => !m.cvReads b

/-- The channel reads and checks the descriptor at DESC_ADDR (R406, R407, R413, R420). -/
def cvStart (c : Nat) (x : ModuleState × Memory) : ModuleState × Memory :=
  let (m, mem) := x
  let q := m.chan c
  let a := q.descAddr
  let hurt (lo n : Nat) : Bool := m.host.damaged.any fun w => lo ≤ w + 3 && w < lo + n
  let w := fun o => leNat (mem.bytes (a + o) 4)
  let sglCount := leNat (mem.bytes (a + 24) 2)
  let d0 : Desc := { ctrl := w 0, count := w 4 % 2 ^ 24, src := w 8, dst := w 12, next := w 16, sglPtr := w 20, sgl := [] }
  let lists := d0.gather || d0.scatter
  let silent := if lists then m.listSilent (w 20) sglCount else none
  let d := { d0 with sgl := if lists && sglCount ≤ 256 then readSgl mem (w 20) sglCount else [] }
  if hurt a 32 then (m.setChan c fun q => { q with state := .error, due := false }, mem)
  else if !bit d.ctrl 31 then (m.starve c, mem)
  else
    let m1 := m.setChan c fun q => { q with state := .running, due := false, desc := some d, moved := 0, flowing := false }
    if !descFormatOk d (w 4) (w 20) sglCount (leNat (mem.bytes (a + 26) 2)) then cvError c d 0 1 (m1, mem)
    else if silent.isSome then
      (m.setChan c fun q => { q with due := false, desc := some { d with sgl := [], sglPtr := silent.getD 0 }, moved := 0, state := .running }, mem)
    else if lists && hurt (w 20) (8 * sglCount) then (m.setChan c fun q => { q with state := .error, due := false, desc := none }, mem)
    else if lists && d.sgl.any (fun e => 2 ^ 24 ≤ e.2) then cvError c d 0 1 (m1, mem)
    else if lists && !listOk d (w 20) sglCount then cvError c d 0 2 (m1, mem)
    else
      let go := m1.paceReady (m1.chan c) d
      (m1.setChan c fun q => { q with state := if go then .running else .waiting, flowing := go }, mem)

/-- The recorder island runs and the engine is not halted (R416, R421). -/
def ModuleState.cvRuns (m : ModuleState) : Bool := m.runs isRecorder && !m.cv.halted

/-- CV_DESCRIPTOR_START (R407): a channel that is to read a descriptor reads it. -/
def execCvDescriptorStart (t cv : Nat) (s : State) : Host.Outcome State Fault Refusal :=
  if cv < 16 then .next (s.both t fun x => if x.1.cvRuns && (x.1.chan cv).due then cvStart cv x else x)
  else .fault .noSuchObject

/-! ### Bursts -/

/-- The next address of a descriptor in progress that does not answer (R403), the list's included; a port moves words of four bytes, each of
which must answer. -/
def ModuleState.cvSilent (m : ModuleState) (q : CvChan) : Option Nat :=
  match q.desc with
  | none => none
  | some d =>
    if d.count ≤ q.moved then none
    else if (d.gather || d.scatter) && d.sgl.isEmpty then some d.sglPtr
    else
      let word := List.range (if cvTrace (d.srcAt q.moved) || cvSink (d.dstAt q.moved) then 4 else 1)
      ((word.map fun k => d.srcAt (q.moved + k)).find? fun a => !m.cvReads a).or
        ((word.map fun k => d.dstAt (q.moved + k)).find? fun a => !cvWrites a)

/-- A channel can move bytes now (R405, R410). -/
def ModuleState.cvReady (m : ModuleState) (c : Nat) : Bool :=
  let q := m.chan c
  match q.desc with
  | none => m.cvRuns && m.ownReady c
  | some d =>
    m.cvRuns && q.moved < d.count && (m.cvSilent q).isNone && (d.pace == 0 || q.flowing) &&
      (!cvTrace (d.srcAt q.moved) || 1 ≤ m.traceLevel d.src) && (!cvSink (d.dstAt q.moved) || q.sinkBad || 1 ≤ m.rspFree)

/-- The channel the engine serves next (R405): CV14 and CV15 first, then the host channels round robin. -/
def ModuleState.cvTurn (m : ModuleState) : Option Nat :=
  ([14, 15] ++ (List.range 14).map fun k => (m.cv.rr + k) % 14).find? m.cvReady

/-- A paced channel waits again once its queue has fallen to LOW (R410), unless it could start at that level. -/
def ModuleState.cvPause (m : ModuleState) (c : Nat) : ModuleState :=
  let q := m.chan c
  match q.desc with
  | none => m
  | some d =>
    if q.flowing ∧ d.pace ≠ 0 ∧ q.moved < d.count ∧ m.paceLevel d ≤ q.low ∧ !m.paceReady q d then
      m.setChan c fun q => { q with flowing := false, state := if q.state = .stopping then .stopping else .waiting }
    else m

/-- Every paced channel judged by its queue's present level: done before a queue's level rises, and before bursts, so that a queue that fell to LOW
by whatever cause makes its channel wait (R410). -/
def ModuleState.cvSettle (m : ModuleState) : ModuleState := m.each (List.range 14) fun m c => m.cvPause c

/-- A word that reaches the sink (R411): released with its packet once that is whole; a header whose HDR_CHECK fails discards the
rest of the descriptor's words. -/
def ModuleState.sinkWord (m : ModuleState) (c : Nat) (w : Word) : ModuleState :=
  let q := m.chan c
  if q.sinkBad then m
  else
    let ws := q.sink ++ [w]
    let h := (ws.take 4).flatMap wordBytes
    if ws.length = 4 ∧ !headerOk h then m.cvSettle.setChan c fun q => { q with sink := [], sinkBad := true }
    else if 4 ≤ ws.length ∧ (16 + headerLength h + 3) / 4 ≤ ws.length then
      let m1 := m.setChan c fun q => { q with sink := [] }
      { m1 with host := { m1.host with rsp := m1.host.rsp ++ [ws] }.raise 0 }
    else m.setChan c fun q => { q with sink := ws }

/-- One byte, or one word of a port, moved (R409): the source byte is read and the destination byte written. -/
def cvMove (c : Nat) (d : Desc) (x : ModuleState × Memory) : ModuleState × Memory :=
  let (m, mem) := x
  let q := m.chan c
  let sa := d.srcAt q.moved
  let da := d.dstAt q.moved
  if cvTrace sa || cvSink da then
    let tq := m.cv.traces.getD (cvTraceAxis sa) {}
    let w : Word := if cvTrace sa then tq.words.head?.getD 0 else BitVec.ofNat 32 (leNat ((List.range 4).map fun k => mem.read (d.srcAt (q.moved + k))))
    let m1 := if cvTrace sa then
        { m with cv := { m.cv with traces := upd m.cv.traces (cvTraceAxis sa) fun y => { y with words := y.words.drop 1 } } } else m
    let m2 := m1.setChan c fun q => { q with moved := q.moved + 4, bytes := (q.bytes + 4) % 2 ^ 32 }
    if cvSink da then (m2.sinkWord c w, mem)
    else (m2.mend (d.dstAt q.moved) 4, (List.range 4).foldl (fun mem k => mem.write (d.dstAt (q.moved + k)) (BitVec.ofNat 8 (w.toNat / 256 ^ k))) mem)
  else
    let m1 := if da % 4 = 3 ∧ 3 ≤ q.moved ∧ d.dstAt (q.moved - 3) + 3 = da then m.mend (da - 3) 4 else m
    (m1.setChan c fun q => { q with moved := q.moved + 1, bytes := (q.bytes + 1) % 2 ^ 32 }, mem.write da (mem.read sa))

/-- Up to n bytes of one burst: it ends at the descriptor's end, at an address that does not answer, at a damaged source word
(R420), or when a port is not ready. -/
def cvBurst (c : Nat) (d : Desc) : Nat → ModuleState × Memory → ModuleState × Memory
  | 0, x => x
  | n + 1, x =>
    let q := x.1.chan c
    let sa := d.srcAt q.moved
    let read := (List.range (if cvSink (d.dstAt q.moved) then 4 else 1)).map fun k => d.srcAt (q.moved + k)
    if !x.1.cvReady c then x
    else if read.any (fun a => cvMemory a && x.1.host.damaged.any fun w => w ≤ a && a < w + 4) then cvError c d q.moved 3 x
    else if cvTrace sa || cvSink (d.dstAt q.moved) then
      let y := cvMove c d x
      if n < 4 then y else cvBurst c d (n - 3) y
    else cvBurst c d n (cvMove c d x)

/-- CV_BURST (R405): the channel whose turn it is moves one burst of up to 64 bytes. -/
def execCvBurst (t cv : Nat) (s : State) : Host.Outcome State Fault Refusal :=
  if cv < 16 then .next (s.both t fun x0 =>
    let x := (x0.1.cvSettle, x0.2)
    if x.1.cvTurn ≠ some cv then x
    else match (x.1.chan cv).desc with
      | some d =>
        let y := cvBurst cv d 64 x
        let m1 := y.1.cvPause cv
        ({ m1 with cv := { m1.cv with rr := if cv < 14 then (cv + 1) % 14 else m1.cv.rr } }, y.2)
      | none => ownBurst cv x)
  else .fault .noSuchObject

/-- CV_PACE_READY (R410): the queue of a waiting channel reaches its watermark. -/
def execCvPaceReady (t cv : Nat) (s : State) : Host.Outcome State Fault Refusal :=
  happen (cv < 16) t (fun m =>
    let q := m.chan cv
    match q.desc with
    | some d =>
      if m.cvRuns && d.pace != 0 && !q.flowing && m.paceReady q d then
        m.setChan cv fun q => { q with flowing := true, state := if q.state = .stopping then .stopping else .running }
      else m
    | none => m) s

/-! ### Completion -/

/-- What a channel does after its descriptor is written back (R408, R414, R415): it stops, ends, or goes on to NEXT; a return to
the descriptor that CV_START named is a lap. At the end of a chain a stop has no next descriptor to name, and names the last one (log entry 164). -/
def ModuleState.cvFollow (m : ModuleState) (c : Nat) (d : Desc) : ModuleState :=
  let q := m.chan c
  if q.state = .stopping then
    let next := if bit d.ctrl 12 then q.descAddr else d.next
    ((m.setChan c fun q => { q with state := .idle, stops := [], descAddr := next }).log evCvStopped (tgChan c)
      [(c : Int), (next : Int)]).each q.stops fun m ref => m.settle ref none (some (leBytes 4 next))
  else if bit d.ctrl 12 then m.setChan c fun q => { q with state := .idle }
  else
    let lap := d.next == q.start
    let laps := if lap then sat max16 q.laps else q.laps
    let m1 := (m.setChan c fun q => { q with descAddr := d.next, laps, due := true, state := .running }).logIf
      (lap && q.laps + 1 == max16) evCounterSaturated (tgChan c) [(tgChan c : Int), 0x0B02, 14]
    if lap && q.lapLimit != 0 && q.lapLimit ≤ laps then
      (m1.setChan c fun q => { q with state := .lapEnd, due := false }).log evCvLapEnd (tgChan c) [(c : Int), (laps : Int)]
    else m1

/-- CV_DESCRIPTOR_COMPLETE (R408): every write of the descriptor is acknowledged. -/
def execCvDescriptorComplete (t cv : Nat) (s : State) : Host.Outcome State Fault Refusal :=
  if cv < 16 then .next (s.both t fun x =>
    let (m, mem) := x
    let q := m.chan cv
    match q.desc with
    | none => x
    | some d =>
      if !m.cvRuns || q.moved < d.count then x
      else if q.sinkBad then cvError cv d d.count 4 x
      else
        let m1 := m.setChan cv fun q => { q with desc := none, flowing := false, descriptors := (q.descriptors + 1) % 2 ^ 32 }
        let m2 := (m1.cvIrq (bit d.ctrl 15)).logIf (bit d.ctrl 14) evCvDone (tgChan cv) [(cv : Int), (q.descAddr : Int), (d.count : Int)]
        ((m2.cvFollow cv d).mendBack q.descAddr d, writeBack m mem q.descAddr d d.count 0 false false))
  else .fault .noSuchObject

/-- How many bytes of a trace word reach memory before the address that does not answer (R403, R409). -/
def ModuleState.cvPartBytes (m : ModuleState) (q : CvChan) : Nat :=
  match q.desc with
  | none => 0
  | some d =>
    if !cvTrace (d.srcAt q.moved) || !m.cvReads (d.srcAt q.moved) || m.traceLevel d.src == 0 then 0
    else ((List.range 4).takeWhile fun k => cvWrites (d.dstAt (q.moved + k))).length

/-- Those bytes moved. -/
def cvPart (c : Nat) (x : ModuleState × Memory) : ModuleState × Memory :=
  let (m, mem) := x
  let q := m.chan c
  let n := m.cvPartBytes q
  match q.desc with
  | none => x
  | some d =>
    if n = 0 then x
    else
      let w : Word := (m.cv.traces.getD (cvTraceAxis (d.srcAt q.moved)) {}).words.head?.getD 0
      (m.setChan c fun q => { q with moved := q.moved + n, bytes := (q.bytes + n) % 2 ^ 32 },
        (List.range n).foldl (fun mem k => mem.write (d.dstAt (q.moved + k)) (BitVec.ofNat 8 (w.toNat / 256 ^ k))) mem)

/-- CV_ACCESS_TIMEOUT (R403, R416): an access without response for 256 cycles ends in a bus error, cause NO_RESPONSE. -/
def execCvAccessTimeout (t cv : Nat) (wbFail : Option Nat) (s : State) : Host.Outcome State Fault Refusal :=
  if cv < 16 then .next (s.both t fun x =>
    match x.1.cvSilent (x.1.chan cv) with
    | some a => if x.1.cvRuns then cvHalt cv 2 a wbFail (cvPart cv x) else if x.1.runs isRecorder then cvHalt cv 2 a wbFail x else x
    | none => x)
  else .fault .noSuchObject

/-- CV_BUS_ERROR (R416, R417): a region answers an access of a channel with an error. -/
def execCvBusError (t cv addr : Nat) (wbFail : Option Nat) (s : State) : Host.Outcome State Fault Refusal :=
  if cv < 16 then .next (s.both t fun x => if x.1.runs isRecorder then cvHalt cv 1 addr wbFail x else x)
  else .fault .noSuchObject

/-- DOORBELL_CV (R323, R413, R422): a starved channel reads its descriptor again. -/
def execDoorbellCv (t cv : Nat) (s : State) : Host.Outcome State Fault Refusal :=
  happen (cv < 16) t (fun m =>
    if m.windowOpen ∧ (m.chan cv).state = .starved ∧ m.cvRuns then m.setChan cv fun q => { q with due := true } else m) s

/-! ### Commands -/

/-- Code of a channel state (R423 Table 10). -/
def CvState.code : CvState → Nat
  | .idle => 0 | .running => 1 | .waiting => 2 | .starved => 3 | .stopping => 4 | .halted => 5 | .error => 6 | .lapEnd => 7

/-- Channel status entry, 24 bytes (R423 Table 10). -/
def ModuleState.cvEntry (m : ModuleState) (c : Nat) : List Byte :=
  let q := m.chan c
  let state := if q.state = .idle ∧ m.ownBusy c then CvState.running else q.state
  let left := match q.desc with
    | some d => d.count - q.moved
    | none => m.ownLeft c
  leBytes 1 c ++ leBytes 1 state.code ++ leBytes 1 (if c < 14 then 0 else 1) ++ zeros 1 ++ leBytes 4 (m.cvDescAddr c) ++ leBytes 4 left ++ leBytes 2 q.laps ++ zeros 2 ++ leBytes 4 q.descriptors ++ leBytes 4 q.bytes

/-- Halt record, 24 bytes (R423 Table 9). -/
def HaltRec.bytes (h : HaltRec) : List Byte :=
  leBytes 1 h.cause ++ leBytes 1 h.channel ++ leBytes 2 h.errors ++ leBytes 4 h.descAddr ++ leBytes 4 h.failAddr ++ stampBytes h.time ++ zeros 2

/-- CV_START (R406, R410, R414, R419). -/
def cvStartBody (c : Cmd) (m : ModuleState) : Result :=
  let a := getN c.data 0 4
  let high := getN c.data 4 2
  let low := getN c.data 6 2
  let q := m.chan c.idx
  if a % 32 ≠ 0 ∨ !cvDescRegion a ∨ high < 1 ∨ 1024 < high ∨ high ≤ low then refuse m stValueOutOfRange
  else if 14 ≤ c.idx then refuse m stChannelOwned
  else if m.cv.halted then refuse m stCulvertHalted
  else if q.state ≠ .idle ∧ q.state ≠ .error ∧ q.state ≠ .lapEnd then refuse m stWrongState
  else
    { acts := [.recd],
      m := m.setChan c.idx fun _ =>
        { state := .running, descAddr := a, start := a, high, low, lapLimit := getN c.data 8 2, due := true } }

def cvStartSpec : CmdSpec :=
  { opcode := 0x0B00, kinds := [6], roles := .only [.maintainer, .integrator], size := (· == 12),
    fields := fun b => getN b 10 2 == 0, body := cvStartBody }

/-- CV_START (R423). -/
def execCvStart (p : Packet) (s : State) : Host.Outcome State Fault Refusal := .next (submit cvStartSpec p s)

/-- CV_STOP (R415, R422): at a descriptor boundary at once, else when the descriptor in progress is complete; the reply follows. -/
def cvStopBody (c : Cmd) (m : ModuleState) : Result :=
  let q := m.chan c.idx
  let atBoundary : Bool := match q.state with
    | .starved | .lapEnd | .error => true
    | .waiting => q.moved == 0
    | .running => q.due
    | _ => false
  if 14 ≤ c.idx then refuse m stChannelOwned
  else if q.state = .idle ∨ q.state = .halted then refuse m stWrongState
  else if atBoundary then
    { acts := [.recd], data := leBytes 4 q.descAddr,
      m := (m.setChan c.idx fun q => { q with state := .idle, due := false, desc := none, flowing := false }).log evCvStopped
        (tgChan c.idx) [(c.idx : Int), (q.descAddr : Int)] }
  else
    { acts := [.recd], wait := true,
      m := m.setChan c.idx fun q => { q with state := .stopping, stops := q.stops ++ [c.ref] } }

def cvStopSpec : CmdSpec :=
  { opcode := 0x0B01, kinds := [6], roles := .only [.maintainer, .integrator], size := (· == 0), body := cvStopBody }

/-- CV_STOP (R423). -/
def execCvStop (p : Packet) (s : State) : Host.Outcome State Fault Refusal := .next (submit cvStopSpec p s)

def cvStatusSpec : CmdSpec :=
  { opcode := 0x0B02, kinds := [0, 6], roles := .all, size := (· == 0),
    body := fun c m => readFrom [.recd] m
      (if c.kind = 6 then m.cvEntry c.idx else m.cv.halt.bytes ++ ((List.range 16).map m.cvEntry).flatten) }

/-- CV_STATUS (R423). -/
def execCvStatus (p : Packet) (s : State) : Host.Outcome State Fault Refusal := .next (submit cvStatusSpec p s)

/-- CULVERT_CLEAR (R419): the halt ends; the host channels become IDLE; the halt record is kept. -/
def culvertClearBody (_ : Cmd) (m : ModuleState) : Result :=
  if m.cv.halted then
    { acts := [.recd], m := { m with cv := { m.cv with
        halted := false
        chans := (m.cv.chans.take 14).map (fun q => { q with state := .idle }) ++ m.cv.chans.drop 14 } } }
  else refuse m stWrongState

def culvertClearSpec : CmdSpec :=
  { opcode := 0x0B03, roles := .only [.maintainer], size := (· == 0), body := culvertClearBody }

/-- CULVERT_CLEAR (R419). -/
def execCulvertClear (p : Packet) (s : State) : Host.Outcome State Fault Refusal := .next (submit culvertClearSpec p s)

/-- CV_TRACE_SET (R412): disabling empties the queue; the reply gives the drops since the previous one and the level before. -/
def cvTraceSetBody (c : Cmd) (m : ModuleState) : Result :=
  let q := m.cv.traces.getD c.idx {}
  let on := bit (getN c.data 2 1) 0
  if getN c.data 0 2 = 0 then refuse m stValueOutOfRange
  else
    { acts := [.recd], data := leBytes 4 q.drops ++ leBytes 2 q.words.length,
      m := { m with cv := { m.cv with traces := upd m.cv.traces c.idx fun q =>
        { on, div := getN c.data 0 2, words := if on then q.words else [], drops := 0 } } } }

def cvTraceSetSpec : CmdSpec :=
  { opcode := 0x0B04, kinds := [2], roles := .only [.maintainer, .integrator], size := (· == 4),
    fields := fun b => getN b 2 1 < 2 && getN b 3 1 == 0, body := cvTraceSetBody }

/-- CV_TRACE_SET (R412). -/
def execCvTraceSet (p : Packet) (s : State) : Host.Outcome State Fault Refusal := .next (submit cvTraceSetSpec p s)

/-- What a restart of the recorder island leaves of the culvert (R421): channels IDLE, no halt, settings lost; the halt record stays. -/
def Culvert.restarted (c : Culvert) : Culvert := { halt := c.halt }

end Sys2Proof.Machine
end

