-- ==== Sys2Proof/Machine/Operands.lean ====
section
/-! DEFINITION. What the module configuration and the active profile say (R529), who owns what (R79, R243), who holds duty
(R461, R474), and the measured position of an axis (R164). -/

namespace Sys2Proof.Machine

/-! ### Portals -/

/-- Offset of a portal's entry in the configuration (R529, R43). -/
def portalCfg (p : Nat) : Nat := 16 + 64 * (p - 1)

/-- One byte of a portal's entry. -/
def ModuleState.portalByte (m : ModuleState) (p off : Nat) : Nat := m.cfg (portalCfg p + off) 1

/-- A portal is enabled (R43, R45). -/
def ModuleState.enabled (m : ModuleState) (p : Nat) : Bool := 1 ≤ p && p ≤ 4 && m.portalByte p 1 == 1
/-- SIDE of a portal: LEFT 0, RIGHT 1. -/
def ModuleState.side (m : ModuleState) (p : Nat) : Nat := m.portalByte p 2
/-- Door axis of a portal. -/
def ModuleState.doorAxis (m : ModuleState) (p : Nat) : Nat := m.portalByte p 3
/-- Step axis of a portal, if it has one. -/
def ModuleState.stepAxis (m : ModuleState) (p : Nat) : Option Nat :=
  if m.portalByte p 4 = 255 then none else some (m.portalByte p 4)
/-- POS_CLOSED. -/
def ModuleState.posClosed (m : ModuleState) (p : Nat) : Int := m.cfgInt (portalCfg p + 20) 4
/-- POS_OPEN. -/
def ModuleState.posOpen (m : ModuleState) (p : Nat) : Int := m.cfgInt (portalCfg p + 24) 4
/-- LOCK_WINDOW. -/
def ModuleState.lockWindow (m : ModuleState) (p : Nat) : Nat := m.cfg (portalCfg p + 28) 4
/-- STEP_POS_STOWED. -/
def ModuleState.stowedPos (m : ModuleState) (p : Nat) : Int := m.cfgInt (portalCfg p + 36) 4
/-- Millimetres, or mm/s or mm/s², in door units (R43, R82). -/
def ModuleState.doorUnits (m : ModuleState) (p mm : Nat) : Nat := mm * m.cfg (portalCfg p + 32) 4 / 65536
/-- Millimetres of step extension in step units, signed by the deploying direction (R43). -/
def ModuleState.stepUnits (m : ModuleState) (p mm : Nat) : Int := mm * m.cfgInt (portalCfg p + 40) 4 / 65536
/-- Enabled portals. -/
def ModuleState.enabledPortals (m : ModuleState) : List Nat := portalNums.filter m.enabled

/-- The enabled portal that owns an axis, 0 for the host (R79). -/
def ModuleState.axisOwner (m : ModuleState) (a : Nat) : Nat :=
  ((m.enabledPortals.find? fun p => m.doorAxis p == a || m.stepAxis p == some a).getD 0)

/-- The enabled portal whose door axis an axis is. -/
def ModuleState.doorOf (m : ModuleState) (a : Nat) : Option Nat := m.enabledPortals.find? fun p => m.doorAxis p == a
/-- The enabled portal whose step axis an axis is. -/
def ModuleState.stepOf (m : ModuleState) (a : Nat) : Option Nat := m.enabledPortals.find? fun p => m.stepAxis p == some a

/-- The enabled portal that owns a load channel, 0 for the host: its lock, lamps and buzzer, not its heater (R243). -/
def ModuleState.loadOwner (m : ModuleState) (n : Nat) : Nat :=
  ((m.enabledPortals.find? fun p => [5, 16, 17, 18].any fun o => m.portalByte p o == n).getD 0)

/-- A maintainer may act on a portal's objects: the portal is ISOLATED (R79, R243). -/
def ModuleState.lentTo (m : ModuleState) (p : Nat) (role : Option Role) : Bool :=
  role == some .maintainer && (m.portal p).door == .isolated

/-! ### Duty -/

/-- The module holds duty (R461, R467): alone, whenever it is armed; in a pair as DUTY or SOLO. -/
def ModuleState.duty (m : ModuleState) : Bool :=
  if m.pairMode = 0 then m.reset.armed else m.pair.role == .duty || m.pair.role == .solo

/-- A command of R474 is refused with NOT_ON_DUTY. -/
def ModuleState.notOnDuty (m : ModuleState) : Bool := m.pairMode != 0 && !m.duty

/-! ### Axes -/

/-- Offset of an axis's motion entry (R529, R77). -/
def axisCfg (a : Nat) : Nat := 272 + 64 * a
/-- Offset of its drive entry (R115). -/
def driveCfg (a : Nat) : Nat := 784 + 64 * a
/-- Offset of its feedback entry (R155). -/
def fbCfg (a : Nat) : Nat := 1296 + 64 * a

/-- MODE: DISABLED 0, STEPPER_OPEN 1, STEPPER_CLOSED 2, DC 3, DC_SOLENOID 4 (R114). -/
def ModuleState.axisMode (m : ModuleState) (a : Nat) : Nat := m.cfg (axisCfg a + 1) 1
/-- A stepper axis. -/
def ModuleState.stepper (m : ModuleState) (a : Nat) : Bool := m.axisMode a == 1 || m.axisMode a == 2
/-- A DC axis. -/
def ModuleState.dcAxis (m : ModuleState) (a : Nat) : Bool := m.axisMode a == 3 || m.axisMode a == 4
/-- INVERT. -/
def ModuleState.invert (m : ModuleState) (a : Nat) : Bool := bit (m.cfg (axisCfg a + 2) 1) 1
/-- MAX_SPEED, MAX_ACCEL, MAX_DECEL, MAX_JERK, QUICK_DECEL. -/
def ModuleState.maxSpeed (m : ModuleState) (a : Nat) : Nat := m.cfg (axisCfg a + 4) 4
def ModuleState.maxAccel (m : ModuleState) (a : Nat) : Nat := m.cfg (axisCfg a + 8) 4
def ModuleState.maxDecel (m : ModuleState) (a : Nat) : Nat := m.cfg (axisCfg a + 12) 4
def ModuleState.maxJerk (m : ModuleState) (a : Nat) : Nat := m.cfg (axisCfg a + 16) 4
def ModuleState.quickDecel (m : ModuleState) (a : Nat) : Nat := m.cfg (axisCfg a + 20) 4
/-- SOFT_MIN and SOFT_MAX. -/
def ModuleState.softMin (m : ModuleState) (a : Nat) : Int := m.cfgInt (axisCfg a + 24) 4
def ModuleState.softMax (m : ModuleState) (a : Nat) : Int := m.cfgInt (axisCfg a + 28) 4
/-- Soft limits are applied: SOFT_LIMITS is set and the position is valid (R92, R94). -/
def ModuleState.softLimits (m : ModuleState) (a : Nat) : Bool :=
  bit (m.cfg (axisCfg a + 2) 1) 0 && (m.axis a).posValid

/-- FLAGS of the drive entry: SHARED 2, ANGLE_SAVE 1, ADAPT_OFFSET 0 (R115). -/
def ModuleState.driveFlags (m : ModuleState) (a : Nat) : Nat := m.cfg (driveCfg a + 13) 1
/-- An axis is SHARED. -/
def ModuleState.shared (m : ModuleState) (a : Nat) : Bool := bit (m.driveFlags a) 2
/-- I_RUN, mA. -/
def ModuleState.iRun (m : ModuleState) (a : Nat) : Nat := m.cfg (driveCfg a + 4) 2
/-- HYST_WIDTH, mA. -/
def ModuleState.hystWidth (m : ModuleState) (a : Nat) : Nat := m.cfg (driveCfg a + 6) 2
/-- HOLD_PCT. -/
def ModuleState.holdPct (m : ModuleState) (a : Nat) : Nat := m.cfg (driveCfg a + 8) 1
/-- HOLD_DELAY in ns. -/
def ModuleState.holdDelay (m : ModuleState) (a : Nat) : Nat := ms (10 * m.cfg (driveCfg a + 10) 2)

/-- VDRV is present (R554): VDRV_BULK lies within 5 V of VDRV, or the reverse-blocking stage is open (R556), and the level is not
ABSENT (R555). -/
def ModuleState.vdrvPresent (m : ModuleState) : Bool :=
  m.warden.level != .absent &&
    (m.warden.disconnected || (m.warden.vdrv ≤ m.warden.bulk + 50 && m.warden.bulk ≤ m.warden.vdrv + 50))

/-- SOURCE of the feedback: NONE 0, ENCODER 1, TOOTH 2, SERIAL 3 (R155). -/
def ModuleState.source (m : ModuleState) (a : Nat) : Nat := m.cfg (fbCfg a + 1) 1
/-- An axis has feedback (R114). -/
def ModuleState.hasFb (m : ModuleState) (a : Nat) : Bool := m.source a != 0
/-- COUNT_MODE is MODULO. -/
def ModuleState.modulo (m : ModuleState) (a : Nat) : Bool := m.cfg (fbCfg a + 5) 1 == 1
/-- MODULO. -/
def ModuleState.moduloOf (m : ModuleState) (a : Nat) : Nat := m.cfg (fbCfg a + 16) 4
/-- POS_NUM and POS_DEN. -/
def ModuleState.posNum (m : ModuleState) (a : Nat) : Int := m.cfgInt (fbCfg a + 20) 4
def ModuleState.posDen (m : ModuleState) (a : Nat) : Nat := m.cfg (fbCfg a + 24) 4
/-- Position units per count (R168). -/
def ModuleState.unitsPerCount (m : ModuleState) (a : Nat) : Rat := (m.posNum a : Rat) / (m.posDen a : Rat)

/-- The count C of R164: the extended count in LINEAR mode (R162), the counter in MODULO mode (R163), the extended sensor
word of a SERIAL source (R172). -/
def ModuleState.countC (m : ModuleState) (a : Nat) : Int :=
  let f := m.fb a
  if m.source a = 3 then f.ext * (2 ^ m.cfg (fbCfg a + 33) 1 : Nat) + f.counter
  else if m.modulo a then f.counter
  else f.ext * 4294967296 + f.counter

/-- OFFSET + floor(C × POS_NUM / POS_DEN) (R164). -/
def ModuleState.countPos (m : ModuleState) (a : Nat) : Int :=
  (m.fb a).offset + (m.countC a * m.posNum a) / (m.posDen a : Int)

/-- The measured position (R164); between the readings of a serial sensor it is taken from p_hat (R170). -/
def ModuleState.measured (m : ModuleState) (a : Nat) : Int := if m.source a = 3 then (m.fb a).pHat.floor else m.countPos a

/-- Signed 32-bit difference. -/
def diff32 (x y : Int) : Int := signed 32 ((x - y) % 4294967296).toNat

/-- Commanded less measured position, 0 without feedback (R144 Table 8); in MODULO mode within half a revolution of the
counter (R163). -/
def ModuleState.posError (m : ModuleState) (a : Nat) : Int :=
  if !m.hasFb a then 0
  else if m.modulo a then
    let n : Int := m.moduloOf a
    let d := ((m.axis a).cmdPos - m.measured a) % n
    if 2 * d < n then d else d - n
  else diff32 (m.axis a).cmdPos (m.measured a)

/-- The position of an axis as a portal sees it: measured with feedback, else commanded. -/
def ModuleState.axisPos (m : ModuleState) (a : Nat) : Int := if m.hasFb a then m.measured a else (m.axis a).cmdPos

/-! ### The active profile -/

/-- The active slot (R64): START_SLOT when none is kept (log entry 130). -/
def ModuleState.slot (m : ModuleState) : Nat := m.profiles.active.getD (getN m.profiles.set 5 1)

/-- A field of the active profile (R62 Table 7). -/
def ModuleState.prof (m : ModuleState) (off n : Nat) : Nat := getN m.profiles.set (8 + 128 * m.slot + off) n

/-- A slot of a set holds a profile (R62 Table 8). -/
def slotValid (set : List Byte) (slot : Nat) : Bool := bit (getN set 4 1) slot

/-- Platform-height class of a portal's side (R70). -/
def ModuleState.heightClass (m : ModuleState) (p : Nat) : Nat := if m.side p = 0 then m.profiles.classL else m.profiles.classR

/-- STEP_EXT of the active profile for a portal's side, mm (R57). -/
def ModuleState.stepExt (m : ModuleState) (p : Nat) : Nat := m.prof (60 + 2 * m.heightClass p) 2

/-! ### Load channels and the field -/

/-- Offset of a load channel's entry (R529, R241). -/
def loadCfg (n : Nat) : Nat := 2096 + 16 * (n - 1)
/-- MODE: DISABLED 0, STATIC 1, GENERATOR 2, PIN 3. -/
def ModuleState.loadMode (m : ModuleState) (n : Nat) : Nat := m.cfg (loadCfg n + 1) 1
/-- SOURCE. -/
def ModuleState.loadSource (m : ModuleState) (n : Nat) : Nat := m.cfg (loadCfg n + 2) 1
/-- FLAGS: HOLD 3, SHARED_HOLD 2, FINE 1, OFF_DIAG 0. -/
def ModuleState.loadFlags (m : ModuleState) (n : Nat) : Nat := m.cfg (loadCfg n + 3) 1

/-- The module drives a load channel or field output: it is armed, and holds duty unless the channel is driven by both
members (R261, R290, R461). -/
def ModuleState.actsOn (m : ModuleState) (sharedHold : Bool) : Bool := m.reset.armed && (sharedHold || !m.notOnDuty)

/-- A reply whose data hold measured values: k free values stand for what is measured at that moment (log entry 20). -/
def measureFrom (needs : List Channel) (m : ModuleState) (k : Nat) (f : (Nat → Nat) → List Byte) : Result :=
  readFrom needs { m with free := m.free + k } (f fun i => Config.freeValue (m.free + i))

/-- Bytes of one entry, or of every entry for a module target. -/
def entries (c : Cmd) (all : List Nat) (f : Nat → List Byte) : List Byte := if c.kind = 0 then all.flatMap f else f c.idx

/-! ### NOR operations -/

/-- A NOR operation is tried (R541): whether it fails is a free value, and so is the offset of NOR_FAULT (log entry 72). op: PROGRAM 0,
ERASE 1, READ 2. -/
def ModuleState.norTry (m : ModuleState) (bank op : Nat) : Bool × ModuleState :=
  let (v, m1) := m.fresh
  if v % 2 = 1 then (true, m1.log evNorFault tgModule [(bank : Int), ((v / 2 : Nat) : Int), (op : Int)]) else (false, m1)

/-! ### Dissipation -/

/-- A coefficient of Tables 4 and 5 of chapter 19, in thousandths of its unit (R557): its typical value up to 25 °C junction, its maximum from
the junction temperature of that maximum on, and between the two where the module's design has it (log entry 152). -/
def coefficient (kind typ most : Nat) (top junction : Int) : Nat :=
  if junction ≤ 250 then 1000 * typ
  else if top ≤ junction then 1000 * most
  else 1000 * typ + (most - typ) * (Config.share kind junction % 1001)

/-- Loss of one phase in nW (R557 Table 4): VDRV in 0.1 V, the current in mA, the chopper frequency in kHz. -/
def phaseLoss (vdrv : Nat) (junction current : Int) (khz : Nat) : Nat :=
  let i := current.natAbs
  (i * i * coefficient 0 140 270 1250 junction + vdrv * i * khz * coefficient 1 12 20 1250 junction / 10) / 1000

/-- Loss of an axis stage in nW (R557 Table 4), by the currents and chopper frequencies of its phases. -/
def ModuleState.axisLoss (m : ModuleState) (a : Nat) (ia ib : Int) (chop : Nat × Nat) : Nat :=
  phaseLoss m.warden.vdrv (m.drive a).temp ia chop.1 + phaseLoss m.warden.vdrv (m.drive a).temp ib chop.2

/-- The estimate of the hottest junction of an axis stage in 0.1 °C (R561): its temperature point, raised by its present losses through the
thermal resistance of Table 5, 2.3 to 2.8 K/W. -/
def ModuleState.junction (m : ModuleState) (a : Nat) (point ia ib : Int) (chop : Nat × Nat) : Int :=
  point + ((m.axisLoss a ia ib chop * (2300 + Config.share 2 point % 501) / 100000000000 : Nat) : Int)

/-- Loss of a load channel in nW (R557 Table 4): on, or LIMITING with the voltage that stands across it. -/
def ModuleState.loadLoss (m : ModuleState) (n vls : Nat) (x : Nat × Nat × Int) : Nat :=
  if !(m.load n).on then 0
  else if (m.load n).limiting then (vls - x.2.1) * m.cfg (loadCfg n + 4) 2 * 100000
  else x.1 * x.1 * coefficient 4 50 100 1500 x.2.2 / 1000

/-- Loss of a field output that is on in nW (R557 Table 4). -/
def ModuleState.outputLoss (m : ModuleState) (n : Nat) (x : Nat × Int) : Nat :=
  if (m.fout n).on then x.1 * x.1 * coefficient 5 300 600 1500 x.2 / 1000 else 0

/-- The module's dissipation in nW at a sample of the warden (R557): the sum of the parts of Table 4; the holdup boost counts while HOLD_CAP is
below 47.0 V, the lower end of the voltage it is charged to (R550). -/
def ModuleState.dissipation (m : ModuleState) (x : SensorSample) : Nat :=
  x.pLogic * 100000000 + (if x.holdCap < 470 then (1500 + Config.share 3 0 % 1001) * 1000000 else 0) +
    (axisNums.map fun a => m.axisLoss a (m.drive a).iaMeas (m.drive a).ibMeas (m.drive a).chop).sum +
    (nums16.map fun n => m.loadLoss n x.vls (x.loads.getD (n - 1) (0, 0, 0)) + m.outputLoss n (x.outputs.getD (n - 1) (0, 0))).sum

/-- Mean in 0.1 W of the samples of the last span, the newest at now (R565). -/
def meanPower (powers : List (Nat × Nat)) (now span : Nat) : Nat :=
  let l := powers.filter fun x => now < x.1 + span
  (l.map (·.2)).sum / l.length / 100000000

end Sys2Proof.Machine
end

