-- ==== Sys2Proof/Machine/Loads.lean ====
section
/-! DEFINITION. The protected load channels (chapter 08): switching, the spillway budget, thermal protection, diagnosis,
generators and pins, VLS sag, and the commands of R265. -/

namespace Sys2Proof.Machine

/-! ### The spillway budget -/

/-- A leaky accumulator at an instant: mJ, leak in mJ/s (R252). -/
def leak (v : Rat) (rate since now : Nat) : Rat := max 0 (v - (rate * (now - since) : Nat) / 1000000000)

/-- A channel's accumulator at an instant (R252). -/
def Load.accumNow (x : Load) (now : Nat) : Rat := leak x.accum 50 x.accumAt now

/-- The module accumulator as a channel's island holds it (R255). -/
def LoadCommon.accumNow (c : LoadCommon) (n now : Nat) : Rat := leak (if n ≤ 8 then c.accum1 else c.accum2) 300 c.accumAt now

/-- The state with the common part of the load channels changed. -/
def ModuleState.setLoads (m : ModuleState) (f : LoadCommon → LoadCommon) : ModuleState := { m with loadCommon := f m.loadCommon }

/-- A turn-off accounted (R251 to R253): its measured clamp energy, a free value in 0.1 mJ, is added to the channel's
accumulator and to both copies of the module's; a budget reached, or left above, is logged. A SHARED_HOLD member whose partner stays on
absorbs nothing (R262): the partner's published state says so in STATIC mode, and tells nothing of its phase in the others. Nothing is measured while the channel's island does not run (R264). -/
def ModuleState.spillway (m : ModuleState) (n : Nat) : ModuleState :=
  if !m.runs (loadChannel n).island then m else
  let x := m.load n
  let v := if bit (m.loadFlags n) 2 && x.partnerOn && m.loadMode n == 1 then 0 else Config.freeValue m.free
  let c := m.loadCommon
  let a := x.accumNow m.now + (v : Rat) / 10
  let a1 := leak c.accum1 300 c.accumAt m.now + (v : Rat) / 10
  let a2 := leak c.accum2 300 c.accumAt m.now + (v : Rat) / 10
  let b := if n ≤ 8 then a1 else a2
  let m1 := ({ m with free := m.free + 1 }.setLoad n fun x =>
      { x with accum := a, accumAt := m.now, lastClamp := min max16 v, turnOffs := sat max32 x.turnOffs,
               spent := x.spent || 500 ≤ a }).setLoads fun c =>
      { c with accum1 := a1, accum2 := a2, accumAt := m.now, moduleSpent := c.moduleSpent || 3000 ≤ b }
  ((((m1.saturated max32 x.turnOffs (tgLoad n) 0x0603 18).logIf (500 ≤ a && !x.spent) evSpillwaySpent (tgLoad n)
    [(n : Int), 0, a.floor]).logIf (3000 ≤ b && !c.moduleSpent) evSpillwaySpent tgModule [(n : Int), 1, b.floor]).logIf
    (500 < a) evSpillwayOverrun (tgLoad n) [(n : Int), 0, (a - 500).floor]).logIf (3000 < b) evSpillwayOverrun tgModule
    [(n : Int), 1, (b - 3000).floor]

/-! ### Switching -/

/-- The channel's source is in its on-phase: always in STATIC mode, the high pin in PIN mode, and the generator's on-phase in GENERATOR
mode, in which a held channel of a restarting island stays on continuously (R245, R260, R576). -/
def ModuleState.inPhase (m : ModuleState) (n : Nat) : Bool :=
  let x := m.load n
  match m.loadMode n with
  | 2 => x.phaseOn || (x.held && !m.runs (loadChannel n).island)
  | 3 => m.loadCommon.pins.getD (m.loadSource n) false
  | _ => true

/-- The switch conducts: it is on, and in GENERATOR and PIN mode in the on-phase of its source (R245). -/
def ModuleState.conducts (m : ModuleState) (n : Nat) : Bool := (m.load n).on && m.inPhase n

/-- STATE of a channel (R245 Table 2). -/
def ModuleState.lsState (m : ModuleState) (n : Nat) : Nat :=
  let x := m.load n
  if m.loadMode n = 0 then 7
  else if x.latched then 4
  else if x.spent then 5
  else if x.thermalOff then 3
  else if x.cut then 6
  else if x.on then (if x.limiting then 2 else 1)
  else 0

/-- A switch turned off: a conducting one is a turn-off (R251). -/
def ModuleState.lsOff (m : ModuleState) (n : Nat) : ModuleState :=
  let m1 := m.setLoad n fun x => { x with on := false, limiting := false, held := false, offSince := if x.on then m.now else x.offSince }
  if m.conducts n then m1.spillway n else m1

/-- A protection refuses a turn-on of an off switch: LATCHED 0, SPENT 1, MODULE_SPENT 2 (R247, R253). -/
def ModuleState.lsRefusal (m : ModuleState) (n : Nat) : Option Nat :=
  let x := m.load n
  if x.on then none
  else if x.latched then some 0
  else if x.spent then some 1
  else if m.loadCommon.moduleSpent then some 2
  else none

/-- The module drives a channel (R261). -/
def ModuleState.drivesLs (m : ModuleState) (n : Nat) : Bool := m.actsOn (bit (m.loadFlags n) 2)

/-- A switch follows a demand that is on (R246): it turns on unless a protection, VLS_CUT, or a member without duty holds it
off; below VLS_CUT it waits for the recovery (R263). -/
def ModuleState.lsFollow (m : ModuleState) (n : Nat) : ModuleState :=
  let x := m.load n
  if !x.demand || x.on || !m.drivesLs n || m.loadMode n == 0 then m
  else match m.lsRefusal n with
    | some c => m.setLoad n fun x => { x with heldSpent := c == 2 }
    | none =>
      if x.thermalOff then m
      else if m.loadCommon.vlsCut || x.cut then m.setLoad n fun x => { x with cut := true }
      else m.setLoad n fun x => { x with on := true, heldSpent := false, onSince := m.now, openOff := false, highOff := false, expectedHigh := false }

/-- A demand set by its owner: a turn-off is always carried out (R246). A channel in VLS_CUT stays there until VLS recovers (R245); one
turned off owes no thermal retry any more (R249). -/
def ModuleState.lsDemand (m : ModuleState) (n : Nat) (on : Bool) : ModuleState :=
  let m1 := m.setLoad n fun x => { x with demand := on }
  if on then m1.lsFollow n
  else (m1.setLoad n fun x => { x with cut := x.cut && m.loadCommon.vlsCut, heldSpent := false, oweRetry := false }).lsOff n

/-- The heater of a portal that is ISOLATED or in FAULT (R244). -/
def ModuleState.heaterHeld (m : ModuleState) (n : Nat) : Bool :=
  m.enabledPortals.any fun p => m.portalByte p 19 == n && ((m.portal p).door == .isolated || (m.portal p).door == .fault)

/-- A demand set by a portal (0) or a zone mark (1): no turn-on is ordered while the module is disarmed, and none of a heater that its
portal holds off (R244); a protection's refusal is logged (R247). Channel 0 is none. -/
def ModuleState.lsOrder (m : ModuleState) (requester n : Nat) (on : Bool) : ModuleState :=
  if n = 0 then m
  else if on then
    if !m.reset.armed || m.heaterHeld n || (m.load n).demand && (m.load n).on then m
    else (m.lsDemand n true).logIf (m.drivesLs n && (m.lsRefusal n).isSome && !((m.load n).demand && requester == 0)) evLsRefused (tgLoad n)
      [(n : Int), (requester : Int), ((m.lsRefusal n).getD 0 : Nat)]
  else if (m.load n).demand then m.lsDemand n false else m

/-! ### Protection -/

/-- LS_CURRENT_LIMIT (R248): the switch current reaches I_LIMIT, or falls below it; measured current in mA. -/
def execLsCurrentLimit (t ls current : Nat) (s : State) : Host.Outcome State Fault Refusal :=
  happen (1 ≤ ls && ls ≤ 16) t (fun m => if m.conducts ls then m.setLoad ls fun x =>
    { x with limiting := m.cfg (loadCfg ls + 4) 2 ≤ current } else m) s

/-- LS_THERMAL_SHUTDOWN (R248): the junction reaches the shutdown level; after RETRY_MAX retries, or in a hold window
(R264), the channel latches. Junction temperature in 0.1 °C: 165 °C is the lowest shutdown level. -/
def execLsThermalShutdown (t ls : Nat) (temp : Int) (s : State) : Host.Outcome State Fault Refusal :=
  happen (1 ≤ ls && ls ≤ 16) t (fun m =>
    let x := m.load ls
    if !m.conducts ls || temp < 1650 then m else
    let latch : Bool := x.held || m.cfg (loadCfg ls + 10) 1 ≤ x.retries
    let m1 := (m.lsOff ls).setLoad ls fun y =>
      { y with thermalOff := !latch, latched := y.latched || latch, shutdowns := sat max16 y.shutdowns }
    ((m1.saturated max16 x.shutdowns (tgLoad ls) 0x0603 22).logIf (!latch) evLsThermalOff (tgLoad ls)
      [(ls : Int), temp, (x.retries : Int)]).logIf latch evLsLatched (tgLoad ls) [(ls : Int), temp, flagItem x.held]) s

/-- LS_COOLED (R248, R250, R264): cooled by 20 K, the channel switches on again with one retry when its demand is on and
nothing holds it off; below VLS_CUT it does so at recovery. -/
def execLsCooled (t ls : Nat) (s : State) : Host.Outcome State Fault Refusal :=
  happen (1 ≤ ls && ls ≤ 16) t (fun m =>
    let x := m.load ls
    if !x.thermalOff || x.latched then m else
    let m1 := m.setLoad ls fun y => { y with thermalOff := false }
    let m2 := m1.lsFollow ls
    m2.setLoad ls fun y => { y with retries := if y.on then min 15 (y.retries + 1) else y.retries, oweRetry := y.cut && y.demand }) s

/-- LS_RETRY_RESET (R249): 60 s on without a thermal shutdown. -/
def execLsRetryReset (t ls : Nat) (s : State) : Host.Outcome State Fault Refusal :=
  happen (1 ≤ ls && ls ≤ 16) t (fun m =>
    if (m.load ls).on && m.due (m.load ls).onSince (seconds 60) then m.setLoad ls fun x => { x with retries := 0 } else m) s

/-! ### Generators and pins -/

/-- The off-edge of a GENERATOR or PIN channel that conducted before it: a turn-off, after which a channel whose budget it spent is off, and
under MODULE_SPENT any is held off (R253). -/
def ModuleState.turnOffEdge (m : ModuleState) (n : Nat) (conducted : Bool) : ModuleState :=
  let m1 := m.setLoad n fun x => { x with
    limiting := false, longAt := if x.on && m.due x.phaseAt 100000 then some m.now else x.longAt }
  if conducted && !m1.conducts n then
    let m2 := m1.spillway n
    if (m2.load n).spent then m2.setLoad n fun x => { x with on := false, offSince := m.now }
    else if m2.loadCommon.moduleSpent then m2.setLoad n fun x => { x with on := false, offSince := m.now, heldSpent := true }
    else m2
  else m1

/-- A GENERATOR channel's on-phase begins, or ends. -/
def ModuleState.setPhase (m : ModuleState) (n : Nat) (on : Bool) : ModuleState :=
  if on then m.setLoad n fun x => { x with phaseOn := true, phaseAt := if x.phaseOn then x.phaseAt else m.now }
  else (m.setLoad n fun x => { x with phaseOn := false }).turnOffEdge n (m.conducts n)

/-- The DUTY and FREQ that a copy of a generator uses (R260), and the start of its period. -/
def ModuleState.pgUsed (m : ModuleState) (copy pg : Nat) : Nat × Nat := m.loadCommon.pgUse.getD (4 * copy + pg - 1) (0, 100)
def ModuleState.pgStart (m : ModuleState) (copy pg : Nat) : Option Nat := m.loadCommon.pgAt.getD (4 * copy + pg - 1) none

/-- A channel of a generator is in its on-phase as the period starts: the on-time that PHASE delays wraps into it (R260). -/
def ModuleState.onAtStart (m : ModuleState) (n duty : Nat) : Bool := (4096 - m.cfg (loadCfg n + 8) 2) % 4096 < duty

/-- A point of a generator's period, in 1/4 096, reached by a clock that may be 2 000 ppm off (R260), times in whole ns. -/
def pgReached (elapsed freq point : Nat) : Bool :=
  let e := elapsed * 4096 * freq
  let d := point * 1000000000
  decide ((e : Int) - d ≤ ((d * 2000 / 1000000 + 4096 * freq : Nat) : Int)) && decide ((d : Int) - e ≤ ((d * 2000 / 1000000 + 4096 * freq : Nat) : Int))

/-- A period of a generator is over, or none has started. -/
def pgOver (now freq : Nat) : Option Nat → Bool
  | none => true
  | some at_ => decide (4096 * 1000000000 ≤ (now - at_) * 4096 * freq) || pgReached (now - at_) freq 4096

/-- The channels in GENERATOR mode that follow a generator in its copy on an island. -/
def ModuleState.pgChannels (m : ModuleState) (copy pg : Nat) : List Nat :=
  nums16.filter fun n => m.loadMode n == 2 && m.loadSource n + 1 == pg && (decide (n ≤ 8) == (copy == 0))

/-- The copy of a generator starts a period (R260): its setting takes effect, and its channels are in their on-phase or not. -/
def ModuleState.pgBegin (m : ModuleState) (copy pg : Nat) : ModuleState :=
  let g := m.loadCommon.pg.getD (pg - 1) (0, 100)
  let m1 := m.setLoads fun c => { c with
    pgUse := upd c.pgUse (4 * copy + pg - 1) fun _ => g, pgAt := upd c.pgAt (4 * copy + pg - 1) fun _ => some m.now }
  m1.each (m.pgChannels copy pg) fun m n => m.setPhase n (m.onAtStart n g.1)

/-- Channels of the copy of a generator reach the start of their on-phase, PHASE after the period's start, or its end, the on-time
later (R260). -/
def ModuleState.pgEdges (m : ModuleState) (copy pg rise fall at_ : Nat) : ModuleState :=
  let g := m.pgUsed copy pg
  let near := fun (point : Nat) => pgReached (m.now - at_) g.2 point
  m.each (m.pgChannels copy pg) fun m n =>
    let phase := m.cfg (loadCfg n + 8) 2
    let m1 := if bit fall (n - 1) && near ((phase + g.1) % 4096) then m.setPhase n false else m
    if bit rise (n - 1) && g.1 != 0 && near phase then m1.setPhase n true else m1

/-- PG_PERIOD_EDGE (R260): the copy of a generator on M1 (0) or M2 (1) starts a period, or channels of that island reach the start or the
end of their on-phase in the period; bit n - 1 names LSn. An edge that PHASE, DUTY and FREQ do not give at that time is none. -/
def execPgPeriodEdge (t copy pg : Nat) (start : Bool) (rise fall : Nat) (s : State) : Host.Outcome State Fault Refusal :=
  happen (copy < 2 && 1 ≤ pg && pg ≤ 4) t (fun m =>
    if !m.runs (if copy = 0 then isM1 else isM2) then m
    else if start then if pgOver m.now (m.pgUsed copy pg).2 (m.pgStart copy pg) then m.pgBegin copy pg else m
    else match m.pgStart copy pg with
      | some at_ => m.pgEdges copy pg rise fall at_
      | none => m) s

/-- LSPWM_EDGE (R260): the channels in PIN mode follow their pin, active high. -/
def execLspwmEdge (t pin : Nat) (level : Bool) (s : State) : Host.Outcome State Fault Refusal :=
  happen (pin < 4) t (fun m =>
    if m.loadCommon.pins.getD pin false == level then m else
    let m1 := m.setLoads fun c => { c with pins := upd c.pins pin fun _ => level }
    m1.each (nums16.filter fun n => m.loadMode n == 3 && m.loadSource n == pin) fun x n =>
      if level then x.setLoad n fun y => { y with phaseAt := x.now } else x.turnOffEdge n (m.conducts n)) s

/-! ### Diagnosis -/

/-- An on-state current, in units of which 25 mA have k, as the channel reads it: the fine range reads 25 mA above that (R257). -/
def ModuleState.lsReads (m : ModuleState) (n k current : Nat) : Nat := if bit (m.loadFlags n) 1 then min k current else current

/-- The channel's current is measured (R257): it has been on for 50 ms, and within them in GENERATOR and PIN mode an on-phase lasted for at
least 100 µs. -/
def ModuleState.lsMeasured (m : ModuleState) (n : Nat) : Bool :=
  let x := m.load n
  x.on && m.due x.onSince (ms 50) &&
    (m.loadMode n == 1 || (m.inPhase n && m.due x.phaseAt 100000) || x.longAt.any fun t => decide (m.now ≤ t + ms 50))

/-- LS_OPEN_LOAD_TIMEOUT (R257): the on-state current, in 0.1 mA, has been on one side of OL_THRESH for 50 ms. -/
def execLsOpenLoadTimeout (t ls amount : Nat) (s : State) : Host.Outcome State Fault Refusal :=
  happen (1 ≤ ls && ls ≤ 16) t (fun m =>
    let th := m.cfg (loadCfg ls + 6) 2
    let current := m.lsReads ls 250 amount
    if th = 0 ∨ !m.lsMeasured ls then m
    else if current < th then
      (m.setLoad ls fun x => { x with openOn := true }).logIf (!(m.load ls).openOn) evLsOpenLoad (tgLoad ls) [(ls : Int), 0, (current : Int)]
    else if th < current then m.setLoad ls fun x => { x with openOn := false }
    else m) s

/-- LS_OFF_DIAG_JUDGED (R258, R259, R261): the terminal voltage, in 0.1 V, of a channel that has been off for 10 ms, judged after 10 ms. -/
def execLsOffDiagJudged (t ls volt : Nat) (s : State) : Host.Outcome State Fault Refusal :=
  happen (1 ≤ ls && ls ≤ 16) t (fun m =>
    let x := m.load ls
    let st := m.lsState ls
    if !(st == 0 || st == 3 || st == 4 || st == 5) || !m.due x.offSince (ms 10) then m
    else if 80 ≤ volt then
      if x.partnerOn then m.setLoad ls fun x => { x with expectedHigh := true, highOff := false }
      else (m.setLoad ls fun x => { x with highOff := true, expectedHigh := false }).logIf (!x.highOff) evLsHighWhileOff (tgLoad ls)
        [(ls : Int), (volt : Int)]
    else if !bit (m.loadFlags ls) 0 then m.setLoad ls fun x => { x with highOff := false, expectedHigh := false }
    else if 20 ≤ volt ∧ volt ≤ 55 then
      (m.setLoad ls fun x => { x with openOff := true, highOff := false, expectedHigh := false }).logIf (!x.openOff) evLsOpenLoad
        (tgLoad ls) [(ls : Int), 1, (volt : Int)]
    else if volt < 20 then m.setLoad ls fun x => { x with openOff := false, highOff := false, expectedHigh := false }
    else m) s

/-! ### VLS sag -/

/-- A channel cut by VLS (R263): it switches off, its demand is kept; when the turn-off spends its budget it is not
restored (R264). -/
def ModuleState.cutLs (m : ModuleState) (n : Nat) : ModuleState :=
  if (m.load n).on then (m.lsOff n).setLoad n fun x => { x with cut := !x.spent } else m

/-- VLS_LEVEL_CHANGE (R263 Table 4): VLS in 0.1 V against its thresholds with their hysteresis. -/
def execVlsLevelChange (t vls : Nat) (s : State) : Host.Outcome State Fault Refusal :=
  happen true t (fun m =>
    let c := m.loadCommon
    let low : Bool := if c.vlsLow then vls ≤ 168 else vls < 160
    let cut : Bool := if c.vlsCut then vls ≤ 135 else vls < 120
    let m1 := (m.setLoads fun c => { c with vls := vls, vlsLow := low, vlsCut := cut }).logIf (low && !c.vlsLow) evVlsLow tgModule
      [(vls : Int)]
    let mask (p : Nat → Bool) : Nat := ((nums16.filter p).map fun n => 2 ^ (n - 1)).sum
    if cut && !c.vlsCut then
      (m1.each nums16 fun m n => m.cutLs n).log evVlsCut tgModule [(mask fun n => (m.load n).on : Nat)]
    else if !cut && c.vlsCut then
      let back := fun n => (m.load n).cut && (m.load n).demand
      ({ m1 with loads := updAll m1.loads fun x => { x with cut := x.cut && x.demand } }.setLoads fun c =>
        { c with restartAt := m.now }).log evVlsRestored tgModule [(mask back : Nat)]
    else m1) s

/-- VLS_RESTART_STEP (R263): 200 µs after the last, the next channel in VLS_CUT whose demand is on switches on again. -/
def execVlsRestartStep (t : Nat) (s : State) : Host.Outcome State Fault Refusal :=
  happen true t (fun m =>
    if m.loadCommon.vlsCut || !m.due m.loadCommon.restartAt 200000 then m
    else match nums16.find? fun n => (m.load n).cut && (m.load n).demand with
      | none => m
      | some n =>
        let m1 := ((m.setLoad n fun x => { x with cut := false }).lsFollow n).setLoads fun c => { c with restartAt := m.now }
        m1.setLoad n fun x => { x with retries := if x.on && x.oweRetry then min 15 (x.retries + 1) else x.retries, oweRetry := false }) s

/-! ### Commands -/

/-- A channel target that is not DISABLED, or the module (R267 Table 9). -/
def loadThere (m : ModuleState) (kind idx : Nat) : Bool := targetThere m kind idx && (kind != 3 || m.loadMode idx != 0)

/-- The status that refuses an LS_SET, in the order of R624 (R243, R244, R246, R253, R267). -/
def ModuleState.lsSetFails (m : ModuleState) (role : Option Role) (n : Nat) (on : Bool) : Option Nat :=
  if m.notOnDuty then some stNotOnDuty
  else if on && !m.reset.armed then some stNotArmed
  else if m.loadOwner n != 0 && !m.lentTo (m.loadOwner n) role then some stChannelOwned
  else if on && m.heaterHeld n then some stWrongState
  else if on then
    match m.lsRefusal n with
    | some 0 => some (if (m.load n).spent || m.loadCommon.moduleSpent then stBudgetSpent else stChannelLatched)
    | some _ => some stBudgetSpent
    | none => none
  else none

def lsSetBody (c : Cmd) (m : ModuleState) : Result :=
  let on : Bool := getN c.data 0 1 == 1
  match m.lsSetFails c.role c.idx on with
  | some st => refuse m st
  | none => { status := if on && m.loadCommon.vlsCut then stDeferred else stOk, acts := [loadChannel c.idx], m := m.lsDemand c.idx on }

def lsSetSpec : CmdSpec :=
  { opcode := 0x0600, kinds := [3], roles := .only [.operator, .maintainer], size := (· == 4), sched := true, present := loadThere,
    fields := fun b => getN b 0 1 < 2 && getN b 1 3 == 0, body := lsSetBody }

/-- LS_SET (R246, R265, R267). -/
def execLsSet (p : Packet) (s : State) : Host.Outcome State Fault Refusal := .next (submit lsSetSpec p s)

/-- The status that refuses one channel of an LS_SET_MULTI: that of LS_SET to it (R266). -/
def ModuleState.lsMultiFails (m : ModuleState) (role : Option Role) (n : Nat) (on : Bool) : Option Nat :=
  if m.loadMode n = 0 then some stTargetAbsent else m.lsSetFails role n on

/-- Bit mask of the numbers 1 to 16 that satisfy a test. -/
def maskOf (p : Nat → Bool) : Nat := ((nums16.filter p).map fun n => 2 ^ (n - 1)).sum

/-- The demands of an LS_SET_MULTI set together (R266): as nothing that a turn-off brings holds back a turn-on of the same command, the
turn-ons are taken first. -/
def ModuleState.lsSetAll (m : ModuleState) (on off : List Nat) : ModuleState :=
  (m.each on fun m n => m.lsDemand n true).each off fun m n => m.lsDemand n false

/-- Channels of the actions for a mask: one on M1.LS for LS1 to LS8, one on M2.LS for LS9 to LS16 (R266). -/
def lsActs (mask : Nat) : List Channel :=
  (if mask % 256 = 0 then [] else [Channel.m1ls]) ++ (if mask / 256 = 0 then [] else [Channel.m2ls])

def lsSetMultiBody (c : Cmd) (m : ModuleState) : Result :=
  let on := getN c.data 0 2
  let off := getN c.data 2 2
  if nums16.any fun n => bit on (n - 1) && bit off (n - 1) then refuse m stValueOutOfRange
  else
    let named := fun n => bit on (n - 1) || bit off (n - 1)
    let fails := fun n => named n && (m.lsMultiFails c.role n (bit on (n - 1))).isSome
    let done := fun n => named n && !fails n
    let data := leBytes 2 (maskOf done) ++ leBytes 2 (maskOf fails)
    let set := m.lsSetAll (nums16.filter fun n => done n && bit on (n - 1)) (nums16.filter fun n => done n && bit off (n - 1))
    match nums16.find? fails with
    | some n => if nums16.any done then { data, acts := lsActs (on + off), m := set }
      else { status := (m.lsMultiFails c.role n (bit on (n - 1))).getD 0, data, m }
    | none => { data, acts := lsActs (on + off), m := set }

def lsSetMultiSpec : CmdSpec :=
  { opcode := 0x0601, roles := .only [.operator, .maintainer], size := (· == 8), sched := true, fields := fun b => getN b 4 4 == 0,
    body := lsSetMultiBody }

/-- LS_SET_MULTI (R266). -/
def execLsSetMulti (p : Packet) (s : State) : Host.Outcome State Fault Refusal := .next (submit lsSetMultiSpec p s)

/-- The causes of one channel that a clear removes, with its junction temperature in 0.1 °C: the latch, the spent state
(R250, R254). -/
def ModuleState.lsClearable (m : ModuleState) (n : Nat) (temp : Int) : Bool × Bool :=
  let x := m.load n
  (x.latched && temp < 1300, x.spent && x.accumNow m.now < 250 && !m.loadCommon.moduleSpent)

/-- A channel cleared of the causes that can be removed; with none left it follows its demand (R250, R254). -/
def ModuleState.lsClear (m : ModuleState) (n : Nat) (temp : Int) : ModuleState :=
  let c := m.lsClearable n temp
  if !(c.1 || c.2) then m else
  let m1 := (m.setLoad n fun x =>
    { x with latched := x.latched && !c.1, spent := x.spent && !c.2, retries := 0 }).log evLsCleared (tgLoad n)
      [(n : Int), (bitOf c.1 0 + bitOf c.2 1 : Nat)]
  m1.lsFollow n

/-- LS_CLEAR: the junction temperatures are measured values (log entry 20). -/
def lsClearBody (c : Cmd) (m : ModuleState) : Result :=
  let temp := fun n => signed 16 (Config.freeValue (m.free + n) % 65536)
  let m0 := { m with free := m.free + 17 }
  if c.kind = 3 then
    let k := m.lsClearable c.idx (temp c.idx)
    let m1 := m0.lsClear c.idx (temp c.idx)
    let clean := !(m1.load c.idx).latched && !(m1.load c.idx).spent
    let one := 2 ^ (c.idx - 1)
    if k.1 || k.2 then
      { data := leBytes 2 (if clean then one else 0) ++ leBytes 2 (if clean then 0 else one), acts := [loadChannel c.idx], m := m1 }
    else { status := stWrongState, data := leBytes 2 0 ++ leBytes 2 one, m }
  else
    let ends := m.loadCommon.moduleSpent && m.loadCommon.accumNow 1 m.now < 1500
    let m1 := (m0.setLoads fun c => { c with moduleSpent := c.moduleSpent && !ends }).logIf ends evLsCleared tgModule [0, 4]
    let m2 := m1.each nums16 fun m n => m.lsClear n (temp n)
    let m3 := if ends then m2.each nums16 fun m n => if (m.load n).heldSpent then m.lsFollow n else m else m2
    let had := fun n => (m.load n).latched || (m.load n).spent
    let clean := fun n => had n && !(m3.load n).latched && !(m3.load n).spent
    let data := leBytes 2 (maskOf clean) ++ leBytes 2 (maskOf fun n => had n && !clean n)
    if ends || nums16.any (fun n => (m1.lsClearable n (temp n)).1 || (m1.lsClearable n (temp n)).2) then
      { data, acts := [.m1ls, .m2ls], m := m3 }
    else { status := stWrongState, data, m }

def lsClearSpec : CmdSpec :=
  { opcode := 0x0602, kinds := [3, 0], roles := .only [.maintainer], size := (· == 0), present := loadThere, body := lsClearBody }

/-- LS_CLEAR (R250, R254, R264). -/
def execLsClear (p : Packet) (s : State) : Host.Outcome State Fault Refusal := .next (submit lsClearSpec p s)

/-- A load-channel status entry (Table 12) with its measured current and junction temperature. -/
def ModuleState.lsEntry (m : ModuleState) (current temp n : Nat) : List Byte :=
  let x := m.load n
  let k := m.loadCommon
  leBytes 1 n ++ leBytes 1 (m.lsState n) ++ leBytes 1 (bitOf x.demand 0) ++
    leBytes 1 (bitOf k.moduleSpent 7 + bitOf k.vlsLow 6 + bitOf x.expectedHigh 5 + bitOf x.highOff 4 + bitOf x.openOff 3 +
      bitOf x.openOn 2 + bitOf (m.loadOwner n != 0) 1) ++
    leBytes 2 (m.lsReads n 25 current) ++ leBytes 2 temp ++ leBytes 1 x.retries ++ zeros 1 ++ leInt 2 (x.accumNow m.now).floor ++
    leBytes 2 x.lastClamp ++ leInt 2 (k.accumNow n m.now).floor ++ leBytes 4 x.turnOffs ++ leBytes 2 x.shutdowns ++ zeros 2

/-- The islands whose channels a status or configuration read covers. -/
def lsNeeds (c : Cmd) : List Channel := if c.kind = 0 then [.m1ls, .m2ls] else [loadChannel c.idx]

def lsStatusSpec : CmdSpec :=
  { opcode := 0x0603, kinds := [3, 0], roles := .all, size := (· == 0),
    body := fun c m => measureFrom (lsNeeds c) m 34 fun v => entries c nums16 fun n => m.lsEntry (v (2 * n)) (v (2 * n + 1)) n }

/-- LS_STATUS (R265). -/
def execLsStatus (p : Packet) (s : State) : Host.Outcome State Fault Refusal := .next (submit lsStatusSpec p s)

def readLsConfigSpec : CmdSpec :=
  { opcode := 0x0604, kinds := [3, 0], roles := .all, size := (· == 0),
    body := fun c m => readFrom (lsNeeds c) m (entries c nums16 fun n => m.cfgEntry (loadCfg n) 16) }

/-- READ_LS_CONFIG (R265). -/
def execReadLsConfig (p : Packet) (s : State) : Host.Outcome State Fault Refusal := .next (submit readLsConfigSpec p s)

def pgSetBody (c : Cmd) (m : ModuleState) : Result :=
  let duty := getN c.data 2 2
  let freq := getN c.data 4 4
  if 4095 < duty ∨ freq < 10 ∨ 25000 < freq then refuse m stValueOutOfRange
  else if m.notOnDuty then refuse m stNotOnDuty
  else { acts := [.m1ls, .m2ls], m := m.setLoads fun k => { k with pg := upd k.pg (getN c.data 0 1) fun _ => (duty, freq) } }

def pgSetSpec : CmdSpec :=
  { opcode := 0x0605, roles := .only [.operator, .maintainer], size := (· == 8), sched := true,
    fields := fun b => getN b 0 1 < 4 && getN b 1 1 == 0, body := pgSetBody }

/-- PG_SET (R260): in use from the next period of each copy. -/
def execPgSet (p : Packet) (s : State) : Host.Outcome State Fault Refusal := .next (submit pgSetSpec p s)

def pgStatusSpec : CmdSpec :=
  { opcode := 0x0606, roles := .all, size := (· == 0),
    body := fun _ m => readFrom [.m1ls, .m2ls] m ([0, 1, 2, 3].flatMap fun i =>
      let g := m.loadCommon.pg.getD i (0, 100)
      leBytes 1 i ++ zeros 1 ++ leBytes 2 g.1 ++ leBytes 4 g.2) }

/-- PG_STATUS (R265). -/
def execPgStatus (p : Packet) (s : State) : Host.Outcome State Fault Refusal := .next (submit pgStatusSpec p s)

end Sys2Proof.Machine
end

