-- ==== Sys2Proof/Machine/Planner.lean ====
section
/-! DEFINITION. The jerk-limited trajectory of R81 to R83: ramps between two speeds, the profile of a move over a distance, the junction
speeds of R86 and R87, and the position of a trajectory at an instant (R98). Everything is exact in rational numbers but for square roots,
which are taken from below; the acceleration is 0 at joints and wherever a trajectory holds a speed (log entry 7). -/

namespace Sys2Proof.Machine

/-! ### Search -/

/-- The number grown bit by bit, from the bit of weight 2^(n−1) down, as long as the predicate holds. -/
def grow (P : Nat → Bool) : Nat → Nat → Nat
  | 0, r => r
  | n + 1, r => grow P n (if P (r + 2 ^ n) then r + 2 ^ n else r)

/-- The square root of a natural number, from below. -/
def isqrt (n : Nat) : Nat := grow (fun r => r * r ≤ n) (n.log2 / 2 + 1) 0

/-- A square root from below, on a grid of 2^(−20); a number below the grid's square stands for its own root. -/
def sqrtDown (x : Rat) : Rat :=
  let r : Rat := (isqrt (x * 2 ^ 40).floor.toNat : Nat) / 2 ^ 20
  if r = 0 then x else r

/-- The greatest speed from `lo` to `hi`, in steps of 2^(−16) above `lo`, for which a predicate holds that holds at `lo`. -/
def greatest (P : Rat → Bool) (lo hi : Rat) : Rat :=
  if P hi then hi
  else
    let at_ := fun (k : Nat) => lo + (k : Rat) / 65536
    at_ (grow (fun k => at_ k ≤ hi && P (at_ k)) (((hi - lo) * 65536).floor.toNat.log2 + 1) 0)

/-! ### Pieces -/

/-- The state after a time under a rate of change of acceleration. -/
def Kin.after (k : Kin) (jerk t : Rat) : Kin :=
  { x := k.x + k.v * t + k.a * t * t / 2 + jerk * t * t * t / 6, v := k.v + k.a * t + jerk * t * t / 2, a := k.a + jerk * t }

/-- The state after a time within a piece. -/
def Piece.run (c : Piece) (k : Kin) (t : Rat) : Kin := { k with a := c.acc }.after c.jerk t

/-- The state after every piece. -/
def runAll (l : List Piece) (k : Kin) : Kin := l.foldl (fun k c => c.run k c.dur) k

/-- The state after a time; beyond the last piece, that at its end. -/
def runFor : List Piece → Kin → Rat → Kin
  | [], k, _ => k
  | c :: r, k, t => if t < c.dur then c.run k t else runFor r (c.run k c.dur) (t - c.dur)

/-- How long pieces last. -/
def spanOf (l : List Piece) : Rat := l.foldl (fun s c => s + c.dur) 0

/-- The distance that pieces cover from a speed. -/
def lengthOf (l : List Piece) (v a : Rat) : Rat := (runAll l ⟨0, v, a⟩).x

/-! ### Ramps -/

/-- Rates of a move: acceleration where its speed rises, deceleration where it falls, jerk (R81). -/
structure Rates where
  up : Rat
  down : Rat
  jerk : Rat
  deriving DecidableEq, Repr

/-- Magnitude of a rational. -/
def magnitude (x : Rat) : Rat := if x < 0 then -x else x

/-- The speed once an acceleration has been brought to 0 under a jerk. -/
def settled (v a jerk : Rat) : Rat := v + a * magnitude a / (2 * jerk)

/-- From an acceleration b, in the direction s of the speed change, to a speed that is d away: at most `limit` is taken up, held, and
brought to 0 (phases 1 to 3 of the S-curve). -/
def change (s b d limit jerk : Rat) : List Piece :=
  let top := if limit < b then limit else min limit (max b (sqrtDown (jerk * d + b * b / 2)))
  let turn := if b ≤ top then s * jerk else -(s * jerk)
  [⟨magnitude (top - b) / jerk, s * b, turn⟩,
   ⟨(d - magnitude (top * top - b * b) / (2 * jerk) - top * top / (2 * jerk)) / top, s * top, 0⟩,
   ⟨top / jerk, s * top, -(s * jerk)⟩]

/-- From speed v and acceleration a to speed u with acceleration 0 (R81): an acceleration that runs the other way, or too far, is brought to
0 first. One that would carry the axis through rest is kept until rest (only after a quick stop, R81). -/
def ramp (r : Rates) (v a u : Rat) : List Piece :=
  let w := settled v a r.jerk
  if w < 0 then
    ⟨v / magnitude a, a, 0⟩ :: (if u = 0 then [] else change 1 0 u r.up r.jerk)
  else if w = u then (if a = 0 then [] else [⟨magnitude a / r.jerk, a, if 0 < a then -r.jerk else r.jerk⟩])
  else
    let s : Rat := if w < u then 1 else -1
    let limit := if w < u then r.up else r.down
    if s * a < 0 then
      ⟨magnitude a / r.jerk, a, s * r.jerk⟩ :: change s 0 (magnitude (u - w)) limit r.jerk
    else change s (magnitude a) (magnitude (u - v)) limit r.jerk

/-- To a speed p and on to the end speed, with whatever distance is left travelled at p. -/
def through (r : Rates) (v a len u p : Rat) : List Piece :=
  let on := ramp r v a p
  let off := ramp r p 0 u
  let left := len - lengthOf on v a - lengthOf off p 0
  on ++ (if 0 < p ∧ 0 < left then [⟨left / p, 0, 0⟩] else []) ++ off

/-- Speed p is not too high for the distance. -/
def fits (r : Rates) (v a len u p : Rat) : Bool := decide (lengthOf (ramp r v a p) v a + lengthOf (ramp r p 0 u) p 0 ≤ len)

/-- The trajectory over a distance from speed v and acceleration a to speed u, at most at a top speed (R81): its peak is the greatest speed
that fits. None when even the ramp straight to u is longer, or when the present acceleration cannot be brought to 0 before rest. -/
def profile (r : Rates) (v a len u top : Rat) : Option (List Piece) :=
  let w := settled v a r.jerk
  if w < 0 ∨ len < lengthOf (ramp r v a u) v a then none
  else
    let ok := fits r v a len u
    let peak :=
      if ok top then top
      else if u ≤ w ∧ w ≤ top ∧ ok w then greatest ok w top
      else if u ≤ w then greatest ok u (min w top)
      else greatest ok u top
    if peak = 0 then
      let direct := ramp r v a 0
      let left := len - lengthOf direct v a
      let rest := fits r 0 0 left 0
      let p := greatest rest 0 top
      some (direct ++ if 0 < left then through r 0 0 left 0 p else [])
    else some (through r v a len u peak)

/-- To rest under DECEL and jerk (R95), at a distance that is not shorter than the stopping distance: what is over is travelled at the
speed held once the acceleration is 0. -/
def halting (r : Rates) (v a len : Rat) : List Piece :=
  (profile r v a len 0 (max 0 (settled v a r.jerk))).getD (ramp r v a 0)

/-- To rest at once under one deceleration, without a jerk limit (QUICK, R95); what is over of the distance is travelled first. -/
def quickStop (decel v len : Rat) : List Piece :=
  let left := len - v * v / (2 * decel)
  if v = 0 then [] else (if 0 < left then [⟨left / v, 0, 0⟩] else []) ++ [⟨v / decel, -decel, 0⟩]

/-! ### Junction speeds -/

/-- A queued move as the junction passes see it: its length, its top speed, its rates, and whether its end is a joint that is passed. -/
structure Leg where
  len : Rat
  top : Rat
  rates : Rates
  joins : Bool
  deriving DecidableEq, Repr

/-- The highest speed at a joint, at most `cap`, from which a speed can be reached within a distance under DECEL and JERK (R86, 3). -/
def highestBefore (r : Rates) (u len cap : Rat) : Rat :=
  if cap ≤ u then cap else greatest (fun p => lengthOf (ramp r p 0 u) p 0 ≤ len) u cap

/-- The highest speed, at most `cap`, that can be reached within a distance under ACCEL and JERK from a speed and acceleration (R86, 4; R87). -/
def highestAfter (r : Rates) (v a len cap : Rat) : Rat :=
  let w := settled v a r.jerk
  if cap ≤ w then cap
  else if w < 0 then 0
  else
    let ok := fun p => decide (lengthOf (ramp r v a p) v a ≤ len)
    if ok w then greatest ok w cap else greatest ok 0 w

/-- Speeds at the ends of the legs, each low enough for every later joint and for rest at the last end (R86, 1 to 3). -/
def endSpeeds : List Leg → List Rat
  | [] => []
  | [_] => [0]
  | l :: n :: r =>
    let later := endSpeeds (n :: r)
    (if l.joins then highestBefore n.rates (later.headD 0) n.len (min l.top n.top) else 0) :: later

/-- The same lowered to what can be reached from the joint before (R86, 4), the first from the present speed and acceleration (R87). -/
def reachable : Rat → Rat → List Leg → List Rat → List Rat
  | v, a, l :: r, u :: us =>
    let w := if u = 0 then 0 else highestAfter l.rates v a l.len u
    w :: reachable w 0 r us
  | _, _, _, _ => []

/-- Junction speeds of a queue from the present speed and acceleration (R86, R87). -/
def junctions (v a : Rat) (l : List Leg) : List Rat := reachable v a l (endSpeeds l)

/-! ### A trajectory in time -/

/-- Length of a trajectory: from where it begins to where it ends. -/
def Plan.len (p : Plan) : Rat := p.dir * ((p.aim : Rat) - p.origin)

/-- The state at an instant in s: before the beginning that at the beginning, from the end on at the aim. -/
def Plan.kin (p : Plan) (t : Rat) : Kin :=
  if t ≤ p.since then p.begins
  else if spanOf p.pieces ≤ t - p.since then { runAll p.pieces p.begins with x := p.len }
  else runFor p.pieces p.begins (t - p.since)

/-- The instant of its end, s. -/
def Plan.ends (p : Plan) : Rat := p.since + spanOf p.pieces

/-- Ideal position at an instant. -/
def Plan.posAt (p : Plan) (t : Rat) : Rat := p.origin + p.dir * (p.kin t).x

/-- Signed speed at an instant in whole units/s, away from 0: 0 only where the trajectory stands. -/
def Plan.speedAt (p : Plan) (t : Rat) : Int := p.dir * (p.kin t).v.ceil

/-- Signed acceleration at an instant in whole units/s², towards 0. -/
def Plan.accelAt (p : Plan) (t : Rat) : Int :=
  let a := (p.kin t).a
  p.dir * (if 0 ≤ a then a.floor else -((-a).floor))

/-- Instant of tick n of 5 ns after a base in ns, s. -/
def tickInstant (base n : Nat) : Rat := ((base + 5 * n : Nat) : Rat) / 1000000000

/-- The tick nearest to the ideal time at which a position is reached, not before tick lo (R98): the first whose rounding span ends past it. -/
def Plan.tickOf (p : Plan) (base lo : Nat) (pos : Int) : Nat :=
  let reached := fun (n : Nat) => decide (p.dir * ((pos : Rat) - p.origin) ≤ (p.kin (((2 * base + 10 * n + 5 : Nat) : Rat) / 2000000000)).x)
  let last := ((p.ends - tickInstant base 0) * 200000000).ceil.toNat
  if reached lo then lo else grow (fun n => !reached n) ((last - lo).log2 + 1) lo + 1

end Sys2Proof.Machine
end

