-- ==== Sys2Proof/Machine/Motion.lean ====
section
/-! DEFINITION. Motion profiles and step timing (chapter 03): the move queue, its trajectories under the limits of R81,
the step timer and the rate multiplier, resolutions, stops, and the commands of R109; with the zone marks of R174 to R178,
which fire at steps. -/

namespace Sys2Proof.Machine

/-! ### Small things -/

/-- Sign of a number. -/
def signI (x : Int) : Int := if 0 < x then 1 else if x < 0 then -1 else 0

/-- A number kept between two bounds. -/
def clampI (lo hi x : Int) : Int := max lo (min hi x)

/-- A position kept in the signed 32-bit range (R75). -/
def wrap32 (x : Int) : Int := signed 32 (x % 4294967296).toNat

/-- An instant in s. -/
def secs (now : Nat) : Rat := (now : Rat) / 1000000000

/-- An axis is moving: a trajectory is under way, or a stop. -/
def Axis.moving (x : Axis) : Bool := x.plan.isSome || x.interval.isSome || x.cmdSpeed != 0 || x.stopping.isSome

/-! ### Bridges ordered on and off -/

/-- Pins whose sluices close when an axis is energised (R119): all four of a stepper, phase A of a DC axis, and phase B of a
DC_SOLENOID axis while its solenoid is on. -/
def ModuleState.pinsOn (m : ModuleState) (a : Nat) : Nat :=
  if m.stepper a then 15 else if m.axisMode a = 4 ∧ (m.drive a).solenoid.state ≠ 0 then 15 else 3

/-- The sluices of an axis may be closed (R119). -/
def ModuleState.mayClose (m : ModuleState) (a : Nat) : Bool :=
  m.reset.armed && m.populated a && m.axisMode a != 0 && (m.drive a).bridge != .latched && (!m.shared a || !m.notOnDuty)

/-- An axis that only a clear may release: latched, or braked under R143. -/
def Drive.stopped (d : Drive) : Bool := d.bridge == .latched || d.bridge == .braking

/-- A bridge that drives: enabled, and its sluices not on their way to open (R120). -/
def Drive.drives (d : Drive) : Bool := (d.bridge == .driving || d.bridge == .holding) && d.sluiceOrder != 0

/-- An axis energised: its sluices are ordered closed; the bridge is enabled at their read-back (R120). -/
def ModuleState.energise (m : ModuleState) (a : Nat) : ModuleState :=
  if m.mayClose a then
    m.setDrive a fun d =>
      { d with sluiceOrder := m.pinsOn a, openAt := none, openBAt := if m.pinsOn a / 4 = 0 then d.openBAt else none
               bridge := if d.sluiceOrder = 0 ∧ !d.stopped then .off else d.bridge }
  else m

/-- A bridge switched off and its sluices ordered open, a latch kept (R120), as is the braking that only a clear ends (R143): while its
sluices are closed it drives its phases in fast decay, and it is off once they are open. -/
def Drive.off (d : Drive) (now : Nat) : Drive :=
  { d with bridge := if d.stopped || (d.sluices != 0 && (d.bridge == .driving || d.bridge == .holding)) then d.bridge else .off
           sluiceOrder := 0, openAt := if d.sluices % 4 = 0 then none else some (d.openAt.getD now)
           openBAt := if d.sluices / 4 = 0 then none else some (d.openBAt.getD now), iaSet := 0, ibSet := 0
           holdRampAt := none, reentryAt := none, validatingAt := none, solenoid := {}, kept := .off }

/-- The bridge of an axis switched off. -/
def ModuleState.bridgeOff (m : ModuleState) (a : Nat) : ModuleState := m.setDrive a fun d => d.off m.now

/-! ### Positions declared invalid -/

/-- The portal that owns an axis hears that its position is no longer valid (row 4 of Table 4 of chapter 02). -/
def ModuleState.tellLost (m : ModuleState) (a : Nat) : ModuleState :=
  match m.doorOf a with
  | some p => m.setPortal p fun q => { q with lostPosition := true }
  | none => m

/-- The position of an axis is no longer valid (R166). -/
def ModuleState.unvalid (m : ModuleState) (a : Nat) : ModuleState :=
  if (m.axis a).posValid then (m.setAxis a fun x => { x with posValid := false, lost := true }).tellLost a else m

/-- The same under chapter 05, logged once with its cause (R184). -/
def ModuleState.invalidate (m : ModuleState) (a cause : Nat) : ModuleState :=
  (m.unvalid a).logIf (m.axis a).posValid evPositionInvalid (tgAxis a) [(a : Int), (cause : Int)]

/-- The portal that owns an axis hears of an axis fault (row 3 of Table 4 of chapter 02). -/
def ModuleState.tellFault (m : ModuleState) (a : Nat) : ModuleState :=
  match m.doorOf a with
  | some p => m.setPortal p fun q => { q with doorAxisFault := true }
  | none => match m.stepOf a with
    | some p => m.setPortal p fun q => { q with stepAxisFault := true }
    | none => m

/-- An axis without motion: its queue is empty and nothing is due. -/
def Axis.halt (x : Axis) (now : Nat) : Axis :=
  { x with queue := [], cmdSpeed := 0, cmdAccel := 0, plan := none, turning := false, replanAt := none, interval := none, intervals := [],
           intervalRest := 0, stopping := none, bound := none, slowTo := none, pausedAt := none, offAtRest := false, restSince := now,
           speedZeroSince := now }

/-! ### Ends of moves -/

/-- Where a move ends: its target; for VELOCITY the soft limit ahead, when limits are applied (R93). An axis that stands beyond that limit
travels back to it (log entry 131). -/
def ModuleState.moveEnd (m : ModuleState) (a : Nat) (v : Move) : Option Int :=
  match v.mode with
  | .velocity => if m.softLimits a then some (if 0 ≤ v.target then m.softMax a else m.softMin a) else none
  | _ => some v.target

/-- Where the trajectory of a move ends: the end of the move; for a VELOCITY move without one, the end of the 32-bit range (R75). -/
def ModuleState.wayEnd (m : ModuleState) (a : Nat) (v : Move) : Int :=
  (m.moveEnd a v).getD (if 0 ≤ v.target then 2147483647 else -2147483648)

/-- Position from which a RELATIVE target is counted (R85). -/
def ModuleState.lastEnd (m : ModuleState) (a : Nat) : Int :=
  match (m.axis a).queue.getLast? with
  | some v => (m.moveEnd a v).getD (m.axis a).cmdPos
  | none => (m.axis a).cmdPos

/-- The end of the moves that are joined to the head of a queue (R86). -/
def ModuleState.chainEnd (m : ModuleState) (a : Nat) : List Move → Option Int
  | [] => none
  | v :: r => if 0 < v.junction && !r.isEmpty then m.chainEnd a r else some (m.wayEnd a v)

/-- The greatest DECEL and JERK among the moves that are joined to the head of a queue: under them the axis comes to rest before their end (R91). -/
def joinedRates : List Move → Nat × Nat
  | [] => (0, 0)
  | v :: r =>
    let next := if 0 < v.junction then joinedRates r else (0, 0)
    (max v.decel next.1, max v.jerk next.2)

/-- Direction of travel: that of the trajectory; without one, that of the commanded speed. -/
def ModuleState.direction (m : ModuleState) (a : Nat) : Int :=
  match (m.axis a).plan with
  | some p => p.dir
  | none => signI (m.axis a).cmdSpeed

/-- Distance still to go on the trajectory. -/
def Axis.left (x : Axis) : Nat :=
  match x.plan with
  | some p => (p.aim - x.cmdPos).natAbs
  | none => 0

/-! ### Resolutions -/

/-- Coarsest resolution, not above a given one, whose increment divides a distance; 1/256 when none does (R106). -/
def dividing : Nat → Nat → Nat
  | 0, _ => 0
  | r + 1, d => if d % 4 ^ (r + 1) = 0 then r + 1 else dividing r d

/-- Resolution that AUTO wants at a speed, one level away from the present at most (R104); a FIXED mode keeps its own. -/
def ModuleState.wantRes (m : ModuleState) (a : Nat) (res : Nat) (speed : Nat) : Nat :=
  let mode := m.cfg (axisCfg a + 3) 1
  if mode ≠ 0 then mode - 1
  else
    let up := fun i => m.cfg (axisCfg a + 32 + 4 * i) 4
    let down := fun i => up i - up i * m.cfg (axisCfg a + 48 + 2 * i) 2 / 1000
    if res < 4 ∧ up res ≤ speed then res + 1
    else if 0 < res ∧ speed < down (res - 1) then res - 1
    else res

/-- The resolution after a step (R104 to R106): it changes only at a whole number of full steps; at the last such angle before
the target it is one whose increment divides the distance. -/
def ModuleState.nextRes (m : ModuleState) (a : Nat) : Nat :=
  let x := m.axis a
  if !m.stepper a then 0
  else if (m.drive a).angle % 256 ≠ 0 then x.res
  else
    let want := m.wantRes a x.res x.cmdSpeed.natAbs
    if 0 < x.left ∧ x.left < 256 ∧ x.left % 4 ^ want ≠ 0 then dividing want x.left else want

/-- The resolution with which a trajectory begins (R104 to R106): from rest at a whole number of full steps that of speed 0, else the
present one, as far as its increment reaches such an angle; where no such angle lies before the end of the trajectory, one whose
increment divides the distance (log entry 132). -/
def ModuleState.fitRes (m : ModuleState) (a : Nat) (rest : Bool) : Nat :=
  let x := m.axis a
  if !m.stepper a then 0
  else
    let angle := (m.drive a).angle % 256
    let r :=
      if angle ≠ 0 then dividing x.res angle
      else if rest then [0, 1, 2, 3].foldl (fun r _ => m.wantRes a r 0) x.res
      else x.res
    let edge := if angle = 0 then 255 else if (0 < m.direction a) != m.invert a then 256 - angle else angle
    if x.left ≤ edge then dividing r x.left else r

/-- Increment of the next step (R96). -/
def ModuleState.stepInc (m : ModuleState) (a : Nat) : Nat := if m.stepper a then 4 ^ (m.axis a).res else 1

/-! ### Trajectories -/

/-- The top speed of a move: its SPEED, lowered by a SLOW mark while it is the move in progress (R177), halved under VDRV_LOW (R555). -/
def Axis.topSpeed (x : Axis) (slow : Option Nat) (v : Move) : Nat :=
  let cap := match slow with
    | some c => min c v.speed
    | none => v.speed
  if x.halved then cap / 2 else cap

/-- Rates of a move (R81). -/
def Move.rates (v : Move) : Rates := { up := (v.accel : Rat), down := (v.decel : Rat), jerk := (v.jerk : Rat) }

/-- The queued moves as the junction passes see them, from a position on (R86): a joint is passed when the next move carries BLEND and runs
in the same direction, and this one is no VELOCITY move (R89). -/
def ModuleState.legs (m : ModuleState) (a : Nat) : Rat → Option Nat → List Move → List Leg
  | _, _, [] => []
  | start, slow, v :: r =>
    let e : Rat := (m.wayEnd a v : Rat)
    let ahead := match r with
      | [] => false
      | n :: _ => n.blend && v.mode != .velocity && decide (0 < (e - start) * ((m.wayEnd a n : Rat) - e))
    { len := magnitude (e - start), top := ((m.axis a).topSpeed slow v : Rat), rates := v.rates, joins := ahead } :: m.legs a e none r

/-- The junction speeds of the queue computed anew from where a trajectory begins (R86, R87); of an axis that has to turn round first, from
rest. -/
def ModuleState.joinQueue (m : ModuleState) (a : Nat) (k : Plan) : ModuleState :=
  let x := m.axis a
  match x.queue with
  | [] => m
  | v :: _ =>
    let toward := decide (0 ≤ k.dir * ((m.wayEnd a v : Rat) - k.origin)) && !x.turning
    let js := junctions (if toward then k.begins.v else 0) (if toward then k.begins.a else 0) (m.legs a k.origin x.slowTo x.queue)
    m.setAxis a fun x => { x with queue := (x.queue.zip js).map fun (y : Move × Rat) => { y.1 with junction := y.2 } }

/-- Where an axis is, and how fast, at present: on its trajectory, or as the registers of commanded position, speed and acceleration have
it. -/
def Axis.present (x : Axis) (now : Nat) : Plan :=
  match x.plan with
  | some p =>
    let k := p.kin (secs now)
    { p with since := secs now, origin := p.origin + p.dir * k.x, begins := { k with x := 0 }, pieces := [] }
  | none =>
    let dir : Int := if x.cmdSpeed < 0 then -1 else 1
    { dir, aim := x.cmdPos, since := secs now, origin := x.cmdPos, begins := ⟨0, (x.cmdSpeed.natAbs : Rat), ((dir * x.cmdAccel : Int) : Rat)⟩, pieces := [] }

/-- A trajectory to rest (R91, R95), under DECEL and jerk, or QUICK_DECEL without one: to the first commanded position on the way, in whole
increments, that is not nearer than the stopping distance; never past the end of the way it leaves (R91, R94): where that is nearer, under the
greatest rates of the moves flushed with that way (log entry 168). -/
def ModuleState.toRest (m : ModuleState) (a : Nat) (k : Plan) (decel0 jerk0 : Nat) : Plan :=
  let x := m.axis a
  let v := k.begins.v
  let need := fun (decel jerk : Nat) => if jerk = 0 then v * v / (2 * decel)
    else lengthOf (ramp { up := (decel : Rat), down := (decel : Rat), jerk := (jerk : Rat) } v k.begins.a 0) v k.begins.a
  let short : Bool := x.bound.any fun b => decide (k.dir * ((b : Rat) - k.origin) < need decel0 jerk0)
  let decel := if short then max decel0 x.boundRate.1 else decel0
  let jerk := if short && jerk0 != 0 then max jerk0 x.boundRate.2 else jerk0
  let r : Rates := { up := (decel : Rat), down := (decel : Rat), jerk := (jerk : Rat) }
  let dist := need decel jerk
  let inc := m.stepInc a
  let steps : Int := ((k.dir * (k.origin - x.cmdPos) + dist) / inc).ceil
  let whole : Int := x.cmdPos + k.dir * inc * steps
  let aim : Int := match x.bound with
    | some b => if k.dir * (b - whole) < 0 ∧ 0 ≤ k.dir * ((b : Rat) - k.origin) then b else whole
    | none => whole
  let len := k.dir * ((aim : Rat) - k.origin)
  { k with aim, pieces := if jerk = 0 then quickStop decel v len else halting r v k.begins.a len }

/-- A trajectory to the end of the move at the head of the queue (R81, R89, R90), none when the end does not lie ahead in the direction of
travel or cannot be reached without passing it. -/
def ModuleState.toMove (m : ModuleState) (a : Nat) (k : Plan) (v : Move) : Option Plan :=
  let x := m.axis a
  let e := m.wayEnd a v
  let still : Bool := k.begins.v == 0 && k.begins.a == 0
  let dir := if still then signI (e - x.cmdPos) else k.dir
  let len := dir * ((e : Rat) - k.origin)
  if len < 0 then none
  else (profile v.rates k.begins.v k.begins.a len v.junction (x.topSpeed x.slowTo v)).map fun l => { k with dir, aim := e, pieces := l }

/-- An axis follows a trajectory planned anew from where it is: the stop in progress, or the move at the head of its queue; towards a target
behind or nearer than the stopping distance it comes to rest first, under the greater of the two DECEL (R90, R91) and of the two JERK values
(log entry 7). A VELOCITY move of speed 0 brings the axis to rest (R89). -/
def ModuleState.plot (m : ModuleState) (a : Nat) (k : Plan) (rest : Bool) : ModuleState :=
  let m1 := m.joinQueue a k
  let x := m1.axis a
  let put := fun (p : Plan) (turning : Bool) =>
    let m2 := m1.setAxis a fun x => { x with plan := some p, turning }
    m2.setAxis a fun x => { x with res := m2.fitRes a rest }
  match x.stopping, x.queue with
  | none, v :: _ =>
    if v.mode == .velocity && v.target == 0 then put (m1.toRest a k v.decel v.jerk) false
    else match m1.toMove a k v with
      | some p => put p false
      | none =>
        let m2 := m1.setAxis a fun x => { x with stopRate := (max x.stopRate.1 v.decel, max x.stopRate.2 v.jerk) }
        put (m2.toRest a k (m2.axis a).stopRate.1 (m2.axis a).stopRate.2) true
  | _, _ => put (m1.toRest a k x.stopRate.1 x.stopRate.2) false

/-! ### The step timer -/

/-- The ticks at which the next steps of a trajectory are due, one increment after the other (R98). -/
def Plan.ticks (p : Plan) (base inc : Nat) : Nat → Int → Nat → List Nat
  | 0, _, _ => []
  | n + 1, pos, lo =>
    if p.aim = pos then []
    else
      let next := pos + p.dir * (min inc (p.aim - pos).natAbs : Nat)
      let t := p.tickOf base lo next
      t :: p.ticks base inc n next (t + 200)

/-- Differences of rising numbers. -/
def diffs : Nat → List Nat → List Nat
  | _, [] => []
  | t, u :: r => (u - t) :: diffs u r

/-- Increment of the multiplier for a rate in steps per second, at most 1 000 000 (R96): f × 2^48 / 50 000 000, truncated (R99). -/
def incrementOf (rate : Rat) : Nat := (max 0 (min 1000000 rate) * 2 ^ 48 / 50000000).floor.toNat

/-- The planned step rate of an axis at present, steps/s. -/
def ModuleState.stepRate (m : ModuleState) (a : Nat) : Rat :=
  match (m.axis a).plan with
  | some p => (p.kin (secs m.now)).v / m.stepInc a
  | none => 0

/-- The multiplier's accumulator run up to now (R99). -/
def Axis.phaseNow (x : Axis) (now : Nat) : Nat := (x.phaseAcc + x.increment * ((now - x.phaseAt) / 20)) % 2 ^ 48

/-- A chopper as its bridge is enabled (R127): in its on-time, the comparator ignored for BLANK. -/
def Chopper.started (now : Nat) : Chopper := { since := now, periodAt := now }

/-- A drive as a move begins: out of its standstill current, or out of the off state of a DC axis at rest, with its offsets at 0 (R127, R129
to R131); not while VDRV is absent (R132). -/
def Drive.toMove (d : Drive) (fed : Bool) (now : Nat) : Drive :=
  let d1 := { d with holdRampAt := none, warned := false }
  if fed && d.bridge == .off && d.sluices != 0 && d.sluices == d.sluiceOrder then
    { d1 with bridge := .driving, offA := 0, offB := 0, chopper := (.started now, d.chopper.2) }
  else if d.bridge == .holding then { d1 with bridge := .driving }
  else if d.kept == .holding then { d1 with kept := .driving }
  else d1

/-- A new move or standstill period may warn again (R139). -/
def ModuleState.newMove (m : ModuleState) (a : Nat) : ModuleState := m.setDrive a fun d => { d with warned := false }

/-- An axis comes to rest (R88, R95): nothing is due; its bridge switches off when that was ordered, or when the axis is lent
out by an ISOLATED portal (R79). -/
def ModuleState.rest (m : ModuleState) (a : Nat) : ModuleState :=
  let x := m.axis a
  let m1 := (m.setAxis a fun x =>
    { x with cmdSpeed := 0, cmdAccel := 0, plan := none, turning := false, replanAt := none, interval := none, intervals := [],
             intervalRest := 0, stopping := none, stopRate := (0, 0), bound := none, slowTo := none, offAtRest := false, restSince := m.now,
             speedZeroSince := m.now }).newMove a
  if x.queue.isEmpty && (x.offAtRest || (m.axisOwner a != 0 && (m.portal (m.axisOwner a)).door == .isolated)) then m1.bridgeOff a else m1

/-- The move in progress is complete (R88, R93): DONE_ID, MOVE_DONE, and SOFT_LIMIT_STOP for a VELOCITY move. -/
def ModuleState.completeMove (m : ModuleState) (a : Nat) : ModuleState :=
  let x := m.axis a
  match x.queue with
  | [] => m
  | v :: rest =>
    let soft := v.mode == .velocity
    (((m.setAxis a fun x => { x with
          queue := rest, doneId := v.id, began := (x.cmdPos, x.cmdSpeed), slowTo := none, bound := none
          softStop := x.softStop || soft }).newMove a).logIf soft evSoftLimitStop (tgAxis a) [(a : Int), x.cmdPos]).logIf
      v.notify evMoveDone (tgAxis a) [(a : Int), (v.id : Int), x.cmdPos]

/-- Moves at the head of the queue of an axis at rest whose end is where the axis stands are complete (R88, R93). -/
def ModuleState.skipDone (m : ModuleState) (a : Nat) : Nat → ModuleState
  | 0 => m
  | n + 1 =>
    match (m.axis a).queue with
    | [] => m
    | v :: _ => if m.moveEnd a v = some (m.axis a).cmdPos then (m.completeMove a).skipDone a n else m

/-- From the end of a trajectory the axis goes on along the next, at the speed and the ideal time at which it ended (R86, R90, R98). -/
def ModuleState.travelOn (m : ModuleState) (a : Nat) (p : Plan) : ModuleState :=
  let k := runAll p.pieces p.begins
  m.plot a { p with since := p.ends, origin := ((m.axis a).cmdPos : Rat), begins := ⟨0, k.v, 0⟩, pieces := [] } false

/-- The end of a trajectory is reached: a stop that has ended; an axis that turns round; a move that is complete, passed at its junction
speed or at rest; a VELOCITY move without an end, which is never complete (R88, R90, R95). -/
def ModuleState.arrived (m : ModuleState) (a : Nat) (p : Plan) : ModuleState :=
  let x := m.axis a
  match x.stopping, x.queue with
  | none, v :: rest =>
    if x.turning then
      let m1 := m.setAxis a fun x => { x with turning := false, bound := none, stopRate := (0, 0), cmdSpeed := 0, cmdAccel := 0 }
      if m.wayEnd a v = x.cmdPos then (if (m.moveEnd a v).isSome then m1.completeMove a else m1).rest a else m1.travelOn a p
    else if m.moveEnd a v = some x.cmdPos then
      if 0 < v.junction && !rest.isEmpty then (m.completeMove a).travelOn a p else (m.completeMove a).rest a
    else m.rest a
  | _, _ => m.rest a

/-- What the timer's 32 bits take of an interval (R98): whole, or so much that no remainder is below 200 (R97). -/
def intervalPart (i : Nat) : Nat := if i ≤ max32 then i else if i < max32 + 200 then i - 200 else max32

/-- The ticks at which the next n steps of an axis are due, on over the ends of trajectories at which travel goes on: a blended joint, a turn (R86,
R90, R97). f bounds how many ends are passed. -/
def ModuleState.ahead (m : ModuleState) (a base : Nat) : Nat → Nat → Nat → List Nat
  | 0, _, _ => []
  | f + 1, n, lo =>
    match (m.axis a).plan with
    | none => []
    | some p =>
      let t := p.ticks base (m.stepInc a) n (m.axis a).cmdPos lo
      if n ≤ t.length then t
      else
        let m1 := (m.setAxis a fun x => { x with cmdPos := p.aim }).arrived a p
        t ++ m1.ahead a base f (n - t.length) ((t.getLast?.map (· + 200)).getD lo)

/-- The running interval and n buffered ones loaded as the trajectory has them (R97, R98): each is the difference of two rounded step times, at
least 200; the part of one beyond 32 bits is kept for later. -/
def ModuleState.reload (m : ModuleState) (a n : Nat) : ModuleState :=
  let x := m.axis a
  match x.path, x.plan with
  | .timer, some _ =>
    let base := x.stepAt - 5 * x.stepTime
    let t := m.ahead a base 4 (n + 1) (max (x.stepTime + 200) ((m.now - base + 4) / 5))
    match diffs x.stepTime t with
    | [] => m.setAxis a fun x => { x with interval := none, intervals := [], intervalRest := 0 }
    | i :: r => m.setAxis a fun x =>
        { x with interval := some (intervalPart i), intervalRest := i - intervalPart i, intervals := r.map intervalPart }
  | _, _ => m.setAxis a fun x => { x with interval := none, intervals := [], intervalRest := 0 }

/-- The first step of a move from rest is issued 1 µs after the move reached the head (R83), and the trajectory runs from there to the
target. On the multiplier its first clock carries. -/
def ModuleState.depart (m : ModuleState) (a : Nat) (v : Move) : ModuleState :=
  let e := m.wayEnd a v
  let x := m.axis a
  let dir := signI (e - x.cmdPos)
  let m1 := m.setAxis a fun x => { x with
    began := (x.cmdPos, x.cmdSpeed), stepTime := 0, stepAt := m.now
    plan := some { dir, aim := e, since := secs m.now, origin := x.cmdPos, begins := ⟨0, 0, 0⟩, pieces := [] } }
  let m2 := m1.setAxis a fun x => { x with res := m1.fitRes a true }
  let k : Plan := { dir, aim := e, since := secs (m.now + 1000), origin := ((x.cmdPos + dir * m2.stepInc a : Int) : Rat), begins := ⟨0, 0, 0⟩, pieces := [] }
  let m3 := m2.plot a k true
  if x.path == .timer then m3.reload a 2
  else m3.setAxis a fun x => { x with increment := 1, phaseAcc := 2 ^ 48 - 1, phaseAt := m.now }

/-- An axis at rest starts the move at the head of its queue (R83), and its current returns to its moving value (R130); a move that ends where
the axis stands is complete at once, and a VELOCITY move of speed 0, or at the end of the 32-bit range, stays where it is (R75, R89). An axis
with a commanded speed and no trajectory goes on from there, without a move to rest (R476, R481). The move waits while its axis is paused (the pause of another axis
holds back none: log entry 133), while VDRV is absent (R132), while its angle is validated (R137), and without a step path (R103); an angle that awaits its validation gets
it first (R79). -/
def ModuleState.start (m : ModuleState) (a : Nat) : ModuleState :=
  let x := m.axis a
  let d := m.drive a
  if (x.queue.isEmpty && x.cmdSpeed == 0) || x.plan.isSome || x.stopping.isSome || x.pausedAt.isSome || x.path == .none ||
      d.validatingAt.isSome || d.bridge == .latched || d.bridge == .braking || (m.shared a && m.notOnDuty) then m
  else if d.awaitVal then (if d.sluiceOrder = 0 then m.energise a else m)
  else
    let ms := if x.cmdSpeed = 0 then m.skipDone a x.queue.length else m
    let begun := fun (m : ModuleState) (rate : Nat × Nat) => m.setAxis a fun x =>
      { x with began := (x.cmdPos, x.cmdSpeed), stepTime := 0, stepAt := m.now, phaseAcc := 0, phaseAt := m.now, stopRate := rate }
    match (ms.axis a).queue with
    | [] =>
      if x.cmdSpeed = 0 then ms.rest a
      else (((begun ms (m.maxDecel a, m.maxJerk a)).setAxis a fun x => { x with stopping := some .decel }).plot a (x.present m.now) false).reload a 2
    | v :: _ =>
      let m0 := ms.setDrive a fun d => d.toMove m.vdrvPresent m.now
      let m1 := if d.sluiceOrder &&& m.pinsOn a = m.pinsOn a then m0 else m0.energise a
      if !m.vdrvPresent then ms
      else if x.cmdSpeed ≠ 0 then
        ((begun m1 (v.decel, v.jerk)).plot a (x.present m.now) false).reload a 2
      else if (v.mode == .velocity && v.target == 0) || m.wayEnd a v == x.cmdPos then m1
      else m1.depart a v

/-- After a step: the end of the trajectory, if it is reached. -/
def ModuleState.afterStep (m : ModuleState) (a : Nat) : ModuleState :=
  match (m.axis a).plan with
  | some p => if (m.axis a).cmdPos = p.aim then m.arrived a p else m
  | none => m

/-- A moving axis planned anew from its present position, speed and acceleration (R87, R90, R95). -/
def ModuleState.planAnew (m : ModuleState) (a : Nat) : ModuleState :=
  let m1 := (m.plot a ((m.axis a).present m.now) false).afterStep a
  if (m1.axis a).plan.isNone then m1.start a else m1.reload a 2

/-! ### Flushing and stopping -/

/-- The queue of an axis flushed (R90, R95): MOVE_FLUSHED when it held a move; cause REPLACE 0, STOP 1, PORTAL 2. The rates of the move in
progress stand, and the point of rest does not lie beyond its target (R91); while the axis is turning round, those of the way it leaves. -/
def ModuleState.flush (m : ModuleState) (a cause : Nat) : ModuleState :=
  let x := m.axis a
  let rate := match x.turning, x.queue with
    | false, v :: _ => (v.decel, v.jerk)
    | _, _ => x.stopRate
  let bound := match x.turning, x.queue with
    | false, _ :: _ => m.chainEnd a x.queue
    | _, _ => x.bound
  let most := match x.turning, x.queue with
    | false, _ :: _ => joinedRates x.queue
    | _, _ => x.boundRate
  (m.setAxis a fun x => { x with
    queue := [], stopRate := rate, bound := if x.moving then bound else none, boundRate := most, slowTo := none }).logIf
    (!x.queue.isEmpty) evMoveFlushed (tgAxis a) [(a : Int), (x.queue.length : Int), (cause : Int)]

/-- An axis brought to rest (R95): under DECEL with the move's own rates, or QUICK without a jerk limit. A DECEL stop of an axis that is
stopping already changes nothing (log entry 134); a stop ends the pause of a paused axis (log entry 133). -/
def ModuleState.stopAxis (m : ModuleState) (a : Nat) (kind : StopKind) (cause : Nat) : ModuleState :=
  let x := m.axis a
  let m1 := m.flush a cause
  if !x.moving then
    if x.offAtRest then m1.rest a else m1.setAxis a fun x => { x with pausedAt := none }
  else if (x.stopping.isSome && kind == .decel) || (x.plan.isNone && m.shared a && m.notOnDuty) then m1
  else
    (m1.setAxis a fun x =>
      { x with stopping := some kind, turning := false,
               stopRate := if kind = .quick then (m.quickDecel a, 0) else if x.stopRate.1 = 0 then (m.maxDecel a, m.maxJerk a) else x.stopRate }).planAnew a

/-- The bridge of an axis switched off once it is at rest. -/
def ModuleState.offAtRest (m : ModuleState) (a : Nat) : ModuleState :=
  if (m.axis a).moving then m.setAxis a fun x => { x with offAtRest := true } else m.bridgeOff a

/-! ### Zone marks -/

/-- A mark may fire again once the position has moved HYST units back across M (R175). -/
def Mark.recover (k : Mark) (pos : Int) : Mark :=
  let d := diff32 pos k.pos
  if k.ready then k
  else if k.below then { k with ready := (0 : Int) ≤ d && (k.hyst : Int) ≤ d }
  else { k with ready := d < 0 && (k.hyst : Int) ≤ -d }

/-- A mark crosses between two positions (R175). -/
def Mark.crosses (k : Mark) (old new : Int) : Bool :=
  let d0 := diff32 old k.pos
  let d1 := diff32 new k.pos
  (k.dir != 1 && d0 < 0 && 0 ≤ d1) || (k.dir != 0 && 0 ≤ d0 && d1 < 0)

/-- SPEED of the move in progress lowered to a value (R177): the axis slows down to it under the move's rates. -/
def ModuleState.slow (m : ModuleState) (a value : Nat) : ModuleState :=
  let x := m.axis a
  if x.queue.isEmpty then m
  else
    let m1 := m.setAxis a fun x => { x with slowTo := some (min value (x.slowTo.getD value)) }
    if x.plan.isSome && x.stopping.isNone then m1.planAnew a else m1

/-- The action of a mark that fired (R177 Table 4); none but NOTIFY while the module is not armed. -/
def ModuleState.markAction (m : ModuleState) (a : Nat) (k : Mark) : ModuleState :=
  if !m.reset.armed then m
  else match k.action with
    | 1 => m.lsOrder 1 k.value true
    | 2 => m.lsOrder 1 k.value false
    | 3 => m.slow a k.value
    | 4 => m.stopAxis a .decel 1
    | _ => m

/-- One mark judged between two positions (R174 to R178). A mark with REARM is ready again after the step that moves the position HYST units back
across M, and cannot fire at that very step (log entry 173). -/
def ModuleState.judgeMark (m : ModuleState) (a : Nat) (measured : Bool) (old new : Int) (i : Nat) : ModuleState :=
  let k := ((m.fb a).marks.getD i {})
  if !k.armed || k.measured != measured || (measured && !(m.axis a).posValid) then m
  else
    let fires := k.ready && k.crosses old new
    let k1 := if fires then { k with armed := k.rearm, ready := false, below := decide (diff32 new k.pos < 0) } else k.recover new
    let m1 := m.setFb a fun f => { f with marks := upd f.marks i fun _ => k1 }
    if fires then (m1.markAction a k).logIf k.notify evZoneMark (tgAxis a) [(a : Int), (i : Int), new, (k.action : Int)] else m1

/-- The marks of an axis judged between two positions. -/
def ModuleState.judgeMarks (m : ModuleState) (a : Nat) (measured : Bool) (old new : Int) : ModuleState :=
  m.each axisNums fun m i => m.judgeMark a measured old new i

/-! ### Steps -/

/-- One step issued (R96): the commanded position advances by the increment, never past the end of the trajectory, and the electrical angle
with it, reversed by INVERT (R122); speed and acceleration are those of the trajectory; commanded marks are judged; the resolution changes
where it may. -/
def ModuleState.issueStep (m : ModuleState) (a : Nat) : ModuleState :=
  let x := m.axis a
  match x.plan with
  | none => m
  | some p =>
    let d := p.dir * (min (m.stepInc a) x.left : Nat)
    let pos := wrap32 (x.cmdPos + d)
    let turn := if m.invert a then -d else d
    let m1 := (m.setAxis a fun x =>
        { x with cmdPos := pos, stepCount := (x.stepCount + 1) % 2 ^ 32, cmdSpeed := p.speedAt (secs m.now), cmdAccel := p.accelAt (secs m.now) }).setDrive
        a fun q => { q with angle := if m.stepper a then (((q.angle : Int) + turn) % 1024).toNat else 0 }
    let m2 := m1.judgeMarks a false x.cmdPos pos
    let m3 := m2.setAxis a fun x => { x with res := m2.nextRes a }
    m3.afterStep a

/-! ### Faults of the step paths -/

/-- Timer faults of the last hour (R102). -/
def ModuleState.faultsHour (m : ModuleState) (a : Nat) : Nat :=
  ((m.axis a).timerFaults.filter fun t => m.now < t + seconds 3600).length

/-- Three timer faults within one hour keep the axis on the fallback until its island is reset (R102): the list holds the
faults of the hour that ended with the last of them. -/
def ModuleState.keptOnFallback (m : ModuleState) (a : Nat) : Bool := decide (3 ≤ (m.axis a).timerFaults.length)

/-- The multiplier takes over (R101) with the phase it has gathered; a fault is counted, an order (cause COMMANDED 3) is not. The step due
at the end of an interval with an empty buffer (RELOAD_LATE 0), just issued, was its first carry. -/
def ModuleState.fallBack (m : ModuleState) (a cause : Nat) : ModuleState :=
  let x := m.axis a
  let fault : Bool := cause != 3
  let phase := x.phaseNow m.now
  let m1 := m.setAxis a fun x =>
    { x with path := .fallback, interval := none, intervals := [], intervalRest := 0, phaseAt := m.now,
             phaseAcc := if cause = 0 then phase + x.increment - 2 ^ 48 else phase,
             fallbacks := if fault then sat max16 x.fallbacks else x.fallbacks,
             timerFaults := if fault then x.timerFaults.filter (fun t => m.now < t + seconds 3600) ++ [m.now] else x.timerFaults }
  ((if fault then m1.saturated max16 x.fallbacks (tgAxis a) 0x0202 26 else m1)).log evStepFallback (tgAxis a) [(a : Int), (cause : Int), x.cmdPos]

/-- No step path is left (R103): the bridge is off, the position not valid, an axis fault is reported. -/
def ModuleState.pathLost (m : ModuleState) (a cause : Nat) : ModuleState :=
  ((((m.setAxis a fun x => { x.halt m.now with path := .none }).bridgeOff a).unvalid a).log evStepPathLost (tgAxis a)
    [(a : Int), (cause : Int)]).tellFault a

/-- The interval that has run is over, and its step is issued (R96, R98). -/
def ModuleState.timerStep (m : ModuleState) (a i : Nat) : ModuleState :=
  (m.setAxis a fun x => { x with stepAt := x.stepAt + 5 * i, stepTime := x.stepTime + i }).issueStep a

/-- STEP_TIMER_EXPIRY (R97 to R101): the timer ends its interval; with an empty buffer while travel goes on, it faults. fed: the engine refilled the buffer entry; counted: the phase
sequencer received every step. While the engine replans, the timer repeats its last interval (R107). -/
def execStepTimerExpiry (t axis : Nat) (fed counted : Bool) (s : State) : Host.Outcome State Fault Refusal :=
  happen (axis < 8) t (fun m =>
    let x := m.axis axis
    match x.interval with
    | none => m
    | some i =>
      if x.path ≠ .timer ∨ !m.runs (axisIsland axis) ∨ !m.due x.stepAt (5 * i) then m
      else if 0 < x.intervalRest then
        m.setAxis axis fun x => { x with interval := some (intervalPart x.intervalRest), intervalRest := x.intervalRest - intervalPart x.intervalRest,
                                         stepAt := x.stepAt + 5 * i, stepTime := x.stepTime + i }
      else
        let m1 := m.timerStep axis i
        let y := m1.axis axis
        let m2 := m1.setAxis axis fun y => { y with phaseAcc := 0, phaseAt := m.now }
        if !counted then (if y.plan.isNone then (m2.fallBack axis 2).start axis else m2.fallBack axis 2)
        else if y.plan.isNone then m2.start axis
        else if y.replanAt.isSome then m2
        else if x.intervals.isEmpty then m1.fallBack axis 0
        else m2.reload axis (if fed then 2 else x.intervals.length - 1)) s

/-- Steps issued one after the other while the axis moves. -/
def ModuleState.issueSteps (m : ModuleState) (a : Nat) : Nat → ModuleState
  | 0 => m
  | n + 1 => if (m.axis a).plan.isSome then (m.issueStep a).issueSteps a n else m

/-- A new plan in use after the engine's state was damaged (R107): from the position, speed and acceleration registers as the last step left
them, counted and logged. -/
def ModuleState.replanned (m : ModuleState) (a : Nat) : ModuleState :=
  let x := m.axis a
  if x.replanAt.isNone then m
  else
    let k := { { x with plan := none }.present m.now with dir := m.direction a, since := secs (if x.path == .timer then x.stepAt else m.now) }
    let m1 := ((m.setAxis a fun x => { x with replans := sat max16 x.replans, replanAt := none }).saturated max16 x.replans (tgAxis a) 0x0202 28)
    ((m1.plot a k false).reload a 2).log evProfileReplanned (tgAxis a) [(a : Int), (x.queue.length : Int), x.cmdSpeed]

/-- CMD_SPEED and CMD_ACCEL brought up to date with the trajectory. -/
def ModuleState.commanded (m : ModuleState) (a : Nat) : ModuleState :=
  match (m.axis a).plan with
  | some p => m.setAxis a fun x => { x with cmdSpeed := p.speedAt (secs m.now), cmdAccel := p.accelAt (secs m.now) }
  | none => m

/-- Planned less issued position of an axis, in steps (R101, 4). -/
def ModuleState.behind (m : ModuleState) (a : Nat) : Rat :=
  match (m.axis a).plan with
  | some p => p.dir * (p.posAt (secs m.now) - (m.axis a).cmdPos) / m.stepInc a
  | none => 0

/-- FALLBACK_INCREMENT_LOAD (R99, R101): every 20 µs. In shadow the increment of the planned step rate is loaded. Driving, the carries of
the 1 000 clocks of 50 MHz just past issue steps, and the increment loaded is that of the planned rate with the difference between planned
and issued position spread over the next 20 µs. A new plan after damage comes into use here (R107). counted: the phase sequencer received
every step. -/
def execFallbackIncrementLoad (t axis : Nat) (counted : Bool) (s : State) : Host.Outcome State Fault Refusal :=
  happen (axis < 8) t (fun m =>
    let x := m.axis axis
    if !m.runs (axisIsland axis) then m
    else match x.path with
      | .none => m
      | .timer =>
        let m1 := (m.replanned axis).commanded axis
        m1.setAxis axis fun x => { x with phaseAcc := x.phaseNow m.now, phaseAt := m.now, increment := incrementOf (m1.stepRate axis) }
      | .fallback =>
        if x.plan.isNone || x.pausedAt.isSome then m
        else if !counted then m.pathLost axis 2
        else if !m.due x.phaseAt 20000 then m
        else
          let total := x.phaseAcc + 1000 * x.increment
          let m1 := (m.setAxis axis fun x => { x with phaseAcc := total % 2 ^ 48, phaseAt := x.phaseAt + 20000 }).issueSteps axis (total / 2 ^ 48)
          if (m1.axis axis).plan.isNone then m1.start axis
          else
            let m2 := (m1.replanned axis).commanded axis
            m2.setAxis axis fun x => { x with increment := incrementOf (m2.stepRate axis + m2.behind axis * 50000) }) s

/-- STEP_TIMER_RESTORE (R102): an axis at rest on the fallback returns when no three faults within one hour keep it there
and its self-test passes. -/
def execStepTimerRestore (t axis : Nat) (passed : Bool) (s : State) : Host.Outcome State Fault Refusal :=
  happen (axis < 8) t (fun m =>
    let x := m.axis axis
    if x.path == .fallback && !x.moving && !m.keptOnFallback axis && passed && m.runs (axisIsland axis) then
      (m.setAxis axis fun x => { x with path := .timer }).log evStepTimerRestored (tgAxis axis) [(axis : Int), (m.faultsHour axis : Int)]
    else m) s

/-! ### Moves -/

/-- One move read from its 32 bytes: absent fields take the axis maximum (R82). -/
def ModuleState.readMove (m : ModuleState) (a : Nat) (b : List Byte) : Move :=
  let f := getN b 1 1
  let or0 := fun (v d : Nat) => if v = 0 then d else v
  let mode := match getN b 0 1 with
    | 0 => MoveMode.absolute
    | 1 => MoveMode.relative
    | _ => MoveMode.velocity
  { mode, notify := bit f 2, blend := bit f 1, id := getN b 2 2, target := getI b 4 4,
    speed := if mode = .velocity then (getI b 4 4).natAbs else or0 (getN b 8 4) (m.maxSpeed a),
    accel := or0 (getN b 12 4) (m.maxAccel a), decel := or0 (getN b 16 4) (m.maxDecel a), jerk := or0 (getN b 20 4) (m.maxJerk a) }

/-- A field of a move exceeds the axis maximum (R82). -/
def ModuleState.moveTooMuch (m : ModuleState) (a : Nat) (v : Move) : Bool :=
  m.maxSpeed a < v.speed || m.maxAccel a < v.accel || m.maxDecel a < v.decel || m.maxJerk a < v.jerk

/-- The moves of a packet resolved one after the other (R85, R92, R110): RELATIVE targets made absolute, targets outside the soft
limits replaced; none when a target leaves the 32-bit range. The flag tells of a clamped target. -/
def ModuleState.resolve (m : ModuleState) (a : Nat) : Int → List Move → Option (List Move × Bool)
  | _, [] => some ([], false)
  | base, v :: rest =>
    if v.mode = .velocity then
      (m.resolve a ((m.moveEnd a v).getD (m.axis a).cmdPos) rest).map fun r => (v :: r.1, r.2)
    else
      let raw := if v.mode = .relative then base + v.target else v.target
      if raw < -2147483648 ∨ 2147483647 < raw then none
      else
        let aim := if m.softLimits a then clampI (m.softMin a) (m.softMax a) raw else raw
        (m.resolve a aim rest).map fun r => ({ v with target := aim } :: r.1, r.2 || aim != raw)

/-- Pieces of n bytes. -/
def chunks (n : Nat) (b : List Byte) : List (List Byte) := (List.range (b.length / n)).map fun i => (b.drop (n * i)).take n

/-- Moves appended to a queue (R84). -/
def ModuleState.append (m : ModuleState) (a : Nat) (l : List Move) : ModuleState := m.setAxis a fun x => { x with queue := x.queue ++ l }

/-- Moves queued (R84): an axis at rest starts; of one on its way, the joints not yet reached get their junction speeds anew, and a move in
progress whose end is passed at another speed now is planned anew (R86, R87). -/
def ModuleState.queueMoves (m : ModuleState) (a : Nat) (l : List Move) : ModuleState :=
  let m1 := m.append a l
  let x := m1.axis a
  if x.plan.isNone || x.stopping.isSome then m1.start a
  else
    let m2 := m1.joinQueue a (x.present m.now)
    if x.turning || ((m2.axis a).queue.head?.map (·.junction)) == (x.queue.head?.map (·.junction)) then m2 else m2.planAnew a

/-- Moves in place of those in the queue (R90): the queue is flushed, and the first is planned from the present position, speed and
acceleration. -/
def ModuleState.replaceBy (m : ModuleState) (a cause : Nat) (l : List Move) : ModuleState :=
  let m1 := ((m.flush a cause).setAxis a fun x => { x with stopping := none, turning := false, offAtRest := false }).append a l
  if (m.axis a).plan.isNone then m1.start a
  else ((m1.newMove a).setAxis a fun x => { x with began := (x.cmdPos, x.cmdSpeed) }).planAnew a

/-- An axis that takes motion commands: populated and not DISABLED (R113 Table 9). -/
def axisEnabled (m : ModuleState) (kind idx : Nat) : Bool := targetThere m kind idx && (kind != 2 || m.axisMode idx != 0)

/-- A motion command to a portal-owned axis is refused (R79). -/
def ModuleState.axisTaken (m : ModuleState) (a : Nat) (role : Option Role) : Bool :=
  m.axisOwner a != 0 && !m.lentTo (m.axisOwner a) role

def axisMoveBody (c : Cmd) (m : ModuleState) : Result :=
  let a := c.idx
  let raw := chunks 32 c.data
  let moves := raw.map (m.readMove a)
  let first := bit (getN c.data 1 1) 0
  let base := if first then (m.axis a).cmdPos else m.lastEnd a
  let m := m.setAxis a fun x => { x with clamped := false }
  if moves.any (m.moveTooMuch a) || (raw.drop 1).any (fun b => bit (getN b 1 1) 0) then refuse m stValueOutOfRange
  else match m.resolve a base moves with
    | none => refuse m stValueOutOfRange
    | some (l, clamped) =>
      if m.notOnDuty && m.shared a then refuse m stNotOnDuty
      else if !m.reset.armed then refuse m stNotArmed
      else if m.axisTaken a c.role then refuse m stAxisOwned
      else if m.modulo a && m.dcAxis a && moves.any (·.mode != .velocity) then refuse m stWrongState
      else if 16 < l.length + (if first then 0 else (m.axis a).queue.length) then refuse m stMoveQueueFull
      else if (m.axis a).path == .none then refuse m stStepPathFault
      else if (m.drive a).bridge == .latched then refuse m stBridgeLatched
      else
        let m1 := m.setAxis a fun x => { x with clamped }
        { status := if clamped then stClamped else stOk, acts := [axisChannel a],
          m := if first then m1.replaceBy a 0 l else m1.queueMoves a l }

def axisMoveSpec : CmdSpec :=
  { opcode := 0x0200, kinds := [2], roles := .only [.operator, .maintainer], size := fun n => 32 ≤ n && n % 32 == 0, present := axisEnabled,
    fields := fun b => (chunks 32 b).all fun x => getN x 0 1 < 3 && getN x 1 1 < 8 && getN x 24 8 == 0, body := axisMoveBody }

/-- AXIS_MOVE (R84 to R94, R110). -/
def execAxisMove (p : Packet) (s : State) : Host.Outcome State Fault Refusal := .next (submit axisMoveSpec p s)

def axisStopBody (c : Cmd) (m : ModuleState) : Result :=
  let a := c.idx
  if m.axisTaken a c.role then refuse m stAxisOwned
  else
    let kind := if getN c.data 0 1 = 1 then StopKind.quick else .decel
    { acts := [axisChannel a], m := if (m.drive a).bridge == .latched then m else m.stopAxis a kind 1 }

def axisStopSpec : CmdSpec :=
  { opcode := 0x0201, kinds := [2], roles := .only [.operator, .maintainer], size := (· == 4), present := axisEnabled,
    fields := fun b => getN b 0 1 < 2 && getN b 1 3 == 0, body := axisStopBody }

/-- AXIS_STOP (R95, R147). -/
def execAxisStop (p : Packet) (s : State) : Host.Outcome State Fault Refusal := .next (submit axisStopSpec p s)

/-- STATE of an axis (Table 8). -/
def ModuleState.axisState (m : ModuleState) (a : Nat) : Nat :=
  let x := m.axis a
  if (m.drive a).bridge == .latched || x.path == .none then 4
  else if x.pausedAt.isSome then 3
  else if x.stopping.isSome then 2
  else if x.moving then 1
  else 0

/-- Code of a step path. -/
def StepPath.code : StepPath → Nat
  | .timer => 0 | .fallback => 1 | .none => 2

/-- A move at the head of the queue of an axis at rest waits: for power, a bridge, its angle or duty (R103, R132, R137, R143). -/
def ModuleState.headWaits (m : ModuleState) (a : Nat) : Bool :=
  let d := m.drive a
  !m.vdrvPresent || d.awaitVal || d.validatingAt.isSome || d.bridge == .latched || d.bridge == .braking || (m.shared a && m.notOnDuty)

/-- MOVE_ID of the move in progress, 0xFFFF with none (Table 8): one that travels, is paused, or is a VELOCITY move that stands, which is never
complete (R88); none while the axis stops or the head of the queue waits. -/
def ModuleState.activeId (m : ModuleState) (a : Nat) : Nat :=
  let x := m.axis a
  match x.queue with
  | [] => 0xFFFF
  | v :: _ =>
    if x.stopping.isNone && (x.plan.isSome || x.pausedAt.isSome || (v.mode == .velocity && !m.headWaits a)) then v.id else 0xFFFF

/-- An axis status entry (Table 8). -/
def ModuleState.axisEntry (m : ModuleState) (a : Nat) : List Byte :=
  let x := m.axis a
  leBytes 1 a ++ leBytes 1 (m.axisState a) ++ leBytes 1 x.queue.length ++ leBytes 1 (if m.dcAxis a then 0 else x.res) ++
    leBytes 1 x.path.code ++ leBytes 1 (m.axisOwner a) ++ leBytes 2 (bitOf x.posValid 2 + bitOf x.softStop 1 + bitOf x.clamped 0) ++
    leInt 4 x.cmdPos ++ leInt 4 x.cmdSpeed ++ leInt 4 x.cmdAccel ++ leBytes 2 (m.activeId a) ++
    leBytes 2 x.doneId ++ leBytes 2 x.fallbacks ++ leBytes 2 x.replans ++ zeros 4

/-- Axes of a status or configuration read: the target, or every populated axis. -/
def readAxes (c : Cmd) : List Nat := if c.kind = 0 then axisNums else [c.idx]

/-- The islands whose axes a read covers. -/
def axisNeeds (c : Cmd) : List Channel := if c.kind = 0 then [.m1ax, .m2ax] else [axisChannel c.idx]

def axisStatusSpec : CmdSpec :=
  { opcode := 0x0202, kinds := [2, 0], roles := .all, size := (· == 0),
    body := fun c m => readFrom (axisNeeds c) (m.each (readAxes c) fun m a => m.setAxis a fun x => { x with softStop := false })
      ((readAxes c).flatMap m.axisEntry) }

/-- AXIS_STATUS (R109): the read ends the soft-limit flag. -/
def execAxisStatus (p : Packet) (s : State) : Host.Outcome State Fault Refusal := .next (submit axisStatusSpec p s)

def readAxisConfigSpec : CmdSpec :=
  { opcode := 0x0203, kinds := [2, 0], roles := .all, size := (· == 0),
    body := fun c m => readFrom (axisNeeds c) m ((readAxes c).flatMap fun a => m.cfgEntry (axisCfg a) 64) }

/-- READ_AXIS_CONFIG (R109). -/
def execReadAxisConfig (p : Packet) (s : State) : Host.Outcome State Fault Refusal := .next (submit readAxisConfigSpec p s)

/-- OFFSET set so that the measured position equals a value (R165), the record of a SERIAL source rewritten by the recorder, or as soon as that
runs (R42, R172; log entry 167). What is kept in position
units moves with it: the observer, its history, and a reading it has not taken (R178, R180). -/
def ModuleState.setOffset (m : ModuleState) (a : Nat) (pos : Int) : ModuleState :=
  let d := pos - m.measured a
  m.setFb a fun f =>
    { f with offset := f.offset + d, pHat := f.pHat + d, history := f.history.map fun x => (x.1, x.2 + d), sspMeas := f.sspMeas.map (· + d)
             offsetRecs := if m.source a = 3 ∧ m.runs isRecorder then .both (f.offset + d) else f.offsetRecs
             offsetDue := m.source a = 3 ∧ !m.runs isRecorder }

/-- An OFFSET record that waited for the recorder is written (R172; log entry 167). -/
def ModuleState.settleOffset (m : ModuleState) (a : Nat) : ModuleState :=
  if (m.fb a).offsetDue && m.runs isRecorder then m.setFb a fun f => { f with offsetRecs := .both f.offset, offsetDue := false } else m

/-- A trajectory moved with the position it is counted in. -/
def Plan.shift (p : Plan) (d : Int) : Plan := { p with aim := p.aim + d, origin := p.origin + d }

/-- The position of an axis redefined (R111, R165): commanded and measured position take the value and are valid. A stop still under way goes on
as it is, in the new positions (R79, R95; log entry 169). -/
def ModuleState.redefine (m : ModuleState) (a : Nat) (pos : Int) : ModuleState :=
  (if m.hasFb a then m.setOffset a pos else m).setAxis a fun x =>
    let d := pos - x.cmdPos
    { x with cmdPos := pos, posValid := true, lost := false, plan := x.plan.map (·.shift d), bound := x.bound.map (· + d), began := (x.began.1 + d, x.began.2) }

/-- AXIS_STEP_PATH (R112): whether the self-test passes is measured, a free value; R102's limit of three faults within one hour
counts as a failed test (log entry 22). -/
def axisStepPathBody (c : Cmd) (m : ModuleState) : Result :=
  let a := c.idx
  if !m.reset.armed then refuse m stNotArmed
  else if m.axisTaken a c.role then refuse m stAxisOwned
  else if (m.axis a).moving then refuse m stWrongState
  else if (m.axis a).path == .none then refuse m stStepPathFault
  else if getN c.data 0 1 = 1 then { acts := [axisChannel a], m := m.fallBack a 3 }
  else
    let m1 := { m with free := m.free + 1 }
    if Config.freeValue m.free % 2 = 1 ∨ m.keptOnFallback a then refuse m1 stStepPathFault
    else
      { acts := [axisChannel a],
        m := (m1.setAxis a fun x => { x with path := .timer }).logIf ((m.axis a).path == .fallback) evStepTimerRestored (tgAxis a)
          [(a : Int), (m.faultsHour a : Int)] }

def axisStepPathSpec : CmdSpec :=
  { opcode := 0x0205, kinds := [2], roles := .only [.maintainer], size := (· == 4), present := axisEnabled,
    fields := fun b => getN b 0 1 < 2 && getN b 1 3 == 0, body := axisStepPathBody }

/-- AXIS_STEP_PATH (R112). -/
def execAxisStepPath (p : Packet) (s : State) : Host.Outcome State Fault Refusal := .next (submit axisStepPathSpec p s)

/-! ### Replanning and pauses -/

/-- Damaged engine state of a moving axis (R107): a new plan is in use at the engine's next 20 µs, and until then the timer repeats its last
interval; with the committed queue damaged the axis is stopped under DECEL; with the commanded position or speed damaged its position is not
valid either. The flush of such a stop has the cause STOP (log entry 135). -/
def ModuleState.replan (m : ModuleState) (a : Nat) (queueDamaged positionDamaged : Bool) : ModuleState :=
  if positionDamaged then (m.stopAxis a .decel 1).unvalid a
  else if queueDamaged then m.stopAxis a .decel 1
  else if (m.axis a).plan.isNone then m
  else m.setAxis a fun x => { x with replanAt := some m.now, intervals := [] }

/-- An axis held where it is (R108): no further steps, the queue and the position kept. -/
def Axis.held (x : Axis) (now : Nat) : Axis :=
  { x with plan := none, turning := false, replanAt := none, bound := none, cmdSpeed := 0, cmdAccel := 0, interval := none
           intervals := [], intervalRest := 0, stopping := none, speedZeroSince := now }

/-- A moving axis that loses VDRV without a pause (R132, R554) keeps its commanded position: it is held, and its queue starts again from rest
when VDRV returns (log entry 172). -/
def ModuleState.holdAxis (m : ModuleState) (a : Nat) : ModuleState :=
  if !(m.axis a).moving || (m.shared a && m.notOnDuty) then m
  else
    let m1 := m.setAxis a fun x => x.held m.now
    if (m.axis a).queue.isEmpty then m1.rest a else m1

/-- A motion pause (R108). -/
def ModuleState.pauseAxis (m : ModuleState) (a : Nat) : ModuleState :=
  let x := m.axis a
  if !x.moving then m
  else (m.setAxis a fun x => { x.held m.now with pausedAt := some m.now }).log evMotionPaused (tgAxis a) [(a : Int), x.cmdPos, x.cmdSpeed]

/-- The end of a motion pause (R108): replanned from rest with the kept queue. -/
def ModuleState.resumeAxis (m : ModuleState) (a : Nat) : ModuleState :=
  match (m.axis a).pausedAt with
  | none => m
  | some t => ((m.setAxis a fun x => { x with pausedAt := none }).start a).log evMotionResumed (tgAxis a)
      [(a : Int), (((m.now - t) / 1000000 : Nat) : Int)]

/-- Motion of every axis at half SPEED, or at full SPEED again (R555): the moves in progress are planned anew from where the axes are. -/
def ModuleState.halveMoves (m : ModuleState) (on : Bool) : ModuleState :=
  (m.each axisNums fun m a =>
    let x := m.axis a
    let m1 := m.setAxis a fun x => { x with halved := on }
    if x.halved != on && x.plan.isSome && x.stopping.isNone then m1.planAnew a else m1)

end Sys2Proof.Machine
end

