-- ==== Sys2Proof/Machine/Counting.lean ====
section
/-! DEFINITION. Counting (chapter 05): the measured position and its history, edge faults, quadrature and tooth edges, position latches, and
ENCODER_EDGE. -/

namespace Sys2Proof.Machine

/-! ### Settings -/

/-- INPUT of an axis's feedback. -/
def ModuleState.encInput (m : ModuleState) (a : Nat) : Nat := m.cfg (fbCfg a + 2) 1
/-- The source is an encoder input: ENCODER or TOOTH. -/
def ModuleState.onEncoder (m : ModuleState) (a : Nat) : Bool := m.source a == 1 || m.source a == 2
/-- SIGNAL is RS422 (R150). -/
def ModuleState.rs422 (m : ModuleState) (a : Nat) : Bool := m.onEncoder a && m.cfg (fbCfg a + 3) 1 == 0
/-- T_STILL in ns. -/
def ModuleState.stillTime (m : ModuleState) (a : Nat) : Nat := ms (m.cfg (fbCfg a + 10) 2)

/-! ### The measured position changes -/

/-- The history of the measured position over the last 1.024 ms (R180): its changes, with the last one before that span. -/
def pushHistory (h : List (Nat × Int)) (now : Nat) (pos : Int) : List (Nat × Int) :=
  let old := h.filter fun x => x.1 + 1024000 ≤ now
  let young := h.filter fun x => now < x.1 + 1024000
  (match old.getLast? with
    | some x => [x]
    | none => []) ++ young ++ [(now, pos)]

/-- The position a history gives at an instant. -/
def posAt (h : List (Nat × Int)) (t : Nat) (now : Int) : Int := ((h.filter fun x => x.1 ≤ t).getLast?.map (·.2)).getD ((h.head?.map (·.2)).getD now)

/-- The measured position at a stamp (R180): linear between the samples 1 µs apart; none when the stamp is older than the history
of 1.024 ms. -/
def ModuleState.posAtStamp (m : ModuleState) (a at_ : Nat) : Option Int :=
  if at_ + 1024000 < m.now then none
  else
    let h := (m.fb a).history
    let g := at_ / 1000 * 1000
    let p0 := posAt h g (m.measured a)
    let p1 := posAt h (g + 1000) (m.measured a)
    some (p0 + (p1 - p0) * ((at_ - g : Nat) : Int) / 1000)

/-- The position has changed from an old value at an instant: kept in the history, and compared with the marks on it (R174, R180). -/
def ModuleState.moved (m : ModuleState) (a : Nat) (old : Int) (at_ : Nat) : ModuleState :=
  (m.setFb a fun f => { f with history := pushHistory f.history at_ (m.measured a) }).judgeMarks a true old (m.measured a)

/-! ### Edge faults -/

/-- Faults added to the edge-fault counter of an axis's input (R157 to R161): EDGE_LIMIT of them within 1 s make the position not
valid. -/
def ModuleState.edgeFault (m : ModuleState) (a n : Nat) : ModuleState :=
  let f := m.fb a
  let times := f.faultTimes.filter (fun t => m.now < t + seconds 1) ++ List.replicate n m.now
  let m1 := (m.setFb a fun f =>
      { f with edgeFaults := satAdd max32 f.edgeFaults n, faultTimes := times,
               faultsSecond := (f.faultsSecond.1 + n, f.faultsSecond.2) }).logIf
    (decide (f.edgeFaults < max32) && decide (max32 ≤ f.edgeFaults + n)) evCounterSaturated (tgAxis a)
      [(tgAxis a : Int), 0x0300, 26]
  if m.cfg (fbCfg a + 14) 2 ≤ times.length ∧ 0 < n then m1.invalidate a 0 else m1

/-- EDGE_FAULTS_REPORT (R159): at most once a second. -/
def execEdgeFaultsReport (t axis : Nat) (s : State) : Host.Outcome State Fault Refusal :=
  happen (axis < 8) t (fun m =>
    let f := m.fb axis
    if f.faultsSecond.1 = 0 ∨ !m.due f.faultsSecond.2 (seconds 1) then m
    else (m.setFb axis fun f => { f with faultsSecond := (0, m.now) }).log evEdgeFaults (tgAxis axis)
      [(axis : Int), (f.faultsSecond.1 : Int), (f.edgeFaults : Int)]) s

/-! ### Counting -/

/-- Speed status and stamps after a counting edge (R168, R169). -/
def Feedback.edge (f : Feedback) (up : Bool) (at_ : Nat) : Feedback :=
  let same := f.lastUp == up
  match f.speed with
  | .still => { f with speed := .estimating, tLast := some at_, tPrev := none, lastUp := up, reversed := false }
  | .invalid => { f with speed := .estimating, tLast := some at_, tPrev := none, lastUp := up, reversed := false }
  | .estimating =>
    if same then { f with speed := .valid, tPrev := f.tLast, tLast := some at_, reversed := false }
    else { f with tLast := some at_, tPrev := none, lastUp := up }
  | .valid =>
    if same then { f with tPrev := f.tLast, tLast := some at_, reversed := false }
    else { f with tPrev := none, tLast := some at_, lastUp := up, reversed := true }

/-- MIN_EDGE in ns. -/
def ModuleState.minEdge (m : ModuleState) (a : Nat) : Nat := 10 * m.cfg (fbCfg a + 8) 2

/-- The counter changed by a number of counts, MIN_EDGE after an edge (R157, R158, R161 to R163), with wraps of the counter. -/
def ModuleState.count' (m : ModuleState) (a : Nat) (n : Int) (at_ : Nat) : ModuleState :=
  let f := m.fb a
  let old := m.measured a
  let up : Bool := 0 ≤ n
  if m.modulo a then
    let size : Int := m.moduloOf a
    let c := f.counter + n
    let turn := c / size
    (m.setFb a fun f => ({ f with counter := c % size, revs := signed 16 ((f.revs + turn) % 65536).toNat }.edge up at_)).moved a old (at_ + m.minEdge a)
  else
    let c := f.counter + n
    let turn : Int := if 2147483647 < c then 1 else if c < -2147483648 then -1 else 0
    let ext := wrap32 (f.ext + turn)
    ((m.setFb a fun f =>
        ({ f with counter := wrap32 c, ext, wrapped := f.wrapped || turn != 0 }.edge up at_)).logIf (turn != 0) evEncWrap (tgAxis a)
      [(a : Int), turn, ext]).moved a old (at_ + m.minEdge a)

/-- The direction of the commanded speed at an edge that occurs now (R161): at speed 0 the last direction, and none after more than 10 ms. -/
def ModuleState.aimAt (m : ModuleState) (a at_ : Nat) : Option Bool :=
  let x := m.axis a
  if x.cmdSpeed ≠ 0 then some (0 < x.cmdSpeed) else if x.speedZeroSince + 10000000 < at_ then none else some (m.fb a).lastUp

/-- One rising edge of a toothed wheel (R161): its interval tells a reference; aim: the direction of the commanded speed at it. -/
def ModuleState.toothEdge (m : ModuleState) (a at_ : Nat) (aim : Option Bool) : ModuleState :=
  let f := m.fb a
  let kind := m.cfg (fbCfg a + 7) 1
  let span := match f.tooth with
    | some k => at_ - k.1
    | none => 0
  let before := match f.tooth with
    | some k => k.2
    | none => 0
  let timed := m.setFb a fun f => { f with tooth := some (at_, span) }
  match aim with
  | none => timed.invalidate a 2
  | some up =>
    let extra : Bool := kind == 2 && before != 0 && 10 * span < 7 * before
    let missing : Bool := kind < 2 && before != 0 && (2 * kind + 3) * before < 2 * span
    let n : Int := (if extra then 0 else if missing then (kind : Int) + 2 else 1) * (if up then 1 else -1)
    let m1 := if n = 0 then timed else timed.count' a n at_
    let total := f.sinceRef.map (· + n)
    if extra || missing then
      let size : Int := m.moduloOf a
      let r := total.getD 0 % size
      let bad : Bool := total.isSome && 1 < r && r < size - 1
      let m2 := m1.setFb a fun f => { f with sinceRef := some (total.getD 0), sinceLast := 0 }
      if bad then ((m2.log evToothRefError (tgAxis a) [(a : Int), f.sinceLast + n]).edgeFault a 1).invalidate a 2 else m2
    else m1.setFb a fun f => { f with sinceRef := total, sinceLast := f.sinceLast + n }

/-- Counting goes on: the island runs and the signal is not lost (R160, R166). -/
def ModuleState.counting (m : ModuleState) (a : Nat) : Bool :=
  m.runs (axisIsland a) && m.populated a && m.onEncoder a && !(m.fb a).signalLost

/-! ### Latches -/

/-- One latch at an edge of its source (R179, R180): stamped at an instant and at a module time; the commanded position is the one as the edge
is taken (log entry 173). -/
def ModuleState.latchEdge (m : ModuleState) (a : Nat) (index : Bool) (input : Nat) (rising : Bool) (at_ : Nat) (stamp : Nat × Nat)
    (i : Nat) : ModuleState :=
  let l := (m.fb a).latches.getD i {}
  let mine := l.index == index && (index || l.input == input) && (l.edge == 2 || (l.edge == 0) == rising)
  if !mine then m
  else match l.state with
    | .armed =>
      match m.posAtStamp a at_ with
      | none => m.setFb a fun f => { f with latches := upd f.latches i fun l => { l with state := .stale } }
      | some p =>
        (m.setFb a fun f => { f with
          latches := upd f.latches i fun l => { l with state := .captured, meas := p, cmd := (m.axis a).cmdPos, stamp } }).logIf l.notify
            evLatchCaptured (tgAxis a) [(a : Int), (i : Int), p, (stamp.1 : Int), (stamp.2 : Int)]
    | .captured =>
      (m.setFb a fun f => { f with latches := upd f.latches i fun l => { l with missed := sat max16 l.missed } }).saturated max16
        l.missed (tgAxis a) 0x0305 (4 + 32 * i)
    | _ => m

/-- Both latches of an axis at an edge. -/
def ModuleState.latchEdges (m : ModuleState) (a : Nat) (index : Bool) (input : Nat) (rising : Bool) (at_ : Nat) (stamp : Nat × Nat) :
    ModuleState :=
  (m.latchEdge a index input rising at_ stamp 0).latchEdge a index input rising at_ stamp 1

/-! ### Edges -/

/-- Two edges lie on the same line. -/
def sameLine (x y : Nat) : Bool := x == y || (x == 3 && y < 2) || (y == 3 && x < 2)

/-- An edge is followed by another within a span, or follows it (R157). -/
def HeldEdge.near (e : HeldEdge) (line stamp span : Nat) : Bool :=
  sameLine e.line line && decide (e.stamp < stamp + span) && decide (stamp < e.stamp + span)

/-- Edges that one entry stands for. -/
def edgesOf (line : Nat) : Nat := if line = 3 then 2 else 1

/-- An edge occurs (R157, R158): with every other edge of its line within MIN_EDGE it is rejected, each adding one edge fault; edges of A and
B within the same 5 ns are one. An edge that is known already is not taken again. -/
def ModuleState.noteEdge (m : ModuleState) (a line stamp : Nat) (levels : Bool × Bool) (index : Bool) : ModuleState :=
  let held := (m.fb a).heldEdges
  let span := m.minEdge a
  if held.any fun e => e.stamp == stamp && sameLine e.line line then m
  else
    let near := held.filter fun e => e.near line stamp span
    if near.isEmpty then
      let other := held.any fun e => e.stamp == stamp && e.line + line == 1 && !e.rejected
      let joined := updIf held (fun e => e.stamp == stamp && e.line + line == 1) fun e => { e with line := 3, levels := levels }
      m.setFb a fun f => { f with heldEdges := if other then joined else held ++ [⟨line, stamp, levels, index, false, m.aimAt a stamp⟩] }
    else
      let new := (near.filter fun e => !e.rejected).map fun e => edgesOf e.line
      let out := updIf held (fun e => e.near line stamp span) fun e => { e with rejected := true }
      (m.setFb a fun f => { f with heldEdges := out ++ [⟨line, stamp, levels, index, true, m.aimAt a stamp⟩] }).edgeFault a (new.sum + edgesOf line)

/-- An accepted edge takes effect (R157 to R161, R179). A leading B counts up (log entry 25). -/
def ModuleState.edgeActs (m : ModuleState) (a : Nat) (e : HeldEdge) : ModuleState :=
  let levelA := e.levels.1
  if e.line = 2 then (if m.source a = 1 then m.latchEdges a true 0 e.index e.stamp (m.time.stamp e.stamp) else m)
  else if m.source a = 2 then (if e.line ≠ 1 ∧ levelA then m.toothEdge a e.stamp e.aim else m)
  else
    let m1 := m.setFb a fun f => { f with lines := e.levels }
    if e.line = 3 then m1.edgeFault a 1
    else
      let up : Bool := if e.line = 0 then levelA != e.levels.2 else levelA == e.levels.2
      m1.count' a (if up then 1 else -1) e.stamp

/-- The edges whose MIN_EDGE has passed are no longer held, and those that were not rejected take effect in their order (R157): before whatever
reads or sets the position (log entry 137). -/
def ModuleState.acceptEdges (m : ModuleState) (a : Nat) : ModuleState :=
  let span := m.minEdge a
  let ripe := (m.fb a).heldEdges.filter fun e => m.due e.stamp span
  (m.setFb a fun f => { f with heldEdges := f.heldEdges.filter fun e => !m.due e.stamp span }).each (ripe.filter fun e => !e.rejected) fun m e =>
    m.edgeActs a e

/-- The same on every axis whose island runs. -/
def ModuleState.acceptAll (m : ModuleState) : ModuleState := m.each axisNums fun m a => if m.runs (axisIsland a) then m.acceptEdges a else m

/-- ENCODER_EDGE (R157 to R162): an edge on line A (0), B (1) or Z (2), or on A and B at once (3), with the levels after it and the instant at
which it occurred. It is held for MIN_EDGE, and accepted by the first happening of the input after that (log entry 137). -/
def execEncoderEdge (t axis line : Nat) (levelA levelB : Bool) (at_ : Nat) (levelZ : Bool) (s : State) : Host.Outcome State Fault Refusal :=
  happen (axis < 8) t (fun m =>
    if m.counting axis && line < 4 then (m.noteEdge axis line (min at_ m.now / 5 * 5) (levelA, levelB) levelZ).acceptEdges axis else m) s

end Sys2Proof.Machine
end

