-- ==== Sys2Proof/Machine/Drive.lean ====
section
/-! DEFINITION. Motor bridges and current control (chapter 04): sluices, phase setpoints, the current loop, standstill current,
angle validation, bridge faults and their clearing, stall windows, the regeneration limit, and the commands of R144; with the
force ceiling of HOMING (R203) and the thermal scale (R561, R562). -/

namespace Sys2Proof.Machine

/-! ### Supply, angles, settings -/

/-- The first quarter of the sine table, entries 0 to 256 (R122): 12 bits, sign included, full scale 2 047 (log entry 8). -/
def sineTable : List Nat :=
  ([0, 13, 25, 38, 50, 63, 75, 88, 100, 113, 126, 138, 151, 163, 176, 188, 201, 213, 226, 238, 251, 263, 275, 288, 300, 313, 325, 338, 350, 362, 375, 387] ++
   [399, 412, 424, 436, 449, 461, 473, 485, 497, 510, 522, 534, 546, 558, 570, 582, 594, 606, 618, 630, 642, 654, 666, 678, 690, 701, 713, 725, 737, 748, 760, 772] ++
   [783, 795, 807, 818, 830, 841, 852, 864, 875, 887, 898, 909, 920, 932, 943, 954, 965, 976, 987, 998, 1009, 1020, 1031, 1042, 1052, 1063, 1074, 1085, 1095, 1106, 1116, 1127] ++
   [1137, 1148, 1158, 1168, 1179, 1189, 1199, 1209, 1219, 1229, 1239, 1249, 1259, 1269, 1279, 1289, 1299, 1308, 1318, 1328, 1337, 1347, 1356, 1365, 1375, 1384, 1393, 1402, 1411, 1421, 1430, 1439] ++
   [1447, 1456, 1465, 1474, 1483, 1491, 1500, 1508, 1517, 1525, 1533, 1542, 1550, 1558, 1566, 1574, 1582, 1590, 1598, 1606, 1614, 1621, 1629, 1637, 1644, 1652, 1659, 1666, 1674, 1681, 1688, 1695] ++
   [1702, 1709, 1716, 1723, 1729, 1736, 1743, 1749, 1756, 1762, 1769, 1775, 1781, 1787, 1793, 1799, 1805, 1811, 1817, 1823, 1828, 1834, 1840, 1845, 1850, 1856, 1861, 1866, 1871, 1876, 1881, 1886] ++
   [1891, 1896, 1901, 1905, 1910, 1914, 1919, 1923, 1927, 1932, 1936, 1940, 1944, 1948, 1951, 1955, 1959, 1962, 1966, 1969, 1973, 1976, 1979, 1983, 1986, 1989, 1992, 1994, 1997, 2000, 2003, 2005] ++
   [2008, 2010, 2012, 2015, 2017, 2019, 2021, 2023, 2025, 2027, 2028, 2030, 2032, 2033, 2035, 2036, 2037, 2038, 2039, 2040, 2041, 2042, 2043, 2044, 2045, 2045, 2046, 2046, 2046, 2047, 2047, 2047] ++
   [2047])

/-- Sine of an electrical angle in 1/1 024 revolution (R122): the table's entry as a share of full scale. -/
def sineOf (angle : Nat) : Rat :=
  let k := angle % 512
  let entry : Rat := (sineTable.getD (if k ≤ 256 then k else 512 - k) 0 : Nat) / 2047
  if angle % 1024 < 512 then entry else -entry

/-- Cosine of an electrical angle (R122). -/
def cosineOf (angle : Nat) : Rat := sineOf (angle + 256)

/-- Electrical angle derived from the measured position (R123): the commanded angle less the position error. -/
def ModuleState.measuredAngle (m : ModuleState) (a : Nat) : Nat :=
  let e := if m.invert a then -m.posError a else m.posError a
  (((m.drive a).angle - e) % 1024).toNat

/-- Load angle (R123): commanded less measured electrical angle, within half a revolution. -/
def ModuleState.loadAngle (m : ModuleState) (a : Nat) : Int :=
  let d := (((m.drive a).angle : Int) - m.measuredAngle a) % 1024
  if d < 512 then d else d - 1024

/-- Standstill current, mA (R130, R131). -/
def ModuleState.holdCurrent (m : ModuleState) (a : Nat) : Rat := (m.iRun a * m.holdPct a : Nat) / 100

/-- Force ceiling of the drive, mA, while the portal of a door axis is HOMING: HOME_FORCE / K_F_DOOR (R203). -/
def ModuleState.homingCap (m : ModuleState) (a : Nat) : Option Rat :=
  match m.doorOf a with
  | some p =>
    if (m.portal p).door == .homing then
      some ((m.cfg (portalCfg p + 48) 2 * 65536000 : Nat) / (m.cfg (1808 + 64 * (p - 1) + 4) 4 : Rat))
    else none
  | none => none

/-- Thermal scale of an axis in 1/1000 at an estimated junction temperature in 0.1 °C (R561). -/
def thermalScale (temp : Int) : Nat :=
  if temp ≤ 1500 then 1000 else if 1650 ≤ temp then 500 else (1000 - (temp - 1500) * 500 / 150).toNat

/-! ### Sluices -/

/-- A DC axis that can be moved freely (R131): energised, at rest for HOLD_DELAY, with HOLD_PCT 0. -/
def ModuleState.freed (m : ModuleState) (a : Nat) : Bool :=
  let x := m.axis a
  m.dcAxis a && m.holdPct a == 0 && !x.moving && x.queue.isEmpty && m.due x.restSince (m.holdDelay a) && (m.drive a).sluiceOrder != 0

/-- Sluices of a phase, A or B, in a mask of the four pins. -/
def phasePins (b : Bool) (pins : Nat) : Nat := if b then pins / 4 else pins % 4

/-- A phase, A or B, on its way to its sluices' opening (R120): closed still, and ordered open. -/
def Drive.leaving (d : Drive) (b : Bool) : Bool :=
  (if b then d.openBAt else d.openAt).isSome && phasePins b d.sluices != 0 && phasePins b d.sluiceOrder == 0

/-- A phase no longer on its way to its sluices' opening. -/
def Drive.left (d : Drive) (b : Bool) : Drive := if b then { d with openBAt := none } else { d with openAt := none }

/-- The sluices of a phase ordered open are open: the bridge is off with the last of them, and where phase A of a DC axis is free, with those
of phase B (R120, R131). -/
def ModuleState.opened (m : ModuleState) (a : Nat) (b : Bool) : ModuleState :=
  m.setDrive a fun d =>
    let pins := if b then d.sluices % 4 else d.sluices / 4 * 4
    { d.left b with sluices := pins
                    bridge := if !d.stopped && ((d.sluiceOrder == 0 && pins == 0) || (b && d.bridge == .holding && m.freed a)) then .off else d.bridge }

/-- The sluices of a phase, A or B, ordered open do so once it carries less than 50 mA, or after 300 µs, counted then as one hot opening (R120):
its two sluices, which carry one current, count once (log entry 159). -/
def ModuleState.openPhase (m : ModuleState) (a : Nat) (b : Bool) (current : Int) : ModuleState :=
  let d := m.drive a
  match if b then d.openBAt else d.openAt with
  | none => m
  | some t =>
    if !d.leaving b then m.setDrive a fun d => d.left b
    else if current.natAbs < 50 then m.opened a b
    else if m.due t 300000 then
      ((m.opened a b).setDrive a fun d => { d with hotOpens := sat max16 d.hotOpens }).saturated max16 d.hotOpens (tgAxis a) 0x0206 30
    else m

/-- The sluices of both phases (R120). The gate stage does this without the island (R575). -/
def ModuleState.openSluices (m : ModuleState) (a : Nat) (ia ib : Int) : ModuleState := (m.openPhase a false ia).openPhase a true ib

/-- An angle validation begins once the sluices are closed (R134 step 3, R137): from a record, the position and angle saved take
the place of the present ones; kept through a latch, they stand as they are. -/
def ModuleState.beginValidation (m : ModuleState) (a : Nat) : ModuleState :=
  let d := m.drive a
  let m := m.acceptEdges a
  let m1 := match d.valKept, d.record with
    | false, some r =>
      ((if m.source a = 3 then m else m.setOffset a r.pos).setAxis a fun x => { x with cmdPos := r.pos }).setDrive a fun d => { d with angle := r.angle }
    | _, _ => m
  m1.setDrive a fun d => { d with validatingAt := some m.now }

/-- A bridge enabled (R120, R127, R129): its choppers begin their on-time and its offsets are 0; an awaited validation begins. Phase A of a DC axis that stands free stays without
drive (R131). -/
def ModuleState.enableBridge (m : ModuleState) (a : Nat) : ModuleState :=
  let free := m.freed a
  let m1 := m.setDrive a fun d =>
    { d with bridge := if !free then .driving else if d.solenoid.state = 0 then .off else .holding
             chopper := (.started m.now, .started m.now), offA := 0, offB := 0, servoAmp := 0, dcInt := 0, kept := .off }
  if (m.drive a).awaitVal && (m.drive a).validatingAt.isNone then m1.beginValidation a else m1

/-- SLUICE_CLOSED_READBACK (R120): the sluices ordered closed are read back as closed, and the bridge is enabled when VDRV is
present; a phase that joins an enabled bridge begins its on-time with its offset at 0 (R127, R129). -/
def execSluiceClosedReadback (t axis : Nat) (s : State) : Host.Outcome State Fault Refusal :=
  happen (axis < 8) t (fun m =>
    let d := m.drive axis
    if d.sluiceOrder = 0 ∨ !m.mayClose axis then m
    else
      let newA : Bool := d.sluices % 4 != 3 && d.sluiceOrder % 4 == 3
      let newB : Bool := d.sluices / 4 != 3 && d.sluiceOrder / 4 == 3
      let m1 := m.setDrive axis fun d =>
        { d with sluices := d.sluices ||| d.sluiceOrder, following := [0, 0, 0, 0], offA := if newA then 0 else d.offA
                 dcInt := if newA then 0 else d.dcInt, offB := if newB then 0 else d.offB
                 chopper := (if newA then .started m.now else d.chopper.1, if newB then .started m.now else d.chopper.2) }
      if d.bridge == .off && m.vdrvPresent then m1.enableBridge axis else m1) s

/-! ### Bridge faults -/

/-- Code of a bridge fault cause (R137 Table 4). -/
def FaultCode.code : FaultCode → Nat
  | .none => 0 | .shortToVdrv => 1 | .shortToPgnd => 2 | .phaseToPhase => 3 | .overcurrent => 4 | .openPhase => 5
  | .bridgeOvertemp => 6 | .gateSupply => 7 | .sluiceStuckOpen => 8 | .sluiceStuckClosed => 9 | .testFailed => 10

/-- Overcurrent latches of the last 10 min; three of them stay counted until the motion island restarts (R138). -/
def Drive.ocRecent (d : Drive) (now : Nat) : List Nat :=
  if 3 ≤ d.ocTimes.length then d.ocTimes else d.ocTimes.filter fun t => now < t + seconds 600

/-- An axis latched by a bridge fault (R136 to R138): every device off, its motion at an end, its position not valid without
feedback, its angle to be validated with it. A latched axis keeps its cause, but for a failed BRIDGE_TEST. -/
def ModuleState.latch (m : ModuleState) (a : Nat) (cause : FaultCode) (mask : Nat) (ia ib : Int) : ModuleState :=
  let d := m.drive a
  let held := d.bridge == .latched
  if !m.populated a || m.axisMode a = 0 || (held && cause != .testFailed) then m
  else
    let oc : Bool := 1 ≤ cause.code && cause.code ≤ 4
    let m1 := (m.setDrive a fun d =>
        { d.off m.now with
          bridge := .latched
          fault := cause
          latches := if held then d.latches else sat max16 d.latches
          testPassed := false
          regenLatched := d.regenLatched
          lowOn := false
          ocTimes := if oc && d.ocTimes.length < 3 then d.ocRecent m.now ++ [m.now] else d.ocTimes
          awaitVal := d.awaitVal || (m.stepper a && m.hasFb a)
          valKept := if d.awaitVal then d.valKept else true }).setAxis a fun x => x.halt m.now
    let m2 := if m.hasFb a then m1 else m1.unvalid a
    ((if held then m2 else m2.saturated max16 d.latches (tgAxis a) 0x0206 32).log evBridgeFault (tgAxis a)
      [(a : Int), (cause.code : Int), (mask : Int), ia, ib]).tellFault a

/-- Cause of an overcurrent trip from the devices that tripped, a mask as PASS_MASK (R137 Table 4). -/
def tripCause (tripped : Nat) (deadTime : Bool) : FaultCode :=
  let pins := [0, 1, 2, 3]
  let high := pins.filter fun k => bit tripped (2 * k)
  let low := pins.filter fun k => bit tripped (2 * k + 1)
  if deadTime then .overcurrent
  else if high.isEmpty then .shortToVdrv
  else if low.isEmpty then .shortToPgnd
  else if high.any fun i => low.any fun j => i != j then .phaseToPhase
  else .overcurrent

/-- BRIDGE_OVERCURRENT_TRIP (R136, R137): the devices that tripped in one 1 µs window, whether in dead-time, and the phase
currents. -/
def execBridgeOvercurrentTrip (t axis tripped : Nat) (deadTime : Bool) (ia ib : Int) (s : State) : Host.Outcome State Fault Refusal :=
  happen (axis < 8) t (fun m =>
    if tripped % 256 = 0 then m else m.latch axis (tripCause (tripped % 256) deadTime) (tripped % 256) ia ib) s

/-- A phase carries less than 25 % of a setpoint of 500 mA or more, and has for 2 ms (R137 Table 4). -/
def Chopper.openPhase (c : Chopper) (m : ModuleState) (set : Int) : Bool := 500 ≤ set.natAbs && m.dueO c.lowSince (ms 2)

/-- OPEN_PHASE_DETECTED (R137 Table 4, codes 5 and 8): follows tells whether the motor side follows the bridge side. -/
def execOpenPhaseDetected (t axis : Nat) (follows : Bool) (s : State) : Host.Outcome State Fault Refusal :=
  happen (axis < 8) t (fun m =>
    let d := m.drive axis
    if d.drives && (d.chopper.1.openPhase m d.iaSet || d.chopper.2.openPhase m d.ibSet) then
      m.latch axis (if follows then .openPhase else .sluiceStuckOpen) 0 d.iaMeas d.ibMeas
    else m) s

/-- BRIDGE_OVERTEMP (R137 Table 4, code 6): a device junction reaches 175 °C. -/
def execBridgeOvertemp (t axis : Nat) (s : State) : Host.Outcome State Fault Refusal :=
  happen (axis < 8) t (fun m =>
    (m.setDrive axis fun d => { d with temp := max 1750 d.temp }).latch axis .bridgeOvertemp 0 (m.drive axis).iaMeas (m.drive axis).ibMeas) s

/-- GATE_SUPPLY_FAULT (R137 Table 4, code 7): the gate supply is below its limits, which stand apart from VDRV presence (R138); no fault
while VDRV is absent (R132). -/
def execGateSupplyFault (t axis : Nat) (s : State) : Host.Outcome State Fault Refusal :=
  happen (axis < 8) t (fun m =>
    let m1 := m.setDrive axis fun d => { d with gateOk := false }
    if m.vdrvPresent then m1.latch axis .gateSupply 0 (m.drive axis).iaMeas (m.drive axis).ibMeas else m1) s

/-- GATE_SUPPLY_RECOVERED (R137 Table 4): the gate supply has stayed above 10.0 V for 1 ms. -/
def execGateSupplyRecovered (t axis : Nat) (s : State) : Host.Outcome State Fault Refusal :=
  happen (axis < 8) t (fun m => m.setDrive axis fun d => { d with gateOk := true }) s

/-- SLUICE_CHECK (R121): the comparison of bridge and motor side of each pin; follow names the pins whose bridge side follows its
motor side within 5 V. -/
def execSluiceCheck (t axis follow : Nat) (s : State) : Host.Outcome State Fault Refusal :=
  happen (axis < 8) t (fun m =>
    let d := m.drive axis
    if !m.vdrvPresent || !m.runs (axisIsland axis) then m
    else
      let counts := (d.following.zip [0, 1, 2, 3]).map fun x =>
        if bit d.sluiceOrder x.2 || !bit follow x.2 then 0 else min 3 (x.1 + 1)
      let m1 := m.setDrive axis fun d => { d with following := counts }
      if counts.any (· == 3) then m1.latch axis .sluiceStuckClosed 0 d.iaMeas d.ibMeas else m1) s

/-! ### Clearing a latch -/

/-- The regeneration limit still holds braked axes: the clamp accumulator at 2.5 J or more, or VDRV_BULK at 150 V or more (R143). -/
def ModuleState.regenHolds (m : ModuleState) : Bool :=
  (2500 : Rat) ≤ leak m.driveCommon.clampMj 500 m.driveCommon.clampAt m.now || 1500 ≤ m.warden.bulk

/-- The cause of a latch is still present (R138, R143). -/
def ModuleState.causePresent (m : ModuleState) (a : Nat) : Bool :=
  let d := m.drive a
  (d.regenLatched && m.regenHolds) || match d.fault with
    | .bridgeOvertemp => decide (1200 ≤ d.temp)
    | .gateSupply => !d.gateOk
    | .sluiceStuckClosed => !d.testPassed
    | .testFailed => !d.testPassed
    | _ => false

/-- Why a clear of an axis fails, if it does (R138, R147). -/
def ModuleState.clearFails (m : ModuleState) (a : Nat) : Option Nat :=
  if !(m.drive a).stopped || m.causePresent a then some stWrongState
  else if 3 ≤ (m.drive a).ocTimes.length then some stBridgeLatched
  else none

/-- An axis unlatched, or no longer braked (R137, R138, R143): it is energised at once for its validation when the module is armed; one that
was braked at rest is enabled again. -/
def ModuleState.unlatch (m : ModuleState) (a : Nat) : ModuleState :=
  let d := m.drive a
  let m1 := m.setDrive a fun d => { d with bridge := .off, fault := .none, regenLatched := false, lowOn := false }
  let m2 := if d.bridge == .braking && d.sluiceOrder != 0 && d.sluices == d.sluiceOrder && m1.mayClose a && m1.vdrvPresent then m1.enableBridge a else m1
  if m2.reset.armed && (m2.drive a).awaitVal then m2.energise a else m2.start a

/-! ### The current loop -/

/-- Amplitude of a stepper axis in mA before any ceiling (R123, R130, R134): validation, standstill ramp, servo, or I_RUN. The new
value of the servoed amplitude comes with it: each 20 µs it moves towards the target load angle by a free share of the hundredth part of
the sweep that R123's 2 ms allow (log entry 9). -/
def ModuleState.amplitude (m : ModuleState) (a : Nat) : Rat × Rat :=
  let d := m.drive a
  let run : Rat := m.iRun a
  let low : Rat := run * (m.cfg (driveCfg a + 24) 1 : Nat) / 100
  let step : Rat := (run - low) / 100
  let angle := m.loadAngle a
  let target : Int := m.cfg (driveCfg a + 25) 1
  let push := step / (1 + (Config.servo 4 [(a : Int), angle, target, (m.now : Int)]).natAbs : Nat)
  let servo := if m.axisMode a = 2 then
      max low (min run (d.servoAmp + (if target < angle then push else if angle < target then -push else 0)))
    else run
  let hold := min (m.holdCurrent a) servo
  let ramp := fun (began span : Nat) => ((min (m.now - began) span : Nat) : Rat) / span
  let amp := match d.validatingAt, d.holdRampAt with
    | some b, _ => max (m.holdCurrent a) (run / 4) * ramp b 20000000
    | none, some b => servo + (hold - servo) * ramp b 10000000
    | none, none => servo
  let tested := if m.pair.checkAt.isSome && m.shared a then max 500 amp else amp
  (match d.reentryAt with
    | some b => tested * ramp b 2000000
    | none => tested, servo)

/-- Phase A setpoint of a DC axis and its new integral (R124, R131); the speed is the reported one (R169; log entry 23). -/
def ModuleState.dcLoop (m : ModuleState) (a : Nat) : Rat × Rat :=
  let d := m.drive a
  let gain := fun (off : Nat) => (m.cfg (driveCfg a + off) 4 : Rat) / 65536
  let limit := if d.bridge == .holding then m.holdCurrent a else (m.iRun a : Rat)
  let err := gain 28 * (m.posError a : Rat) + ((m.axis a).cmdSpeed : Rat) - (m.fb a).repSpeed
  let int := d.dcInt + err / 50000
  let u := gain 32 * err + gain 36 * int
  (max (-limit) (min limit u), if (limit < u && 0 < err) || (u < -limit && err < 0) then d.dcInt else int)

/-- Current of phase B of a DC_SOLENOID axis (R125). -/
def Drive.solenoidSet (d : Drive) : Int :=
  let i : Int := if d.solenoid.holding then d.solenoid.holdMa else d.solenoid.pullMa
  match d.solenoid.state with
  | 1 => i
  | 2 => -i
  | _ => 0

/-- The chopper offset of a phase after one update (R129): setpoint before, measured average, setpoint after. A setpoint of 0 counts as
positive where a sign changes (log entry 159). -/
def ModuleState.offsetNext (m : ModuleState) (a : Nat) (off : Rat) (old meas new : Int) : Rat :=
  if !bit (m.driveFlags a) 0 || decide (0 ≤ old) != decide (0 ≤ new) then 0
  else
    let w : Rat := (m.hystWidth a : Rat) / 2
    max (-w) (min w (off + ((old - meas : Int) : Rat) / 8))

/-- Fast decay forced on a phase (R128): from a setpoint falling in magnitude by more than HYST_WIDTH until the current is inside
the window; under the regeneration limit it has no effect, and comes back with its end. -/
def ModuleState.fastNext (m : ModuleState) (a : Nat) (fast : Bool) (off : Rat) (old meas new : Int) : Bool :=
  let w : Rat := (m.hystWidth a : Rat) / 2
  let inside : Bool := decide ((new : Rat) + off - w ≤ (meas : Rat)) && decide ((meas : Rat) ≤ (new : Rat) + off + w)
  decide (new.natAbs + m.hystWidth a < old.natAbs) || (fast && !inside)

/-- The chopper of a phase at an instant (R127), by its comparator's view of the current then (log entry 136): the on-time ends at the upper
threshold, after BLANK; the off-time ends at or below the lower one, after MIN_OFF and with 1/F_MAX since the period began. -/
def ModuleState.chopAt (m : ModuleState) (a : Nat) (phase : Nat) (off : Rat) (set : Int) (c : Chopper) (at' : Nat) : Chopper :=
  let w : Rat := (m.hystWidth a : Rat) / 2
  let s : Rat := if set < 0 then -1 else 1
  let current := s * (Config.phaseCurrent (2 * a + phase) at' : Rat)
  let middle := s * ((set : Rat) + off)
  if c.on then
    if c.since + 50 * m.cfg (driveCfg a + 3) 1 ≤ at' ∧ middle + w ≤ current then { c with on := false, since := at' } else c
  else if c.since + 250 * m.cfg (driveCfg a + 9) 1 ≤ at' ∧ current ≤ middle - w ∧ c.periodAt + 1000000 / m.cfg (driveCfg a + 12) 1 ≤ at' then
    { c with on := true, since := at', periodAt := at' }
  else c

/-- The chopper of a phase after one update (R127, R128, R137): the 20 µs just past in steps of 50 ns, under the setpoint they had; the decay in
effect is slow under the regeneration limit, fast where it is forced, and else as DECAY has it. -/
def ModuleState.chopNext (m : ModuleState) (a phase : Nat) (c : Chopper) (forced : Bool) (off : Rat) (old meas set : Int) : Chopper :=
  let c1 := (List.range 400).foldl (fun c i => m.chopAt a phase off old c (m.now - 20000 + 50 * (i + 1))) c
  let low : Bool := 500 ≤ set.natAbs && 4 * meas.natAbs < set.natAbs
  { c1 with
    fast := !m.driveCommon.regenLimit && (forced || match m.cfg (driveCfg a + 1) 1 with
      | 0 => false
      | 1 => true
      | _ => !m.due c1.since (250 * m.cfg (driveCfg a + 9) 1 * m.cfg (driveCfg a + 2) 1 / 100))
    lowSince := if low then some (c.lowSince.getD m.now) else none }

/-- Consecutive samples beyond a window, counted up to STALL_FILTER (R139): a window of 0 counts none, and after the event the
count stands one higher until the position is back inside. -/
def windowCount (window filter err n : Nat) : Nat :=
  if window = 0 ∨ err ≤ window then 0 else if n < filter then n + 1 else n

/-- The stall windows compared once (R139): not for a DC axis that can be moved freely (R131). -/
def ModuleState.sampleWindows (m : ModuleState) (a : Nat) : ModuleState :=
  let err := (m.posError a).natAbs
  let filter := m.cfg (driveCfg a + 15) 1
  let free := m.freed a && m.vdrvPresent && (m.drive a).bridge != .driving
  if !m.hasFb a || free then m.setDrive a fun d => { d with beyond := (0, 0) }
  else m.setDrive a fun d =>
    { d with beyond := (windowCount (m.cfg (driveCfg a + 16) 4) filter err d.beyond.1,
                        windowCount (m.cfg (driveCfg a + 20) 4) filter err d.beyond.2) }

/-- One 20 µs update of an axis (R122 to R131, R203, R561, R562): a phase whose sluices are on their way to open is in fast decay (R120, R125). -/
def ModuleState.currentLoop (m : ModuleState) (a : Nat) (ia ib point : Int) (chop : Nat × Nat) : ModuleState :=
  let d := m.drive a
  let temp := m.junction a point ia ib chop
  let sc := thermalScale temp
  let factor : Rat := (sc : Rat) / 1000 * (if m.warden.hot then 3 / 4 else 1)
  let on := d.drives
  let cap := fun (v : Rat) => match m.homingCap a with
    | some c => max (-c) (min c v)
    | none => v
  let amp := m.amplitude a
  let dc := m.dcLoop a
  let i := cap amp.1 * factor
  let sets : Int × Int :=
    if !on then (0, 0)
    else if m.stepper a then ((i * cosineOf d.angle).floor, (i * sineOf d.angle).floor)
    else (if d.sluices % 4 = 3 ∧ d.sluiceOrder % 4 = 3 then (cap dc.1 * factor).floor else 0,
      if m.axisMode a = 4 ∧ d.sluices / 4 = 3 ∧ d.sluiceOrder / 4 = 3 then ((d.solenoidSet : Rat) * factor).floor else 0)
  let fast := (m.fastNext a d.fastNow.1 d.offA d.iaSet ia sets.1, m.fastNext a d.fastNow.2 d.offB d.ibSet ib sets.2)
  let m1 := m.setDrive a fun d =>
    { d with
      temp := temp
      scale := sc
      limited := sc < 1000 || m.warden.hot
      iaMeas := ia
      ibMeas := ib
      chop := chop
      iAmp := if on && m.stepper a then i else 0
      servoAmp := if on then amp.2 else d.servoAmp
      dcInt := if on && m.dcAxis a then dc.2 else d.dcInt
      iaSet := sets.1
      ibSet := sets.2
      offA := m.offsetNext a d.offA d.iaSet ia sets.1
      offB := m.offsetNext a d.offB d.ibSet ib sets.2
      fastNow := fast
      chopper := (m.chopNext a 0 d.chopper.1 (fast.1 || d.leaving false) d.offA d.iaSet ia sets.1,
        m.chopNext a 1 d.chopper.2 (fast.2 || d.leaving true) d.offB d.ibSet ib sets.2)
      reentryAt := if m.dueO d.reentryAt 2000000 then none else d.reentryAt }
  (m1.logIf (sc < 1000 && d.scale == 1000) evThermalLimit tgModule [(a : Int), temp, (sc : Int)]).sampleWindows a

/-- CURRENT_LOOP_UPDATE (R122 to R131, R139): the phase currents in mA averaged over the last 20 µs, the stage's temperature
point in 0.1 °C, and the chopper frequencies in kHz, as the stage delivers them. -/
def execCurrentLoopUpdate (t axis : Nat) (ia ib temp : Int) (chopA chopB : Nat) (s : State) : Host.Outcome State Fault Refusal :=
  happen (axis < 8) t (fun m =>
    let m1 := m.openSluices axis ia ib
    if m.runs (axisIsland axis) && m.populated axis && m.axisMode axis != 0 then m1.currentLoop axis ia ib temp (chopA, chopB) else m1) s

/-- HOLD_DELAY_EXPIRY (R130, R131): a stepper axis ramps to its standstill current; a DC axis limits its loop to it, or switches off
with HOLD_PCT 0; while its solenoid is on, phase B keeps its current (R125). -/
def execHoldDelayExpiry (t axis : Nat) (s : State) : Host.Outcome State Fault Refusal :=
  happen (axis < 8) t (fun m =>
    let x := m.axis axis
    if x.moving || !x.queue.isEmpty || (m.drive axis).bridge != .driving || (m.drive axis).sluiceOrder = 0 ||
        !m.due x.restSince (m.holdDelay axis) then m
    else if m.stepper axis then m.setDrive axis fun d => { d with bridge := .holding, holdRampAt := some m.now }
    else if m.holdPct axis = 0 ∧ (m.drive axis).solenoid.state = 0 then m.setDrive axis fun d => { d with bridge := .off, iaSet := 0 }
    else m.setDrive axis fun d => { d with bridge := .holding }) s

/-- SOLENOID_PULL_END (R125): PULL_MS has passed. -/
def execSolenoidPullEnd (t axis : Nat) (s : State) : Host.Outcome State Fault Refusal :=
  happen (axis < 8) t (fun m =>
    let x := (m.drive axis).solenoid
    if x.state ≠ 0 ∧ !x.holding ∧ m.due x.since (ms x.pullMs) then
      m.setDrive axis fun d => { d with solenoid := { d.solenoid with holding := true } }
    else m) s

/-! ### Angle validation -/

/-- ANGLE_VALIDATION_DONE (R134 step 4, R137): 30 ms after its start the measured position is compared with the saved or kept one. -/
def execAngleValidationDone (t axis : Nat) (s : State) : Host.Outcome State Fault Refusal :=
  happen (axis < 8) t (fun m =>
    let d := m.drive axis
    if !m.dueO d.validatingAt 30000000 then m
    else
      let m := m.acceptEdges axis
      let off := -m.posError axis
      let m1 := m.setDrive axis fun d => { d with validatingAt := none, awaitVal := false, valKept := false, angleOk := d.angleOk || off.natAbs ≤ 64 }
      let m2 :=
        if off.natAbs ≤ 64 then
          (m1.setAxis axis fun x => { x with posValid := x.posValid || (!d.valKept && m.source axis != 3), lost := x.lost && (d.valKept || m.source axis == 3) }).log evAngleValidated (tgAxis axis)
            [(axis : Int), (d.angle : Int), off]
        else (m1.unvalid axis).log evAngleRejected (tgAxis axis) [(axis : Int), 4, off]
      (m2.setAxis axis fun x => { x with restSince := m.now }).start axis) s

/-! ### Stall windows -/

/-- Action applied when the stall window is exceeded (R139, R140): REPORT counts as STOP on a portal's axis. -/
def ModuleState.stallAction (m : ModuleState) (a : Nat) : Nat :=
  let k := m.cfg (driveCfg a + 14) 1
  if k = 0 ∧ m.axisOwner a ≠ 0 then 1 else k

/-- The portal of a door axis hears of a stall (R61, R140; row 4 of Table 4 of chapter 02). -/
def ModuleState.tellStall (m : ModuleState) (a : Nat) : ModuleState :=
  match m.doorOf a with
  | some p => m.setPortal p fun q => if q.door == .homing then { q with homingStall := true } else { q with lostPosition := true }
  | none => m

/-- STALL_WINDOW_EXCEEDED (R139, R140): STALL_FILTER consecutive samples lay beyond the warning window, the stall window, or
both. -/
def execStallWindowExceeded (t axis : Nat) (s : State) : Host.Outcome State Fault Refusal :=
  happen (axis < 8) t (fun m =>
    let d := m.drive axis
    let filter := m.cfg (driveCfg axis + 15) 1
    let err := m.posError axis
    let warns : Bool := d.beyond.1 == filter && m.cfg (driveCfg axis + 16) 4 != 0 && !d.warned
    let m1 := if d.beyond.1 = filter ∧ m.cfg (driveCfg axis + 16) 4 ≠ 0 then
        (m.setDrive axis fun d => { d with beyond := (filter + 1, d.beyond.2), warnFlag := true, warned := true }).logIf warns
          evStallWarning (tgAxis axis) [(axis : Int), err, (m.axis axis).cmdSpeed]
      else m
    if d.beyond.2 = filter ∧ m.cfg (driveCfg axis + 20) 4 ≠ 0 then
      let act := m.stallAction axis
      let m2 := (m1.setDrive axis fun d => { d with beyond := (d.beyond.1, filter + 1), stallFlag := true }).log evStallDetected
        (tgAxis axis) [(axis : Int), err, (act : Int)]
      match act with
      | 0 => m2
      | 1 => ((m2.stopAxis axis .quick 1).invalidate axis 4).tellStall axis
      | _ => (((m2.setAxis axis fun x => x.halt m.now).bridgeOff axis).invalidate axis 4).tellStall axis
    else m1) s

/-! ### VDRV comes and goes -/

/-- The bridge of an axis without VDRV (R132, R555): off, the angle, the sluice order and its state kept, as are a latch and the braking that
only a clear ends (R138, R143); a validation begins again later. -/
def Drive.unfed (d : Drive) : Drive :=
  if d.stopped || d.bridge == .off then d
  else { d with bridge := .off, kept := if d.sluiceOrder = 0 then .off else d.bridge, iaSet := 0, ibSet := 0, reentryAt := none, validatingAt := none }

/-- An axis that was energised re-enters at its kept angle with the 2 ms ramp to its present I_amp (R132): in standstill to the standstill
current. A move that waited starts. -/
def ModuleState.reenter (m : ModuleState) (a : Nat) : ModuleState :=
  let d := m.drive a
  if d.bridge == .off && d.sluiceOrder != 0 && d.sluices == d.sluiceOrder && m.mayClose a then
    ((m.enableBridge a).setDrive a fun x =>
      { x with reentryAt := some m.now, bridge := if d.kept == .holding && x.bridge == .driving then .holding else x.bridge }).start a
  else m.start a

/-- VDRV was present before, or not: the bridges and the moving axes follow a change (R132, R554, R555). -/
def ModuleState.followVdrv (m : ModuleState) (was : Bool) : ModuleState :=
  if was && !m.vdrvPresent then { m with drives := updAll m.drives Drive.unfed }.each axisNums fun m a => m.holdAxis a
  else if !was && m.vdrvPresent then m.each axisNums fun m a => m.reenter a
  else m

/-- VDRV_BULK read in 0.1 V, and what follows (R554). -/
def ModuleState.readBulk (m : ModuleState) (bulk : Nat) : ModuleState :=
  { m with warden := { m.warden with bulk := bulk } }.followVdrv m.vdrvPresent

/-! ### Regeneration -/

/-- Clamp energy added to the leaky accumulator, which holds at most 5 J (R142). -/
def ModuleState.clampEnergy (m : ModuleState) (mj : Nat) : ModuleState :=
  let c := m.driveCommon
  { m with driveCommon := { c with clampMj := min 5000 (leak c.clampMj 500 c.clampAt m.now + mj), clampAt := m.now } }

/-- REGEN_LIMIT_ENTER (R143): VDRV_BULK in 0.1 V, and clamp energy since the last report in mJ. -/
def execRegenLimitEnter (t bulk clamp : Nat) (s : State) : Host.Outcome State Fault Refusal :=
  .next (s.at t fun m =>
    let m1 := (m.clampEnergy clamp).readBulk bulk
    if bulk ≤ 1600 ∨ m.driveCommon.regenLimit then m1
    else { m1 with driveCommon := { m1.driveCommon with regenLimit := true } }.log evRegenLimit tgModule
      [(bulk : Int), m1.driveCommon.clampMj.floor])

/-- REGEN_LIMIT_END (R143): VDRV_BULK in 0.1 V below 150 V. -/
def execRegenLimitEnd (t bulk : Nat) (s : State) : Host.Outcome State Fault Refusal :=
  .next (s.at t fun m =>
    { m with driveCommon := { m.driveCommon with regenLimit := m.driveCommon.regenLimit && decide (1500 ≤ bulk) } }.readBulk bulk)

/-- One axis braked with all four low-side devices on (R143): latched with cause OVERCURRENT when it moves. -/
def ModuleState.brake (m : ModuleState) (a : Nat) : ModuleState :=
  let d := m.drive a
  if !m.populated a || m.axisMode a = 0 || d.bridge == .latched then m
  else if (m.axis a).moving then
    (m.latch a .overcurrent 0 d.iaMeas d.ibMeas).setDrive a fun d => { d with regenLatched := true, lowOn := true }
  else m.setDrive a fun d => { d with bridge := .braking, regenLatched := true, lowOn := true, iaSet := 0, ibSet := 0, holdRampAt := none }

/-- REGEN_BRAKE (R143): clamp energy since the last report in mJ fills the accumulator to 5 J. -/
def execRegenBrake (t bulk clamp : Nat) (s : State) : Host.Outcome State Fault Refusal :=
  .next (s.at t fun m =>
    let m1 := (m.clampEnergy clamp).readBulk bulk
    if m1.driveCommon.clampMj < 5000 then m1
    else
      let hit := axisNums.filter fun a => m.populated a && m.axisMode a != 0 && (m.drive a).bridge != .latched
      if hit.all fun a => (m.drive a).bridge == .braking then m1
      else (m1.each axisNums fun m a => m.brake a).log evRegenBrake tgModule [5000, ((hit.map fun a => 2 ^ a).sum : Nat)])

/-! ### Bridge test -/

/-- The test condition of R146: the currents of the eight devices in mA against VDRV / 47 Ω within 20 %. -/
def passMask (vdrv : Nat) (currents : List Nat) : Nat :=
  (((currents.take 8).zip (List.range 8)).map fun x =>
    let want := vdrv * 100 / 47
    bitOf (5 * want ≤ 5 * x.1 + want && 5 * x.1 ≤ 6 * want) x.2).sum

/-- A BRIDGE_TEST carried out (R146): the axis's sluices are open and its bridge off after it, a braked one braked (R143); a failing device
latches it. It satisfies R138 with all eight devices passed and no pin following (log entry 159). -/
def ModuleState.testBridge (m : ModuleState) (a : Nat) (currents : List Nat) (follow : Nat) : ModuleState :=
  let d := m.drive a
  let pass := passMask m.warden.vdrv currents
  let ok : Bool := pass == 255
  let apart : Bool := follow % 16 == 0
  let m1 := (m.setDrive a fun d =>
      { d.off m.now with testPassed := ok && apart, following := [0, 0, 0, 0], sluices := 0, openAt := none, openBAt := none
                         bridge := if d.stopped then d.bridge else .off }).log evBridgeTestDone (tgAxis a)
    [(a : Int), (pass : Int), flagItem apart]
  if ok then m1 else m1.latch a .testFailed (255 - pass) d.iaMeas d.ibMeas

/-- An axis may be tested now (R146): at rest with an empty queue, or latched, with VDRV present. -/
def ModuleState.testable (m : ModuleState) (a : Nat) : Bool :=
  m.vdrvPresent && ((m.drive a).bridge == .latched || (!(m.axis a).moving && (m.axis a).queue.isEmpty))

/-- STANDBY_BRIDGE_TEST (R482): the currents measured in mA and the pins that follow. A failed test counts as long as a SHARED axis stays
latched. -/
def execStandbyBridgeTest (t axis : Nat) (currents : List Nat) (follow : Nat) (s : State) : Host.Outcome State Fault Refusal :=
  happen (axis < 8) t (fun m =>
    let last := m.pair.testAt.foldl max 0
    if m.pairMode = 0 ∨ m.pair.role ≠ .standby ∨ !m.shared axis ∨ !m.populated axis ∨ m.axisMode axis = 0 ∨ !m.testable axis ∨
        !m.due (m.pair.testAt.getD axis 0) (seconds (60 * m.cfg 3125 1)) ∨ !m.due last (seconds 1) then m
    else
      let m1 := m.testBridge axis currents follow
      let bad : Bool := passMask m.warden.vdrv currents != 255
      ({ m1 with pair := { m1.pair with testAt := upd m1.pair.testAt axis fun _ => m.now,
                                        testFailed := bad || (m1.pair.testFailed && axisNums.any fun a => m1.shared a && (m1.drive a).bridge == Bridge.latched) } }).logIf bad evStandbyTestFailed (tgAxis axis)
        [(axis : Int), (passMask m.warden.vdrv currents : Int)]) s

/-! ### Commands -/

/-- Code of BRIDGE (Table 8). -/
def Bridge.code : Bridge → Nat
  | .off => 0 | .driving => 1 | .holding => 2 | .latched => 3 | .testing => 4 | .braking => 5

/-- A drive status entry (Table 8). -/
def ModuleState.driveEntry (m : ModuleState) (a : Nat) : List Byte :=
  let d := m.drive a
  leBytes 1 a ++ leBytes 1 d.bridge.code ++ leBytes 1 d.sluices ++ leBytes 1 d.fault.code ++ leInt 2 d.iaSet ++ leInt 2 d.iaMeas ++
    leInt 2 d.ibSet ++ leInt 2 d.ibMeas ++ leBytes 2 (if m.dcAxis a then 0 else d.angle) ++ leInt 2 d.offA.floor ++ leInt 2 d.offB.floor ++
    leBytes 1 d.chop.1 ++ leBytes 1 d.chop.2 ++ leInt 4 (m.posError a) ++ leInt 2 d.temp ++
    leBytes 2 (bitOf d.angleOk 5 + bitOf d.limited 4 + bitOf d.stallFlag 3 + bitOf d.warnFlag 2 + bitOf (m.hasFb a) 1 +
      bitOf m.vdrvPresent 0) ++ leBytes 2 d.hotOpens ++ leBytes 2 d.latches

def driveStatusSpec : CmdSpec :=
  { opcode := 0x0206, kinds := [2, 0], roles := .all, size := (· == 0),
    body := fun c m => readFrom (axisNeeds c)
      (m.each (readAxes c) fun m a => m.setDrive a fun d => { d with stallFlag := false, warnFlag := false })
      ((readAxes c).flatMap m.driveEntry) }

/-- DRIVE_STATUS (R144): the read ends the stall and warning flags. -/
def execDriveStatus (p : Packet) (s : State) : Host.Outcome State Fault Refusal := .next (submit driveStatusSpec p s)

def readDriveConfigSpec : CmdSpec :=
  { opcode := 0x0207, kinds := [2, 0], roles := .all, size := (· == 0),
    body := fun c m => readFrom (axisNeeds c) m ((readAxes c).flatMap fun a => m.cfgEntry (driveCfg a) 64) }

/-- READ_DRIVE_CONFIG (R144). -/
def execReadDriveConfig (p : Packet) (s : State) : Host.Outcome State Fault Refusal := .next (submit readDriveConfigSpec p s)

def driveFaultClearSpec : CmdSpec :=
  { opcode := 0x0208, kinds := [2], roles := .only [.maintainer], size := (· == 0), present := axisEnabled,
    body := fun c m => match m.clearFails c.idx with
      | some st => refuse m st
      | none => { acts := [axisChannel c.idx], m := m.unlatch c.idx } }

/-- DRIVE_FAULT_CLEAR (R138). -/
def execDriveFaultClear (p : Packet) (s : State) : Host.Outcome State Fault Refusal := .next (submit driveFaultClearSpec p s)

def solenoidSetBody (c : Cmd) (m : ModuleState) : Result :=
  let a := c.idx
  let state := getN c.data 0 1
  let pull := getN c.data 2 2
  let hold := getN c.data 4 2
  let span := getN c.data 6 2
  if m.cfg (driveCfg a + 26) 2 < pull ∨ pull < hold ∨ 5000 < span then refuse m stValueOutOfRange
  else if m.notOnDuty && m.shared a then refuse m stNotOnDuty
  else if !m.reset.armed then refuse m stNotArmed
  else if m.axisMode a ≠ 4 then refuse m stWrongState
  else if (m.drive a).bridge == .latched then refuse m stBridgeLatched
  else
    { acts := [axisChannel a],
      m := m.setDrive a fun d =>
        if state = 0 then { d with solenoid := {}, sluiceOrder := d.sluiceOrder % 4, ibSet := 0,
                                   openBAt := if 4 ≤ d.sluices then some (d.openBAt.getD m.now) else none }
        else { d with solenoid := { state, pullMa := pull, holdMa := hold, pullMs := span, since := m.now, holding := span == 0 },
                      sluiceOrder := d.sluiceOrder % 4 + 12, openBAt := none } }

def solenoidSetSpec : CmdSpec :=
  { opcode := 0x0209, kinds := [2], roles := .only [.operator, .maintainer], size := (· == 8), present := axisEnabled,
    fields := fun b => getN b 0 1 < 3 && getN b 1 1 == 0, body := solenoidSetBody }

/-- SOLENOID_SET (R125, R145). -/
def execSolenoidSet (p : Packet) (s : State) : Host.Outcome State Fault Refusal := .next (submit solenoidSetSpec p s)

/-- BRIDGE_TEST (R146): the currents of the eight devices and the pins that follow are measured, free values (log entry 20). -/
def bridgeTestBody (c : Cmd) (m : ModuleState) : Result :=
  let a := c.idx
  let p := m.axisOwner a
  let standby := m.pairMode != 0 && m.pair.role == .standby && m.shared a
  if p ≠ 0 ∧ (m.portal p).door ≠ .isolated ∧ !standby then refuse m stAxisOwned
  else if !m.testable a then refuse m stWrongState
  else
    let currents := (List.range 8).map fun i => Config.freeValue (m.free + i) % 65536
    let follow := Config.freeValue (m.free + 8) % 16
    { acts := [axisChannel a], m := { m with free := m.free + 9 }.testBridge a currents follow,
      data := leBytes 1 (passMask m.warden.vdrv currents) ++ leBytes 1 (bitOf (follow == 0) 0) ++ leBytes 2 m.warden.vdrv ++
        leBytes 2 (currents.foldl min 65535) }

def bridgeTestSpec : CmdSpec :=
  { opcode := 0x020A, kinds := [2], roles := .only [.maintainer], size := (· == 0), present := axisEnabled, body := bridgeTestBody }

/-- BRIDGE_TEST (R146). -/
def execBridgeTest (p : Packet) (s : State) : Host.Outcome State Fault Refusal := .next (submit bridgeTestSpec p s)

end Sys2Proof.Machine
end

