-- ==== Sys2Proof/Machine/Feedback.lean ====
section
/-! DEFINITION. Position and speed feedback (chapter 05): signal loss, termination, the observer and the speed status, serial sensors, and the
commands of R181, with AXIS_SET_POSITION of R111. -/

namespace Sys2Proof.Machine

/-! ### Supply, signal, termination -/

/-- The signal of an axis's input is lost (R160, R166): line 0 or supply 1. -/
def ModuleState.loseSignal (m : ModuleState) (a cause : Nat) : ModuleState :=
  if (m.fb a).signalLost then m.setFb a fun f => { f with badAt := m.now }
  else (((m.acceptEdges a).setFb a fun f => { f with signalLost := true, badAt := m.now, heldEdges := [] }).log evEncSignalLost (tgAxis a)
    [(a : Int), (cause : Int), (m.fb a).counter]).invalidate a 1

/-- ENC_SUPPLY_OVERLOAD (R151): with the measured supply current in mA. -/
def execEncSupplyOverload (t axis current : Nat) (s : State) : Host.Outcome State Fault Refusal :=
  happen (axis < 8) t (fun m =>
    if !(m.fb axis).supplyOn then m
    else ((m.setFb axis fun f => { f with supplyOn := false, supplyFault := true, supplyAt := m.now }).log evEncSupplyFault (tgAxis axis)
      [(m.encInput axis : Int), (current : Int)]).loseSignal axis 1) s

/-- ENC_SUPPLY_RETRY (R151): once per second, and not while the module is held in reset. -/
def execEncSupplyRetry (t axis : Nat) (s : State) : Host.Outcome State Fault Refusal :=
  happen (axis < 8) t (fun m =>
    if (m.fb axis).supplyFault && !m.held && m.due (m.fb axis).supplyAt (seconds 1) then
      m.setFb axis fun f => { f with supplyOn := true, supplyFault := false, badAt := m.now }
    else m) s

/-- ENC_SIGNAL_LOSS (R151, R160): for 1 µs an RS422 pair stayed in the undefined band, or the supply output of the input was off. -/
def execEncSignalLoss (t axis : Nat) (supply : Bool) (s : State) : Host.Outcome State Fault Refusal :=
  happen (axis < 8) t (fun m =>
    if m.runs (axisIsland axis) && (if supply then m.onEncoder axis && !(m.fb axis).supplyOn else m.rs422 axis) then
      m.loseSignal axis (bitOf supply 0)
    else m) s

/-- ENC_SIGNAL_RESTORED (R151, R160): the signal has been good, and its supply on, for 10 ms; the position stays as it is. -/
def execEncSignalRestored (t axis : Nat) (s : State) : Host.Outcome State Fault Refusal :=
  happen (axis < 8) t (fun m =>
    if (m.fb axis).supplyOn && m.due (m.fb axis).badAt (ms 10) then m.setFb axis fun f => { f with signalLost := false } else m) s

/-- The termination of an input connected or disconnected (R152): cause CONFIG 0, PARTNER_LOST 1, PARTNER_BACK 2. -/
def ModuleState.setTerm (m : ModuleState) (a : Nat) (on : Bool) (cause : Nat) : ModuleState :=
  (m.setFb a fun f => { f with term := on }).logIf ((m.fb a).term != on) evTermChanged (tgAxis a)
    [(m.encInput a : Int), flagItem on, (cause : Int)]

/-- TERM of an RS422 input. -/
def ModuleState.termMode (m : ModuleState) (a : Nat) : Nat := if m.rs422 a then m.cfg (fbCfg a + 4) 1 else 0

/-- TERM_PARTNER_TIMEOUT (R152, R153): no lease message has arrived for 25 ms, or none at all: the 25 ms do not count from the start (log
entry 173); nothing is connected in a reset. -/
def execTermPartnerTimeout (t axis : Nat) (s : State) : Host.Outcome State Fault Refusal :=
  happen (axis < 8) t (fun m =>
    if m.termMode axis = 2 ∧ m.pair.id % 2 = 1 ∧ !m.held ∧ (m.pair.heardAt.isNone || m.dueO m.pair.heardAt (ms 25)) then m.setTerm axis true 1
    else m) s

/-- TERM_PARTNER_RETURN (R152): lease messages have been back for 25 ms. -/
def execTermPartnerReturn (t axis : Nat) (s : State) : Host.Outcome State Fault Refusal :=
  happen (axis < 8) t (fun m =>
    if m.termMode axis = 2 ∧ m.pair.id % 2 = 1 ∧ m.pair.heardAt.isSome ∧ !m.dueO m.pair.heardAt (ms 25) ∧ m.dueO m.pair.heardSince (ms 25) then
      m.setTerm axis false 2
    else m) s

/-- Supplies and terminations as the configuration sets them (R151, R152); an input whose supply is off counts as having lost its signal. -/
def ModuleState.startInputs (m : ModuleState) : ModuleState :=
  m.each axisNums fun m a =>
    let k := m.termMode a
    let on : Bool := m.onEncoder a && m.cfg (fbCfg a + 6) 1 != 0
    let m1 := (m.setFb a fun f => { f with supplyOn := on, supplyFault := false, shown := [] }).setTerm a (k == 1 || (k == 2 && m.pair.id % 2 == 0)) 0
    if m.onEncoder a && !on then m1.loseSignal a 1 else m1

/-! ### The observer -/

/-- STILL (R169): speed and acceleration are exactly 0, and the observer stands at the measured position. -/
def ModuleState.standStill (m : ModuleState) (a : Nat) : ModuleState :=
  m.setFb a fun f =>
    { f with speed := .still, repSpeed := 0, repAccel := 0, pHat := if m.source a = 3 then f.pHat else m.measured a, vHat := 0, aHat := 0,
             tPrev := none, reversed := false }

/-- Edge speed of R168, units/s. -/
def ModuleState.edgeSpeed (m : ModuleState) (a : Nat) : Rat :=
  let f := m.fb a
  let u := m.unitsPerCount a
  match f.tLast, f.tPrev with
  | some t1, some t0 =>
    let gap := max (max (t1 - t0) (m.now - t1)) 1
    (if f.lastUp then u else -u) * 1000000000 / gap
  | _, _ => 0

/-- The measured position less p_hat, a signed difference (R167); 0 between the readings of a serial sensor (R170). -/
def ModuleState.observed (m : ModuleState) (a : Nat) : Rat :=
  let f := m.fb a
  if m.source a = 3 then (match f.sspMeas with
    | some p => (p : Rat) - f.pHat
    | none => 0)
  else
    let d : Rat := (m.measured a : Rat) - f.pHat
    if m.modulo a then
      let n : Rat := m.moduloOf a
      d - n * ((d / n + 1 / 2).floor : Rat)
    else d

/-- π (R167), to 18 decimals. -/
def circle : Rat := 3141592653589793238 / 1000000000000000000

/-- One update of the observer (R167). -/
def ModuleState.observe (m : ModuleState) (a : Nat) : ModuleState :=
  let e := m.observed a
  let w : Rat := 2 * circle * (m.cfg (fbCfg a + 12) 2 : Nat)
  let step : Rat := 1 / 50000
  m.setFb a fun f =>
    { f with pHat := f.pHat + step * (f.vHat + 3 * w * e), vHat := f.vHat + step * (f.aHat + 3 * w ^ 2 * e),
             aHat := f.aHat + step * (w ^ 3 * e), sspMeas := none }

/-- The reported speed and acceleration (R168, R169); with FUSE_SPEED 0 the observer alone sets the speed (log entry 173). -/
def ModuleState.report (m : ModuleState) (a : Nat) : ModuleState :=
  let f := m.fb a
  let fuse : Rat := m.cfg (fbCfg a + 28) 4
  let v := if f.vHat < 0 then -f.vHat else f.vHat
  let w : Rat := if fuse = 0 then 1 else max 0 (min 1 ((v - fuse) / fuse))
  let speed : Rat := match f.speed with
    | .valid => if f.reversed then f.vHat else w * f.vHat + (1 - w) * m.edgeSpeed a
    | _ => 0
  m.setFb a fun f => { f with repSpeed := speed, repAccel := f.aHat }

/-- The observer and the speed status brought forward by one update, in the order of R169; in INVALID the observer of an axis with feedback
runs on (R167). -/
def ModuleState.track (m : ModuleState) (a : Nat) : ModuleState :=
  let f := m.fb a
  if m.source a = 0 then m.setFb a fun f => { f with speed := .invalid, repSpeed := 0, repAccel := 0 }
  else if f.signalLost ∨ f.sspFault then
    let m1 := (m.observe a).setFb a fun f => { f with speed := .invalid, repSpeed := 0, repAccel := f.aHat }
    if m.source a = 3 then m1.moved a (m.measured a) m.now else m1
  else if f.tLast.isNone || m.dueO f.tLast (m.stillTime a) then
    let m1 := m.standStill a
    if m.source a = 3 then
      (m1.setFb a fun f => { f with pHat := (f.sspMeas.map fun p => (p : Rat)).getD f.pHat, sspMeas := none }).moved a (m.measured a) m.now
    else m1
  else
    let m1 := (m.observe a).report a
    if m.source a = 3 then m1.moved a (m.measured a) m.now else m1

/-- SPEED_STILL_TIMEOUT (R169): T_STILL has passed since the last counting edge. -/
def execSpeedStillTimeout (t axis : Nat) (s : State) : Host.Outcome State Fault Refusal :=
  happen (axis < 8) t (fun m =>
    let f := m.fb axis
    if m.source axis = 0 ∨ f.signalLost ∨ f.sspFault ∨ !m.dueO f.tLast (m.stillTime axis) then m else m.standStill axis) s

/-! ### Serial sensors -/

/-- A bad reading (R171): the third in a row puts the port in fault. Causes as Table 12. -/
def ModuleState.badReading (m : ModuleState) (a cause : Nat) : ModuleState :=
  let f := m.fb a
  let m1 := m.setFb a fun f => { f with sspBad := min 3 (f.sspBad + 1), sspGood := 0 }
  if f.sspBad + 1 < 3 ∨ f.sspFault then m1
  else ((m1.setFb a fun f => { f with sspFault := true, speed := .invalid }).log evSspFault (tgAxis a)
    [(a : Int), (cause : Int)]).invalidate a 3

/-- A good reading (R170 to R172): the word extends the count across its own wrap; the first after start-up gives the position when
the OFFSET record's CRC passes. -/
def ModuleState.goodReading (m : ModuleState) (a word : Nat) : ModuleState :=
  let f := m.fb a
  let bits := m.cfg (fbCfg a + 33) 1
  let size : Int := (2 ^ bits : Nat)
  let d := if f.sspSeen then signed bits (((word : Int) - f.counter) % size).toNat else 0
  let total := if f.sspSeen then f.ext * size + f.counter + d else word
  let ext := if f.sspSeen then total / size else 0
  let turn := if f.sspSeen then ext - f.ext else 0
  let m1 := m.setFb a fun f =>
    { f with counter := word, ext, sspBad := 0, sspGood := min 100 (f.sspGood + 1), sspFault := f.sspFault && f.sspGood + 1 < 100,
             sspSeen := true, wrapped := f.wrapped || turn != 0 }
  let pos := m1.countPos a
  let m2 := m1.setFb a fun f => { f with sspMeas := some pos }
  let m3 := if d = 0 then m2 else m2.setFb a fun f => f.edge (0 < d) m.now
  let m4 := m3.logIf (turn != 0) evEncWrap (tgAxis a) [(a : Int), turn, ext]
  if f.sspSeen then m4
  else
    (m4.setFb a fun f => { f with pHat := pos, sspMeas := none }).setAxis a fun x =>
      { x with posValid := x.posValid || f.offsetRec.isSome, lost := x.lost && f.offsetRec.isNone, cmdPos := if x.moving then x.cmdPos else wrap32 pos }

/-- What remains of a number under the generator 0x43, x^6 + x + 1 (R170), after n subtractions. -/
def crc6Mod : Nat → Nat → Nat
  | 0, v => v % 64
  | n + 1, v => crc6Mod n (if v.testBit (n + 6) then v ^^^ (0x43 <<< n) else v)

/-- CRC-6 of n bits (R170). -/
def crc6 (n v : Nat) : Nat := crc6Mod n (v % 2 ^ n * 64)

/-- A Gray-coded word of at most n bits decoded. -/
def ungray : Nat → Nat → Nat
  | 0, g => g
  | n + 1, g => g ^^^ ungray n (g / 2)

/-- What a frame of a serial port says (R170, R171): its word and warning bit, or the cause of Table 12 for which it is bad. A BiSS-C frame
holds, after its start bit, the position, the active-low error and warning bits and the inverted CRC; an SSI frame the word, and with
DOUBLE_READ its copy. -/
def ModuleState.sspFrame (m : ModuleState) (a : Nat) (started : Bool) (frame copy : Nat) : Except Nat (Nat × Bool) :=
  let bits := m.cfg (fbCfg a + 33) 1
  let kind := m.cfg (fbCfg a + 32) 1
  if kind = 0 then
    if !started then .error 3
    else if crc6 (bits + 2) (frame / 64) ≠ 63 - frame % 64 then .error 0
    else if !bit frame 7 then .error 1
    else .ok (frame / 256 % 2 ^ bits, !bit frame 6)
  else if bit (m.cfg (fbCfg a + 38) 1) 0 && frame % 2 ^ bits != copy % 2 ^ bits then .error 2
  else .ok ((if kind = 2 then ungray bits (frame % 2 ^ bits) else frame % 2 ^ bits), false)

/-- SSP_CYCLE in ns. -/
def ModuleState.sspCycle (m : ModuleState) (a : Nat) : Nat := 20000 * 2 ^ m.cfg (fbCfg a + 35) 1

/-- SSP_READING (R170 to R172): one frame each SSP_CYCLE: whether a start bit arrived within 20 µs, the bits read, and the second word of a
DOUBLE_READ; the bits are those sampled SSP_DELAY, or the measured line delay, after the clock (log entry 138). -/
def execSspReading (t axis : Nat) (started : Bool) (frame copy : Nat) (s : State) : Host.Outcome State Fault Refusal :=
  happen (axis < 8) t (fun m =>
    let f := m.fb axis
    if m.source axis ≠ 3 ∨ !m.runs (axisIsland axis) ∨ !m.populated axis ∨ (f.sspAt.isSome && !m.dueO f.sspAt (m.sspCycle axis)) then m
    else
      let m0 := m.setFb axis fun f => { f with sspAt := some m.now }
      match m.sspFrame axis started frame copy with
      | .error cause => m0.badReading axis cause
      | .ok (word, warn) =>
        let m1 := m0.setFb axis fun f => { f with sspWarn := warn }
        let g := m1.goodReading axis word
        let jump : Rat := (g.countPos axis : Rat) - f.pHat
        let u := m.unitsPerCount axis
        let limit : Rat := (m.cfg (fbCfg axis + 40) 4 : Nat) * (if u < 0 then -u else u)
        if f.sspSeen && (limit < jump || limit < -jump) then m1.badReading axis 4 else g) s

/-! ### Commands -/

def axisSetPositionBody (c : Cmd) (m : ModuleState) : Result :=
  let a := c.idx
  let m := m.acceptEdges a
  if !m.reset.armed then refuse m stNotArmed
  else if m.axisTaken a c.role then refuse m stAxisOwned
  else if (m.axis a).moving || !(m.axis a).queue.isEmpty then refuse m stWrongState
  else { acts := if m.source a = 3 then [axisChannel a, .recd] else [axisChannel a], m := m.redefine a (getI c.data 0 4) }

def axisSetPositionSpec : CmdSpec :=
  { opcode := 0x0204, kinds := [2], roles := .only [.maintainer], size := (· == 8), present := axisEnabled,
    fields := fun b => getN b 4 4 == 0, body := axisSetPositionBody }

/-- AXIS_SET_POSITION (R111). -/
def execAxisSetPosition (p : Packet) (s : State) : Host.Outcome State Fault Refusal := .next (submit axisSetPositionSpec p s)

/-- Code of a speed status (R169). -/
def SpeedState.code : SpeedState → Nat
  | .still => 0 | .estimating => 1 | .valid => 2 | .invalid => 3

/-- Code of a latch state (Table 9). -/
def LatchState.code : LatchState → Nat
  | .idle => 0 | .armed => 1 | .captured => 2 | .stale => 3

/-- The present contents of a feedback status entry (Table 11). -/
def ModuleState.fbNow (m : ModuleState) (a : Nat) : List Byte :=
  let f := m.fb a
  let l := fun i => f.latches.getD i {}
  leBytes 1 a ++ leBytes 1 (m.source a) ++ leBytes 1 f.speed.code ++
    leBytes 1 (bitOf f.term 7 + bitOf f.signalLost 6 + bitOf f.supplyFault 5 + bitOf (m.axis a).posValid 4 + bitOf f.sspFault 3 +
      bitOf f.wrapped 2 + bitOf f.sspWarn 1) ++
    leInt 8 (m.measured a) ++ leInt 4 f.repSpeed.floor ++ leInt 4 f.repAccel.floor ++ leInt 4 f.counter ++ leBytes 4 f.edgeFaults ++
    leBytes 1 (((List.range 8).map fun i => bitOf (f.marks.getD i {}).armed i).sum) ++
    leBytes 1 (bitOf ((l 1).state == .captured) 3 + bitOf ((l 1).state == .armed) 2 + bitOf ((l 0).state == .captured) 1 +
      bitOf ((l 0).state == .armed) 0) ++ leInt 2 (if m.modulo a then f.revs else 0)

/-- OBSERVER_UPDATE (R167 to R170): every 20 µs; FEEDBACK_STATUS takes all its fields from it. -/
def execObserverUpdate (t axis : Nat) (s : State) : Host.Outcome State Fault Refusal :=
  happen (axis < 8) t (fun m =>
    if !m.runs (axisIsland axis) then m
    else
      let m1 := (m.acceptEdges axis).track axis
      m1.setFb axis fun f => { f with shown := (m1.setFb axis fun f => { f with wrapped := f.wrapped || bit (f.shown.getD 3 0).toNat 2 }).fbNow axis,
                                      wrapped := false }) s

/-- A feedback status entry (Table 11): that of the last 20 µs update; before the first, what it holds now. -/
def ModuleState.fbEntry (m : ModuleState) (a : Nat) : List Byte := if (m.fb a).shown.isEmpty then m.fbNow a else (m.fb a).shown

/-- The wrap flag ends with the read that reports it; a wrap since the last 20 µs update is reported by a later one. -/
def Feedback.wrapRead (f : Feedback) : Feedback :=
  { f with wrapped := f.wrapped && !f.shown.isEmpty, shown := upd f.shown 3 fun b => BitVec.ofNat 8 (b.toNat / 8 * 8 + b.toNat % 4) }

def feedbackStatusSpec : CmdSpec :=
  { opcode := 0x0300, kinds := [2, 0], roles := .all, size := (· == 0),
    body := fun c m => readFrom (axisNeeds c) (m.each (readAxes c) fun m a => m.setFb a Feedback.wrapRead)
      ((readAxes c).flatMap m.fbEntry) }

/-- FEEDBACK_STATUS (R181): the read ends the wrap flag. -/
def execFeedbackStatus (p : Packet) (s : State) : Host.Outcome State Fault Refusal := .next (submit feedbackStatusSpec p s)

def readFeedbackConfigSpec : CmdSpec :=
  { opcode := 0x0301, kinds := [2, 0], roles := .all, size := (· == 0),
    body := fun c m => readFrom (axisNeeds c) m ((readAxes c).flatMap fun a => m.cfgEntry (fbCfg a) 64) }

/-- READ_FEEDBACK_CONFIG (R181). -/
def execReadFeedbackConfig (p : Packet) (s : State) : Host.Outcome State Fault Refusal := .next (submit readFeedbackConfigSpec p s)

/-- An axis with a feedback source (R181). -/
def hasSource (m : ModuleState) (kind idx : Nat) : Bool := targetThere m kind idx && (kind != 2 || m.hasFb idx)

/-- A mark is behind (R176): the axis moves in a direction the qualifier accepts, and the position has reached or passed M in it. The commanded
speed tells how the axis moves, for a mark on the measured position too (log entry 173). -/
def ModuleState.markBehind (m : ModuleState) (a dir : Nat) (diff : Int) : Bool :=
  let v := (m.axis a).cmdSpeed
  (m.axis a).moving && ((0 < v && dir != 1 && 0 ≤ diff) || (v < 0 && dir != 0 && diff ≤ 0))

/-- The effect of MARK_SET; the edges whose MIN_EDGE has passed come before it (R157, R176). VALUE is not looked at where the action has no use
for it (log entry 173). -/
def markSetBody (c : Cmd) (m : ModuleState) : Result :=
  let a := c.idx
  let m := m.acceptEdges a
  let i := getN c.data 0 1
  let act := getN c.data 3 1
  let v := getN c.data 8 4
  let src : Bool := getN c.data 1 1 == 1
  let dir := getN c.data 2 1
  let ls : Bool := act == 1 || act == 2
  let owned : Bool := m.axisOwner a != 0
  if 7 < i ∨ (act = 3 ∧ v = 0) ∨ (ls ∧ (v = 0 ∨ 16 < v)) then refuse m stValueOutOfRange
  else if act ≠ 0 ∧ !m.reset.armed then refuse m stNotArmed
  else if owned ∧ (i < 4 ∨ act ≠ 0) then refuse m stAxisOwned
  else if ls ∧ ((loadChannel v).island ≠ axisIsland a ∨ m.loadOwner v ≠ 0) then refuse m stWrongState
  else
    let pos := getI c.data 4 4
    let diff := diff32 (if src then m.measured a else (m.axis a).cmdPos) pos
    let k : Mark := { armed := true, measured := src, dir, action := act, pos, value := v, hyst := getN c.data 12 2,
                      rearm := bit (getN c.data 14 1) 1, notify := bit (getN c.data 14 1) 0, ready := true, below := diff < 0 }
    { status := if m.markBehind a dir diff then stMarkBehind else stOk, acts := [axisChannel a],
      m := m.setFb a fun f => { f with marks := upd f.marks i fun _ => k } }

def markSetSpec : CmdSpec :=
  { opcode := 0x0302, kinds := [2], roles := .only [.operator, .maintainer], size := (· == 16), present := hasSource,
    fields := fun b => getN b 1 1 < 2 && getN b 2 1 < 3 && getN b 3 1 < 5 && getN b 14 1 < 4 && getN b 15 1 == 0, body := markSetBody }

/-- MARK_SET (R175 to R177, R182). -/
def execMarkSet (p : Packet) (s : State) : Host.Outcome State Fault Refusal := .next (submit markSetSpec p s)

/-- Marks with those of a mask disarmed. -/
def disarmMarks (mask : Nat) (l : List Mark) : List Mark :=
  (l.zip (List.range 8)).map fun x => if bit mask x.2 then { x.1 with armed := false } else x.1

def markClearBody (c : Cmd) (m : ModuleState) : Result :=
  let a := c.idx
  let mask := getN c.data 0 1
  if m.axisOwner a ≠ 0 ∧ mask % 16 ≠ 0 then refuse m stAxisOwned
  else { acts := [axisChannel a],
         m := m.setFb a fun f => { f with marks := disarmMarks mask f.marks } }

def markClearSpec : CmdSpec :=
  { opcode := 0x0303, kinds := [2], roles := .only [.operator, .maintainer], size := (· == 4), present := hasSource,
    fields := fun b => getN b 1 3 == 0, body := markClearBody }

/-- MARK_CLEAR (R181). -/
def execMarkClear (p : Packet) (s : State) : Host.Outcome State Fault Refusal := .next (submit markClearSpec p s)

/-- The effect of LATCH_ARM. INPUT is not looked at for SOURCE INDEX (log entry 173). -/
def latchArmBody (c : Cmd) (m : ModuleState) : Result :=
  let a := c.idx
  let i := getN c.data 0 1
  let index : Bool := getN c.data 1 1 == 1
  let input := getN c.data 2 1
  if 1 < i ∨ (!index ∧ (input = 0 ∨ 48 < input)) then refuse m stValueOutOfRange
  else if index ∧ m.source a ≠ 1 then refuse m stWrongState
  else { acts := [axisChannel a],
         m := m.setFb a fun f => { f with latches := upd f.latches i fun _ =>
           { state := .armed, index, input, edge := getN c.data 3 1, notify := bit (getN c.data 4 1) 0 } } }

def latchArmSpec : CmdSpec :=
  { opcode := 0x0304, kinds := [2], roles := .only [.operator, .maintainer], size := (· == 8), present := hasSource,
    fields := fun b => getN b 1 1 < 2 && getN b 3 1 < 3 && getN b 4 1 < 2 && getN b 5 3 == 0, body := latchArmBody }

/-- LATCH_ARM (R179). -/
def execLatchArm (p : Packet) (s : State) : Host.Outcome State Fault Refusal := .next (submit latchArmSpec p s)

/-- A latch entry (Table 9). -/
def Latch.entry (l : Latch) (i : Nat) : List Byte :=
  leBytes 1 i ++ leBytes 1 l.state.code ++ leBytes 2 l.missed ++ leInt 8 l.meas ++ leInt 4 l.cmd ++ stampBytes l.stamp ++ zeros 6

def latchReadSpec : CmdSpec :=
  { opcode := 0x0305, kinds := [2], roles := .all, size := (· == 0), present := hasSource,
    body := fun c m => readFrom [axisChannel c.idx] m
      (((m.fb c.idx).latches.getD 0 {}).entry 0 ++ ((m.fb c.idx).latches.getD 1 {}).entry 1) }

/-- LATCH_READ (R181). -/
def execLatchRead (p : Packet) (s : State) : Host.Outcome State Fault Refusal := .next (submit latchReadSpec p s)

end Sys2Proof.Machine
end

