-- ==== Sys2Proof/Machine/Recorder.lean ====
section
/-! DEFINITION. The recorder (chapter 15): NAND regions R430 and R431, flushing R440, floods R443 to R445, readouts R451, and the
commands R453. -/

namespace Sys2Proof.Machine

/-! ### Flushing -/

/-- The event records in the buffer that the MRAM event ring does not hold yet. -/
def Recorder.newEvents (r : Recorder) : List Rec :=
  ((r.flushing ++ r.buf).filter Rec.isEvent).filter fun x => !r.box.any fun y => y.key == x.key

/-- Records added to a copy of the event ring, which holds the last 10 240 (R432). -/
def ringWith (new old : List Rec) : List Rec := (old ++ new).drop ((old ++ new).length - 10240)

/-- The event records in the buffer copied to both halves of the MRAM event ring (R432, R435). -/
def Recorder.copyEvents (r : Recorder) : Recorder := { r with boxes := r.boxes.onLists (ringWith r.newEvents) }

/-- Records the cycle region can hold (R430, R453). -/
def Recorder.cycleCapacity (r : Recorder) : Nat := r.cycleMib * 1048576 / 64

/-- The records of a ring without those that start in its oldest erase block of b bytes, and the bytes of the next block that lie before its
first record; off: those of the oldest block (R430). -/
def dropBlock (b : Nat) : Nat → List Rec → List Rec × Nat
  | off, [] => ([], off - b)
  | off, x :: r => if off < b then dropBlock b (off + x.body.size) r else (x :: r, off - b)

/-- Oldest erase blocks overwritten until the ring fits in so many bytes (R430); at most n blocks. -/
def fitBlocks (b limit : Nat) : Nat → List Rec × Nat → List Rec × Nat
  | 0, x => x
  | n + 1, (l, off) => if off + recBytesSum l ≤ limit then (l, off) else fitBlocks b limit n (dropBlock b off l)

/-- A flushed half's records in their regions (R430, R431, R440), with the growths of the cycle region: MiB of the cycle region,
of the trace ring, and WRAPPING. -/
def Recorder.store (r : Recorder) (new : List Rec) : Recorder × List (Nat × Nat × Bool) :=
  let cyc := r.cycles ++ new.filter Rec.isCycle
  let step := max 1 Config.eraseBlockMib
  let need := (cyc.length * 64 + 1048575) / 1048576
  let grow := if need ≤ r.cycleMib ∨ r.wrapping then 0 else min ((need - r.cycleMib + step - 1) / step) ((r.traceMib - 512) / step)
  let mib := r.cycleMib + grow * step
  let trMib := r.traceMib - grow * step
  let wrap := r.wrapping || (mib < need)
  let grown := (List.range grow).map fun k => (r.cycleMib + (k + 1) * step, r.traceMib - (k + 1) * step, false)
  let all := grown ++ (if wrap && !r.wrapping then [(mib, trMib, true)] else [])
  let cap := mib * 1048576 / 64
  let ev := r.events ++ new.filter Rec.isEvent
  let all_ := r.traces ++ new.filter Rec.isTrace
  let tr := fitBlocks (step * 1048576) (trMib * 1048576) all_.length (all_, r.traceOff)
  ({ r with cycles := cyc.drop (cyc.length - cap), events := ev.drop (ev.length - 8388608), traces := tr.1, traceOff := tr.2, cycleMib := mib, traceMib := trMib,
            wrapping := wrap }, all)

/-- The recorder after a region was written, beside the recorder before: records that the running readout had yet to reach and that are
overwritten are skipped, and the next chunk carries OVERRUN (R450); a chunk in work is made again from its start (log entry 165). -/
def Recorder.overran (r old : Recorder) : Recorder :=
  { r with readout := r.readout.map (fun o =>
      let before := o.left old
      let after := o.left r
      { o with overrun := o.overrun || before.any fun k => !after.contains k
               moved := if before == after then o.moved else 0
               doneBytes := if before.head? == after.head? then o.doneBytes else 0 }) }

/-- The records of a block that fails a read cannot be read any more: which ones, the spec does not say (R430; log entry 146). -/
def ModuleState.unreadable (m : ModuleState) (region block : Nat) : ModuleState :=
  let on := fun (l : List Rec) => l.map fun x => if Config.pageLost m.free block x.key.seq then { x with unread := some m.free } else x
  { m with free := m.free + 1 }.setRec fun r0 =>
    let r : Recorder := { r0 with readout := r0.readout.map fun (o : Readout) => { o with moved := 0 } }
    if region = 0 then { r with cycles := on r.cycles } else if region = 1 then { r with traces := on r.traces }
    else { r with events := on r.events }

/-- A readout ends (R451): LOG_READ_END with its cause and the chunks written; LOG_READ_STOP is answered. -/
def ModuleState.endReadout (m : ModuleState) (cause : Nat) : ModuleState :=
  match m.recd.readout with
  | none => m
  | some o =>
    let m1 := (m.setRec fun r => { r with readout := none }).log evLogReadEnd tgModule [(cause : Int), (o.chunk : Int)]
    m1.each o.stopRefs fun m ref => m.settle ref none (some (leBytes 4 o.chunk))

/-- A readout that waited for its flushes is answered with its TO_KEY (R451). -/
def ModuleState.readoutReady (m : ModuleState) : ModuleState :=
  match m.recd.readout with
  | some o =>
    match o.waiting with
    | some ref =>
      if (m.recd.buf ++ m.recd.flushing).any (fun x => x.key.le o.toKey) then m.setRec Recorder.startFlush
      else (m.setRec fun r => { r with readout := some { o with waiting := none } }).settle ref none (some (m.keyBytes o.toKey))
    | none => m
  | none => m

/-- A transfer of the recorder's own channel is complete (R423): it counts as a descriptor. -/
def ModuleState.ownDone (m : ModuleState) (c : Nat) : ModuleState :=
  m.setChan c fun q => { q with descriptors := (q.descriptors + 1) % 2 ^ 32 }

/-- NAND_FLUSH_DONE (R440, R428, R435): a half that CV14 has moved is in NAND, event records are in the MRAM ring, and SEQ is saved. -/
def execNandFlushDone (t : Nat) (s : State) : Host.Outcome State Fault Refusal :=
  happen true t (fun m =>
    if m.runs isRecorder && m.recd.flushBusy && m.recd.flushLeft == 0 && !m.recd.cv14Halted && m.recd.failFlushAt.isNone then
      let (r1, grown) := m.recd.copyEvents.store m.recd.flushing
      let r2 := { r1.overran m.recd with flushing := [], flushBusy := false, seqRecs := .both m.recd.seq }
      let m1 := (m.setRec fun _ => if r2.bufBytes = 65536 then r2.startFlush else r2).ownDone 14
      let m2 := m1.each grown fun m g => m.log evCycleRegionGrown tgModule [(g.1 : Int), (g.2.1 : Int), flagItem g.2.2]
      m2.readoutReady
    else m) s

/-- RECORD_FLUSH_TIMER (R440): 1 s after its first record a half is flushed. -/
def execRecordFlushTimer (t : Nat) (s : State) : Host.Outcome State Fault Refusal :=
  happen true t (fun m =>
    if m.runs isRecorder && m.dueO m.recd.bufAt (seconds 1) && m.recd.failFlushAt.isNone then m.setRec Recorder.startFlush else m) s

/-- NAND_BLOCK_FAILURE (R430): a block that fails is retired; cause PROGRAM 0, ERASE 1: its data is written elsewhere; READ 2: its pages are
delivered as stored. -/
def execNandBlockFailure (t region block cause : Nat) (s : State) : Host.Outcome State Fault Refusal :=
  happen true t (fun m =>
    if !m.runs isRecorder then m
    else
      let m1 := if cause = 2 then m.unreadable region block else m
      ((m1.setRec fun r => { r with retired := sat max16 r.retired }).saturated max16 m.recd.retired tgModule 0x0C00 38).log
        evNandBlockRetired tgModule [(region : Int), (block : Int), (cause : Int)]) s

/-- OP_TIME_SAVE (R426): operating time is written to the persistent-state area. -/
def execOpTimeSave (t : Nat) (s : State) : Host.Outcome State Fault Refusal :=
  happen true t (fun m => if m.runs isRecorder then m.setRec fun r => { r with opRecs := .both m.opTime } else m) s

/-! ### Taking in -/

/-- The group with the most drops (R444). -/
def topGroup (l : List (Nat × Nat)) : Nat := (l.foldl (fun a x => if a.2 < x.2 then x else a) (0, 0)).1

/-- SUPPRESSED once the queue has 512 free entries after drops (R444). -/
def ModuleState.reportDrops (m : ModuleState) : ModuleState :=
  let r := m.recd
  if r.drops ≠ 0 ∧ r.queue.length + 512 ≤ 4096 then
    (m.setRec fun r => { r with drops := 0, dropGroups := [], dropSpan := (0, 0) }).log evSuppressed tgModule
      [(r.drops : Int), (topGroup r.dropGroups : Int), (((r.dropSpan.2 - r.dropSpan.1) / 1000000 : Nat) : Int)]
  else m

/-- START_KEY of a cycle (R433): that of the PORTAL_STATE with which it started, none when that event was dropped without a key. -/
def Recorder.startKey (r : Recorder) (p : Nat) (c : CycleSummary) : Option (Nat × Nat × Nat) :=
  (r.startKeys.find? fun x => some x.1 == c.startNo.map fun n => (p, n)).map fun x => (x.2.op, x.2.cycle, x.2.seq)

/-- A cycle or trace record taken in; a trace record is taken in directly after its cycle record, whose key it names (R437). -/
def ModuleState.takeBody (m : ModuleState) (r : Recorder) (b : RecordBody) : Recorder :=
  match b with
  | .trace p _ sp n body tr => m.takeRec r (.trace p r.lastKey sp n body tr)
  | .cycle p slot c time q now temp => m.takeRec r (.cycle p slot { c with startKey := r.startKey p c } time q now temp)
  | b => m.takeRec r b

/-- The PORTAL_STATE with which the cycle of a record started still waits for its key (R433). -/
def Recorder.startWaits (r : Recorder) : RecordBody → Bool
  | .cycle p _ c _ _ _ _ => (r.queue ++ r.producers).any fun e => e.start.isSome && e.start == c.startNo.map fun n => (p, n)
  | _ => false

/-- Records taken in, as far as a buffer half has room, a trace record with the cycle record before it; the others keep their sources (R437, R442,
R445), or are counted once stage 3 of a power-fail flush has begun (R446). -/
def ModuleState.takeBodies (m : ModuleState) (r : Recorder) : List RecordBody → Recorder
  | [] => { r with waiting := [] }
  | b :: rest =>
    let next := (rest.head?.filter fun x => x.kind == 1).map RecordBody.size
    if m.flushClosed r then { r with waiting := [], notKept := r.notKept + (b :: rest).length }
    else if m.recTakes r (b.size + next.getD 0) && !r.startWaits b then m.takeBodies (m.takeBody r b) rest
    else { r with waiting := b :: rest }

/-- The waiting records looked at again. -/
def ModuleState.recordWaiting (m : ModuleState) : ModuleState := m.setRec fun r => m.takeBodies r r.waiting

/-- Cycle and trace records formed by the polder core (R433, R437), in their order. -/
def ModuleState.record (m : ModuleState) (l : List RecordBody) : ModuleState := m.setRec fun r => m.takeBodies r (r.waiting ++ l)

/-- RECORD_TAKE_IN (R425, R443 to R445): the oldest queued event becomes a record; an event held by its producer takes the entry
that frees. -/
def execRecordTakeIn (t : Nat) (s : State) : Host.Outcome State Fault Refusal :=
  happen true t (fun m =>
    if !m.recd.waiting.isEmpty && !m.recd.waiting.any m.recd.startWaits then m.recordWaiting else
    match m.recd.queue with
    | [] => m
    | e :: rest =>
      if m.tooLate m.recd e then m.setRec fun r => { r with queue := rest, notKept := r.notKept + e.parts }
      else if m.recTakes m.recd (64 * e.parts) then
        let m1 := m.setRec fun r => match r.producers with
          | [] => { r with queue := rest }
          | p :: ps => { r with queue := rest ++ [p], producers := ps }
        (m1.withComm (m1.takeEvent m1.comm e)).reportDrops
      else m) s

/-! ### Readout -/

/-- LOG_CHUNK_DONE (R451, R452): CV15 has moved the next chunk whole into the half whose turn it is. -/
def execLogChunkDone (t : Nat) (s : State) : Host.Outcome State Fault Refusal :=
  happen true t (fun m =>
    match m.recd.readout with
    | none => m
    | some o =>
      let (bytes, last, o1) := m.nextChunk o
      if !m.runs isRecorder || m.recd.cv15Halted || o.waiting.isSome || !bit o.free o.half || o.moved ≠ bytes.length then m
      else
        let o2 := { o1 with moved := 0, chunk := (o.chunk + 1) % 2 ^ 32, half := 1 - o.half, free := setBit o.free o.half false,
                            filled := setBit o.filled o.half true, overrun := false }
        let flags := getN bytes 10 1
        let m1 := ((m.setRec fun r => { r with readout := some o2 }).ownDone 15).log evLogChunk tgModule
          [(o.chunk : Int), (o.half : Int), (getN bytes 4 4 : Int), (flags : Int)]
        if last then m1.endReadout 0 else if o.stop then m1.endReadout 1 else m1) s

/-- LOG_READ_TIMEOUT (R451): 60 s after the last LOG_READ_NEXT the readout ends. -/
def execLogReadTimeout (t : Nat) (s : State) : Host.Outcome State Fault Refusal :=
  happen true t (fun m =>
    match m.recd.readout with
    | some o => if m.runs isRecorder && o.waiting.isNone && m.due o.lastNext (seconds 60) then m.endReadout 2 else m
    | none => m) s

/-- CV_RECORDER_RESUME (R419, R441, R452): 1 ms after a halt was logged the recorder resumes CV14 and CV15; a half and a chunk in work are
moved again from their start. -/
def execCvRecorderResume (t : Nat) (s : State) : Host.Outcome State Fault Refusal :=
  happen true t (fun m =>
    if m.runs isRecorder && m.dueO m.cv.haltAt (ms 1) then
      let m1 := { m with cv := { m.cv with
        haltAt := none, chans := m.cv.chans.take 14 ++ updAll (m.cv.chans.drop 14) fun q => { q with state := .idle } } }
      m1.setRec fun r => { r with
        cv14Halted := false, cv15Halted := false, flushLeft := if r.flushBusy then recBytesSum r.flushing else 0
        readout := r.readout.map (fun o => { o with moved := 0 }) }
    else m) s

/-! ### Commands -/

/-- REC_STATUS reply (R453 Table 16). -/
def ModuleState.recStatus (m : ModuleState) : List Byte :=
  let r := m.recd
  m.keyBytes r.lastKey ++ leBytes 4 r.cycles.length ++ leBytes 4 r.cycleCapacity ++ leBytes 2 r.traceMib ++
    leBytes 1 (r.snaps.filter fun s => !s.header.isEmpty).length ++
    leBytes 1 (bitOf r.readout.isSome 2 + bitOf (r.cycleMib != 3072 || r.wrapping) 1 + bitOf r.lastFlushOk 0) ++ leBytes 4 r.suppressed ++
    leBytes 4 r.damaged ++ leBytes 2 r.retired ++ leBytes 2 r.queuePeak

def recStatusSpec : CmdSpec :=
  { opcode := 0x0C00, roles := .all, size := (· == 0), body := fun _ m => readFrom [.recd] m m.recStatus }

/-- REC_STATUS (R453). -/
def execRecStatus (p : Packet) (s : State) : Host.Outcome State Fault Refusal := .next (submit recStatusSpec p s)

/-- LOG_READ (R451): the buffer halves are flushed, TO_KEY is fixed, and the reply follows. -/
def logReadBody (c : Cmd) (m : ModuleState) : Result :=
  let d := c.data
  let r := m.recd
  let fromKey := readKey (d.drop 4)
  let toRaw := (d.drop 20).take 16
  let addr := getN d 36 4
  let half := getN d 40 4
  let open_ := toRaw == List.replicate 16 (0xFF : Byte)
  let toKey := if open_ || !(readKey toRaw).le r.lastKey then r.lastKey else readKey toRaw
  if addr % 8 ≠ 0 ∨ half % 64 ≠ 0 ∨ half < 4096 ∨ 65536 < half ∨ 0x40000 < addr + 2 * half ∨
      (!open_ ∧ !(fromKey == ⟨0, 0, 0⟩) ∧ !fromKey.le (readKey toRaw)) then refuse m stValueOutOfRange
  else if r.readout.isSome then refuse m stWrongState
  else if r.failFlushAt.isSome ∨ r.cv15Halted then refuse m stRecorderBusy
  else
    let held := !r.buf.isEmpty || r.flushBusy
    let o : Readout := { region := getN d 0 1, fromKey, toKey, bufAddr := addr, halfSize := half, lastNext := m.now,
                         waiting := if held then some c.ref else none }
    { acts := [.recd], wait := held, data := m.keyBytes toKey, m := m.setRec fun r => { r.startFlush with readout := some o } }

def logReadSpec : CmdSpec :=
  { opcode := 0x0C01, roles := .only [.maintainer, .integrator], size := (· == 44),
    fields := fun b => getN b 0 1 < 5 && getN b 1 3 == 0, body := logReadBody }

/-- LOG_READ (R451). -/
def execLogRead (p : Packet) (s : State) : Host.Outcome State Fault Refusal := .next (submit logReadSpec p s)

/-- LOG_READ_NEXT (R451): a filled half is returned to the recorder. -/
def logReadNextBody (c : Cmd) (m : ModuleState) : Result :=
  let h := getN c.data 0 1
  match m.recd.readout with
  | some o =>
    if bit o.filled h then
      let o1 : Readout := { o with filled := setBit o.filled h false, free := setBit o.free h true, lastNext := m.now }
      { acts := [.recd], m := m.setRec fun r => { r with readout := some o1 } }
    else refuse m stWrongState
  | none => refuse m stWrongState

def logReadNextSpec : CmdSpec :=
  { opcode := 0x0C02, roles := .only [.maintainer, .integrator], size := (· == 4),
    fields := fun b => getN b 0 1 < 2 && getN b 1 3 == 0, body := logReadNextBody }

/-- LOG_READ_NEXT (R451). -/
def execLogReadNext (p : Packet) (s : State) : Host.Outcome State Fault Refusal := .next (submit logReadNextSpec p s)

/-- LOG_READ_STOP (R451): the readout ends at the next chunk boundary: at once when no half is being filled, else after the chunk in
work; the reply gives the chunks written. -/
def logReadStopBody (c : Cmd) (m : ModuleState) : Result :=
  match m.recd.readout with
  | some o =>
    if bit o.free o.half || o.waiting.isSome then
      let o1 : Readout := { o with stop := true, stopRefs := o.stopRefs ++ [c.ref] }
      { acts := [.recd], wait := true, m := m.setRec fun r => { r with readout := some o1 } }
    else { acts := [.recd], data := leBytes 4 o.chunk, m := m.endReadout 1 }
  | none => refuse m stWrongState

def logReadStopSpec : CmdSpec :=
  { opcode := 0x0C03, roles := .only [.maintainer, .integrator], size := (· == 0), body := logReadStopBody }

/-- LOG_READ_STOP (R451). -/
def execLogReadStop (p : Packet) (s : State) : Host.Outcome State Fault Refusal := .next (submit logReadStopSpec p s)

/-- Offset of the recorder settings entry (R529, R436). -/
abbrev recCfg : Nat := 3112

def readRecConfigSpec : CmdSpec :=
  { opcode := 0x0C04, roles := .all, size := (· == 0), body := fun _ m => readFrom [.recd] m (m.cfgEntry recCfg 8) }

/-- READ_REC_CONFIG (R453). -/
def execReadRecConfig (p : Packet) (s : State) : Host.Outcome State Fault Refusal := .next (submit readRecConfigSpec p s)

/-- SNAPSHOT_TRIGGER (R439). -/
def snapshotTriggerBody (_ : Cmd) (m : ModuleState) : Result :=
  if m.recd.collecting.isSome then refuse m stWrongState
  else if m.recd.failFlushAt.isSome ∨ m.recd.cv15Halted then refuse m stRecorderBusy
  else { acts := [.recd], data := leBytes 1 m.recd.nextSlot, m := m.setRec fun r => m.trigger r none }

def snapshotTriggerSpec : CmdSpec :=
  { opcode := 0x0C05, roles := .only [.maintainer], size := (· == 0), body := snapshotTriggerBody }

/-- SNAPSHOT_TRIGGER (R439). -/
def execSnapshotTrigger (p : Packet) (s : State) : Host.Outcome State Fault Refusal := .next (submit snapshotTriggerSpec p s)

end Sys2Proof.Machine
end

