-- ==== Sys2Proof/Machine/Obstacle.lean ====
section
/-! DEFINITION. Obstacle detection and force supervision (chapter 06): the force estimate, the learned maps, the limits and the
declaration, the kinetic energy, the sensitive edges, and the commands of R210. -/

namespace Sys2Proof.Machine

/-! ### Settings and rest -/

/-- Offset of a portal's obstacle entry in the configuration (R529, R185). -/
def obstCfg (p : Nat) : Nat := 1808 + 64 * (p - 1)
/-- A byte field of a portal's obstacle entry. -/
def ModuleState.obstByte (m : ModuleState) (p off : Nat) : Nat := m.cfg (obstCfg p + off) 1
/-- A 2-byte field of a portal's obstacle entry. -/
def ModuleState.obstHalf (m : ModuleState) (p off : Nat) : Nat := m.cfg (obstCfg p + off) 2

/-- Door states in which a door is at rest (R47). -/
def DoorState.resting : DoorState → Bool
  | .closedLocked | .released | .openD | .isolated | .emergencyOpen | .fault => true
  | _ => false

/-- Step states in which a step is at rest (R47). -/
def StepState.resting : StepState → Bool
  | .stowed | .deployed | .stepFault => true
  | _ => false

/-- A portal is at rest (R47). -/
def ModuleState.portalRests (m : ModuleState) (p : Nat) : Bool := (m.portal p).door.resting && (m.portal p).step.resting

/-- The module is at rest (R47). -/
def ModuleState.moduleRests (m : ModuleState) : Bool := m.enabledPortals.all m.portalRests

/-- A portal command finds its portal: enabled (R45). -/
def portalThere (m : ModuleState) (kind idx : Nat) : Bool := targetThere m kind idx && (kind != 1 || m.enabled idx)

/-- Portals of a status read: the target, or all four. -/
def readPortals (c : Cmd) : List Nat := if c.kind = 0 then portalNums else [c.idx]

/-- The nearest whole number, halves away from zero (R192). -/
def roundAway (x : Rat) : Int := if 0 ≤ x then (x + 1 / 2).floor else -(-x + 1 / 2).floor

/-! ### The force estimate -/

/-- Units per mm of a portal's door, or of its step (R43). -/
def ModuleState.doorScale (m : ModuleState) (p : Nat) : Rat := (m.cfg (portalCfg p + 32) 4 : Rat) / 65536
def ModuleState.stepScale (m : ModuleState) (p : Nat) : Rat := (m.cfgInt (portalCfg p + 40) 4 : Rat) / 65536

/-- Drive force of an axis in N, with a force constant in N per A (R188). -/
def ModuleState.driveForce (m : ModuleState) (a : Nat) (k : Rat) : Rat :=
  let d := m.drive a
  let angle := m.measuredAngle a
  if m.stepper a then k * ((d.ibMeas : Rat) / 1000 * cosineOf angle - (d.iaMeas : Rat) / 1000 * sineOf angle)
  else k * (d.iaMeas : Rat) / 1000

/-- Resisting force of an axis in N (R189): force constant, moving mass in kg, units per mm. -/
def ModuleState.resisting (m : ModuleState) (a : Nat) (k mass scale : Rat) : Rat :=
  let s : Rat := if 0 < m.direction a then 1 else -1
  let size := if scale < 0 then -scale else scale
  s * m.driveForce a k - mass * s * ((m.fb a).repAccel / (size * 1000))

/-- M_EFF_DOOR in kg. -/
def ModuleState.doorMass (m : ModuleState) (p : Nat) : Rat := (m.obstHalf p 8 : Rat) / 100

/-- Speed of a door in m/s. -/
def ModuleState.doorSpeed (m : ModuleState) (p : Nat) : Rat := (m.fb (m.doorAxis p)).repSpeed / (m.doorScale p * 1000)

/-- Kinetic energy of a door in mJ (R189). -/
def ModuleState.doorEnergy (m : ModuleState) (p : Nat) : Rat := m.doorMass p * m.doorSpeed p ^ 2 / 2 * 1000

/-- The last 50 values, a new one among them (R189). -/
def last50 (l : List Rat) (x : Rat) : List Rat := (l ++ [x]).drop (l.length + 1 - 50)

/-- The mean of a list. -/
def mean (l : List Rat) : Rat := l.sum / (max 1 l.length : Nat)

/-! ### Maps -/

/-- Bin of a position (R190). -/
def ModuleState.binOf (m : ModuleState) (p : Nat) (pos : Int) : Nat :=
  (clampI 0 255 ((256 * (pos - m.posClosed p) : Rat) / (m.posOpen p - m.posClosed p : Int)).floor).toNat

/-- The move in progress of a door runs towards POS_OPEN (R190). -/
def ModuleState.runsOpen (m : ModuleState) (p : Nat) : Bool :=
  m.direction (m.doorAxis p) == signI (m.posOpen p - m.posClosed p)

/-- The bins of a direction. -/
def MapRecord.bins (r : MapRecord) (close : Bool) : List Bin := if close then r.closeBins else r.openBins

/-- LEARN_MIN. -/
def ModuleState.learnMin (m : ModuleState) (p : Nat) : Nat := m.obstByte p 3

/-- A map is learned (R193): it stays so until it is reset. -/
def MapRecord.learned (r : MapRecord) (close : Bool) : Bool := if close then r.closeLearned else r.openLearned

/-- A bin takes a sample in 0.1 N (R192): LEARN_SHIFT, LEARN_MIN, LEARN_STEP. -/
def Bin.learn (b : Bin) (shift least step : Nat) (s : Rat) : Bin :=
  let top := 2 ^ shift
  if b.count = 0 then { value := roundAway s, count := 1 }
  else
    let d := (s - b.value) / (min (b.count + 1) top : Nat)
    let d1 := if least ≤ b.count then max (-(step : Rat)) (min step d) else d
    { value := roundAway (b.value + d1), count := min (b.count + 1) top }

/-- Bins with the samples of a move: bin, sum and number of F̄_r in N. -/
def learnBins (bins : List Bin) (sums : List (Nat × Rat × Nat)) (shift least step : Nat) : List Bin :=
  sums.foldl (fun l x => upd l x.1 fun b => b.learn shift least step (10 * x.2.1 / (max 1 x.2.2 : Nat))) bins

/-- Mean of the values of a map, 0.1 N. -/
def meanValue (bins : List Bin) : Rat := mean (bins.map fun b => (b.value : Rat))

/-- CONFIG_TAG of a portal (R190 Table 2). -/
def ModuleState.configTag (m : ModuleState) (p : Nat) : Nat :=
  crc32 (m.cfgEntry (portalCfg p + 20) 4 ++ m.cfgEntry (portalCfg p + 24) 4 ++ m.cfgEntry (portalCfg p + 32) 4 ++
    m.cfgEntry (obstCfg p + 4) 6)

/-- A generation is not older than another, compared modulo (R190 Table 2). -/
def genLater (a b : Nat) : Bool := (a + 2 ^ 32 - b) % 2 ^ 32 < 2 ^ 31

/-- GEN of the later stored record whose CRC passes, 0 when there is none (R190 Table 2). -/
def Obstacle.storedGen (o : Obstacle) : Nat :=
  let ok := fun (r : MapRecord) => r.format == 1 && r.crcOk
  if ok o.half0 then (if ok o.half1 && !genLater o.half0.gen o.half1.gen then o.half1.gen else o.half0.gen)
  else if ok o.half1 then o.half1.gen else 0

/-- The map record written by the recorder to both halves of the persistent-state area, or as soon as it runs (R42, R195; log entry 167). -/
def ModuleState.writeMap (m : ModuleState) (p : Nat) : ModuleState :=
  m.setOb p fun o =>
    if !m.runs isRecorder then { o with mapDue := true }
    else
      let r : MapRecord := { o.work with format := 1, gen := (o.storedGen + 1) % 2 ^ 32, tag := m.configTag p, crcOk := true }
      { o with work := r, half0 := r, half1 := r, mapDue := false }

/-- Maps of a mask reset: OPEN bit 0, CLOSE bit 1 (R195). -/
def MapRecord.clear (r : MapRecord) (mask : Nat) : MapRecord :=
  let r1 : MapRecord :=
    if bit mask 0 then { r with openLearned := false, baseOpen := 0, openBins := List.replicate 256 {} } else r
  if bit mask 1 then { r1 with closeLearned := false, baseClose := 0, closeBins := List.replicate 256 {} } else r1

/-- Maps of a portal reset with a reason (R195, R211), the record written and MAP_RESET logged. -/
def ModuleState.resetMaps (m : ModuleState) (p mask reason : Nat) : ModuleState :=
  ((m.setOb p fun o => { o with work := o.work.clear mask }).writeMap p).log evMapReset (tgPortal p)
    [(p : Int), (mask : Int), (reason : Int)]

/-- The working maps taken at start-up or when R36 calls for it (R195); without the recorder they are in learning mode until it runs (R42; log
entry 167). -/
def ModuleState.loadMaps (m : ModuleState) (p : Nat) : ModuleState :=
  if !m.runs isRecorder then m.setOb p fun o => { o with work := o.work.clear 3, mapWanted := true } else
  let m := m.setOb p fun o => { o with mapWanted := false }
  let o := m.ob p
  let fits := fun (r : MapRecord) => r.format == 1 && r.crcOk && r.tag == m.configTag p
  let r := if fits o.half0 then (if fits o.half1 && !genLater o.half0.gen o.half1.gen then some o.half1 else some o.half0)
    else if fits o.half1 then some o.half1 else none
  match r with
  | some r => m.setOb p fun o => { o with work := r }
  | none =>
    let reason := if o.half0.format = 0 ∧ o.half1.format = 0 ∧ o.half0.crcOk ∧ o.half1.crcOk then 3
      else if (o.half0.format = 1 ∧ o.half0.crcOk) ∨ (o.half1.format = 1 ∧ o.half1.crcOk) then 2 else 1
    m.resetMaps p 3 reason

/-- What waited for the recorder: maps to take, or to write (R195; log entry 167). -/
def ModuleState.settleMaps (m : ModuleState) (p : Nat) : ModuleState :=
  if (m.ob p).mapWanted then m.loadMaps p else if (m.ob p).mapDue then m.writeMap p else m

/-- Good moves taken and the flags that follow one (R192 to R194), in a direction: the sampled bins learn, the map may become
learned, its drift may be logged, and the record is written. -/
def ModuleState.learnMove (m : ModuleState) (p : Nat) (close : Bool) (sums : List (Nat × Rat × Nat)) : ModuleState :=
  let o := m.ob p
  let bins := learnBins (o.work.bins close) sums (m.obstByte p 2) (m.learnMin p) (m.obstHalf p 14)
  let had := o.work.learned close
  let now : Bool := had || bins.all fun b => m.learnMin p ≤ b.count
  let mv := meanValue bins
  let base : Int := if had then (if close then o.work.baseClose else o.work.baseOpen) else roundAway mv
  let n := (if close then o.goodCycles.2 else o.goodCycles.1) + 1
  let limit := m.obstHalf p 18
  let told := if close then o.driftLogged.2 else o.driftLogged.1
  let drift : Bool := had && limit != 0 && !told && decide (((10 * limit : Nat) : Rat) < mv - base)
  let m1 := m.setOb p fun o =>
    if close then
      { o with work := { o.work with closeBins := bins, closeLearned := now, baseClose := if now then base else 0 },
               goodCycles := (o.goodCycles.1, n), driftLogged := (o.driftLogged.1, told || drift) }
    else
      { o with work := { o.work with openBins := bins, openLearned := now, baseOpen := if now then base else 0 },
               goodCycles := (n, o.goodCycles.2), driftLogged := (told || drift, o.driftLogged.2) }
  ((m1.writeMap p).logIf (now && !had) evMapLearned (tgPortal p) [(p : Int), flagItem close, (n : Int)]).logIf drift evFrictionDrift
    (tgPortal p) [(p : Int), flagItem close, roundAway mv, base]

/-! ### Limits and declarations -/

/-- Bits of LAST_CAUSE (Table 9). -/
abbrev obExcess : Nat := 1
abbrev obCeiling : Nat := 2
abbrev obEdge : Nat := 4
abbrev obLearning : Nat := 8

/-- The bin of the present position in the map of a direction. -/
def ModuleState.presentBin (m : ModuleState) (p : Nat) (close : Bool) : Bin :=
  ((m.ob p).work.bins close).getD (m.binOf p (m.axisPos (m.doorAxis p))) {}

/-- The present limit on F̄_r with the cause of exceeding it (R197 Table 4, R198); none once a reversal counts as done (R200). -/
def ModuleState.forceLimit (m : ModuleState) (p : Nat) : Option (Rat × Nat) :=
  let learnt := fun (close : Bool) (ceiling : Rat) =>
    let b := m.presentBin p close
    let learned : Bool := m.learnMin p ≤ b.count
    let other : Rat := if learned then (b.value : Rat) / 10 + m.prof 30 2 else m.obstHalf p 10
    if ceiling < other then some (ceiling, obCeiling) else some (other, if learned then obExcess else obLearning)
  if !(m.axis (m.doorAxis p)).moving then none
  else match (m.portal p).door with
    | .opening => learnt false (m.prof 26 2)
    | .closingWarning => learnt false (m.prof 26 2)
    | .closing => learnt true (if (m.portal p).reduced then m.prof 40 2 else m.prof 28 2)
    | .obstructed => if (m.portal p).reversalDoneAt.isNone then some ((m.prof 26 2 : Nat), obCeiling) else none
    | _ => none

/-- The module estimates force on an axis: not as a standby on a shared one (R208). -/
def ModuleState.estimates (m : ModuleState) (a : Nat) : Bool := !(m.notOnDuty && m.shared a)

/-- A sample of F̄_r added to the bin of the present move while the speed status is VALID (R191). -/
def addSample (l : List (Nat × Rat × Nat)) (bin : Nat) (f : Rat) : List (Nat × Rat × Nat) :=
  if l.any (·.1 == bin) then l.map fun x => if x.1 = bin then (x.1, x.2.1 + f, x.2.2 + 1) else x else l ++ [(bin, f, 1)]

/-- The force estimate of a door (R188 to R191, R197, R198, R202). -/
def ModuleState.estimateDoor (m : ModuleState) (p : Nat) : ModuleState :=
  let a := m.doorAxis p
  let st := (m.portal p).door
  let moving := (m.axis a).moving
  let o := m.ob p
  let k : Rat := (m.cfg (obstCfg p + 4) 4 : Rat) / 65536
  let l := if moving then last50 o.samples (m.resisting a k (m.doorMass p) (m.doorScale p)) else []
  let f := mean l
  let bin := m.binOf p (m.axisPos a)
  let ke := m.doorEnergy p
  let lim := m.forceLimit p
  let above : Bool := (lim.map fun x => decide (x.1 < f)).getD false
  let sampled : Bool := moving && (m.fb a).speed == .valid && (st == .opening || st == .closing)
  let hot : Bool := st == .closing && decide (5 * (m.prof 34 2 : Rat) / 4 < ke)
  (m.setOb p fun o =>
    { o with
      samples := l, force := f, bin := bin, ke := ke, limit := lim.map (·.1)
      overSince := if above then some (o.overSince.getD m.now) else none
      binSums := if sampled then addSample o.binSums bin f else o.binSums
      peakClose := if st == .closing then max o.peakClose f else o.peakClose
      keSince := if hot then some (o.keSince.getD m.now) else none
      spoiled := o.spoiled || (!st.resting && ((m.axis a).pausedAt.isSome || !(m.axis a).posValid)) }).setPortal p fun q =>
    { q with cycle := { q.cycle with peakForce := if moving && st == .closing then max q.cycle.peakForce f.floor else q.cycle.peakForce } }

/-- The force estimate of a step (R204). -/
def ModuleState.estimateStep (m : ModuleState) (p a : Nat) : ModuleState :=
  let st := (m.portal p).step
  let k : Rat := (m.cfg (obstCfg p + 20) 4 : Rat) / 65536
  let active : Bool := (st == .deploying || st == .stowing) && m.obstHalf p 26 != 0 && k != 0 && (m.axis a).moving
  let o := m.ob p
  let l := if active then last50 o.stepSamples (m.resisting a k ((m.obstHalf p 24 : Rat) / 100) (m.stepScale p)) else []
  let f := mean l
  m.setOb p fun o =>
    { o with stepSamples := l, stepForce := f,
             stepOverSince := if active && decide ((m.obstHalf p 26 : Rat) < f) then some (o.stepOverSince.getD m.now) else none }

/-- A module that does not estimate force on a door, or on a step, holds no part of a declaration of it (R208). -/
def Obstacle.doorIdle (o : Obstacle) : Obstacle := { o with samples := [], force := 0, limit := none, overSince := none, keSince := none }
def Obstacle.stepIdle (o : Obstacle) : Obstacle := { o with stepSamples := [], stepForce := 0, stepOverSince := none }

/-- FORCE_ESTIMATE_UPDATE (R188, R189, R204, R208): every 20 µs, for the door and the step of a portal. -/
def execForceEstimateUpdate (t portal : Nat) (s : State) : Host.Outcome State Fault Refusal :=
  happen (1 ≤ portal && portal ≤ 4) t (fun m =>
    let a := m.doorAxis portal
    if !m.enabled portal then m
    else
      let m1 := if !m.runs (axisIsland a) then m else if m.estimates a then m.estimateDoor portal else m.setOb portal Obstacle.doorIdle
      match m.stepAxis portal with
      | some b => if !m.runs (axisIsland b) then m1 else if m.estimates b then m1.estimateStep portal b else m1.setOb portal Obstacle.stepIdle
      | none => m1) s

/-- OBST_TIME_ELAPSED (R198, R199, R204): the force of the door, or of the step, has been above its limit for OBST_TIME; the
axis stops in QUICK mode and the declaration waits for the tick; no standby declares on a shared axis (R208). -/
def execObstTimeElapsed (t portal : Nat) (step : Bool) (s : State) : Host.Outcome State Fault Refusal :=
  happen (1 ≤ portal && portal ≤ 4) t (fun m =>
    let o := m.ob portal
    let span := ms (m.prof 32 2)
    if !m.enabled portal then m
    else if step then
      match m.stepAxis portal with
      | some b =>
        if m.dueO o.stepOverSince span && m.estimates b then
          ((m.setOb portal fun o => { o with stepOverSince := none }).setPortal portal fun q => { q with stepObst := true }).stopAxis b .quick 1
        else m
      | none => m
    else if m.dueO o.overSince span && m.estimates (m.doorAxis portal) then
      let a := m.doorAxis portal
      let cause := (m.forceLimit portal).map (·.2)
      ((m.setOb portal fun o => { o with overSince := none, spoiled := true }).setPortal portal fun q =>
        { q with obstCause := q.obstCause ||| cause.getD obCeiling, obstPos := m.axisPos a }).stopAxis a .quick 1
    else m) s

/-- KE_EXCEEDED (R202): once per closing move. -/
def execKeExceeded (t portal : Nat) (s : State) : Host.Outcome State Fault Refusal :=
  happen (1 ≤ portal && portal ≤ 4) t (fun m =>
    let o := m.ob portal
    if o.keLogged || !m.dueO o.keSince 10000000 || !m.enabled portal then m
    else (m.setOb portal fun o => { o with keLogged := true }).log evKeExceeded (tgPortal portal)
      [(portal : Int), o.ke.floor, (m.doorSpeed portal * 1000).floor]) s

/-! ### Sensitive edges -/

/-- State of a portal's edge from its input (R205). -/
def ModuleState.edgeNow (m : ModuleState) (p : Nat) : EdgeState :=
  let f := m.fin (m.portalByte p 15)
  match m.obstByte p 1 with
  | 1 => if f.image then .actuated else .normal
  | 2 => match f.supImage with
    | .normal => .normal
    | .actuated => .actuated
    | .faultOpen => .faultOpen
    | .faultShort => .faultShort
  | _ => .none

/-- A fault state of an edge. -/
def EdgeState.faulty : EdgeState → Bool
  | .faultOpen | .faultShort => true
  | _ => false

/-- The edges looked at again after their inputs changed (R205, R207). -/
def ModuleState.noteEdges (m : ModuleState) : ModuleState :=
  m.each m.enabledPortals fun m p =>
    let e := m.edgeNow p
    m.setOb p fun o =>
      { o with edge := e, edgeSince := if o.edge = e ∨ (o.edge.faulty ∧ e.faulty) then o.edgeSince else m.now,
               edgeFaultLogged := o.edgeFaultLogged && e.faulty,
               spoiled := o.spoiled || e == .actuated }

/-- Speed of a part of a closing move in units/s (R202). -/
def ModuleState.closeSpeed (m : ModuleState) (p speed : Nat) : Nat :=
  let scale := m.cfg (portalCfg p + 32) 4
  let slow := if (m.ob p).work.learned true then speed else min speed (m.obstHalf p 12)
  min (m.doorUnits p slow) (Nat.sqrt (200000 * m.prof 34 2 * scale ^ 2 / (max 1 (m.obstHalf p 8) * 2 ^ 32)))

/-- EDGE_FAULT_TIMEOUT (R207): a fault state for 100 ms, logged once for each; a closing in progress goes on at FINAL_SPEED (log entry 139). -/
def execEdgeFaultTimeout (t portal : Nat) (s : State) : Host.Outcome State Fault Refusal :=
  happen (1 ≤ portal && portal ≤ 4) t (fun m =>
    let o := m.ob portal
    if o.edgeFaultLogged || !o.edge.faulty || !m.due o.edgeSince (ms 100) || !m.enabled portal then m
    else
      let m1 := m.setOb portal fun o => { o with degraded := true, edgeFaultLogged := true }
      let m2 := if (m.portal portal).door == .closing then m1.slow (m.doorAxis portal) (max 1 (m.closeSpeed portal (m.prof 20 2))) else m1
      m2.log evEdgeFault (tgPortal portal) [(portal : Int), if o.edge = .faultOpen then 3 else 4]) s

/-- EDGE_DEGRADE_END (R207): NORMAL for 1 s while the door is not CLOSING. -/
def execEdgeDegradeEnd (t portal : Nat) (s : State) : Host.Outcome State Fault Refusal :=
  happen (1 ≤ portal && portal ≤ 4) t (fun m =>
    let o := m.ob portal
    if o.degraded && o.edge == .normal && m.due o.edgeSince (seconds 1) && (m.portal portal).door != .closing then
      m.setOb portal fun o => { o with degraded := false }
    else m) s

/-! ### Commands -/

/-- EDGE of the obstacle status (Table 9). -/
def Obstacle.edgeCode (o : Obstacle) : Nat :=
  if o.degraded then 5
  else match o.edge with
    | .none => 0 | .normal => 1 | .actuated => 2 | .faultOpen => 3 | .faultShort => 4

/-- Lowest COUNT of a map. -/
def minCount (l : List Bin) : Nat := (l.map (·.count)).foldl min 255

/-- F̄_r less the value of the present bin in the map of the present move; 0 while no map applies (Table 9). -/
def ModuleState.excess (m : ModuleState) (p : Nat) : Rat :=
  let st := (m.portal p).door
  if !(m.axis (m.doorAxis p)).moving || st == .homing || st == .isolated then 0
  else (m.ob p).force - ((m.presentBin p (!m.runsOpen p)).value : Rat) / 10

/-- An obstacle status entry (Table 9). -/
def ModuleState.obstEntry (m : ModuleState) (p : Nat) : List Byte :=
  let o := m.ob p
  leBytes 1 p ++ leBytes 1 (bitOf o.work.openLearned 0) ++ leBytes 1 (bitOf o.work.closeLearned 0) ++ leBytes 1 o.edgeCode ++
    leInt 2 o.force.floor ++ leInt 2 (m.excess p).floor ++ leInt 2 (o.limit.getD 0).floor ++ leInt 2 o.ke.floor ++ leBytes 1 o.bin ++
    leBytes 1 o.lastCause ++ zeros 2 ++ leBytes 4 o.obstacles ++ leBytes 2 (minCount o.work.openBins) ++
    leBytes 2 (minCount o.work.closeBins) ++ leInt 2 o.peakClose.floor ++ leInt 2 o.stepForce.floor ++ leBytes 4 o.work.gen

/-- The islands whose obstacle state a read covers. -/
def obstNeeds (m : ModuleState) (c : Cmd) : List Channel := if c.kind = 0 then [.m1ax, .m2ax] else [axisChannel (m.doorAxis c.idx)]

def obstacleStatusSpec : CmdSpec :=
  { opcode := 0x0400, kinds := [1, 0], roles := .all, size := (· == 0), present := portalThere,
    body := fun c m => readFrom (obstNeeds m c) m ((readPortals c).flatMap m.obstEntry) }

/-- OBSTACLE_STATUS (R210). -/
def execObstacleStatus (p : Packet) (s : State) : Host.Outcome State Fault Refusal := .next (submit obstacleStatusSpec p s)

def readObstacleConfigSpec : CmdSpec :=
  { opcode := 0x0401, kinds := [1, 0], roles := .all, size := (· == 0), present := portalThere,
    body := fun c m => readFrom (obstNeeds m c) m ((readPortals c).flatMap fun p => m.cfgEntry (obstCfg p) 64) }

/-- READ_OBSTACLE_CONFIG (R210). -/
def execReadObstacleConfig (p : Packet) (s : State) : Host.Outcome State Fault Refusal := .next (submit readObstacleConfigSpec p s)

/-- A force map record (R190 Table 2). -/
def MapRecord.bytes (r : MapRecord) (p : Nat) : List Byte :=
  let bins := fun (l : List Bin) => l.flatMap fun b => leInt 2 b.value ++ leBytes 1 b.count ++ zeros 1
  withCrc (leBytes 2 r.format ++ leBytes 1 p ++ leBytes 1 (bitOf r.closeLearned 1 + bitOf r.openLearned 0) ++ leBytes 4 r.gen ++
    leInt 2 r.baseOpen ++ leInt 2 r.baseClose ++ leBytes 4 r.tag ++ bins r.openBins ++ bins r.closeBins)

def forceMapReadSpec : CmdSpec :=
  { opcode := 0x0402, kinds := [1], roles := .all, size := (· == 0), present := portalThere,
    body := fun c m => readFrom (obstNeeds m c) m ((m.ob c.idx).work.bytes c.idx) }

/-- FORCE_MAP_READ (R210). -/
def execForceMapRead (p : Packet) (s : State) : Host.Outcome State Fault Refusal := .next (submit forceMapReadSpec p s)

def forceMapResetBody (c : Cmd) (m : ModuleState) : Result :=
  let p := c.idx
  let mask := getN c.data 0 1
  if m.notOnDuty then refuse m stNotOnDuty
  else if !m.portalRests p then refuse m stWrongState
  else { acts := [axisChannel (m.doorAxis p), .recd], m := if mask = 0 then m else m.resetMaps p mask 0 }

def forceMapResetSpec : CmdSpec :=
  { opcode := 0x0403, kinds := [1], roles := .only [.maintainer], size := (· == 4), present := portalThere,
    fields := fun b => getN b 0 1 < 4 && getN b 1 3 == 0, body := forceMapResetBody }

/-- FORCE_MAP_RESET (R211, R474). -/
def execForceMapReset (p : Packet) (s : State) : Host.Outcome State Fault Refusal := .next (submit forceMapResetSpec p s)

end Sys2Proof.Machine
end

