-- ==== Sys2Proof/Machine/Ring.lean ====
section
/-! DEFINITION. The dike ring (chapter 07): the evaluations of the two safety islands, their cross-comparison, the ring
switches with their latches and tests, release permission, and the commands of R237. Island A with SW_A is 0, island B with
SW_B is 1. -/

namespace Sys2Proof.Machine

/-! ### The islands -/

/-- A safety island by index. -/
def ModuleState.safety (m : ModuleState) (i : Nat) : Safety := if i = 0 then m.ring.a else m.ring.b

/-- The module with the ring changed. -/
def ModuleState.setRing (m : ModuleState) (f : DikeRing → DikeRing) : ModuleState := { m with ring := f m.ring }

/-- The module with one safety island changed. -/
def ModuleState.setSafety (m : ModuleState) (i : Nat) (f : Safety → Safety) : ModuleState :=
  m.setRing fun r => if i = 0 then { r with a := f r.a } else { r with b := f r.b }

/-- The island runs. -/
def ModuleState.safetyRuns (m : ModuleState) (i : Nat) : Bool := m.runs (if i = 0 then isSafetyA else isSafetyB)

/-- A field of the island's copy of the ring settings entry (R218 Table 2). -/
def Safety.cfg (x : Safety) (off n : Nat) : Nat := getN x.copy off n

/-- A sample of a safety-class input as an island holds it; input 0 is none (R221). -/
def Safety.sample (x : Safety) (fi : Nat) : Bool := 1 ≤ fi && fi ≤ 16 && bit x.inputs (fi - 1)

/-- AT_CLOSED of a portal, fresh: its latest word is at most 1 ms old (R217). -/
def Safety.atClosed (x : Safety) (now p : Nat) : Bool :=
  match x.words.getD (p - 1) none with
  | some (t, b, _) => b && decide (now ≤ t + ms 1)
  | none => false

/-- confirmed[p] of R221. -/
def Safety.confirmed (x : Safety) (now : Nat) (d : RingDoor) : Bool :=
  let contacts := x.sample d.clA && x.sample d.clB
  if bit (x.cfg 4 1) 0 && x.sample d.isolate then contacts else contacts && x.atClosed now d.portal

/-- Mask of some of the portals an island knows. -/
def Safety.doorMask (x : Safety) (f : RingDoor → Bool) : Nat := ((x.doors.filter f).map fun d => 2 ^ (d.portal - 1)).sum

/-- close_ok of R221 but for its latch term, as the proof test of R239 uses it. -/
def ModuleState.closeRaw (m : ModuleState) (x : Safety) : Bool := x.doors.all (x.confirmed m.now) && m.reset.armed

/-- left and right of R221. -/
def Safety.sides (x : Safety) : Bool × Bool :=
  let base := x.sample (x.cfg 0 1) && !(x.cfg 1 1 != 0 && x.sample (x.cfg 1 1))
  let l := base && x.sample (x.cfg 2 1)
  let r := base && x.sample (x.cfg 3 1)
  if (x.settings.map (·.1)).getD 0 = 1 then (l || r, l || r) else (l, r)

/-- The evaluation of R221 with its comparison word of R224, on what the island holds itself. -/
def ModuleState.evaluate (m : ModuleState) (x : Safety) : CompareWord :=
  { count := (x.own.count + 1) % 2 ^ 32, inputs := x.inputs, confirmed := x.doorMask (x.confirmed m.now),
    closeOk := m.closeRaw x && x.latch == .none, left := x.sides.1, right := x.sides.2, crc := x.crc }

/-- An island may not grant release: words lost, a latch, or the settings of either island missing (R220, R227, R228). -/
def DikeRing.blocked (r : DikeRing) (x : Safety) : Bool := x.lost || x.latch != .none || r.a.settings.isNone || r.b.settings.isNone

/-! ### Release -/

/-- The side mask both islands report as granted (R223): left bit 0, right bit 1. -/
def DikeRing.granted (r : DikeRing) : Nat := bitOf (r.a.grantL && r.b.grantL) 0 + bitOf (r.a.grantR && r.b.grantR) 1

/-- Release permission of a portal (R223). -/
def ModuleState.released (m : ModuleState) (p : Nat) : Bool := bit m.ring.granted (m.side p)

/-- RELEASE_CHANGED when the combined side mask has changed (R240). -/
def ModuleState.noteRelease (m : ModuleState) : ModuleState :=
  let new := m.ring.granted
  (m.setRing fun r => { r with sideMask := new }).logIf (new != m.ring.sideMask) evReleaseChanged tgModule
    [(m.ring.sideMask : Int), (new : Int)]

/-! ### Switches and read-back -/

/-- Both switches conduct. -/
def DikeRing.closed (r : DikeRing) : Bool := r.a.closed && r.b.closed

/-- Highest own-path current and voltages that the islands have read (R229). -/
def DikeRing.current (r : DikeRing) : Nat := max r.a.loopMa r.b.loopMa
def DikeRing.voltA (r : DikeRing) : Nat := max r.a.vA r.b.vA
def DikeRing.voltB (r : DikeRing) : Nat := max r.a.vB r.b.vB

/-- An observation of Table 3 holds: 0 to 2 failed closed, 3 and 4 failed open. -/
def DikeRing.observes (r : DikeRing) : Nat → Bool
  | 0 => 5 ≤ r.current && !r.a.carrier && r.b.carrier
  | 1 => 5 ≤ r.current && r.a.carrier && !r.b.carrier
  | 2 => 5 ≤ r.current && !r.a.carrier && !r.b.carrier
  | 3 => 100 < r.voltA && r.a.carrier
  | 4 => 100 < r.voltB && r.b.carrier
  | _ => false

/-- An observation that goes on, or begins. -/
def DikeRing.held (r : DikeRing) (now k : Nat) : Nat × Nat × Bool := (r.obs.find? (·.1 == k)).getD (k, now, false)

/-- The observations followed (R230). -/
def ModuleState.noteObs (m : ModuleState) : ModuleState :=
  m.setRing fun r => { r with obs := ([0, 1, 2, 3, 4].filter r.observes).map (r.held m.now) }

/-! ### How a RING_TEST ends -/

/-- A passed test of a switch (R228, R231). -/
def ModuleState.testPassed (m : ModuleState) (i : Nat) : ModuleState :=
  (m.setSafety i fun x => { x with lastPass := some m.now, overdue := false, overdueFrom := m.now }).setRing fun r =>
    { r with unproved := if i = 0 then (false, r.unproved.2) else (r.unproved.1, false) }

/-- The module with the running RING_TEST changed. -/
def ModuleState.setTest (m : ModuleState) (f : RingTest → RingTest) : ModuleState :=
  m.setRing fun r => { r with test := r.test.map f }

/-- The result of one switch in a RING_TEST: PASS 0, FAIL 1, SKIPPED 2, NOT_RUN 3. -/
def RingTest.result (x : RingTest) (i v : Nat) : RingTest := if i = 0 then { x with resA := v } else { x with resB := v }

/-- A RING_TEST ends (R238): its reply has its data. -/
def ModuleState.endTest (m : ModuleState) : ModuleState :=
  match m.ring.test with
  | none => m
  | some x =>
    (m.setRing fun r => { r with test := none }).settle x.ref none
      (some (leBytes 1 x.resA ++ leBytes 1 x.resB ++ leBytes 2 x.iBefore ++ leBytes 2 x.iDuring))

/-- RING_TEST_DONE for one switch. -/
def ModuleState.testDone (m : ModuleState) (i res : Nat) : ModuleState :=
  match m.ring.test with
  | none => m
  | some x => m.log evRingTestDone tgModule [(i : Int), (res : Int), (x.iBefore : Int), (x.iDuring : Int)]

/-- A RING_TEST whose pulses are all done ends. -/
def ModuleState.endIfDone (m : ModuleState) : ModuleState :=
  match m.ring.test with
  | some x => if x.todo.isEmpty && x.running.isNone then m.endTest else m
  | none => m

/-- The switches a RING_TEST covers. -/
def RingTest.covers (x : RingTest) (i : Nat) : Bool := x.which == i || x.which == 2

/-- A proof test ends (R239): both carriers are off, the results are logged. -/
def ModuleState.endProof (m : ModuleState) (x : RingTest) : ModuleState :=
  let m1 := (((m.setSafety 0 fun y => { y with carrier := false }).setSafety 1 fun y => { y with carrier := false }).setTest
    fun _ => x).noteObs
  let m2 := if x.covers 0 then (if x.resA = 0 then m1.testPassed 0 else m1).testDone 0 x.resA else m1
  (if x.covers 1 then (if x.resB = 0 then m2.testPassed 1 else m2).testDone 1 x.resB else m2).endTest

/-- A pulse or step of a RING_TEST that its island ends before it is judged (R238): NOT_RUN; a proof test ends with it. -/
def ModuleState.dropPulse (m : ModuleState) (i : Nat) : ModuleState :=
  match m.ring.test with
  | none => m
  | some x =>
    if x.running.isNone then m
    else if x.proof then m.endProof { x with todo := [], running := none }
    else if x.running.map (·.1) = some i then ((m.setTest fun x => { x.result i 3 with running := none }).testDone i 3).endIfDone
    else m

/-- A safety island stops (R238): what a RING_TEST had still to run on it is NOT_RUN, and its part is never acknowledged (log entry 68). -/
def ModuleState.testLoses (m : ModuleState) (i : Nat) : ModuleState :=
  match m.ring.test with
  | none => m
  | some x =>
    if x.proof then
      let m1 := if x.covers 0 then m.testDone 0 3 else m
      (if x.covers 1 then m1.testDone 1 3 else m1).setTest fun x => { x with todo := [], running := none, proof := false }
    else if x.todo.contains i || x.running.map (·.1) == some i then
      (m.setTest fun x => { x.result i 3 with
        todo := x.todo.filter (· != i), running := if x.running.map (·.1) = some i then none else x.running }).testDone i 3
    else m

/-! ### Switches open -/

/-- A switch is opened by its island (R222): RING_OPENED when the ring was closed (R237, R240); a test pulse that runs on it is not judged. -/
def ModuleState.openSwitch (m : ModuleState) (i chans cause mask : Nat) : ModuleState :=
  let was := m.ring.closed
  let n := m.ring.openings
  let m1 := (m.setSafety i fun x => { x with carrier := false, closed := false, pulseAt := none }).setRing fun r =>
    { r with openings := if was then sat max32 r.openings else r.openings, closedLogged := r.closedLogged && !was }
  ((m1.logIf was evRingOpened tgModule [(chans : Int), (cause : Int), (mask : Int)]).saturated max32 (if was then n else 0)
    tgModule 0x0500 24).noteObs.dropPulse i

/-- Code of a latch cause (R237 Table 9). -/
def RingLatch.code : RingLatch → Nat
  | .none => 0 | .discrepancy => 1 | .settings => 2 | .switchA => 3 | .switchB => 4 | .switchBoth => 5 | .test => 6

/-- A SWITCH or TEST latch. -/
def RingLatch.ofSwitch : RingLatch → Bool
  | .switchA | .switchB | .switchBoth | .test => true
  | _ => false

/-- Which cause of a latch stands before which: a switch failed closed, a failed test, SETTINGS, DISCREPANCY. -/
def RingLatch.rank : RingLatch → Nat
  | .none => 0 | .discrepancy => 1 | .settings => 2 | .test => 3 | .switchA => 4 | .switchB => 4 | .switchBoth => 5

/-- The latch of an island that takes a further one: both switches failed closed are both causes (R230 row 3); else the cause that stands
before, so that a switch fault found under another latch asks for its test (R228). DESIGN CHOICE (log entry 141): the spec gives an island
one LATCH_CAUSE and no order of causes. -/
def RingLatch.join (old new : RingLatch) : RingLatch :=
  match old, new with
  | .switchA, .switchB | .switchB, .switchA => .switchBoth
  | x, y => if x.rank < y.rank then y else x

/-- Both islands take a latch. -/
def ModuleState.takeLatch (m : ModuleState) (c : RingLatch) : ModuleState :=
  m.setRing fun r => { r with a := { r.a with latch := r.a.latch.join c }, b := { r.b with latch := r.b.latch.join c } }

/-- Either island holds a latch. -/
def DikeRing.latched (r : DikeRing) : Bool := r.a.latch != .none || r.b.latch != .none

/-- A switch found faulty has not passed a RING_TEST since (R228). -/
def ModuleState.unproveSwitch (m : ModuleState) (a b : Bool) : ModuleState :=
  m.setRing fun r => { r with unproved := (r.unproved.1 || a, r.unproved.2 || b) }

/-- RING_READBACK_FAULT (R230 Table 3): an observation has been held for 5 ms. -/
def execRingReadbackFault (t obs : Nat) (s : State) : Host.Outcome State Fault Refusal :=
  happen (obs < 5) t (fun m =>
    let r := m.ring
    match r.obs.find? (·.1 == obs) with
    | none => m
    | some (_, since, done) =>
      if done || !m.due since (ms 5) || !(m.safetyRuns 0 || m.safetyRuns 1) then m else
      let m1 := m.setRing fun r => { r with obs := r.obs.map fun x => if x.1 = obs then (x.1, x.2.1, true) else x }
      let volt := if obs % 3 = 1 then r.voltB else r.voltA
      let m2 := match obs with
        | 0 => (m1.takeLatch .switchA).unproveSwitch true false
        | 1 => (m1.takeLatch .switchB).unproveSwitch false true
        | 2 => (m1.takeLatch .switchBoth).unproveSwitch true true
        | _ => m1
      m2.log evRingSwitchFault tgModule [(obs % 3 : Nat), flagItem (3 ≤ obs), (r.current : Int), (volt : Int)]) s

/-! ### Cross-comparison -/

/-- Items in which two comparison words differ (R225, R226): kind and index. -/
def CompareWord.differs (x y : CompareWord) : List (Nat × Nat) :=
  ((nums16.filter fun n => bit x.inputs (n - 1) != bit y.inputs (n - 1)).map fun n => (0, n)) ++
    ((portalNums.filter fun p => bit x.confirmed (p - 1) != bit y.confirmed (p - 1)).map fun p => (1, p)) ++
    (if x.closeOk = y.closeOk then [] else [(2, 0)]) ++ (if x.left = y.left then [] else [(3, 0)]) ++
    (if x.right = y.right then [] else [(3, 1)]) ++ (if x.crc = y.crc then [] else [(4, 0)])

/-- The value of an item in a comparison word. -/
def CompareWord.item (x : CompareWord) (kind index : Nat) : Bool :=
  match kind with
  | 0 => bit x.inputs (index - 1)
  | 1 => bit x.confirmed (index - 1)
  | 2 => x.closeOk
  | _ => if index = 0 then x.left else x.right

/-- Two comparison words agree on every item of R224 but the count, which each island keeps on its own clock. -/
def CompareWord.agrees (x y : CompareWord) : Bool := (x.differs y).isEmpty

/-- A difference that goes on, or begins. -/
def Safety.diff (x : Safety) (now : Nat) (k : Nat × Nat) : Diff :=
  (x.diffs.find? fun d => d.kind == k.1 && d.index == k.2).getD { kind := k.1, index := k.2, since := now }

/-- The differences of an island's own latest evaluation from the latest word received (R224). -/
def ModuleState.noteDiffs (m : ModuleState) (i : Nat) : ModuleState :=
  m.setSafety i fun x =>
    match x.seen with
    | none => { x with diffs := [] }
    | some w => { x with diffs := (x.own.differs w).map (x.diff m.now) }

/-- The difference of the settings CRCs has been logged by an island. -/
def Safety.crcLogged (x : Safety) : Bool := x.diffs.any fun d => d.kind == 4 && d.logged

/-- A difference marked as logged. -/
def markDiff (l : List Diff) (kind index : Nat) : List Diff :=
  updIf l (fun d => d.kind == kind && d.index == index) fun d => { d with logged := true }

/-- A valid comparison word of the other island taken in (R224, R226, R227): differing settings CRCs latch both islands at once, and are
logged once as long as they differ. -/
def ModuleState.hearWord (m : ModuleState) (i : Nat) : ModuleState :=
  let w := (m.safety (1 - i)).own
  let m1 := (m.setSafety i fun x => { x with seen := some w, missed := 0, run := sat max8 x.run }).noteDiffs i
  if w.crc = (m.safety i).own.crc then m1
  else
    ((m1.takeLatch .settings).setSafety i fun x => { x with diffs := markDiff x.diffs 4 0 }).logIf
      (!((m.safety i).crcLogged || (m.safety (1 - i)).crcLogged)) evDiscrepancy tgModule
      [4, 0, (m.ring.a.own.crc : Int), (m.ring.b.own.crc : Int)]

/-- DISCREPANCY_LATCH (R225): an item has differed for longer than DISC_TIME. -/
def execDiscrepancyLatch (t sw kind index : Nat) (s : State) : Host.Outcome State Fault Refusal :=
  happen (sw < 2 && kind < 4) t (fun m =>
    match (m.safety sw).diffs.find? fun d => d.kind == kind && d.index == index with
    | none => m
    | some d =>
      if m.now ≤ d.since + ms ((m.safety sw).cfg 6 2) || !m.safetyRuns sw || d.logged then m else
      ((m.takeLatch .discrepancy).setRing fun r =>
        { r with a := { r.a with diffs := markDiff r.a.diffs kind index }
                 b := { r.b with diffs := markDiff r.b.diffs kind index } }).log evDiscrepancy tgModule
          [(kind : Int), (index : Int), flagItem (m.ring.a.own.item kind index), flagItem (m.ring.b.own.item kind index)]) s

/-- COMPARE_LOST (R227): no valid word for two of the island's own evaluations. -/
def execCompareLost (t sw : Nat) (s : State) : Host.Outcome State Fault Refusal :=
  happen (sw < 2) t (fun m =>
    let x := m.safety sw
    if x.missed < 2 || x.lostLogged || !m.safetyRuns sw then m
    else (((m.openSwitch sw (2 ^ sw) 3 0).setSafety sw fun x =>
      { x with lost := true, lostLogged := true, run := 0, grantL := false, grantR := false, leftSince := none,
               rightSince := none }).log evCompareLost tgModule [(sw : Int)]).noteRelease) s

/-- COMPARE_RESUMED (R227): ten consecutive words have been received. -/
def execCompareResumed (t sw : Nat) (s : State) : Host.Outcome State Fault Refusal :=
  happen (sw < 2) t (fun m =>
    if (m.safety sw).run < 10 || !m.safetyRuns sw then m
    else m.setSafety sw fun x => { x with lost := false, lostLogged := false }) s

/-! ### Position words -/

/-- The number of an axis's next position word to a safety island. DESIGN CHOICE (log entry 140): the width of the sequence number. -/
def Axis.nextWord (x : Axis) (i : Nat) : Nat := ((if i = 0 then x.wordSeq.1 else x.wordSeq.2) + 1) % 2 ^ 32

/-- The position word of a portal's door axis reaches an island with its sequence number (R217). -/
def ModuleState.hearPosition (m : ModuleState) (i p : Nat) : ModuleState :=
  let a := m.doorAxis p
  let near := (m.axis a).posValid && decide ((m.axisPos a - m.posClosed p).natAbs ≤ m.lockWindow p)
  let n := (m.axis a).nextWord i
  (m.setAxis a fun x => { x with wordSeq := if i = 0 then (n, x.wordSeq.2) else (x.wordSeq.1, n) }).setSafety i fun x =>
    { x with words := upd x.words (p - 1) fun _ => some (m.now, near, n) }

/-- POSITION_WORD_STALE (R217): the latest word is older than 1 ms. -/
def execPositionWordStale (t sw portal : Nat) (s : State) : Host.Outcome State Fault Refusal :=
  happen (sw < 2 && 1 ≤ portal && portal ≤ 4) t (fun m => m.setSafety sw fun x =>
    { x with words := upd x.words (portal - 1) fun w => w.filter fun y => decide (m.now ≤ y.1 + ms 1) }) s

/-! ### Tests -/

/-- The first due time after an instant of a test that falls due every 60 s from a start. -/
def dueAfter (start now : Nat) : Nat := if now < start then start else start + ((now - start) / seconds 60 + 1) * seconds 60

/-- The next due time of a switch's periodic test (R231); the odd-ID module of a pair shifts it by 15 s. -/
def ModuleState.nextTest (m : ModuleState) (i : Nat) : Option Nat :=
  m.ring.firstTest.map fun a =>
    dueAfter (a + seconds (if i = 0 then 60 else 30) + (if m.pairMode ≠ 0 ∧ m.pair.id % 2 = 1 then seconds 15 else 0)) m.now

/-- A test pulse starts (R232): the carrier stops with a quench pulse. -/
def ModuleState.startPulse (m : ModuleState) (i : Nat) : ModuleState :=
  (m.setSafety i fun x => { x with carrier := false, pulseAt := some m.now, before := x.loopMa }).noteObs

/-- No test pulse runs. -/
def DikeRing.quiet (r : DikeRing) : Bool := r.a.pulseAt.isNone && r.b.pulseAt.isNone

/-- RING_TEST_PULSE_DUE (R231): a periodic test whose conditions hold. -/
def execRingTestPulseDue (t sw : Nat) (s : State) : Host.Outcome State Fault Refusal :=
  happen (sw < 2) t (fun m =>
    let x := m.safety sw
    if !bit (x.cfg 4 1) 1 || !m.dueO x.testDue 0 || !m.safetyRuns sw || !m.ring.closed || m.ring.latched || !m.ring.quiet ||
        m.ring.test.isSome || x.loopMa < x.cfg 12 2 then m
    else (m.startPulse sw).setSafety sw fun x => { x with testDue := m.nextTest sw }) s

/-- A step or pulse of a RING_TEST starts at an island's evaluation (R238, R239): a pulse at the evaluation of its own
switch's island, a proof step at that of island A. -/
def ModuleState.stepTest (m : ModuleState) (i : Nat) : ModuleState :=
  match m.ring.test with
  | none => m
  | some x =>
    match x.todo with
    | [] => m
    | k :: rest =>
      if x.running.isSome || !m.due x.stepAt 0 then m
      else if x.proof then
        if i ≠ 0 then m
        else if !(m.closeRaw m.ring.a && m.closeRaw m.ring.b) then m.endProof { x with todo := [] }
        else
          (((m.setSafety 0 fun y => { y with carrier := k != 1 }).setSafety 1 fun y => { y with carrier := k != 2 }).setTest fun x =>
            { x with todo := rest, running := some (k, m.now), stepAt := m.now + ms 10 }).noteObs
      else if k ≠ i then m
      else if !m.ring.closed || m.ring.latched || !m.ring.quiet then
        ((m.setTest fun x => { x.result k 3 with todo := rest }).testDone k 3).endIfDone
      else if (m.safety i).loopMa < (m.safety i).cfg 12 2 then
        ((m.setTest fun x => { x.result k 2 with todo := rest, stepAt := m.now + ms 10 }).testDone k 2).endIfDone
      else (m.startPulse i).setTest fun x => { x with todo := rest, running := some (k, m.now), stepAt := m.now + ms 10 }

/-- A test pulse judged (R232): the carrier resumes; a failure takes the TEST latch. -/
def ModuleState.judgePulse (m : ModuleState) (i cur volt : Nat) : ModuleState :=
  let pass := decide (cur < 5)
  let mine : Bool := match m.ring.test with
    | some x => !x.proof && (x.running.map (·.1)) == some i
    | none => false
  let before := (m.safety i).before
  let m1 := (m.setSafety i fun x => { x with carrier := true, pulseAt := none }).noteObs
  let m2 := if pass then m1.testPassed i else
    ((m1.takeLatch .test).unproveSwitch (i == 0) (i != 0)).log evRingSwitchFault tgModule [(i : Int), 0, (cur : Int), (volt : Int)]
  if mine then
    ((m2.setTest fun x => { x.result i (if pass then 0 else 1) with running := none, iDuring := max x.iDuring cur }).testDone i
      (if pass then 0 else 1)).endIfDone
  else m2.logIf (!pass) evRingTestDone tgModule [(i : Int), 1, (before : Int), (cur : Int)]

/-- A step of the proof test judged (R239); minMa: MIN_LOOP_MA. A switch that fails has a new fault to pass a test after (R228). -/
def ModuleState.judgeStep (m : ModuleState) (x : RingTest) (minMa k cur vA vB : Nat) : ModuleState :=
  let pass : Bool := if k = 3 then minMa ≤ cur || (vA < 10 && vB < 10) else cur < 5
  let y : RingTest := { x with running := none, iDuring := if k = 3 then x.iDuring else max x.iDuring cur }
  if pass then
    if y.todo.isEmpty then
      m.endProof { y with resA := if y.covers 0 then 0 else 3, resB := if y.covers 1 then 0 else 3 }
    else (((m.setSafety 0 fun z => { z with carrier := false }).setSafety 1 fun z => { z with carrier := false }).setTest fun _ =>
      { y with stepAt := m.now + ms 10 }).noteObs
  else
    let bad : Nat := if k = 1 then 0 else if k = 2 then 1 else if vB < 10 then 0 else if vA < 10 then 1 else 2
    ((m.unproveSwitch (bad != 1) (bad != 0)).log evRingSwitchFault tgModule [(bad : Int), flagItem (k == 3), (cur : Int), ((if bad = 1 then vB else vA : Nat) : Int)]).endProof
      { y with todo := [], resA := if y.covers 0 && k != 2 then 1 else 3, resB := if y.covers 1 && k != 1 then 1 else 3 }

/-- RING_TEST_PULSE_JUDGED (R232, R239): own-path current in mA and voltages across the switches in 0.1 V, 60 µs after the
quench of a test pulse, or at the end of a step of the proof test. -/
def execRingTestPulseJudged (t sw current vA vB : Nat) (s : State) : Host.Outcome State Fault Refusal :=
  happen (sw < 2) t (fun m =>
    if !m.safetyRuns sw then m
    else if (m.safety sw).pulseAt.isSome then m.judgePulse sw current (if sw = 0 then vA else vB)
    else match m.ring.test with
      | none => m
      | some x =>
        match x.proof, x.running with
        | true, some (k, _) => m.judgeStep x ((m.safety sw).cfg 12 2) k current vA vB
        | _, _ => m) s

/-- RING_TEST_OVERDUE (R231): 24 h without a passed test of a switch, and every 24 h after. -/
def execRingTestOverdue (t sw : Nat) (s : State) : Host.Outcome State Fault Refusal :=
  happen (sw < 2) t (fun m =>
    let x := m.safety sw
    if !m.safetyRuns sw || !m.due x.overdueFrom (seconds 86400) then m
    else (m.setSafety sw fun x => { x with overdue := true, overdueFrom := m.now }).log evRingTestOverdue tgModule
      [(sw : Int), ((m.now - x.lastPass.getD m.warden.powerAt) / seconds 3600 : Nat)]) s

/-! ### Evaluation -/

/-- The island reads its switch as open (R233 item 2). -/
def Safety.readsOpen (x : Safety) (i : Nat) : Bool := 100 < (if i = 0 then x.vA else x.vB) || x.loopMa < 5

/-- A proof step runs. -/
def DikeRing.proving (r : DikeRing) : Bool :=
  match r.test with
  | some x => x.proof && x.running.isSome
  | none => false

/-- An island's state after an evaluation; blocked: it may not grant release (R223). -/
def Safety.evaluated (x : Safety) (now i : Nat) (blocked : Bool) (w : CompareWord) : Safety :=
  { x with
    own := w
    closeSince := if w.closeOk then some (x.closeSince.getD now) else none
    leftSince := if w.left && !blocked then some (x.leftSince.getD now) else none
    rightSince := if w.right && !blocked then some (x.rightSince.getD now) else none
    grantL := x.grantL && w.left && !blocked
    grantR := x.grantR && w.right && !blocked
    missed := sat max8 x.missed
    run := if 2 ≤ x.missed + 1 then 0 else x.run
    readOpen := x.readOpen || (!x.carrier && x.readsOpen i) }

/-- The evaluation of one island (R221 to R225): its switch opens when close_ok is false, a side is withdrawn when it is
false, and RING_CLOSED is logged once both switches conduct. -/
def ModuleState.evaluateIsland (m : ModuleState) (i : Nat) : ModuleState :=
  let x := m.safety i
  let w := m.evaluate x
  let m1 := (m.setSafety i fun x => x.evaluated m.now i (m.ring.blocked x) w).noteDiffs i
  let quench : Bool := !w.closeOk && (x.carrier || x.closed) && !m.ring.proving
  let missing := x.doorMask fun d => !x.confirmed m.now d
  let cause := if x.latch ≠ .none then 2 else if !m.reset.armed then 1 else 0
  let m2 := if quench then m1.openSwitch i (2 ^ i) cause (if cause = 0 then missing else 0) else m1
  let m3 := match m2.ring.test with
    | some y => if m2.ring.proving && !m.closeRaw x then m2.endProof { y with todo := [], running := none } else m2
    | none => m2
  let shut := m3.ring.closed && !m3.ring.closedLogged
  let m4 := (m3.setRing fun r => { r with closedLogged := r.closedLogged || shut }).logIf shut evRingClosed tgModule
    [(m3.ring.current : Int)]
  (m4.stepTest i).noteRelease

/-- SAFETY_EVALUATION (R221): every 500 µs. -/
def execSafetyEvaluation (t sw : Nat) (s : State) : Host.Outcome State Fault Refusal :=
  happen (sw < 2) t (fun m => if m.safetyRuns sw then m.evaluateIsland sw else m) s

/-- CLOSE_CONFIRM_ELAPSED (R222, R233): the first evaluation at which close_ok has held without a break for CLOSE_CONFIRM and holds now,
with the module armed; the carrier starts. The first closure of SW_A sets the due times of the first tests (R231). -/
def execCloseConfirmElapsed (t sw : Nat) (s : State) : Host.Outcome State Fault Refusal :=
  happen (sw < 2) t (fun m =>
    let x := m.safety sw
    if !m.safetyRuns sw || !m.dueO x.closeSince (ms (x.cfg 8 2)) || !(m.evaluate x).closeOk || x.carrier ||
        x.pulseAt.isSome || x.lost || (!x.firstClosed && !(x.run ≥ 10 && x.readOpen)) then m
    else
      let first := sw == 0 && m.ring.firstTest.isNone
      ((m.setSafety sw fun x => { x with carrier := true, closed := true, firstClosed := true }).setRing fun r =>
        if first then
          { r with firstTest := some (m.now + seconds 1), a := { r.a with testDue := some (m.now + seconds 1) },
                   b := { r.b with testDue := some (m.now + seconds 2) } }
        else r).noteObs) s

/-- RELEASE_CONFIRM_ELAPSED (R223): a side has held without a break for RELEASE_CONFIRM, and holds now. -/
def execReleaseConfirmElapsed (t sw : Nat) (right : Bool) (s : State) : Host.Outcome State Fault Refusal :=
  happen (sw < 2) t (fun m =>
    let x := m.safety sw
    let held := if right then (m.evaluate x).right else (m.evaluate x).left
    if !m.safetyRuns sw || m.ring.blocked x || !held || !m.dueO (if right then x.rightSince else x.leftSince) (ms (x.cfg 10 2)) then m
    else (m.setSafety sw fun x => if right then { x with grantR := true } else { x with grantL := true }).noteRelease) s

/-! ### Settings -/

/-- What a safety island keeps over a reset within a power cycle (R231, R237): the time of its last passed test, and what the 24 h without
one have come to. -/
def Safety.kept (x : Safety) : Safety := { lastPass := x.lastPass, overdue := x.overdue, overdueFrom := x.overdueFrom }

/-- The polder core sends a safety island RELEASE_MODE and the sides (R65, R220). -/
def ModuleState.deliverRing (m : ModuleState) (i : Nat) : ModuleState :=
  if m.configured && !m.profiles.set.isEmpty && m.runs isPolder && m.safetyRuns i then
    let right := ((m.enabledPortals.filter fun p => m.side p == 1).map fun p => 2 ^ (p - 1)).sum
    m.setSafety i fun x => { x with settings := some (m.prof 56 1, right) }
  else m

/-- An island takes its copy of the ring settings entry with its CRC-32, and of the enabled portals' safety inputs (R218, R221): it holds
them until it starts again. -/
def ModuleState.loadRing (m : ModuleState) (i : Nat) : ModuleState :=
  if m.configured then
    let copy := m.cfgEntry 2064 32
    m.setSafety i fun x => { x with
      copy, crc := crc32 copy, own := { x.own with crc := crc32 copy }
      doors := m.enabledPortals.map fun p => { portal := p, clA := m.portalByte p 7, clB := m.portalByte p 8, isolate := m.portalByte p 10 } }
  else m

/-! ### Commands -/

/-- State of a switch (R237 Table 9). -/
def Safety.chan (x : Safety) : Nat := if x.latch != .none then 2 else if x.closed && x.pulseAt.isNone then 1 else 0

/-- LAST_TEST: seconds since the older of the last passed tests. -/
def ModuleState.lastTest (m : ModuleState) : Nat :=
  match m.ring.a.lastPass, m.ring.b.lastPass with
  | some x, some y => min (max32 - 1) ((m.now - min x y) / seconds 1)
  | _, _ => max32

/-- Ring status (R237 Table 9). -/
def ModuleState.ringStatus (m : ModuleState) : List Byte :=
  let a := m.ring.a
  let b := m.ring.b
  leBytes 1 a.chan ++ leBytes 1 b.chan ++ leBytes 1 (if a.latch != .none then a.latch.code else b.latch.code) ++
    leBytes 1 (bitOf b.grantR 3 + bitOf b.grantL 2 + bitOf a.grantR 1 + bitOf a.grantL 0) ++
    leBytes 1 a.own.confirmed ++ leBytes 1 b.own.confirmed ++ leBytes 2 a.inputs ++ leBytes 2 b.inputs ++
    leBytes 2 m.ring.current ++ leBytes 2 m.ring.voltA ++ leBytes 2 m.ring.voltB ++
    leBytes 2 (bitOf (a.lost || b.lost) 3 + bitOf (a.overdue || b.overdue) 2 + bitOf (bit (a.cfg 4 1) 1) 1 +
      bitOf m.reset.armed 0) ++
    leBytes 4 m.lastTest ++ leBytes 4 m.ring.openings ++ leBytes 4 a.crc

def ringStatusSpec : CmdSpec :=
  { opcode := 0x0500, roles := .all, size := (· == 0), body := fun _ m => readFrom [.sa, .sb] m m.ringStatus }

/-- RING_STATUS (R237). -/
def execRingStatus (p : Packet) (s : State) : Host.Outcome State Fault Refusal := .next (submit ringStatusSpec p s)

def readRingConfigSpec : CmdSpec :=
  { opcode := 0x0501, roles := .all, size := (· == 0), body := fun _ m => readFrom [.sa, .sb] m (m.cfgEntry 2064 32) }

/-- READ_RING_CONFIG (R237). -/
def execReadRingConfig (p : Packet) (s : State) : Host.Outcome State Fault Refusal := .next (submit readRingConfigSpec p s)

/-- The conditions of the proof test (R239). -/
def ModuleState.proofAllowed (m : ModuleState) : Bool :=
  m.closeRaw m.ring.a && m.closeRaw m.ring.b && m.ring.a.own.agrees m.ring.b.own && decide (200 ≤ m.ring.voltA + m.ring.voltB)

def ringTestBody (c : Cmd) (m : ModuleState) : Result :=
  let k := getN c.data 0 1
  let proof := m.ring.a.latch.ofSwitch || m.ring.b.latch.ofSwitch
  if !m.reset.armed then refuse m stNotArmed
  else if m.ring.test.isSome || !m.ring.quiet then refuse m stWrongState
  else if proof && !m.proofAllowed then refuse m stWrongState
  else if !proof && (!m.ring.closed || m.ring.latched) then refuse m stWrongState
  else
    let todo := if proof then (match k with | 0 => [1, 3] | 1 => [2, 3] | _ => [1, 2, 3])
      else (match k with | 0 => [0] | 1 => [1] | _ => [0, 1])
    { acts := if proof then [.sa, .sb] else (match k with | 0 => [.sa] | 1 => [.sb] | _ => [.sa, .sb]), wait := true,
      m := m.setRing fun r => { r with test := some { which := k, ref := c.ref, proof, todo, stepAt := m.now, iBefore := r.current } } }

def ringTestSpec : CmdSpec :=
  { opcode := 0x0502, roles := .only [.maintainer], size := (· == 4), fields := fun b => getN b 0 1 < 3 && getN b 1 3 == 0,
    body := ringTestBody }

/-- RING_TEST (R238, R239): its pulses or steps start at the islands' evaluations. -/
def execRingTest (p : Packet) (s : State) : Host.Outcome State Fault Refusal := .next (submit ringTestSpec p s)

/-- The conditions of RING_CLEAR (R228). -/
def ModuleState.clearAllowed (m : ModuleState) : Bool :=
  let r := m.ring
  r.latched && r.a.own.agrees r.b.own && !(r.a.latch.ofSwitch || r.b.latch.ofSwitch) || r.latched && r.a.own.agrees r.b.own &&
    r.unproved == (false, false)

def ringClearBody (_ : Cmd) (m : ModuleState) : Result :=
  if !m.clearAllowed then refuse m stWrongState
  else
    let a := m.ring.a.latch
    let b := m.ring.b.latch
    let m1 := (m.setSafety 0 fun x => { x with latch := .none }).setSafety 1 fun x => { x with latch := .none }
    { acts := [.sa, .sb],
      m := (m1.logIf (a != .none) evRingCleared tgModule [(a.code : Int)]).logIf (b != .none && b != a) evRingCleared tgModule
        [(b.code : Int)] }

def ringClearSpec : CmdSpec := { opcode := 0x0503, roles := .only [.maintainer], size := (· == 0), body := ringClearBody }

/-- RING_CLEAR (R228). -/
def execRingClear (p : Packet) (s : State) : Host.Outcome State Fault Refusal := .next (submit ringClearSpec p s)

end Sys2Proof.Machine
end

