-- ==== Sys2Proof/Machine/Foreland.lean ====
section
/-! DEFINITION. The foreland (chapter 09): input filters and edges, supervised inputs, field outputs with their protection,
VFO, the three lanes of the barrier link, and the commands of R300. -/

namespace Sys2Proof.Machine

/-! ### Settings -/

/-- Offset of an input's entry in the field settings block (R283). -/
def fiCfg (n : Nat) : Nat := 2376 + 4 * (n - 1)
/-- Offset of an output's entry. -/
def foCfg (n : Nat) : Nat := 2568 + 8 * (n - 1)
/-- An input is in SUPERVISED mode. -/
def ModuleState.supervised (m : ModuleState) (n : Nat) : Bool := 41 ≤ n && m.cfg (fiCfg n + 1) 1 == 1
/-- FILTER in ns. -/
def ModuleState.filter (m : ModuleState) (n : Nat) : Nat := m.cfg (fiCfg n + 2) 1 * 100000
/-- WETTING of the input's bank. -/
def ModuleState.wetting (m : ModuleState) (n : Nat) : Bool := bit (m.cfg (2352 + 4 * ((n - 1) / 8) + 2) 1) 0
/-- Numbers 1 to 48. -/
def nums48 : List Nat := (List.range 48).map (· + 1)

/-- The module with the field part changed. -/
def ModuleState.setField (m : ModuleState) (f : Foreland → Foreland) : ModuleState := { m with field := f m.field }

/-! ### Lanes -/

/-- A lane of the barrier link as the polder side or the foreland sees it. -/
def ModuleState.lane (m : ModuleState) (fore : Bool) (i : Nat) : Lane := (if fore then m.field.fore else m.field.lanes).getD i {}

/-- The module with a lane changed. -/
def ModuleState.setLane (m : ModuleState) (fore : Bool) (i : Nat) (f : Lane → Lane) : ModuleState :=
  m.setField fun x => if fore then { x with fore := upd x.fore i f } else { x with lanes := upd x.lanes i f }

/-! ### Field inputs -/

/-- A module time rounded down to 1 µs (R276). -/
def micro (t : Nat × Nat) : Nat × Nat := (t.1, t.2 / 1000 * 1000)

/-- Edges with one more, in stamp order (R278): behind those that occurred no later. -/
def insertEdge (l : List Edge) (e : Edge) : List Edge :=
  l.filter (fun x => x.at_ ≤ e.at_) ++ e :: l.filter (fun x => e.at_ < x.at_)

/-- The foreland's copy of module time at an instant (R277): module time while frames of the general lane correct it; from the loss of that lane
on it runs free, at most 1 µs off for each ms of loss (log entry 177). -/
def ModuleState.forelandTime (m : ModuleState) (t : Nat) : Nat × Nat :=
  match m.field.copied with
  | none => m.time.stamp t
  | some (t0, c0) =>
    if t < t0 then m.time.stamp t
    else
      let bound : Int := ((t - t0) / 1000 : Nat)
      let n := ((c0 + (t - t0) : Nat) + (Config.servo 5 [(t0 : Int), (t : Int)] % (2 * bound + 1) - bound)).toNat
      (n / 1000000000 % 2 ^ 48, n % 1000000000)

/-- An edge queued, or dropped and counted when the queue is full (R278). -/
def ModuleState.queueEdge (m : ModuleState) (n : Nat) (level : Bool) (since : Nat) : ModuleState :=
  let e : Edge :=
    { input := n, level, stamp := micro (m.forelandTime since), at_ := since, freeRun := (m.lane true 0).state != .up }
  m.setField fun f =>
    if f.edges.length < 256 then { f with edges := insertEdge f.edges e }
    else { f with dropped := sat max32 f.dropped, overflow := true }

/-- A new filtered level of an input (R276, R298): an edge, but for the first one after the filters started. -/
def ModuleState.newLevel (m : ModuleState) (n : Nat) (level : Bool) (since : Nat) : ModuleState :=
  let x := m.fin n
  let m1 := m.setFin n fun x => { x with level, settling := false }
  if x.settling || x.level == level then m1 else m1.queueEdge n level since

/-- The samples of a safety-class input compared (R280). -/
def FieldIn.compared (x : FieldIn) (now : Nat) : FieldIn :=
  if x.settling || x.settling2 then x
  else if x.level = x.level2 then { x with differSince := none, disagree := false }
  else { x with differSince := some (x.differSince.getD now) }

/-- A glitch counted (R275). -/
def ModuleState.glitch (m : ModuleState) (n : Nat) : ModuleState :=
  (m.setFin n fun x => { x with glitches := sat max32 x.glitches }).saturated max32 (m.fin n).glitches (tgFin n) 0x0700 10

/-- The on and off level of an input's threshold class, in 0.1 V (R272 Table 2). -/
def ModuleState.thresholds (m : ModuleState) (n : Nat) : Nat × Nat :=
  match m.cfg (2352 + 4 * ((n - 1) / 8) + 1) 1 with
  | 0 => (150, 50)
  | 1 => (430, 140)
  | _ => (660, 220)

/-- The levels at which a comparator switches on and off: inside the band of the class, with at least 2 V of hysteresis (R272). -/
def ModuleState.switching (m : ModuleState) (n : Nat) (sample2 : Bool) : Nat × Nat :=
  let (on, off) := m.thresholds n
  let (p, q) := Config.comparator n sample2
  let low := off + p % (on - off - 20 + 1)
  (low + 20 + q % (on - low - 20 + 1), low)

/-- The raw level of a comparator at a terminal voltage in 0.1 V, after another raw level (R272). -/
def ModuleState.rawLevel (m : ModuleState) (n : Nat) (sample2 old : Bool) (volt : Int) : Bool :=
  let (on, off) := m.thresholds n
  if (on : Int) ≤ volt then true
  else if volt ≤ (off : Int) then false
  else if ((m.switching n sample2).1 : Int) ≤ volt then true
  else if volt ≤ ((m.switching n sample2).2 : Int) then false
  else old

/-- An input as the last frame of the general lane carried it (R293, R295). -/
def ModuleState.finSeen (m : ModuleState) (n : Nat) : FieldIn := m.field.seenIn.getD (n - 1) {}

/-- Some input is SETTLING, by the last frame. -/
def ModuleState.unsettled (m : ModuleState) : Bool :=
  nums48.any fun n => (m.finSeen n).settling || (decide (n ≤ 16) && (m.finSeen n).settling2)

/-- A run that began at an instant has been held for FILTER since the filters started (R275, R298). -/
def ModuleState.filtered (m : ModuleState) (n since : Nat) : Bool := decide (max since m.field.startedAt + m.filter n ≤ m.now)

/-- FIELD_INPUT_EDGE (R272, R273, R275, R276): a run of one raw level of an input's comparator, or of its second one, at a terminal voltage
in 0.1 V, that began at an instant. A run as long as FILTER becomes the filtered level; a shorter one that differed from it is a glitch. A
raw level that turns active sinks a wetting pulse. -/
def execFieldInputEdge (t fi : Nat) (sample2 : Bool) (volt : Int) (since : Nat) (s : State) : Host.Outcome State Fault Refusal :=
  happen (1 ≤ fi && fi ≤ 48) t (fun m =>
    let x := m.fin fi
    if !m.runs isForeland || m.supervised fi || (sample2 && 16 < fi) then m else
    let level := m.rawLevel fi sample2 (if sample2 then x.raw2 else x.raw) volt
    let wet : Bool := level && !sample2 && !x.raw && m.wetting fi && !(x.wetAt.any fun w => decide (since < w + ms 20))
    let m1 := m.setFin fi fun x => { x with
      wetAt := if wet then some since else x.wetAt, raw := if sample2 then x.raw else level, raw2 := if sample2 then level else x.raw2 }
    let held := m.filtered fi since
    if sample2 then
      if held then m1.setFin fi fun x => { x with level2 := level, settling2 := false }.compared m.now
      else if x.settling2 || level == x.level2 then m1 else m1.glitch fi
    else if held then
      let m2 := m1.newLevel fi level since
      if fi ≤ 16 then m2.setFin fi fun x => x.compared m.now else m2
    else if x.settling || level == x.level then m1 else m1.glitch fi) s

/-- FI_REVERSED_TIMEOUT (R274): an input has been below -5 V, or above -2 V, for 100 ms; its voltage in 0.1 V. -/
def execFiReversedTimeout (t fi : Nat) (volt : Int) (s : State) : Host.Outcome State Fault Refusal :=
  happen (1 ≤ fi && fi ≤ 48) t (fun m =>
    if !m.runs isForeland then m
    else if volt < -50 then
      (m.setFin fi fun x => { x with reversed := true }).logIf (!(m.fin fi).reversed) evFiReversed (tgFin fi) [(fi : Int), volt]
    else if -20 < volt then m.setFin fi fun x => { x with reversed := false }
    else m) s

/-- SAMPLE_DISAGREE_TIMEOUT (R280): the filtered samples have differed for 10 ms. -/
def execSampleDisagreeTimeout (t fi : Nat) (s : State) : Host.Outcome State Fault Refusal :=
  happen (1 ≤ fi && fi ≤ 48) t (fun m =>
    let x := m.fin fi
    if x.disagree || !m.dueO x.differSince (ms 10) || !m.runs isForeland then m
    else (m.setFin fi fun x => { x with disagree := true }).log evSampleDisagree (tgFin fi)
      [(fi : Int), flagItem x.level, flagItem x.level2]) s

/-- The supervised state of a loop resistance, none inside a gap (R281 Table 3). -/
def supBand (ohms : Nat) : Option SupState :=
  if ohms < 400 then some .faultShort
  else if 600 ≤ ohms ∧ ohms ≤ 2700 then some .actuated
  else if 4700 ≤ ohms ∧ ohms ≤ 12000 then some .normal
  else if 16000 < ohms then some .faultOpen
  else none

/-- Code of a supervised state (Table 3). -/
def SupState.code : SupState → Nat
  | .normal => 0 | .actuated => 1 | .faultOpen => 2 | .faultShort => 3

/-- A fault state. -/
def SupState.faulty (x : SupState) : Bool := 2 ≤ x.code

/-- SUPERVISED_MEASURE (R281): the loop resistance of an input, in Ω; FILTER applies to each change of state, and ACTUATED
reads as active (R282). -/
def execSupervisedMeasure (t fi ohms : Nat) (s : State) : Host.Outcome State Fault Refusal :=
  happen (1 ≤ fi && fi ≤ 48) t (fun m =>
    let x := m.fin fi
    if !m.runs isForeland || !m.supervised fi then m else
    let m1 := m.setFin fi fun x => { x with ohms }
    match supBand ohms with
    | none => let m2 := m1.setFin fi fun x => { x with supNew := none }
      if x.supNew.isSome && !x.settling then m2.glitch fi else m2
    | some b =>
      if b = x.sup ∧ !x.settling then
        if x.supNew.isSome then (m1.setFin fi fun x => { x with supNew := none }).glitch fi else m1
      else
        let m1 := if !x.settling && (x.supNew.any fun y => y.1 != b.code) then m1.glitch fi else m1
        let since := match x.supNew with
          | some (c, s0) => if c = b.code then s0 else m.now
          | none => m.now
        if since + m.filter fi ≤ m.now then
          (m1.setFin fi fun x =>
            { x with sup := b, supNew := none, supLogged := x.supLogged && b.faulty,
                     supSince := if x.sup.faulty && b.faulty then x.supSince else m.now }).newLevel fi (b == .actuated) since
        else m1.setFin fi fun x => { x with supNew := some (b.code, since) }) s

/-- SUP_FAULT_TIMEOUT (R282): a fault state for 100 ms, of an input that is no EDGE_FI. -/
def execSupFaultTimeout (t fi : Nat) (s : State) : Host.Outcome State Fault Refusal :=
  happen (1 ≤ fi && fi ≤ 48) t (fun m =>
    let x := m.fin fi
    if !m.runs isForeland || !m.supervised fi || !x.sup.faulty || x.supLogged || !m.due x.supSince (ms 100) ||
        m.enabledPortals.any (fun p => m.portalByte p 15 == fi) then m
    else (m.setFin fi fun x => { x with supLogged := true }).log evSupFault (tgFin fi) [(fi : Int), (x.sup.code : Int), (x.ohms : Int)]) s

/-! ### Field outputs -/

/-- The module drives an output (R290). -/
def ModuleState.drivesFo (m : ModuleState) (n : Nat) : Bool := m.actsOn (bit (m.cfg (foCfg n + 1) 1) 1)

/-- Retries used, back at 0 after 60 s on without a shutdown (R249, R287). -/
def FieldOut.retriesNow (x : FieldOut) (now : Nat) : Nat := if x.on && decide (x.onSince + seconds 60 ≤ now) then 0 else x.retries

/-- The switch of an output goes off. -/
def FieldOut.switchOff (x : FieldOut) (now : Nat) : FieldOut :=
  { x with on := false, retries := x.retriesNow now, offSince := if x.on then now else x.offSince }

/-- Nothing but its demand keeps an output off (R285). -/
def FieldOut.free (x : FieldOut) : Bool := !x.latched && !x.thermalOff && x.overloadAt.isNone && !x.cut && !x.linkOff

/-- An output follows its demand when a frame carries it (R285): below VFO_CUT it waits in VFO_CUT (R292), and outputs to be
restored wait for their turn (R296). -/
def ModuleState.foFollow (m : ModuleState) (n : Nat) : ModuleState :=
  let x := m.fout n
  if !x.demand || !m.drivesFo n then m.setFout n fun x => { x.switchOff m.now with cut := x.cut && m.field.vfoCut }
  else if x.on || !x.free || bit m.field.restore (n - 1) then m
  else if m.field.vfoCut then m.setFout n fun x => { x with cut := true }
  else m.setFout n fun x =>
    { x with on := true, onSince := m.now, openOff := false, highOff := false, expectedHigh := false,
             retries := if x.oweRetry then min 15 (x.retries + 1) else x.retries, oweRetry := false }

/-- A shutdown of an output (R286, R287): it latches after RETRY_MAX retries. -/
def ModuleState.foShutdown (m : ModuleState) (n cause : Nat) (code : Nat) (items : List Int) : ModuleState :=
  let x := m.fout n
  let used := x.retriesNow m.now
  let latch : Bool := m.cfg (foCfg n + 6) 1 ≤ used
  let m1 := m.setFout n fun x =>
    { x.switchOff m.now with
      lastCause := cause, latched := x.latched || latch, shutdowns := sat max16 x.shutdowns
      overloadAt := if cause = 1 && !latch then some m.now else none, thermalOff := cause == 2 && !latch }
  ((m1.saturated max16 x.shutdowns (tgFout n) 0x0704 12).logIf (!latch) code (tgFout n) items).logIf latch evFoLatched (tgFout n)
    [(n : Int), (cause : Int)]

/-- FO_OVERLOAD_TIMEOUT (R286): an output has held its limit for 10 ms; current in mA. -/
def execFoOverloadTimeout (t fo current : Nat) (s : State) : Host.Outcome State Fault Refusal :=
  happen (1 ≤ fo && fo ≤ 16) t (fun m =>
    if (m.fout fo).on && m.due (m.fout fo).onSince (ms 10) then m.foShutdown fo 1 evFoOverload [(fo : Int), (current : Int)] else m) s

/-- FO_THERMAL_SHUTDOWN (R286): its junction reaches the shutdown level, 165 °C at the lowest; temperature in 0.1 °C. -/
def execFoThermalShutdown (t fo : Nat) (temp : Int) (s : State) : Host.Outcome State Fault Refusal :=
  happen (1 ≤ fo && fo ≤ 16) t (fun m =>
    if (m.fout fo).on && 1650 ≤ temp then
      m.foShutdown fo 2 evFoThermalOff [(fo : Int), temp, ((m.fout fo).retriesNow m.now : Nat)]
    else m) s

/-- An output whose wait or cooling is over (R287, R299): it switches on again with one retry, now or once VFO and the lane
are back. -/
def ModuleState.foRetry (m : ModuleState) (n : Nat) : ModuleState :=
  (m.setFout n fun x => { x with overloadAt := none, thermalOff := false, oweRetry := x.demand }).foFollow n

/-- FO_OVERLOAD_RETRY (R287): 1 s after the overload. -/
def execFoOverloadRetry (t fo : Nat) (s : State) : Host.Outcome State Fault Refusal :=
  happen (1 ≤ fo && fo ≤ 16) t (fun m =>
    if m.dueO (m.fout fo).overloadAt (seconds 1) && m.runs isForeland then m.foRetry fo else m) s

/-- FO_COOLED (R287): cooled by 20 K. -/
def execFoCooled (t fo : Nat) (s : State) : Host.Outcome State Fault Refusal :=
  happen (1 ≤ fo && fo ≤ 16) t (fun m => if (m.fout fo).thermalOff && m.runs isForeland then m.foRetry fo else m) s

/-- FO_OPEN_WIRE_TIMEOUT (R288): the on-state current, in 0.1 mA, has been on one side of OW_THRESH for 50 ms. -/
def execFoOpenWireTimeout (t fo current : Nat) (s : State) : Host.Outcome State Fault Refusal :=
  happen (1 ≤ fo && fo ≤ 16) t (fun m =>
    let x := m.fout fo
    let th := m.cfg (foCfg fo + 4) 2
    if th = 0 ∨ !x.on ∨ !m.due x.onSince (ms 50) then m
    else if current < th then
      (m.setFout fo fun x => { x with openOn := true }).logIf (!x.openOn) evFoOpenWire (tgFout fo) [(fo : Int), 0, (current : Int)]
    else if th < current then m.setFout fo fun x => { x with openOn := false }
    else m) s

/-- FO_OFF_DIAG_JUDGED (R288, R290): the terminal voltage, in 0.1 V, of an output that has been off for 10 ms, judged after 10 ms. -/
def execFoOffDiagJudged (t fo volt : Nat) (s : State) : Host.Outcome State Fault Refusal :=
  happen (1 ≤ fo && fo ≤ 16) t (fun m =>
    let x := m.fout fo
    if x.on || !m.runs isForeland || !m.due x.offSince (ms 10) then m
    else if 80 ≤ volt then
      if x.partnerOn then m.setFout fo fun x => { x with expectedHigh := true, highOff := false }
      else (m.setFout fo fun x => { x with highOff := true, expectedHigh := false }).logIf (!x.highOff) evFoHighWhileOff (tgFout fo)
        [(fo : Int), (volt : Int)]
    else if !bit (m.cfg (foCfg fo + 1) 1) 0 then m.setFout fo fun x => { x with highOff := false, expectedHigh := false }
    else if 20 ≤ volt ∧ volt ≤ 55 then
      (m.setFout fo fun x => { x with openOff := true, highOff := false, expectedHigh := false }).logIf (!x.openOff) evFoOpenWire
        (tgFout fo) [(fo : Int), 1, (volt : Int)]
    else if volt < 20 then m.setFout fo fun x => { x with openOff := false, highOff := false, expectedHigh := false }
    else m) s

/-- Outputs that satisfy a test are to switch on again, one every 100 µs (R292, R296). -/
def ModuleState.restoreFo (m : ModuleState) (mask : Nat) : ModuleState :=
  m.setField fun f => { f with restore := mask, restartAt := m.now }

/-- VFO_LEVEL_CHANGE (R292 Table 8): VFO, in 0.1 V, against its thresholds with their hysteresis. -/
def execVfoLevelChange (t : Nat) (vfo : Int) (s : State) : Host.Outcome State Fault Refusal :=
  happen true t (fun m =>
    let f := m.field
    let low : Bool := if f.vfoLow then vfo ≤ 168 else vfo < 160
    let cut : Bool := if f.vfoCut then vfo ≤ 135 else vfo < 120
    let m1 := (m.setField fun f => { f with vfoLow := low, vfoCut := cut }).logIf (low && !f.vfoLow) evVfoLow tgModule [vfo]
    if cut && !f.vfoCut then
      let was := maskOf fun n => (m.fout n).on
      ((m1.each nums16 fun m n => m.setFout n fun x =>
        if x.on || bit f.restore (n - 1) then { x.switchOff m.now with cut := x.demand } else x).setField fun f =>
          { f with restore := 0 }).log evVfoCut tgModule [(was : Int)]
    else if !cut && f.vfoCut then
      let back := maskOf fun n => (m.fout n).cut && (m.fout n).demand && !(m.fout n).linkOff && m.drivesFo n
      ((m1.each nums16 fun m n => m.setFout n fun x => { x with cut := false }).restoreFo back).log evVfoRestored tgModule
        [(back : Int)]
    else m1) s

/-- FO_RESTART_STEP (R292, R296): the next output to be restored switches on, 100 µs after the last. -/
def execFoRestartStep (t : Nat) (s : State) : Host.Outcome State Fault Refusal :=
  happen true t (fun m =>
    if m.now < m.field.restartAt || !m.runs isForeland then m
    else match nums16.find? fun n => bit m.field.restore (n - 1) with
      | none => m
      | some n =>
        (m.setField fun f => { f with restore := setBit f.restore (n - 1) false, restartAt := m.now + 100000 }).foFollow n) s

/-! ### The image on the polder side -/

/-- A pushbutton edge raises a portal request (R48, R52): an open button that the profile enables, or a close button. The profile enables the
open buttons in every OPEN_MODE but COMMAND_ONLY, so also in AUTO (DEDUCED, log entry 127). -/
def ModuleState.button (m : ModuleState) (fi : Nat) : ModuleState :=
  m.each m.enabledPortals fun m p =>
    let opens : Bool := m.prof 57 1 != 2 && (m.portalByte p 11 == fi || (m.portalByte p 12 == fi && bit (m.prof 58 1) 2))
    let req (r : PortalReq) (m : ModuleState) : ModuleState :=
      { m with interp := { m.interp with requests := m.interp.requests ++ [{ portal := p, req := r, ref := none }] } }
    if opens then req (.openReq false none) m else if m.portalByte p 13 == fi then req .closeReq m else m

/-- An edge delivered to the polder side (R276, R278): LAST_EDGE, FI_EDGE, the latches it is the source of (R180), and a
pushbutton's request unless it came while the general lane was lost, on either side (R295). -/
def ModuleState.deliverEdge (m : ModuleState) (e : Edge) : ModuleState :=
  let m1 := (m.setFin e.input fun x => { x with lastEdge := e.stamp }).logIf (bit (m.cfg (fiCfg e.input + 3) 1) 0) evFiEdge
    (tgFin e.input) [(e.input : Int), flagItem e.level, (e.stamp.1 : Int), (e.stamp.2 : Int), flagItem e.freeRun]
  let m2 := m1.each axisNums fun m a => if m.runs (axisIsland a) then (m.acceptEdges a).latchEdges a false e.input e.level e.at_ e.stamp else m
  let lane := m.lane false 0
  let inLoss : Bool := e.freeRun || (decide (lane.lostAt ≤ e.at_) && decide (e.at_ < lane.backAt))
  if e.level && !inLoss && m.runs isPolder then m2.button e.input else m2

/-- The content of a general-lane frame (R293, R298): the levels of settled inputs, the supervised states, up to four edges, what the inputs and
outputs report, the ring read-back; EDGE_OVERFLOW once the queue has room again (R278). -/
def ModuleState.takeImage (m : ModuleState) (readback : Nat × Nat × Nat) : ModuleState :=
  let four := m.field.edges.take 4
  let lost := m.field.dropped
  let m1 := m.setField fun f =>
    { f with edges := f.edges.drop 4, dropped := 0, stale := false, frozen := none, seenIn := f.inputs, seenOut := f.outputs, seenRing := readback,
             inputs := updAll f.inputs fun x => 
               { x with image := if x.settling then x.image else x.level, supImage := if x.settling then x.supImage else x.sup
                        image2 := if x.settling2 then x.image2 else x.level2 } }
  ((m1.each four fun m e => m.deliverEdge e).logIf (0 < lost) evEdgeOverflow tgModule [(lost : Int)]).noteEdges

/-- The samples of a lane and the read-back reach their safety island (R216, R229); a settling input keeps its last one. -/
def ModuleState.takeSamples (m : ModuleState) (i loopMa vA vB : Nat) : ModuleState :=
  let old := (m.safety i).inputs
  let bits := maskOf fun n =>
    if if i = 0 then (m.fin n).settling else (m.fin n).settling2 then bit old (n - 1)
    else if i = 0 then (m.fin n).level else (m.fin n).level2
  (m.setSafety i fun x => { x with inputs := bits, loopMa, vA, vB }).noteObs

/-- The content of a valid frame of a lane that is up (R293). -/
def ModuleState.takeFrame (m : ModuleState) (lane : Nat) (fore : Bool) (loopMa vA vB : Nat) : ModuleState :=
  match lane, fore with
  | 0, true => m.each nums16 fun m n => m.foFollow n
  | 0, false => m.takeImage (loopMa, vA, vB)
  | k + 1, false => m.takeSamples k loopMa vA vB
  | _ + 1, true => m

/-! ### Loss and restoration -/

/-- A lane is lost on one side (R295). -/
def ModuleState.loseLane (m : ModuleState) (lane : Nat) (fore : Bool) : ModuleState :=
  if (m.lane fore lane).state ≠ .up then m else
  let m1 := m.setLane fore lane fun l => { l with state := .lost, lostAt := m.now, goodRun := 0 }
  let n := (m.lane false lane).losses
  let m2 := if fore then m1 else
    (m1.setLane false lane fun l => { l with losses := sat max16 l.losses }).saturated max16 n tgModule 0x0705 (4 + 16 * lane)
  let m3 := match lane, fore with
    | 0, true => (m2.each nums16 fun m n => m.setFout n fun x => { x.switchOff m.now with linkOff := true }).setField fun f =>
        { f with restore := 0, copied := some (m.now, m.count) }
    | 0, false => { m2 with free := m2.free + 83 }.setField fun f => { f with stale := true, frozen := some m2.free }
    | k + 1, false => (m2.setSafety k fun x => { x with inputs := 0, loopMa := 0, vA := 0, vB := 0 }).noteObs
    | _ + 1, true => m2
  m3.logIf (!(fore && lane != 0)) evForelandLost tgModule [(2 ^ lane : Nat), flagItem fore]

/-- A lane is restored on one side (R296): a general-lane loss of 100 ms or more sets every demand off. -/
def ModuleState.restoreLane (m : ModuleState) (lane : Nat) (fore : Bool) : ModuleState :=
  let l := m.lane fore lane
  let long : Bool := lane == 0 && decide (l.lostAt + ms 100 ≤ m.now)
  let m1 := m.setLane fore lane fun l => { l with state := .up, lostRun := 0, backAt := m.now }
  let m2 := if long then m1.setField fun f => { f with outputs := updAll f.outputs fun x => { x.switchOff m.now with demand := false, cut := x.cut && m.field.vfoCut } }
    else m1
  let back := maskOf fun n =>
    let x := m2.fout n
    fore && lane == 0 && x.linkOff && x.demand && m2.drivesFo n && !x.latched && !x.thermalOff && x.overloadAt.isNone
  let m3 := if fore && lane == 0 then
      ((m2.setField fun f => { f with copied := none }).each nums16 fun m n => m.setFout n fun x => { x with linkOff := false, cut := x.cut || (m.field.vfoCut && bit back (n - 1)) }).restoreFo
        (if m2.field.vfoCut then 0 else back)
    else m2
  m3.logIf (!(fore && lane != 0)) evForelandRestored tgModule
    [(2 ^ lane : Nat), ((m.now - l.lostAt) / 1000 : Nat), ((if m2.field.vfoCut then 0 else back : Nat) : Int)]

/-- A lost frame slot on a lane (R294, R295). -/
def Lane.lost (l : Lane) : Lane :=
  { l with lostRun := min 15 (l.lostRun + 1), goodRun := 0, state := if l.state = .recovering then .lost else l.state }

/-- A valid frame on a lane. -/
def Lane.valid (l : Lane) (seq : Nat) : Lane :=
  { l with seq := some seq, lostRun := 0, goodRun := min 15 (l.goodRun + 1), state := if l.state = .lost then .recovering else l.state }

/-- Frame errors of a lane counted in both directions (R300 Table 15), with COUNTER_SATURATED (R9). -/
def ModuleState.laneErrors (m : ModuleState) (lane crc seq : Nat) : ModuleState :=
  let l := m.lane false lane
  let m1 := m.setLane false lane fun l => { l with crcErrors := satAdd max32 l.crcErrors crc, seqErrors := satAdd max32 l.seqErrors seq }
  (m1.logIf (l.crcErrors != max32 && max32 ≤ l.crcErrors + crc) evCounterSaturated tgModule [0, 0x0705, (10 + 16 * lane : Nat)]).logIf
    (l.seqErrors != max32 && max32 ≤ l.seqErrors + seq) evCounterSaturated tgModule [0, 0x0705, (14 + 16 * lane : Nat)]

/-- BARRIER_FRAME_RECEIVED (R293 to R296): a frame slot of a lane towards the polder side, or towards the foreland; no
sequence number for a slot without a frame. A number that skips counts the frames before it as lost. A valid frame of a
lane that is up has its content applied. The read-back is in mA and 0.1 V. -/
def execBarrierFrameReceived (t lane : Nat) (fore : Bool) (seq : Option Nat) (crcOk : Bool) (loopMa vA vB : Nat) (s : State) :
    Host.Outcome State Fault Refusal :=
  happen (lane < 3) t (fun m =>
    if !(if fore then m.runs isForeland else true) then m else
    match seq with
    | none => m.setLane fore lane Lane.lost
    | some n =>
      let l := m.lane fore lane
      if !crcOk then (m.setLane fore lane Lane.lost).laneErrors lane 1 0
      else if l.seq = some (n % 256) then (m.setLane fore lane Lane.lost).laneErrors lane 0 1
      else
        let skip := match l.seq with
          | some q => (n + 255 - q) % 256
          | none => 0
        let m1 := if 3 ≤ skip then m.loseLane lane fore else m
        let m2 := (m1.setLane fore lane fun l =>
          { (if 0 < skip then { l with goodRun := 0 } else l).valid (n % 256) with framesOk := (l.framesOk + 1) % 2 ^ 32 }).laneErrors
            lane 0 skip
        if (m2.lane fore lane).state = .up then m2.takeFrame lane fore loopMa vA vB else m2) s

/-- BARRIER_LANE_LOST (R295): three consecutive frames of a lane are lost. -/
def execBarrierLaneLost (t lane : Nat) (fore : Bool) (s : State) : Host.Outcome State Fault Refusal :=
  happen (lane < 3) t (fun m => if 3 ≤ (m.lane fore lane).lostRun then m.loseLane lane fore else m) s

/-- BARRIER_LANE_RESTORED (R296): ten consecutive valid frames of a lost lane; the image they carry is taken, but for the read-back, which this
row does not bring. -/
def execBarrierLaneRestored (t lane : Nat) (fore : Bool) (s : State) : Host.Outcome State Fault Refusal :=
  happen (lane < 3) t (fun m =>
    let l := m.lane fore lane
    if l.state ≠ .recovering ∨ l.goodRun < 10 then m
    else
      let m1 := m.restoreLane lane fore
      if lane = 0 ∧ !fore then m1.takeImage m.field.seenRing else m1) s

/-! ### Commands -/

/-- An input target, or the module (R300). -/
def inputThere (_ : ModuleState) (kind idx : Nat) : Bool := if kind = 0 then idx == 0 else 1 ≤ idx && idx ≤ 48

/-- An output target, or the module (R300). -/
def outputThere (_ : ModuleState) (kind idx : Nat) : Bool := if kind = 0 then idx == 0 else 65 ≤ idx && idx ≤ 80

/-- A reply with values measured on the foreland: VFO number 0, the voltage of FIn number n, the current and temperature of FOn numbers 47 + 2n
and 48 + 2n; while the general lane is lost those of its last frame (R293, R295). -/
def measureField (m : ModuleState) (f : (Nat → Nat) → List Byte) : Result :=
  match m.field.frozen with
  | some b => readFrom [.fl] m (f fun i => Config.freeValue (b + i))
  | none => measureFrom [.fl] m 83 f

/-- The input image (Table 12) with VFO as measured. -/
def ModuleState.inputImage (m : ModuleState) (vfo : Nat) : List Byte :=
  let f := m.field
  let bits (l : List Nat) (p : FieldIn → Bool) : Nat := ((l.filter fun n => p (m.fin n)).map fun n => 2 ^ (n - 1)).sum
  let seen (l : List Nat) (p : FieldIn → Bool) : Nat := ((l.filter fun n => p (m.finSeen n)).map fun n => 2 ^ (n - 1)).sum
  let sups := ((List.range 8).map fun k => if m.supervised (41 + k) then (m.fin (41 + k)).supImage.code * 4 ^ k else 0).sum
  leBytes 8 (bits nums48 (·.image)) ++ leBytes 2 (bits nums16 (·.image2)) ++ leBytes 2 (seen nums16 (·.disagree)) ++
    leBytes 6 (seen nums48 (·.reversed)) ++ leBytes 2 sups ++
    leBytes 1 (bitOf m.unsettled 2 + bitOf f.stale 1 + bitOf f.overflow 0) ++ zeros 1 ++
    leBytes 2 vfo ++ zeros 2

/-- An input's status entry (Table 13) with its voltage as measured. -/
def ModuleState.inputEntry (m : ModuleState) (n volt : Nat) : List Byte :=
  let x := m.fin n
  let y := m.finSeen n
  let sup := m.supervised n
  leBytes 1 n ++ leBytes 1 (if sup then 2 + x.supImage.code else if x.image then 1 else 0) ++
    leBytes 1 (bitOf y.reversed 3 + bitOf y.disagree 2 + bitOf x.image2 1 + bitOf x.image 0) ++ zeros 1 ++ leBytes 2 volt ++
    leBytes 2 (if !sup then 0 else if 655000 < y.ohms then 0xFFFF else y.ohms / 10) ++ leBytes 4 y.glitches ++ stampBytes x.lastEdge ++ zeros 2

def fiStatusBody (c : Cmd) (m : ModuleState) : Result :=
  if c.kind = 0 then
    let r := measureField m fun v => m.inputImage (v 0)
    { r with m := r.m.setField fun f => { f with overflow := false } }
  else measureField m fun v => m.inputEntry c.idx (v c.idx)

def fiStatusSpec : CmdSpec :=
  { opcode := 0x0700, kinds := [4, 0], roles := .all, size := (· == 0), present := inputThere, body := fiStatusBody }

/-- FI_STATUS (R300). -/
def execFiStatus (p : Packet) (s : State) : Host.Outcome State Fault Refusal := .next (submit fiStatusSpec p s)

/-- The status that refuses the demand of one output (R285, R287, R297), in the order of R624. -/
def ModuleState.foSetFails (m : ModuleState) (n : Nat) (on : Bool) : Option Nat :=
  if m.notOnDuty then some stNotOnDuty
  else if !on then none
  else if !m.reset.armed then some stNotArmed
  else if (m.fout n).latched then some stChannelLatched
  else if m.field.stale then some stLinkDown
  else none

/-- The demand of an output set. -/
def ModuleState.foDemand (m : ModuleState) (n : Nat) (on : Bool) : ModuleState :=
  m.setFout n fun x => { x with demand := on, cut := m.field.vfoCut && (x.cut || (on && !x.on)), oweRetry := x.oweRetry && on }

/-- The channels of an output action: none while the general lane is lost, when the polder core answers itself (R297). -/
def ModuleState.foActs (m : ModuleState) : List Channel := if m.field.stale then [] else [.fl]

def foSetBody (c : Cmd) (m : ModuleState) : Result :=
  let on : Bool := getN c.data 0 1 == 1
  match m.foSetFails (c.idx - 64) on with
  | some st => refuse m st
  | none => { status := if on && m.field.vfoCut then stDeferred else stOk, acts := m.foActs, m := m.foDemand (c.idx - 64) on }

def foSetSpec : CmdSpec :=
  { opcode := 0x0701, kinds := [4], roles := .only [.operator, .maintainer], size := (· == 4), sched := true, present := outputThere,
    fields := fun b => getN b 0 1 < 2 && getN b 1 3 == 0, body := foSetBody }

/-- FO_SET (R285, R292, R297): the switch follows with the frame that carries the demand. -/
def execFoSet (p : Packet) (s : State) : Host.Outcome State Fault Refusal := .next (submit foSetSpec p s)

def foSetMultiBody (c : Cmd) (m : ModuleState) : Result :=
  let on := getN c.data 0 2
  let off := getN c.data 2 2
  if nums16.any fun n => bit on (n - 1) && bit off (n - 1) then refuse m stValueOutOfRange
  else
    let named := fun n => bit on (n - 1) || bit off (n - 1)
    let fails := fun n => named n && (m.foSetFails n (bit on (n - 1))).isSome
    let done := fun n => named n && !fails n
    let data := leBytes 2 (maskOf done) ++ leBytes 2 (maskOf fails)
    let m1 := m.each (nums16.filter done) fun m n => m.foDemand n (bit on (n - 1))
    let acts := if on + off = 0 then [] else m.foActs
    match nums16.find? fails with
    | some n => if nums16.any done then { data, acts, m := m1 }
      else { status := (m.foSetFails n (bit on (n - 1))).getD 0, data, m }
    | none => { data, acts, m := m1 }

def foSetMultiSpec : CmdSpec :=
  { opcode := 0x0702, roles := .only [.operator, .maintainer], size := (· == 8), sched := true, fields := fun b => getN b 4 4 == 0,
    body := foSetMultiBody }

/-- FO_SET_MULTI (R266, R297, R300). -/
def execFoSetMulti (p : Packet) (s : State) : Host.Outcome State Fault Refusal := .next (submit foSetMultiSpec p s)

/-- FO_CLEAR (R287, R297): latches whose junction, in 0.1 °C (a measured value, log entry 20), is below 130 °C. -/
def foClearBody (c : Cmd) (m : ModuleState) : Result :=
  let temp := fun n => signed 16 (Config.freeValue (m.free + n) % 65536)
  let all := if c.kind = 0 then nums16 else [c.idx - 64]
  let had := all.filter fun n => (m.fout n).latched
  let can := had.filter fun n => temp n < 1300
  let mask (l : List Nat) : Nat := (l.map fun n => 2 ^ (n - 1)).sum
  let left := if c.kind = 0 then had.filter fun n => !can.contains n else if can.isEmpty then all else []
  let data := leBytes 2 (mask can) ++ leBytes 2 (mask left)
  if can.isEmpty then { status := stWrongState, data, m }
  else
    { data, acts := m.foActs,
      m := { m with free := m.free + 17 }.each can fun m n =>
        (m.setFout n fun x => { x with latched := false, retries := 0 }).log evFoCleared (tgFout n) [(n : Int), ((m.fout n).lastCause : Int)] }

def foClearSpec : CmdSpec :=
  { opcode := 0x0703, kinds := [4, 0], roles := .only [.maintainer], size := (· == 0), present := outputThere, body := foClearBody }

/-- FO_CLEAR (R287). -/
def execFoClear (p : Packet) (s : State) : Host.Outcome State Fault Refusal := .next (submit foClearSpec p s)

/-- An output as the last frame of the general lane carried it (R293). -/
def ModuleState.foutSeen (m : ModuleState) (n : Nat) : FieldOut := m.field.seenOut.getD (n - 1) {}

/-- STATE of an output (R285 Table 7) at a measured current: a switch held at I_LIMIT is LIMITING. -/
def ModuleState.foState (m : ModuleState) (n current : Nat) : Nat :=
  let x := m.foutSeen n
  if x.latched then 5
  else if x.linkOff then 7
  else if x.overloadAt.isSome then 3
  else if x.thermalOff then 4
  else if x.cut then 6
  else if x.on then (if m.cfg (foCfg n + 2) 2 ≤ current then 2 else 1)
  else 0

/-- An output's status entry (Table 14) with its current and junction temperature as measured, by the last frame of the general lane but for the
demand (R293; log entry 175). -/
def ModuleState.foEntry (m : ModuleState) (current temp n : Nat) : List Byte :=
  let x := m.foutSeen n
  leBytes 1 n ++ leBytes 1 (m.foState n current) ++ leBytes 1 (bitOf (m.fout n).demand 0) ++
    leBytes 1 (bitOf m.field.vfoLow 7 + bitOf x.expectedHigh 6 + bitOf x.highOff 5 + bitOf x.openOff 4 + bitOf x.openOn 3 +
      bitOf (x.thermalOff || (x.latched && x.lastCause == 2)) 2 + bitOf (x.overloadAt.isSome || (x.latched && x.lastCause == 1)) 1) ++
    leBytes 2 current ++ leBytes 2 temp ++ leBytes 1 (x.retriesNow m.now) ++ zeros 1 ++ leBytes 2 x.shutdowns ++ zeros 4

def foStatusSpec : CmdSpec :=
  { opcode := 0x0704, kinds := [4, 0], roles := .all, size := (· == 0), present := outputThere,
    body := fun c m => measureField m fun v =>
      if c.kind = 0 then nums16.flatMap fun n => m.foEntry (v (47 + 2 * n) % 65536) (v (48 + 2 * n)) n
      else m.foEntry (v (47 + 2 * (c.idx - 64)) % 65536) (v (48 + 2 * (c.idx - 64))) (c.idx - 64) }

/-- FO_STATUS (R300). -/
def execFoStatus (p : Packet) (s : State) : Host.Outcome State Fault Refusal := .next (submit foStatusSpec p s)

/-- A lane status entry (Table 15). -/
def ModuleState.laneEntry (m : ModuleState) (i : Nat) : List Byte :=
  let l := m.lane false i
  leBytes 1 i ++ leBytes 1 (match l.state with | .up => 0 | .lost => 1 | .recovering => 2) ++ leBytes 2 l.losses ++
    leBytes 4 l.framesOk ++ leBytes 4 l.crcErrors ++ leBytes 4 l.seqErrors

def linkStatusSpec : CmdSpec :=
  { opcode := 0x0705, roles := .all, size := (· == 0), body := fun _ m => returnData m ([0, 1, 2].flatMap m.laneEntry) }

/-- LINK_STATUS (R300). -/
def execLinkStatus (p : Packet) (s : State) : Host.Outcome State Fault Refusal := .next (submit linkStatusSpec p s)

def readFieldConfigSpec : CmdSpec :=
  { opcode := 0x0706, roles := .all, size := (· == 0), body := fun _ m => readFrom [.fl] m (m.cfgEntry 2352 344) }

/-- READ_FIELD_CONFIG (R300). -/
def execReadFieldConfig (p : Packet) (s : State) : Host.Outcome State Fault Refusal := .next (submit readFieldConfigSpec p s)

end Sys2Proof.Machine
end

