-- ==== Sys2Proof/Machine/Portals.lean ====
section
/-! DEFINITION. The door and step state machines (chapter 02): entering states, the rows of Tables 4 and 6, homing, the state
from the field, and the portal tick. The choices this file makes are in log entries 40 to 47. -/

namespace Sys2Proof.Machine

/-! ### What a portal sees -/

/-- A field input is active; input 0 is none. -/
def ModuleState.active (m : ModuleState) (n : Nat) : Bool := n != 0 && (m.fin n).image
/-- Contact A, contact B, the egress handle, the isolation switch and the step-stowed switch of a portal (R43). -/
def ModuleState.contactA (m : ModuleState) (p : Nat) : Bool := m.active (m.portalByte p 7)
def ModuleState.contactB (m : ModuleState) (p : Nat) : Bool := m.active (m.portalByte p 8)
def ModuleState.egress (m : ModuleState) (p : Nat) : Bool := m.active (m.portalByte p 9)
def ModuleState.isolated (m : ModuleState) (p : Nat) : Bool := m.active (m.portalByte p 10)
def ModuleState.stowedSwitch (m : ModuleState) (p : Nat) : Bool := m.active (m.portalByte p 14)
/-- Both contacts closed, both open, or in disagreement. -/
def ModuleState.bothClosed (m : ModuleState) (p : Nat) : Bool := m.contactA p && m.contactB p
def ModuleState.bothOpen (m : ModuleState) (p : Nat) : Bool := !m.contactA p && !m.contactB p
def ModuleState.disagree (m : ModuleState) (p : Nat) : Bool := m.contactA p != m.contactB p

/-- Position of a portal's door, and whether it is valid. -/
def ModuleState.doorPos (m : ModuleState) (p : Nat) : Int := m.axisPos (m.doorAxis p)
def ModuleState.doorValid (m : ModuleState) (p : Nat) : Bool := (m.axis (m.doorAxis p)).posValid
/-- Within LOCK_WINDOW of a position. -/
def ModuleState.within (m : ModuleState) (p : Nat) (pos target : Int) : Bool := decide ((pos - target).natAbs ≤ m.lockWindow p)
/-- An axis has completed its moves. -/
def ModuleState.still (m : ModuleState) (a : Nat) : Bool := !(m.axis a).moving && (m.axis a).queue.isEmpty
/-- Direction of a door towards POS_OPEN. -/
def ModuleState.openDir (m : ModuleState) (p : Nat) : Int := signI (m.posOpen p - m.posClosed p)
/-- LOCK_MODE is PULSE. -/
def ModuleState.pulseLock (m : ModuleState) (p : Nat) : Bool := m.portalByte p 6 == 1
/-- Axes of a portal. -/
def ModuleState.portalAxes (m : ModuleState) (p : Nat) : List Nat := m.doorAxis p :: (m.stepAxis p).toList

/-- Codes of Tables 2, 3 and 16. -/
def DoorState.code : DoorState → Nat
  | .closedLocked => 0 | .released => 1 | .unlocking => 2 | .opening => 3 | .openD => 4 | .closingWarning => 5 | .closing => 6
  | .obstructed => 7 | .locking => 8 | .isolated => 9 | .emergencyOpen => 10 | .homing => 11 | .fault => 12
def StepState.code : StepState → Nat
  | .stowed => 0 | .deploying => 1 | .deployed => 2 | .stowing => 3 | .stepFault => 4
def FaultCause.code : FaultCause → Nat
  | .none => 0 | .axisFault => 1 | .contactDisagree => 2 | .unexpectedUnlock => 3 | .unlockDisagree => 4 | .moveTimeout => 5
  | .lockFailed => 6 | .homingFailed => 7 | .configUnavailable => 8

/-- The operator profile or the configuration a portal uses is unavailable (R36, row 41): declared so, or no profile in the
active slot. -/
def ModuleState.unavailable (m : ModuleState) (p : Nat) : Bool := (m.portal p).configLost || !slotValid m.profiles.set m.slot

/-! ### Locks, lamps and the buzzer -/

/-- The lock, the lamps, the buzzer and the heater of a portal ordered on or off. -/
def ModuleState.lock (m : ModuleState) (p : Nat) (on : Bool) : ModuleState := m.lsOrder 0 (m.portalByte p 5) on
def ModuleState.lampIn (m : ModuleState) (p : Nat) (on : Bool) : ModuleState := m.lsOrder 0 (m.portalByte p 16) on
def ModuleState.lampOut (m : ModuleState) (p : Nat) (on : Bool) : ModuleState := m.lsOrder 0 (m.portalByte p 17) on
def ModuleState.buzzer (m : ModuleState) (p : Nat) (on : Bool) : ModuleState := m.lsOrder 0 (m.portalByte p 18) on
/-- The demands of the channels that a portal owns set off (R243). -/
def ModuleState.channelsOff (m : ModuleState) (p : Nat) : ModuleState := (((m.lock p false).lampIn p false).lampOut p false).buzzer p false
def ModuleState.heaterOff (m : ModuleState) (p : Nat) : ModuleState := m.lsOrder 0 (m.portalByte p 19) false

/-- The buzzer sounds in a state in which the warning pattern runs (R54). -/
def ModuleState.buzzes (m : ModuleState) (st : DoorState) : Bool := st != .closing || bit (m.prof 58 1) 1

/-- The warning pattern starts, or runs on into another of its states (R54). -/
def ModuleState.warnOn (m : ModuleState) (p : Nat) (st : DoorState) : ModuleState :=
  let q := m.portal p
  let buz := m.buzzes st
  let m1 := if q.warning then m else (m.setPortal p fun q => { q with warning := true, lampOn := true, lampAt := m.now }).lampOut p true
  let m2 := m1.lampIn p false
  if !buz then (m2.setPortal p fun q => { q with buzOn := false }).buzzer p false
  else if q.warning && m.buzzes q.door then m2
  else (m2.setPortal p fun q => { q with buzOn := true, buzAt := m.now }).buzzer p true

/-- The warning pattern ends (R54). -/
def ModuleState.warnOff (m : ModuleState) (p : Nat) : ModuleState :=
  ((m.setPortal p fun q => { q with warning := false, buzOn := false, lampOn := false }).buzzer p false)

/-- Lamps and buzzer in a door state (R54): the pattern, both lamps on, or off. -/
def ModuleState.signals (m : ModuleState) (p : Nat) (st : DoorState) : ModuleState :=
  match st with
  | .closingWarning | .closing | .obstructed => m.warnOn p st
  | .released | .opening | .openD => ((m.warnOff p).lampIn p true).lampOut p true
  | _ => ((m.warnOff p).lampIn p false).lampOut p false

/-! ### Entering states -/

/-- Door states that a trace covers (R437). -/
def DoorState.traced : DoorState → Bool
  | .opening | .closing | .obstructed | .locking => true
  | _ => false

/-- Codes added to a trace, up to the largest record (R437): 4 096 bytes less header and CRC. -/
def Portal.addTrace (q : Portal) (b : List Byte) : Portal :=
  if q.traceCut || 4052 < q.trace.length + b.length then { q with traceCut := true }
  else { q with trace := q.trace ++ b.map (·.toNat) }

/-- A fresh cycle summary and an empty trace. -/
def Portal.newCycle (q : Portal) (c : CycleSummary) : Portal :=
  { q with cycle := c, trace := [], traceRun := (0, 0, 0), traceFull := true, traceCut := false }

/-- The cycle summary as a door state is entered (R433): a start, the first entry into OPEN and into CLOSING, the last into
LOCKING, a HOMING; the number is that of the start with which the PORTAL_STATE about to be logged may be. -/
def CycleSummary.enter (c : CycleSummary) (st : DoorState) (no : Nat) (now : Nat) : CycleSummary :=
  { c with
    startNo := some (c.startNo.getD no)
    startMs := some (c.startMs.getD now)
    openMs := if st == .openD then some (c.openMs.getD now) else c.openMs
    closingMs := if st == .closing then some (c.closingMs.getD now) else c.closingMs
    lockingMs := if st == .locking then some now else c.lockingMs
    homing := c.homing || st == .homing }

/-- A door state entered by a row of Table 4 (R52, R74): PORTAL_STATE when it is another state, the cycle's times, the trace
MARK, the force sums of a new move, the lock of PULSE mode, lamps and buzzer. -/
def ModuleState.enter (m : ModuleState) (p : Nat) (st : DoorState) (row : Nat) : ModuleState :=
  let q := m.portal p
  let old := q.door
  let idle : DoorState → Bool := fun s => s == .closedLocked || s == .released
  let starts : Bool := idle old && !idle st
  let first : Bool := old != st && (starts || q.cycle.startNo.isNone)
  let m1 := if old == .unlocking && m.pulseLock p then m.lock p false else m
  let m2 := (m1.signals p st).setOb p fun o => { o with closeSums := if st == .locking && row == 27 then o.closeSums else [] }
  let m3 := m2.setPortal p fun q =>
    let q0 := if starts then q.newCycle { fromField := false, minVdrv := m.warden.vdrv } else q
    let q1 : Portal := { q0 with
      door := st
      starts := if first then q0.starts + 1 else q0.starts
      enteredAt := m.now
      faultCause := if st == .fault then q.faultCause else .none
      cycle := if old == st then q0.cycle else q0.cycle.enter st (q0.starts + 1) m.opTime
      leftWindow := q.leftWindow && st != .closedLocked
      traceAt := m.now }
    let traced : Bool := st.traced && old != st && bit (m.cfg 3112 1) (p - 1)
    if traced then { q1.addTrace [0x80, BitVec.ofNat 8 st.code] with traceFull := true } else q1
  let move : Bool := (st == .opening || st == .closing) && old != st
  let m4 := m3.setOb p fun o => { o with
    binSums := if move then [] else o.binSums
    peakClose := if move && st == .closing then 0 else o.peakClose
    keLogged := o.keLogged && !(move && st == .closing)
    keSince := if move && st == .closing then none else o.keSince
    cycleSinceHoming := o.cycleSinceHoming && old != .homing && st != .homing
    spoiled := o.spoiled && !(old.resting && !st.resting) }
  let e := { m4.event evPortalState (tgPortal p) [(p : Int), 0, (old.code : Int), (st.code : Int), (row : Int)] with
    start := if first then some (p, q.starts + 1) else none }
  m4.withComm (if old != st then m4.logE m4.comm e else m4.comm)

/-- FAULT entered (R53): lock and heater off; the bridge keeps its standstill current while the position is valid. -/
def ModuleState.enterFault (m : ModuleState) (p : Nat) (cause : FaultCause) (row : Nat) : ModuleState :=
  let m1 := (((m.setPortal p fun q => { q with faultCause := cause }).lock p false).heaterOff p).enter p .fault row
  if m.doorValid p then m1 else m1.offAtRest (m.doorAxis p)

/-- A step state entered (R59, R74), the Table 4 row being 0; STEP_BLOCKED and the end of OPEN_PENDING when a step that the
door waits for leaves DEPLOYING for STOWING or STEP_FAULT (row 11). -/
def ModuleState.enterStep (m : ModuleState) (p : Nat) (st : StepState) : ModuleState :=
  let q := m.portal p
  let old := q.step
  let blocked : Bool := q.openPending && old == .deploying && (st == .stowing || st == .stepFault) && q.door == .released
  let pos := match m.stepAxis p with
    | some b => m.axisPos b
    | none => 0
  let stows : Bool := old == .stowing && st == .stowed && q.wasDeployed
  let m1 := m.setPortal p fun q => { q with
    step := st
    openPending := q.openPending && !blocked
    stepMoveAt := m.now
    stepObstCount := if old == st then q.stepObstCount else 0
    stepWaitAt := none
    wasDeployed := (q.wasDeployed || st == .deployed) && st != .stowed
    stepCycles := if stows then sat max32 q.stepCycles else q.stepCycles }
  ((m1.logIf (old != st) evPortalState (tgPortal p) [(p : Int), 1, (old.code : Int), (st.code : Int), 0]).logIf blocked evStepBlocked
    (tgPortal p) [(p : Int), pos]).logIf (stows && q.stepCycles + 1 == max32) evCounterSaturated (tgPortal p)
    [(tgPortal p : Int), 0x0107, 22]

/-! ### Moves -/

/-- A speed or rate kept in an axis maximum, at least 1. -/
def capped (top v : Nat) : Nat := max 1 (min top v)

/-- Where a portal's move ends: its target inside the soft limits and the signed 32-bit range (R75, R92; log entry 170). -/
def ModuleState.moveAim (m : ModuleState) (a : Nat) (target : Int) : Int :=
  clampI (-2147483648) 2147483647 (if m.softLimits a then clampI (m.softMin a) (m.softMax a) target else target)

/-- A move of a door: its target as it can be, the profile's ACCEL both ways (R82, R92, R62). -/
def ModuleState.doorMove (m : ModuleState) (p : Nat) (target : Int) (speed : Nat) (blend : Bool) : Move :=
  let a := m.doorAxis p
  let acc := m.doorUnits p (m.prof 24 2)
  { mode := .absolute, blend, target := m.moveAim a target,
    speed := capped (m.maxSpeed a) speed, accel := capped (m.maxAccel a) acc, decel := capped (m.maxDecel a) acc, jerk := m.maxJerk a }

/-- Portal moves placed on an axis in place of what it does (R90): none while the module is not armed (R51). -/
def ModuleState.place (m : ModuleState) (a : Nat) (l : List Move) : ModuleState :=
  if m.reset.armed then m.replaceBy a 2 l else m

/-- A stop of an axis that a row asks for: under deceleration limits, the portal's cause (R95). -/
def ModuleState.halts (m : ModuleState) (a : Nat) : ModuleState := m.stopAxis a .decel 2

/-- The axes of a portal stopped. -/
def ModuleState.haltPortal (m : ModuleState) (p : Nat) : ModuleState := m.each (m.portalAxes p) fun m a => m.halts a

/-- The move to POS_OPEN at OPEN_SPEED. -/
def ModuleState.moveOpen (m : ModuleState) (p : Nat) : ModuleState :=
  m.place (m.doorAxis p) [m.doorMove p (m.posOpen p) (m.doorUnits p (m.prof 16 2)) false]

/-- The moves of a closing (row 22, R202, R207): CLOSE_SPEED up to FINAL_ZONE before POS_CLOSED, then FINAL_SPEED; FINAL_SPEED
over the whole length inside the zone or with a degraded edge. -/
def ModuleState.moveClose (m : ModuleState) (p : Nat) : ModuleState :=
  let zone := m.doorUnits p (m.prof 22 2)
  let dist := m.openDir p * (m.doorPos p - m.posClosed p)
  let last := m.closeSpeed p (m.prof 20 2)
  let first := m.closeSpeed p (m.prof 18 2)
  m.place (m.doorAxis p) (
    if (m.ob p).degraded ∨ dist ≤ (zone : Int) then [m.doorMove p (m.posClosed p) last false]
    else if zone = 0 then [m.doorMove p (m.posClosed p) first false]
    else [m.doorMove p (m.posClosed p + m.openDir p * zone) first false, m.doorMove p (m.posClosed p) last true])

/-- A door's move to a target is complete (R88). -/
def ModuleState.doorDone (m : ModuleState) (p : Nat) (target : Int) : Bool :=
  let a := m.doorAxis p
  m.still a && (m.axis a).cmdPos == m.moveAim a target

/-- A door's reversal is complete (R88). -/
def ModuleState.reversed (m : ModuleState) (p : Nat) : Bool :=
  m.still (m.doorAxis p) && (m.portal p).reverseAim.all (· == (m.axis (m.doorAxis p)).cmdPos)

/-- The reversal by REVERSE_DIST from a position towards POS_OPEN, not beyond it (R199), with REPLACE. In rows 24 and 33 of Table 4 it runs at
OPEN_SPEED: the spec gives the distance and no speed (DESIGN CHOICE, log entry 171). -/
def ModuleState.reverse (m : ModuleState) (p : Nat) (pos : Int) : ModuleState :=
  let aim := pos + m.openDir p * m.doorUnits p (m.prof 36 2)
  let target := if m.openDir p * (aim - m.posOpen p) > 0 then m.posOpen p else aim
  (m.setPortal p fun q => { q with reversalDoneAt := none, reverseAim := some (m.moveAim (m.doorAxis p) target) }).place (m.doorAxis p)
    [m.doorMove p target (m.doorUnits p (m.prof 16 2)) false]

/-- A move of a step to a target at STEP_SPEED with the profile's ACCEL both ways (R82); a position that is not valid is the count since the
start (R628), in which the step moves all the same (log entry 41). -/
def ModuleState.moveStep (m : ModuleState) (p : Nat) (target : Int) : ModuleState :=
  match m.stepAxis p with
  | none => m
  | some b =>
    let v := capped (m.maxSpeed b) (m.stepUnits p (m.prof 68 2)).natAbs
    let acc := (m.stepUnits p (m.prof 24 2)).natAbs
    m.place b [{ mode := .absolute, target := m.moveAim b target, speed := v,
                 accel := capped (m.maxAccel b) acc, decel := capped (m.maxDecel b) acc, jerk := m.maxJerk b }]

/-- Target of a deployment (R59): STEP_POS_STOWED + STEP_EXT × STEP_SCALE for the class now in force. -/
def ModuleState.deployTo (m : ModuleState) (p : Nat) : Int := m.stowedPos p + m.stepUnits p (m.stepExt p)

/-- The step ordered out, and in. -/
def ModuleState.deploy (m : ModuleState) (p : Nat) : ModuleState :=
  ((m.enterStep p .deploying).setPortal p fun q => { q with stepAim := some (m.deployTo p) }).moveStep p (m.deployTo p)
def ModuleState.stow (m : ModuleState) (p : Nat) : ModuleState := (m.enterStep p .stowing).moveStep p (m.stowedPos p)

/-- A step brought to a stop in STEP_FAULT. -/
def ModuleState.stepFault (m : ModuleState) (p : Nat) : ModuleState :=
  match m.stepAxis p with
  | some b => (m.halts b).enterStep p .stepFault
  | none => m

/-! ### Homing -/

/-- HOMING entered: the closing warning runs first (R61 step 1). Homing looks for the closed end without a position, which is not valid from here
on, so that no soft limit applies (R94). -/
def ModuleState.enterHoming (m : ModuleState) (p row : Nat) : ModuleState :=
  (((m.enter p .homing row).setAxis (m.doorAxis p) fun x => { x with posValid := false }).setPortal p fun q => { q with
    homingPhase := .warning, homingPhaseAt := m.now, homingAttempts := 0, homingStall := false }).warnOn p .homing

/-- A step of the homing procedure begun. -/
def ModuleState.homingStep (m : ModuleState) (p : Nat) (ph : HomingPhase) : ModuleState :=
  m.setPortal p fun q => { q with homingPhase := ph, homingPhaseAt := m.now, homingStall := false }

/-- The low-force move towards POS_CLOSED at HOME_SPEED, without a target (R61 step 2). -/
def ModuleState.homingDrive (m : ModuleState) (p : Nat) : ModuleState :=
  let a := m.doorAxis p
  let v := m.doorMove p 0 (m.doorUnits p (m.cfg (portalCfg p + 46) 2)) false
  ((((m.warnOff p).lampOut p false).homingStep p .driving).place a
    [{ v with mode := .velocity, target := -(m.openDir p) * (v.speed : Int) }])

/-- Row 36: homing has failed. -/
def ModuleState.homingFails (m : ModuleState) (p : Nat) : ModuleState :=
  let q := m.portal p
  ((m.halts (m.doorAxis p)).log evHomingFailed (tgPortal p)
    [(p : Int), (q.homingAttempts : Int), (((m.now - q.enteredAt) / 1000000 : Nat) : Int)]).enterFault p .homingFailed 36

/-- Row 35: the closed end is found and both contacts are closed. -/
def ModuleState.homingDone (m : ModuleState) (p : Nat) : ModuleState :=
  let a := m.doorAxis p
  (((m.halts a).redefine a (m.posClosed p)).log evHomingDone (tgPortal p)
    [(p : Int), ((m.portal p).homingAttempts + 1 : Nat)]).enter p .closedLocked 35

/-- A homing stall whose contacts did not close: a failed attempt, the third of which ends homing; else the door reverses
(R61 step 3), at HOME_SPEED: the spec gives the distance and no speed (DESIGN CHOICE, log entry 171). -/
def ModuleState.homingAttemptFails (m : ModuleState) (p : Nat) : ModuleState :=
  let m1 := m.setPortal p fun q => { q with homingAttempts := q.homingAttempts + 1 }
  if 3 ≤ (m1.portal p).homingAttempts then m1.homingFails p
  else
    let a := m.doorAxis p
    let aim := (m.axis a).cmdPos + m.openDir p * m.doorUnits p (m.prof 36 2)
    ((m1.homingStep p .reversing).setPortal p fun q => { q with reverseAim := some (m.moveAim a aim) }).place a [m.doorMove p aim (m.doorUnits p (m.cfg (portalCfg p + 46) 2)) false]

/-- LOCK_TIMEOUT, begun at an instant, has not been exceeded (row 32, R61 step 3). -/
def ModuleState.inLockTime (m : ModuleState) (began : Nat) : Bool := decide (m.now ≤ began + ms (m.prof 72 2))

/-- Homing at a tick: a stall ends an approach or a reversal; a finished reversal waits RECLOSE_DELAY; closed contacts end
homing. -/
def ModuleState.homingTick (m : ModuleState) (p : Nat) : ModuleState :=
  let q := m.portal p
  let a := m.doorAxis p
  match q.homingPhase with
  | .driving => if q.homingStall then (m.halts a).homingStep p .waitLock else m
  | .waitLock => if m.bothClosed p && m.inLockTime q.homingPhaseAt then m.homingDone p else m
  | .reversing => if q.homingStall || m.reversed p then (m.halts a).homingStep p .waitReclose else m
  | _ => m

/-! ### State from the field -/

/-- The step as Table 5 finds it beside a door with both contacts closed, or open. -/
def ModuleState.stepFromField (m : ModuleState) (p : Nat) (closed : Bool) : ModuleState :=
  match m.stepAxis p with
  | none => m.enterStep p .stowed
  | some b =>
    let valid := (m.axis b).posValid
    let sw := m.stowedSwitch p
    if closed then (if sw && valid then m.enterStep p .stowed else m.stow p)
    else if valid && !sw then m.enterStep p .deployed
    else if sw then m.enterStep p .stowed
    else m.enterStep p .stepFault

/-- State from the field (R60 Table 5). A serial sensor never loses its position, so that its door does not enter HOMING
here (R61). -/
def ModuleState.takeField (m : ModuleState) (p row : Nat) : ModuleState :=
  let a := m.doorAxis p
  let clean := m.setPortal p fun q =>
    let q0 := q.newCycle { minVdrv := m.warden.vdrv }
    { q0 with awaitField := false, openPending := false, reduced := false, recloseCount := 0, autoCloseAt := none, disagreeSince := none
              obstCause := 0, stepObst := false, homingStall := false, lostPosition := false, doorAxisFault := false, stepAxisFault := false, reversalDoneAt := none, faultCause := .none }
  let back := if (m.portal p).door == .isolated then clean.channelsOff p else clean
  let m1 := back.each (m.portalAxes p) fun m a => (m.halts a).energise a
  let m2 := if m.disagree p then m1.enterFault p .contactDisagree row
    else if m.bothClosed p then
      ((if m.doorValid p || m.source a == 3 then m1 else m1.redefine a (m.posClosed p)).enter p .closedLocked row).stepFromField p true
    else if m.doorValid p || m.source a == 3 then
      ((m1.enter p .openD row).setPortal p fun q => { q with autoCloseAt := some m.now }).stepFromField p false
    else (m1.enterHoming p row).stepFromField p false
  m2.setPortal p fun q => { q with cycle := { q.cycle with fromField := true } }

/-- An axis of the portal still awaits its validation result (R137, R579). -/
def ModuleState.awaits (m : ModuleState) (p : Nat) : Bool :=
  m.reset.armed && (m.portalAxes p).any fun a => (m.drive a).awaitVal || (m.drive a).validatingAt.isSome

/-- Table 4 row by which a portal leaves a state from which it takes its state from the field. -/
def DoorState.fieldRow : DoorState → Nat
  | .isolated => 38 | .emergencyOpen => 39 | .fault => 40
  | _ => 0

/-- The portal is taken from the field once its axes have their results. -/
def ModuleState.fieldSoon (m : ModuleState) (p : Nat) : ModuleState :=
  if m.awaits p then m.setPortal p fun q => { q with awaitField := true } else m.takeField p (m.portal p).door.fieldRow

/-- At a tick: a portal that waits is taken from the field when every axis has its result (R579). -/
def ModuleState.tickField (m : ModuleState) (p : Nat) : ModuleState := if (m.portal p).awaitField then m.fieldSoon p else m

/-! ### Items 1 to 6 of the tick -/

/-- Row 1; a portal that leaves ISOLATED takes its channels back with their demand off (R243). -/
def ModuleState.tickEgress (m : ModuleState) (p : Nat) : ModuleState :=
  let st := (m.portal p).door
  if m.egress p && st != .emergencyOpen then
    ((((if st == .isolated then m.channelsOff p else m).haltPortal p).offAtRest (m.doorAxis p)).log evEgressOperated (tgPortal p) [(p : Int), (st.code : Int)]).enter p .emergencyOpen 1
  else m

/-- Rows 2 and 38. -/
def ModuleState.tickIsolation (m : ModuleState) (p : Nat) : ModuleState :=
  let st := (m.portal p).door
  if m.isolated p then
    if st == .emergencyOpen || st == .isolated then m
    else ((((m.halts (m.doorAxis p)).offAtRest (m.doorAxis p)).lock p false).heaterOff p).enter p .isolated 2
  else if st == .isolated && !(m.portal p).awaitField then m.fieldSoon p
  else m

/-- The motion island of an axis is kept stopped (R39, R573). -/
def ModuleState.islandLost (m : ModuleState) (a : Nat) : Bool := (m.island (axisIsland a)).state == .stopped

/-- An axis has a fault that its bridge or step path reports (row 3), or its island is kept stopped. -/
def ModuleState.axisFaulty (m : ModuleState) (a : Nat) : Bool :=
  (m.drive a).bridge == .latched || (m.axis a).path == .none || m.islandLost a

/-- Door states in which a portal is out of the reach of rows 3 and 41. -/
def DoorState.out (st : DoorState) : Bool := st == .fault || st == .emergencyOpen || st == .isolated

/-- Rows 3, 4 and 41, and the axis fault of Table 6. A portal whose motion island is kept stopped enters FAULT with the cause AXIS_FAULT in
whatever state it is, and its step STEP_FAULT (R39; log entry 126). In HOMING row 4 needs a declaration since the last tick, because the
position need not be valid there; a stall is the end that homing looks for (R61). In FAULT the bridge of a door whose position is
no longer valid goes off (R53). -/
def ModuleState.tickFaults (m : ModuleState) (p : Nat) : ModuleState :=
  let q := m.portal p
  let a := m.doorAxis p
  let st := q.door
  let stepBad : Bool := q.stepAxisFault || ((m.stepAxis p).map m.axisFaulty).getD false
  let m0 := m.setPortal p fun q => { q with doorAxisFault := false, stepAxisFault := false, lostPosition := false }
  let stepLost : Bool := q.step != .stepFault && ((m.stepAxis p).map m.islandLost).getD false
  let m1 := if ((q.step == .deploying || q.step == .stowing) && stepBad) || stepLost then m0.stepFault p else m0
  let lost : Bool := if st == .homing then q.lostPosition
    else (st == .opening || st == .closing || st == .obstructed) && (q.lostPosition || !m.doorValid p)
  if (!st.resting && (q.doorAxisFault || m.axisFaulty a)) || (!st.out && m.islandLost a) then (m1.lock p false).enterFault p .axisFault 3
  else if lost && m.source a != 3 then ((m1.halts a).unvalid a).enterHoming p 4
  else if m.unavailable p && !st.out then ((m1.haltPortal p).lock p false).enterFault p .configUnavailable 41
  else if st == .fault && !m.doorValid p then m1.offAtRest a
  else m1

/-- Row 6, and since when the contacts disagree (row 5). -/
def ModuleState.tickContacts (m : ModuleState) (p : Nat) : ModuleState :=
  let st := (m.portal p).door
  let locked : Bool := st == .closedLocked || st == .released
  let m1 := m.setPortal p fun q => { q with
    disagreeSince := if m.disagree p && (locked || st == .locking) then some (q.disagreeSince.getD m.now) else none }
  if locked && m.bothOpen p then m1.enterFault p .unexpectedUnlock 6 else m1

/-- A door obstacle declaration evaluated (R199, R200, R208): logged, then rows 17, 24, 25. OBSTACLES of the cycle record stands in no reply
field, so that its largest value raises no COUNTER_SATURATED (DEDUCED, log entry 128). -/
def ModuleState.declare (m : ModuleState) (p cause : Nat) (pos : Int) : ModuleState :=
  let o := m.ob p
  let a := m.doorAxis p
  let st := (m.portal p).door
  let m1 := (((m.setOb p fun o => { o with obstacles := sat max32 o.obstacles, lastCause := cause, spoiled := true }).setPortal p fun q =>
      { q with obstCause := 0, cycle := { q.cycle with obstacles := satAdd 255 q.cycle.obstacles 1 } }).saturated max32 o.obstacles
      (tgPortal p) 0x0400 18).log evObstacle (tgPortal p)
      [(p : Int), (cause : Int), (st.code : Int), pos, o.force.floor, ((o.limit.getD 0).floor)]
  match st with
  | .opening => ((m1.stopAxis a .quick 2).setPortal p fun q => { q with autoCloseAt := some m.now }).enter p .openD 17
  | .closing =>
    if (m.portal p).reduced then ((m1.stopAxis a .quick 2).setPortal p fun q => { q with autoCloseAt := none }).enter p .openD 25
    else ((m1.stopAxis a .quick 2).reverse p pos).enter p .obstructed 24
  | .obstructed => (m1.stopAxis a .quick 2).setPortal p fun q => { q with reversalDoneAt := some m.now }
  | _ => m1

/-- The edge declares an obstacle (R206): not on a standby's shared door (R208). -/
def ModuleState.edgeDeclares (m : ModuleState) (p : Nat) : Bool :=
  (m.ob p).edge == .actuated && (m.portal p).door == .closing && m.estimates (m.doorAxis p) &&
    decide (m.doorUnits p (m.obstHalf p 16) < (m.doorPos p - m.posClosed p).natAbs)

/-- A step obstacle evaluated (R204, R208, Table 6). -/
def ModuleState.declareStep (m : ModuleState) (p b : Nat) : ModuleState :=
  let q := m.portal p
  let m1 := (m.setPortal p fun q => { q with stepObst := false }).log evStepObstacle (tgPortal p)
    [(p : Int), m.axisPos b, (m.ob p).stepForce.floor]
  match q.step with
  | .deploying => (m1.halts b).stow p
  | .stowing =>
    if 2 ≤ q.stepObstCount then m1.stepFault p
    else (m1.halts b).setPortal p fun q => { q with stepObstCount := q.stepObstCount + 1, stepWaitAt := some m.now }
  | _ => m1

/-- Item 5: at most one declaration of the door, its causes merged, and one of the step (R208). -/
def ModuleState.tickObstacles (m : ModuleState) (p : Nat) : ModuleState :=
  let q := m.portal p
  let edge := m.edgeDeclares p
  let cause := q.obstCause ||| (if edge then obEdge else 0)
  let m1 := if cause = 0 then m else m.declare p cause (if q.obstCause = 0 then m.doorPos p else q.obstPos)
  match m.stepAxis p with
  | some b => if q.stepObst then m1.declareStep p b else m1
  | none => m1

/-- A portal request added (R48). -/
def ModuleState.ask (m : ModuleState) (r : Request) : ModuleState :=
  { m with interp := { m.interp with requests := m.interp.requests ++ [r] } }

/-- The start of the closing warning (rows 18 and 20). -/
def ModuleState.closingWarning (m : ModuleState) (p row : Nat) : ModuleState :=
  (if row = 18 then m.halts (m.doorAxis p) else m).enter p .closingWarning row

/-- Item 6: rows 7, 8, 15, 18 and 20, and the step rows that release permission drives (R58). While the module is not armed rows 15, 18 and 20
are taken too, since R51 has the transitions of items 1 to 6 take effect; its list of states they can lead into leaves LOCKING and
CLOSING_WARNING out (DEDUCED, log entry 123). -/
def ModuleState.tickRelease (m : ModuleState) (p : Nat) : ModuleState :=
  let q := m.portal p
  let on := m.released p
  let lost : Bool := q.releaseSeen && !on && bit (m.prof 58 1) 0
  let m0 := m.setPortal p fun q => { q with releaseSeen := on }
  let m1 := match q.door with
    | .closedLocked =>
      if !on then m0
      else
        let m1 := m0.enter p .released 7
        if m.prof 57 1 = 0 ∧ m.reset.armed then m1.ask { portal := p, req := .openReq false none, ref := none } else m1
    | .released => if on then m0 else (m0.setPortal p fun q => { q with openPending := false }).enter p .closedLocked 8
    | .unlocking => if on then m0 else (m0.lock p false).enter p .locking 15
    | .opening => if lost then m0.closingWarning p 18 else m0
    | .openD => if lost then m0.closingWarning p 20 else m0
    | _ => m0
  match m.stepAxis p with
  | none => m1
  | some b =>
    if q.step == .deploying && !on then (m1.halts b).stow p
    else if q.step == .deployed && (m1.portal p).door == .closedLocked && !on then m1.stow p
    else m1

/-! ### Item 7: requests -/

/-- The unlock begins (row 10). -/
def ModuleState.unlockDoor (m : ModuleState) (p : Nat) : ModuleState :=
  ((m.setPortal p fun q => { q with openPending := false }).lock p true).enter p .unlocking 10

/-- The status of an open request, with what it does (rows 9, 10, 21, 23, 26, 31; R57, R58, R69, Table 10). In RELEASED with a step that is
needed and in STEP_FAULT the request answers WRONG_STATE and sets no OPEN_PENDING; with the step STOWING, OPEN_PENDING waits and the step
is deployed once it is STOWED. "At POS_OPEN" of row 21 is read as within LOCK_WINDOW of POS_OPEN (DEDUCED, log entry 127). -/
def ModuleState.openRequest (m : ModuleState) (p : Nat) (noStep : Bool) : Nat × ModuleState :=
  let q := m.portal p
  let needed : Bool := (m.stepAxis p).isSome && !noStep && m.stepExt p != 0
  let reopen (row : Nat) : Nat × ModuleState := (stOk, (m.moveOpen p).enter p .opening row)
  if !m.released p then (stNotReleased, m)
  else match q.door with
    | .released =>
      if needed && q.step != .deployed then
        if q.step == .stepFault then (stWrongState, m)
        else
          let m1 := m.setPortal p fun q => { q with openPending := true }
          (stOk, if q.step == .stowed then m1.deploy p else m1)
      else (stOk, m.unlockDoor p)
    | .openD =>
      let m1 := m.setPortal p fun q => { q with reduced := false, recloseCount := 0, autoCloseAt := some m.now }
      if m.within p (m.doorPos p) (m.posOpen p) then (stOk, m1) else (stOk, (m1.moveOpen p).enter p .opening 21)
    | .closingWarning => reopen 23
    | .closing => reopen 26
    | .obstructed => reopen 31
    | _ => (stWrongState, m)

/-- A close request (rows 18 and 20; R68). -/
def ModuleState.closeRequest (m : ModuleState) (p : Nat) : Nat × ModuleState :=
  match (m.portal p).door with
  | .opening => (stOk, m.closingWarning p 18)
  | .openD => (stOk, m.closingWarning p 20)
  | .closing | .locking | .closedLocked => (stOk, m)
  | _ => (stWrongState, m)

/-- The cause of a portal's FAULT is still present (rows 37 and 40), an axis latch apart. -/
def ModuleState.causeStays (m : ModuleState) (p : Nat) : Bool :=
  match (m.portal p).faultCause with
  | .axisFault => (m.axis (m.doorAxis p)).path == .none || m.islandLost (m.doorAxis p)
  | .contactDisagree | .unlockDisagree => m.disagree p
  | .configUnavailable => m.unavailable p
  | _ => false

/-- The latched and the braked axes of a portal that a clear can release are released (R138, R143). -/
def ModuleState.unlatchPortal (m : ModuleState) (p : Nat) : ModuleState :=
  m.each ((m.portalAxes p).filter fun a => (m.drive a).stopped && (m.clearFails a).isNone) fun m a => m.unlatch a

/-- The status that keeps an axis latched. -/
def ModuleState.latchFails (m : ModuleState) (a : Nat) : Option Nat :=
  if (m.drive a).bridge == .latched then m.clearFails a else none

/-- PORTAL_CLEAR (rows 39 and 40, STEP_FAULT of Table 6). -/
def ModuleState.clearRequest (m : ModuleState) (p : Nat) : Nat × ModuleState :=
  let q := m.portal p
  match q.door with
  | .emergencyOpen => if m.egress p then (stWrongState, m) else (stOk, (m.unlatchPortal p).fieldSoon p)
  | .fault =>
    if m.causeStays p then (stWrongState, m)
    else match if q.faultCause == .axisFault then m.latchFails (m.doorAxis p) else none with
      | some st => (st, m)
      | none => (stOk, (m.unlatchPortal p).fieldSoon p)
  | .closedLocked =>
    match m.stepAxis p with
    | some b =>
      if q.step != .stepFault || (m.axis b).path == .none || m.islandLost b then (stWrongState, m)
      else match m.latchFails b with
        | some st => (st, m)
        | none => (stOk, (m.unlatchPortal p).stow p)
    | none => (stWrongState, m)
  | _ => (stWrongState, m)

/-- PORTAL_HOME (row 37). -/
def ModuleState.homeRequest (m : ModuleState) (p : Nat) : Nat × ModuleState :=
  let q := m.portal p
  let latched : Bool := q.faultCause == .axisFault && m.axisFaulty (m.doorAxis p)
  match q.door with
  | .openD => (stOk, (m.halts (m.doorAxis p)).enterHoming p 37)
  | .fault => if m.causeStays p || latched then (stWrongState, m) else (stOk, m.enterHoming p 37)
  | _ => (stWrongState, m)

/-- The class of a portal's side set (R70). -/
def ModuleState.setClass (m : ModuleState) (right : Bool) (c : Nat) : ModuleState :=
  { m with profiles := if right then { m.profiles with classR := c } else { m.profiles with classL := c } }

/-- A request evaluated (R49 item 7, R51): its status and effect; a refused one leaves the class as it was (R314). -/
def ModuleState.evaluateRequest (m : ModuleState) (r : Request) : Nat × ModuleState :=
  let p := r.portal
  match r.req with
  | .clearReq => m.clearRequest p
  | .closeReq => if m.reset.armed then m.closeRequest p else (stNotArmed, m)
  | .homeReq => if m.reset.armed then m.homeRequest p else (stNotArmed, m)
  | .openReq noStep h =>
    if !m.reset.armed then (stNotArmed, m)
    else
      let x := (match h with
        | some c => m.setClass (m.side p == 1) c
        | none => m).openRequest p noStep
      if x.1 = stOk then x else (x.1, m)

/-- One request of a portal evaluated and answered; a train-wide one keeps its status until all are evaluated (R69). -/
def ModuleState.takeRequest (m : ModuleState) (r : Request) : ModuleState :=
  let x := m.evaluateRequest r
  if r.train then x.2.ask { r with answer := some x.1 }
  else match r.ref with
    | some ref => x.2.settle ref (some x.1) none
    | none => x.2

/-- Item 7: the requests of a portal in the order they were decoded. -/
def ModuleState.tickRequests (m : ModuleState) (p : Nat) : ModuleState :=
  let mine : Request → Bool := fun r => r.portal == p && r.answer.isNone
  let m1 := { m with interp := { m.interp with requests := m.interp.requests.filter fun r => !mine r } }
  m1.each (m.interp.requests.filter mine) fun m r => m.takeRequest r

/-! ### Item 8: timers and completion -/

/-- Row 22: WARN_TIME has run out and the door is at rest. -/
def ModuleState.tickWarn (m : ModuleState) (p : Nat) : ModuleState :=
  if (m.portal p).door == .closingWarning && m.due (m.portal p).enteredAt (ms (m.prof 44 2)) && m.still (m.doorAxis p) then
    (m.enter p .closing 22).moveClose p
  else m

/-- The records of a counted door cycle (R433, R437): the energy is a measured value (log entry 20). -/
def ModuleState.recordCycle (m : ModuleState) (p : Nat) : ModuleState :=
  let q := m.portal p
  let c := { q.cycle with energy := Config.freeValue m.free }
  let hottest := (m.warden.temps.foldl max (m.warden.temps.headD 0)) / 10
  let cyc : RecordBody := .cycle p m.slot c m.stamp m.time.quality.code m.opTime hottest
  let tr : RecordBody := .trace p ⟨0, 0, 0⟩ (m.cfg 3113 1) q.traceRun.2.2 (q.trace.map (BitVec.ofNat 8)) q.traceCut
  { m with free := m.free + 1 }.record (if bit (m.cfg 3112 1) (p - 1) then [cyc, tr] else [cyc])

/-- Row 32: locked; the cycle is counted when the door had left the LOCK_WINDOW (R72, R73, R433), and a good closing is
learned (R191). -/
def ModuleState.doorLocked (m : ModuleState) (p : Nat) : ModuleState :=
  let q := m.portal p
  let o := m.ob p
  let counted := q.leftWindow
  let good : Bool := counted && !o.spoiled && o.cycleSinceHoming && !m.notOnDuty
  let m1 := (m.setPortal p fun q => { q with
      reduced := false, recloseCount := 0, doorCycles := if counted then sat max32 q.doorCycles else q.doorCycles }).setOb p fun o =>
      { o with cycleSinceHoming := o.cycleSinceHoming || counted }
  let m2 := if counted && !m.notOnDuty then m1.recordCycle p else m1
  let m3 := if good then m2.learnMove p true o.closeSums else m2
  (m3.logIf (counted && q.doorCycles + 1 == max32) evCounterSaturated (tgPortal p) [(tgPortal p : Int), 0x0107, 18]).enter p .closedLocked 32

/-- Item 8 for the door: contacts, completed moves, homing. -/
def ModuleState.tickDoor (m : ModuleState) (p : Nat) : ModuleState :=
  let q := m.portal p
  let o := m.ob p
  match q.door with
  | .released => if q.openPending && q.step == .deployed then m.unlockDoor p
      else if q.openPending && q.step == .stowed then m.deploy p else m
  | .unlocking => if m.bothOpen p then (m.enter p .opening 12).moveOpen p else m
  | .opening =>
    if m.doorDone p (m.posOpen p) && m.within p (m.doorPos p) (m.posOpen p) then
      let m1 := if !o.spoiled && o.cycleSinceHoming && !m.notOnDuty then m.learnMove p false o.binSums else m
      (m1.setPortal p fun q => { q with autoCloseAt := some m.now }).enter p .openD 16
    else m
  | .closingWarning => m.tickWarn p
  | .closing =>
    if m.doorDone p (m.posClosed p) && m.within p (m.doorPos p) (m.posClosed p) then
      ((if m.pulseLock p then m else m.lock p false).setOb p fun o => { o with closeSums := o.binSums }).enter p .locking 27
    else m
  | .obstructed => if q.reversalDoneAt.isNone && m.reversed p then m.setPortal p fun q => { q with reversalDoneAt := some m.now } else m
  | .locking => if m.bothClosed p && m.inLockTime q.enteredAt then m.doorLocked p else m
  | .homing => m.homingTick p
  | _ => m

/-- Item 8 for the step (Table 6): DEPLOYED when its move is complete at its target (R88), STOWED at its switch. -/
def ModuleState.tickStep (m : ModuleState) (p : Nat) : ModuleState :=
  match m.stepAxis p with
  | none => m
  | some b =>
    match (m.portal p).step with
    | .deploying =>
      if m.still b && (m.axis b).cmdPos == m.moveAim b ((m.portal p).stepAim.getD (m.deployTo p)) then m.enterStep p .deployed else m
    | .stowing => if m.stowedSwitch p && m.within p (m.axisPos b) (m.stowedPos p) then m.enterStep p .stowed else m
    | _ => m

/-- What a portal keeps of a tick: the door has left its LOCK_WINDOW (R72), and a move that can no longer be good (R191). -/
def ModuleState.tickNotes (m : ModuleState) (p : Nat) : ModuleState :=
  let a := m.doorAxis p
  let q := m.portal p
  let out : Bool := q.door != .closedLocked && !m.within p (m.doorPos p) (m.posClosed p)
  let bad : Bool := !q.door.resting && (!m.doorValid p || (m.axis a).pausedAt.isSome || q.reduced || (m.ob p).edge == .actuated || m.notOnDuty)
  (m.setPortal p fun q => { q with leftWindow := q.leftWindow || out }).setOb p fun o => { o with spoiled := o.spoiled || bad }

/-- Timers and motion completion of a portal are evaluated (R51): the module is armed, and the portal has been taken from the field since
ARM (R579). -/
def ModuleState.clocked (m : ModuleState) (p : Nat) : Bool := m.reset.armed && !(m.portal p).awaitField

/-- One enabled portal at a tick, in the order of R49; timers and completion are not evaluated while the module is not armed
(R51). -/
def ModuleState.tickPortal (m : ModuleState) (p : Nat) : ModuleState :=
  let m1 := ((((((m.tickField p).tickEgress p).tickIsolation p).tickFaults p).tickContacts p).tickObstacles p).tickRelease p
  let m2 := m1.tickRequests p
  (if m2.clocked p then (m2.tickDoor p).tickStep p else m2).tickNotes p

/-! ### The tick -/

/-- Train-wide commands answered once every portal has its status (R69). -/
def ModuleState.answerTrains (m : ModuleState) : ModuleState :=
  let done := m.interp.requests.filter fun r => r.train && r.answer.isSome
  let refs := (done.filterMap (·.ref)).dedup
  let m1 := { m with interp := { m.interp with requests := m.interp.requests.filter fun r => !(r.train && r.answer.isSome) } }
  m1.each refs fun m ref =>
    let mine := done.filter fun r => r.ref == some ref
    let mask (f : Nat → Bool) : Nat := ((mine.filter fun r => f (r.answer.getD 0)).map fun r => 2 ^ (r.portal - 1)).sum
    let yes := mask (· == stOk)
    let first := (mine.head?.bind (·.answer)).getD stOk
    m.settle ref (some (if yes = 0 then first else stOk)) (some (leBytes 1 yes ++ leBytes 1 (mask (· != stOk))))

/-- The auto-close timer has run out (row 20). -/
def ModuleState.autoClose (m : ModuleState) (p : Nat) : ModuleState :=
  let n := m.prof 54 2
  if (m.portal p).door == .openD && n != 0 && m.dueO (m.portal p).autoCloseAt (ms (100 * n)) && m.clocked p then m.closingWarning p 20 else m

/-- Profile changes held back, the oldest first: the selected slot, and the schedule whose launch time has come (R66, R355). -/
def Profiles.held (x : Profiles) : List (Nat × Nat) :=
  let a := x.change.toList
  let b := match x.schedule with
    | some s => (s.heldSince.map fun t => (s.slot, t)).toList
    | none => []
  if (b.map (·.2)).all fun t => (a.map (·.2)).all fun u => decide (u ≤ t) then a ++ b else b ++ a

/-- One profile change taken (R66): a newly stored set with it, the ring settings of the safety islands (R65). -/
def ModuleState.changeSlot (m : ModuleState) (x : Nat × Nat) : ModuleState :=
  let m1 := { m with profiles := { m.profiles with active := some x.1, set := m.profiles.staged.getD m.profiles.set, staged := none } }
  ((m1.log evProfileChanged tgModule [(m.slot : Int), (x.1 : Int), (((m.now - x.2) / 1000000 : Nat) : Int)]).deliverRing 0).deliverRing 1

/-- The held profile changes taken at rest (R66); an OPEN portal's elapsed time is compared with the new AUTO_CLOSE. -/
def ModuleState.applyProfile (m : ModuleState) : ModuleState :=
  let l := m.profiles.held
  if l.isEmpty || !m.moduleRests then m
  else
    let m1 := { m with profiles := { m.profiles with
      change := none, schedule := m.profiles.schedule.filter (·.heldSince.isNone) } }
    let m2 := m1.each l fun m x => m.changeSlot x
    m2.each m2.enabledPortals fun m p => m.autoClose p

/-! ### Timers -/

/-- The timers of a portal run (R51). -/
def ModuleState.timing (m : ModuleState) (p : Nat) (st : DoorState) : Bool :=
  m.enabled p && m.clocked p && m.runs isPolder && (m.portal p).door == st

/-- A timer of a portal's door state that runs from entry into it has run out. -/
def ModuleState.stateDue (m : ModuleState) (p : Nat) (st : DoorState) (span : Nat) : Bool :=
  m.timing p st && m.due (m.portal p).enteredAt (ms span)

/-- CONTACT_DISAGREE_TIMEOUT (row 5): armed or not (R51). -/
def execContactDisagreeTimeout (t portal : Nat) (s : State) : Host.Outcome State Fault Refusal :=
  happen (1 ≤ portal && portal ≤ 4) t (fun m =>
    let st := (m.portal portal).door
    if m.enabled portal && m.runs isPolder && m.dueO (m.portal portal).disagreeSince (ms 100) && m.disagree portal &&
        (st == .closedLocked || st == .released || st == .locking) then
      (m.lock portal false).enterFault portal .contactDisagree 5
    else m) s

/-- UNLOCK_TIMEOUT (rows 13 and 14). -/
def execUnlockTimeout (t portal : Nat) (s : State) : Host.Outcome State Fault Refusal :=
  happen (1 ≤ portal && portal ≤ 4) t (fun m =>
    if !m.stateDue portal .unlocking (m.prof 70 2) then m
    else if m.bothClosed portal then
      ((m.lock portal false).log evUnlockFailed (tgPortal portal) [(portal : Int), 3]).enter portal .released 13
    else if m.disagree portal then (m.lock portal false).enterFault portal .unlockDisagree 14
    else m) s

/-- UNLOCK_PULSE_END (R55). -/
def execUnlockPulseEnd (t portal : Nat) (s : State) : Host.Outcome State Fault Refusal :=
  happen (1 ≤ portal && portal ≤ 4) t (fun m =>
    if m.pulseLock portal && m.stateDue portal .unlocking (m.cfg (portalCfg portal + 44) 2) then m.lock portal false else m) s

/-- LOCK_TIMEOUT (rows 33 and 34; R61 step 3 in HOMING). -/
def execLockTimeout (t portal : Nat) (s : State) : Host.Outcome State Fault Refusal :=
  happen (1 ≤ portal && portal ≤ 4) t (fun m =>
    let q := m.portal portal
    if m.timing portal .homing && q.homingPhase == .waitLock && m.due q.homingPhaseAt (ms (m.prof 72 2)) then
      if m.bothClosed portal && m.inLockTime q.homingPhaseAt then m.homingDone portal else m.homingAttemptFails portal
    else if !m.stateDue portal .locking (m.prof 72 2) || (m.bothClosed portal && m.inLockTime q.enteredAt) then m
    else
      let again : Bool := decide (q.recloseCount < m.prof 38 1)
      let n := if again then q.recloseCount + 1 else q.recloseCount
      let m1 := (m.setPortal portal fun q => { q with recloseCount := n }).log evLockFailed (tgPortal portal) [(portal : Int), (n : Int)]
      if again then (m1.reverse portal (m.doorPos portal)).enter portal .obstructed 33 else m1.enterFault portal .lockFailed 34) s

/-- MOVE_TIMEOUT (row 19). -/
def execMoveTimeout (t portal : Nat) (s : State) : Host.Outcome State Fault Refusal :=
  happen (1 ≤ portal && portal ≤ 4) t (fun m =>
    if m.stateDue portal .opening (m.prof 74 2) || m.stateDue portal .closing (m.prof 74 2) then
      ((m.halts (m.doorAxis portal)).lock portal false).enterFault portal .moveTimeout 19
    else m) s

/-- AUTO_CLOSE_EXPIRY (row 20). -/
def execAutoCloseExpiry (t portal : Nat) (s : State) : Host.Outcome State Fault Refusal :=
  happen (1 ≤ portal && portal ≤ 4) t (fun m => if m.timing portal .openD then m.autoClose portal else m) s

/-- WARN_TIME_ELAPSED (row 22; R61 step 1 in HOMING). -/
def execWarnTimeElapsed (t portal : Nat) (s : State) : Host.Outcome State Fault Refusal :=
  happen (1 ≤ portal && portal ≤ 4) t (fun m =>
    let q := m.portal portal
    if m.timing portal .closingWarning then m.tickWarn portal
    else if m.timing portal .homing && q.homingPhase == .warning && m.due q.homingPhaseAt (ms (m.prof 44 2)) then m.homingDrive portal
    else m) s

/-- WARNING_PATTERN_TOGGLE (R54): the on or off time of the buzzer or of the outside lamp ends; an off time of 0 means
continuously on. -/
def execWarningPatternToggle (t portal : Nat) (lamp : Bool) (s : State) : Host.Outcome State Fault Refusal :=
  happen (1 ≤ portal && portal ≤ 4) t (fun m =>
    let q := m.portal portal
    let off := if lamp then 52 else 48
    let on := if lamp then q.lampOn else q.buzOn
    let span := ms (if on then m.prof (off - 2) 2 else m.prof off 2)
    let since := if lamp then q.lampAt else q.buzAt
    if !q.warning || !m.enabled portal || !m.clocked portal || !m.runs isPolder || m.prof off 2 == 0 || !m.due since span ||
        (!lamp && !m.buzzes q.door) then m
    else if lamp then (m.setPortal portal fun q => { q with lampOn := !on, lampAt := m.now }).lampOut portal (!on)
    else (m.setPortal portal fun q => { q with buzOn := !on, buzAt := m.now }).buzzer portal (!on)) s

/-- RECLOSE_DELAY_ELAPSED (rows 28 to 30; R61 step 3 in HOMING). -/
def execRecloseDelayElapsed (t portal : Nat) (s : State) : Host.Outcome State Fault Refusal :=
  happen (1 ≤ portal && portal ≤ 4) t (fun m =>
    let q := m.portal portal
    let span := ms (m.prof 42 2)
    if m.timing portal .homing && q.homingPhase == .waitReclose && m.due q.homingPhaseAt span then m.homingDrive portal
    else if !m.timing portal .obstructed || !m.dueO q.reversalDoneAt span then m
    else if q.recloseCount < m.prof 38 1 then
      ((m.setPortal portal fun q => { q with recloseCount := q.recloseCount + 1 }).enter portal .closing 28).moveClose portal
    else
      let m1 := m.log evObstacleFinal (tgPortal portal) [(portal : Int), (q.recloseCount : Int), (m.prof 39 1 : Nat)]
      if m.prof 39 1 = 0 then (m1.setPortal portal fun q => { q with autoCloseAt := none }).enter portal .openD 29
      else
        ((m1.setPortal portal fun q => { q with reduced := true, cycle := { q.cycle with reduced := true } }).enter portal .closing
          30).moveClose portal) s

/-- STEP_TIMEOUT (Table 6). -/
def execStepTimeout (t portal : Nat) (s : State) : Host.Outcome State Fault Refusal :=
  happen (1 ≤ portal && portal ≤ 4) t (fun m =>
    let q := m.portal portal
    if m.enabled portal && m.clocked portal && m.runs isPolder && (q.step == .deploying || q.step == .stowing) &&
        m.due q.stepMoveAt (ms (m.prof 76 2)) then m.stepFault portal
    else m) s

/-- STEP_RESTOW_WAIT (Table 6): 1 s after a step obstacle the stow move restarts. -/
def execStepRestowWait (t portal : Nat) (s : State) : Host.Outcome State Fault Refusal :=
  happen (1 ≤ portal && portal ≤ 4) t (fun m =>
    let q := m.portal portal
    if m.enabled portal && m.clocked portal && m.runs isPolder && q.step == .stowing && m.dueO q.stepWaitAt (seconds 1) then
      (m.setPortal portal fun q => { q with stepWaitAt := none, stepMoveAt := m.now }).moveStep portal (m.stowedPos portal)
    else m) s

/-- HOME_TIMEOUT (row 36). -/
def execHomeTimeout (t portal : Nat) (s : State) : Host.Outcome State Fault Refusal :=
  happen (1 ≤ portal && portal ≤ 4) t (fun m =>
    if m.stateDue portal .homing (m.cfg (portalCfg portal + 50) 2) then m.homingFails portal else m) s

/-- LAUNCH_LATE of the profile schedule (R354, R355). -/
def ModuleState.profileLate (m : ModuleState) (x : ProfileSched) : ModuleState :=
  m.log evLaunchLate tgModule [(x.transport : Int), 0x0111, (x.seq : Int), (((stampNs m.stamp - stampNs x.launch) / 1000 : Nat) : Int)]

/-- PROFILE_SCHEDULE_LAUNCH (R66, R355): reached more than 1 ms late, it is logged, and removed without effect with
STRICT; else it stays the pending schedule until the module is at rest. -/
def execProfileScheduleLaunch (t : Nat) (s : State) : Host.Outcome State Fault Refusal :=
  happen true t (fun m =>
    match m.profiles.schedule with
    | some x =>
      if !m.runs isPolder || x.heldSince.isSome || stampNs m.stamp < stampNs x.launch then m
      else
        let late : Bool := decide (stampNs x.launch + 1000000 < stampNs m.stamp)
        let m1 := if late then m.profileLate x else m
        { m1 with profiles := { m1.profiles with
            schedule := if late && x.strict then none else some { x with heldSince := some m.now } } }
    | none => m) s

/-! ### Traces -/

/-- A number of steps, the nearest one. -/
def nearest (d step : Int) : Int := (2 * d + step) / (2 * step)

/-- A nibble of a DELTA. -/
def nibble (x : Int) : Nat := (x % 16).toNat

/-- A sample coded (R438): DELTA when both changes lie within ±7 steps, else FULL. -/
def Portal.sample (q : Portal) (speed force : Int) : Portal :=
  let ds := nearest (speed - q.traceRun.1) 8
  let df := nearest (force - q.traceRun.2.1) 2
  let full : Bool := q.traceFull || decide (7 < ds.natAbs) || decide (7 < df.natAbs)
  let b := if full then 0x08#8 :: leInt 2 speed ++ leInt 2 force else [BitVec.ofNat 8 (16 * nibble ds + nibble df)]
  let q1 := q.addTrace b
  if q1.traceCut then q1
  else
    let run := if full then (speed, force) else (q.traceRun.1 + 8 * ds, q.traceRun.2.1 + 2 * df)
    { q1 with traceRun := (run.1, run.2, q.traceRun.2.2 + 1), traceFull := false }

/-- DOOR_SPEED in mm/s, positive opening (Table 16). -/
def ModuleState.doorSpeedMm (m : ModuleState) (p : Nat) : Int := clampI (-32768) 32767 ((m.openDir p : Rat) * m.doorSpeed p * 1000).floor

/-- TRACE_SPACING_SAMPLE (R437): every TRACE_SPACING while a traced portal's door is in OPENING, CLOSING, OBSTRUCTED or
LOCKING. -/
def execTraceSpacingSample (t portal : Nat) (s : State) : Host.Outcome State Fault Refusal :=
  happen (1 ≤ portal && portal ≤ 4) t (fun m =>
    let q := m.portal portal
    if m.enabled portal && m.runs isPolder && q.door.traced && bit (m.cfg 3112 1) (portal - 1) && m.due q.traceAt (ms (m.cfg 3113 1)) then
      m.setPortal portal fun q =>
        { q.sample (m.doorSpeedMm portal) (clampI (-32768) 32767 (m.ob portal).force.floor) with traceAt := m.now }
    else m) s

end Sys2Proof.Machine
end

