-- ==== Sys2Proof/Machine/PortalCmds.lean ====
section
/-! DEFINITION. The portal and profile commands (R68 Table 9): requests for the next tick, platform classes, the profile set
and its selection, and their status replies. -/

namespace Sys2Proof.Machine

/-! ### Requests -/

/-- A portal request taken into the state machine (R48): answered at the tick that evaluates it. -/
def requestBody (req : PortalReq) (c : Cmd) (m : ModuleState) : Result :=
  if m.notOnDuty then refuse m stNotOnDuty
  else { wait := true, m := m.ask { portal := c.idx, req, ref := some c.ref } }

/-- PORTAL_OPEN's own conditions on arrival: NO_STEP is not for OPERATOR (R68 Table 10). -/
def portalOpenBody (c : Cmd) (m : ModuleState) : Result :=
  let noStep := bit (getN c.data 0 1) 0
  let h := getN c.data 1 1
  if m.notOnDuty then refuse m stNotOnDuty
  else if noStep && c.role == some .operator then refuse m stRoleDenied
  else requestBody (.openReq noStep (if h = 255 then none else some h)) c m

def portalOpenSpec : CmdSpec :=
  { opcode := 0x0100, kinds := [1], roles := .only [.operator, .maintainer], size := (· == 4), present := portalThere,
    fields := fun b => getN b 0 1 < 2 && (getN b 1 1 < 4 || getN b 1 1 == 255) && getN b 2 2 == 0, body := portalOpenBody }

/-- PORTAL_OPEN (R48, R52, R68). -/
def execPortalOpen (p : Packet) (s : State) : Host.Outcome State Fault Refusal := .next (submit portalOpenSpec p s)

def portalCloseSpec : CmdSpec :=
  { opcode := 0x0101, kinds := [1], roles := .only [.operator, .maintainer], size := (· == 0), present := portalThere,
    body := requestBody .closeReq }

/-- PORTAL_CLOSE (R48, R52, R68). -/
def execPortalClose (p : Packet) (s : State) : Host.Outcome State Fault Refusal := .next (submit portalCloseSpec p s)

def portalClearSpec : CmdSpec :=
  { opcode := 0x0105, kinds := [1], roles := .only [.maintainer], size := (· == 0), present := portalThere,
    body := requestBody .clearReq }

/-- PORTAL_CLEAR (rows 39 and 40 of Table 4, R59). -/
def execPortalClear (p : Packet) (s : State) : Host.Outcome State Fault Refusal := .next (submit portalClearSpec p s)

def portalHomeSpec : CmdSpec :=
  { opcode := 0x0106, kinds := [1], roles := .only [.maintainer], size := (· == 0), present := portalThere,
    body := requestBody .homeReq }

/-- PORTAL_HOME (row 37 of Table 4). -/
def execPortalHome (p : Packet) (s : State) : Host.Outcome State Fault Refusal := .next (submit portalHomeSpec p s)

/-- A train-wide request (R69): one on every enabled portal of the named sides, evaluated at one tick. -/
def trainBody (req : PortalReq) (c : Cmd) (m : ModuleState) : Result :=
  let sides := getN c.data 0 1
  let named := m.enabledPortals.filter fun p => bit sides (m.side p)
  if sides = 0 then refuse m stValueOutOfRange
  else if named.isEmpty then { status := stTargetAbsent, data := zeros 2, m }
  else if m.notOnDuty then refuse m stNotOnDuty
  else { wait := true, m := m.each named fun m p => m.ask { portal := p, req, ref := some c.ref, train := true } }

/-- SIDE_MASK has two bits and the rest is reserved (Table 12). -/
def trainFields (b : List Byte) : Bool := getN b 0 1 < 4 && getN b 1 3 == 0

def trainOpenSpec : CmdSpec :=
  { opcode := 0x0102, roles := .only [.operator], size := (· == 4), fields := trainFields, body := trainBody (.openReq false none) }

/-- TRAIN_OPEN (R69). -/
def execTrainOpen (p : Packet) (s : State) : Host.Outcome State Fault Refusal := .next (submit trainOpenSpec p s)

def trainCloseSpec : CmdSpec :=
  { opcode := 0x0103, roles := .only [.operator], size := (· == 4), fields := trainFields, body := trainBody .closeReq }

/-- TRAIN_CLOSE (R69). -/
def execTrainClose (p : Packet) (s : State) : Host.Outcome State Fault Refusal := .next (submit trainCloseSpec p s)

def setPlatformClassBody (c : Cmd) (m : ModuleState) : Result :=
  let side := getN c.data 0 1
  let cl := getN c.data 1 1
  if m.notOnDuty then refuse m stNotOnDuty
  else
    let m1 := if side = 1 then m else m.setClass false cl
    { m := if side = 0 then m1 else m1.setClass true cl }

def setPlatformClassSpec : CmdSpec :=
  { opcode := 0x0104, roles := .only [.operator], size := (· == 4),
    fields := fun b => getN b 0 1 < 3 && getN b 1 1 < 4 && getN b 2 2 == 0, body := setPlatformClassBody }

/-- SET_PLATFORM_CLASS (R70). -/
def execSetPlatformClass (p : Packet) (s : State) : Host.Outcome State Fault Refusal := .next (submit setPlatformClassSpec p s)

/-! ### Status -/

/-- A portal status entry (Table 16). -/
def ModuleState.portalEntry (m : ModuleState) (p : Nat) : List Byte :=
  let q := m.portal p
  let step : Int := match m.stepAxis p with
    | some b => m.axisPos b
    | none => 0
  leBytes 1 p ++ leBytes 1 q.door.code ++ leBytes 1 (if (m.stepAxis p).isSome then q.step.code else 0) ++
    leBytes 1 (bitOf q.reduced 7 + bitOf q.openPending 6 + bitOf (m.egress p) 5 + bitOf (m.isolated p) 4 + bitOf (m.doorValid p) 3 +
      bitOf (m.contactB p) 2 + bitOf (m.contactA p) 1 + bitOf (m.released p) 0) ++
    leInt 4 (m.doorPos p) ++ leInt 2 (m.doorSpeedMm p) ++ leBytes 1 q.recloseCount ++ leBytes 1 (m.heightClass p) ++
    leBytes 1 q.faultCause.code ++ leBytes 1 m.slot ++ zeros 2 ++ leBytes 4 q.doorCycles ++ leBytes 4 q.stepCycles ++
    leBytes 4 (min max32 ((m.now - q.enteredAt) / 1000000)) ++ leInt 4 step

def portalStatusSpec : CmdSpec :=
  { opcode := 0x0107, kinds := [1, 0], roles := .all, size := (· == 0), present := portalThere,
    body := fun c m => returnData m ((readPortals c).flatMap m.portalEntry) }

/-- PORTAL_STATUS (R68). -/
def execPortalStatus (p : Packet) (s : State) : Host.Outcome State Fault Refusal := .next (submit portalStatusSpec p s)

def readPortalConfigSpec : CmdSpec :=
  { opcode := 0x0108, kinds := [1, 0], roles := .all, size := (· == 0), present := portalThere,
    body := fun c m => returnData m ((readPortals c).flatMap fun p => m.cfgEntry (portalCfg p) 64) }

/-- READ_PORTAL_CONFIG (R68). -/
def execReadPortalConfig (p : Packet) (s : State) : Host.Outcome State Fault Refusal := .next (submit readPortalConfigSpec p s)

/-! ### The profile set -/

/-- The stored set: one not yet in use, else the one in use. -/
def Profiles.stored (x : Profiles) : List Byte := x.staged.getD x.set

/-- Ranges of Table 7 and R187: offset, size, lowest, highest. -/
def profileRanges : List (Nat × Nat × Nat × Nat) :=
  [(16, 2, 50, 1000), (18, 2, 50, 1000), (20, 2, 20, 65535), (22, 2, 0, 300), (24, 2, 200, 5000), (26, 2, 50, 1500), (28, 2, 50, 1500),
   (30, 2, 10, 500), (32, 2, 2, 18), (34, 2, 100, 65535), (36, 2, 0, 1000), (38, 1, 0, 7), (42, 2, 200, 10000)] ++
  [(44, 2, 0, 10000), (46, 2, 1, 10000), (48, 2, 0, 10000), (50, 2, 1, 10000), (52, 2, 0, 10000), (54, 2, 0, 6000), (60, 2, 0, 300),
   (62, 2, 0, 300), (64, 2, 0, 300), (66, 2, 0, 300), (68, 2, 20, 1000), (70, 2, 50, 5000), (72, 2, 50, 5000), (74, 2, 1000, 60000),
   (76, 2, 500, 30000)]

/-- Bytes of a slot. -/
def slotOf (set : List Byte) (n : Nat) : List Byte := (set.drop (8 + 128 * n)).take 128

/-- Reserved and enumerated fields of a profile are as Table 7 has them (R63 step 1). -/
def profileListed (b : List Byte) : Bool :=
  getN b 39 1 < 2 && getN b 56 1 < 2 && getN b 57 1 < 3 && getN b 58 1 < 8 && getN b 59 1 == 0 && getN b 78 50 == 0

/-- Fields of a profile are in their ranges (R63 steps 3 and 4, R187). -/
def profileInRange (b : List Byte) : Bool :=
  (profileRanges.all fun x => x.2.2.1 ≤ getN b x.1 x.2.1 && getN b x.1 x.2.1 ≤ x.2.2.2) &&
    20 ≤ getN b 40 2 && getN b 40 2 ≤ getN b 28 2 && getN b 20 2 ≤ getN b 18 2

/-- The first failure of R63 after the signature; busy: the slots that must be valid in the new set. -/
def setFails (set : List Byte) (busy : List Nat) : Option Nat :=
  let slots := [0, 1, 2, 3, 4, 5, 6, 7]
  let valid := slots.filter (slotValid set)
  if getN set 6 2 ≠ 0 ∨ valid.any (fun n => !profileListed (slotOf set n)) then some stValueReserved
  else if slots.any (fun n => !slotValid set n && getN (slotOf set n) 0 128 != 0) || 7 < getN set 5 1 || !slotValid set (getN set 5 1) then
    some stSetMalformed
  else if valid.any fun n => !profileInRange (slotOf set n) then some stValueOutOfRange
  else if busy.any fun n => !slotValid set n then some stProfileEmpty
  else none

/-- An integrator signature verifies under a key of slot 0 or 1 (R510). -/
def ModuleState.integratorSigned (m : ModuleState) (msg sig : List Byte) : Bool :=
  m.sec.signKeys.any fun k => match k with
    | some k => Config.signatureOk k msg sig
    | none => false

/-- Slots that a new set must hold (R63 step 5): the active one and that of a pending schedule, and also that of a PROFILE_SELECT held back
until the module is at rest, which the rule does not name (DEDUCED, log entry 125). -/
def Profiles.busy (x : Profiles) : List Nat :=
  (if x.set.isEmpty then x.active.toList else [x.active.getD (getN x.set 5 1)]) ++ (x.change.map (·.1)).toList ++
    (x.schedule.map (·.slot)).toList

/-- PROFILE_SET_LOAD (R62, R63, R71, R541, R543): length and FORMAT, signature, the numbered checks; then the set is stored in both banks and
applies at rest (R66), the active slot kept; START_SLOT when none is (R64). -/
def profileSetLoadBody (c : Cmd) (m : ModuleState) : Result :=
  let b := c.data
  let set := b.take 1032
  let x := m.profiles
  if m.notOnDuty then refuse m stNotOnDuty
  else if b.length < 1034 ∨ b.length ≠ 1034 + getN b 1032 2 ∨ getN b 0 2 ≠ 1 then refuse m stSetMalformed
  else if !m.integratorSigned set (b.drop 1034) then refuse m stSignatureInvalid
  else match setFails set x.busy with
    | some st => refuse m st
    | none =>
      let slot := match x.change with
        | some ch => ch.1
        | none => x.active.getD (getN (if x.set.isEmpty then set else x.set) 5 1)
      if m.warden.activation.isSome then refuse m stUpdateBusy
      else
        let (bad, m1) := m.norTry 0 0
        if bad then refuse m1 stNorFault
        else { acts := [.fg, .wd],
               m := { m1 with profiles := { m1.profiles with staged := some set, change := some (slot, m.now) } }.log evProfileSetStored tgModule
                 [(getN set 2 2 : Int), (Config.shake256 set 32 : Int)] }

def profileSetLoadSpec : CmdSpec :=
  { opcode := 0x0110, roles := .only [.integrator], size := fun _ => true, seg := some 262144, body := profileSetLoadBody }

/-- PROFILE_SET_LOAD (R71). -/
def execProfileSetLoad (p : Packet) (s : State) : Host.Outcome State Fault Refusal := .next (submit profileSetLoadSpec p s)

/-- PROFILE_SCHEDULE_REPLACED when a schedule is pending (R67). -/
def ModuleState.replaced (m : ModuleState) (slot : Nat) (launch : Nat × Nat) : ModuleState :=
  match m.profiles.schedule with
  | some x => m.log evProfileScheduleReplaced tgModule
      [(x.slot : Int), (x.launch.1 : Int), (x.launch.2 : Int), (slot : Int), (launch.1 : Int), (launch.2 : Int)]
  | none => m

/-- PROFILE_SELECT (R66, R67, R355): at once, or as the pending schedule; one whose launch time is already past is pending until the next
rest, with EXECUTED_LATE, or is refused with STRICT, in the payload or in the launch time. -/
def profileSelectBody (c : Cmd) (m : ModuleState) : Result :=
  let slot := getN c.data 0 1
  if m.notOnDuty then refuse m stNotOnDuty
  else
    let empty := !slotValid m.profiles.stored slot
    match c.launch with
    | none =>
      if empty then refuse m stProfileEmpty
      else { m := { m with profiles := { m.profiles with change := some (slot, m.now), selected := true } } }
    | some (s, n, strict0) =>
      let strict := strict0 || bit (getN c.data 1 1) 0
      let x : ProfileSched := { slot, launch := (s, n), strict, transport := c.p.transport.index, seq := c.p.seq }
      let past : Bool := decide (stampNs (s, n) ≤ stampNs m.stamp)
      if empty then refuse m stProfileEmpty
      else if past && strict then refuse m stLaunchPast
      else
        let m1 := m.replaced slot (s, n)
        if past then
          { status := stExecutedLate, acts := [.recd],
            m := { m1 with profiles := { m1.profiles with schedule := some { x with heldSince := some m.now }, selected := true } }.profileLate x }
        else { acts := [.recd], m := { m1 with profiles := { m1.profiles with schedule := some x, selected := true } } }

def profileSelectSpec : CmdSpec :=
  { opcode := 0x0111, roles := .only [.operator, .integrator], size := (· == 4), sched := true,
    fields := fun b => getN b 0 1 < 8 && getN b 1 1 < 2 && getN b 2 2 == 0, body := profileSelectBody }

/-- PROFILE_SELECT (R66, R355). -/
def execProfileSelect (p : Packet) (s : State) : Host.Outcome State Fault Refusal := .next (submit profileSelectSpec p s)

def profileCancelBody (_ : Cmd) (m : ModuleState) : Result :=
  if m.notOnDuty then refuse m stNotOnDuty
  else if m.profiles.schedule.isNone then refuse m stNoSchedule
  else { acts := [.recd], m := { m with profiles := { m.profiles with schedule := none } } }

def profileCancelSpec : CmdSpec :=
  { opcode := 0x0112, roles := .only [.operator, .integrator], size := (· == 0), body := profileCancelBody }

/-- PROFILE_CANCEL (R67). -/
def execProfileCancel (p : Packet) (s : State) : Host.Outcome State Fault Refusal := .next (submit profileCancelSpec p s)

/-- PROFILE_STATUS reply (Table 17). -/
def ModuleState.profileStatus (m : ModuleState) : List Byte :=
  let set := m.profiles.stored
  leBytes 1 m.slot ++ leBytes 1 ((m.profiles.schedule.map (·.slot)).getD 0xFF) ++
    stampBytes ((m.profiles.schedule.map (·.launch)).getD (0, 0)) ++ leBytes 1 (getN set 4 1) ++ zeros 1 ++ leBytes 2 (getN set 2 2) ++
    leBytes 32 (Config.shake256 set 32)

def profileStatusSpec : CmdSpec :=
  { opcode := 0x0113, roles := .all, size := (· == 0), body := fun _ m => returnData m m.profileStatus }

/-- PROFILE_STATUS (R68). -/
def execProfileStatus (p : Packet) (s : State) : Host.Outcome State Fault Refusal := .next (submit profileStatusSpec p s)

end Sys2Proof.Machine
end

