-- ==== Sys2Proof/Machine/Security.lean ====
section
/-! DEFINITION. The floodgate (chapter 17): lifecycle R496, leaves and signing R501 to R503, sessions R504 to R509, keys R512 to
R516, tamper R518, and the commands R520. -/

namespace Sys2Proof.Machine

/-- The module with its security state changed. -/
def ModuleState.setSec (m : ModuleState) (f : Security → Security) : ModuleState := { m with sec := f m.sec }

/-- Code of a lifecycle state (R496). -/
def Lifecycle.code : Lifecycle → Nat
  | .blank => 0 | .provisioned => 1 | .sealed => 2 | .retired => 3

/-- Lifecycle state of a code. -/
def Lifecycle.ofCode : Nat → Lifecycle
  | 0 => .blank | 1 => .provisioned | 2 => .sealed | _ => .retired

/-- Role of a code (R520 Table 8). -/
def Role.ofCode : Nat → Role
  | 0 => .operator | 1 => .maintainer | _ => .integrator

/-- Code of a role. -/
def Role.code : Role → Nat
  | .operator => 0 | .maintainer => 1 | .integrator => 2

/-! ### Signing -/

/-- SIGNING_STOPPED with its cause: EXHAUSTED 0, MRAM_FAULT 1 (R502, R503). -/
def ModuleState.stopSigning (m : ModuleState) (cause : Nat) : ModuleState :=
  (m.setSec fun x => { x with signStopped := some cause }).logIf m.sec.signStopped.isNone evSigningStopped tgModule [(cause : Int)]

/-- Signatures made in the last second (R503). -/
def ModuleState.signsRecent (m : ModuleState) : List Nat := m.sec.signTimes.filter fun t => m.now < t + seconds 1

/-- SIGN_BUSY (R503, Table 14). -/
def ModuleState.signBusy (m : ModuleState) : Bool := 4 ≤ m.signsRecent.length || !m.sec.signReady

/-- The status of a signing command that cannot sign (R503, Table 14), in the order of R624. -/
def ModuleState.signFails (m : ModuleState) : Option Nat :=
  if m.signBusy then some stSignBusy
  else match m.sec.signStopped with
    | some 0 => some stIdentityExhausted
    | some _ => some stFloodgateFault
    | none => none

/-- A leaf used (R502): the reservation moves on by 64 at its boundary; the last leaf of the tree stops signing for good; a new
bottom subtree starts the build of the following one (R501). -/
def ModuleState.useLeaf (m : ModuleState) : ModuleState :=
  let i := m.sec.leafNext
  let m1 := m.setSec fun x => { x with
    leafReserved := if i = x.leafReserved then i + 64 else x.leafReserved, leafNext := i + 1, leafUsed := some i
    signTimes := m.signsRecent ++ [m.now], building := x.building || (i + 1) % 1024 == 0 }
  if i + 1 = 2 ^ 40 then m1.stopSigning 0 else m1

/-- SUBTREE_BUILD_DONE (R501): a background build completes; a RETIRED module has no key to sign with (R496). -/
def execSubtreeBuildDone (t : Nat) (s : State) : Host.Outcome State Fault Refusal :=
  happen true t (fun m => if m.runs isFloodgate && m.sec.life != .retired then m.setSec fun x => { x with building := false, signReady := true } else m) s

/-- Leaves at a power-on or a restart of the floodgate (R502): the next leaf is LEAF_RESERVED; LEAVES_BURNED where the last index used
is known, as after the power loss of Table 3; signing stops for good when no leaf is left (R503). -/
def ModuleState.burnLeaves (m : ModuleState) : ModuleState :=
  let r := m.sec.leafReserved
  let m1 := (m.setSec fun x => { x with leafNext := r }).logIf m.sec.leafUsed.isSome evLeavesBurned tgModule
    [((r - (m.sec.leafUsed.getD 0 + 1) : Nat) : Int), (r : Int)]
  if 2 ^ 40 ≤ r then m1.stopSigning 0 else m1

/-! ### Status -/

/-- SEC_STATUS reply (R520 Table 12), 46 bytes. -/
def ModuleState.secStatus (m : ModuleState) : List Byte :=
  let x := m.sec
  leBytes 1 x.life.code ++
    leBytes 1 (bitOf x.signReady 4 + bitOf x.signStopped.isSome 3 + bitOf (x.tripped != 0) 2 + bitOf x.debugOpen 1 + bitOf x.heldBack.isSome 0) ++
    leBytes 1 x.sessions.length ++ zeros 1 ++
    leBytes 2 ((List.range 12).map fun k => bitOf (x.roleKeys.getD k none).isSome k).sum ++ leBytes 8 x.leafNext ++ leBytes 4 x.fwSvn ++
    leBytes 4 x.kemGen ++ leBytes 4 x.tamperCount ++ leBytes 4 x.tagFails ++ leBytes 4 (x.epochs.getD 0 0) ++ leBytes 4 (x.epochs.getD 1 0) ++
    leBytes 4 (x.fresh.getD 0 0) ++ leBytes 4 (x.fresh.getD 1 0)

def secStatusSpec : CmdSpec :=
  { opcode := 0x0E00, roles := .all, size := (· == 0), body := fun _ m => readFrom [.fg] m m.secStatus }

/-- SEC_STATUS (R520). -/
def execSecStatus (p : Packet) (s : State) : Host.Outcome State Fault Refusal := .next (submit secStatusSpec p s)

/-- What the KEM certificate signs (R520 Table 10). -/
def kemCertBytes (gen : Nat) : List Byte := Config.identityKey ++ leBytes 4 gen ++ Config.kemPublic gen

/-- IDENTITY_READ reply (R520 Table 10). -/
def ModuleState.identityRead (m : ModuleState) : List Byte :=
  padTo 68 Config.identityKey ++ leBytes 4 m.sec.kemGen ++ padTo 1184 (Config.kemPublic m.sec.kemGen) ++ leBytes 8 m.sec.kemLeaf ++
    padTo 9893 (Config.sign m.sec.kemLeaf (kemCertBytes m.sec.kemGen))

def identityReadSpec : CmdSpec :=
  { opcode := 0x0E01, roles := .all, size := (· == 0), body := fun _ m => readFrom [.fg] m m.identityRead }

/-- IDENTITY_READ (R520). -/
def execIdentityRead (p : Packet) (s : State) : Host.Outcome State Fault Refusal := .next (submit identityReadSpec p s)

/-! ### Sessions -/

/-- Next session number (R505): after the last assigned, skipping 0 and every open number. -/
def nextNum (open_ : List Nat) : Nat → Nat → Nat
  | 0, n => n
  | k + 1, n =>
    let c := if n = 65535 then 1 else n + 1
    if open_.contains c then nextNum open_ k c else c

/-- SESSION_OPEN (R497, R504, R505, R518). -/
def sessionOpenBody (c : Cmd) (m : ModuleState) : Result :=
  let d := c.data
  let role := Role.ofCode (getN d 0 1)
  let slot := getN d 1 1
  let life := getN d 4 4
  let x := m.sec
  let blank := x.life == .blank
  let key := if blank then some 0 else x.roleKeys.getD (4 * role.code + slot) none
  if 3 < slot ∨ life < 60 ∨ 86400 < life then refuse m stValueOutOfRange
  else if x.life = .retired ∨ (blank ∧ (role ≠ .integrator ∨ c.p.transport ≠ .spi)) then refuse m stLifecycleState
  else if x.tripped ≠ 0 ∨ x.heldBack.isSome then refuse m stTampered
  else if key.isNone ∨ getN d 8 4 ≠ x.kemGen ∨ !x.kemOk then refuse m stKeyAbsent
  else if 16 ≤ x.sessions.length ∧ !m.signBusy then refuse m stSessionsFull
  else match m.signFails with
    | some st => refuse m st
    | none =>
      let num := nextNum (x.sessions.map (·.num)) 17 x.lastNum
      let (nonce, m0) := m.fresh
      let leaf := x.leafNext
      let head := leBytes 2 num ++ zeros 2 ++ leBytes 32 nonce ++ leBytes 4 life ++ leBytes 8 leaf
      let h := Config.shake256 (d ++ head) 32
      let ss := Config.decapsulate x.kemGen (d.drop 44)
      let keys := Config.kmac256 (ss ++ leBytes 32 (key.getD 0)) (leBytes 32 h) 768 "YL-D480 SESSION"
      let new : Session :=
        { num, role, slot, transport := c.p.transport, kCmd := keys % 2 ^ 256, kRsp := keys / 2 ^ 256 % 2 ^ 256, kWrap := keys / 2 ^ 512 % 2 ^ 256,
          h := h % 2 ^ 256, active := false, life, since := m.now, high := none, seen := 0, fails := [] }
      { acts := [.fg], data := head ++ padTo 9893 (Config.sign leaf (leBytes 32 h)),
        m := m0.useLeaf.setSec fun y => { y with sessions := y.sessions ++ [new], lastNum := num } }

def sessionOpenSpec : CmdSpec :=
  { opcode := 0x0E02, roles := .unsecured, size := (· == 1132), seg := some 262144,
    fields := fun b => getN b 0 1 < 3 && getN b 2 2 == 0, body := sessionOpenBody }

/-- SESSION_OPEN (R504). -/
def execSessionOpen (p : Packet) (s : State) : Host.Outcome State Fault Refusal := .next (submit sessionOpenSpec p s)

/-- SESSION_CONFIRM (R504): the session becomes ACTIVE when H matches. -/
def sessionConfirmBody (c : Cmd) (m : ModuleState) : Result :=
  match m.sec.session c.p.session with
  | none => refuse m stWrongState
  | some q =>
    if leNat c.data ≠ q.h then refuse m stWrongState
    else if q.active then { acts := [.fg], m }
    else
      { acts := [.fg],
        m := (m.setSec fun x => { x with
          sessions := updIf x.sessions (·.num == q.num) fun y => { y with active := true, since := m.now } }).log evSessionOpened tgModule
            [(q.num : Int), (q.role.code : Int), (q.slot : Int), (q.transport.index : Int)] }

def sessionConfirmSpec : CmdSpec :=
  { opcode := 0x0E03, roles := .session, size := (· == 32), body := sessionConfirmBody }

/-- SESSION_CONFIRM (R504). -/
def execSessionConfirm (p : Packet) (s : State) : Host.Outcome State Fault Refusal := .next (submit sessionConfirmSpec p s)

def sessionCloseSpec : CmdSpec :=
  { opcode := 0x0E04, roles := .session, size := (· == 0),
    body := fun c m => { acts := [.fg], m := m.closeSession c.p.session 0 } }

/-- SESSION_CLOSE (R508). -/
def execSessionClose (p : Packet) (s : State) : Host.Outcome State Fault Refusal := .next (submit sessionCloseSpec p s)

/-- SESSION_CONFIRM_TIMEOUT (R504): a session not confirmed within 5 s is discarded. -/
def execSessionConfirmTimeout (t num : Nat) (s : State) : Host.Outcome State Fault Refusal :=
  happen true t (fun m =>
    match m.sec.session num with
    | some q => if !q.active && m.due q.since (seconds 5) then m.closeSession num 6 else m
    | none => m) s

/-- SESSION_EXPIRY (R508): the granted lifetime of a session ends. -/
def execSessionExpiry (t num : Nat) (s : State) : Host.Outcome State Fault Refusal :=
  happen true t (fun m =>
    match m.sec.session num with
    | some q => if q.active && m.due q.since (seconds q.life) then m.closeSession num 1 else m
    | none => m) s

/-- Sessions whose closing waited for a reply close once that command is answered (R521). -/
def ModuleState.closeAnswered (m : ModuleState) : ModuleState :=
  let done := m.sec.sessions.filter fun q => q.closeAfter.any fun r => !m.interp.inflight.any (·.ref == r)
  m.closeSessions (done.map (·.num)) 4

/-! ### Attestation, KEM -/

/-- COMPAT of the running firmware (R544). -/
def ModuleState.compat (m : ModuleState) : Nat := m.sigField m.warden.activeBank 6 2

/-- CONFIG_DIGEST (R520 Table 13): SHAKE256 over the module configuration. -/
def ModuleState.configDigest (m : ModuleState) : Nat := Config.shake256 m.warden.config 32

/-- ATTEST (R520 Table 13). -/
def attestBody (c : Cmd) (m : ModuleState) : Result :=
  match m.signFails with
  | some st => refuse m st
  | none =>
    let leaf := m.sec.leafNext
    let body := padTo 32 c.data ++ m.secStatus ++ leBytes 32 m.configDigest ++ leBytes 2 m.compat ++
      m.keyBytes { op := m.opTime, cycle := m.recd.cycle, seq := m.recd.seq } ++ leBytes 8 leaf
    { acts := [.fg], data := body ++ padTo 9893 (Config.sign leaf body), m := m.useLeaf }

def attestSpec : CmdSpec := { opcode := 0x0E05, roles := .all, size := (· == 32), body := attestBody }

/-- ATTEST (R520). -/
def execAttest (p : Packet) (s : State) : Host.Outcome State Fault Refusal := .next (submit attestSpec p s)

/-- KEM_ROTATE (R520): a new key pair and certificate; open sessions are kept. -/
def kemRotateBody (_ : Cmd) (m : ModuleState) : Result :=
  match m.signFails with
  | some st => refuse m st
  | none =>
    let gen := (m.sec.kemGen + 1) % 2 ^ 32
    let leaf := m.sec.leafNext
    { acts := [.fg], data := leBytes 4 gen, m := m.useLeaf.setSec fun x => { x with kemGen := gen, kemLeaf := leaf, kemOk := true } }

def kemRotateSpec : CmdSpec := { opcode := 0x0E08, roles := .only [.integrator], size := (· == 0), body := kemRotateBody }

/-- KEM_ROTATE (R520). -/
def execKemRotate (p : Packet) (s : State) : Host.Outcome State Fault Refusal := .next (submit kemRotateSpec p s)

/-! ### Keys -/

/-- Present keys of a list. -/
def keysPresent {α : Type} (l : List (Option α)) : Nat := (l.filter Option.isSome).length

/-- An erasure that would leave no INTEGRATOR role key, or no integrator signing key (R521), or no vendor slot (R512). -/
def ModuleState.lastKey (m : ModuleState) (kind which slot len : Nat) : Bool :=
  let x := m.sec
  match kind with
  | 0 => x.life != .blank && len == 0 && which == 2 && (x.roleKeys.getD (8 + slot) none).isSome && keysPresent (x.roleKeys.drop 8) ≤ 1
  | 2 => x.life != .blank && len == 0 && (x.signKeys.getD slot none).isSome && keysPresent x.signKeys ≤ 1
  | 3 => !bit x.vendorRevoked slot && setBit x.vendorRevoked slot true % 16 == 15
  | _ => false

/-- The keys after a KEY_SET (R512, R514, R516): a group key raises KEY_EPOCH and sets the freshness counter and every bound object's
last stored freshness to 0. -/
def ModuleState.putKey (m : ModuleState) (kind which slot len : Nat) (secret : Nat) (clear : List Byte) : ModuleState :=
  match kind with
  | 0 => m.setSec fun x => { x with roleKeys := upd x.roleKeys (4 * which + slot) fun _ => if len = 0 then none else some secret }
  | 1 =>
    if len = 0 then m.setSec fun x => { x with groupKeys := upd x.groupKeys which fun _ => none }
    else
      (m.setSec fun x => { x with
        groupKeys := upd x.groupKeys which fun _ => some secret, epochs := upd x.epochs which fun e => (e + 1) % 2 ^ 32
        fresh := upd x.fresh which fun _ => 0, freshRes := upd x.freshRes which fun _ => 0
        freshLowAt := upd x.freshLowAt which fun _ => none }).setCtl which fun q =>
          { q with objs := updAll q.objs fun o => { o with lastFresh := if o.bound.isSome then some 0 else o.lastFresh } }
  | 2 => m.setSec fun x => { x with signKeys := upd x.signKeys slot fun _ => if len = 0 then none else some clear }
  | _ => m.setSec fun x => { x with vendorRevoked := setBit x.vendorRevoked slot true }

/-- KEY_SET (R509, R512, R514, R521). -/
def keySetBody (c : Cmd) (m : ModuleState) : Result :=
  let d := c.data
  let kind := getN d 0 1
  let which := getN d 1 1
  let slot := getN d 2 1
  let len := getN d 4 2
  let slots := if kind = 0 ∨ kind = 3 then 4 else if kind = 2 then 2 else 1
  let full := if kind = 2 then 68 else if kind = 3 then 0 else 32
  if slots ≤ slot ∨ (len ≠ 0 ∧ len ≠ full) then refuse m stValueOutOfRange
  else if m.sec.life = .retired then refuse m stLifecycleState
  else if m.lastKey kind which slot len then refuse m stWrongState
  else
    let kw := ((m.sec.session c.p.session).map (·.kWrap)).getD 0
    let mask := Config.kmac256 (leBytes 32 kw) (leBytes 4 c.p.seq ++ leBytes 2 c.p.session) 256 "YL-D480 WRAP" % 2 ^ 256
    let m1 := m.putKey kind which slot len (leNat ((d.drop 8).take len) ^^^ mask) ((d.drop 8).take len)
    let hit := m1.sec.sessions.filter fun q =>
      kind == 0 && m.sec.life != .blank && q.role.code == which && q.slot == slot && (m.sec.roleKeys.getD (4 * which + slot) none).isSome
    let m2 := m1.log evKeyChanged tgModule
      [(kind : Int), (which : Int), (slot : Int), if kind = 1 then (m1.sec.epochs.getD which 0 : Int) else 0]
    let m3 := m2.closeSessions ((hit.map (·.num)).filter (· != c.p.session)) 4
    { acts := [.fg], m := if hit.any (·.num == c.p.session) then m3.setSec fun x => { x with
        sessions := updIf x.sessions (·.num == c.p.session) fun q => { q with closeAfter := some c.ref } } else m3 }

def keySetSpec : CmdSpec :=
  { opcode := 0x0E06, roles := .only [.integrator], size := (8 ≤ ·), sized := fun b => b.length == 8 + getN b 4 2,
    fields := fun b => getN b 0 1 < 4 && getN b 3 1 == 0 && getN b 6 2 == 0 &&
      (match getN b 0 1 with
        | 0 => getN b 1 1 < 3
        | 1 => getN b 1 1 < 2
        | _ => getN b 1 1 == 0),
    body := keySetBody }

/-- KEY_SET (R521). -/
def execKeySet (p : Packet) (s : State) : Host.Outcome State Fault Refusal := .next (submit keySetSpec p s)

/-! ### Lifecycle -/

/-- A lifecycle transition and its conditions (R496 Table 2). -/
def ModuleState.advanceOk (m : ModuleState) (dest : Lifecycle) : Bool :=
  let x := m.sec
  match x.life, dest with
  | .blank, .provisioned =>
    1 ≤ keysPresent (x.roleKeys.take 4) && 1 ≤ keysPresent ((x.roleKeys.drop 4).take 4) && 1 ≤ keysPresent (x.roleKeys.drop 8) &&
      1 ≤ keysPresent x.signKeys
  | .provisioned, .blank => true
  | .provisioned, .sealed => (m.bank m.warden.activeBank).state == .active
  | .provisioned, .retired => true
  | .sealed, .retired => true
  | _, _ => false

/-- The security state after a lifecycle transition (R496 Table 2). -/
def Security.advanced (x : Security) (dest : Lifecycle) : Security :=
  match dest with
  | .blank => { x with life := dest, roleKeys := List.replicate 12 none, groupKeys := [none, none], signKeys := [none, none] }
  | .sealed => { x with life := dest, debugOpen := false }
  | .retired => { x with life := dest, roleKeys := List.replicate 12 none, groupKeys := [none, none], kemOk := false, signReady := false }
  | .provisioned => { x with life := dest }

/-- LIFECYCLE_ADVANCE (R496): every session closes (R508). -/
def lifecycleAdvanceBody (c : Cmd) (m : ModuleState) : Result :=
  let dest := Lifecycle.ofCode (getN c.data 0 1)
  if getN c.data 4 4 ≠ Config.shake256 Config.identityKey 32 % 2 ^ 32 ∨ !m.advanceOk dest then refuse m stLifecycleState
  else
    let m1 := (m.setSec fun x => x.advanced dest).log evLifecycleChanged tgModule [(m.sec.life.code : Int), (dest.code : Int)]
    { acts := [.fg], m := m1.closeSessions (m1.sec.sessions.map (·.num)) 5 }

def lifecycleAdvanceSpec : CmdSpec :=
  { opcode := 0x0E07, roles := .only [.integrator], size := (· == 8), fields := fun b => getN b 0 1 < 4 && getN b 1 3 == 0,
    body := lifecycleAdvanceBody }

/-- LIFECYCLE_ADVANCE (R496). -/
def execLifecycleAdvance (p : Packet) (s : State) : Host.Outcome State Fault Refusal :=
  .next (submit lifecycleAdvanceSpec p s)

/-! ### Tamper, freshness, debug -/

/-- TAMPER_TRIP (R518): MESH 0 or LIGHT 1 trips; every session closes, the count rises, TAMPER is logged. A trip while the
floodgate does not run is found when it runs. -/
def execTamperTrip (t sensor : Nat) (s : State) : Host.Outcome State Fault Refusal :=
  happen (sensor < 2) t (fun m =>
    if bit m.sec.tripped sensor || !m.runs isFloodgate then m
    else
      let m1 := m.setSec fun x => { x with
        tripped := setBit x.tripped sensor true, tamperCount := sat max32 x.tamperCount, heldBack := some m.now }
      let m2 := m1.closeSessions (m1.sec.sessions.map (·.num)) 3
      (m2.saturated max32 m.sec.tamperCount tgModule 0x0E00 24).log evTamper tgModule [(sensor : Int), 0]) s

/-- TAMPER_CLEARED (R518): all sensors have been clear since an instant 10 s ago; sessions can open again. -/
def execTamperCleared (t since : Nat) (s : State) : Host.Outcome State Fault Refusal :=
  happen true t (fun m =>
    if m.runs isFloodgate && m.sec.heldBack.any (· ≤ since) && m.due since (seconds 10) then
      let was := m.sec.tripped
      let m1 := m.setSec fun x => { x with tripped := 0, heldBack := none }
      (m1.logIf (bit was 0) evTamper tgModule [0, 1]).logIf (bit was 1) evTamper tgModule [1, 1]
    else m) s

/-- FRESHNESS_LOW (R516): the transmit counter of a controller stands at 0xC000_0000 or above, and again every 24 h. -/
def execFreshnessLow (t ctl : Nat) (s : State) : Host.Outcome State Fault Refusal :=
  happen (ctl < 2) t (fun m =>
    let v := m.sec.fresh.getD ctl 0
    let at_ := m.sec.freshLowAt.getD ctl none
    if m.runs isFloodgate && 0xC0000000 ≤ v && (at_.isNone || m.dueO at_ (seconds 86400)) then
      (m.setSec fun x => { x with freshLowAt := upd x.freshLowAt ctl fun _ => some m.now }).log evFreshnessLow tgModule
        [(ctl : Int), (v : Int)]
    else m) s

/-- DEBUG_PROBE_ATTACHED (R498): a probe on the service pads before SEALED sets or clears DEBUG_OPEN. -/
def execDebugProbeAttached (t : Nat) (attached : Bool) (s : State) : Host.Outcome State Fault Refusal :=
  happen true t (fun m =>
    if m.sec.life = .blank ∨ m.sec.life = .provisioned then m.setSec fun x => { x with debugOpen := attached } else m) s

/-- Items of floodgate MRAM whose both copies are found damaged (R494 Table 1), by row from 0: the action of the table, and
FLOODGATE_FAULT with the item and the value taken: RETIRED, every vendor slot revoked, the SVN, and 0 for the tamper count and for an
action. -/
def ModuleState.floodgateDamage (m : ModuleState) (items : List Nat) : ModuleState :=
  m.each items fun m i =>
    let svn := m.sigField m.warden.activeBank 8 4
    let m1 := match i with
      | 0 => m.setSec fun x => { x with life := .retired }
      | 1 => m.stopSigning 1
      | 2 => m.stopSigning 1
      | 3 => m.setSec fun x => { x with signReady := false, building := true }
      | 4 => m.setSec fun x => { x with kemOk := false }
      | 5 => m.setSec fun x => { x with roleKeys := List.replicate 12 none }
      | 6 => m.setSec fun x => { x with signKeys := [none, none] }
      | 7 => m.setSec fun x => { x with vendorRevoked := 15 }
      | 8 => m.setSec fun x => { x with groupKeys := [none, none] }
      | 9 => m.setSec fun x => { x with fwSvn := svn }
      | 10 => m.setSec fun x => { x with tamperCount := 0 }
      | _ => m
    let taken : Nat := if i = 0 then 3 else if i = 7 then 15 else if i = 9 then svn else 0
    m1.logIf (i ≤ 10) evFloodgateFault tgModule [(i : Int), (taken : Int)]

end Sys2Proof.Machine
end

