-- ==== Sys2Proof/Machine/Time.lean ====
section
/-! DEFINITION. Module time (chapter 11): sources and quality R340 to R344, steps and slewing R346, the pulse pins R348 and
R349, the compare units R350 and R351, and the time commands R356 to R358. The meanings that may launch a held packet stand
in Interp.lean. -/

namespace Sys2Proof.Machine

/-! ### Settings, sources -/

/-- Offset of the time settings entry (R529, R340). -/
abbrev timeCfg : Nat := 2696

/-- FLAGS of the time settings (R340). -/
def ModuleState.timeFlags (m : ModuleState) : Nat := m.cfg (timeCfg + 7) 1

/-- SYNC_TIMEOUT in ns (R340). -/
def ModuleState.syncTimeout (m : ModuleState) : Nat := ms (m.cfg (timeCfg + 8) 2)

/-- SOURCES in priority order (R340): NONE 0, PTP 1, PPS 2, HOST 3. -/
def ModuleState.sources (m : ModuleState) : List Nat := [m.cfg timeCfg 1, m.cfg (timeCfg + 1) 1, m.cfg (timeCfg + 2) 1, m.cfg (timeCfg + 3) 1]

/-- A source is usable (R341). -/
def TimeUnit.usable (u : TimeUnit) (code : Nat) : Bool :=
  match code with
  | 1 => u.ptpAt.isSome
  | 2 => u.ppsAt.isSome
  | 3 => true
  | _ => false

/-- The module is the standby of a pair (R341, R487). -/
def ModuleState.isStandby (m : ModuleState) : Bool := m.pairMode != 0 && m.pair.role == .standby

/-- SOURCE of Table 7 (R341): NONE 0, PTP 1, PPS 2, HOST 3, CLUSTER 4. -/
def ModuleState.timeSource (m : ModuleState) : Nat :=
  if m.isStandby then 4 else (m.sources.find? m.time.usable).getD 0

/-- The module with its time unit changed. -/
def ModuleState.setTime (m : ModuleState) (f : TimeUnit → TimeUnit) : ModuleState := { m with time := f m.time }

/-- PPS_OUT is driven (R348). -/
def ModuleState.ppsDriven (m : ModuleState) (q : Quality) : Bool :=
  q == .locked || q == .holdover || bit m.timeFlags 1

/-- Clock quality takes a state (R342): a change logs TIME_QUALITY, and the mean of R343 and the run of good measurements begin afresh;
PPS_OUT is held low when no longer driven (R348). -/
def ModuleState.setQuality (m : ModuleState) (q : Quality) : ModuleState :=
  let old := m.time.quality
  (m.setTime fun u =>
    { u with quality := q, ppsOut := u.ppsOut && m.ppsDriven q,
             trims := if old = q then u.trims else [], goodRun := if old = .locked ∧ q ≠ .locked then 0 else u.goodRun
             holdoverAt := if q = .holdover then u.holdoverAt.or (some m.now) else none }).logIf (old != q) evTimeQuality
    tgModule [(old.code : Int), (q.code : Int), (m.timeSource : Int)]

/-- What a span of LOCKED up to now adds to the mean of R343: begin, end, and TRIM summed over its periods. -/
def TimeUnit.span (u : TimeUnit) (now : Nat) : Nat × Nat × Int := (u.asOf, now, u.trimmed (u.periods now))

/-- The spans of the last 16 s of LOCKED, with the one that ends now (R343): every measurement that changes TRIM in LOCKED ends one. -/
def TimeUnit.spans (u : TimeUnit) (now : Nat) : List (Nat × Nat × Int) :=
  if u.quality = .locked then (u.trims.filter fun x => now < x.2.1 + seconds 16) ++ [u.span now] else u.trims

/-- Whole periods of a span after an instant. -/
def spanAfter (since : Nat) (x : Nat × Nat × Int) : Nat := (x.2.1 - max since x.1) / 8

/-- Mean of TRIM over the periods of spans after an instant (R343): a span that begins earlier counts in proportion. -/
def meanTrim (since : Nat) (l : List (Nat × Nat × Int)) : Int :=
  (l.map fun x => x.2.2 * (spanAfter since x : Nat) / max 1 (spanAfter 0 x : Nat)).sum / max 1 (((l.map (spanAfter since)).sum : Nat) : Int)

/-- The source that disciplined module time is lost (R342, R343). -/
def ModuleState.loseSource (m : ModuleState) : ModuleState :=
  match m.time.quality with
  | .syncing => m.setQuality .free
  | .locked =>
    (m.setTime fun u => { u.rebase m.now with
      residue := 0, trim := meanTrim (m.now - seconds 16) (u.spans m.now) }).setQuality .holdover
  | _ => m

/-! ### Targets -/

/-- A 25-bit bound of TRIM (R336): ±500 ppm. -/
def clampTrim (v : Int) : Int := max (-17179869) (min 17179869 v)

/-- Targets that wait: held packets, WAITING CAN buffers, and the next rise of PPS_OUT while it is driven (R350), as counts of R337. -/
def ModuleState.targets (m : ModuleState) : List Nat :=
  m.interp.scheduled.map (fun x => stampNs x.launch) ++
    (m.can.map fun c => (c.bufs.filter (·.state == .waiting)).map fun b => stampNs b.launch).flatten ++
    if m.ppsDriven m.time.quality then [(m.count / 1000000000 + 1) * 1000000000] else []

/-- Targets within 1 s of module time, earliest first, each once (R350). -/
def ModuleState.nearTargets (m : ModuleState) : List Nat :=
  ((m.targets.filter fun x => x ≤ m.count + 1000000000).insertionSort (· ≤ ·)).dedup

/-- Held packets whose launch time passes a test are launched, those that share a time in order of arrival (R353). -/
def ModuleState.releaseSched (m : ModuleState) (hit : Nat → Bool) : ModuleState :=
  let go := m.interp.scheduled.filter fun x => hit (stampNs x.launch)
  { m with interp := { m.interp with
      scheduled := m.interp.scheduled.filter fun x => !hit (stampNs x.launch)
      launched := m.interp.launched ++ go.insertionSort (fun a b => stampNs a.launch ≤ stampNs b.launch) } }

/-- WAITING CAN buffers whose LAUNCH passes a test reach it (R379). -/
def ModuleState.releaseCan (m : ModuleState) (hit : Nat → Bool) : ModuleState :=
  m.each [(0, 0), (0, 1), (0, 2), (1, 0), (1, 1), (1, 2)] fun m x =>
    let b := (m.ctl x.1).buf x.2
    if b.state == .waiting && hit (stampNs b.launch) then m.launchBuf x.1 x.2 else m

/-- Every target judged again after a step (R351): one in the past fires at once, one within 1 s is re-armed. -/
def ModuleState.rejudge (m : ModuleState) : ModuleState :=
  let past : Nat → Bool := fun x => x ≤ m.count
  let m1 := (m.releaseSched past).releaseCan past
  let near := m1.nearTargets
  m1.setTime fun u => { u with units := (List.range 8).map fun i => near[i]? }

/-! ### Measurements -/

/-- A measurement of module time less source time, in ns (R346): beyond ±1 s a step, else the servo removes it through TRIM
(log entry 9). -/
def ModuleState.applyOffset (m : ModuleState) (source : Nat) (offset : Int) : ModuleState :=
  if 1000000000 < offset.natAbs then
    let old := m.stamp
    let c := ((m.count : Int) - offset).toNat
    let new := (c / 1000000000 % 2 ^ 48, c % 1000000000)
    let m1 := m.setTime fun u => { u.set m.now new with
      trims := u.spans m.now, offset, steps := sat max16 u.steps, crossed := if old.1 < new.1 then some new.1 else none }
    ((m1.log evClockStep tgModule
      [(old.1 : Int), (old.2 : Int), (new.1 : Int), (new.2 : Int), (source : Int)]).saturated max16 m.time.steps tgModule
        0x0800 40).rejudge
  else
    m.setTime fun u =>
      let v := u.rebase m.now
      let rate : Int := 1 + Config.servo 0 [offset] % 17179869
      { v with
        trims := u.spans m.now, offset, residue := offset * 4294967296, slew := if 0 < offset then -rate else rate
        trim := if source = 3 then v.trim else clampTrim (Config.servo 1 [offset, v.trim]) }

/-- A measurement of the active source PTP, PPS or CLUSTER with its effect on quality (R342 Table 3). -/
def ModuleState.measure (m : ModuleState) (source : Nat) (offset : Int) : ModuleState :=
  let goes : Bool := m.time.quality == .syncing || m.time.quality == .locked
  let run := if offset.natAbs ≤ 500 then (if goes then m.time.goodRun + 1 else 1) else 0
  let q := match m.time.quality with
    | .locked => if 2000 < offset.natAbs then Quality.syncing else .locked
    | _ => if 16 ≤ run then .locked else .syncing
  ((m.applyOffset source offset).setTime fun u => { u with goodRun := min 16 run }).setQuality q

/-- A data set is better under the best master clock algorithm (R344): its first differing item is lower. -/
def betterMaster : List Nat → List Nat → Bool
  | a :: r, b :: s => a < b || (a == b && betterMaster r s)
  | _, _ => false

/-- A Delay_Req of the end-to-end delay mechanism (R344; IEEE 1588-2019, log entry 160): header with sequenceId, origin stamp 0; on IEEE 802.3 or
UDP port 319 as PTP_TRANSPORT selects. -/
def ModuleState.sendDelayReq (m : ModuleState) : ModuleState :=
  let own := leBytes 6 Config.macBase
  let msg : List Byte := [0x01, 0x12, 0, 44] ++ leBytes 1 (m.cfg (timeCfg + 4) 1) ++ zeros 15 ++ own.take 3 ++ [0xFF, 0xFE] ++ own.drop 3 ++ beBytes 2 1 ++
    beBytes 2 m.time.delaySeq ++ [1, 0x7F] ++ zeros 10
  let m1 := m.setTime fun u => { u with delaySeq := (u.delaySeq + 1) % 65536 }
  if m.cfg (timeCfg + 5) 1 = 0 then m1.sendOwn m.cmdPcp ([1, 0x1B, 0x19, 0, 0, 0] ++ own ++ beBytes 2 0x88F7 ++ msg ++ zeros 2)
  else m1.setEth fun e => m.sendUdp e 319 m.cmdPcp (leNat [224, 0, 1, 129], 319) msg

/-- A master is heard (IEEE 1588-2019; log entry 160): an Announce within announceReceiptTimeout, 3 announce intervals of 2 s. -/
def Foreign.heard (f : Foreign) (now : Nat) : Bool := now < f.last + seconds 6

/-- A master qualifies (IEEE 1588-2019; log entry 160): two Announce messages within 4 announce intervals of 2 s. -/
def Foreign.qualified (f : Foreign) : Bool := f.prev.any fun p => f.last ≤ p + seconds 8

/-- The masters heard, after an Announce. -/
def noteMaster (l : List Foreign) (now : Nat) (data : List Nat) (utc : Nat) : List Foreign :=
  let same : Foreign → Bool := fun f => f.data.getD 5 0 == data.getD 5 0
  let old := l.find? same
  (l.filter fun f => f.heard now && !same f) ++ [{ data, utc, last := now, prev := old.map (·.last) }]

/-- The best of some masters (R344). -/
def bestMaster (l : List Foreign) : Option Foreign :=
  l.foldl (fun b f => match b with
    | some x => if betterMaster f.data x.data then some f else some x
    | none => some f) none

/-- The grandmaster chosen anew among the masters that are heard and qualify (R344); a change is logged (R345). -/
def ModuleState.chooseMaster (m : ModuleState) : ModuleState :=
  let m1 := m.setTime fun u => { u with masters := u.masters.filter fun f => f.heard m.now }
  match bestMaster (m1.time.masters.filter (·.qualified)) with
  | none => m1.setTime fun u => { u with gmData := none }
  | some f =>
    let new := f.data.getD 5 0
    (m1.setTime fun u => { u with gm := new, gmData := some f.data, utc := f.utc }).logIf (m.time.gm != new) evPtpMasterChanged tgModule
      [(m.time.gm : Int), (new : Int)]

/-- A PTP message on PTP_DOMAIN and PTP_TRANSPORT (R344, R345, R487). -/
def ModuleState.ptpMessage (m : ModuleState) : PtpMessage → ModuleState
  | .announce domain transport utc data =>
    if !m.ethRuns || domain ≠ m.cfg (timeCfg + 4) 1 || transport ≠ m.cfg (timeCfg + 5) 1 || !m.sources.contains 1 then m
    else (m.setTime fun u => { u with masters := noteMaster u.masters m.now data utc }).chooseMaster
  | .measurement domain transport identity arrived source delay =>
    if !m.ethRuns || domain ≠ m.cfg (timeCfg + 4) 1 || transport ≠ m.cfg (timeCfg + 5) 1 ||
        !m.sources.contains 1 || m.time.gmData.isNone || identity ≠ m.time.gm then m
    else
      let offset : Int := (m.time.count arrived : Int) - source
      let m1 := m.sendDelayReq.setTime fun u => { u with ptpAt := some m.now, pathDelay := delay }
      if m1.timeSource = 1 then m1.measure 1 offset
      else if m1.isStandby then
        let beyond : Bool := decide (1000000 < offset.natAbs)
        ({ m1 with pair := { m1.pair with timeDisagree := beyond } }).logIf (beyond && !m.pair.timeDisagree) evTimeDisagree
          tgModule [offset / 1000]
      else m1

/-- A PPS_IN edge stamped (R341, R349): the offset is the stamp's nanoseconds in the range −500 000 000 to 499 999 999. -/
def ModuleState.ppsEdge (m : ModuleState) (falling : Bool) (edge : Nat) : ModuleState :=
  if !m.runs isNetwork || falling != bit m.timeFlags 0 || !m.sources.contains 2 then m
  else
    let n := ((m.time.count edge : Int) - m.cfgInt (timeCfg + 14) 2) % 1000000000
    let offset := if n < 500000000 then n else n - 1000000000
    let was := m.timeSource
    let good : Bool := decide (offset.natAbs ≤ 100000) && m.time.timeSet
    let m1 := m.setTime fun u => { u with ppsAt := if good then some m.now else none }
    if good then if m1.timeSource = 2 then m1.measure 2 offset else m1
    else if was = 2 then m1.loseSource else m1

/-- PTP_SOURCE_LOST (R341, R342): SYNC_TIMEOUT without a usable measurement of a source loses it; a master no longer heard is no longer
chosen (R344). -/
def execPtpSourceLost (t : Nat) (s : State) : Host.Outcome State Fault Refusal :=
  happen true t (fun m =>
    let was := m.timeSource
    let lost (x : Option Nat) := m.dueO x m.syncTimeout
    let m0 := m.setTime fun u => { u with
      ptpAt := if lost u.ptpAt then none else u.ptpAt, ppsAt := if lost u.ppsAt then none else u.ppsAt
      masters := if lost u.ptpAt then u.masters.filter fun f => f.data.getD 5 0 != u.gm else u.masters }
    let m1 := if m.sources.contains 1 then m0.chooseMaster else m0
    if (was == 1 && lost m.time.ptpAt) || (was == 2 && lost m.time.ppsAt) then m1.loseSource else m1) s

/-- HOLDOVER_EXPIRY (R342): HOLDOVER_MAX passes in HOLDOVER. -/
def execHoldoverExpiry (t : Nat) (s : State) : Host.Outcome State Fault Refusal :=
  happen true t (fun m =>
    if m.dueO m.time.holdoverAt (seconds (m.cfg (timeCfg + 10) 2)) then m.setQuality .free else m) s

/-! ### Pulse pins, reference, compare units -/

/-- PPS_OUT rises at a whole second when it is driven (R348); not at the second a forward step has crossed last (log entry 143). -/
def ModuleState.raisePps (m : ModuleState) (second : Nat) : ModuleState :=
  if m.ppsDriven m.time.quality && m.time.crossed != some second then m.setTime fun u => { u with ppsOut := true, ppsOutAt := m.now }
  else m

/-- PPS_OUT_PULSE (R348, R350): at a whole second of module time, within 20 ns of it, the compare unit that serves PPS_OUT fires: the one armed
for that second, or a free one. With every unit taken by other targets there is no pulse. -/
def execPpsOutPulse (t : Nat) (s : State) : Host.Outcome State Fault Refusal :=
  happen true t (fun m =>
    let n := m.stamp.2
    let second := if n ≤ 20 then m.stamp.1 else m.stamp.1 + 1
    let x := second * 1000000000
    if m.runs isNetwork && (n ≤ 20 || 999999980 ≤ n) && (m.time.units.contains (some x) || m.time.units.contains none) then
      if (m.interp.scheduled.any fun q => stampNs q.launch == x) || (m.can.any fun c => c.bufs.any fun b => b.state == .waiting && stampNs b.launch == x)
      then m.raisePps second
      else (m.setTime fun u => { u with units := u.units.map fun y => if y = some x then none else y }).raisePps second
    else m) s

/-- PPS_OUT_FALL (R348): PPS_WIDTH after the whole second PPS_OUT falls. -/
def execPpsOutFall (t : Nat) (s : State) : Host.Outcome State Fault Refusal :=
  happen true t (fun m =>
    if m.time.ppsOut && m.due m.time.ppsOutAt (ms (m.cfg (timeCfg + 12) 2)) then
      m.setTime fun u => { u with ppsOut := false }
    else m) s

/-- REF_25M_LOST (R616, R19): the network island changes to its own oscillator; module time keeps counting. -/
def execRef25mLost (t : Nat) (s : State) : Host.Outcome State Fault Refusal :=
  happen true t (fun m => m.setTime fun u => { u with ref25 := false }) s

/-- REF_25M_RESTORED (R616): the network island runs from the reference again. -/
def execRef25mRestored (t : Nat) (s : State) : Host.Outcome State Fault Refusal :=
  happen true t (fun m => m.setTime fun u => { u with ref25 := true }) s

/-- COMPARE_TARGET_ARM (R350): a free compare unit of the running network island takes the earliest target within 1 s that no unit holds. -/
def execCompareTargetArm (t unit : Nat) (s : State) : Host.Outcome State Fault Refusal :=
  happen (unit < 8) t (fun m =>
    match m.time.units.getD unit none, if m.runs isNetwork then m.nearTargets.find? fun x => !m.time.units.contains (some x) else none with
    | none, some x => m.setTime fun u => { u with units := upd u.units unit fun _ => some x }
    | _, _ => m) s

/-- A compare unit fires when the count of R337 has reached its target (R350): held packets of that launch time are launched,
CAN buffers of that LAUNCH become PENDING, and PPS_OUT rises at a whole second. -/
def ModuleState.fireUnit (m : ModuleState) (unit : Nat) : ModuleState :=
  match m.time.units.getD unit none with
  | some x =>
    if m.runs isNetwork && x ≤ m.count then
      let m1 := ((m.setTime fun u => { u with units := upd u.units unit fun _ => none }).releaseSched (· == x)).releaseCan (· == x)
      if x % 1000000000 = 0 ∧ m.count ≤ x + 20 then m1.raisePps (x / 1000000000) else m1
    else m
  | none => m

/-! ### Commands -/

/-- TRIM_PPB of a TRIM in 2^-32 ns for every 8 ns, whole parts toward minus infinity (R356; log entry 15). -/
def trimPpb (trim : Int) : Int := trim * 1000000000 / (8 * 4294967296)

/-- TIME_STATUS reply, 46 bytes after STATUS (R356 Table 7). -/
def ModuleState.timeStatus (m : ModuleState) : List Byte :=
  let u := m.time
  stampBytes m.stamp ++ leBytes 1 u.quality.code ++ leBytes 1 m.timeSource ++ leBytes 2 u.utc ++ leInt 8 u.offset ++
    leInt 4 (trimPpb (u.trimAt m.now)) ++ leBytes 4 u.pathDelay ++ leBytes 8 (if u.gmData.isSome then u.gm else 0) ++ leBytes 2 u.steps ++
    leBytes 1 m.interp.scheduled.length ++ zeros 1 ++
    leBytes 4 (match u.holdoverAt with
      | some a => (m.now - a) / 1000000000
      | none => 0)

def timeStatusSpec : CmdSpec :=
  { opcode := 0x0800, roles := .all, size := (· == 0), body := fun _ m => readFrom [.net] m m.timeStatus }

/-- TIME_STATUS (R356). -/
def execTimeStatus (p : Packet) (s : State) : Host.Outcome State Fault Refusal := .next (submit timeStatusSpec p s)

def readTimeConfigSpec : CmdSpec :=
  { opcode := 0x0802, roles := .all, size := (· == 0), body := fun _ m => readFrom [.net] m (m.cfgEntry timeCfg 32) }

/-- READ_TIME_CONFIG (R356). -/
def execReadTimeConfig (p : Packet) (s : State) : Host.Outcome State Fault Refusal :=
  .next (submit readTimeConfigSpec p s)

/-- TIME_SET (R357): applied as a measurement, the time taken as source time when the packet was taken from its transport; source time has
run on since (log entry 161). -/
def timeSetBody (c : Cmd) (m : ModuleState) : Result :=
  let s := getN c.data 0 6
  let n := getN c.data 6 4
  let src := m.timeSource
  if 1000000000 ≤ n then refuse m stValueOutOfRange
  else if src ≠ 3 ∧ src ≠ 2 ∧ m.time.quality ≠ .free then refuse m stWrongState
  else
    let offset : Int := (m.count : Int) - (stampNs (s, n) + (m.now - c.p.time) : Nat)
    let m1 := (m.applyOffset src offset).setTime fun u => { u with timeSet := true }
    let q := match m.time.quality with
      | .locked => if 2000 < offset.natAbs then Quality.syncing else .locked
      | .holdover => if src = 3 then .free else .holdover
      | q => q
    { acts := [.net], m := m1.setQuality q }

def timeSetSpec : CmdSpec :=
  { opcode := 0x0801, roles := .only [.maintainer, .integrator], size := (· == 12),
    fields := fun b => getN b 6 4 < 2 ^ 30 && getN b 10 2 == 0, body := timeSetBody }

/-- SCHEDULE_CANCEL (R358): the held packet of that SEQ and transport goes, unanswered. -/
def scheduleCancelBody (c : Cmd) (m : ModuleState) : Result :=
  let hit : Sched → Bool := fun x => x.packet.seq == getN c.data 0 4 && x.packet.transport.index == getN c.data 4 1
  if m.interp.scheduled.any hit then
    { m := { m with interp := { m.interp with
        scheduled := m.interp.scheduled.eraseIdx (m.interp.scheduled.findIdx hit) } } }
  else refuse m stNoSchedule

def scheduleCancelSpec : CmdSpec :=
  { opcode := 0x0803, roles := .only [.operator, .maintainer, .integrator], size := (· == 8),
    fields := fun b => getN b 4 1 < 5 && getN b 5 3 == 0, body := scheduleCancelBody }

/-- SCHEDULE_CANCEL (R358). -/
def execScheduleCancel (p : Packet) (s : State) : Host.Outcome State Fault Refusal :=
  .next (submit scheduleCancelSpec p s)

end Sys2Proof.Machine
end

