-- ==== Sys2Proof/Machine/Pair.lean ====
section
/-! DEFINITION. Pairs and clusters (chapter 16): the lease, taking and giving duty, fences, comparison and arbitration, mirror
epochs, the levee ports, and the commands of R492. The choices this file makes are in log entries 50 to 57. -/

namespace Sys2Proof.Machine

/-! ### Members and settings -/

/-- The module with its pair machine changed. -/
def ModuleState.setPair (m : ModuleState) (f : Pair → Pair) : ModuleState := { m with pair := f m.pair }
/-- The pair settings apply: MODE PAIR or CLUSTER4 (R461). -/
def ModuleState.paired (m : ModuleState) : Bool := m.configured && m.pairMode != 0
/-- The polder core runs and the levee link, whose clock is that of the network island, can carry messages (R18, R570). -/
def ModuleState.leveeRuns (m : ModuleState) : Bool := m.runs isPolder && m.runs isNetwork
/-- Offset of the pair settings entry (R529). -/
abbrev pairCfg : Nat := 3120
/-- LEASE_MS in ns. -/
def ModuleState.leaseSpan (m : ModuleState) : Nat := ms (m.cfg (pairCfg + 2) 2)
/-- The partner's member ID (R455). -/
def ModuleState.partnerId (m : ModuleState) : Nat := if m.pair.id % 2 = 0 then m.pair.id + 1 else m.pair.id - 1
/-- The preferred unit of the pair (R455). -/
def ModuleState.preferred (m : ModuleState) : Bool := (m.pair.id % 2 == 0) != bit (m.cfg (pairCfg + 1) 1) 0
/-- Ports whose neighbour is the partner (R458). -/
def ModuleState.facing (m : ModuleState) : List Nat := if m.pairMode = 1 then [1, 2] else if m.pair.id % 2 = 0 then [2] else [1]
/-- A levee port by number. -/
def Pair.port (x : Pair) (n : Nat) : LeveePort := if n = 1 then x.port1 else x.port2
/-- The pair machine with a port changed. -/
def Pair.setPort (x : Pair) (n : Nat) (f : LeveePort → LeveePort) : Pair :=
  if n = 1 then { x with port1 := f x.port1 } else { x with port2 := f x.port2 }
/-- FENCE_OK holds for a port facing the partner (R467). -/
def ModuleState.fenceOk (m : ModuleState) : Bool := m.facing.any fun n => (m.pair.port n).fenceOk
/-- Codes of Table 11. -/
def PairRole.code : PairRole → Nat
  | .single => 0 | .duty => 1 | .standby => 2 | .cold => 3 | .unfit => 4 | .lapsed => 5 | .searching => 6 | .solo => 7
/-- A role that holds duty. -/
def PairRole.holds (r : PairRole) : Bool := r == .duty || r == .solo

/-- SHARED axes of the module (R119). -/
def ModuleState.sharedAxes (m : ModuleState) : List Nat := axisNums.filter fun a => m.populated a && m.axisMode a != 0 && m.shared a
/-- Load channels and field outputs that are not SHARED_HOLD: exclusive ones (R461). -/
def ModuleState.exclusiveLs (m : ModuleState) (n : Nat) : Bool := m.loadMode n != 0 && !bit (m.loadFlags n) 2
def ModuleState.exclusiveFo (m : ModuleState) (n : Nat) : Bool := !bit (m.cfg (foCfg n + 1) 1) 1

/-- A safe moment of this module (R483). -/
def ModuleState.safeMoment (m : ModuleState) : Bool :=
  (m.enabledPortals.all fun p => ((m.portal p).door == .closedLocked || (m.portal p).door == .isolated) && (m.portal p).step == .stowed) &&
    m.sharedAxes.all m.still

/-! ### Sending -/

/-- A lease message (R466 Table 3). -/
def ModuleState.leaseBytes (m : ModuleState) (kind leaseNo : Nat) : List Byte :=
  leBytes 1 kind ++ leBytes 1 m.pair.role.code ++
    leBytes 1 (bitOf m.pair.discord 4 + bitOf m.safeMoment 3 + bitOf m.pair.fenced 2 + bitOf m.fenceOk 1 + bitOf m.reset.armed 0) ++ zeros 1 ++
    leBytes 4 leaseNo ++ leBytes 2 (m.cfg (pairCfg + 2) 2) ++ leBytes 2 m.compat ++ leBytes 4 m.pair.epoch ++ leBytes 32 m.configDigest ++
    stampBytes m.stamp ++ zeros 2

/-- A frame sent to a member on both ports (R457). -/
def ModuleState.sendLevee (m : ModuleState) (dest : Nat) (body : LeveeBody) : ModuleState :=
  m.setPair fun x => { x with
    out := x.out ++ [(0, { src := x.id, dest, seq := x.ownSeq, body })]
    ownSeq := (x.ownSeq + 1) % 2 ^ 32 }

/-- A lease message sent to the partner: HELLO 0, RENEW 1, ACK 2, CLAIM 3, RELINQUISH 4, LEAVE 5. -/
def ModuleState.sendLease (m : ModuleState) (kind leaseNo : Nat) : ModuleState :=
  m.sendLevee m.partnerId (.lease kind (m.leaseBytes kind leaseNo))

/-! ### Giving and taking what is exclusive -/

/-- The stop of R463: exclusive channels and outputs off with their demands kept, SHARED axes without drive. -/
def ModuleState.stopExclusive (m : ModuleState) : ModuleState :=
  let m1 := m.each (nums16.filter fun n => m.exclusiveLs n && (m.load n).on) fun m n => m.lsOff n
  let m2 := m1.each (nums16.filter m.exclusiveFo) fun m n => m.setFout n fun x => x.switchOff m.now
  m2.each m.sharedAxes fun m a => (m.setAxis a fun x => x.halt m.now).bridgeOff a

/-- Exclusive channels and outputs follow their demands again. -/
def ModuleState.driveExclusive (m : ModuleState) : ModuleState :=
  (m.each nums16 fun m n => m.lsFollow n).each nums16 fun m n => m.foFollow n

/-- A SHARED axis rebuilt (R481): commanded at the measured position, its angle derived from it, its speed the measured one while
that is VALID; its current returns over 2 ms. valid: the position was valid in the last epoch. -/
def ModuleState.rebuildAxis (m : ModuleState) (a : Nat) (valid : Bool) : ModuleState :=
  let m := m.acceptEdges a
  let pos := m.axisPos a
  let v : Int := if (m.fb a).speed == .valid then (m.fb a).repSpeed.floor else 0
  let m1 := (m.setAxis a fun x =>
      { x.halt m.now with cmdPos := pos, cmdSpeed := v, posValid := x.posValid && valid, queue := x.queue }).setDrive a fun d =>
    { d with angle := if m.stepper a then (pos % 1024).toNat else 0, reentryAt := some m.now }
  m1.energise a

/-- A portal rebuilt (R481 Table 6). -/
def ModuleState.rebuildPortal (m : ModuleState) (p : Nat) : ModuleState :=
  let q := m.portal p
  let again (m : ModuleState) : ModuleState := m.setPortal p fun q => { q with enteredAt := m.now }
  let m0 := match q.door with
    | .isolated | .emergencyOpen | .fault => m
    | st =>
      if m.disagree p || !m.doorValid p then m.takeField p 0
      else match st with
        | .unlocking =>
          if m.bothOpen p then (m.enter p .opening 0).moveOpen p else if m.bothClosed p then again (m.lock p true) else m
        | .opening => m.moveOpen p
        | .closingWarning => again m
        | .closing => m.moveClose p
        | .obstructed =>
          if q.reversalDoneAt.isSome then m.setPortal p fun q => { q with reversalDoneAt := some m.now } else m.reverse p (m.doorPos p)
        | .locking => again m
        | .homing => m.enterHoming p 0
        | _ => m
  match (m0.portal p).step with
  | .deploying => m0.moveStep p ((m0.portal p).stepAim.getD (m0.deployTo p))
  | .stowing => m0.moveStep p (m0.stowedPos p)
  | _ => m0

/-- A portal of a latched axis enters FAULT when a standby takes duty on expiry (R482). -/
def ModuleState.faultLatched (m : ModuleState) (p : Nat) : ModuleState :=
  let latched := fun a => (m.drive a).bridge == .latched
  let m1 := if ((m.stepAxis p).map latched).getD false then m.stepFault p else m
  if (m.portalAxes p).any latched && !(m.portal p).door.out then (m1.lock p false).enterFault p .axisFault 0 else m1

/-- Everything exclusive taken up by a unit that took duty without a handover (R467, R468, R481); expiry: a standby, whose last epoch
counts. -/
def ModuleState.takeUp (m : ModuleState) (expiry : Bool) : ModuleState :=
  let valid := fun a => !expiry || ((m.pair.current.axes.find? (·.axis == a)).map (·.posValid)).getD true
  let m1 := m.each m.sharedAxes fun m a => m.rebuildAxis a (valid a)
  let m2 := m1.each m1.enabledPortals fun m p => m.rebuildPortal p
  (if expiry then m2.each m2.enabledPortals fun m p => m.faultLatched p else m2).driveExclusive

/-- Duty taken (R464 to R470): role, cause of DUTY_TAKEN. A cycle that started before has its start at the first PORTAL_STATE from now on
(R433). -/
def ModuleState.takeDuty (m : ModuleState) (role : PairRole) (cause : Nat) : ModuleState :=
  let n := m.pair.takeovers
  let m0 := if m.isStandby && m.pair.id < 2 then m.loseSource else m
  let m1 := m0.setPair fun x => { x with
    role, dutyAt := m.now, lostDuty := false, planned := none, standbySince := none, claimed := false, fitSince := none, fullSeen := false,
    leaseView := none, arb := none, mismatches := [], takeovers := if cause = 1 then sat max16 n else n }
  let m2 := m1.each portalNums fun m p => m.setPortal p fun q => q.newCycle { minVdrv := m.warden.vdrv }
  (m2.log evDutyTaken tgModule [(cause : Int)]).logIf (cause == 1 && n + 1 == max16) evCounterSaturated tgModule [0, 0x0D00, 20]

/-- The fence asserted on the ports that face the partner and read back well (R458, R467). -/
def ModuleState.assertFence (m : ModuleState) : ModuleState :=
  m.each (m.facing.filter fun n => (m.pair.port n).fenceOk) fun m n =>
    (m.setPair fun x => x.setPort n fun q => { q with fenceOut := some m.now }).log evFence tgModule [0, (n : Int)]

/-- PARTNER_CHANGED when the partner is lost. -/
def ModuleState.partnerLost (m : ModuleState) : ModuleState :=
  ({ m with
    loads := updAll m.loads fun x => { x with partnerOn := false }
    field := { m.field with outputs := updAll m.field.outputs fun x => { x with partnerOn := false } } }.setPair fun x => { x with partner := none }).logIf m.pair.partner.isSome evPartnerChanged tgModule
    [0, (((m.pair.partner.map PairRole.code).getD 0xFF : Nat) : Int)]

/-- The mirrored items now (R478 Table 5), under a number. -/
def ModuleState.epochOf (m : ModuleState) (num : Nat) : Epoch :=
  { num
    doors := m.portals.map fun q =>
      { door := q.door, step := q.step, stepAim := q.stepAim, wasDeployed := q.wasDeployed, age := m.now - q.enteredAt, autoAge := q.autoCloseAt.map (m.now - ·), revAge := q.reversalDoneAt.map (m.now - ·),
        reduced := q.reduced, openPending := q.openPending, recloses := q.recloseCount, doorCycles := q.doorCycles, stepCycles := q.stepCycles }
    axes := m.sharedAxes.map fun a =>
      { axis := a, cmdPos := (m.axis a).cmdPos, speed := (m.axis a).cmdSpeed, accel := (m.axis a).cmdAccel, angle := (m.drive a).angle,
        queue := (m.axis a).queue, posValid := (m.axis a).posValid }
    lsDemand := maskOf fun n => (m.load n).demand
    foDemand := maskOf fun n => (m.fout n).demand
    pg := m.loadCommon.pg
    maps := m.obst.map (·.work)
    slot := m.profiles.active
    schedule := m.profiles.schedule.map fun x => { x with heldSince := x.heldSince.map (m.now - ·) }
    selected := m.profiles.selected
    classes := (m.profiles.classL, m.profiles.classR)
    piSeq := (m.can.map (·.piSeq)) ++ [m.eth.dsSeq, m.eth.pdSeq]
    fresh := m.sec.fresh }

/-- A planned transfer (R465, R476): the stop, RELINQUISH with the handover state, which is that before the stop, DUTY_RELEASED with
its cause. -/
def ModuleState.handOver (m : ModuleState) (cause : Nat) (role : PairRole) : ModuleState :=
  let m1 := (m.stopExclusive.sendLease 4 m.pair.leaseNo).setPair fun x => { x with
    role, dutyAt := m.now, planned := none, leaseEnd := none, renews := [], checkAt := none, soloAt := none, arb := none, mismatches := []
    standbySince := if role == .standby then some m.now else none
    lastSent := m.epochOf m.pair.epoch, epochAt := m.now, fullSeen := false, fitSince := none, wantFull := true
    lostDuty := x.lostDuty || cause == 6 }
  m1.log evDutyReleased tgModule [(cause : Int)]

/-! ### Hearing the partner -/

/-- What the digests and classes of a lease message say (R486): CONFIG 0, VERSION 1. -/
def ModuleState.discordKind (m : ModuleState) (msg : LeaseMsg) : Option Nat :=
  if msg.digest ≠ m.configDigest then some 0 else if msg.compat ≠ m.compat then some 1 else none

/-- Role of a unit that becomes discordant (R486). -/
def PairRole.discordant : PairRole → PairRole
  | .duty => .solo
  | .standby | .unfit => .cold
  | r => r

/-- A lease message of the partner heard (R466, R470, R486). -/
def ModuleState.hear (m : ModuleState) (msg : LeaseMsg) : ModuleState :=
  let kind := m.discordKind msg
  let new : Bool := kind.isSome && m.pair.discordant.isNone
  let m1 := m.setPair fun x => { x with
    partner := some msg.role, heardAt := some m.now
    heardSince := if x.heardSince.isNone || m.dueO x.heardAt (ms 25) then some m.now else x.heardSince
    members := upd x.members m.partnerId fun _ => some m.now
    partnerCompat := msg.compat, partnerSafe := msg.safe, fenced := false, soloAllowed := false
    discordant := if kind.isSome then kind else x.discordant
    matchSince := if kind.isSome then none else some (x.matchSince.getD m.now)
    role := if new then x.role.discordant else x.role }
  (m1.logIf m.pair.partner.isNone evPartnerChanged tgModule [1, (msg.role.code : Int)]).logIf new evPairDiscordant tgModule
    [((kind.getD 0 : Nat) : Int)]

/-- A unit that finds the partner on duty (R470, R480, R486). -/
def ModuleState.follow (m : ModuleState) : ModuleState :=
  if m.pair.role == .searching || m.pair.role == .lapsed then
    m.setPair fun x => { x with
      role := if x.discordant.isSome then .cold else .unfit, lostDuty := x.lostDuty || x.role == .lapsed, wantFull := true, fullSeen := false,
      fitSince := none, claimed := false, soloAt := none, leaseEnd := none, renews := [] }
  else m

/-! ### The lease -/

/-- LEASE_RENEW_SEND (R462): by a unit that holds duty, one that has lapsed, and the preferred unit after its CLAIM. -/
def execLeaseRenewSend (t : Nat) (s : State) : Host.Outcome State Fault Refusal :=
  happen true t (fun m =>
    let x := m.pair
    let span := if m.cfg (pairCfg + 2) 2 < 20 then m.leaseSpan / 4 else ms 5
    if m.paired && m.leveeRuns && (x.role.holds || x.role == .lapsed || (x.role == .searching && x.claimed)) && m.due x.sentAt span then
      let n := (x.leaseNo + 1) % 2 ^ 32
      (m.setPair fun x => { x with leaseNo := n, sentAt := m.now, renews := x.renews ++ [(n, m.now)] }).sendLease 1 n
    else m) s

/-- LEASE_RENEW_RECEIVED (R462, R464, R470): acknowledged at once by a unit that does not hold duty. -/
def execLeaseRenewReceived (t : Nat) (msg : LeaseMsg) (s : State) : Host.Outcome State Fault Refusal :=
  happen true t (fun m =>
    if !m.paired || !m.leveeRuns then m
    else
      let m1 := m.hear msg
      if m1.pair.role.holds then m1
      else
        let m2 := m1.follow
        (m2.setPair fun x => { x with leaseNo := msg.leaseNo, leaseView := some (m.now + m.leaseSpan) }).sendLease 2 msg.leaseNo) s

/-- LEASE_ACK_RECEIVED (R463, R470): the lease end moves to the acknowledged RENEW plus LEASE_MS; a lapsed holder acts again, a
claim is won, and a SOLO unit has a partner again. -/
def execLeaseAckReceived (t : Nat) (msg : LeaseMsg) (s : State) : Host.Outcome State Fault Refusal :=
  happen true t (fun m =>
    if !m.paired || !m.leveeRuns then m
    else
      let m1 := m.hear msg
      match m1.pair.renews.find? (·.1 == msg.leaseNo) with
      | none => m1
      | some (_, sent) =>
        let m2 := m1.setPair fun x => { x with
          leaseEnd := some (sent + m.leaseSpan), renews := x.renews.filter fun r => sent < r.2 }
        if m.now + ms 2 ≥ sent + m.leaseSpan then m2
        else match m2.pair.role with
          | .lapsed => (m2.setPair fun x => { x with role := .duty, soloAt := none }).takeUp false
          | .solo => if m2.pair.discordant.isNone then m2.setPair fun x => { x with role := .duty } else m2
          | .searching => if m2.pair.claimed then (m2.takeDuty .duty 0).takeUp false else m2
          | _ => m2) s

/-- HELLO_SEND (R470): every 5 ms while SEARCHING. -/
def execHelloSend (t : Nat) (s : State) : Host.Outcome State Fault Refusal :=
  happen true t (fun m =>
    if m.paired && m.leveeRuns && m.pair.role == .searching && m.due m.pair.sentAt (ms 5) then
      (m.setPair fun x => { x with sentAt := m.now }).sendLease 0 m.pair.leaseNo
    else m) s

/-- HELLO_RECEIVED (R470): the preferred one of two armed units that search sends CLAIM. -/
def execHelloReceived (t : Nat) (msg : LeaseMsg) (s : State) : Host.Outcome State Fault Refusal :=
  happen true t (fun m =>
    if !m.paired || !m.leveeRuns then m
    else
      let m1 := m.hear msg
      if m1.pair.role == .searching && msg.role.holds then m1.follow
      else if m1.pair.role == .searching && msg.role == .searching && msg.armed && m1.preferred && !m1.pair.claimed then
        (m1.setPair fun x => { x with claimed := true }).sendLease 3 m1.pair.leaseNo
      else m1) s

/-- CLAIM_RECEIVED (R470). -/
def execClaimReceived (t : Nat) (msg : LeaseMsg) (s : State) : Host.Outcome State Fault Refusal :=
  happen true t (fun m =>
    if !m.paired || !m.leveeRuns then m
    else
      let m1 := m.hear msg
      if m1.pair.role == .searching then m1.follow.sendLease 2 msg.leaseNo else m1) s

/-- The handed-over trajectory of one axis (R476). -/
def ModuleState.takeAxis (m : ModuleState) (e : EpochAxis) : ModuleState :=
  let m1 := (m.setAxis e.axis fun x =>
      { x.halt m.now with cmdPos := e.cmdPos, cmdSpeed := e.speed, cmdAccel := e.accel, queue := e.queue, posValid := e.posValid && !x.lost }).setDrive
      e.axis fun d => { d with angle := e.angle }
  (m1.energise e.axis).start e.axis

/-- A portal as an epoch has it (R478). -/
def Portal.mirrored (q : Portal) (now : Nat) (e : EpochDoor) : Portal :=
  { q with door := e.door, step := e.step, stepAim := e.stepAim, wasDeployed := e.wasDeployed, enteredAt := now - e.age, autoCloseAt := e.autoAge.map (now - ·), reversalDoneAt := e.revAge.map (now - ·),
           leftWindow := q.leftWindow && e.door != .closedLocked, reduced := e.reduced, openPending := e.openPending, recloseCount := e.recloses, doorCycles := e.doorCycles, stepCycles := e.stepCycles }

/-- Demands as an epoch has them (R475): a SHARED_HOLD channel or output applies them, an exclusive one keeps them. -/
def ModuleState.mirrorDemands (m : ModuleState) (e : Epoch) : ModuleState :=
  let m1 := m.each (nums16.filter fun n => (m.load n).demand != bit e.lsDemand (n - 1)) fun m n => m.lsDemand n (bit e.lsDemand (n - 1))
  m1.each (nums16.filter fun n => (m.fout n).demand != bit e.foDemand (n - 1)) fun m n => m.foDemand n (bit e.foDemand (n - 1))

/-- The force maps of a portal as an epoch has them (R196, R479), stored by the recorder, or as soon as it runs. -/
def Obstacle.mirrored (o : Obstacle) (recorder : Bool) (e : Epoch) (k : Nat) : Obstacle :=
  match e.maps[k]? with
  | some r => if o.work = r then o else if recorder then { o with work := r, half0 := r, half1 := r } else { o with work := r, mapDue := true }
  | none => o

/-- A cycle counted since the last HOMING (R191), as the mirrored states and counters show it. -/
def Obstacle.cycled (o : Obstacle) (old : Portal) (d : Option EpochDoor) : Obstacle :=
  match d with
  | some d => { o with closeSums := [], cycleSinceHoming := d.door != .homing && (o.cycleSinceHoming || d.doorCycles != old.doorCycles) }
  | none => o

/-- The mirrored items of an epoch put into the state (R478 Table 5); the own reservations cover each freshness value plus 1 024 (R515), and no
counter goes back behind a value already sent (R384). -/
def ModuleState.takeItems (m : ModuleState) (e : Epoch) : ModuleState :=
  let m1 := m.mirrorDemands e
  { m1 with
    portals := (m1.portals.zip (List.range 4)).map fun (x : Portal × Nat) => match e.doors[x.2]? with
      | some d => x.1.mirrored m.now d
      | none => x.1
    obst := (((m1.obst.zip (List.range 4)).map fun (x : Obstacle × Nat) => x.1.mirrored (m1.runs isRecorder) e x.2).zip (List.range 4)).map
      fun (x : Obstacle × Nat) => x.1.cycled (m.portals.getD x.2 {}) (e.doors[x.2]?)
    loadCommon := { m1.loadCommon with pg := if e.pg.isEmpty then m1.loadCommon.pg else e.pg }
    profiles := { m1.profiles with
      active := e.slot, schedule := e.schedule.map (fun x => { x with heldSince := x.heldSince.map (m.now - ·) }), selected := e.selected, classL := e.classes.1, classR := e.classes.2 }
    can := (m1.can.zip (List.range 2)).map fun (x : Can × Nat) => { x.1 with piSeq := e.piSeq.getD x.2 x.1.piSeq }
    eth := { m1.eth with dsSeq := e.piSeq.getD 2 m1.eth.dsSeq, pdSeq := e.piSeq.getD 3 m1.eth.pdSeq }
    sec := if e.fresh.isEmpty then m1.sec else { m1.sec with
      fresh := (m1.sec.fresh.zip e.fresh).map fun (x : Nat × Nat) => max x.1 x.2
      dutyFresh := e.fresh
      freshRes := (m1.sec.freshRes.zip e.fresh).map fun (x : Nat × Nat) => max x.1 (min max32 (x.2 + 1024)) } }

/-- PORTAL_STATE for each door and step state of a portal that the mirrored items changed (R74): no row of Table 4, so the row is 0
(log entry 124). -/
def ModuleState.logMirrored (m : ModuleState) (p : Nat) (old : Portal) : ModuleState :=
  let q := m.portal p
  (m.logIf (q.door != old.door) evPortalState (tgPortal p) [(p : Int), 0, (old.door.code : Int), (q.door.code : Int), 0]).logIf (q.step != old.step)
    evPortalState (tgPortal p) [(p : Int), 1, (old.step.code : Int), (q.step.code : Int), 0]

/-- The mirrored items of an epoch but the axes (R478 Table 5): state changes are logged (R74), and the safety islands receive RELEASE_MODE
and the sides when the active slot changes (R65). -/
def ModuleState.mirror (m : ModuleState) (e : Epoch) : ModuleState :=
  let m1 := m.takeItems e
  let m2 := m1.each m1.enabledPortals fun m1 p => m1.logMirrored p (m.portal p)
  if m2.slot = m.slot then m2 else (m2.deliverRing 0).deliverRing 1

/-- The commanded state of an axis as an epoch has it, its bridge without drive. A position that the own counting has lost stays not valid
until the holder of duty has set its position anew (R166, R481); the own counting takes up the position of the holder as it becomes valid
(log entry 174). -/
def ModuleState.mirrorAxis (m : ModuleState) (e : EpochAxis) : ModuleState :=
  let x := m.axis e.axis
  let valid := e.posValid && !x.lost
  let m1 := if valid && !x.posValid && m.hasFb e.axis then (m.acceptEdges e.axis).setOffset e.axis e.cmdPos else m
  (m1.setAxis e.axis fun x => { x with
      cmdPos := e.cmdPos, cmdSpeed := e.speed, cmdAccel := e.accel, queue := e.queue, posValid := valid, lost := x.lost && e.posValid }).setDrive
    e.axis fun d => { d with angle := e.angle }

/-- The SHARED axes of an epoch. -/
def ModuleState.epochAxes (m : ModuleState) (e : Epoch) : List EpochAxis := e.axes.filter fun x => m.sharedAxes.contains x.axis

/-- RELINQUISH_RECEIVED (R465, R476): a standby takes duty at once with the handover state; cause: that of DUTY_TAKEN. A standby
whose test failed takes none (R482). -/
def execRelinquishReceived (t : Nat) (msg : LeaseMsg) (cause : Nat) (st : Epoch) (s : State) : Host.Outcome State Fault Refusal :=
  happen true t (fun m =>
    if !m.paired || !m.leveeRuns then m
    else
      let m1 := m.hear msg
      if m1.pair.role == .standby && m1.reset.armed && !m1.pair.testFailed then
        let m2 := (m1.mirror st).takeDuty .duty cause
        let m3 := m2.each (m2.epochAxes st) fun m e => m.takeAxis e
        m3.driveExclusive.setPair fun x => { x with checkAt := some m.now }
      else m1) s

/-- LEAVE_RECEIVED (R469): a holder goes on as SOLO. -/
def execLeaveReceived (t : Nat) (msg : LeaseMsg) (s : State) : Host.Outcome State Fault Refusal :=
  happen true t (fun m =>
    if !m.paired || !m.leveeRuns then m
    else
      let m1 := m.hear msg
      if m1.pair.role == .duty then (m1.setPair fun x => { x with role := .solo, leaseEnd := none, renews := [], planned := none }).partnerLost
      else m1.partnerLost) s

/-- LEASE_LAPSE (R463, R467): 2 ms before its lease end the holder stops, and fences the partner when FENCE_OK holds. -/
def execLeaseLapse (t : Nat) (s : State) : Host.Outcome State Fault Refusal :=
  happen true t (fun m =>
    match m.pair.leaseEnd with
    | some e =>
      if m.paired && m.pair.role == .duty && e ≤ m.now + ms 2 then
        let ok := m.fenceOk
        let m1 := ((m.stopExclusive.setPair fun x => { x with
          role := .lapsed, leaseEnd := none, planned := none, soloAt := if ok then some m.now else none, arb := none }).log evDutyLapsed tgModule
          [(m.pair.leaseNo : Int), flagItem ok]).partnerLost
        m1.assertFence
      else m
    | none => m) s

/-- FENCE_SOLO_DELAY (R467): 1 ms after it asserted the fence a lapsed holder acts again as SOLO. -/
def execFenceSoloDelay (t : Nat) (s : State) : Host.Outcome State Fault Refusal :=
  happen true t (fun m =>
    if m.pair.role == .lapsed && m.dueO m.pair.soloAt (ms 1) then
      ((m.setPair fun x => { x with soloAt := none }).takeDuty .solo 7).takeUp false
    else m) s

/-- LEASE_EXPIRY_TAKEOVER (R464, R468, R477, R481). -/
def execLeaseExpiryTakeover (t : Nat) (s : State) : Host.Outcome State Fault Refusal :=
  happen true t (fun m =>
    if m.paired && m.runs isPolder && m.pair.role == .standby && m.reset.armed && m.fenceOk && m.dueO m.pair.leaseView (ms 2) then
      let m1 := (m.assertFence.takeDuty .duty 1).partnerLost
      let m2 := { m1 with
        can := updAll m1.can fun x => { x with piSeq := (x.piSeq + 256) % 65536 }
        eth := { m1.eth with dsSeq := (m1.eth.dsSeq + 256) % 65536, pdSeq := (m1.eth.pdSeq + 256) % 2 ^ 32 }
        sec := { m1.sec with fresh := m1.sec.fresh.map fun v => min max32 (v + 1024)
                             freshRes := (m1.sec.freshRes.zip m1.sec.fresh).map fun (x : Nat × Nat) => max x.1 (min max32 (x.2 + 2048)) } }
      m2.takeUp true
    else m) s

/-- SEARCH_SILENCE_TIMEOUT (R470): 100 ms of silence in the preferred unit, 200 ms in the other. -/
def execSearchSilenceTimeout (t : Nat) (s : State) : Host.Outcome State Fault Refusal :=
  happen true t (fun m =>
    let since := max m.pair.searchAt (m.pair.heardAt.getD 0)
    if m.paired && m.runs isPolder && m.pair.role == .searching && m.reset.armed && m.fenceOk && m.due since (ms (if m.preferred then 100 else 200)) &&
        (!m.pair.fenced || m.pair.soloAllowed) then
      (m.assertFence.takeDuty .solo 7).partnerLost.takeUp false
    else m) s

/-! ### Fence outputs -/

/-- FENCE_OUTPUT_END (R458): a fence is asserted for 100 ms. -/
def execFenceOutputEnd (t link : Nat) (s : State) : Host.Outcome State Fault Refusal :=
  happen (1 ≤ link && link ≤ 2) t (fun m =>
    if m.dueO (m.pair.port link).fenceOut (ms 100) then m.setPair fun x => x.setPort link fun q => { q with fenceOut := none } else m) s

/-- FENCE_WIRE_FAULT (R458): an idle loop carries less than 1 mA. -/
def execFenceWireFault (t link : Nat) (s : State) : Host.Outcome State Fault Refusal :=
  happen (1 ≤ link && link ≤ 2) t (fun m =>
    if (m.pair.port link).fenceOk && (m.pair.port link).fenceOut.isNone then
      (m.setPair fun x => x.setPort link fun q => { q with fenceOk := false }).log evFence tgModule [2, (link : Int)]
    else m) s

/-! ### Comparison and arbitration -/

/-- The line of a load channel is read as high (R261, R471). -/
def ModuleState.lineHigh (m : ModuleState) (n : Nat) : Bool := (m.load n).on || (m.load n).expectedHigh || (m.load n).highOff

/-- The line of a field output is read as high (R290, R471). -/
def ModuleState.foLineHigh (m : ModuleState) (n : Nat) : Bool := (m.fout n).on || (m.fout n).expectedHigh || (m.fout n).highOff

/-- The module's own comparison vector (R471 Table 4). -/
def ModuleState.vector (m : ModuleState) : CompareVector :=
  { doors := m.portals.map fun q => (q.door, q.step)
    axes := m.sharedAxes.map fun a => (a, (m.axis a).cmdPos, m.lastEnd a, (m.axis a).queue.length)
    lsDemand := maskOf fun n => (m.load n).demand
    foDemand := maskOf fun n => (m.fout n).demand
    lines := maskOf m.lineHigh
    published := maskOf fun n => (m.load n).on
    foLines := maskOf m.foLineHigh
    foPublished := maskOf fun n => (m.fout n).on
    safety := [m.ring.a, m.ring.b].map fun x => (x.own.closeOk, x.grantL, x.grantR) }

/-- Items of Table 4 that do not match, in its order, each with its portal, axis, channel or island: the own vector, the
partner's, and whether the module holds duty. -/
def ModuleState.mismatching (m : ModuleState) (own v : CompareVector) : List (Nat × Nat) :=
  let window := m.cfg (pairCfg + 8) 4
  let duty := if m.pair.role.holds then own else v
  let other := if m.pair.role.holds then v else own
  let of := fun (a : Nat) => v.axes.find? (·.1 == a)
  let n16 := fun (x : Nat) (p : Nat → Bool) => (nums16.filter p).map fun n => (x, n)
  ((m.enabledPortals.filter fun p => own.doors[p - 1]? != v.doors[p - 1]?).map fun p => (0, p)) ++
    ((own.axes.filter fun x => match of x.1 with
      | some y => window < (x.2.1 - y.2.1).natAbs
      | none => true).map fun x => (1, x.1)) ++
    ((own.axes.filter fun x => match of x.1 with
      | some y => x.2.2 != y.2.2
      | none => false).map fun x => (2, x.1)) ++
    n16 3 (fun n => bit own.lsDemand (n - 1) != bit v.lsDemand (n - 1)) ++
    ((nums16.filter fun n => bit own.foDemand (n - 1) != bit v.foDemand (n - 1)).map fun n => (3, 64 + n)) ++
    n16 4 (fun n => m.exclusiveLs n && bit other.lines (n - 1) != bit duty.published (n - 1)) ++
    ((nums16.filter fun n => m.exclusiveFo n && bit other.foLines (n - 1) != bit duty.foPublished (n - 1)).map fun n => (4, 64 + n)) ++
    ((List.range 2).filter (fun i => own.safety[i]? != v.safety[i]?)).map fun i => (5, i)

/-- The unit disagrees with the witness of an item (R472): its encoder, or, for the unit on duty, the line read low by both. -/
def ModuleState.witness (m : ModuleState) (own v : CompareVector) (item idx : Nat) : Bool :=
  let off := fun (a : Nat) => decide (m.cfg (pairCfg + 8) 4 < ((m.axis a).cmdPos - m.measured a).natAbs)
  match item with
  | 0 => (m.portalAxes idx).any off
  | 1 | 2 => off idx
  | 3 | 4 =>
    m.pair.role.holds &&
      if idx ≤ 16 then m.exclusiveLs idx && bit own.published (idx - 1) && !bit own.lines (idx - 1) && !bit v.lines (idx - 1)
      else m.exclusiveFo (idx - 64) && bit own.foPublished (idx - 65) && !bit own.foLines (idx - 65) && !bit v.foLines (idx - 65)
  | _ => false

/-- The outcome of arbitration (R473): verdict DUTY_YIELDS 0, STANDBY_YIELDS 1, NONE 2. -/
def ModuleState.arbitrate (m : ModuleState) (own partner : Bool) (item : Nat) : ModuleState :=
  let holder := m.pair.role.holds
  let verdict := if own = partner then 2 else if own = holder then 0 else 1
  let m1 := (m.setPair fun x => { x with arb := none, mismatches := [] }).log evArbitration tgModule [(verdict : Int), (item : Int)]
  if verdict = 2 then (m1.setPair fun x => { x with discord := true, mismatchAt := m.now }).logIf (!m.pair.discord) evDiscord tgModule [0]
  else if verdict = 0 && holder then m1.handOver 6 .unfit
  else if verdict = 1 && !holder then
    m1.setPair fun x => { x with role := .unfit, wantFull := true, fullSeen := false, fitSince := none, standbySince := none }
  else m1

/-- The partner's published channel and output states taken in (R261, R290). -/
def ModuleState.hearPublished (m : ModuleState) (v : CompareVector) : ModuleState :=
  { m with
    loads := (m.loads.zip (List.range 16)).map fun (l : Load × Nat) => { l.1 with partnerOn := bit v.published l.2 }
    field := { m.field with
      outputs := (m.field.outputs.zip (List.range 16)).map fun (o : FieldOut × Nat) => { o.1 with partnerOn := bit v.foPublished o.2 } } }

/-- Consecutive mismatches of the items that do not match now (R472). -/
def countRuns (old : List ((Nat × Nat) × Nat)) (bad : List (Nat × Nat)) : List ((Nat × Nat) × Nat) :=
  bad.map fun k => (k, min 50 (((old.find? (·.1 == k)).map (·.2)).getD 0 + 1))

/-- The unit disagrees with the witness of an item after the five comparisons (R472): its encoder in at least three, or its line (log
entry 151). -/
def disagrees (x : (Nat × Nat) × Nat) : Bool := if x.1.1 ≤ 2 then decide (3 ≤ x.2) else decide (1 ≤ x.2)

/-- The portal-tick number: milliseconds of module time, which the members share (R459, R471; log entry 149). -/
def ModuleState.tickNo (m : ModuleState) : Nat := (stampNs m.stamp / 1000000) % 2 ^ 32

/-- Each member of a pair sends its vector of a portal tick and keeps it (R471). -/
def ModuleState.sendVector (m : ModuleState) : ModuleState :=
  if !m.paired || !m.leveeRuns then m
  else
    let n := m.tickNo
    let l := m.pair.vectors.filter (·.1 != n) ++ [(n, { m.vector with tick := n })]
    (m.setPair fun x => { x with vectors := l.drop (l.length - 8) }).sendLevee m.partnerId (.vector n)

/-- The own vector of a tick (R471). -/
def ModuleState.ownVector (m : ModuleState) (tick : Nat) : Option CompareVector := (m.pair.vectors.find? (·.1 == tick)).map (·.2)

/-- The partner's vector compared with the own one of its tick (R471): the items that do not match, and whether all do. -/
def ModuleState.compared (m : ModuleState) (bad : List (Nat × Nat)) : ModuleState :=
  m.setPair fun x =>
    { x with
      mismatches := countRuns x.mismatches bad
      mismatchAt := if bad.isEmpty then x.mismatchAt else m.now
      fitSince := if bad.isEmpty then some (x.fitSince.getD m.now) else none
      fitLast := if bad.isEmpty then m.now else x.fitLast }

/-- COMPARE_MISMATCH of each item that has mismatched in COMPARE_N consecutive comparisons, and the arbitration over them (R472): a standby and
its duty unit arbitrate. -/
def ModuleState.arbitrateOver (m : ModuleState) (items : List ((Nat × Nat) × Nat)) : ModuleState :=
  if items.isEmpty || !(m.pair.role == .standby || (m.pair.role == .duty && m.pair.partner == some .standby)) then m
  else
    let n := m.pair.arbitrations
    let m1 := m.setPair fun x => { x with arb := some (5, items.map fun i => (i.1, 0)), arbitrations := sat max16 n }
    (m1.each items fun m i => m.log evCompareMismatch tgModule [(i.1.1 : Int), (i.1.2 : Int)]).saturated max16 n tgModule 0x0D00 22

/-- COMPARISON_VECTOR_RECEIVED (R261, R471, R472): the partner's published states, and its vector compared with the own one of that tick by a unit
that compares; with it come the partner's verdict in an arbitration and whether a test of R482 has failed there. -/
def execComparisonVectorReceived (t : Nat) (v : CompareVector) (partnerDisagrees testFailed : Bool) (s : State) :
    Host.Outcome State Fault Refusal :=
  happen true t (fun m =>
    let x := m.pair
    if !m.paired || !m.leveeRuns then m
    else if !(x.role == .duty || x.role == .standby || x.role == .unfit) then m.hearPublished v
    else
      let m0 := (m.hearPublished v).setPair fun x => { x with partnerTestFailed := testFailed }
      match m0.ownVector v.tick with
      | none => m0
      | some own =>
        let m1 := m0.compared (m.mismatching own v)
        match x.arb with
        | some (left, items) =>
          let judged := items.map fun i => (i.1, if m.witness own v i.1.1 i.1.2 then i.2 + 1 else i.2)
          if left ≤ 1 then m1.arbitrate (judged.any disagrees) partnerDisagrees ((judged.head?.map (·.1.1)).getD 0)
          else m1.setPair fun x => { x with arb := some (left - 1, judged) }
        | none => m1.arbitrateOver (m1.pair.mismatches.filter (·.2 == m.cfg (pairCfg + 4) 1))) s

/-- PORTAL_TICK (R49, R66, R471): every 1 ms. A profile change takes effect at the tick that finds the module at rest, before the portals are
evaluated (Table 20). -/
def execPortalTick (t : Nat) (s : State) : Host.Outcome State Fault Refusal :=
  happen true t (fun m =>
    if m.runs isPolder && m.reset.phase == .ready then
      let m1 := m.acceptAll.applyProfile
      (m1.each m1.enabledPortals fun m p => m.tickPortal p).answerTrains.sendVector
    else m) s

/-- DISCORD_TIMEOUT (R473): 10 s without a mismatch. -/
def execDiscordTimeout (t : Nat) (s : State) : Host.Outcome State Fault Refusal :=
  happen true t (fun m =>
    if m.pair.discord && m.due m.pair.mismatchAt (seconds 10) then (m.setPair fun x => { x with discord := false }).log evDiscord tgModule [1]
    else m) s

/-! ### Mirroring -/

/-- An epoch some time later in which nothing has changed: its timers have run on. -/
def Epoch.aged (e : Epoch) (d : Nat) : Epoch :=
  { e with
    doors := e.doors.map fun x => { x with age := x.age + d, autoAge := x.autoAge.map (· + d), revAge := x.revAge.map (· + d) }
    schedule := e.schedule.map fun x => { x with heldSince := x.heldSince.map (· + d) } }

/-- MIRROR_EPOCH_CLOSE (R479): every 1 ms when an item has changed, and a full epoch every 1 s or when one is wanted. -/
def execMirrorEpochClose (t : Nat) (wanted : Bool) (s : State) : Host.Outcome State Fault Refusal :=
  happen true t (fun m =>
    let x := m.pair
    let full : Bool := wanted || m.due x.fullAt (seconds 1)
    let n := (x.epoch + 1) % 2 ^ 32
    let e := m.epochOf n
    if m.paired && m.leveeRuns && x.role.holds && x.discordant.isNone && m.due x.epochAt (ms 1) &&
        (full || decide ({ e with num := x.lastSent.num } ≠ x.lastSent.aged (m.now - x.epochAt))) then
      (m.setPair fun x => { x with epoch := n, lastSent := e, epochAt := m.now, fullAt := if full then m.now else x.fullAt }).sendLevee
        m.partnerId (.commit n)
    else m) s

/-- A partial epoch discarded (R479): NO_COMMIT 0, CRC 1, GAP 2. -/
def ModuleState.discardEpoch (m : ModuleState) (num cause : Nat) : ModuleState :=
  (m.setPair fun x => { x with partialAt := none, wantFull := true }).log evEpochDiscarded tgModule [(num : Int), (cause : Int)]

/-- EPOCH_COMMIT_RECEIVED (R479): the collected items of an epoch, a full one or one that follows the last committed number, are
made current and applied. -/
def execEpochCommitReceived (t : Nat) (e : Epoch) (full crcOk : Bool) (s : State) : Host.Outcome State Fault Refusal :=
  happen true t (fun m =>
    let x := m.pair
    if !m.paired || !m.leveeRuns || !(x.role == .standby || x.role == .unfit) then m
    else if !crcOk then m.discardEpoch e.num 1
    else if !full && e.num != (x.epoch + 1) % 2 ^ 32 then m.discardEpoch e.num 2
    else
      let m1 := (m.setPair fun x =>
        { x with current := e, epoch := e.num, partialAt := none, wantFull := x.wantFull && !full, fullSeen := x.fullSeen || full }).mirror e
      m1.each (m1.epochAxes e) fun m a => m.mirrorAxis a) s

/-- EPOCH_COMMIT_TIMEOUT (R479): no valid commit within 2 ms of an epoch's first frame. -/
def execEpochCommitTimeout (t : Nat) (s : State) : Host.Outcome State Fault Refusal :=
  happen true t (fun m => if m.dueO m.pair.partialAt (ms 2) then m.discardEpoch ((m.pair.epoch + 1) % 2 ^ 32) 0 else m) s

/-- STANDBY_FIT (R480): a full epoch has committed and comparisons have matched for 10 s. -/
def execStandbyFit (t : Nat) (s : State) : Host.Outcome State Fault Refusal :=
  happen true t (fun m =>
    if m.pair.role == .unfit && m.pair.fullSeen && (m.pair.fitSince.any fun f => f + seconds 10 ≤ m.pair.fitLast) && m.reset.armed then
      m.setPair fun x => { x with role := .standby, standbySince := some m.now }
    else m) s

/-! ### Planned transfers -/

/-- The partner takes a planned transfer (R465, R482, R486). -/
def ModuleState.partnerFit (m : ModuleState) : Bool := m.pair.partner == some .standby && !m.pair.partnerTestFailed && m.pair.discordant.isNone

/-- PLANNED_TRANSFER (R465, R483): a waiting transfer is done at a safe moment of both members, or at once; asked: the partner
reverts (R485). Rotation and revert wait while DISCORD is set (R473). -/
def execPlannedTransfer (t : Nat) (asked : Bool) (s : State) : Host.Outcome State Fault Refusal :=
  happen true t (fun m =>
    match m.pair.planned.or (if asked && !m.pair.discord then some (4, true) else none) with
    | some (cause, waits) =>
      if m.paired && m.leveeRuns && m.pair.role == .duty && m.partnerFit && !(m.pair.discord && (cause == 3 || cause == 4)) && (!waits || (m.safeMoment && m.pair.partnerSafe)) then
        m.handOver cause .standby
      else m
    | none => m) s

/-- ROTATE_DUE (R484). -/
def execRotateDue (t : Nat) (s : State) : Host.Outcome State Fault Refusal :=
  happen true t (fun m =>
    if m.paired && m.runs isPolder && m.pair.role == .duty && bit (m.cfg (pairCfg + 1) 1) 2 && m.due m.pair.dutyAt (seconds (3600 * m.cfg (pairCfg + 6) 2)) &&
        !m.pair.discord && m.partnerFit && m.pair.planned.isNone then
      m.setPair fun x => { x with planned := some (3, true) }
    else m) s

/-- REVERT_DUE (R485): the preferred unit asks for duty back. -/
def execRevertDue (t : Nat) (s : State) : Host.Outcome State Fault Refusal :=
  happen true t (fun m =>
    if m.paired && m.runs isPolder && m.preferred && m.pair.role == .standby && bit (m.cfg (pairCfg + 1) 1) 1 && m.pair.lostDuty && !m.pair.discord &&
        m.dueO m.pair.standbySince (seconds (m.cfg (pairCfg + 12) 2)) then
      m.setPair fun x => { x with planned := some (4, true) }
    else m) s

/-- TRANSFER_CHECK_DONE (R484): 5 ms after a planned transfer; an open phase or a sluice stuck open hands duty straight back. -/
def execTransferCheckDone (t : Nat) (s : State) : Host.Outcome State Fault Refusal :=
  happen true t (fun m =>
    if !m.dueO m.pair.checkAt (ms 5) then m
    else
      let m1 := m.setPair fun x => { x with checkAt := none }
      if m1.pair.role == .duty && m1.sharedAxes.any (fun a => (m1.drive a).bridge == .latched &&
          ((m1.drive a).fault.code == 5 || (m1.drive a).fault.code == 8)) then
        m1.handOver 8 .standby
      else m1) s

/-- DISCORDANT_END (R486): digests and classes have matched for 1 s. -/
def execDiscordantEnd (t : Nat) (s : State) : Host.Outcome State Fault Refusal :=
  happen true t (fun m =>
    if m.pair.discordant.isSome && m.dueO m.pair.matchSince (seconds 1) then
      (m.setPair fun x => { x with
        discordant := none, role := if x.role == .cold then .unfit else x.role, wantFull := true, fullSeen := false, fitSince := none }).log
        evPairDiscordant tgModule [2]
    else m) s

/-! ### Levee ports -/

/-- LEVEE_PORT_CHANGE (R457). A first port that comes UP begins a new exchange, with no sequence number accepted yet (log entry 59). -/
def execLeveePortChange (t link : Nat) (up : Bool) (s : State) : Host.Outcome State Fault Refusal :=
  happen (1 ≤ link && link ≤ 2) t (fun m =>
    if !m.paired || (m.pair.port link).up == up then m
    else
      let alone := up && !(m.pair.port (3 - link)).up
      let m1 := m.setPair fun x => { (x.setPort link fun q => { q with up }) with seqs := if alone then List.replicate 4 none else x.seqs }
      m1.log evLeveePort tgModule [(link : Int), if up then 0 else 1]) s

/-- FORWARD_TIMEOUT (R491): no reply to a forward within 50 ms. -/
def execForwardTimeout (t forward : Nat) (s : State) : Host.Outcome State Fault Refusal :=
  happen true t (fun m =>
    match m.pair.forwards.find? fun f => f.seq == forward && m.due f.sent (ms 50) with
    | some f => (m.setPair fun x => { x with forwards := x.forwards.filter (·.seq != forward) }).endRef f.ref stMemberUnreachable []
    | none => m) s

/-! ### Commands -/

/-- Heard within the last 100 ms (Table 11). -/
def ModuleState.heard (m : ModuleState) (at_ : Option Nat) : Bool := (at_.map fun h => decide (m.now ≤ h + ms 100)).getD false

/-- CLUSTER_STATUS reply (Table 11). -/
def ModuleState.clusterStatus (m : ModuleState) : List Byte :=
  let x := m.pair
  leBytes 1 x.role.code ++ leBytes 1 ((x.partner.map PairRole.code).getD 0xFF) ++
    leBytes 1 (bitOf x.discord 7 + bitOf x.discordant.isSome 6 + bitOf x.fenced 5 + bitOf m.fenceOk 4 + bitOf x.port2.up 3 + bitOf x.port1.up 2 +
      bitOf m.safeMoment 1 + bitOf x.timeDisagree 0) ++
    leBytes 1 (((List.range 4).filter fun i => m.heard (x.members.getD i none)).map (2 ^ ·)).sum ++ leBytes 2 (m.cfg (pairCfg + 2) 2) ++
    leBytes 4 x.leaseNo ++ leBytes 4 x.epoch ++ leBytes 4 (min max32 ((m.now - x.dutyAt) / 1000000000)) ++ leBytes 2 x.takeovers ++
    leBytes 2 x.arbitrations ++ leBytes 2 m.compat ++ leBytes 2 x.partnerCompat ++ leInt 4 (clampI (-2147483648) 2147483647 x.timeDiff) ++
    leBytes 32 m.configDigest

def clusterStatusSpec : CmdSpec :=
  { opcode := 0x0D00, roles := .all, size := (· == 0), body := fun _ m => returnData m m.clusterStatus }

/-- CLUSTER_STATUS (R492). -/
def execClusterStatus (p : Packet) (s : State) : Host.Outcome State Fault Refusal := .next (submit clusterStatusSpec p s)

def readPairConfigSpec : CmdSpec :=
  { opcode := 0x0D01, roles := .all, size := (· == 0), body := fun _ m => returnData m (m.cfgEntry pairCfg 32) }

/-- READ_PAIR_CONFIG (R492). -/
def execReadPairConfig (p : Packet) (s : State) : Host.Outcome State Fault Refusal := .next (submit readPairConfigSpec p s)

def dutyHandoverBody (c : Cmd) (m : ModuleState) : Result :=
  let waits : Bool := getN c.data 0 1 == 0
  if !(m.pair.role.holds || (m.pair.role == .single && m.reset.armed)) then refuse m stWrongState
  else if m.pair.partner.isNone || !m.heard m.pair.heardAt then refuse m stNoPartner
  else if m.pair.discordant.isSome then refuse m stPairDiscordant
  else if m.pair.partner != some .standby || m.pair.partnerTestFailed then refuse m stPartnerUnfit
  else { status := if waits then stDeferred else stOk, acts := [.llu], m := m.setPair fun x => { x with planned := some (5, waits) } }

def dutyHandoverSpec : CmdSpec :=
  { opcode := 0x0D02, roles := .only [.maintainer], size := (· == 4), fields := fun b => getN b 0 1 < 2 && getN b 1 3 == 0,
    body := dutyHandoverBody }

/-- DUTY_HANDOVER (R465, R492): the transfer is PLANNED_TRANSFER's. -/
def execDutyHandover (p : Packet) (s : State) : Host.Outcome State Fault Refusal := .next (submit dutyHandoverSpec p s)

/-- Members a forward can name (R491). -/
def memberThere (_ : ModuleState) (_ idx : Nat) : Bool := idx < 4 || idx == 0xFF

/-- CLUSTER_FORWARD (R491): an action of the levee-link unit (R24 Table 2); the inner packet goes out, and the command waits for the reply. -/
def clusterForwardBody (c : Cmd) (m : ModuleState) : Result :=
  let dest := if c.idx ≠ 0xFF then c.idx else if m.pair.role.holds then m.pair.id else m.partnerId
  if getN c.data 2 2 = 0x0D03 then refuse m stWrongState
  else
    let n := m.pair.ownSeq
    { acts := [.llu], wait := true,
      m := (m.setPair fun x => { x with forwards := x.forwards ++ [{ ref := c.ref, dest, sent := m.now, seq := n }] }).sendLevee dest (.inner n c.data) }

def clusterForwardSpec : CmdSpec :=
  { opcode := 0x0D03, kinds := [7], roles := .all, size := fun n => 16 ≤ n && n ≤ 4064, present := memberThere, body := clusterForwardBody }

/-- CLUSTER_FORWARD (R491). -/
def execClusterForward (p : Packet) (s : State) : Host.Outcome State Fault Refusal := .next (submit clusterForwardSpec p s)

def discordClearBody (_ : Cmd) (m : ModuleState) : Result :=
  if !m.pair.discord then refuse m stWrongState
  else { acts := [.llu], m := (m.setPair fun x => { x with discord := false }).log evDiscord tgModule [1] }

def discordClearSpec : CmdSpec := { opcode := 0x0D04, roles := .only [.maintainer], size := (· == 0), body := discordClearBody }

/-- DISCORD_CLEAR (R473). -/
def execDiscordClear (p : Packet) (s : State) : Host.Outcome State Fault Refusal := .next (submit discordClearSpec p s)

def clusterSoloBody (_ : Cmd) (m : ModuleState) : Result :=
  if !m.pair.fenced || m.pair.role != .searching then refuse m stWrongState
  else { acts := [.llu], m := m.setPair fun x => { x with soloAllowed := true } }

def clusterSoloSpec : CmdSpec := { opcode := 0x0D05, roles := .only [.maintainer], size := (· == 0), body := clusterSoloBody }

/-- CLUSTER_SOLO (R470). -/
def execClusterSolo (p : Packet) (s : State) : Host.Outcome State Fault Refusal := .next (submit clusterSoloSpec p s)

end Sys2Proof.Machine
end

