-- ==== Sys2Proof/Machine/Islands.lean ====
section
/-! DEFINITION. Arming and disarming (R575, R576, R579, R580), restarts of one island (R570 to R574) with what each loses and
rebuilds, and the detection-code errors that lead to them (R34 to R40). The choices this file makes are in log entries 60 to 69. -/

namespace Sys2Proof.Machine

/-- The module with its reset state changed. -/
def ModuleState.setReset (m : ModuleState) (f : ResetState → ResetState) : ModuleState := { m with reset := f m.reset }

/-! ### Disarming -/

/-- A paired unit that is disarmed gives up its part (R465, R580): a duty unit whose partner is STANDBY relinquishes duty; any other
becomes UNFIT, or stays COLD. -/
def ModuleState.dropDuty (m : ModuleState) (relinquish : Bool) : ModuleState :=
  if !m.paired then m
  else if relinquish && m.pair.role == .duty && m.partnerFit then m.handOver 2 .unfit
  else m.setPair fun x => { x with
    role := if x.role == .cold then .cold else .unfit, dutyAt := if x.role.holds then m.now else x.dutyAt, planned := none, leaseEnd := none
    renews := [], checkAt := none, soloAt := none, arb := none, mismatches := [], claimed := false, standbySince := none, fullSeen := false, fitSince := none
    wantFull := true }

/-- A load channel is held through a disarming restart (R576): HOLD, demand on, ON or LIMITING. -/
def ModuleState.holdable (m : ModuleState) (n : Nat) : Bool :=
  bit (m.loadFlags n) 3 && (m.load n).demand && (m.lsState n == 1 || m.lsState n == 2)

/-- The module is disarmed (R580): the axes stop under QUICK and lose their bridges, load channels and field outputs switch off with
their demands, except the load channels held in a hold window (R576) of a restarting island, and, when the foreland restarts, the demands
of the outputs in VFO_CUT (R299). cause: COMMAND 0, ISLAND_RESTART 1, POWER_FAIL 2, THERMAL 3. -/
def ModuleState.disarm (m : ModuleState) (cause : Nat) (relinquish : Bool) (holdFor : Option Nat) : ModuleState :=
  if !m.reset.armed then m
  else
    let m0 := m.dropDuty relinquish
    let kept := nums16.filter fun n => holdFor.isSome && m0.holdable n
    let m1 := m0.setReset fun r => { r with
      armed := false, holdStart := if kept.isEmpty then none else some m.now, holdTaken := 0 }
    let m2 := m1.each axisNums fun m a => (m.stopAxis a .quick 1).offAtRest a
    let m3 := m2.each nums16 fun m n => if kept.contains n then m.setLoad n fun x => { x with held := true } else m.lsDemand n false
    let m4 := m3.each nums16 fun m n => if holdFor == some isForeland && (m.fout n).cut then m else m.foDemand n false
    m4.log evDisarmed tgModule [(cause : Int)]

/-! ### Arming -/

/-- What ARM asks for besides its payload (R579): status of the first condition that fails. -/
def ModuleState.armFails (m : ModuleState) : Option Nat :=
  if m.sec.life = .retired then some stLifecycleState
  else if m.reset.phase ≠ .ready ∨ !m.configured ∨ m.islands.any (·.state == .stopped) ∨ m.warden.shutdown then some stWrongState
  else none

/-- The module is armed (R579): cause COMMAND 0, REARM 1, AUTO 2. -/
def ModuleState.arm (m : ModuleState) (cause holdMs : Nat) : ModuleState :=
  let m0 := m.setReset fun r => { r with holdMs }
  if m.reset.armed then m0
  else
    let m1 := (m0.setReset fun r => { r with armed := true, armedAt := m.now, autoRearm := false }).log evArmed tgModule [(cause : Int), (holdMs : Int)]
    let m2 := m1.each axisNums fun m a => if (m.drive a).awaitVal then m.energise a else m
    let m3 := m2.each m2.enabledPortals fun m p => m.setPortal p fun q => { q with awaitField := true }
    m3.setPair fun x =>
      if m.pairMode = 0 then { x with role := .single }
      else { x with role := .searching, searchAt := m.now, claimed := false, soloAllowed := false }

/-! ### Hold window -/

/-- HOLD_ENDED (R576): the window is over. -/
def ModuleState.holdEnded (m : ModuleState) (off : Nat) : ModuleState :=
  (m.setReset fun r => { r with holdStart := none, holdTaken := 0 }).log evHoldEnded tgModule [(m.reset.holdTaken : Int), (off : Int)]

/-- The restarting island takes its held channels over (R576). -/
def ModuleState.takeHeld (m : ModuleState) : ModuleState :=
  if m.reset.holdStart.isNone then m
  else
    let mask := maskOf fun n => (m.load n).held
    let m1 := { m with loads := updAll m.loads fun x => { x with held := false } }
    (m1.setReset fun r => { r with holdTaken := r.holdTaken ||| mask }).holdEnded 0

/-- HOLD_WINDOW_END (R576): HOLD_MS after the start of the restart. -/
def execHoldWindowEnd (t : Nat) (s : State) : Host.Outcome State Fault Refusal :=
  happen true t (fun m =>
    if m.dueO m.reset.holdStart (ms m.reset.holdMs) then
      let mask := maskOf fun n => (m.load n).held
      (m.each (nums16.filter fun n => bit mask (n - 1)) fun m n => m.lsDemand n false).holdEnded mask
    else m) s

/-! ### What an island's stop does and loses -/

/-- Axes of a motion island. -/
def axesOf (i : Nat) : List Nat := axisNums.filter fun a => axisIsland a == i
/-- Load channels of a motion island. -/
def loadsOf (i : Nat) : List Nat := nums16.filter fun n => (loadChannel n).island == i

/-- The polder core stops: what its SRAM held of commands, replies and notifications is gone (R570 Table 2, R353), with the orders to the
warden that were not yet acknowledged (R28); the Polder window is kept. -/
def ModuleState.polderStops (m : ModuleState) : ModuleState :=
  { m with
    reset := { m.reset with
      restartOrders := [], resetPending := m.reset.resetPending && !(m.interp.actions.any fun a => a.opcode == 0x0003) }
    interp := { m.interp with
      waiting := [], hold := none, inflight := [], actions := [], collections := [], scheduled := [], launched := [], requests := [] }
    host := { m.host with partialCmd := [], discard := false, rsp := [], evt := [], heldReplies := [] }
    pair := { m.pair with planned := none, arb := none, renews := [], claimed := false, forwards := [], fitSince := none, fullSeen := false } }

/-- A motion island stops (R575): its bridges go off, and its load channels unless they are held. -/
def ModuleState.motionStops (m : ModuleState) (i : Nat) : ModuleState :=
  let m1 := m.each (axesOf i) fun m a => (m.setAxis a fun x => x.halt m.now).bridgeOff a
  m1.each (loadsOf i) fun m n => if (m.load n).held then m else m.lsDemand n false

/-- A safety island stops: its switch opens by loss of carrier (R575); what a RING_TEST had to run on it is not judged. -/
def ModuleState.safetyStops (m : ModuleState) (k : Nat) : ModuleState :=
  let m1 := (m.testLoses k).openSwitch k 3 3 0
  (m1.setSafety k fun x => { x with grantL := false, grantR := false, closeSince := none, leftSince := none, rightSince := none }).noteRelease

/-- The foreland controller stops (R295, R298): every output off, the edge queue lost. -/
def ModuleState.forelandStops (m : ModuleState) : ModuleState :=
  { m with field := { m.field with
      outputs := updAll m.field.outputs fun x => { x.switchOff m.now with linkOff := true, overloadAt := none }
      fore := updAll m.field.fore fun l => { l with state := .lost, lostAt := m.now, goodRun := 0, seq := none }
      edges := [], dropped := 0, restore := 0, copied := some (m.now, m.count) } }

/-- What the network island logs as it stops: controllers that return to error-active (R365), ports whose link goes down (R387). -/
def ModuleState.networkLeaves (m : ModuleState) : ModuleState :=
  let m1 := m.each [0, 1] fun n c =>
    n.logIf ((m.ctl c).err != .active) evCanErrorState tgModule [(c : Int), ((m.ctl c).err.code : Int), (CanError.active.code : Int), 0, 0]
  m1.each [0, 1] fun n p => n.logIf (m.eth.port p).link evEthLink tgModule [(p : Int), 0, 0]

/-- The network island stops (R346, R364, R392): controllers OFF, rings and tables lost, quality FREE, the offset not yet slewed out
dropped and TRIM 0; PPS_OUT low. A stop ordered of the transmit ring is done with it. -/
def ModuleState.networkStops (m : ModuleState) : ModuleState :=
  let m0 := (m.each m.eth.tx.stopping fun m ref => m.settle ref none none).networkLeaves
  let m1 := { m0 with
    can := updAll m0.can Can.restarted
    eth := (m0.eth.served m.now).restarted
    time := { m.time.rebase m.now with
      trim := 0, slew := 0, residue := 0, trims := [], goodRun := 0, gmData := none, ptpAt := none, ppsAt := none, holdoverAt := none
      ppsOut := false, units := List.replicate 8 none } }
  m1.setQuality .free

/-- The recorder island stops (R421, R426, R449): the culvert's channels are IDLE, records and events in its SRAM are lost; a stop
ordered of a channel is done with it. -/
def ModuleState.recorderStops (m : ModuleState) : ModuleState :=
  let op := m.opTime
  let m1 := m.each (m.cv.chans.flatMap (·.stops)) fun m ref => m.settle ref none none
  ({ m1 with cv := m.cv.restarted, host := { m1.host with damaged := m1.host.damaged.filter (· < 0x10000000) } }).setRec fun r => { r with
    opMs := op, opAt := m.now, queue := r.producers.take 4096, producers := r.producers.drop 4096, buf := [], bufBytes := 0, bufAt := none
    flushing := [], flushBusy := false, flushLeft := 0, drops := 0, dropGroups := [], dropSpan := (0, 0), collecting := none
    history := List.replicate 8 [], cv14Halted := false, cv15Halted := false, failFlushAt := none, stage1 := none }

/-- The floodgate stops: every session closes (R508). -/
def ModuleState.floodgateStops (m : ModuleState) : ModuleState := m.closeSessions (m.sec.sessions.map (·.num)) 0

/-- What the stop of an island does (R575 Table 3) and loses (R570 Table 2). -/
def ModuleState.islandStops (m : ModuleState) (i : Nat) : ModuleState :=
  match i with
  | 0 => m.polderStops
  | 1 | 2 => m.motionStops i
  | 3 | 4 => m.safetyStops (i - 3)
  | 5 => m.forelandStops
  | 6 => m.networkStops
  | 7 => m.recorderStops
  | 8 => m.floodgateStops
  | _ => m

/-! ### What a running island rebuilds -/

/-- Motion state of an axis whose island starts (R570, R628). -/
def Axis.restarted (x : Axis) (now : Nat) : Axis :=
  { fallbacks := x.fallbacks, replans := x.replans, restSince := now, speedZeroSince := now }

/-- Feedback of an axis whose island starts (R570, R628): the counter at 0, OFFSET from the record of a SERIAL source (R172). -/
def Feedback.restarted (f : Feedback) (serial : Bool) : Feedback :=
  { offset := if serial then f.offsetRec.getD 0 else 0
    offsetRecs := f.offsetRecs, edgeFaults := f.edgeFaults, lines := f.lines, supplyFault := f.supplyFault, supplyAt := f.supplyAt
    supplyOn := f.supplyOn, term := f.term, badAt := f.badAt }

/-- Drive of an axis whose island starts: the gate stage keeps a bridge latch and its cause (R138), and the braking of R143. -/
def Drive.restarted (d : Drive) : Drive :=
  { bridge := if d.stopped then d.bridge else .off, sluices := d.sluices, openAt := d.openAt, openBAt := d.openBAt, fault := d.fault, lowOn := d.lowOn
    testPassed := d.testPassed, gateOk := d.gateOk, temp := d.temp, hotOpens := d.hotOpens, latches := d.latches, records := d.records
    regenLatched := d.regenLatched, angleOk := d.angleOk }

/-- Obstacle state of a portal whose motion island starts: what is kept for life or since power-on. -/
def Obstacle.restarted (o : Obstacle) : Obstacle :=
  { edge := o.edge, edgeSince := o.edgeSince, degraded := o.degraded, lastCause := o.lastCause, obstacles := o.obstacles, work := o.work
    half0 := o.half0, half1 := o.half1, cycleSinceHoming := o.cycleSinceHoming, goodCycles := o.goodCycles, driftLogged := o.driftLogged }

/-- An axis starts: its counter, its commanded position (R628), the resolution of a FIXED mode (R104), and half SPEED under VDRV_LOW (R555). -/
def ModuleState.startAxis (m : ModuleState) (a : Nat) : ModuleState :=
  let m1 := ((m.setAxis a fun x => { x.restarted m.now with
      res := if m.stepper a then m.cfg (axisCfg a + 3) 1 - 1 else 0, halved := m.warden.level != .normal }).setFb a fun f => f.restarted (m.source a == 3)).setDrive a Drive.restarted
  let pos := if m1.hasFb a then m1.countPos a else 0
  let m2 := (m1.setAxis a fun x => { x with cmdPos := wrap32 pos }).setFb a fun f => { f with pHat := pos, history := [(m.now, pos)] }
  if m2.onEncoder a && m2.configured && !(m2.fb a).supplyOn then m2.loseSignal a 1 else m2

/-- The accumulator of a channel at its start value (R255). -/
def ModuleState.startAccum (m : ModuleState) (n : Nat) : ModuleState :=
  m.setLoad n fun x => { x with accum := if x.spent then 500 else 250, accumAt := m.now }

/-- A motion island's copy of the module accumulator at its start value (R255). -/
def ModuleState.startModuleAccum (m : ModuleState) (i : Nat) : ModuleState :=
  let c := m.loadCommon
  let a1 := c.accumNow 1 m.now
  let a2 := c.accumNow 9 m.now
  m.setLoads fun k => { k with
    accumAt := m.now, accum1 := if i = 1 then max 1500 a2 else a1, accum2 := if i = 2 then max 1500 a1 else a2 }

/-- A motion island runs (R195, R255, R570). -/
def ModuleState.motionStarts (m : ModuleState) (i : Nat) : ModuleState :=
  let m1 := m.each (axesOf i) fun m a => m.startAxis a
  let mine := m1.enabledPortals.filter fun p => axisIsland (m1.doorAxis p) == i
  let m2 := m1.each mine fun m p => (m.setOb p Obstacle.restarted).loadMaps p
  let m3 := (m2.startModuleAccum i).setLoads fun k => { k with
    pgUse := if i = 1 then k.pg ++ k.pgUse.drop 4 else k.pgUse.take 4 ++ k.pg
    pgAt := if i = 1 then List.replicate 4 none ++ k.pgAt.drop 4 else k.pgAt.take 4 ++ List.replicate 4 none }
  let m4 := m3.each (loadsOf i) fun m n => m.startAccum n
  { m4 with cv := { m4.cv with traces := (m4.cv.traces.zip axisNums).map fun (x : TraceQ × Nat) => if axisIsland x.2 == i then {} else x.1 } }

/-- A safety island runs after a reset: nothing is held, no latch, comparison words not yet received (R220, R228, R233); the due times
of the tests are set by the first closure (R231). No switch fault is affected any more once neither island holds a latch for one. -/
def ModuleState.safetyStarts (m : ModuleState) (k : Nat) : ModuleState :=
  let m1 := m.setSafety k Safety.kept
  let m2 := m1.setRing fun r => { r with
    firstTest := none, a := { r.a with testDue := none }, b := { r.b with testDue := none }
    unproved := if r.a.latch.ofSwitch || r.b.latch.ofSwitch then r.unproved else (false, false) }
  (m2.loadRing k).deliverRing k

/-- The foreland controller runs after a watchdog reset (R298). -/
def ModuleState.forelandStarts (m : ModuleState) : ModuleState :=
  { m with field := { m.field with startedAt := m.now, inputs := updAll m.field.inputs fun x =>
      { x with settling := true, settling2 := true, differSince := none, disagree := false, reversed := false, supNew := none, supLogged := false, wetAt := none } } }

/-- The network island runs (R364): the controllers return to START_MODE after bus integration. On a ready module the configuration is loaded: its
TERM (R363) and its switch settings (R392) are in force, those of one newly activated too. -/
def ModuleState.networkStarts (m : ModuleState) : ModuleState :=
  let loaded := m.configured && m.reset.phase == .ready
  let m1 := { m with
    can := updAll m.can fun c => { c with integrating := m.configured, mode := .off }
    eth := { m.eth with configured := m.eth.configured || loaded } }
  m1.each [0, 1] fun m c => m.setCtl c fun q => { q with term := if loaded then bit (m.cfg (canCfg c + 2) 1) 5 else q.term }

/-- The recorder island runs within a power cycle (R426, R428, R449); what motion islands left for it is written (R42; log entry 167). -/
def ModuleState.recorderStarts (m : ModuleState) : ModuleState :=
  let r := m.recd
  let seq := (r.seqSaved + 65536) % 2 ^ 32
  let m1 := m.setRec fun r => { r with opMs := r.opSaved + 100, opAt := m.now, seq, seqRecs := .both seq }
  let m2 := m1.log evLogGap tgModule [0, (r.seqSaved : Int), 0xFFFFFFFF]
  ((m2.endReadout 3).each portalNums fun m p => m.settleMaps p).each axisNums fun m a => m.settleOffset a

/-- The floodgate runs (R494, R502, R515). -/
def ModuleState.floodgateStarts (m : ModuleState) (damage : List Nat) : ModuleState :=
  ((m.setSec fun x => { x with fresh := x.freshRes, signTimes := [] }).burnLeaves).floodgateDamage damage

/-- The polder core runs (R60, R568; a holder whose polder core stopped has lost duty on expiry, R485): the safety islands receive their ring settings from it (R65, R220). -/
def ModuleState.polderStarts (m : ModuleState) (cause : Nat) : ModuleState :=
  let m1 := (m.setReset fun r => { r with cause }).setPair fun x => if m.pairMode = 0 then x else { x with
    role := if x.role == .cold then .cold else .unfit, lostDuty := x.lostDuty || x.role.holds || x.role == .lapsed }
  ((m1.each m1.enabledPortals fun m p => m.fieldSoon p).deliverRing 0).deliverRing 1

/-- What an island that runs again rebuilds (R570 Table 2). -/
def ModuleState.islandStarts (m : ModuleState) (i : Nat) (damage : List Nat) : ModuleState :=
  match i with
  | 0 => m.polderStarts (if (m.island 0).restartCause == .activation then 0x11 else 0x10)
  | 1 | 2 => m.motionStarts i
  | 3 | 4 => m.safetyStarts (i - 3)
  | 5 => m.forelandStarts
  | 6 => m.networkStarts
  | 7 => m.recorderStarts
  | 8 => m.floodgateStarts damage
  | _ => m

/-! ### Restarts -/

/-- LAST_CAUSE codes (R581 Table 8). -/
def RestartCause.code : RestartCause → Nat
  | .watchdog => 0 | .channel => 1 | .memory => 2 | .rail => 3 | .command => 4 | .activation => 5
/-- A restart that R573 counts. -/
def RestartCause.counted : RestartCause → Bool
  | .command | .activation => false
  | _ => true
/-- Islands whose restart disarms the module (R571). -/
def disarming (i : Nat) : Bool := [isPolder, isM1, isM2, isForeland].contains i

/-- Restarts of an island counted in the last hour (R573). -/
def ModuleState.restarts1h (m : ModuleState) (i : Nat) : List Nat := (m.island i).restartTimes.filter fun t => m.now < t + seconds 3600

/-- The module is disarmed by an island's stop (R571, R574, R576): the duty unit relinquishes for a motion island or the foreland;
when the polder core stops its renewals just end. -/
def ModuleState.stopDisarms (m : ModuleState) (i : Nat) (cause : RestartCause) : ModuleState :=
  if disarming i then
    let was := m.reset.armed
    (m.disarm 1 (i != isPolder) (if cause == .activation then none else some i)).setReset fun r =>
      { r with autoRearm := cause.counted && (was || r.autoRearm) }
  else m

/-- The energy measurement of a motion island that stops ends before its channels switch off (R264). -/
def ModuleState.silence (m : ModuleState) (i : Nat) : ModuleState :=
  if i = isM1 ∨ i = isM2 then m.setIsland i fun x => { x with state := if x.state == .running then .restarting else x.state } else m

/-- An island is kept stopped (R39, R573): the module is disarmed by it, and does not arm itself again. The portals of a motion island
enter FAULT at the next tick (ModuleState.tickFaults), the switch of a safety island is open, and HW_STATUS shows FAULT. -/
def ModuleState.keepStopped (m : ModuleState) (i : Nat) (cause : RestartCause) : ModuleState :=
  let m1 := (((m.silence i).stopDisarms i cause).setReset fun r => { r with autoRearm := false }).islandStops i
  m1.setIsland i fun x => { x with state := .stopped }

/-- The warden restarts an island (R570, R573): ISLAND_RESTARTED with a duration that is not yet known (log entry 60); the third
counted restart within 1 h keeps it stopped. -/
def ModuleState.restartIsland (m : ModuleState) (i : Nat) (cause : RestartCause) : ModuleState :=
  let x := m.island i
  if x.state != .running then m
  else
    let recent := m.restarts1h i ++ (if cause.counted then [m.now] else [])
    let m1 := (m.setIsland i fun x => { x with restartTimes := recent, restartCause := cause }).setReset fun r =>
      { r with lastIsland := i, lastCause := cause }
    if cause.counted && 3 ≤ recent.length then
      (m1.keepStopped i cause).log evIslandHeld tgModule [(i : Int), (recent.length : Int)]
    else
      let m2 := (((m1.silence i).stopDisarms i cause).islandStops i).setIsland i fun x => { x with state := .restarting, restarts := sat max16 x.restarts }
      let (v, m3) := m2.fresh
      (m3.log evIslandRestarted tgModule [(i : Int), (cause.code : Int), (v : Int)]).saturated max16 x.restarts tgModule 0x0006 (18 + 16 * i)

/-- WATCHDOG_EXPIRY (R527, R570): the watchdogs of the islands other than the warden. -/
def execWatchdogExpiry (t island : Nat) (s : State) : Host.Outcome State Fault Refusal :=
  happen (island < 9) t (fun m => if m.runs island then m.restartIsland island .watchdog else m) s

/-- The module enters recovery (R540): disarmed, its ring open, no session left. -/
def ModuleState.enterRecovery (m : ModuleState) : ModuleState :=
  let m1 := (m.disarm 1 true none).setReset fun r => { r with phase := .recovery, autoRearm := false }
  ((m1.openSwitch 0 3 1 0).openSwitch 1 3 1 0).floodgateStops.polderStops

/-- An island kept stopped because it cannot start (R539, R541): ISLAND_START_FAILED, and recovery. -/
def ModuleState.givenUp (m : ModuleState) (i : Nat) : ModuleState :=
  ((m.setIsland i fun x => { x with startFails := 0, state := .stopped }).log evIslandStartFailed tgModule
    [(i : Int), (m.warden.activeBank : Int)]).enterRecovery

/-- A start of an island from the committed bank has failed (R539): after the third it is kept stopped, and the module enters
recovery. -/
def ModuleState.startFailed (m : ModuleState) (i : Nat) : ModuleState :=
  let n := (m.island i).startFails + 1
  if n < 3 then m.setIsland i fun x => { x with startFails := n }
  else
    m.givenUp i

/-- An island runs again (R570): what it lost is rebuilt, its held channels are taken over. One held on continuously that is not in its on-phase
is turned off, and that is measured (R251). -/
def ModuleState.islandRuns (m : ModuleState) (i : Nat) (damage : List Nat) : ModuleState :=
  let m1 := (m.setIsland i fun x => { x with state := .running, startFails := 0 }).islandStarts i damage
  let m2 := m1.each (nums16.filter fun n => m.conducts n && !m1.conducts n) fun m n => m.turnOffEdge n true
  if disarming i then m2.takeHeld else m2

/-- ISLAND_RESTART_DONE (R539, R570): a restarting island runs, or its start has failed. damage: items of the floodgate's MRAM found
damaged (R494). -/
def execIslandRestartDone (t island : Nat) (started : Bool) (damage : List Nat) (s : State) : Host.Outcome State Fault Refusal :=
  happen (island < 10) t (fun m =>
    if m.warden.activation.isSome && m.reset.phase != .starting || m.reset.phase == .held || m.reset.phase == .lockout then m
    else if !started then
      if (m.island island).state == .restarting || (m.reset.phase == .starting && (m.island island).state == .running) then m.startFailed island
      else m
    else if (m.island island).state == .restarting then m.islandRuns island damage
    else m) s

/-- AUTO_REARM (R572). -/
def execAutoRearm (t : Nat) (s : State) : Host.Outcome State Fault Refusal :=
  happen true t (fun m =>
    if m.reset.autoRearm && m.islands.all (·.state == .running) && m.armFails.isNone then m.arm 2 m.reset.holdMs else m) s

/-! ### Detection-code errors -/

/-- Code of the owning function in MEM_PERSISTENT (log entry 61). -/
def ownerOf : Damaged → Nat
  | .motionProfile .. => 0 | .stepMultiplier _ => 1 | .stepTimer _ => 2 | .mirrored _ => 3 | .record .. => 4 | .config _ => 5 | .program _ => 6
  | .doorState _ => 7 | .forceMap .. => 8 | .session _ => 9 | .safetyEval _ => 10 | .canFrame .. => 11 | .canBinding .. => 12 | .window _ => 13
  | .accumulator _ => 14 | .other => 15

/-- The sources of a cycle or trace record are still kept: the portal's next cycle has not started (R442). -/
def ModuleState.sourcesKept (m : ModuleState) (b : RecordBody) : Bool :=
  match b with
  | .cycle p _ c _ _ _ _ => m.runs isPolder && (m.portal p).cycle.startNo == c.startNo
  | .trace p _ _ _ body _ => m.runs isPolder && (m.portal p).trace.map (BitVec.ofNat 8) == body
  | .event .. | .snapshot .. => false

/-- A damaged record of the buffer (R442): rebuilt from its sources, zeroed with DAMAGED set, or dropped with its index entry. -/
def ModuleState.damageRecord (m : ModuleState) (seq : Nat) (sources index : Bool) : ModuleState :=
  match (m.recd.flushing ++ m.recd.buf).find? (·.key.seq == seq) with
  | none => m
  | some x =>
    let rebuilt := sources && m.sourcesKept x.body && !index
    let on := fun (l : List Rec) =>
      if index then l.filter (·.key.seq != seq) else if rebuilt then l else updIf l (·.key.seq == seq) fun r => { r with damaged := true }
    let m1 := ((m.setRec fun r => { r with flushing := on r.flushing, buf := on r.buf, damaged := sat max32 r.damaged }).saturated max32
      m.recd.damaged tgModule 0x0C00 34).log evRecordDamaged tgModule [(x.body.kind : Int), (seq : Int), if rebuilt then 0 else 1]
    m1.logIf index evLogGap tgModule [2, (seq : Int), 1]

/-- A damaged accumulator set to its start value (R255): that of a channel of the island, or with 0 the island's copy of the module's. -/
def ModuleState.damageAccumulator (m : ModuleState) (i n : Nat) : ModuleState :=
  if n = 0 then m.startModuleAccum i else if (loadsOf i).contains n then m.startAccum n else m

/-- A word of the Polder window or of recorder SRAM, by its culvert address, marked damaged until it is written (R34, R331, R420). -/
def ModuleState.damageWord (m : ModuleState) (a : Nat) : ModuleState :=
  { m with host := { m.host with damaged := if m.host.damaged.contains a then m.host.damaged else m.host.damaged ++ [a] } }

/-- The owning function recomputes damaged data, or enters the reaction of R36 Table 5. -/
def ModuleState.recompute (m : ModuleState) (i : Nat) : Damaged → ModuleState
  | .motionProfile a queue position => let m1 := m.replan a queue position; if queue && !position then m1.tellFault a else m1
  | .stepMultiplier a => if (m.axis a).path == .fallback then m.pathLost a 1 else m
  | .stepTimer a => if (m.axis a).path == .timer then m.fallBack a 1 else m
  | .mirrored false => m
  | .mirrored true =>
    if m.pair.role == .standby then
      m.setPair fun x => { x with role := .unfit, wantFull := true, fullSeen := false, fitSince := none, standbySince := none }
    else m
  | .record seq sources index => m.damageRecord seq sources index
  | .config false => m
  | .config true =>
    (m.each m.enabledPortals fun m p => m.setPortal p fun q => { q with configLost := true }).log evConfigUnavailable tgModule []
  | .program false => m.restartIsland i .memory
  | .program true => (m.keepStopped i .memory).log evMemIslandLost tgModule [(i : Int)]
  | .doorState p => m.fieldSoon p
  | .forceMap p source =>
    (if source then m.setOb p fun o => { o with half0 := { o.half0 with crcOk := false }, half1 := { o.half1 with crcOk := false } } else m).loadMaps p
  | .session n => m.closeSession n 0
  | .safetyEval false => m
  | .safetyEval true => if i = 3 ∨ i = 4 then m.openSwitch (i - 3) (2 ^ (i - 3)) 0 0 else m
  | .canFrame c o => m.loseFrame c o
  | .canBinding c o => m.loseBinding c o
  | .window a => m.damageWord a
  | .accumulator n => m.damageAccumulator i n
  | .other => m

/-- A mismatch found by the scrubber (R34, R37, R38); a word of recorder SRAM that no other item owns is one the culvert reads (R420). -/
def ModuleState.mismatch (m : ModuleState) (i : Nat) (x : Mismatch) : ModuleState :=
  let v := m.island i
  match x.err with
  | .none => m
  | .transient =>
    (m.setIsland i fun y => { y with transient := sat max32 y.transient, transientSecond := y.transientSecond + 1 }).saturated max32 v.transient
      tgModule 0x0006 (20 + 16 * i)
  | .persistent =>
    let m1 := (m.setIsland i fun y => { y with
      persistent := sat max32 y.persistent, persTimes := (y.persTimes.filter fun t => m.now < t + seconds 60) ++ [m.now] }).saturated max32
        v.persistent tgModule 0x0006 (24 + 16 * i)
    let m2 := (m1.log evMemPersistent tgModule [(i : Int), (x.addr : Int), (ownerOf x.item : Int)]).recompute i x.item
    if i = isRecorder ∧ x.item = .other then m2.damageWord (0x10000000 + x.addr / 4 * 4) else m2

/-- More than 16 persistent errors within 60 s (R39): a restart, and on the second time within 1 h the island is kept stopped. -/
def ModuleState.judgeMemory (m : ModuleState) (i : Nat) : ModuleState :=
  let x := m.island i
  if (x.persTimes.filter fun t => m.now < t + seconds 60).length ≤ 16 || x.state != .running then m
  else
    let again : Bool := x.memRestartAt.any fun t => decide (m.now < t + seconds 3600)
    let m1 := m.setIsland i fun y => { y with persTimes := [], memRestartAt := some m.now }
    if again then (m1.keepStopped i .memory).log evMemIslandLost tgModule [(i : Int)]
    else (m1.log evMemRestart tgModule [(i : Int)]).restartIsland i .memory

/-- Bytes of an island's SRAM (R18 Table 1); none for an island that holds its state in a register file, whose size the table does not give. -/
def islandSram (i : Nat) : Option Nat :=
  [some 4194304, some 1048576, some 1048576, none, none, none, some 1572864, some 2097152, some 524288, some 2097152].getD i none

/-- A mismatch stands in a word that the island has (R18). -/
def inIsland (i : Nat) (x : Mismatch) : Bool := (islandSram i).all fun n => decide (x.addr < n)

/-- SCRUB_PASS (R37): the scrubber has read every word of an island; the words found with a mismatch. -/
def execScrubPass (t island : Nat) (found : List Mismatch) (s : State) : Host.Outcome State Fault Refusal :=
  happen (island < 10) t (fun m =>
    if !m.runs island then m
    else
      let n := (m.island island).scrubPasses
      let m1 := (m.setIsland island fun x => { x with scrubPasses := sat max32 x.scrubPasses }).saturated max32 n tgModule 0x0006 (28 + 16 * island)
      (m1.each (found.filter (inIsland island)) fun m x => m.mismatch island x).judgeMemory island) s

/-- MEM_TRANSIENT_REPORT (R38). -/
def execMemTransientReport (t island : Nat) (s : State) : Host.Outcome State Fault Refusal :=
  happen (island < 10) t (fun m =>
    let x := m.island island
    if x.transientSecond = 0 || (x.transientAt.isSome && !m.dueO x.transientAt (seconds 1)) then m
    else (m.setIsland island fun x => { x with transientSecond := 0, transientAt := some m.now }).log evMemTransient tgModule
      [(island : Int), (x.transientSecond : Int)]) s

/-- COMPARISON_WORD_RECEIVED (R35, R224): a word refused twice is a channel fault that restarts the receiving island. -/
def execComparisonWordReceived (t sw : Nat) (err : CodeErr) (s : State) : Host.Outcome State Fault Refusal :=
  happen (sw < 2) t (fun m =>
    if !m.safetyRuns sw || !m.safetyRuns (1 - sw) then m
    else match err with
      | .persistent => m.restartIsland (3 + sw) .channel
      | _ => m.hearWord sw) s

/-- POSITION_WORD_RECEIVED (R35, R217). -/
def execPositionWordReceived (t sw portal : Nat) (err : CodeErr) (s : State) : Host.Outcome State Fault Refusal :=
  happen (sw < 2 && 1 ≤ portal && portal ≤ 4) t (fun m =>
    if !m.safetyRuns sw || !m.runs (axisIsland (m.doorAxis portal)) then m
    else match err with
      | .persistent => m.restartIsland (3 + sw) .channel
      | _ => m.hearPosition sw portal) s

/-! ### Commands -/

def armBody (c : Cmd) (m : ModuleState) : Result :=
  if 2000 < getN c.data 0 2 then refuse m stValueOutOfRange
  else match m.armFails with
    | some st => refuse m st
    | none => { acts := [.m1ax, .m2ax], m := m.arm 0 (getN c.data 0 2) }

def armSpec : CmdSpec :=
  { opcode := 0x0001, roles := .only [.operator, .maintainer, .integrator], size := (· == 4), fields := fun b => getN b 2 2 == 0, body := armBody }

/-- ARM (R579). -/
def execArm (p : Packet) (s : State) : Host.Outcome State Fault Refusal := .next (submit armSpec p s)

def disarmBody (_ : Cmd) (m : ModuleState) : Result :=
  { acts := [.m1ax, .m1ls, .m2ax, .m2ls] ++ m.foActs, m := (m.disarm 0 true none).setReset fun r => { r with autoRearm := false } }

def disarmSpec : CmdSpec :=
  { opcode := 0x0002, roles := .only [.operator, .maintainer, .integrator], size := (· == 0), body := disarmBody }

/-- DISARM (R580). -/
def execDisarm (p : Packet) (s : State) : Host.Outcome State Fault Refusal := .next (submit disarmSpec p s)

/-- A paired module that is about to restart on purpose gives up duty and sends LEAVE (R469). -/
def ModuleState.leave (m : ModuleState) : ModuleState :=
  if !m.paired then m
  else
    let m1 := if m.pair.role.holds then m.handOver 2 .unfit else m
    m1.sendLease 5 m1.pair.leaseNo

def moduleResetBody (_ : Cmd) (m : ModuleState) : Result :=
  if m.warden.activation.isSome then refuse m stUpdateBusy
  else { acts := [.wd], m := m.leave.setReset fun r => { r with resetPending := true } }

def moduleResetSpec : CmdSpec :=
  { opcode := 0x0003, roles := .only [.maintainer, .integrator], size := (· == 0), body := moduleResetBody }

/-- MODULE_RESET (R569, R581): the reset begins once the reply is sent. -/
def execModuleReset (p : Packet) (s : State) : Host.Outcome State Fault Refusal := .next (submit moduleResetSpec p s)

def islandRestartBody (c : Cmd) (m : ModuleState) : Result :=
  let i := getN c.data 0 1
  if (m.island i).state == .stopped then refuse m stWrongState
  else if m.warden.activation.isSome then refuse m stUpdateBusy
  else { acts := [.wd], m := m.setReset fun r => { r with restartOrders := r.restartOrders ++ [i] } }

def islandRestartSpec : CmdSpec :=
  { opcode := 0x0004, roles := .only [.maintainer], size := (· == 4), fields := fun b => getN b 0 1 < 10 && getN b 1 3 == 0, body := islandRestartBody }

/-- ISLAND_RESTART (R570, R581): the restart begins once the reply is sent. -/
def execIslandRestart (p : Packet) (s : State) : Host.Outcome State Fault Refusal := .next (submit islandRestartSpec p s)

/-- An ordered restart begins (R581): the reply has been sent. -/
def ModuleState.orderedRestart (m : ModuleState) : ModuleState :=
  match m.reset.restartOrders with
  | [] => m
  | i :: rest => (m.setReset fun r => { r with restartOrders := rest }).restartIsland i .command

/-- RESET_STATUS reply (R581 Table 8). -/
def ModuleState.resetStatus (m : ModuleState) : List Byte :=
  let r := m.reset
  leBytes 1 r.cause ++ leBytes 1 (bitOf (m.islands.any (·.state == .stopped)) 1 + bitOf r.armed 0) ++ leBytes 2 r.holdMs ++ leBytes 2 r.readyMs ++
    leBytes 1 r.lastIsland ++ leBytes 1 r.lastCause.code ++ leBytes 2 (if r.lastIsland < 10 then (m.restarts1h r.lastIsland).length else 0) ++
    leBytes 4 (if r.armed then min max32 ((m.now - r.armedAt) / 1000000000) else 0)

def resetStatusSpec : CmdSpec :=
  { opcode := 0x0005, roles := .all, size := (· == 0), body := fun _ m => readFrom [.wd] m m.resetStatus }

/-- RESET_STATUS (R581). -/
def execResetStatus (p : Packet) (s : State) : Host.Outcome State Fault Refusal := .next (submit resetStatusSpec p s)

/-- STATE codes of Table 7. -/
def IslandState.code : IslandState → Nat
  | .running => 0 | .restarting => 1 | .stopped => 2

/-- An island health entry (R40 Table 7). -/
def ModuleState.islandEntry (m : ModuleState) (i : Nat) : List Byte :=
  let x := m.island i
  leBytes 1 i ++ leBytes 1 x.state.code ++ leBytes 2 x.restarts ++ leBytes 4 x.transient ++ leBytes 4 x.persistent ++ leBytes 4 x.scrubPasses

/-- The ten entries. -/
def ModuleState.islandEntries (m : ModuleState) : List Byte := (List.range 10).flatMap m.islandEntry

def readIslandHealthSpec : CmdSpec :=
  { opcode := 0x0006, roles := .all, size := (· == 0)
    body := fun _ m => readFrom [.wd] m (leBytes 2 10 ++ stampBytes m.stamp ++ zeros 2 ++ m.islandEntries) }

/-- READ_ISLAND_HEALTH (R40). -/
def execReadIslandHealth (p : Packet) (s : State) : Host.Outcome State Fault Refusal := .next (submit readIslandHealthSpec p s)

end Sys2Proof.Machine
end

