-- ==== Sys2Proof/Machine/Validate.lean ====
section
/-! DEFINITION. The checks of CONFIG_LOAD (R530): FORMAT, the acceptance rules of the chapters (R44, R78, R116, R156, R186, R219,
R242, R284, R361, R389, R436, R461), and the ranges, listed values and reserved fields of every table. A check is a pair: it holds,
and the offset of the field it judges. Of the checks of one step that fail, the one with the lowest offset is reported; a rule that
compares two fields judges the later one (log entry 70). -/

namespace Sys2Proof.Machine

/-- A check: whether it holds, and the offset of the field. -/
abbrev Check := Bool × Nat

/-- Lowest offset of a failing check. -/
def firstBad (l : List Check) : Option Nat :=
  l.foldl (fun (a : Option Nat) (c : Check) => if c.1 then a else some (match a with
    | none => c.2
    | some x => min x c.2)) none

/-- An unsigned field in a range. -/
def inRange (b : List Byte) (off n lo hi : Nat) : Check := (decide (lo ≤ getN b off n) && decide (getN b off n ≤ hi), off)

/-- Fields of an entry in their ranges: offset in the entry, size, lowest, highest. -/
def inRanges (b : List Byte) (o : Nat) (l : List (Nat × Nat × Nat × Nat)) : List Check :=
  l.map fun (x : Nat × Nat × Nat × Nat) => inRange b (o + x.1) x.2.1 x.2.2.1 x.2.2.2

/-- Reserved bytes and bits of an entry are 0: offset in the entry, size, mask of the reserved bits. -/
def reserved0 (b : List Byte) (o : Nat) (l : List (Nat × Nat × Nat)) : List Check :=
  l.map fun (x : Nat × Nat × Nat) => (getN b (o + x.1) x.2.1 &&& x.2.2 == 0, o + x.1)

/-- All bits of n bytes. -/
def allBits (n : Nat) : Nat := 256 ^ n - 1

/-- A field is 0 or lies in a range. -/
def zeroOr (b : List Byte) (off n lo hi : Nat) : Check := (getN b off n == 0 || (inRange b off n lo hi).1, off)

/-! ### Portals, axes, drives, feedback -/

/-- An enabled portal entry. -/
def cfgEnabled (b : List Byte) (p : Nat) : Bool := getN b (portalCfg p + 1) 1 == 1
/-- The enabled portals of a configuration. -/
def cfgPortals (b : List Byte) : List Nat := portalNums.filter (cfgEnabled b)

/-- Ranges of a portal entry (Table 1 of chapter 02). -/
def portalRanges (b : List Byte) (p : Nat) : List Check :=
  let o := portalCfg p
  inRanges b o ([(0, 1, 1, 4), (1, 1, 0, 1), (2, 1, 0, 1), (3, 1, 0, 3), (5, 1, 1, 16), (6, 1, 0, 1), (7, 1, 1, 16), (8, 1, 1, 16)] ++
    [(9, 1, 1, 48), (10, 1, 1, 48), (11, 1, 0, 48), (12, 1, 0, 48), (13, 1, 0, 48), (14, 1, 0, 48), (15, 1, 0, 48), (16, 1, 0, 16)] ++
    [(17, 1, 0, 16), (18, 1, 0, 16), (19, 1, 0, 16), (44, 2, 20, 2000), (46, 2, 10, 200), (48, 2, 20, 400), (50, 2, 1000, 60000)]) ++
  [(getN b (o + 4) 1 == 255 || (inRange b (o + 4) 1 4 7).1, o + 4)]

/-- What an enabled portal names, in the order of its fields: portal, field, object, offset. -/
def named (b : List Byte) (p : Nat) (fields : List Nat) (none_ : Nat) : List (Nat × Nat × Nat × Nat) :=
  (fields.filter fun f => getN b (portalCfg p + f) 1 != none_).map fun f => (p, f, getN b (portalCfg p + f) 1, portalCfg p + f)

/-- Axes named by enabled portals. -/
def namedAxes (b : List Byte) : List (Nat × Nat × Nat × Nat) := (cfgPortals b).flatMap fun p => named b p [3, 4] 255
/-- Load channels named by enabled portals. -/
def namedLoads (b : List Byte) : List (Nat × Nat × Nat × Nat) := (cfgPortals b).flatMap fun p => named b p [5, 16, 17, 18, 19] 0
/-- Field inputs named by enabled portals. -/
def namedInputs (b : List Byte) : List (Nat × Nat × Nat × Nat) :=
  (cfgPortals b).flatMap fun p => named b p [7, 8, 9, 10, 11, 12, 13, 14, 15] 0

/-- An object named once more (R44): allowed only for EGRESS_FI or ISOLATE_FI of exactly two portals. -/
def nameOk (before : List (Nat × Nat × Nat × Nat)) (x : Nat × Nat × Nat × Nat) : Bool :=
  match before.filter fun (y : Nat × Nat × Nat × Nat) => y.2.2.1 == x.2.2.1 with
  | [] => true
  | [y] => y.2.1 == x.2.1 && (x.2.1 == 9 || x.2.1 == 10) && y.1 != x.1
  | _ => false

/-- No object is named twice (R44). -/
def namesOnce : List (Nat × Nat × Nat × Nat) → List (Nat × Nat × Nat × Nat) → List Check
  | _, [] => []
  | before, x :: r => (nameOk before x, x.2.2.2) :: namesOnce (before ++ [x]) r

/-- An axis the YL-D480-2P lacks (R2). -/
def absentAxis (variant a : Nat) : Bool := variant != 4 && a < 8 && 2 ≤ a % 4

/-- R44. -/
def portalRules (b : List Byte) (variant : Nat) : List Check :=
  (cfgPortals b).flatMap (fun p =>
    let o := portalCfg p
    let f := fun k => getN b (o + k) 1
    portalRanges b p ++
    [(f 7 != f 8, o + 8), (f 4 == 255 || f 14 != 0, o + 14),
     (decide (2 * getN b (o + 28) 4 < (getI b (o + 24) 4 - getI b (o + 20) 4).natAbs), o + 24),
     (!absentAxis variant (f 3), o + 3), (!absentAxis variant (f 4), o + 4)]) ++
  namesOnce [] (namedAxes b) ++ namesOnce [] (namedLoads b) ++ namesOnce [] (namedInputs b)

/-- Ranges of an axis entry (Table 1 of chapter 03). -/
def axisRanges (b : List Byte) (a : Nat) : List Check :=
  inRanges b (axisCfg a) [(0, 1, 0, 7), (1, 1, 0, 4), (3, 1, 0, 5), (4, 4, 1, 16000000), (48, 2, 0, 500), (50, 2, 0, 500), (52, 2, 0, 500),
    (54, 2, 0, 500)]

/-- Step increment of the coarsest resolution that RES_MODE allows (R78, R98); 1 for a DC axis (R96). -/
def coarsest (b : List Byte) (a : Nat) : Nat :=
  if 3 ≤ getN b (axisCfg a + 1) 1 then 1
  else match getN b (axisCfg a + 3) 1 with
    | 1 => 1
    | 2 => 4
    | 3 => 16
    | 4 => 64
    | _ => 256

/-- A position lies within the soft limits of an axis that has them (R78). -/
def softOk (b : List Byte) (a : Nat) (pos : Int) : Bool :=
  !bit (getN b (axisCfg a + 2) 1) 0 || (decide (getI b (axisCfg a + 24) 4 ≤ pos) && decide (pos ≤ getI b (axisCfg a + 28) 4))

/-- R78. -/
def axisRules (b : List Byte) : List Check :=
  axisNums.flatMap (fun a =>
    let o := axisCfg a
    let g := fun k => getN b (o + k) 4
    axisRanges b a ++
    [(g 8 != 0, o + 8), (g 12 != 0, o + 12), (g 16 != 0, o + 16), (decide (g 12 ≤ g 20), o + 20),
     (!bit (getN b (o + 2) 1) 0 || decide (getI b (o + 24) 4 < getI b (o + 28) 4), o + 28),
     (decide (g 32 < g 36), o + 36), (decide (g 36 < g 40), o + 40), (decide (g 40 < g 44), o + 44),
     (decide (g 32 ≤ 1000000), o + 32), (decide (g 36 ≤ 4000000), o + 36), (decide (g 40 ≤ 16000000), o + 40),
     (decide (g 44 ≤ 64000000), o + 44), (decide (g 4 ≤ 1000000 * coarsest b a), o + 4)]) ++
  (cfgPortals b).flatMap fun p =>
    let o := portalCfg p
    let d := getN b (o + 3) 1
    let s := getN b (o + 4) 1
    let stowed := getI b (o + 36) 4
    [(softOk b d (getI b (o + 20) 4), o + 20), (softOk b d (getI b (o + 24) 4), o + 24),
     (s == 255 || softOk b s stowed, o + 36), (s == 255 || softOk b s (stowed + 300 * getI b (o + 40) 4 / 65536), o + 40)]

/-- Ranges of a drive entry (Table 2 of chapter 04). -/
def driveRanges (b : List Byte) (a : Nat) : List Check :=
  let o := driveCfg a
  inRanges b o [(0, 1, 0, 7), (1, 1, 0, 2), (2, 1, 0, 100), (3, 1, 5, 40), (4, 2, 200, 12000), (6, 2, 20, 2000), (8, 1, 0, 100), (9, 1, 4, 80),
    (10, 2, 0, 1000), (12, 1, 20, 80), (14, 1, 0, 2), (15, 1, 1, 255), (24, 1, 10, 100), (25, 1, 32, 240)] ++
  [if getN b (axisCfg a + 1) 1 = 4 then inRange b (o + 26) 2 200 12000 else inRange b (o + 26) 2 0 0]

/-- R116. -/
def driveRules (b : List Byte) (variant : Nat) : List Check :=
  axisNums.flatMap fun a =>
    let o := driveCfg a
    let mode := getN b (axisCfg a + 1) 1
    let named_ := (namedAxes b).any fun (x : Nat × Nat × Nat × Nat) => x.2.2.1 == a
    driveRanges b a ++
    [(!named_ || mode != 0, axisCfg a + 1), (!absentAxis variant a || mode == 0, axisCfg a + 1),
     (decide (mode < 2) || getN b (fbCfg a + 1) 1 != 0, fbCfg a + 1),
     (getN b (o + 16) 4 == 0 || getN b (o + 20) 4 == 0 || decide (getN b (o + 16) 4 ≤ getN b (o + 20) 4), o + 20),
     (decide ((50 * getN b (o + 3) 1 + 250 * getN b (o + 9) 1) * getN b (o + 12) 1 ≤ 1000000), o + 12)]

/-- Ranges of a feedback entry (Table 2 of chapter 05). -/
def fbRanges (b : List Byte) (a : Nat) : List Check :=
  let o := fbCfg a
  let source := getN b (o + 1) 1
  inRanges b o [(0, 1, 0, 7), (1, 1, 0, 3), (2, 1, 1, if source = 3 then 4 else 8), (3, 1, 0, 2), (4, 1, 0, 2), (5, 1, 0, 1), (6, 1, 0, 2),
    (7, 1, 0, 2), (8, 2, 1, 65535), (10, 2, 1, 1000), (12, 2, 20, 2000), (14, 2, 1, 65535), (24, 4, 1, 2147483647), (32, 1, 0, 2), (33, 1, 18, 40),
    (34, 1, 1, 100), (35, 1, 0, 3), (36, 2, 0, 80)] ++
  (if source = 2 then [inRange b (o + 16) 4 8 4096] else if getN b (o + 5) 1 = 1 then [inRange b (o + 16) 4 2 2147483647] else [])

/-- Clocks of one serial frame (R156, R170): BiSS-C adds 12, DOUBLE_READ repeats the word. -/
def sspClocks (b : List Byte) (o : Nat) : Nat :=
  let bits := getN b (o + 33) 1
  if getN b (o + 32) 1 = 0 then bits + 12 else if bit (getN b (o + 38) 1) 0 then 2 * bits else bits

/-- R156. -/
def fbRules (b : List Byte) : List Check :=
  (axisNums.filter fun a => getN b (fbCfg a + 1) 1 != 0).flatMap fun a =>
    let o := fbCfg a
    let source := getN b (o + 1) 1
    let input := getN b (o + 2) 1
    let dc : Bool := decide (3 ≤ getN b (axisCfg a + 1) 1)
    let half := if source = 3 then 2 else 4
    let taken := (List.range a).any fun c =>
      getN b (fbCfg c + 1) 1 != 0 && (getN b (fbCfg c + 1) 1 == 3) == (source == 3) && getN b (fbCfg c + 2) 1 == input
    let named_ := (namedAxes b).any fun (x : Nat × Nat × Nat × Nat) => x.2.2.1 == a
    fbRanges b a ++
    [(decide (input ≤ half) == (axisIsland a == isM1), o + 2), (!taken, o + 2), (!dc || source != 2, o + 1),
     (!dc || (getI b (o + 20) 4).natAbs == getN b (o + 24) 4, o + 24), (getN b (o + 5) 1 == 0 || (dc && !named_), o + 5),
     (source != 3 || decide (sspClocks b o * 10000 ≤ 20000 * 2 ^ getN b (o + 35) 1 * getN b (o + 34) 1), o + 35)]

/-! ### Obstacles, ring, loads, field -/

/-- Ranges of an obstacle entry (Table 1 of chapter 06). -/
def obstRanges (b : List Byte) (p : Nat) : List Check :=
  inRanges b (obstCfg p) [(0, 1, 1, 4), (1, 1, 0, 2), (2, 1, 2, 7), (3, 1, 1, 32), (10, 2, 20, 400), (12, 2, 20, 1000), (14, 2, 1, 500), (16, 2, 0, 100)]

/-- R186. -/
def obstRules (b : List Byte) : List Check :=
  (cfgPortals b).flatMap fun p =>
    let o := obstCfg p
    let q := portalCfg p
    let edge := getN b (q + 15) 1
    let step := getN b (q + 4) 1
    obstRanges b p ++
    [(getN b (fbCfg (getN b (q + 3) 1) + 1) 1 != 0, fbCfg (getN b (q + 3) 1) + 1), (getN b (o + 4) 4 != 0, o + 4), (getN b (o + 8) 2 != 0, o + 8),
     (decide (getN b (o + 3) 1 ≤ 2 ^ getN b (o + 2) 1), o + 3), (decide (getN b (o + 4) 4 ≤ 5 * 65536 * getN b (q + 48) 2), o + 4),
     (match getN b (o + 1) 1 with
       | 0 => edge == 0
       | 1 => edge != 0
       | _ => decide (41 ≤ edge) && decide (edge ≤ 48) && getN b (2376 + 4 * (edge - 1) + 1) 1 == 1, o + 1),
     (getN b (o + 20) 4 == 0 || (step != 255 && getN b (fbCfg step + 1) 1 != 0), o + 20)]

/-- Ranges of the ring entry (Table 2 of chapter 07). -/
def ringRanges (b : List Byte) : List Check :=
  inRanges b 2064 [(0, 1, 1, 16), (1, 1, 0, 16), (2, 1, 1, 16), (3, 1, 1, 16), (6, 2, 10, 500), (8, 2, 2, 1000), (10, 2, 2, 1000), (12, 2, 5, 200)]

/-- Inputs the ring entry names: input and offset. -/
def ringInputs (b : List Byte) : List (Nat × Nat) :=
  ([2064, 2065, 2066, 2067].filter fun o => getN b o 1 != 0).map fun o => (getN b o 1, o)

/-- R219. -/
def ringRules (b : List Byte) : List Check :=
  ringRanges b ++
  (ringInputs b).map (fun (x : Nat × Nat) =>
    (!((ringInputs b).any fun (y : Nat × Nat) => y.1 == x.1 && decide (y.2 < x.2)) &&
      !((namedInputs b).any fun (y : Nat × Nat × Nat × Nat) => y.2.2.1 == x.1), x.2)) ++
  (if bit (getN b 2068 1) 0 then (cfgPortals b).map fun p => inRange b (portalCfg p + 10) 1 1 16 else [])

/-- Ranges of a load-channel entry (Table 1 of chapter 08). -/
def loadRanges (b : List Byte) (n : Nat) : List Check :=
  let o := loadCfg n
  let mode := getN b (o + 1) 1
  inRanges b o [(0, 1, 1, 16), (1, 1, 0, 3), (2, 1, 0, if mode = 2 ∨ mode = 3 then 3 else 0), (4, 2, 500, 6000), (8, 2, 0, 4095), (10, 1, 0, 15)] ++
  [if bit (getN b (o + 3) 1) 1 then zeroOr b (o + 6) 2 5 200 else zeroOr b (o + 6) 2 50 2000]

/-- R242. -/
def loadRules (b : List Byte) : List Check :=
  nums16.flatMap fun n =>
    let o := loadCfg n
    let mode := getN b (o + 1) 1
    let by_ := (namedLoads b).filter fun (x : Nat × Nat × Nat × Nat) => x.2.2.1 == n
    let lock := by_.any fun (x : Nat × Nat × Nat × Nat) => x.2.1 == 5
    let lamp := by_.any fun (x : Nat × Nat × Nat × Nat) => x.2.1 != 5
    loadRanges b n ++
    [(by_.isEmpty || mode != 0, o + 1), (!lock || mode == 1, o + 1), (!lock || !bit (getN b (o + 3) 1) 2, o + 3), (!lamp || mode != 3, o + 1)]

/-- Ranges of the field settings (Tables 4 to 6 of chapter 09). -/
def fieldRanges (b : List Byte) : List Check :=
  ((List.range 6).flatMap fun k => inRanges b (2352 + 4 * k) [(0, 1, 1, 6), (1, 1, 0, 2)]) ++
  ((List.range 48).flatMap fun k => inRanges b (2376 + 4 * k) [(0, 1, 1, 48), (1, 1, 0, 1), (2, 1, 0, 200)]) ++
  ((List.range 16).flatMap fun k =>
    inRanges b (2568 + 8 * k) [(0, 1, 1, 16), (2, 2, 100, 750), (6, 1, 0, 15)] ++ [zeroOr b (2568 + 8 * k + 4) 2 10 500])

/-- R284. -/
def fieldRules (b : List Byte) : List Check :=
  let safety := ((namedInputs b).map fun (x : Nat × Nat × Nat × Nat) => x.2.2.1) ++ (ringInputs b).map (·.1)
  fieldRanges b ++
  (List.range 48).flatMap fun k =>
    let o := 2376 + 4 * k
    [(decide (40 ≤ k) || getN b (o + 1) 1 == 0, o + 1),
     (decide (16 ≤ k) || !safety.contains (k + 1) || decide (10 ≤ getN b (o + 2) 1), o + 2)]

/-! ### CAN, Ethernet, recorder, pair, time -/

/-- Ranges of a bit timing entry (Table 2 of chapter 12). -/
def timingRanges (b : List Byte) (o : Nat) : List Check :=
  inRanges b o [(0, 2, 1, 256), (2, 2, 2, 256), (4, 1, 1, 128), (5, 1, 1, getN b (o + 4) 1), (6, 1, 1, 32), (7, 1, 1, 32), (8, 1, 1, 16),
    (9, 1, 1, getN b (o + 8) 1), (10, 1, 0, 127)]

/-- Rates of a bit timing entry (R361), as clock periods of 80 MHz in a bit. -/
def timingRules (b : List Byte) (o : Nat) (fd : Bool) : List Check :=
  let nq := getN b o 2 * (1 + getN b (o + 2) 2 + getN b (o + 4) 1)
  let dq := getN b (o + 6) 1 * (1 + getN b (o + 7) 1 + getN b (o + 8) 1)
  timingRanges b o ++
  [(decide (80 ≤ nq) && decide (nq ≤ 8000), o), (!fd || (decide (16 ≤ dq) && decide (dq ≤ nq)), o + 6),
   (decide (80 ≤ dq) || getN b (o + 10) 1 != 0, o + 10)]

/-- Ranges of a controller entry (Table 1 of chapter 12), its timing apart. -/
def ctlRanges (b : List Byte) (c : Nat) : List Check :=
  inRanges b (canCfg c) [(0, 1, 0, 1), (1, 1, 0, 3), (28, 2, 10, 1000), (32, 2, 100, 5000), (34, 2, 100, 5000), (36, 2, 10, 10000), (38, 1, 1, 8)]

/-- An identifier field: none, or without reserved bits and in 11 bits when it has no IDE (R361). -/
def idOk (v : Nat) : Bool := v == 0xFFFFFFFF || (bitsAt v 29 2 == 0 && (bit v 31 || decide (v ≤ 0x7FF)))

/-- R361. -/
def canRules (b : List Byte) : List Check :=
  [0, 1].flatMap fun c =>
    let o := canCfg c
    let fd := bit (getN b (o + 2) 1) 0
    let req := getN b (o + 16) 4
    let rsp := getN b (o + 20) 4
    let pi := getN b (o + 24) 4
    let no := 0xFFFFFFFF
    ctlRanges b c ++ timingRules b (o + 4) fd ++
    ((List.range (min 8 (getN b (o + 38) 1))).flatMap fun k => timingRules b (o + 40 + 12 * k) fd) ++
    [(idOk req, o + 16), (idOk rsp, o + 20), (idOk pi, o + 24), (rsp == no || rsp != req, o + 20), (pi == no || (pi != req && pi != rsp), o + 24),
     (fd || pi == no, o + 24), (fd || !bit (getN b (o + 3) 1) 0, o + 3)]

/-- Offset of a VLAN entry. -/
def vlanCfg (k : Nat) : Nat := 3016 + 40 + 4 * k

/-- Ranges of the Ethernet entry (Tables 1 and 2 of chapter 13). -/
def ethRanges (b : List Byte) : List Check :=
  inRanges b 3016 [(1, 1, 0, 4), (2, 1, 0, 4), (3, 1, 8, 30), (12, 2, 1, 4094), (14, 2, 1, 4094), (16, 2, 1, 4094), (18, 1, 0, 7), (19, 1, 0, 7),
    (24, 4, 1, 0xFFFFFFFF), (28, 2, 10, 1000), (72, 2, 10, 1000)] ++
  (List.range 8).map fun k => inRange b (vlanCfg k) 2 0 4094

/-- The VLAN entry of a VID, if one has it. -/
def vlanOf (b : List Byte) (vid : Nat) : Option Nat := ((List.range 8).map vlanCfg).find? fun o => getN b o 2 == vid

/-- A port is a member of the VLAN of a VID: ETH1 0, ETH2 1, HOST 2. -/
def vlanHas (b : List Byte) (vid port : Nat) : Bool := (vlanOf b vid).any fun o => bit (getN b (o + 2) 1) port

/-- R389; PD_DEST is a unicast or a multicast address (Table 1): its first octet lies from 1 to 239. -/
def ethRules (b : List Byte) : List Check :=
  let pvid := fun port => getN b (3016 + if port = 0 then 14 else if port = 1 then 16 else 12) 2
  let ip := getN b 3020 1
  let used := ((List.range 8).map vlanCfg).filter fun o => getN b o 2 != 0
  ethRanges b ++
  used.map (fun o => (!used.any fun q => getN b q 2 == getN b o 2 && decide (q < o), o)) ++
  [(vlanHas b (pvid 2) 2, 3028), (vlanHas b (pvid 0) 0, 3030), (vlanHas b (pvid 1) 1, 3032),
   (decide (1 ≤ ip) && decide (ip ≤ 223) && ip != 127, 3020), (decide (1 ≤ getN b 3036 1) && decide (getN b 3036 1 ≤ 239), 3036)] ++
  used.map fun o => ([0, 1, 2].all fun port => !bit (getN b (o + 3) 1) port || getN b o 2 == pvid port, o + 3)

/-- Ranges of the recorder entry (Table 6 of chapter 15). -/
def recRanges (b : List Byte) : List Check := inRanges b 3112 [(1, 1, 5, 100)]

/-- Ranges of the pair entry (Table 1 of chapter 16). -/
def pairRanges (b : List Byte) : List Check :=
  inRanges b 3120 [(0, 1, 0, 2), (2, 2, 5, 200), (4, 1, 1, 50), (5, 1, 1, 240), (6, 2, 1, 168), (8, 4, 64, 1000000), (12, 2, 60, 65535)]

/-- R461. -/
def pairRules (b : List Byte) (id : Nat) : List Check :=
  if getN b 3120 1 = 1 ∨ getN b 3120 1 = 2 then
    pairRanges b ++ [(getN b 3120 1 == 2 || decide (id < 2), 3120)] ++
    (namedAxes b).flatMap fun (x : Nat × Nat × Nat × Nat) =>
      [(bit (getN b (driveCfg x.2.2.1 + 13) 1) 2, driveCfg x.2.2.1 + 13), (getN b (fbCfg x.2.2.1 + 1) 1 == 1, fbCfg x.2.2.1 + 1)]
  else []

/-- Ranges of the time entry (Table 2 of chapter 11): no source twice, LOG_SYNC from -3 to 1. -/
def timeRanges (b : List Byte) : List Check :=
  inRanges b 2696 [(0, 1, 0, 3), (1, 1, 0, 3), (2, 1, 0, 3), (3, 1, 0, 3), (4, 1, 0, 127), (5, 1, 0, 1), (8, 2, 500, 10000), (10, 2, 10, 65535),
    (12, 2, 1, 500)] ++
  [(decide (-3 ≤ getI b 2702 1) && decide (getI b 2702 1 ≤ 1), 2702)] ++
  [1, 2, 3].map fun k => (getN b (2696 + k) 1 == 0 || !(List.range k).any (fun j => getN b (2696 + j) 1 == getN b (2696 + k) 1), 2696 + k)

/-! ### The whole configuration -/

/-- Step 3 of R530. -/
def acceptance (b : List Byte) (variant id : Nat) : List Check :=
  portalRules b variant ++ axisRules b ++ driveRules b variant ++ fbRules b ++ obstRules b ++ ringRules b ++ loadRules b ++ fieldRules b ++
    canRules b ++ ethRules b ++ recRanges b ++ reserved0 b 3112 [(0, 1, 0xF0), (2, 6, allBits 6)] ++ pairRules b id

/-- Reserved fields of every table. -/
def reservedFields (b : List Byte) : List Check :=
  reserved0 b 8 [(0, 8, allBits 8)] ++
  (portalNums.flatMap fun p => reserved0 b (portalCfg p) [(52, 12, allBits 12)]) ++
  (axisNums.flatMap fun a =>
    reserved0 b (axisCfg a) [(2, 1, 0xFC), (56, 8, allBits 8)] ++ reserved0 b (driveCfg a) [(13, 1, 0xF8), (40, 24, allBits 24)] ++
      reserved0 b (fbCfg a) [(38, 1, 0xFE), (39, 1, 0xFF), (44, 20, allBits 20)]) ++
  (portalNums.flatMap fun p => reserved0 b (obstCfg p) [(28, 36, allBits 36)]) ++
  reserved0 b 2064 [(4, 1, 0xFC), (5, 1, 0xFF), (14, 18, allBits 18)] ++
  (nums16.flatMap fun n => reserved0 b (loadCfg n) [(3, 1, 0xF0), (11, 5, allBits 5)]) ++
  ((List.range 6).flatMap fun k => reserved0 b (2352 + 4 * k) [(2, 1, 0xFE), (3, 1, 0xFF)]) ++
  ((List.range 48).flatMap fun k => reserved0 b (2376 + 4 * k) [(3, 1, 0xFE)]) ++
  ((List.range 16).flatMap fun k => reserved0 b (2568 + 8 * k) [(1, 1, 0xFC), (7, 1, 0xFF)]) ++
  reserved0 b 2696 [(7, 1, 0xF8), (16, 16, allBits 16)] ++
  ([0, 1].flatMap fun c =>
    reserved0 b (canCfg c) [(2, 1, 0xC0), (3, 1, 0xFE), (15, 1, 0xFF), (39, 1, 0xFF), (136, 8, allBits 8)] ++
      (List.range 8).flatMap fun k => reserved0 b (canCfg c + 40 + 12 * k) [(11, 1, 0xFF)]) ++
  reserved0 b 3016 [(0, 1, 0xF0), (30, 2, 0xFFFF), (74, 22, allBits 22)] ++
  ((List.range 8).flatMap fun k => reserved0 b (vlanCfg k) [(2, 1, 0xF8), (3, 1, 0xF8)]) ++
  reserved0 b 3112 [(0, 1, 0xF0), (2, 6, allBits 6)] ++ reserved0 b 3120 [(1, 1, 0xF8), (14, 18, allBits 18)]

/-- Step 4 of R530; the portal and obstacle entries of a disabled portal are checked in PORTAL, ENABLE and reserved fields only. -/
def everyField (b : List Byte) : List Check :=
  (portalNums.flatMap fun p =>
    if cfgEnabled b p then portalRanges b p ++ obstRanges b p
    else inRanges b (portalCfg p) [(0, 1, 1, 4), (1, 1, 0, 1)] ++ inRanges b (obstCfg p) [(0, 1, 1, 4)]) ++
  (axisNums.flatMap fun a => axisRanges b a ++ driveRanges b a ++ fbRanges b a) ++ ringRanges b ++ (nums16.flatMap fun n => loadRanges b n) ++
  fieldRanges b ++ timeRanges b ++
  ([0, 1].flatMap fun c =>
    ctlRanges b c ++ timingRanges b (canCfg c + 4) ++ (List.range 8).flatMap fun k => timingRanges b (canCfg c + 40 + 12 * k)) ++
  ethRanges b ++ recRanges b ++ pairRanges b ++ reservedFields b

/-- The field an offset names is a portal's DOOR_AXIS or STEP_AXIS and maps an axis the YL-D480-2P lacks (R2). -/
def mapsAbsent (b : List Byte) (variant off : Nat) : Bool :=
  (cfgPortals b).any fun p => (off == portalCfg p + 3 || off == portalCfg p + 4) && absentAxis variant (getN b off 1)

/-- Steps 2 to 4 of R530: the offset of the first field that breaks a rule. -/
def configFails (b : List Byte) (variant id : Nat) : Option Nat :=
  if getN b 0 2 ≠ 1 then some 0
  else match firstBad (acceptance b variant id) with
    | some o => some o
    | none => firstBad (everyField b)

/-- The answer to a configuration whose first field to break a rule stands at an offset: TARGET_ABSENT where the field maps an axis the
YL-D480-2P lacks (R2), CONFIG_INVALID with the offset for any other (R530; log entry 129). -/
def configAnswer (b : List Byte) (variant off : Nat) : Nat × List Byte :=
  if mapsAbsent b variant off then (stTargetAbsent, []) else (stConfigInvalid, leBytes 2 off)

end Sys2Proof.Machine
end

