-- ==== Sys2Proof/Machine/Warden.lean ====
section
/-! DEFINITION. The warden (chapter 18): sensors R523 to R526, NOR banks R528 to R533, activation R534 to R541, and the commands R544.
The choices this file makes are in log entries 70 to 79. -/

namespace Sys2Proof.Machine

/-- The module with its warden changed. -/
def ModuleState.setWarden (m : ModuleState) (f : Warden → Warden) : ModuleState := { m with warden := f m.warden }

/-! ### Sensors -/

/-- Warning level of a temperature point, 0.1 °C (R523 Table 1). -/
def warnLevel (k : Nat) : Int := if k = 10 then 1150 else if k = 11 then 950 else 1300

/-- A temperature point judged (R523): SENSOR_WARN above its level, and cleared 5 K below it. -/
def ModuleState.judgeTemp (m : ModuleState) (k : Nat) : ModuleState :=
  let t := m.warden.temps.getD k 0
  let was := bit m.warden.tempWarn k
  let now : Bool := if was then decide (warnLevel k - 50 < t) else decide (warnLevel k < t)
  if now == was then m
  else (m.setWarden fun w => { w with tempWarn := setBit w.tempWarn k now }).log evSensorWarn tgModule [(k + 1 : Nat), t, flagItem now]

/-- SHOCK (R525): a magnitude above 10 g on an axis, at most once a second. -/
def ModuleState.judgeShock (m : ModuleState) (s : Nat × Nat × Nat) : ModuleState :=
  if (1000 < s.1 || 1000 < s.2.1 || 1000 < s.2.2) && (m.warden.shockAt.isNone || m.dueO m.warden.shockAt (seconds 1)) then
    (m.setWarden fun w => { w with shockAt := some m.now }).log evShock tgModule [(s.1 : Int), (s.2.1 : Int), (s.2.2 : Int)]
  else m

/-- A condition's start: kept while it holds, none while it does not. -/
def sinceIf (c : Bool) (was : Option Nat) (now : Nat) : Option Nat := if c then some (was.getD now) else none

/-- The warden's values after a sample (R523, R524, R556, R562). -/
def Warden.sampled (w : Warden) (x : SensorSample) (now : Nat) : Warden :=
  { w with
    temps := x.temps
    vctl := x.vctl
    vdrv := x.vdrv
    bulk := x.bulk
    vfo := x.vfo
    holdCap := x.holdCap
    rails := x.rails
    railFault := w.railFault && x.rails != 0
    dew := x.dew
    dewLowSince := sinceIf (decide (x.dew < 20)) w.dewLowSince now
    dewHighSince := sinceIf (decide (40 < x.dew)) w.dewHighSince now
    shock := (max w.shock.1 x.shock.1, max w.shock.2.1 x.shock.2.1, max w.shock.2.2 x.shock.2.2)
    surgeAt := sinceIf (decide (1560 < x.vdrv)) w.surgeAt now
    shutdown := w.shutdown && decide (950 ≤ x.temps.getD 11 0)
    pLogic := x.pLogic }

/-- The dissipation of the sample taken in, with its means over 1 s and 60 s (R557, R565). -/
def Warden.spent (w : Warden) (power now : Nat) : Warden :=
  let powers := (w.powers.filter fun x => now < x.1 + seconds 60) ++ [(now, power)]
  { w with powers, pModule := meanPower powers now (seconds 1), pMean60 := meanPower powers now (seconds 60) }

/-- The lowest VDRV of each portal's cycle (R433). -/
def ModuleState.noteVdrv (m : ModuleState) : ModuleState :=
  { m with portals := m.portals.map fun q => { q with cycle := { q.cycle with minVdrv := min q.cycle.minVdrv m.warden.vdrv } } }

/-- WARDEN_SENSOR_SAMPLE (R523); VFO is that of the last frame of the general lane (R293). -/
def execWardenSensorSample (t : Nat) (x : SensorSample) (s : State) : Host.Outcome State Fault Refusal :=
  happen (x.temps.length == 12) t (fun m =>
    if !m.runs isWarden then m
    else
      let m1 := (({ m with loadCommon := { m.loadCommon with vls := x.vls } }).setWarden fun w => (w.sampled { x with vfo := if m.field.stale then w.vfo else x.vfo } m.now).spent (m.dissipation x) m.now).noteVdrv
      ((m1.followVdrv m.vdrvPresent).each (List.range 12) fun m k => m.judgeTemp k).judgeShock x.shock) s

/-- CONDENSATION_CHANGE (R524): the margin has stayed below 2.0 K, or above 4.0 K, for 60 s. -/
def execCondensationChange (t : Nat) (s : State) : Host.Outcome State Fault Refusal :=
  happen true t (fun m =>
    let w := m.warden
    let since := if w.condensation then w.dewHighSince else w.dewLowSince
    if m.runs isWarden && m.dueO since (seconds 60) then
      (m.setWarden fun w => { w with condensation := !w.condensation }).log evCondensation tgModule [flagItem w.condensation, w.dew]
    else m) s

/-- RAIL_FAULT_DETECTED (R526, R567, R570): a logic rail; the safety island whose own regulator it is restarts, any other rail resets
the module. -/
def execRailFaultDetected (t rail mv : Nat) (owner : Option Nat) (s : State) : Host.Outcome State Fault Refusal :=
  happen (rail < 8 && owner.all (· < 2)) t (fun m =>
    if m.reset.phase == .held || m.reset.phase == .lockout then m
    else
      let m1 := (m.setWarden fun w => { w with
        rails := setBit w.rails rail true, railFault := true, railReset := w.railReset || owner.isNone }).log evRailFault tgModule
          [(rail : Int), (mv : Int)]
      match owner with
      | some k => m1.restartIsland (3 + k) .rail
      | none => m1) s

/-! ### Images -/

/-- Bytes the image region leaves for the image itself (R528 Table 2, R533). -/
def imageRoom : Nat := 24 * 1048576 - 0x4000

/-- The checks of R511 on a bank: the cause of IMAGE_REFUSED of the first that fails, DIGEST 0, VENDOR_SIG 1, INTEGRATOR_SIG 2,
ROLLBACK 3. A block without MAGIC or FORMAT, or with a length that does not fit (R533), fails the first (log entry 73). -/
def ModuleState.imageFails (m : ModuleState) (n : Nat) : Option Nat :=
  let block := m.image n 0 0x4000
  let len := getN block 12 4
  let vlen := getN block 80 2
  let ilen := getN block (82 + vlen) 2
  if getN block 0 4 ≠ 0x42534C59 ∨ getN block 4 2 ≠ 1 ∨ imageRoom < len ∨
      getN block 16 64 ≠ Config.shake256 (m.image n 0x4000 (min len imageRoom)) 64 then some 0
  else if vlen ≠ 2820 ∨ !([0, 1, 2, 3].any fun k =>
      !bit m.sec.vendorRevoked k && Config.signatureOk (Config.vendorKey k) (block.take 80) ((block.drop 82).take vlen)) then some 1
  else if !m.integratorSigned (block.take (82 + vlen)) ((block.drop (84 + vlen)).take ilen) then some 2
  else if getN block 8 4 < m.sec.fwSvn then some 3
  else none

/-- A bank judged under R511: each failure logs IMAGE_REFUSED. -/
def ModuleState.judgeImage (m : ModuleState) (n : Nat) : Option Nat × ModuleState :=
  match m.imageFails n with
  | some c => (some c, m.log evImageRefused tgModule [(n : Int), (c : Int)])
  | none => (none, m)

/-- The status of a failure of R511. -/
def imageStatus (cause : Nat) : Nat := if cause = 3 then stRollback else stSignatureInvalid

/-- The inactive bank. -/
def ModuleState.inactive (m : ModuleState) : Nat := 1 - m.warden.activeBank

/-- The module with one bank changed. -/
def ModuleState.setBank (m : ModuleState) (n : Nat) (f : Bank → Bank) : ModuleState := m.setWarden fun w => { w with banks := upd w.banks n f }

/-- IMAGE_WRITE (R532): with ERASE the data waits for the erase. -/
def imageWriteBody (c : Cmd) (m : ModuleState) : Result :=
  let off := getN c.data 0 4
  let erase := bit (getN c.data 4 1) 0
  let data := c.data.drop 8
  let n := m.inactive
  if off % 8 ≠ 0 ∨ 24 * 1048576 < off + data.length ∨ (erase ∧ off ≠ 0) then refuse m stValueOutOfRange
  else if m.warden.erasing.isSome then refuse m stUpdateBusy
  else
    let (bad, m1) := m.norTry n (if erase then 1 else 0)
    if bad then refuse (m1.setBank n fun b => { b with state := .written }) stNorFault
    else if erase then
      { acts := [.wd], m := (m1.setBank n fun b => { b with state := .written }).setWarden fun w => { w with erasing := some m.now, afterErase := data } }
    else { acts := [.wd], m := m1.setBank n fun b => { b with state := .written, writes := b.writes ++ [(off, data)] } }

def imageWriteSpec : CmdSpec :=
  { opcode := 0x0F02, roles := .only [.maintainer, .integrator], size := fun n => 9 ≤ n && n ≤ 8 + 4056
    fields := fun b => getN b 4 1 < 2 && getN b 5 3 == 0, body := imageWriteBody }

/-- IMAGE_WRITE (R532). -/
def execImageWrite (p : Packet) (s : State) : Host.Outcome State Fault Refusal := .next (submit imageWriteSpec p s)

/-- IMAGE_ERASE_DONE (R532, R541): the erase ends, and the data that waited is written; or it has failed. -/
def execImageEraseDone (t : Nat) (failed : Bool) (s : State) : Host.Outcome State Fault Refusal :=
  happen true t (fun m =>
    if m.warden.erasing.isNone || !m.runs isWarden then m
    else
      let n := m.inactive
      let data := m.warden.afterErase
      let m1 := (m.setWarden fun w => { w with erasing := none, afterErase := [] }).setBank n fun b =>
        { b with erased := true, writes := if failed then [] else [(0, data)] }
      if failed then m1.log evNorFault tgModule [(n : Int), 0, 1] else m1.log evImageErased tgModule [(n : Int)]) s

/-- IMAGE_VERIFY (R533). -/
def imageVerifyBody (_ : Cmd) (m : ModuleState) : Result :=
  if m.warden.erasing.isSome then refuse m stUpdateBusy
  else { acts := [.wd, .fg], m := m.setWarden fun w => { w with verifying := some m.now } }

def imageVerifySpec : CmdSpec :=
  { opcode := 0x0F03, roles := .only [.maintainer, .integrator], size := (· == 0), body := imageVerifyBody }

/-- IMAGE_VERIFY (R533). -/
def execImageVerify (p : Packet) (s : State) : Host.Outcome State Fault Refusal := .next (submit imageVerifySpec p s)

/-- IMAGE_VERIFY_DONE (R533): the bank becomes VERIFIED or REFUSED. -/
def execImageVerifyDone (t : Nat) (s : State) : Host.Outcome State Fault Refusal :=
  happen true t (fun m =>
    if m.warden.verifying.isNone || !m.runs isWarden || m.warden.erasing.isSome then m
    else
      let n := m.inactive
      let (fails, m1) := m.judgeImage n
      let m2 := (m1.setWarden fun w => { w with verifying := none }).setBank n fun b => { b with state := if fails.isNone then .verified else .refused }
      m2.log evImageVerified tgModule [(n : Int), match fails with
        | some c => ((c + 1 : Nat) : Int)
        | none => 0]) s

/-! ### Configuration -/

/-- CONFIG_LOAD (R530): signature, FORMAT, acceptance rules, every field; then the configuration is pending in both banks. -/
def configLoadBody (c : Cmd) (m : ModuleState) : Result :=
  let b := c.data
  let cfg := b.take 3152
  if b.length < 3154 ∨ b.length ≠ 3154 + getN b 3152 2 ∨ !m.integratorSigned cfg (b.drop 3154) then refuse m stSignatureInvalid
  else match configFails cfg m.variant m.pair.id with
    | some o => { status := (configAnswer cfg m.variant o).1, data := (configAnswer cfg m.variant o).2, m }
    | none =>
      if m.warden.activation.isSome then refuse m stUpdateBusy
      else
        let (bad, m1) := m.norTry 0 0
        if bad then refuse m1 stNorFault
        else
          let m2 := m1.setWarden fun w => { w with pendingCfg := some cfg }
          { acts := [.fg, .wd]
            m := m2.log evConfigStored tgModule [(getN cfg 4 4 : Int), ((Config.shake256 cfg 32 % 2 ^ 64 : Nat) : Int)] }

def configLoadSpec : CmdSpec :=
  { opcode := 0x0F04, roles := .only [.integrator], size := fun _ => true, seg := some 13047, body := configLoadBody }

/-- CONFIG_LOAD (R530). -/
def execConfigLoad (p : Packet) (s : State) : Host.Outcome State Fault Refusal := .next (submit configLoadSpec p s)

/-! ### Angle records -/

/-- The angle record of an axis as it is now (R133). -/
def ModuleState.angleNow (m : ModuleState) (a : Nat) : AngleRecord :=
  { angle := (m.drive a).angle, pos := (m.axis a).cmdPos, moving := (m.axis a).cmdSpeed != 0, cycle := m.recd.cycle }

/-- Axes with ANGLE_SAVE of a motion island that runs (R133). -/
def ModuleState.savingAxes (m : ModuleState) (i : Nat) : List Nat := (axesOf i).filter fun a => bit (m.driveFlags a) 1 && m.runs i

/-- The angle records of a motion island written by the recorder, if that runs (R42, R133). -/
def ModuleState.saveAngles (m : ModuleState) (i : Nat) : ModuleState :=
  if !m.runs isRecorder then m else m.each (m.savingAxes i) fun m a =>
    m.setDrive a fun d => { d with records := .both (m.angleNow a) }

/-- Steps 1 and 2 of R134: the reason of ANGLE_REJECTED, CRC 0, POWER_CYCLE 1, MOVING 2, NO_FEEDBACK 3. -/
def ModuleState.angleFails (m : ModuleState) (a cycle : Nat) : Option Nat :=
  match (m.drive a).record with
  | none => some 0
  | some r => if r.cycle ≠ cycle then some 1 else if r.moving then some 2 else if !m.hasFb a then some 3 else none

/-- R134 for a stepper axis with ANGLE_SAVE: its position is not valid, or awaits validation at its next energisation. -/
def ModuleState.judgeAngle (m : ModuleState) (cycle a : Nat) : ModuleState :=
  if !(m.stepper a && bit (m.driveFlags a) 1) then m
  else match m.angleFails a cycle with
    | some r => m.log evAngleRejected (tgAxis a) [(a : Int), (r : Int), 0]
    | none => m.setDrive a fun d => { d with awaitVal := true, valKept := false }

/-! ### Activation -/

/-- The islands in the order of Table 4. -/
def activationOrder : List Nat := [6, 7, 8, 1, 2, 5, 3, 4, 0, 9]

/-- A journal record written (R534). -/
def ModuleState.journal (m : ModuleState) (f : Journal → Journal) : ModuleState :=
  m.setWarden fun w => { w with journal := { f w.journal with gen := (w.journal.gen + 1) % 2 ^ 32 } }

/-- Bank an activation goes to, by WHAT: IMAGE 0, CONFIG_ONLY 1, FALLBACK 2. -/
def ModuleState.toBank (m : ModuleState) (what : Nat) : Nat := if what = 1 then m.warden.activeBank else m.inactive

/-- A segmented CONFIG_LOAD is being collected (R535). -/
def ModuleState.loadingConfig (m : ModuleState) : Bool := m.interp.collections.any fun c => c.opcode == 0x0F04

/-- The condition of R535 on WHAT. -/
def ModuleState.whatOk (m : ModuleState) (what : Nat) : Bool :=
  match what with
  | 0 => (m.bank m.inactive).state == .verified && (m.warden.pendingCfg.isSome || m.configured) &&
      getN (m.warden.pendingCfg.getD m.warden.config) 2 2 == m.sigField m.inactive 6 2
  | 1 => m.warden.pendingCfg.isSome
  | _ => true

/-- Every enabled portal is CLOSED_LOCKED or ISOLATED with its step STOWED, and the zero-speed line is active on both lanes (R535). -/
def ModuleState.windowOk (m : ModuleState) : Bool :=
  (m.enabledPortals.all fun p =>
    ((m.portal p).door == .closedLocked || (m.portal p).door == .isolated) && ((m.stepAxis p).isNone || (m.portal p).step == .stowed)) &&
    (m.safety 0).sample (m.cfg 2064 1) && (m.safety 1).sample (m.cfg 2064 1)

/-- ACTIVATE (R535, R488, R540), its conditions in the order of R624. -/
def activateBody (c : Cmd) (m : ModuleState) : Result :=
  let what := getN c.data 0 1
  let flags := getN c.data 1 1
  let recovery := m.reset.phase == .recovery
  let standby := m.paired && m.pair.role == .standby
  if !recovery && m.paired && m.duty && m.pair.partner == some .standby then refuse m stDutyHeld
  else
    let (fails, m1) := if what = 2 then m.judgeImage m.inactive else (none, m)
    match fails with
    | some cause => refuse m1 (imageStatus cause)
    | none =>
      if !m.whatOk what || (!recovery && !standby && !(bit flags 0 && m.windowOk)) then refuse m1 stWrongState
      else if m.warden.erasing.isSome || m.loadingConfig || m.warden.activation.isSome then refuse m1 stUpdateBusy
      else
        let (bad, m2) := m1.norTry 0 0
        if bad then refuse m2 stNorFault
        else
          let m3 := if recovery then m2 else m2.leave
          { acts := if recovery then [] else [.wd]
            m := (m3.journal fun j => { j with step := 1, what, fromBank := m.warden.activeBank, toBank := m.toBank what, doneMask := 0 }).setWarden
              fun w => { w with activation := some (m.now, bit flags 1, 0) } }

def activateSpec : CmdSpec :=
  { opcode := 0x0F05, roles := .only [.maintainer, .integrator], size := (· == 4),
    fields := fun b => getN b 0 1 < 3 && getN b 1 1 < 4 && getN b 2 2 == 0, body := activateBody }

/-- ACTIVATE (R535). -/
def execActivate (p : Packet) (s : State) : Host.Outcome State Fault Refusal := .next (submit activateSpec p s)

/-- An activation is abandoned before its commit (R538, R541): an IDLE record. -/
def ModuleState.abandon (m : ModuleState) : ModuleState :=
  let j := m.warden.journal
  ((m.journal fun j => { j with step := 0 }).setWarden fun w => { w with activation := none }).log evActivationAbandoned tgModule
    [(j.fromBank : Int), (j.toBank : Int)]

/-- FW_SVN raised at a commit (R513). -/
def ModuleState.raiseSvn (m : ModuleState) (n : Nat) : ModuleState :=
  let svn := m.sigField n 8 4
  if m.sec.fwSvn < svn then (m.setSec fun x => { x with fwSvn := svn }).log evSvnRaised tgModule [(m.sec.fwSvn : Int), (svn : Int)] else m

/-- Step 3 of Table 4: COMMITTED; the banks change places, FW_SVN is raised, the pending configuration becomes the active one. -/
def ModuleState.commit (m : ModuleState) : ModuleState :=
  let dest := m.warden.journal.toBank
  let src := m.warden.journal.fromBank
  let m1 := (m.journal fun j => { j with step := 2 }).setWarden fun w => { w with
    activeBank := dest
    config := w.pendingCfg.getD w.config
    pendingCfg := none
    banks := upd (upd w.banks src fun b => { b with state := if src = dest then b.state else .verified }) dest fun b => { b with state := .active } }
  m1.raiseSvn dest

/-- Both halves of the record buffer flushed before the recorder restarts (R536). -/
def ModuleState.flushAll (m : ModuleState) : ModuleState :=
  let (r1, grown) := m.recd.copyEvents.store (m.recd.flushing ++ m.recd.buf)
  let m1 := m.setRec fun _ => { r1 with flushing := [], flushBusy := false, flushLeft := 0, buf := [], bufBytes := 0, bufAt := none, seqRecs := .both m.recd.seq }
  m1.each grown fun m g => m.log evCycleRegionGrown tgModule [(g.1 : Int), (g.2.1 : Int), flagItem g.2.2]

/-- The next island of an activation restarts (R536): a motion island writes its angle records first, the recorder flushes. An island
kept stopped starts too. -/
def ModuleState.activateIsland (m : ModuleState) (i : Nat) : ModuleState :=
  let m1 := match i with
    | 1 | 2 => if m.runs i then m.saveAngles i else m
    | 7 => m.flushAll
    | _ => m
  if (m1.island i).state == .stopped then
    ((m1.setIsland i fun x => { x with state := .restarting, restartCause := .activation }).setReset fun r =>
      { r with lastIsland := i, lastCause := .activation })
  else m1.restartIsland i .activation

/-- ACTIVATION_CHECK_DONE (R536 Table 4, steps 2 to 4): TO_BANK passes R511 again and the COMMITTED record is written, or the activation is
abandoned; then the network island restarts. -/
def execActivationCheckDone (t : Nat) (norFault : Bool) (s : State) : Host.Outcome State Fault Refusal :=
  happen true t (fun m =>
    match m.warden.activation with
    | some (at_, rearm, 0) =>
      let (fails, m1) := m.judgeImage m.warden.journal.toBank
      if fails.isSome then m1.abandon
      else if norFault then (m1.log evNorFault tgModule [0, 0, 0]).abandon
      else (m1.commit.setWarden fun w => { w with activation := some (at_, rearm, 1) }).activateIsland 6
    | _ => m) s

/-- The end of an activation (Table 4, step 11): END, ACTIVATION_DONE; out of recovery the module starts (R540). -/
def ModuleState.activated (m : ModuleState) (began : Nat) : ModuleState :=
  let m1 := (m.journal fun j => { j with step := 3 }).setWarden fun w => { w with activation := none }
  let m2 := if m1.reset.phase == .recovery then m1.setReset fun r => { r with phase := .starting, resetEndAt := m.now } else m1
  let j := m2.warden.journal
  m2.log evActivationDone tgModule [(j.what : Int), (j.fromBank : Int), (j.toBank : Int), (((m.now - began) / 1000000 : Nat) : Int)]

/-- REARM (R537): the polder core arms the module as soon as it runs. -/
def ModuleState.rearm (m : ModuleState) (on : Bool) : ModuleState := if on && m.armFails.isNone then m.arm 1 m.reset.holdMs else m

/-- ACTIVATION_ISLAND_DONE (R536 to R539): the restarting island runs from TO_BANK, its record is written, and the next one restarts; or its
start has failed. norFault: its record cannot be written, and it stays stopped (R541). damage: as ISLAND_RESTART_DONE. -/
def execActivationIslandDone (t : Nat) (started norFault : Bool) (damage : List Nat) (s : State) : Host.Outcome State Fault Refusal :=
  happen true t (fun m =>
    match m.warden.activation with
    | some (at_, rearm, k + 1) =>
      let i := activationOrder.getD k 9
      if !started then
        let m1 := m.startFailed i
        if (m1.island i).state == .stopped then m1.setWarden fun w => { w with activation := none } else m1
      else if norFault then ((m.log evNorFault tgModule [0, 0, 0]).givenUp i).setWarden fun w => { w with activation := none }
      else
        let m1 := (m.islandRuns i damage).journal fun j => { j with doneMask := setBit j.doneMask i true }
        let m2 := if i = isM1 ∨ i = isM2 then m1.each (axesOf i) fun m a => m.judgeAngle m.recd.cycle a else m1
        let m3 := if i = isPolder then m2.rearm rearm else m2
        if i = isWarden then m3.activated at_
        else (m3.setWarden fun w => { w with activation := some (at_, rearm, k + 2) }).activateIsland (activationOrder.getD (k + 1) 9)
    | _ => m) s

/-! ### Status -/

/-- BANK_STATUS entry (R544 Table 10). -/
def ModuleState.bankEntry (m : ModuleState) (n : Nat) : List Byte :=
  let code := match (m.bank n).state with
    | .empty => 0
    | .written => 1
    | .verified => 2
    | .refused => 3
    | .active => 4
  leBytes 1 n ++ leBytes 1 code ++ leBytes 2 (m.sigField n 6 2) ++ leBytes 4 (m.sigField n 8 4) ++ leBytes 4 (m.sigField n 12 4) ++
    leBytes 8 (m.sigField n 16 8) ++ leBytes 4 (m.cfg 4 4) ++ leBytes 4 (match m.warden.pendingCfg with
      | some b => getN b 4 4
      | none => 0xFFFFFFFF) ++ leBytes 1 m.warden.journal.step ++ zeros 3

def bankStatusSpec : CmdSpec :=
  { opcode := 0x0F01, roles := .all, size := (· == 0), body := fun _ m => readFrom [.wd] m (m.bankEntry 0 ++ m.bankEntry 1) }

/-- BANK_STATUS (R544). -/
def execBankStatus (p : Packet) (s : State) : Host.Outcome State Fault Refusal := .next (submit bankStatusSpec p s)

/-- MGMT_HEALTH reply (R544 Table 9). -/
def ModuleState.mgmtHealth (m : ModuleState) : List Byte :=
  let w := m.warden
  (w.temps.flatMap fun t => leInt 2 t) ++ leBytes 2 w.vctl ++ leBytes 2 w.vdrv ++ leBytes 2 w.bulk ++ leBytes 2 m.loadCommon.vls ++
    leBytes 2 w.holdCap ++ leBytes 1 w.rails ++ leBytes 1 (bitOf w.railFault 2 + bitOf w.condensation 1 + bitOf (w.tempWarn != 0) 0) ++
    leInt 2 w.dew ++ leBytes 2 w.shock.1 ++ leBytes 2 w.shock.2.1 ++ leBytes 2 w.shock.2.2 ++ zeros 2

/-- MGMT_HEALTH (R544): the read clears the peaks. -/
def mgmtHealthBody (_ : Cmd) (m : ModuleState) : Result :=
  readFrom [.wd] (m.setWarden fun w => { w with shock := (0, 0, 0) }) m.mgmtHealth

def mgmtHealthSpec : CmdSpec := { opcode := 0x0F00, roles := .all, size := (· == 0), body := mgmtHealthBody }

/-- MGMT_HEALTH (R544). -/
def execMgmtHealth (p : Packet) (s : State) : Host.Outcome State Fault Refusal := .next (submit mgmtHealthSpec p s)

end Sys2Proof.Machine
end

