-- ==== Sys2Proof/Machine/Snapshot.lean ====
section
/-! DEFINITION. Samples of the axes (R412), fault snapshots (R439), and the power-fail flush (R446). The choices this file makes are in log
entries 80 to 83. -/

namespace Sys2Proof.Machine

/-- A sample of an axis (R412 Table 5), as words. -/
def ModuleState.sampleWords (m : ModuleState) (a : Nat) : List Word :=
  let d := m.drive a
  toWords (leBytes 4 m.count ++ leInt 4 (m.axis a).cmdPos ++ leInt 4 (if m.hasFb a then m.measured a else 0) ++ leInt 2 d.iaMeas ++ leInt 2 d.ibMeas)

/-- TRACE_SAMPLE (R412): DIV × 20 µs after the last one a sample goes to an axis's trace queue of 1 024 words, or is dropped and counted. -/
def execTraceSample (t axis : Nat) (s : State) : Host.Outcome State Fault Refusal :=
  happen (axis < 8) t (fun m =>
    let q := m.cv.traces.getD axis {}
    let early : Bool := q.lastAt.any fun t => decide (m.now < t + q.div * 20000)
    if !q.on || early || !m.runs (axisIsland axis) || !m.runs isRecorder then m
    else
      let m := m.cvSettle
      let full : Bool := decide (1024 < q.words.length + 4)
      let m1 := { m with cv := { m.cv with traces := upd m.cv.traces axis fun q =>
        if full then { q with lastAt := some m.now, drops := sat max32 q.drops }
        else { q with lastAt := some m.now, words := q.words ++ m.sampleWords axis } } }
      if full then m1.saturated max32 q.drops (tgAxis axis) 0x0B04 2 else m1) s

/-- Axes that deliver samples: populated and not DISABLED (R439). -/
def ModuleState.sampledAxes (m : ModuleState) : List Nat := axisNums.filter fun a => m.populated a && m.axisMode a != 0

/-- The newest n entries of a list. -/
def lastN {α : Type} (n : Nat) (l : List α) : List α := l.drop (l.length - n)

/-- SNAPSHOT_SAMPLE (R439): each axis delivers a sample to the history, and to a snapshot that collects its later samples. -/
def execSnapshotSample (t : Nat) (s : State) : Host.Outcome State Fault Refusal :=
  happen true t (fun m =>
    if !m.runs isRecorder || m.recd.failFlushAt.isSome then m
    else
      let new := axisNums.map fun a => if m.sampledAxes.contains a && m.runs (axisIsland a) then [m.sampleWords a] else []
      let add := fun (l : List (List (List Word))) => (l.zip new).map fun (x : List (List Word) × List (List Word)) => x.1 ++ x.2
      m.setRec fun r => { r with
        history := (add r.history).map (lastN 2000)
        collecting := r.collecting.map fun o => if o.post < 500 then { o with blocks := add o.blocks, post := o.post + 1 } else o }) s

/-- An axis block of a snapshot: as many samples as the header counts, the oldest missing ones as zeros (log entry 80). -/
def fitBlock (n : Nat) (b : List (List Word)) : List (List Word) := List.replicate (n - b.length) (List.replicate 4 0) ++ lastN n b

/-- The header of a snapshot (R439 Table 9). -/
def ModuleState.snapshotHeader (m : ModuleState) (o : Snapshot) (mask : Nat) : List Byte :=
  let n := o.pre + o.post
  let part (a : Nat) : Nat := if bit mask a then crc32 ((fitBlock n (o.blocks.getD a [])).flatMap fun w => w.flatMap wordBytes) else 0
  let record := match o.trigger with
    | some e => m.eventBytes { o.key with seq := (o.key.seq + 2 ^ 32 - e.parts) % 2 ^ 32 } false e 0
    | none => zeros 64
  withCrc (padTo 4092 (m.keyBytes o.key ++ stampBytes o.time ++ leBytes 1 (bitOf true 7 + bitOf o.powerFail 6 + o.quality) ++ leBytes 1 o.slot ++
    leBytes 2 ((o.trigger.map (·.code)).getD 0) ++ leBytes 2 o.pre ++ leBytes 2 o.post ++ leBytes 1 mask ++ leBytes 1 o.extra ++ record ++
    (portalNums.flatMap m.portalEntry) ++ m.ringStatus ++ zeros 2 ++ m.islandEntries ++ (axisNums.flatMap fun a => leBytes 4 (part a))))

/-- The collecting snapshot as it is written, with its header (R439). -/
def ModuleState.closedSnapshot (m : ModuleState) (o : Snapshot) : Snapshot :=
  let mask := (m.sampledAxes.map fun a => 2 ^ a).sum
  { o with header := m.snapshotHeader o mask
           blocks := axisNums.map fun a => if bit mask a then fitBlock (o.pre + o.post) (o.blocks.getD a []) else [] }

/-- Snapshot slots with a slot written. -/
def slotWith (x : Snapshot) (l : List Snapshot) : List Snapshot := l.filter (·.slot != x.slot) ++ [x]

/-- The collecting snapshot is written to both halves, and the event records are copied to the MRAM event ring (R432, R435, R439). -/
def ModuleState.writeSnapshot (m : ModuleState) : ModuleState :=
  match m.recd.collecting with
  | none => m
  | some o => m.setRec fun r =>
      let r1 := r.copyEvents
      Recorder.overran { r1 with collecting := none, slots := r1.slots.onLists (slotWith (m.closedSnapshot o)) } r

/-- The collecting snapshot is written, and SNAPSHOT_TAKEN is logged (R439). -/
def ModuleState.finishSnapshot (m : ModuleState) : ModuleState :=
  match m.recd.collecting with
  | none => m
  | some o => m.writeSnapshot.log evSnapshotTaken tgModule
      [(o.slot : Int), (((o.trigger.map (·.code)).getD 0 : Nat) : Int), (o.pre : Int), (o.post : Int)]

/-- SNAPSHOT_COLLECT_DONE (R439): 500 later samples are collected. -/
def execSnapshotCollectDone (t : Nat) (s : State) : Host.Outcome State Fault Refusal :=
  happen true t (fun m =>
    if m.runs isRecorder && m.recd.failFlushAt.isNone && !m.recd.cv15Halted && (m.recd.collecting.any fun o => 500 ≤ o.post) then m.finishSnapshot
    else m) s

/-! ### The power-fail flush -/

/-- The flush of R446 begins: what stage 1 writes is fixed, the angle records R133, module time R339, operating time R426 and SEQ; a snapshot
is closed or taken. -/
def ModuleState.beginFlush (m : ModuleState) : ModuleState :=
  let saving := m.savingAxes isM1 ++ m.savingAxes isM2
  let items : SavedItems :=
    { op := m.opTime, seq := m.recd.seq, time := m.stamp, angles := axisNums.map fun a => if saving.contains a then some (m.angleNow a) else none }
  let m1 := m.setRec fun r => { r with stage1 := some items, notKept := 0, collecting := r.collecting.map fun o => { o with powerFail := true } }
  m1.setRec fun r =>
    let r1 := if r.collecting.isSome then r else m1.trigger r none
    { r1 with collecting := r1.collecting.map fun o => { o with powerFail := true }
              failFlushAt := some m.now, markers := .both none, lastFlushOk := false }

/-- Stage 1 written: to both halves, or cut off where a free value says, item by item (R432; log entry 83). -/
def ModuleState.writeStage1 (m : ModuleState) (x : SavedItems) (whole : Bool) : ModuleState :=
  let cut := fun (item : Nat) => if whole then none else some (Config.tornWrite m.free item)
  let m1 := { m with free := m.free + 1, time := { m.time with savedRecs := m.time.savedRecs.put (cut 0) x.time } }
  let m2 := m1.setRec fun r => { r with opRecs := r.opRecs.put (cut 1) x.op, seqRecs := r.seqRecs.put (cut 2) x.seq }
  m2.each axisNums fun n a => match x.angles.getD a none with
    | some v => n.setDrive a fun d => { d with records := d.records.put (cut (3 + a)) v }
    | none => n

/-- As many records as fit into the 256 KiB of the spill area (R432). -/
def fitSpill : Nat → List Rec → List Rec
  | _, [] => []
  | room, x :: r => if x.body.size ≤ room then x :: fitSpill (room - x.body.size) r else []

/-- Records that stage 2 adds to the spill area: those not yet in NAND, as far as it has room (R432, R446). -/
def Recorder.pending (r : Recorder) : List Rec := fitSpill (262144 - recBytesSum r.spill) (r.flushing ++ r.buf)

/-- Stage 2 written: the spill area, then the event ring; cut off, half 0 has the first n records, and half 1 those or one less (R432; log entry
83). -/
def ModuleState.writeStage2 (m : ModuleState) (whole : Bool) : ModuleState :=
  let r := m.recd
  let spill := r.pending
  let ring := r.newEvents
  let all := spill.length + ring.length
  let n0 := if whole then all else Config.tornWrite m.free 0 % (all + 1)
  let n1 := if whole then all else n0 - Config.tornWrite m.free 1 % 2
  let put := fun (n : Nat) (l : List Rec) => l ++ spill.take n
  let copy := fun (n : Nat) (l : List Rec) => ringWith (ring.take (n - spill.length)) l
  { m with
    free := m.free + 1
    recd := { r with
      spills := { half0 := r.spills.half0.map (put n0), half1 := r.spills.half1.map (put n1) }
      boxes := { half0 := r.boxes.half0.map (copy n0), half1 := r.boxes.half1.map (copy n1) } } }

/-- Stage 3 cut off: the slot as the halves then hold it (R432; log entry 83). -/
def ModuleState.tearSnapshot (m : ModuleState) : ModuleState :=
  match m.recd.collecting with
  | none => m
  | some o => { m with free := m.free + 1 }.setRec fun r => { r with
      slots := r.slots.tear (Config.tornWrite m.free 0) (Option.map fun l => List.filter (fun x => x.slot != o.slot) l)
        (Option.map (slotWith (m.closedSnapshot o))) }

/-- What the flush has stored when so many of its stages are complete (R446 Table 10): stage 1 the saved values, 2 the spill area and the event
ring, 3 the snapshot, 4 the marker with the count of the records not kept: those lost since stage 3 began, those the spill area had no room for,
the events and records that still wait, and the SNAPSHOT_TAKEN of stage 3 (log entry 148). The stage in work is cut off. A recorder that does not run stores nothing. -/
def ModuleState.endFlush (m : ModuleState) (stages : Nat) : ModuleState :=
  let m1 := match m.recd.stage1 with
    | some x => m.writeStage1 x (1 ≤ stages)
    | none => m
  let m2 := if stages = 0 then m1 else m1.writeStage2 (2 ≤ stages)
  let unkept := (m.recd.flushing ++ m.recd.buf).length - m.recd.pending.length
  let m3 := if 3 ≤ stages then m2.writeSnapshot else if stages = 2 then m2.tearSnapshot else m2
  if !m.runs isRecorder then m.setRec fun r => { r with failFlushAt := none, collecting := none, stage1 := none }
  else { m3 with free := m3.free + 1 }.setRec fun r =>
    let late := r.notKept + unkept + ((r.queue ++ r.producers).map Event.parts).sum + r.waiting.length + 1
    let markers := if 4 ≤ stages then Halves.both (some late)
      else if stages = 3 then r.markers.put (some (Config.tornWrite m3.free 0)) (some late) else r.markers
    { r with markers, lastFlushOk := 4 ≤ stages, failFlushAt := none, collecting := none, stage1 := none }

end Sys2Proof.Machine
end

