-- ==== Sys2Proof/Machine/Supplies.lean ====
section
/-! DEFINITION. Supplies, holdup and thermal protection (chapter 19). Levels are decided at the nominal thresholds (log entry 84). -/

namespace Sys2Proof.Machine

/-! ### Holdup -/

/-- Code of a holdup state (R565 Table 8). -/
def Holdup.code : Holdup → Nat
  | .charging => 0 | .ready => 1 | .low => 2

/-- Usable energy of the bank in mJ, from HOLD_UF and HOLD_CAP (R550). -/
def Warden.holdMj (w : Warden) : Nat := w.holdUf * (w.holdCap * w.holdCap - 130 * 130) / 200000

/-- The holdup state changed, with its event (R550). -/
def ModuleState.setHoldup (m : ModuleState) (h : Holdup) : ModuleState :=
  if m.warden.holdup = h then m
  else (m.setWarden fun w => { w with holdup := h }).log evHoldupState tgModule
    [(m.warden.holdup.code : Int), (h.code : Int), (m.warden.holdMj : Int), (m.warden.holdUf : Int)]

/-- HOLDUP_STATE_CHANGE (R550): HOLD_CAP in 0.1 V is measured, and the usable energy judged at 0.30 J. -/
def execHoldupStateChange (t holdCap : Nat) (s : State) : Host.Outcome State Fault Refusal :=
  happen true t (fun m =>
    let m1 := m.setWarden fun w => { w with holdCap }
    if 300 ≤ m1.warden.holdMj then m1.setHoldup .ready
    else if m1.warden.holdup = .ready then m1.setHoldup .low
    else m1) s

/-- HOLDUP_READY_TIMEOUT (R550): READY has not been reached 2 s after power-on. -/
def execHoldupReadyTimeout (t : Nat) (s : State) : Host.Outcome State Fault Refusal :=
  happen true t (fun m =>
    if m.warden.holdup = .charging ∧ m.reset.phase ≠ .held ∧ m.due m.warden.powerAt (seconds 2) then m.setHoldup .low else m) s

/-- HOLDUP_CAP_MEASURE (R551): the capacitance in µF, at a charge, or every 24 h while READY. -/
def execHoldupCapMeasure (t uf : Nat) (s : State) : Host.Outcome State Fault Refusal :=
  happen true t (fun m =>
    if m.warden.holdup ≠ .ready ∨ m.due m.warden.holdMeasAt (seconds 86400) then
      m.setWarden fun w => { w with holdUf := uf, holdMeasAt := m.now }
    else m) s

/-! ### VCTL power fail -/

/-- VCTL_POWER_FAIL (R549, R553): the event, the hand-over of duty, the orderly stop, the flush; the CAN terminations disconnect (R363). -/
def execVctlPowerFail (t : Nat) (s : State) : Host.Outcome State Fault Refusal :=
  happen true t (fun m =>
    if m.reset.phase == .held || m.reset.phase == .lockout || m.recd.failFlushAt.isSome then m
    else
      let holder := m.paired && m.pair.role.holds
      let m1 := m.log evVctlPowerFail tgModule [(m.warden.holdCap : Int), (m.warden.holdup.code : Int), flagItem holder]
      let m2 := (if holder then m1.leave else m1).beginFlush
      let m3 := m2.disarm 2 false none
      let m4 := { m3 with can := updAll m3.can fun q => { q with term := false } }.each axisNums fun m a => (m.setAxis a fun x => x.halt m.now).bridgeOff a
      (m4.openSwitch 0 3 1 0).openSwitch 1 3 1 0) s

/-! ### VDRV -/

/-- Code of a VDRV level (R565 Table 8). -/
def VdrvLevel.code : VdrvLevel → Nat
  | .normal => 0 | .low => 1 | .min => 2 | .absent => 3

/-- The level of VDRV_BULK in 0.1 V, after an old level (R555 Table 3). -/
def levelOf (old : VdrvLevel) (bulk : Nat) : VdrvLevel :=
  if bulk < 120 ∨ (old = .absent ∧ bulk ≤ 130) then .absent
  else if bulk < 150 ∨ (2 ≤ old.code ∧ bulk ≤ 160) then .min
  else if bulk < 168 ∨ (1 ≤ old.code ∧ bulk ≤ 176) then .low
  else .normal

/-- VDRV_LEVEL_CHANGE (R555 Table 3): VDRV_BULK in 0.1 V crosses a level. -/
def execVdrvLevelChange (t bulk : Nat) (s : State) : Host.Outcome State Fault Refusal :=
  happen true t (fun m =>
    let old := m.warden.level
    let new := levelOf old bulk
    if old = new ∨ !m.runs isWarden then m
    else
      let m1 := (m.setWarden fun w => { w with level := new, bulk }).log evVdrvState tgModule [(old.code : Int), (new.code : Int), (bulk : Int)]
      let m2 := m1.halveMoves (new.code != 0)
      let m3 := if old.code < 2 ∧ 2 ≤ new.code then m2.each axisNums fun m a => m.pauseAxis a else m2
      let m4 := m3.followVdrv m.vdrvPresent
      if 2 ≤ old.code ∧ new.code < 2 then m4.each axisNums fun m a => m.resumeAxis a else m4) s

/-- VDRV_SURGE_DISCONNECT (R556): VDRV in 0.1 V has stayed above 156 V for 1 s, or exceeds 180 V. -/
def execVdrvSurgeDisconnect (t vdrv : Nat) (s : State) : Host.Outcome State Fault Refusal :=
  happen true t (fun m =>
    let peak : Bool := decide (1800 < vdrv)
    if m.warden.disconnected || !(peak || (1560 < vdrv && m.dueO m.warden.surgeAt (seconds 1))) then m
    else
      ((m.setWarden fun w => { w with disconnected := true, vdrv }).followVdrv m.vdrvPresent).log evVdrvDisconnect tgModule
        [flagItem peak, (vdrv : Int)]) s

/-- VDRV_RECONNECT (R556): VDRV has been below 150 V since an instant 100 ms ago. -/
def execVdrvReconnect (t vdrv since : Nat) (s : State) : Host.Outcome State Fault Refusal :=
  happen true t (fun m =>
    if !m.warden.disconnected || 1500 ≤ vdrv || !m.due since (ms 100) then m
    else
      ((m.setWarden fun w => { w with disconnected := false, vdrv, surgeAt := none }).followVdrv m.vdrvPresent).log evVdrvDisconnect tgModule
        [2, (vdrv : Int)]) s

/-! ### Baseplate -/

/-- The module with TS12, in 0.1 °C, as measured. -/
def ModuleState.setTs12 (m : ModuleState) (v : Int) : ModuleState := m.setWarden fun w => { w with temps := upd w.temps 11 fun _ => v }

/-- BASEPLATE_HOT (R562): TS12 has been at or above 105 °C since an instant 1 s ago. -/
def execBaseplateHot (t since : Nat) (ts12 : Int) (s : State) : Host.Outcome State Fault Refusal :=
  happen true t (fun m =>
    if m.warden.hot || ts12 < 1050 || !m.due since (seconds 1) then m
    else ((m.setTs12 ts12).setWarden fun w => { w with hot := true }).log evBaseplateHot tgModule [0, ts12]) s

/-- BASEPLATE_HOT_CLEAR (R562): TS12 has been below 100 °C since an instant 10 s ago. -/
def execBaseplateHotClear (t since : Nat) (ts12 : Int) (s : State) : Host.Outcome State Fault Refusal :=
  happen true t (fun m =>
    if !m.warden.hot || 1000 ≤ ts12 || !m.due since (seconds 10) then m
    else ((m.setTs12 ts12).setWarden fun w => { w with hot := false }).log evBaseplateHot tgModule [1, ts12]) s

/-- THERMAL_SHUTDOWN (R562): TS12 has been at or above 115 °C since an instant 1 s ago; the module disarms, and ARM is refused until TS12
is below 95 °C. -/
def execThermalShutdown (t since : Nat) (ts12 : Int) (s : State) : Host.Outcome State Fault Refusal :=
  happen true t (fun m =>
    if m.warden.shutdown || ts12 < 1150 || !m.due since (seconds 1) then m
    else
      let m1 := ((m.setTs12 ts12).setWarden fun w => { w with shutdown := true }).disarm 3 true none
      (m1.setReset fun r => { r with autoRearm := false }).log evThermalShutdown tgModule [ts12, (m.warden.pMean60 : Int)]) s

/-! ### Status -/

/-- SUPPLY_STATUS reply (R565 Table 8). -/
def ModuleState.supplyStatus (m : ModuleState) : List Byte :=
  let w := m.warden
  let surge := match w.surgeAt with
    | some t => min max16 ((m.now - t) / 1000000)
    | none => 0
  leBytes 1 w.holdup.code ++ leBytes 1 (if w.disconnected then 4 else w.level.code) ++
    leBytes 1 (bitOf w.shutdown 3 + bitOf w.hot 2 + bitOf m.field.vfoCut 1 + bitOf m.loadCommon.vlsCut 0) ++
    leBytes 1 ((axisNums.map fun a => bitOf (decide ((m.drive a).scale < 1000)) a).sum) ++ leBytes 2 w.holdCap ++ leBytes 2 w.holdUf ++
    leBytes 2 (min max16 w.holdMj) ++ leBytes 2 w.vdrv ++ leBytes 2 w.bulk ++ leBytes 2 m.loadCommon.vls ++ leInt 2 w.vfo ++
    leBytes 2 w.pLogic ++ leBytes 2 w.pModule ++ leBytes 2 w.pMean60 ++ leBytes 2 surge ++ zeros 4

def supplyStatusSpec : CmdSpec :=
  { opcode := 0x0F06, roles := .all, size := (· == 0), body := fun _ m => readFrom [.wd] m m.supplyStatus }

/-- SUPPLY_STATUS (R565). -/
def execSupplyStatus (p : Packet) (s : State) : Host.Outcome State Fault Refusal := .next (submit supplyStatusSpec p s)

end Sys2Proof.Machine
end

