-- ==== Sys2Proof/Machine/Reset.lean ====
section
/-! DEFINITION. Module resets, the start of the module, and ready (R567 to R569, R577, R578; R448 and R538 at the start; R458, R553). The
choices this file makes are in log entries 85 to 88. -/

namespace Sys2Proof.Machine

/-! ### Going into reset -/

/-- Loads and field outputs off with their demands, bridges off, encoder supplies off and terminations open (R575 Table 3). -/
def ModuleState.outputsOff (m : ModuleState) : ModuleState :=
  let m1 := { m with loads := updAll m.loads fun x => { x with held := false } }
  let m2 := (m1.each nums16 fun m n => m.lsDemand n false).each nums16 fun m n => m.foDemand n false
  let m3 := m2.each axisNums fun m a => (m.setAxis a fun x => x.halt m.now).bridgeOff a
  m3.each axisNums fun m a => m.setFb a fun f => { f with supplyOn := false, term := false }

/-- The levee ports down and the own fence outputs idle (R458, R575). -/
def ModuleState.leveeOff (m : ModuleState) : ModuleState :=
  m.setPair fun x => (x.setPort 1 fun q => { q with up := false, fenceOut := none }).setPort 2 fun q => { q with up := false, fenceOut := none }

/-- The warden's own work ends: an erase that runs leaves its bank erased and WRITTEN (R543), a check and an activation in progress are forgotten (R538;
log entry 74). -/
def ModuleState.wardenStops (m : ModuleState) : ModuleState :=
  let m1 := if m.warden.erasing.isSome then m.setBank m.inactive fun b => { b with state := .written, erased := true, writes := [] } else m
  m1.setWarden fun w => { w with erasing := none, afterErase := [], verifying := none, activation := none, railReset := false }

/-- A module reset begins (R567, R569, R575): every island stops. A power-fail flush that runs ends where it stands, and the module then
waits for VCTL (R553; log entry 85). -/
def ModuleState.enterReset (m : ModuleState) (phase : Phase) (cause : Nat) : ModuleState :=
  let flushing : Bool := m.recd.failFlushAt.isSome
  let why := if flushing && !m.reset.resetPending then 0x02 else cause
  let m0 := if flushing then m.endFlush 0 else m
  let m1 := ((m0.silence isM1).silence isM2).outputsOff.each [8, 0, 1, 2, 3, 4, 5, 6, 7] fun m i => m.islandStops i
  let m2 := m1.leveeOff.wardenStops
  { m2 with
    host := { damaged := m2.host.damaged }
    recd := { m2.recd with queue := [], producers := [], waiting := [] }
    eth := { m2.eth with configured := false }
    reset := { m2.reset with
      phase, cause := why, armed := false, autoRearm := false, holdStart := none, holdTaken := 0, resetPending := false, restartOrders := []
      heldAt := m.now } }

/-! ### Starting again -/

/-- The journal read after a reset (R538): BEGUN is abandoned; COMMITTED repeats the raise of FW_SVN. -/
def ModuleState.readJournal (m : ModuleState) : ModuleState :=
  if m.warden.journal.step = 1 then m.abandon
  else if m.warden.journal.step = 2 then m.raiseSvn m.warden.journal.toBank
  else m

/-- Drives after a module reset: every latch has ended (R138). -/
def Drive.unlatched (d : Drive) : Drive :=
  { d with bridge := .off, fault := .none, ocTimes := [], testPassed := false, regenLatched := false, lowOn := false, sluices := 0, sluiceOrder := 0
           openAt := none, openBAt := none }

/-- A load channel after a module reset (R255): latches, SPENT and retries cleared. -/
def Load.afterReset (x : Load) (now : Nat) : Load :=
  { accum := 250, accumAt := now, onSince := now, lastClamp := x.lastClamp, turnOffs := x.turnOffs, shutdowns := x.shutdowns }

/-- The foreland after a module reset (R298): inputs SETTLING and inactive, outputs off, the lanes up; counters since power-on kept. -/
def Foreland.afterReset (x : Foreland) : Foreland :=
  let ins : List FieldIn := x.inputs.map fun i => { glitches := i.glitches, lastEdge := i.lastEdge }
  let outs : List FieldOut := x.outputs.map fun o => { shutdowns := o.shutdowns, lastCause := o.lastCause }
  { inputs := ins, outputs := outs, seenIn := ins, seenOut := outs
    lanes := x.lanes.map fun l => { losses := l.losses, framesOk := l.framesOk, crcErrors := l.crcErrors, seqErrors := l.seqErrors }
    vfoLow := x.vfoLow, vfoCut := x.vfoCut }

/-- What the islands lose in a reset of the whole module besides what each loses in a restart of its own (R138, R255, R569). -/
def ModuleState.clearForReset (m : ModuleState) : ModuleState :=
  { m with
    islands := updAll m.islands fun x => { x with state := .running, startFails := 0 }
    drives := updAll m.drives Drive.unlatched
    loads := updAll m.loads fun x => x.afterReset m.now
    loadCommon := { m.loadCommon with accum1 := 1500, accum2 := 1500, accumAt := m.now, moduleSpent := false }
    ring := { openings := m.ring.openings, a := m.ring.a.kept, b := m.ring.b.kept }
    field := m.field.afterReset
    portals := updAll m.portals fun q => { doorCycles := q.doorCycles, stepCycles := q.stepCycles, starts := q.starts } }

/-- The pair machine when reset is released (R455): the straps are sampled; a paired unit is UNFIT until it is armed. A unit that went into
reset as the holder has lost duty on expiry (R485; log entry 150). -/
def Pair.afterReset (x : Pair) (id : Nat) (role : PairRole) (fenced : Bool) : Pair :=
  { id, role, fenced, epoch := x.epoch, takeovers := x.takeovers, arbitrations := x.arbitrations, testAt := x.testAt, ownSeq := x.ownSeq, out := x.out
    lostDuty := x.lostDuty || x.role.holds || x.role == .lapsed
    port1 := { fenceOk := x.port1.fenceOk, fenceIn := x.port1.fenceIn }, port2 := { fenceOk := x.port2.fenceOk, fenceIn := x.port2.fenceIn } }

/-- The module with its pair machine as it is when reset is released. -/
def ModuleState.startPair (m : ModuleState) (straps : Nat) : ModuleState :=
  m.setPair fun x => x.afterReset (straps % 4) (if m.paired then .unfit else .single) (m.reset.cause == 0x05)

/-- What every start of the module has in common (R538, R577): the islands start, unless the floodgate refuses the active bank (R511; log
entry 86). angleCycle: the power cycle whose angle records pass (R134, R569). -/
def ModuleState.startUp (m : ModuleState) (straps angleCycle : Nat) (damage : List Nat) : ModuleState :=
  let m1 := ((m.setReset fun r => { r with phase := .starting, resetEndAt := m.now }).setField fun f => { f with startedAt := m.now }).startPair straps
  let (refused, m2) := m1.judgeImage m1.warden.activeBank
  if refused.isSome then
    { m2 with islands := (m2.islands.take 9).map (fun x => { x with state := .stopped }) ++ m2.islands.drop 9, reset := { m2.reset with phase := .recovery } }
  else
    let m3 := (m2.readJournal.floodgateStarts damage).each [1, 2, 3, 4] fun m i => m.islandStarts i []
    (m3.startInputs.each axisNums fun m a => m.judgeAngle angleCycle a).noteEdges

/-- A module reset other than a power-on ends (R569). -/
def ModuleState.restart (m : ModuleState) (straps : Nat) (damage : List Nat) : ModuleState :=
  ((m.clearForReset.setReset fun r => { r with phase := .starting }).recorderStarts).startUp straps m.recd.cycle damage

/-- RESET_RELEASED (R567, R569): a module reset with cause RESET_N, COMMAND, RAIL_FAULT or WARDEN_WATCHDOG ends. damage: items of the
floodgate's MRAM found damaged (R494). -/
def execResetReleased (t straps : Nat) (damage : List Nat) (s : State) : Host.Outcome State Fault Refusal :=
  happen true t (fun m =>
    let span := if [3, 4].contains m.reset.cause then ms 1 else ms 10
    if m.reset.phase == .held && [3, 4, 6, 7].contains m.reset.cause && m.due m.reset.heldAt span then m.restart straps damage else m) s

/-! ### Power-on -/

/-- The recorder's state that MRAM and NAND keep through a power cycle (R426, R427, R428, R448), SEQ at 0. -/
def Recorder.powerOn (r : Recorder) (now : Nat) : Recorder :=
  { opMs := r.opSaved + (if r.marker.isSome then 0 else 100), opAt := now, opRecs := r.opRecs, cycleRecs := .both (sat max32 r.cycle)
    seqRecs := r.seqRecs, lastKey := r.lastKey, cycles := r.cycles, traces := r.traces, traceOff := r.traceOff, events := r.events
    boxes := r.boxes, spills := r.spills, markers := r.markers, lastFlushOk := r.marker.isSome, slots := r.slots, nextSlot := r.nextSlot, retired := r.retired, cycleMib := r.cycleMib, traceMib := r.traceMib, wrapping := r.wrapping }

/-- A record is complete in NAND. -/
def Recorder.inNand (r : Recorder) (x : Rec) : Bool := (r.cycles ++ r.traces ++ r.events).any fun y => y.key == x.key

/-- Steps 2 to 5 of R448: the spill area written back and cleared, and what was lost logged. -/
def ModuleState.recoverSpill (m : ModuleState) (oldSeq : Nat) : ModuleState :=
  let r := m.recd
  let back := r.spill.filter fun x => !r.inNand x
  let (r1, grown) := r.store back
  let m1 := m.setRec fun _ => { r1 with spills := .both [], markers := .both none }
  let m2 := m1.each grown fun m g => m.log evCycleRegionGrown tgModule [(g.1 : Int), (g.2.1 : Int), flagItem g.2.2]
  match r.marker with
  | none => m2.log evFlushIncomplete tgModule [(back.length : Int)]
  | some n => m2.logIf (n != 0) evLogGap tgModule [3, (oldSeq : Int), (n : Int)]

/-- Security state that the floodgate's MRAM keeps through a power cycle (R494, R505, R515). -/
def Security.powerOn (x : Security) : Security :=
  { x with sessions := [], signTimes := [], tagFails := 0, debugOpen := false, freshLowAt := [none, none], lastNum := 0, building := false }

/-- The warden's state that NOR and MRAM keep through a power cycle (R528, R534). -/
def Warden.powerOn (w : Warden) (now : Nat) : Warden :=
  { banks := w.banks, activeBank := w.activeBank, config := w.config, pendingCfg := w.pendingCfg, journal := w.journal, powerAt := now }

/-- The module with everything lost that power holds, and what MRAM, NAND and NOR keep. -/
def ModuleState.powered (m : ModuleState) (cause : Nat) : ModuleState :=
  { now := m.now, free := m.free, variant := m.variant, out := m.out
    reset := { phase := .starting, cause, heldAt := m.reset.heldAt }
    portals := m.portals.map fun q => { doorCycles := q.doorCycles, stepCycles := q.stepCycles, starts := q.starts }
    profiles := {
      set := m.profiles.stored, active := if m.profiles.selected then m.profiles.active else none, selected := m.profiles.selected
      schedule := m.profiles.schedule }
    drives := m.drives.map fun d => { records := d.records }
    feedback := m.feedback.map fun f => { offsetRecs := f.offsetRecs }
    obst := m.obst.map fun o => { half0 := o.half0, half1 := o.half1 }
    time := { sec := (m.time.saved.getD (0, 0)).1, ns := (m.time.saved.getD (0, 0)).2, asOf := m.now, savedRecs := m.time.savedRecs }
    sec := m.sec.powerOn
    recd := m.recd.powerOn m.now
    eth := { out := m.eth.out }
    warden := m.warden.powerOn m.now
    ring := { a := { overdueFrom := m.now }, b := { overdueFrom := m.now } }
    pair := { out := m.pair.out, port1 := { fenceIn := m.pair.port1.fenceIn }, port2 := { fenceIn := m.pair.port2.fenceIn } } }

/-- The identity and KEM keys made at the first power-on in BLANK (R497): the certificate takes the first leaf. -/
def ModuleState.firstKeys (m : ModuleState) : ModuleState :=
  if m.sec.life = .blank ∧ m.sec.leafReserved = 0 then
    let m1 := m.setSec fun x => { x with kemLeaf := x.leafNext }
    m1.useLeaf
  else m

/-- POWER_ON_RESET (R567, R569, R448, R577): VCTL is back; brownout: HOLD_CAP was still at or above 13.0 V in the reset of R553. The
Polder window is lost with the rest of SRAM. -/
def execPowerOnReset (t : Nat) (brownout : Bool) (straps : Nat) (damage : List Nat) (s : State) : Host.Outcome State Fault Refusal :=
  .next (s.both t fun x =>
    let m0 := if x.1.held then x.1 else x.1.enterReset .held 0x01
    let cause := if brownout && m0.reset.cause == 0x02 then 0x02 else 0x01
    let m1 := m0.powered cause
    let m2 := (m1.recoverSpill m0.recd.seq).saturated max32 m0.recd.cycle tgModule 0x0C00 8
    ((m2.startUp straps (m2.recd.cycle - 1) damage).firstKeys, []))

/-! ### Resets -/

/-- RESET_N_ASSERTED (R567): RESET_N low for at least 10 µs. -/
def execResetNAsserted (t : Nat) (s : State) : Host.Outcome State Fault Refusal :=
  happen true t (fun m =>
    if m.reset.phase == .held then
      if [3, 4, 6, 7].contains m.reset.cause then m.setReset fun r => { r with cause := 0x03, heldAt := m.now } else m
    else if m.reset.phase == .lockout then m.setReset fun r => { r with phase := .held, cause := 0x03, heldAt := m.now }
    else m.enterReset .held 0x03) s

/-- WARDEN_WATCHDOG_RESET (R567, R573): the third within 1 h holds the module until RESET_N or a power-on. -/
def execWardenWatchdogReset (t : Nat) (s : State) : Host.Outcome State Fault Refusal :=
  happen true t (fun m =>
    if m.held then m
    else
      let recent := (m.reset.wardenResets.filter fun x => m.now < x + seconds 3600) ++ [m.now]
      (m.setReset fun r => { r with wardenResets := recent }).enterReset (if 3 ≤ recent.length then .lockout else .held) 0x07) s

/-- RAIL_FAULT_RESET (R526, R567): a logic rail outside the safety islands' own regulators has failed. -/
def execRailFaultReset (t : Nat) (s : State) : Host.Outcome State Fault Refusal :=
  happen true t (fun m => if m.warden.railReset && !m.held then m.enterReset .held 0x06 else m) s

/-- FENCE_INPUT_ASSERTED (R458): a fence input that faces the partner has been asserted for 50 µs. -/
def execFenceInputAsserted (t link : Nat) (s : State) : Host.Outcome State Fault Refusal :=
  happen (1 ≤ link && link ≤ 2) t (fun m =>
    if !(m.paired && m.facing.contains link) then m
    else
      let m1 := m.setPair fun x => x.setPort link fun q => { q with fenceIn := true }
      if m.held then
        if [3, 4, 6, 7].contains m.reset.cause && m.reset.phase == .held then m1.setReset fun r => { r with cause := 0x05, heldAt := m.now } else m1
      else (m1.log evFence tgModule [1, (link : Int)]).enterReset .held 0x05) s

/-- FENCE_INPUT_RELEASED (R458): 10 ms after the fence input is released the module starts again. -/
def execFenceInputReleased (t link straps : Nat) (damage : List Nat) (s : State) : Host.Outcome State Fault Refusal :=
  happen (1 ≤ link && link ≤ 2) t (fun m =>
    let m1 := m.setPair fun x => x.setPort link fun q => { q with fenceIn := false }
    if m.reset.phase == .held && m.reset.cause == 0x05 && !(m1.facing.any fun n => (m1.pair.port n).fenceIn) then m1.restart straps damage else m1) s

/-- POWER_FAIL_FLUSH_DONE (R446, R553, R569): the flush is complete, or HOLD_CAP has fallen to 13.0 V; the stages that completed count. The
module is held in reset: for VCTL, or for the MODULE_RESET that ran the flush. -/
def execPowerFailFlushDone (t stages : Nat) (s : State) : Host.Outcome State Fault Refusal :=
  happen true t (fun m =>
    if m.recd.failFlushAt.isNone || m.held then m
    else (m.endFlush stages).enterReset .held (if m.reset.resetPending then 0x04 else 0x02)) s

/-! ### Ready -/

/-- CAN controllers at ready (R363, R364): the termination as TERM says, the mode START_MODE. -/
def ModuleState.startCan (m : ModuleState) (c : Nat) : ModuleState :=
  if !m.configured then m
  else (m.setCtl c fun q => { q with term := bit (m.cfg (canCfg c + 2) 1) 5, integrating := false }).enterMode c (CanMode.ofCode (m.cfg (canCfg c + 1) 1))

/-- The ports at ready (R388): a link that the mode of its port does not allow goes down. -/
def ModuleState.startEth (m : ModuleState) : ModuleState :=
  m.each [0, 1] fun m p =>
    let q := m.eth.port p
    if q.link && !m.linkAllowed p q.speed q.flags then
      (m.setEth fun e => e.setPort p fun x => { x with link := false, speed := 0, flags := 0 }).log evEthLink tgModule [(p : Int), 0, 0]
    else m

/-- MODULE_READY (R577, R578): every island runs and no input is SETTLING. The configuration counts as loaded from here for the switch and
the CAN controllers (log entry 87), until the next reset. -/
def execModuleReady (t : Nat) (s : State) : Host.Outcome State Fault Refusal :=
  happen true t (fun m =>
    if m.reset.phase != .starting || !(m.islands.all (·.state == .running)) || m.unsettled then m
    else
      let readyMs := min max16 ((m.now - m.reset.resetEndAt) / 1000000)
      let m1 := m.setReset fun r => { r with phase := .ready, readyMs }
      let m2 := { m1 with host := m1.host.raise 8, eth := { m1.eth with configured := m1.configured } }
      let m3 := m2.log evModuleStarted tgModule [(m.reset.cause : Int), (readyMs : Int)]
      let m4 := ((m3.startCan 0).startCan 1).startEth
      let m5 := m4.each m4.enabledPortals fun m p => m.fieldSoon p
      if m5.warden.journal.step = 2 then m5.journal fun j => { j with step := 3 } else m5) s

end Sys2Proof.Machine
end

