-- ==== Sys2Proof/Machine/Flags.lean ====
section
/-! DEFINITION. The status words of the host window, computed from the state (R324 Tables 8 to 19), the line HOST_IRQ_N (R325), and what the
window answers (R323, R540). -/

namespace Sys2Proof.Machine

/-- HW_ID (R324 Table 9). -/
def ModuleState.hwId (m : ModuleState) : Nat :=
  0xD480 * 2 ^ 16 + m.variant % 16 * 2 ^ 12 + Config.hwRevision % 16 * 2 ^ 8 + 1 * 2 ^ 4 + m.pair.id % 4

/-- FAULT (R324 Table 10): an island stopped, or a portal in FAULT. -/
def ModuleState.faultFlag (m : ModuleState) : Bool :=
  m.islands.any (·.state == .stopped) || m.enabledPortals.any fun p => (m.portal p).door == .fault

/-- FORELAND_LOST (R324 Table 10): the general lane is lost, as the polder side sees it. -/
def ModuleState.forelandLost (m : ModuleState) : Bool := (m.field.lanes.getD 0 {}).state != .up

/-- RING_CLOSED (R324 Table 10): both ring switches are closed. -/
def ModuleState.ringClosed (m : ModuleState) : Bool := m.ring.a.closed && m.ring.b.closed

/-- PAIRED (R324 Table 10): the partner is seen on the levee link. -/
def ModuleState.seesPartner (m : ModuleState) : Bool := m.paired && m.heard m.pair.heardAt

/-- HW_STATUS (R324 Table 10). -/
def ModuleState.hwStatus (m : ModuleState) : Nat :=
  m.sec.life.code * 2 ^ 30 + m.reset.cause % 256 * 2 ^ 16 + bitOf (m.reset.phase == .ready) 15 + bitOf m.reset.armed 14 + bitOf m.duty 13 +
    bitOf m.seesPartner 12 + bitOf m.host.discard 11 + bitOf m.faultFlag 10 + bitOf m.forelandLost 9 + bitOf m.ringClosed 8 +
    bitOf (m.reset.phase == .recovery) 7

/-- CMD_LEVEL (R324 Table 13). -/
def ModuleState.cmdLevel (m : ModuleState) : Nat := (1024 - m.cmdUsed) * 2 ^ 16 + m.cmdUsed

/-- RSP_LEVEL and EVT_LEVEL (R324 Table 14). -/
def fifoLevel (f : List (List Word)) : Nat := min 255 f.length * 2 ^ 24 + fifoUsed f

/-- HOST_IRQ_N (R325): low while an enabled flag is set; high during reset. -/
def ModuleState.irqLine (m : ModuleState) : Bool := m.held || m.host.irq &&& m.host.irqEnable == 0

/-- The header byte of a transaction (R321): WR and REG, the register's number; bits [6:4] are reserved and ignored (R322). -/
def spiHeader (b : Byte) : Bool × Nat := (bit b.toNat 7, b.toNat % 16)

/-- Bytes 0 and 1 on MISO of every transaction (R321): HW_STATUS[15:8], then HW_IRQ_STATUS[7:0]. -/
def ModuleState.misoHeader (m : ModuleState) : List Byte :=
  if m.held then [0, 0] else [BitVec.ofNat 8 (m.hwStatus / 256), BitVec.ofNat 8 m.host.irq.toNat]

/-- What a read of a register without an effect of its own returns, by its number (R323, R324). WO registers, and registers that do not
answer, return 0. -/
def ModuleState.register (m : ModuleState) (reg : Nat) : Nat :=
  if m.held then 0
  else match reg with
    | 0 => m.hwId
    | 1 => m.hwStatus
    | 2 => m.host.irq.toNat
    | 3 => m.host.irqEnable.toNat
    | 5 => if m.cmdOpen then m.cmdLevel else 0
    | 7 => if m.cmdOpen then fifoLevel m.host.rsp else 0
    | 9 => if m.windowOpen then fifoLevel m.host.evt else 0
    | 11 => if m.windowOpen then m.host.winAddr.toNat else 0
    | 14 => if m.windowOpen then m.host.snapQuality * 2 ^ 30 + m.host.snapNs else 0
    | 15 => m.host.scratch.toNat
    | _ => 0

/-- The data word of a transaction that reads (R321): of the register its header byte names; a header that writes reads nothing. -/
def ModuleState.misoWord (m : ModuleState) (header : Byte) : Nat := if (spiHeader header).1 then 0 else m.register (spiHeader header).2

end Sys2Proof.Machine
end

