-- ==== Sys2Proof/Machine/HostWindow.lean ====
section
/-! DEFINITION. The host window (R321 to R331) but for CMD_FIFO and RSP_FIFO, which stand in Interp.lean; the transport commands R332, R333;
and the timeouts of segments and UDP reassemblies (R310, R319). -/

namespace Sys2Proof.Machine

/-- The module with its host window changed. -/
def ModuleState.setHost (m : ModuleState) (f : HostWin → HostWin) : ModuleState := { m with host := f m.host }

/-! ### FIFOs and flags -/

/-- A word read from a FIFO: 0 of an empty one. -/
def fifoHead (f : List (List Word)) : Word := (f.headD []).headD 0

/-- A FIFO with its next word removed. -/
def fifoTail : List (List Word) → List (List Word)
  | [] => []
  | p :: r => if p.length ≤ 1 then r else p.drop 1 :: r

/-- EVT_FIFO_READ (R324 Table 12, R328): the next word of EVT_FIFO; SPI_ERR when it is empty. -/
def execEvtFifoRead (t : Nat) (s : State) : Host.Outcome State Fault Refusal :=
  happen true t (fun m =>
    if !m.windowOpen then m.setHost fun h => { h with readData := 0 }
    else if m.host.evt.isEmpty then m.setHost fun h => { h.raise 5 with readData := 0 }
    else m.setHost fun h => { h with readData := fifoHead h.evt, evt := fifoTail h.evt }) s

/-- CMD_FIFO's incomplete packet removed and discard ended (R327). -/
def ModuleState.flushCmd (m : ModuleState) : ModuleState :=
  (m.setHost fun h => { h with partialCmd := [], discard := false }).drained m.cmdUsed

/-- HW_IRQ_STATUS with the written flags cleared; RSP_READY and EVT_READY are set again while their FIFO holds a packet (R325). -/
def HostWin.clearIrq (h : HostWin) (w : Word) : HostWin :=
  let h1 := { h with irq := h.irq &&& ~~~w }
  let h2 := if h.rsp.isEmpty then h1 else h1.raise 0
  if h.evt.isEmpty then h2 else h2.raise 1

/-- HW_IRQ_STATUS_CLEAR (R324 Table 11, R325): a write of 1s; CMD_ERR among them flushes CMD_FIFO (R327). -/
def execHwIrqStatusClear (t : Nat) (w : Word) (s : State) : Host.Outcome State Fault Refusal :=
  happen true t (fun m =>
    if m.held then m
    else
      let m1 := m.setHost fun h => h.clearIrq w
      if w.getLsbD 4 then m1.flushCmd else m1) s

/-- CMD_ERR_FLUSH (R327): a write of 1 to CMD_ERR. -/
def execCmdErrFlush (t : Nat) (s : State) : Host.Outcome State Fault Refusal :=
  happen true t (fun m => if m.held then m else (m.setHost fun h => h.clearIrq 0x10).flushCmd) s

/-- SPI_TRANSACTION_ABORTED (R322): a transaction ends within its header or a word. -/
def execSpiTransactionAborted (t : Nat) (s : State) : Host.Outcome State Fault Refusal :=
  happen true t (fun m => if m.held then m else m.setHost fun h => h.raise 5) s

/-! ### The Polder window -/

/-- WIN_ADDR after an access (R324 Table 17). -/
def nextWin (a : Word) : Word := BitVec.ofNat 32 ((a.toNat + 4) % 0x40000)

/-- WIN_DATA_READ (R330, R331): the word at WIN_ADDR; err: what the detection code finds in a word not yet known as damaged. What is marked
damaged, and whole again once written, is that 32-bit window word and not the 64-bit code word of R33 it lies in (DESIGN CHOICE, log entry
158). -/
def execWinDataRead (t : Nat) (err : CodeErr) (s : State) : Host.Outcome State Fault Refusal :=
  .next (s.both t fun x =>
    let (m, mem) := x
    if !m.windowOpen then (m.setHost fun h => { h with readData := 0 }, mem)
    else
      let a := m.host.winAddr.toNat
      let bad : Bool := m.host.damaged.contains a || err == .persistent
      let m1 := m.setHost fun h => { h with winAddr := nextWin h.winAddr, readData := if bad then 0 else BitVec.ofNat 32 (leNat (mem.bytes a 4)) }
      let found : Mismatch := { addr := a, err := if bad then .persistent else err, item := .window a }
      let m2 := if bad then m1.setHost fun h => h.raise 9 else m1
      ((m2.mismatch isPolder found).judgeMemory isPolder, mem))

/-- WIN_DATA_WRITE (R330, R331): the word at WIN_ADDR, whole again when it was damaged. -/
def execWinDataWrite (t : Nat) (w : Word) (s : State) : Host.Outcome State Fault Refusal :=
  .next (s.both t fun x =>
    let (m, mem) := x
    if !m.windowOpen then x
    else
      let a := m.host.winAddr.toNat
      (m.setHost fun h => { h with winAddr := nextWin h.winAddr, damaged := h.damaged.filter (· != a) }, mem.store a (wordBytes w)))

/-! ### Other registers -/

/-- TIME_SNAP_READ (R10, R11, R324 Tables 18 and 19): TIME_SNAP_S latches its snapshot group. -/
def execTimeSnapRead (t : Nat) (s : State) : Host.Outcome State Fault Refusal :=
  happen true t (fun m =>
    if !m.windowOpen then m.setHost fun h => { h with readData := 0 }
    else m.setHost fun h => { h with
      readData := BitVec.ofNat 32 m.stamp.1
      snapNs := m.stamp.2
      snapQuality := m.time.quality.code }) s

/-- REGISTER_WRITE (R322, R323, R324): HW_IRQ_ENABLE, WIN_ADDR, HW_SCRATCH, by register number; a write to a read-only register, or to one
whose writes are rows of their own, changes nothing here. -/
def execRegisterWrite (t reg : Nat) (w : Word) (s : State) : Host.Outcome State Fault Refusal :=
  happen (reg < 16) t (fun m =>
    if m.held then m
    else match reg with
      | 3 => m.setHost fun h => { h with irqEnable := w &&& 0x3FF }
      | 11 => if m.windowOpen then m.setHost fun h => { h with winAddr := w &&& 0x3FFFC } else m
      | 15 => m.setHost fun h => { h with scratch := w }
      | _ => m) s

/-! ### Transport commands -/

def echoSpec : CmdSpec := { opcode := 0x0007, roles := .all, size := (· ≤ 4062), sched := true, body := fun c m => returnData m c.data }

/-- ECHO (R332). -/
def execEcho (p : Packet) (s : State) : Host.Outcome State Fault Refusal := .next (submit echoSpec p s)

/-- Transports a NOTIFY_ROUTE names (R318 Table 7). -/
def routable : List Transport := [.canA, .canB, .ethernet]

/-- The route of one transport after a NOTIFY_ROUTE (R318). -/
def Port.rerouted (q : Port) (x : Transport) (c : Cmd) : Port :=
  let addr := getN c.data 2 4
  let port := getN c.data 6 2
  if bit (getN c.data 0 1) x.index then
    { q with route := some (c.p.session, if addr = 0 then c.p.src.1 else addr, if port = 0 then c.p.src.2 else port) }
  else if q.routedTo c.p.session then { q with route := none }
  else q

/-- NOTIFY_ROUTE (R318, R333). -/
def notifyRouteBody (c : Cmd) (m : ModuleState) : Result :=
  let mask := getN c.data 0 1
  let foreign := routable.any fun x => bit mask x.index && x != c.p.transport
  if (mask ≠ 0 ∧ !bit c.p.flags 0) ∨ (foreign ∧ getN c.data 2 4 = 0) then refuse m stWrongState
  else
    { m := { m with interp := { m.interp with
        ports := routable.foldl (fun l x => upd l x.index fun q => q.rerouted x c) m.interp.ports } } }

def notifyRouteSpec : CmdSpec :=
  { opcode := 0x0008, roles := .only [.operator, .maintainer, .integrator], size := (· == 8),
    fields := fun b => getN b 0 1 &&& 0xF1 == 0 && getN b 1 1 == 0, body := notifyRouteBody }

/-- NOTIFY_ROUTE (R318). -/
def execNotifyRoute (p : Packet) (s : State) : Host.Outcome State Fault Refusal := .next (submit notifyRouteSpec p s)

/-- Transport status entry (R332 Table 21). -/
def ModuleState.transportEntry (m : ModuleState) (x : Transport) : List Byte :=
  let q := m.comm.portOf x
  leBytes 1 x.index ++ leBytes 1 (bitOf (m.up x) 0) ++ leBytes 4 q.packetsIn ++ leBytes 4 q.repliesOut ++ leBytes 2 q.discarded ++
    leBytes 2 q.rejected ++ leBytes 2 q.lost

def transportStatusSpec : CmdSpec :=
  { opcode := 0x0009, roles := .all, size := (· == 0),
    body := fun _ m => returnData m ([Transport.spi, .canA, .canB, .ethernet, .levee].flatMap m.transportEntry) }

/-- TRANSPORT_STATUS (R332, R627). -/
def execTransportStatus (p : Packet) (s : State) : Host.Outcome State Fault Refusal := .next (submit transportStatusSpec p s)

/-! ### Timeouts -/

/-- SEGMENT_TIMEOUT (R310): no segment for 2 s discards a collection. -/
def execSegmentTimeout (t : Nat) (transport : Transport) (s : State) : Host.Outcome State Fault Refusal :=
  happen true t (fun m =>
    let old := fun (c : Collection) => c.transport == transport && m.due c.last (seconds 2)
    let m1 := { m with interp := { m.interp with collections := m.interp.collections.filter fun c => !old c } }
    m1.each (m.interp.collections.filter old) fun m c =>
      m.log evSegmentTimeout tgModule [(c.transport.index : Int), (c.opcode : Int), (c.data.length : Int)]) s

/-- UDP_REASSEMBLY_TIMEOUT (R319): a datagram not reassembled within 200 ms is dropped. -/
def execUdpReassemblyTimeout (t src ident : Nat) (s : State) : Host.Outcome State Fault Refusal :=
  happen true t (fun m => m.setEth fun e => { e with
    reasm := e.reasm.filter fun x => !(x.key == (src, ident) && m.due x.since (ms 200)) }) s

end Sys2Proof.Machine
end

