-- ==== Sys2Proof/Machine/Image.lean ====
section
/-! DEFINITION. The door process image (R383 Table 9) on CAN and as TRDP process data (R395). -/

namespace Sys2Proof.Machine

/-- The four bytes of a portal in the image: DOOR_STATE, STEP_STATE, FLAGS, FAULT_CAUSE (R68 Table 16). -/
def ModuleState.imagePortal (m : ModuleState) (p : Nat) : List Byte :=
  let e := m.portalEntry p
  (e.drop 1).take 3 ++ (e.drop 12).take 1

/-- Bytes 0 to 51 of the process image (R383 Table 9). -/
def ModuleState.processImage (m : ModuleState) (seq : Nat) : List Byte :=
  let unit := bitOf m.duty 7 + bitOf m.reset.armed 6 + bitOf m.ringClosed 5 + bitOf m.faultFlag 4 + bitOf m.forelandLost 3 + m.pair.id % 4
  leBytes 2 seq ++ leBytes 1 1 ++ leBytes 1 unit ++ portalNums.flatMap m.imagePortal ++
    leBytes 1 (bitOf (m.ring.a.grantR && m.ring.b.grantR) 1 + bitOf (m.ring.a.grantL && m.ring.b.grantL) 0) ++ leBytes 1 m.slot ++ zeros 2 ++
    stampBytes m.stamp ++ leBytes 1 m.time.quality.code ++ zeros 17

/-- The module takes the next value of a group's freshness counter for an image, or uses the duty unit's (R383, R477, R514): the module, the
value and the key; none when no secured image can be sent (R516). -/
def ModuleState.imageFresh (m : ModuleState) (group : Nat) : Option (ModuleState × Nat × Nat) :=
  match m.groupKey group with
  | none => none
  | some key =>
    if !m.canSecure group then none
    else if m.notOnDuty then some (m, m.sec.dutyFresh.getD group 0, key)
    else some (m.takeFresh group, m.sec.fresh.getD group 0 + 1, key)

/-- SEQ of the next image (R383, R477): the duty unit counts on, the other member sends the duty unit's. -/
def ModuleState.imageSeq (m : ModuleState) (last modulus : Nat) : Nat := if m.notOnDuty then last else (last + 1) % modulus

/-- The 64 bytes of an image, secured under an identifier word or not. -/
def ModuleState.formImage (m : ModuleState) (secured : Bool) (group id seq : Nat) : Option (ModuleState × List Byte) :=
  let b := m.processImage seq
  if secured then (m.imageFresh group).map fun x => (x.1, securedBytes x.2.2 id x.2.1 b)
  else some (m, b ++ zeros 12)

/-- CAN_PI_PERIOD (R383): each PI_PERIOD the image is formed and replaces one still pending; bus-off suspends it (R365). -/
def execCanPiPeriod (t ctl : Nat) (s : State) : Host.Outcome State Fault Refusal :=
  happen (ctl < 2) t (fun m =>
    let q := m.ctl ctl
    if !q.carries ∨ !m.configured ∨ m.piId ctl = 0xFFFFFFFF ∨ !m.due q.piAt (ms (m.cfg (canCfg ctl + 28) 2)) then m
    else
      let m0 := m.setCtl ctl fun q => { q with piAt := m.now }
      let seq := m.imageSeq q.piSeq 65536
      match m0.formImage (bit (m.canFlags ctl) 4) ctl (m.piId ctl) seq with
      | none => m0
      | some (m1, b) =>
        let skip := q.piBuf.isSome
        let say : Bool := skip && (q.piSkipAt.map fun x => decide (x + seconds 1 ≤ m.now)).getD true
        let m2 := m1.setCtl ctl fun q => { q with
          piSeq := seq
          piBuf := some ({ id := m.piId ctl, fd := true, brs := true, data := b }, 0)
          piSince := m.now
          piSkipped := if skip then sat max16 q.piSkipped else q.piSkipped
          piSkips := if skip then lastSecond q.piSkips m.now else q.piSkips
          piSkipAt := if say then some m.now else q.piSkipAt }
        (m2.logIf say evCanPiSkipped tgModule [(ctl : Int), ((lastSecond q.piSkips m.now).length : Int)]).logIf (skip && q.piSkipped + 1 == max16)
          evCounterSaturated tgModule [0, 0x0900, 42]) s

/-- The PD-PDU header of IEC 61375-2-3 (R395; log entry 89): sequenceCounter, protocol version 1.0, msgType Pd, comId, topography counters,
datasetLength 64, no reply; then its frame check sequence. -/
def ModuleState.pdHeader (m : ModuleState) (seq : Nat) : List Byte :=
  let h := beBytes 4 seq ++ beBytes 2 0x0100 ++ beBytes 2 0x5064 ++ beBytes 4 (m.cfg (ethCfg + 24) 4) ++ beBytes 4 m.eth.etbTopo ++
    beBytes 4 m.eth.opTopo ++ beBytes 4 64 ++ zeros 12
  h ++ leBytes 4 (crc32 h)

/-- A process-data datagram that leaves (R395): from port 17224 to PD_DEST, port 17224, with PD_PCP. -/
def ModuleState.pdLeaves (m : ModuleState) : ModuleState :=
  match m.eth.pd with
  | none => m
  | some b =>
    let dest := (m.cfg (ethCfg + 20) 4, 17224)
    { m with
      eth := m.sendUdp m.eth 17224 (m.cfg (ethCfg + 19) 1) dest b
      out := m.out ++ [{ transport := .ethernet, dest, bytes := b }] }

/-- TRDP_PD_PERIOD (R395): each PD_PERIOD the image is published; left: the previous datagram has left by now. -/
def execTrdpPdPeriod (t : Nat) (left : Bool) (s : State) : Host.Outcome State Fault Refusal :=
  happen true t (fun m =>
    let m0 := if left then m.pdLeaves.setEth fun e => { e with pd := none } else m
    if !bit m.ethFlags 1 || !m.hostLink || m.reset.phase != .ready || !m.ethRuns || !m.due m.eth.pdAt (ms (m.cfg (ethCfg + 28) 2)) then m0
    else
      let m1 := m0.setEth fun e => { e with pdAt := m.now }
      let seq := m.imageSeq m.eth.dsSeq 65536
      let pdu := m.imageSeq m.eth.pdSeq (2 ^ 32)
      match m1.formImage (bit m.ethFlags 2) (Config.trdpGroup % 2) (m.cfg (ethCfg + 24) 4) seq with
      | none => m1
      | some (m2, b) =>
        let skip := m1.eth.pd.isSome
        let say : Bool := skip && (m.eth.pdSkipAt.map fun x => decide (x + seconds 1 ≤ m.now)).getD true
        let m3 := m2.setEth fun e => { e with
          pd := some (m.pdHeader pdu ++ b), dsSeq := seq, pdSeq := pdu
          pdSkips := if skip then lastSecond e.pdSkips m.now else e.pdSkips
          pdSkipAt := if say then some m.now else e.pdSkipAt }
        m3.logIf say evTrdpSkipped tgModule [((lastSecond m.eth.pdSkips m.now).length : Int)]) s

end Sys2Proof.Machine
end

