-- ==== Sys2Proof/Machine/Interp.lean ====
section
/-! DEFINITION. The interpreter's table of commands (R622) and the happenings at its inputs and outputs: packets read from the bytes of each
transport (R302, R307, R319, R457, R626), CMD_FIFO and RSP_FIFO (R326 to R329), acknowledgements (R21 to R32), and the launches of scheduled
packets (R350 to R354). -/

namespace Sys2Proof.Machine

/-! ### The table -/

/-- What R622 Table 2 lists, group by group. -/
def commandTable : List CmdSpec :=
  [armSpec, disarmSpec, moduleResetSpec, islandRestartSpec, resetStatusSpec, readIslandHealthSpec, echoSpec, notifyRouteSpec,
    transportStatusSpec] ++
  [portalOpenSpec, portalCloseSpec, portalClearSpec, portalHomeSpec, trainOpenSpec, trainCloseSpec, setPlatformClassSpec, portalStatusSpec,
    readPortalConfigSpec, profileSetLoadSpec, profileSelectSpec, profileCancelSpec, profileStatusSpec] ++
  [axisMoveSpec, axisStopSpec, axisStatusSpec, readAxisConfigSpec, axisSetPositionSpec, axisStepPathSpec, driveStatusSpec, readDriveConfigSpec,
    driveFaultClearSpec, solenoidSetSpec, bridgeTestSpec] ++
  [feedbackStatusSpec, readFeedbackConfigSpec, markSetSpec, markClearSpec, latchArmSpec, latchReadSpec, obstacleStatusSpec,
    readObstacleConfigSpec, forceMapReadSpec, forceMapResetSpec, ringStatusSpec, readRingConfigSpec, ringTestSpec, ringClearSpec] ++
  [lsSetSpec, lsSetMultiSpec, lsClearSpec, lsStatusSpec, readLsConfigSpec, pgSetSpec, pgStatusSpec, fiStatusSpec, foSetSpec, foSetMultiSpec,
    foClearSpec, foStatusSpec, linkStatusSpec, readFieldConfigSpec] ++
  [timeStatusSpec, readTimeConfigSpec, timeSetSpec, scheduleCancelSpec, canStatusSpec, readCanConfigSpec, canModeSpec, canRxBindSpec,
    canRxReadSpec, canTxSpec, canTxAbortSpec, ethStatusSpec, readEthConfigSpec, ethRingSetSpec, ethTopoSetSpec] ++
  [cvStartSpec, cvStopSpec, cvStatusSpec, culvertClearSpec, cvTraceSetSpec, recStatusSpec, logReadSpec, logReadNextSpec, logReadStopSpec,
    readRecConfigSpec, snapshotTriggerSpec, clusterStatusSpec, readPairConfigSpec, dutyHandoverSpec, clusterForwardSpec, discordClearSpec,
    clusterSoloSpec] ++
  [secStatusSpec, identityReadSpec, sessionOpenSpec, sessionConfirmSpec, sessionCloseSpec, attestSpec, kemRotateSpec, keySetSpec,
    lifecycleAdvanceSpec, imageWriteSpec, imageVerifySpec, configLoadSpec, activateSpec, bankStatusSpec, mgmtHealthSpec, supplyStatusSpec]

/-- The command of an opcode, if it is defined (R307 step 5). -/
def command (opcode : Nat) : Option CmdSpec := commandTable.find? fun c => c.opcode == opcode

/-- The interpreter takes what waits while it is free (R22). -/
def ModuleState.pump (m : ModuleState) : ModuleState :=
  if m.interprets then drain command (m.interp.launched.length + m.interp.waiting.length) m else m

/-- The interpreter looks again at what it holds, and takes what waits (R25, R31). -/
def ModuleState.goOn (m : ModuleState) : ModuleState := if m.interprets then resume command m else m

/-! ### Packets from bytes -/

/-- A packet that fails step 1 or 2 of R307 Table 4: counted, and logged. -/
def ModuleState.discardPacket (m : ModuleState) (x : Transport) (step : Nat) : ModuleState :=
  (m.discardOn x).log evPacketDiscarded tgModule [(x.index : Int), (step : Int)]

/-- A message of a network transport (R307, R319, R626): dropped without an interpreter; steps 1 and 2; then the packet arrives, and what it
launched is dispatched (R351). -/
def ModuleState.deliver (m : ModuleState) (x : Transport) (src : Nat × Nat) (b : List Byte) : ModuleState :=
  if !m.interprets then m.discardOn x
  else if !headerOk b then m.discardPacket x 1
  else if b.length ≠ 16 + getN b 12 2 then m.discardPacket x 2
  else (arrive command (readPacket m.now x src b) m).pump

/-! ### CMD_FIFO and RSP_FIFO -/

/-- CMD_FIFO enters discard (R327). -/
def ModuleState.enterDiscard (m : ModuleState) : ModuleState :=
  (m.setHost fun h => { h.raise 4 with partialCmd := [], discard := true }).drained m.cmdUsed

/-- Words of a packet by its first four words (R319). -/
def wordsOf (b : List Byte) : Nat := (16 + getN b 12 2 + 3) / 4

/-- CMD_FIFO_WRITE (R319, R323, R326, R327): a word; the header is checked once it is whole, the packet arrives once it is. -/
def execCmdFifoWrite (t : Nat) (w : Word) (s : State) : Host.Outcome State Fault Refusal :=
  happen true t (fun m =>
    if !m.cmdOpen || m.host.discard then m
    else if 1024 ≤ m.cmdUsed then m.enterDiscard
    else
      let words := m.host.partialCmd ++ [w]
      let b := words.flatMap wordBytes
      if words.length = 4 ∧ !headerOk b then (m.discardPacket .spi 1).enterDiscard
      else if 4 ≤ words.length ∧ words.length = wordsOf b then
        (arrive command (readPacket m.now .spi (0, 0) b) (m.setHost fun h => { h with partialCmd := [] })).pump
      else m.setHost fun h => { h with partialCmd := words }) s

/-- RSP_FIFO_READ (R324 Table 12, R328, R329): the next word of RSP_FIFO; SPI_ERR when it is empty. Held replies follow into the room, and the
interpreter may take packets from CMD_FIFO again. -/
def execRspFifoRead (t : Nat) (s : State) : Host.Outcome State Fault Refusal :=
  happen true t (fun m =>
    if !m.cmdOpen then m.setHost fun h => { h with readData := 0 }
    else if m.host.rsp.isEmpty then m.setHost fun h => { h.raise 5 with readData := 0 }
    else
      (m.cvSettle.setHost fun h =>
        { h with readData := fifoHead h.rsp, rsp := fifoTail h.rsp }.release).pump) s

/-! ### Network transports -/

/-- CAN_TP_FRAME_RECEIVED (R381): a frame on REQ_ID; a message it completes arrives as a packet. -/
def execCanTpFrameReceived (t ctl : Nat) (data : List Byte) (s : State) : Host.Outcome State Fault Refusal :=
  happen (ctl < 2) t (fun m =>
    let q := m.ctl ctl
    if !(q.carries && m.configured && m.reqId ctl != 0xFFFFFFFF) then m
    else
      let (m1, msg) := m.tpReceive ctl data
      match msg with
      | none => m1
      | some b => m1.deliver (if ctl = 0 then .canA else .canB) (0, 0) b) s

/-- UDP_DATAGRAM_RECEIVED (R319): a datagram to port 19788, its reassembly done; source address and port, identification. -/
def execUdpDatagramReceived (t src port ident : Nat) (data : List Byte) (s : State) : Host.Outcome State Fault Refusal :=
  happen true t (fun m =>
    if !m.ethRuns || !bit m.ethFlags 0 then m
    else (m.setEth fun e => { e with reasm := e.reasm.filter (·.key != (src, ident)) }).deliver .ethernet (src, port) data) s

/-- A frame addressed to this module is new: ahead of the last one accepted from its source (R457). -/
def Pair.news (x : Pair) (f : LeveeFrame) : Bool :=
  match x.seqs.getD f.src none with
  | none => true
  | some n =>
    let d := (f.seq + 2 ^ 32 - n) % 2 ^ 32
    1 ≤ d && d < 2 ^ 31

/-- What a frame brings that has no row of its own (R457, R479, R491): a forwarded packet, the reply to one, a frame of an epoch. -/
def ModuleState.takeLevee (m : ModuleState) (f : LeveeFrame) : ModuleState :=
  match f.body with
  | .inner n b => m.deliver .levee (f.src, n) b
  | .reply n b =>
    match m.pair.forwards.find? (·.seq == n) with
    | some w => (m.setPair fun x => { x with forwards := x.forwards.filter (·.seq != n) }).settle w.ref none (some b)
    | none => m
  | .epochPart => m.setPair fun x => { x with partialAt := if x.partialAt.isSome then x.partialAt else some m.now }
  | .lease _ _ => m
  | .commit _ => m
  | .vector _ => m
  | .other _ => m

/-- A frame carries a forwarded packet (R491). -/
def isInner : LeveeBody → Bool
  | .inner _ _ => true
  | .lease _ _ | .reply _ _ | .epochPart | .commit _ | .vector _ | .other _ => false

/-- LEVEE_FRAME_RECEIVED (R457): a frame with a wrong CRC is dropped; one for another member is passed on through the other port unless it has
made three hops; of two copies the first counts. Lease messages, commits and vectors act by rows of their own. While
the polder core does not run, a packet forwarded to this module is dropped and counted (R626). -/
def execLeveeFrameReceived (t link : Nat) (f : LeveeFrame) (s : State) : Host.Outcome State Fault Refusal :=
  happen (1 ≤ link && link ≤ 2) t (fun m =>
    if !m.paired || !f.crcOk then m
    else if !m.leveeRuns then
      if m.runs isNetwork && f.dest == m.pair.id && m.pair.news f && isInner f.body then
        (m.setPair fun x => { x with seqs := upd x.seqs f.src fun _ => some f.seq }).discardOn .levee
      else m
    else if f.dest ≠ m.pair.id then
      if 3 ≤ f.hops then m else m.setPair fun x => { x with out := x.out ++ [(3 - link, { f with hops := f.hops + 1 })] }
    else if !m.pair.news f then m
    else
      (m.setPair fun x => { x with
        seqs := upd x.seqs f.src fun _ => some f.seq
        members := upd x.members f.src fun _ => some m.now }).takeLevee f) s

/-! ### Actions -/

/-- Number of a channel (R24 Table 2). -/
def channelIndex (c : Channel) : Nat :=
  [Channel.m1ax, .m1ls, .m2ax, .m2ls, .sa, .sb, .fl, .net, .recd, .fg, .wd, .llu].findIdx (· == c)

/-- The oldest action of a channel that its island can acknowledge: a RING_TEST is acknowledged only once it has been judged, a CV_STOP only
once its channel has stopped (R415), and neither holds back the actions behind it, which have limits of their own (R27 Table 3; log entries 29, 164). -/
def ModuleState.oldest (m : ModuleState) (c : Channel) : Option PlacedAction :=
  m.interp.actions.find? fun a =>
    a.channel == c && !(a.opcode == 0x0502 && m.ring.test.isSome) && !(m.cv.chans.any fun q => q.stops.contains a.ref)

/-- How long an action may wait for its acknowledgement (R27). -/
def PlacedAction.limit (a : PlacedAction) : Nat := if a.opcode = 0x0502 then ms 100 else ms 10

/-- The oldest action of a channel whose time has run out (R27). -/
def ModuleState.overdue (m : ModuleState) (c : Channel) : Option PlacedAction :=
  m.interp.actions.find? fun a => a.channel == c && m.due a.placed a.limit

/-- An action done or failed: it leaves its channel, and a barrier no longer waits for it, or is broken by its failure (R31, R32). -/
def ModuleState.dropAction (m : ModuleState) (a : PlacedAction) (failed : Bool) : ModuleState :=
  { m with interp := { m.interp with
      actions := m.interp.actions.filter (·.id != a.id)
      hold := m.interp.hold.map fun h =>
        if failed && h.waits.contains a.id then { h with waits := [], broken := true } else { h with waits := h.waits.filter (· != a.id) } } }

/-- What begins once the warden has taken an order whose reply comes first (R581): a restart, or the flush before a module reset (R569). -/
def ModuleState.orderTaken (m : ModuleState) (a : PlacedAction) : ModuleState :=
  if a.channel ≠ .wd then m
  else if a.opcode = 0x0004 then m.orderedRestart
  else if a.opcode = 0x0003 ∧ m.reset.resetPending then m.beginFlush
  else m

/-- ACTION_ACKNOWLEDGED (R21, R27, R35): an island acknowledges the oldest action of a channel; the reply follows the last one. A ring test is
acknowledged once it has been judged. errs: code mismatches met on the way; at the second the receiving island restarts. -/
def execActionAcknowledged (t : Nat) (chan : Channel) (errs : Nat) (s : State) : Host.Outcome State Fault Refusal :=
  happen true t (fun m =>
    match m.oldest chan with
    | none => m
    | some a =>
      if !m.interprets || !m.runs chan.island then m
      else if 2 ≤ errs then m.restartIsland chan.island .channel
      else ((((m.dropAction a false).settle a.ref none none).closeAnswered).orderTaken a).goOn) s

/-- ACTION_ACK_TIMEOUT (R27): 10 ms, or 100 ms for RING_TEST, without an acknowledgement: the action has failed. -/
def execActionAckTimeout (t : Nat) (chan : Channel) (s : State) : Host.Outcome State Fault Refusal :=
  happen true t (fun m =>
    match m.overdue chan with
    | none => m
    | some a =>
      if !m.interprets then m
      else
        let m1 := if a.opcode = 0x0502 then m.setRing fun r => { r with test := none } else m
        let m2 := if a.channel = .wd then m1.setReset fun r =>
            { r with resetPending := r.resetPending && a.opcode != 0x0003, restartOrders := if a.opcode = 0x0004 then r.restartOrders.drop 1 else r.restartOrders }
          else m1
        let m3 := (m2.dropAction a true).endRef a.ref stIslandNoAck []
        ((m3.log evActionTimeout tgModule [(channelIndex chan : Int), (a.opcode : Int)]).closeAnswered).goOn) s

/-- DISPATCH_ROOM_TIMEOUT (R25): no room for 5 ms. -/
def execDispatchRoomTimeout (t : Nat) (s : State) : Host.Outcome State Fault Refusal :=
  happen true t (fun m =>
    match m.interp.hold with
    | none => m
    | some h =>
      if !m.interprets || !h.waits.isEmpty || !h.checked || !m.due h.since (ms 5) then m
      else
        (({ m with interp := { m.interp with hold := none } }).answer (replyTo m h.packet (h.packet.opcode % 0x8000) false) stQueueFull []).pump) s

/-! ### Launches -/

/-- COMPARE_UNIT_FIRE (R350): a unit reaches its target; the packets launched are dispatched. -/
def execCompareUnitFire (t unit : Nat) (s : State) : Host.Outcome State Fault Refusal :=
  happen (unit < 8) t (fun m => (m.fireUnit unit).pump) s

/-- TIME_SET (R357): a step may launch scheduled packets (R351). -/
def execTimeSet (p : Packet) (s : State) : Host.Outcome State Fault Refusal :=
  .next ((submit timeSetSpec p s).at p.time fun m => m.pump)

/-- PTP_MESSAGE_RECEIVED (R344). -/
def execPtpMessageReceived (t : Nat) (msg : PtpMessage) (s : State) : Host.Outcome State Fault Refusal :=
  happen true t (fun m => (m.ptpMessage msg).pump) s

/-- LEVEE_DELAY_MEASURE (R459, R487): the delay of a link; a member that is not the time root disciplines its module time to it,
and has its quality. The duty unit of pair 1 is the root; that of pair 2 is it while pair 1 has none, which `root` says. offset: own module
time less that of the time root, in ns. -/
def execLeveeDelayMeasure (t link delay : Nat) (root : Bool) (offset : Int) (q : Quality) (s : State) : Host.Outcome State Fault Refusal :=
  happen (1 ≤ link && link ≤ 2) t (fun m =>
    if !m.paired then m
    else
      let m1 := m.setPair fun x => x.setPort link fun y => { y with delay }
      if (m.pair.role.holds && (m.pair.id < 2 || root)) || !m.reset.armed then m1
      else (((m1.setPair fun x => { x with timeDiff := offset }).applyOffset 4 offset).setQuality q).pump) s

/-- PPS_IN_EDGE (R349): an edge at an instant. -/
def execPpsInEdge (t edge : Nat) (falling : Bool) (s : State) : Host.Outcome State Fault Refusal :=
  happen true t (fun m => (m.ppsEdge falling edge).pump) s

end Sys2Proof.Machine
end

