-- ==== Sys2Proof/Machine/Dispatch.lean ====
section
/-! DEFINITION. exec: one arm for each row of the table, a direct call of its meaning. -/

namespace Sys2Proof.Machine

def exec (i : Instr) (s : State) : Host.Outcome State Fault Refusal :=
  match i with
  | .arm p => Sys2Proof.Machine.execArm p s
  | .disarm p => Sys2Proof.Machine.execDisarm p s
  | .moduleReset p => Sys2Proof.Machine.execModuleReset p s
  | .islandRestart p => Sys2Proof.Machine.execIslandRestart p s
  | .resetStatus p => Sys2Proof.Machine.execResetStatus p s
  | .readIslandHealth p => Sys2Proof.Machine.execReadIslandHealth p s
  | .echo p => Sys2Proof.Machine.execEcho p s
  | .notifyRoute p => Sys2Proof.Machine.execNotifyRoute p s
  | .transportStatus p => Sys2Proof.Machine.execTransportStatus p s
  | .portalOpen p => Sys2Proof.Machine.execPortalOpen p s
  | .portalClose p => Sys2Proof.Machine.execPortalClose p s
  | .trainOpen p => Sys2Proof.Machine.execTrainOpen p s
  | .trainClose p => Sys2Proof.Machine.execTrainClose p s
  | .setPlatformClass p => Sys2Proof.Machine.execSetPlatformClass p s
  | .portalClear p => Sys2Proof.Machine.execPortalClear p s
  | .portalHome p => Sys2Proof.Machine.execPortalHome p s
  | .portalStatus p => Sys2Proof.Machine.execPortalStatus p s
  | .readPortalConfig p => Sys2Proof.Machine.execReadPortalConfig p s
  | .profileSetLoad p => Sys2Proof.Machine.execProfileSetLoad p s
  | .profileSelect p => Sys2Proof.Machine.execProfileSelect p s
  | .profileCancel p => Sys2Proof.Machine.execProfileCancel p s
  | .profileStatus p => Sys2Proof.Machine.execProfileStatus p s
  | .axisMove p => Sys2Proof.Machine.execAxisMove p s
  | .axisStop p => Sys2Proof.Machine.execAxisStop p s
  | .axisStatus p => Sys2Proof.Machine.execAxisStatus p s
  | .readAxisConfig p => Sys2Proof.Machine.execReadAxisConfig p s
  | .axisSetPosition p => Sys2Proof.Machine.execAxisSetPosition p s
  | .axisStepPath p => Sys2Proof.Machine.execAxisStepPath p s
  | .driveStatus p => Sys2Proof.Machine.execDriveStatus p s
  | .readDriveConfig p => Sys2Proof.Machine.execReadDriveConfig p s
  | .driveFaultClear p => Sys2Proof.Machine.execDriveFaultClear p s
  | .solenoidSet p => Sys2Proof.Machine.execSolenoidSet p s
  | .bridgeTest p => Sys2Proof.Machine.execBridgeTest p s
  | .feedbackStatus p => Sys2Proof.Machine.execFeedbackStatus p s
  | .readFeedbackConfig p => Sys2Proof.Machine.execReadFeedbackConfig p s
  | .markSet p => Sys2Proof.Machine.execMarkSet p s
  | .markClear p => Sys2Proof.Machine.execMarkClear p s
  | .latchArm p => Sys2Proof.Machine.execLatchArm p s
  | .latchRead p => Sys2Proof.Machine.execLatchRead p s
  | .obstacleStatus p => Sys2Proof.Machine.execObstacleStatus p s
  | .readObstacleConfig p => Sys2Proof.Machine.execReadObstacleConfig p s
  | .forceMapRead p => Sys2Proof.Machine.execForceMapRead p s
  | .forceMapReset p => Sys2Proof.Machine.execForceMapReset p s
  | .ringStatus p => Sys2Proof.Machine.execRingStatus p s
  | .readRingConfig p => Sys2Proof.Machine.execReadRingConfig p s
  | .ringTest p => Sys2Proof.Machine.execRingTest p s
  | .ringClear p => Sys2Proof.Machine.execRingClear p s
  | .lsSet p => Sys2Proof.Machine.execLsSet p s
  | .lsSetMulti p => Sys2Proof.Machine.execLsSetMulti p s
  | .lsClear p => Sys2Proof.Machine.execLsClear p s
  | .lsStatus p => Sys2Proof.Machine.execLsStatus p s
  | .readLsConfig p => Sys2Proof.Machine.execReadLsConfig p s
  | .pgSet p => Sys2Proof.Machine.execPgSet p s
  | .pgStatus p => Sys2Proof.Machine.execPgStatus p s
  | .fiStatus p => Sys2Proof.Machine.execFiStatus p s
  | .foSet p => Sys2Proof.Machine.execFoSet p s
  | .foSetMulti p => Sys2Proof.Machine.execFoSetMulti p s
  | .foClear p => Sys2Proof.Machine.execFoClear p s
  | .foStatus p => Sys2Proof.Machine.execFoStatus p s
  | .linkStatus p => Sys2Proof.Machine.execLinkStatus p s
  | .readFieldConfig p => Sys2Proof.Machine.execReadFieldConfig p s
  | .timeStatus p => Sys2Proof.Machine.execTimeStatus p s
  | .timeSet p => Sys2Proof.Machine.execTimeSet p s
  | .readTimeConfig p => Sys2Proof.Machine.execReadTimeConfig p s
  | .scheduleCancel p => Sys2Proof.Machine.execScheduleCancel p s
  | .canStatus p => Sys2Proof.Machine.execCanStatus p s
  | .readCanConfig p => Sys2Proof.Machine.execReadCanConfig p s
  | .canMode p => Sys2Proof.Machine.execCanMode p s
  | .canRxBind p => Sys2Proof.Machine.execCanRxBind p s
  | .canRxRead p => Sys2Proof.Machine.execCanRxRead p s
  | .canTx p => Sys2Proof.Machine.execCanTx p s
  | .canTxAbort p => Sys2Proof.Machine.execCanTxAbort p s
  | .ethStatus p => Sys2Proof.Machine.execEthStatus p s
  | .readEthConfig p => Sys2Proof.Machine.execReadEthConfig p s
  | .ethRingSet p => Sys2Proof.Machine.execEthRingSet p s
  | .ethTopoSet p => Sys2Proof.Machine.execEthTopoSet p s
  | .cvStart p => Sys2Proof.Machine.execCvStart p s
  | .cvStop p => Sys2Proof.Machine.execCvStop p s
  | .cvStatus p => Sys2Proof.Machine.execCvStatus p s
  | .culvertClear p => Sys2Proof.Machine.execCulvertClear p s
  | .cvTraceSet p => Sys2Proof.Machine.execCvTraceSet p s
  | .recStatus p => Sys2Proof.Machine.execRecStatus p s
  | .logRead p => Sys2Proof.Machine.execLogRead p s
  | .logReadNext p => Sys2Proof.Machine.execLogReadNext p s
  | .logReadStop p => Sys2Proof.Machine.execLogReadStop p s
  | .readRecConfig p => Sys2Proof.Machine.execReadRecConfig p s
  | .snapshotTrigger p => Sys2Proof.Machine.execSnapshotTrigger p s
  | .clusterStatus p => Sys2Proof.Machine.execClusterStatus p s
  | .readPairConfig p => Sys2Proof.Machine.execReadPairConfig p s
  | .dutyHandover p => Sys2Proof.Machine.execDutyHandover p s
  | .clusterForward p => Sys2Proof.Machine.execClusterForward p s
  | .discordClear p => Sys2Proof.Machine.execDiscordClear p s
  | .clusterSolo p => Sys2Proof.Machine.execClusterSolo p s
  | .secStatus p => Sys2Proof.Machine.execSecStatus p s
  | .identityRead p => Sys2Proof.Machine.execIdentityRead p s
  | .sessionOpen p => Sys2Proof.Machine.execSessionOpen p s
  | .sessionConfirm p => Sys2Proof.Machine.execSessionConfirm p s
  | .sessionClose p => Sys2Proof.Machine.execSessionClose p s
  | .attest p => Sys2Proof.Machine.execAttest p s
  | .keySet p => Sys2Proof.Machine.execKeySet p s
  | .lifecycleAdvance p => Sys2Proof.Machine.execLifecycleAdvance p s
  | .kemRotate p => Sys2Proof.Machine.execKemRotate p s
  | .mgmtHealth p => Sys2Proof.Machine.execMgmtHealth p s
  | .bankStatus p => Sys2Proof.Machine.execBankStatus p s
  | .imageWrite p => Sys2Proof.Machine.execImageWrite p s
  | .imageVerify p => Sys2Proof.Machine.execImageVerify p s
  | .configLoad p => Sys2Proof.Machine.execConfigLoad p s
  | .activate p => Sys2Proof.Machine.execActivate p s
  | .supplyStatus p => Sys2Proof.Machine.execSupplyStatus p s
  | .cmdFifoWrite t w => Sys2Proof.Machine.execCmdFifoWrite t w s
  | .rspFifoRead t => Sys2Proof.Machine.execRspFifoRead t s
  | .evtFifoRead t => Sys2Proof.Machine.execEvtFifoRead t s
  | .hwIrqStatusClear t w => Sys2Proof.Machine.execHwIrqStatusClear t w s
  | .cmdErrFlush t => Sys2Proof.Machine.execCmdErrFlush t s
  | .doorbellEthTx t => Sys2Proof.Machine.execDoorbellEthTx t s
  | .doorbellEthRx t => Sys2Proof.Machine.execDoorbellEthRx t s
  | .doorbellCv t cv => Sys2Proof.Machine.execDoorbellCv t cv s
  | .winDataRead t err => Sys2Proof.Machine.execWinDataRead t err s
  | .winDataWrite t w => Sys2Proof.Machine.execWinDataWrite t w s
  | .timeSnapRead t => Sys2Proof.Machine.execTimeSnapRead t s
  | .registerWrite t reg w => Sys2Proof.Machine.execRegisterWrite t reg w s
  | .spiTransactionAborted t => Sys2Proof.Machine.execSpiTransactionAborted t s
  | .canTpFrameReceived t ctl data => Sys2Proof.Machine.execCanTpFrameReceived t ctl data s
  | .canTpNCrTimeout t ctl => Sys2Proof.Machine.execCanTpNCrTimeout t ctl s
  | .canTpNBsTimeout t ctl => Sys2Proof.Machine.execCanTpNBsTimeout t ctl s
  | .udpDatagramReceived t src port ident data => Sys2Proof.Machine.execUdpDatagramReceived t src port ident data s
  | .udpReassemblyTimeout t src ident => Sys2Proof.Machine.execUdpReassemblyTimeout t src ident s
  | .leveeFrameReceived t link f => Sys2Proof.Machine.execLeveeFrameReceived t link f s
  | .dispatchRoomTimeout t => Sys2Proof.Machine.execDispatchRoomTimeout t s
  | .actionAcknowledged t chan errs => Sys2Proof.Machine.execActionAcknowledged t chan errs s
  | .actionAckTimeout t chan => Sys2Proof.Machine.execActionAckTimeout t chan s
  | .segmentTimeout t transport => Sys2Proof.Machine.execSegmentTimeout t transport s
  | .scrubPass t island found => Sys2Proof.Machine.execScrubPass t island found s
  | .memTransientReport t island => Sys2Proof.Machine.execMemTransientReport t island s
  | .watchdogExpiry t island => Sys2Proof.Machine.execWatchdogExpiry t island s
  | .islandRestartDone t island started damage => Sys2Proof.Machine.execIslandRestartDone t island started damage s
  | .autoRearm t => Sys2Proof.Machine.execAutoRearm t s
  | .holdWindowEnd t => Sys2Proof.Machine.execHoldWindowEnd t s
  | .portalTick t => Sys2Proof.Machine.execPortalTick t s
  | .profileScheduleLaunch t => Sys2Proof.Machine.execProfileScheduleLaunch t s
  | .contactDisagreeTimeout t portal => Sys2Proof.Machine.execContactDisagreeTimeout t portal s
  | .unlockTimeout t portal => Sys2Proof.Machine.execUnlockTimeout t portal s
  | .unlockPulseEnd t portal => Sys2Proof.Machine.execUnlockPulseEnd t portal s
  | .lockTimeout t portal => Sys2Proof.Machine.execLockTimeout t portal s
  | .moveTimeout t portal => Sys2Proof.Machine.execMoveTimeout t portal s
  | .autoCloseExpiry t portal => Sys2Proof.Machine.execAutoCloseExpiry t portal s
  | .warnTimeElapsed t portal => Sys2Proof.Machine.execWarnTimeElapsed t portal s
  | .warningPatternToggle t portal lamp => Sys2Proof.Machine.execWarningPatternToggle t portal lamp s
  | .recloseDelayElapsed t portal => Sys2Proof.Machine.execRecloseDelayElapsed t portal s
  | .stepTimeout t portal => Sys2Proof.Machine.execStepTimeout t portal s
  | .stepRestowWait t portal => Sys2Proof.Machine.execStepRestowWait t portal s
  | .homeTimeout t portal => Sys2Proof.Machine.execHomeTimeout t portal s
  | .stepTimerExpiry t axis fed counted => Sys2Proof.Machine.execStepTimerExpiry t axis fed counted s
  | .fallbackIncrementLoad t axis counted => Sys2Proof.Machine.execFallbackIncrementLoad t axis counted s
  | .stepTimerRestore t axis passed => Sys2Proof.Machine.execStepTimerRestore t axis passed s
  | .currentLoopUpdate t axis ia ib temp chopA chopB => Sys2Proof.Machine.execCurrentLoopUpdate t axis ia ib temp chopA chopB s
  | .stallWindowExceeded t axis => Sys2Proof.Machine.execStallWindowExceeded t axis s
  | .holdDelayExpiry t axis => Sys2Proof.Machine.execHoldDelayExpiry t axis s
  | .solenoidPullEnd t axis => Sys2Proof.Machine.execSolenoidPullEnd t axis s
  | .bridgeOvercurrentTrip t axis tripped deadTime ia ib => Sys2Proof.Machine.execBridgeOvercurrentTrip t axis tripped deadTime ia ib s
  | .bridgeOvertemp t axis => Sys2Proof.Machine.execBridgeOvertemp t axis s
  | .openPhaseDetected t axis follows => Sys2Proof.Machine.execOpenPhaseDetected t axis follows s
  | .gateSupplyFault t axis => Sys2Proof.Machine.execGateSupplyFault t axis s
  | .gateSupplyRecovered t axis => Sys2Proof.Machine.execGateSupplyRecovered t axis s
  | .sluiceCheck t axis follow => Sys2Proof.Machine.execSluiceCheck t axis follow s
  | .sluiceClosedReadback t axis => Sys2Proof.Machine.execSluiceClosedReadback t axis s
  | .angleValidationDone t axis => Sys2Proof.Machine.execAngleValidationDone t axis s
  | .regenLimitEnter t bulk clamp => Sys2Proof.Machine.execRegenLimitEnter t bulk clamp s
  | .regenLimitEnd t bulk => Sys2Proof.Machine.execRegenLimitEnd t bulk s
  | .regenBrake t bulk clamp => Sys2Proof.Machine.execRegenBrake t bulk clamp s
  | .standbyBridgeTest t axis currents follow => Sys2Proof.Machine.execStandbyBridgeTest t axis currents follow s
  | .encoderEdge t axis line levelA levelB at_ levelZ => Sys2Proof.Machine.execEncoderEdge t axis line levelA levelB at_ levelZ s
  | .edgeFaultsReport t axis => Sys2Proof.Machine.execEdgeFaultsReport t axis s
  | .encSupplyOverload t axis current => Sys2Proof.Machine.execEncSupplyOverload t axis current s
  | .encSupplyRetry t axis => Sys2Proof.Machine.execEncSupplyRetry t axis s
  | .encSignalLoss t axis supply => Sys2Proof.Machine.execEncSignalLoss t axis supply s
  | .encSignalRestored t axis => Sys2Proof.Machine.execEncSignalRestored t axis s
  | .termPartnerTimeout t axis => Sys2Proof.Machine.execTermPartnerTimeout t axis s
  | .termPartnerReturn t axis => Sys2Proof.Machine.execTermPartnerReturn t axis s
  | .observerUpdate t axis => Sys2Proof.Machine.execObserverUpdate t axis s
  | .speedStillTimeout t axis => Sys2Proof.Machine.execSpeedStillTimeout t axis s
  | .sspReading t axis started frame copy => Sys2Proof.Machine.execSspReading t axis started frame copy s
  | .forceEstimateUpdate t portal => Sys2Proof.Machine.execForceEstimateUpdate t portal s
  | .obstTimeElapsed t portal step => Sys2Proof.Machine.execObstTimeElapsed t portal step s
  | .keExceeded t portal => Sys2Proof.Machine.execKeExceeded t portal s
  | .edgeFaultTimeout t portal => Sys2Proof.Machine.execEdgeFaultTimeout t portal s
  | .edgeDegradeEnd t portal => Sys2Proof.Machine.execEdgeDegradeEnd t portal s
  | .safetyEvaluation t sw => Sys2Proof.Machine.execSafetyEvaluation t sw s
  | .closeConfirmElapsed t sw => Sys2Proof.Machine.execCloseConfirmElapsed t sw s
  | .releaseConfirmElapsed t sw right => Sys2Proof.Machine.execReleaseConfirmElapsed t sw right s
  | .comparisonWordReceived t sw err => Sys2Proof.Machine.execComparisonWordReceived t sw err s
  | .discrepancyLatch t sw kind index => Sys2Proof.Machine.execDiscrepancyLatch t sw kind index s
  | .compareLost t sw => Sys2Proof.Machine.execCompareLost t sw s
  | .compareResumed t sw => Sys2Proof.Machine.execCompareResumed t sw s
  | .positionWordReceived t sw portal err => Sys2Proof.Machine.execPositionWordReceived t sw portal err s
  | .positionWordStale t sw portal => Sys2Proof.Machine.execPositionWordStale t sw portal s
  | .ringReadbackFault t obs => Sys2Proof.Machine.execRingReadbackFault t obs s
  | .ringTestPulseDue t sw => Sys2Proof.Machine.execRingTestPulseDue t sw s
  | .ringTestPulseJudged t sw current vA vB => Sys2Proof.Machine.execRingTestPulseJudged t sw current vA vB s
  | .ringTestOverdue t sw => Sys2Proof.Machine.execRingTestOverdue t sw s
  | .lsCurrentLimit t ls current => Sys2Proof.Machine.execLsCurrentLimit t ls current s
  | .lsThermalShutdown t ls temp => Sys2Proof.Machine.execLsThermalShutdown t ls temp s
  | .lsCooled t ls => Sys2Proof.Machine.execLsCooled t ls s
  | .lsRetryReset t ls => Sys2Proof.Machine.execLsRetryReset t ls s
  | .pgPeriodEdge t copy pg start rise fall => Sys2Proof.Machine.execPgPeriodEdge t copy pg start rise fall s
  | .lspwmEdge t pin level => Sys2Proof.Machine.execLspwmEdge t pin level s
  | .lsOpenLoadTimeout t ls current => Sys2Proof.Machine.execLsOpenLoadTimeout t ls current s
  | .lsOffDiagJudged t ls volt => Sys2Proof.Machine.execLsOffDiagJudged t ls volt s
  | .vlsLevelChange t vls => Sys2Proof.Machine.execVlsLevelChange t vls s
  | .vlsRestartStep t => Sys2Proof.Machine.execVlsRestartStep t s
  | .fieldInputEdge t fi sample2 volt since => Sys2Proof.Machine.execFieldInputEdge t fi sample2 volt since s
  | .fiReversedTimeout t fi volt => Sys2Proof.Machine.execFiReversedTimeout t fi volt s
  | .sampleDisagreeTimeout t fi => Sys2Proof.Machine.execSampleDisagreeTimeout t fi s
  | .supervisedMeasure t fi ohms => Sys2Proof.Machine.execSupervisedMeasure t fi ohms s
  | .supFaultTimeout t fi => Sys2Proof.Machine.execSupFaultTimeout t fi s
  | .barrierFrameReceived t lane fore seq crcOk loopMa vA vB => Sys2Proof.Machine.execBarrierFrameReceived t lane fore seq crcOk loopMa vA vB s
  | .barrierLaneLost t lane fore => Sys2Proof.Machine.execBarrierLaneLost t lane fore s
  | .barrierLaneRestored t lane fore => Sys2Proof.Machine.execBarrierLaneRestored t lane fore s
  | .foRestartStep t => Sys2Proof.Machine.execFoRestartStep t s
  | .foOverloadTimeout t fo current => Sys2Proof.Machine.execFoOverloadTimeout t fo current s
  | .foThermalShutdown t fo temp => Sys2Proof.Machine.execFoThermalShutdown t fo temp s
  | .foOverloadRetry t fo => Sys2Proof.Machine.execFoOverloadRetry t fo s
  | .foCooled t fo => Sys2Proof.Machine.execFoCooled t fo s
  | .foOpenWireTimeout t fo current => Sys2Proof.Machine.execFoOpenWireTimeout t fo current s
  | .foOffDiagJudged t fo volt => Sys2Proof.Machine.execFoOffDiagJudged t fo volt s
  | .vfoLevelChange t vfo => Sys2Proof.Machine.execVfoLevelChange t vfo s
  | .ptpMessageReceived t msg => Sys2Proof.Machine.execPtpMessageReceived t msg s
  | .ptpSourceLost t => Sys2Proof.Machine.execPtpSourceLost t s
  | .holdoverExpiry t => Sys2Proof.Machine.execHoldoverExpiry t s
  | .ppsInEdge t edge falling => Sys2Proof.Machine.execPpsInEdge t edge falling s
  | .ppsOutPulse t => Sys2Proof.Machine.execPpsOutPulse t s
  | .ppsOutFall t => Sys2Proof.Machine.execPpsOutFall t s
  | .compareTargetArm t unit => Sys2Proof.Machine.execCompareTargetArm t unit s
  | .compareUnitFire t unit => Sys2Proof.Machine.execCompareUnitFire t unit s
  | .ref25mLost t => Sys2Proof.Machine.execRef25mLost t s
  | .ref25mRestored t => Sys2Proof.Machine.execRef25mRestored t s
  | .canFrameReceived t ctl sof f => Sys2Proof.Machine.execCanFrameReceived t ctl sof f s
  | .canRateDwellEnd t ctl => Sys2Proof.Machine.execCanRateDwellEnd t ctl s
  | .canTxSuccess t ctl buf sof => Sys2Proof.Machine.execCanTxSuccess t ctl buf sof s
  | .canTxErrorFrame t ctl buf err => Sys2Proof.Machine.execCanTxErrorFrame t ctl buf err s
  | .canBusOffRecovered t ctl => Sys2Proof.Machine.execCanBusOffRecovered t ctl s
  | .canModeApply t ctl => Sys2Proof.Machine.execCanModeApply t ctl s
  | .canBusIntegrated t ctl => Sys2Proof.Machine.execCanBusIntegrated t ctl s
  | .canTxdTimeout t ctl => Sys2Proof.Machine.execCanTxdTimeout t ctl s
  | .canBusDominant t ctl => Sys2Proof.Machine.execCanBusDominant t ctl s
  | .canPiPeriod t ctl => Sys2Proof.Machine.execCanPiPeriod t ctl s
  | .ethLinkChange t eport up speed flags => Sys2Proof.Machine.execEthLinkChange t eport up speed flags s
  | .ethFrameReceived t eport sof residence good frame => Sys2Proof.Machine.execEthFrameReceived t eport sof residence good frame s
  | .ethAddressAged t vid mac => Sys2Proof.Machine.execEthAddressAged t vid mac s
  | .ethTxComplete t sof => Sys2Proof.Machine.execEthTxComplete t sof s
  | .trdpPdPeriod t left => Sys2Proof.Machine.execTrdpPdPeriod t left s
  | .cvDescriptorStart t cv => Sys2Proof.Machine.execCvDescriptorStart t cv s
  | .cvBurst t cv => Sys2Proof.Machine.execCvBurst t cv s
  | .cvPaceReady t cv => Sys2Proof.Machine.execCvPaceReady t cv s
  | .cvDescriptorComplete t cv => Sys2Proof.Machine.execCvDescriptorComplete t cv s
  | .cvAccessTimeout t cv wbFail => Sys2Proof.Machine.execCvAccessTimeout t cv wbFail s
  | .cvBusError t cv addr wbFail => Sys2Proof.Machine.execCvBusError t cv addr wbFail s
  | .cvRecorderResume t => Sys2Proof.Machine.execCvRecorderResume t s
  | .traceSample t axis => Sys2Proof.Machine.execTraceSample t axis s
  | .recordTakeIn t => Sys2Proof.Machine.execRecordTakeIn t s
  | .recordFlushTimer t => Sys2Proof.Machine.execRecordFlushTimer t s
  | .nandFlushDone t => Sys2Proof.Machine.execNandFlushDone t s
  | .nandBlockFailure t region block cause => Sys2Proof.Machine.execNandBlockFailure t region block cause s
  | .opTimeSave t => Sys2Proof.Machine.execOpTimeSave t s
  | .traceSpacingSample t portal => Sys2Proof.Machine.execTraceSpacingSample t portal s
  | .snapshotSample t => Sys2Proof.Machine.execSnapshotSample t s
  | .snapshotCollectDone t => Sys2Proof.Machine.execSnapshotCollectDone t s
  | .logChunkDone t => Sys2Proof.Machine.execLogChunkDone t s
  | .logReadTimeout t => Sys2Proof.Machine.execLogReadTimeout t s
  | .powerFailFlushDone t stages => Sys2Proof.Machine.execPowerFailFlushDone t stages s
  | .leaseRenewSend t => Sys2Proof.Machine.execLeaseRenewSend t s
  | .leaseRenewReceived t msg => Sys2Proof.Machine.execLeaseRenewReceived t msg s
  | .leaseAckReceived t msg => Sys2Proof.Machine.execLeaseAckReceived t msg s
  | .helloSend t => Sys2Proof.Machine.execHelloSend t s
  | .helloReceived t msg => Sys2Proof.Machine.execHelloReceived t msg s
  | .claimReceived t msg => Sys2Proof.Machine.execClaimReceived t msg s
  | .relinquishReceived t msg cause st => Sys2Proof.Machine.execRelinquishReceived t msg cause st s
  | .leaveReceived t msg => Sys2Proof.Machine.execLeaveReceived t msg s
  | .leaseLapse t => Sys2Proof.Machine.execLeaseLapse t s
  | .fenceSoloDelay t => Sys2Proof.Machine.execFenceSoloDelay t s
  | .leaseExpiryTakeover t => Sys2Proof.Machine.execLeaseExpiryTakeover t s
  | .searchSilenceTimeout t => Sys2Proof.Machine.execSearchSilenceTimeout t s
  | .fenceInputAsserted t link => Sys2Proof.Machine.execFenceInputAsserted t link s
  | .fenceInputReleased t link straps damage => Sys2Proof.Machine.execFenceInputReleased t link straps damage s
  | .fenceOutputEnd t link => Sys2Proof.Machine.execFenceOutputEnd t link s
  | .comparisonVectorReceived t v partnerDisagrees testFailed => Sys2Proof.Machine.execComparisonVectorReceived t v partnerDisagrees testFailed s
  | .discordTimeout t => Sys2Proof.Machine.execDiscordTimeout t s
  | .mirrorEpochClose t wanted => Sys2Proof.Machine.execMirrorEpochClose t wanted s
  | .epochCommitReceived t e full crcOk => Sys2Proof.Machine.execEpochCommitReceived t e full crcOk s
  | .epochCommitTimeout t => Sys2Proof.Machine.execEpochCommitTimeout t s
  | .standbyFit t => Sys2Proof.Machine.execStandbyFit t s
  | .plannedTransfer t asked => Sys2Proof.Machine.execPlannedTransfer t asked s
  | .rotateDue t => Sys2Proof.Machine.execRotateDue t s
  | .revertDue t => Sys2Proof.Machine.execRevertDue t s
  | .transferCheckDone t => Sys2Proof.Machine.execTransferCheckDone t s
  | .discordantEnd t => Sys2Proof.Machine.execDiscordantEnd t s
  | .leveePortChange t link up => Sys2Proof.Machine.execLeveePortChange t link up s
  | .leveeDelayMeasure t link delay root offset q => Sys2Proof.Machine.execLeveeDelayMeasure t link delay root offset q s
  | .forwardTimeout t forward => Sys2Proof.Machine.execForwardTimeout t forward s
  | .tamperTrip t sensor => Sys2Proof.Machine.execTamperTrip t sensor s
  | .tamperCleared t since => Sys2Proof.Machine.execTamperCleared t since s
  | .sessionConfirmTimeout t num => Sys2Proof.Machine.execSessionConfirmTimeout t num s
  | .sessionExpiry t num => Sys2Proof.Machine.execSessionExpiry t num s
  | .subtreeBuildDone t => Sys2Proof.Machine.execSubtreeBuildDone t s
  | .freshnessLow t ctl => Sys2Proof.Machine.execFreshnessLow t ctl s
  | .wardenSensorSample t x => Sys2Proof.Machine.execWardenSensorSample t x s
  | .condensationChange t => Sys2Proof.Machine.execCondensationChange t s
  | .railFaultDetected t rail mv owner => Sys2Proof.Machine.execRailFaultDetected t rail mv owner s
  | .imageEraseDone t failed => Sys2Proof.Machine.execImageEraseDone t failed s
  | .imageVerifyDone t => Sys2Proof.Machine.execImageVerifyDone t s
  | .activationCheckDone t norFault => Sys2Proof.Machine.execActivationCheckDone t norFault s
  | .activationIslandDone t started norFault damage => Sys2Proof.Machine.execActivationIslandDone t started norFault damage s
  | .vctlPowerFail t => Sys2Proof.Machine.execVctlPowerFail t s
  | .holdupStateChange t holdCap => Sys2Proof.Machine.execHoldupStateChange t holdCap s
  | .holdupReadyTimeout t => Sys2Proof.Machine.execHoldupReadyTimeout t s
  | .holdupCapMeasure t uf => Sys2Proof.Machine.execHoldupCapMeasure t uf s
  | .vdrvLevelChange t bulk => Sys2Proof.Machine.execVdrvLevelChange t bulk s
  | .vdrvSurgeDisconnect t vdrv => Sys2Proof.Machine.execVdrvSurgeDisconnect t vdrv s
  | .vdrvReconnect t vdrv since => Sys2Proof.Machine.execVdrvReconnect t vdrv since s
  | .baseplateHot t since ts12 => Sys2Proof.Machine.execBaseplateHot t since ts12 s
  | .baseplateHotClear t since ts12 => Sys2Proof.Machine.execBaseplateHotClear t since ts12 s
  | .thermalShutdown t since ts12 => Sys2Proof.Machine.execThermalShutdown t since ts12 s
  | .powerOnReset t brownout straps damage => Sys2Proof.Machine.execPowerOnReset t brownout straps damage s
  | .resetNAsserted t => Sys2Proof.Machine.execResetNAsserted t s
  | .wardenWatchdogReset t => Sys2Proof.Machine.execWardenWatchdogReset t s
  | .railFaultReset t => Sys2Proof.Machine.execRailFaultReset t s
  | .moduleReady t => Sys2Proof.Machine.execModuleReady t s
  | .resetReleased t straps damage => Sys2Proof.Machine.execResetReleased t straps damage s
  | .canRxError t ctl dominant => Sys2Proof.Machine.execCanRxError t ctl dominant s
  | .fenceWireFault t link => Sys2Proof.Machine.execFenceWireFault t link s
  | .debugProbeAttached t attached => Sys2Proof.Machine.execDebugProbeAttached t attached s
  | .transceiverThermal t ctl => Sys2Proof.Machine.execTransceiverThermal t ctl s

end Sys2Proof.Machine
end

