-- ==== Sys2Proof/Safety.lean ====
section
/-! DEFINITION. The terms the statements use: the canonical memory, a row that runs, a command packet that passes every check on its way to its
own effect, and the module that effect gives. -/

namespace Sys2Proof.Machine

/-- The memory is in its canonical form. -/
abbrev State.memOk (s : State) : Prop := s.mem.wf

/-- The module at the instant of a happening, before its effect. -/
def State.then (s : State) (t : Nat) : ModuleState := { s.m with now := max s.m.now t }

/-- A row runs: it answers a next state with the queue and the memory as they were, whose module satisfies P. -/
abbrev Runs (i : Instr) (s : State) (P : ModuleState → Prop) : Prop := ∃ m', exec i s = .next { s with m := m' } ∧ P m'

/-- A row answers a next state with the queue and the memory as they were and this module. -/
abbrev Gives (i : Instr) (s : State) (m' : ModuleState) : Prop := exec i s = .next { s with m := m' }

/-- A row runs that may store to memory: it answers a next state with the queue as it was, whose module and memory satisfy P. -/
abbrev Stores (i : Instr) (s : State) (P : ModuleState → Memory → Prop) : Prop :=
  ∃ m' mem', exec i s = .next { s with m := m', mem := mem' } ∧ P m' mem'

/-- A row leaves every part of the module alone but those parts that set puts into the module before it, and what events and replies touch. -/
abbrev Keeps (i : Instr) (t : Nat) (s : State) (set : ModuleState → ModuleState → ModuleState) : Prop :=
  ∀ s', exec i s = .next s' → s'.pending = s.pending ∧ s'.mem = s.mem ∧ s'.m = (set s'.m (s.then t)).withComm s'.m.comm

/-! ### A packet on its way to its command's effect -/

/-- A packet under its row's opcode. -/
def asOpcode (spec : CmdSpec) (p : Packet) : Packet := { p with opcode := spec.opcode }

/-- The module when the interpreter judges an arriving packet: the packet is counted, its transport is the last served, CMD_DRAINED may be set. -/
def arrived (spec : CmdSpec) (p : Packet) (s : State) : ModuleState :=
  let m0 := s.then p.time
  let m1 := m0.withComm (m0.comm.port p.transport fun q => { q with packetsIn := (q.packetsIn + 1) % 2 ^ 32 })
  let m2 := if p.transport = .spi then m1.drained (m1.cmdUsed + packetWords (asOpcode spec p)) else m1
  { m2 with interp := { m2.interp with last := p.transport.index } }

/-- The module before the command's own conditions: the SEQ of a secured packet is marked as seen. -/
def taken (spec : CmdSpec) (p : Packet) (s : State) : ModuleState :=
  let m := arrived spec p s
  if bit p.flags 0 then
    { m with sec := { m.sec with sessions := updIf m.sec.sessions (·.num == p.session) fun x => x.mark p.seq } }
  else m

/-- The role of the packet's session. -/
def roleOf (p : Packet) (s : State) : Option Role := if bit p.flags 0 then (s.m.sec.session p.session).map (·.role) else none

/-- A packet passes step 6 of R307 Table 4. -/
def Admitted (spec : CmdSpec) (p : Packet) (s : State) : Prop := (admission spec (asOpcode spec p) (arrived spec p s)).fail = none

/-- The interpreter takes a packet at its arrival (R21, R22, R25, R31, R626): it runs and is free, no packet waits before this one, and a BARRIER
finds no action outstanding. -/
abbrev Free (spec : CmdSpec) (p : Packet) (s : State) : Prop :=
  let m := s.then p.time
  m.interprets ∧ m.interp.hold.isNone ∧ m.interp.launched.isEmpty ∧ m.takeable p.transport ∧
    !m.interp.waiting.any (fun q => m.takeable q.transport) ∧ !(m.barrier (asOpcode spec p) && !m.interp.actions.isEmpty)

/-- Steps 3 to 5 and 7 to 12 of R307 Table 4 for a whole command that is carried out at once: neither SCHEDULED nor SEGMENTED, nor the last segment
of a collection. -/
abbrev Formed (spec : CmdSpec) (p : Packet) (s : State) : Prop :=
  p.version = 2 ∧ p.payload.length ≤ 4080 ∧ announced p ≤ p.payload.length ∧ bitsAt p.flags 5 3 = 0 ∧ !bit p.flags 4 ∧ !bit p.flags 3 ∧
    spec.kinds.contains (p.target / 256) ∧ spec.present (taken spec p s) (p.target / 256) (p.target % 256) ∧
    (spec.size (commandPart p).length && (spec.seg.isSome || spec.sized (commandPart p))) ∧ (commandPart p).length ≤ spec.seg.getD 4080 ∧
    spec.roles.admits p (roleOf p s) ∧ spec.fields (commandPart p) ∧
    (spec.seg.isSome → !s.m.interp.collections.any fun c => c.transport == p.transport && c.session == p.session)

/-- A packet reaches its command's own conditions (step 13 of R307 Table 4). -/
abbrev Accepted (spec : CmdSpec) (p : Packet) (s : State) : Prop := Free spec p s ∧ Formed spec p s ∧ Admitted spec p s

/-- What the command's own meaning is given. -/
def cmdOf (spec : CmdSpec) (p : Packet) (s : State) : Cmd :=
  { p := asOpcode spec p, kind := p.target / 256, idx := p.target % 256, data := commandPart p, role := roleOf p s
    ref := (taken spec p s).interp.nextRef }

/-- No island restarts that has a part in what a command does, and every channel takes its actions (R25, R26). -/
abbrev Clear (m : ModuleState) (x : Result) : Prop :=
  (!(x.acts ++ x.needs).any fun ch => m.restarting ch.island) ∧ m.room x.acts

/-- The module after a command with a result: answered at once when there is nothing to wait for (R26), else its actions are placed and it is answered
when the last is acknowledged (R21). -/
def dispatched (spec : CmdSpec) (p : Packet) (m : ModuleState) (x : Result) : ModuleState :=
  let r := replyTo m (asOpcode spec p) spec.opcode false
  if x.acts.isEmpty && !x.wait then x.m.answer r x.status x.data
  else { x.m with interp := { x.m.interp with
      nextRef := m.interp.nextRef + 1 + x.acts.length
      actions := x.m.interp.actions ++ placed m.interp.nextRef m.now spec.opcode x.acts
      inflight := x.m.interp.inflight ++ [{ ref := m.interp.nextRef, replyTo := r, status := x.status, payload := x.data,
                                            left := x.acts.length + (if x.wait then 1 else 0) }] } }

/-- A row has the effect x of its command: for a packet that passes every check, with no part of it held up. -/
abbrev Does (spec : CmdSpec) (i : Instr) (p : Packet) (s : State) (x : Result) : Prop :=
  Accepted spec p s → Clear (taken spec p s) x → Gives i s (dispatched spec p (taken spec p s) x)

/-! ### Rows that a statement names together -/

/-- The opcodes of R622 Table 2 that a command may carry; the two others are sent by the module only. -/
def tableTwo : List Nat :=
  [0x0001, 0x0002, 0x0003, 0x0004, 0x0005, 0x0006, 0x0007, 0x0008, 0x0009] ++
  [0x0100, 0x0101, 0x0102, 0x0103, 0x0104, 0x0105, 0x0106, 0x0107, 0x0108, 0x0110, 0x0111, 0x0112, 0x0113] ++
  [0x0200, 0x0201, 0x0202, 0x0203, 0x0204, 0x0205, 0x0206, 0x0207, 0x0208, 0x0209, 0x020A] ++
  [0x0300, 0x0301, 0x0302, 0x0303, 0x0304, 0x0305] ++
  [0x0400, 0x0401, 0x0402, 0x0403] ++
  [0x0500, 0x0501, 0x0502, 0x0503] ++
  [0x0600, 0x0601, 0x0602, 0x0603, 0x0604, 0x0605, 0x0606] ++
  [0x0700, 0x0701, 0x0702, 0x0703, 0x0704, 0x0705, 0x0706] ++
  [0x0800, 0x0801, 0x0802, 0x0803] ++
  [0x0900, 0x0901, 0x0902, 0x0903, 0x0904, 0x0905, 0x0906] ++
  [0x0A00, 0x0A01, 0x0A02, 0x0A03] ++
  [0x0B00, 0x0B01, 0x0B02, 0x0B03, 0x0B04] ++
  [0x0C00, 0x0C01, 0x0C02, 0x0C03, 0x0C04, 0x0C05] ++
  [0x0D00, 0x0D01, 0x0D02, 0x0D03, 0x0D04, 0x0D05] ++
  [0x0E00, 0x0E01, 0x0E02, 0x0E03, 0x0E04, 0x0E05, 0x0E06, 0x0E07, 0x0E08] ++
  [0x0F00, 0x0F01, 0x0F02, 0x0F03, 0x0F04, 0x0F05, 0x0F06]

/-- A quarter of packetRows, in the table's order. -/
def controlRows (p : Packet) : List (Instr × CmdSpec) :=
  [(.arm p, armSpec), (.disarm p, disarmSpec), (.moduleReset p, moduleResetSpec), (.islandRestart p, islandRestartSpec),
    (.resetStatus p, resetStatusSpec), (.readIslandHealth p, readIslandHealthSpec), (.echo p, echoSpec), (.notifyRoute p, notifyRouteSpec),
    (.transportStatus p, transportStatusSpec), (.portalOpen p, portalOpenSpec), (.portalClose p, portalCloseSpec),
    (.trainOpen p, trainOpenSpec), (.trainClose p, trainCloseSpec), (.setPlatformClass p, setPlatformClassSpec),
    (.portalClear p, portalClearSpec), (.portalHome p, portalHomeSpec), (.portalStatus p, portalStatusSpec),
    (.readPortalConfig p, readPortalConfigSpec), (.profileSetLoad p, profileSetLoadSpec), (.profileSelect p, profileSelectSpec),
    (.profileCancel p, profileCancelSpec), (.profileStatus p, profileStatusSpec), (.axisMove p, axisMoveSpec), (.axisStop p, axisStopSpec),
    (.axisStatus p, axisStatusSpec), (.readAxisConfig p, readAxisConfigSpec), (.axisSetPosition p, axisSetPositionSpec),
    (.axisStepPath p, axisStepPathSpec)]

/-- A quarter of packetRows, in the table's order. -/
def driveRows (p : Packet) : List (Instr × CmdSpec) :=
  [(.driveStatus p, driveStatusSpec), (.readDriveConfig p, readDriveConfigSpec), (.driveFaultClear p, driveFaultClearSpec),
    (.solenoidSet p, solenoidSetSpec), (.bridgeTest p, bridgeTestSpec), (.feedbackStatus p, feedbackStatusSpec),
    (.readFeedbackConfig p, readFeedbackConfigSpec), (.markSet p, markSetSpec), (.markClear p, markClearSpec), (.latchArm p, latchArmSpec),
    (.latchRead p, latchReadSpec), (.obstacleStatus p, obstacleStatusSpec), (.readObstacleConfig p, readObstacleConfigSpec),
    (.forceMapRead p, forceMapReadSpec), (.forceMapReset p, forceMapResetSpec), (.ringStatus p, ringStatusSpec),
    (.readRingConfig p, readRingConfigSpec), (.ringTest p, ringTestSpec), (.ringClear p, ringClearSpec), (.lsSet p, lsSetSpec),
    (.lsSetMulti p, lsSetMultiSpec), (.lsClear p, lsClearSpec), (.lsStatus p, lsStatusSpec), (.readLsConfig p, readLsConfigSpec),
    (.pgSet p, pgSetSpec), (.pgStatus p, pgStatusSpec), (.fiStatus p, fiStatusSpec), (.foSet p, foSetSpec)]

/-- A quarter of packetRows, in the table's order. -/
def busRows (p : Packet) : List (Instr × CmdSpec) :=
  [(.foSetMulti p, foSetMultiSpec), (.foClear p, foClearSpec), (.foStatus p, foStatusSpec), (.linkStatus p, linkStatusSpec),
    (.readFieldConfig p, readFieldConfigSpec), (.timeStatus p, timeStatusSpec), (.readTimeConfig p, readTimeConfigSpec),
    (.scheduleCancel p, scheduleCancelSpec), (.canStatus p, canStatusSpec), (.readCanConfig p, readCanConfigSpec),
    (.canMode p, canModeSpec), (.canRxBind p, canRxBindSpec), (.canRxRead p, canRxReadSpec), (.canTx p, canTxSpec),
    (.canTxAbort p, canTxAbortSpec), (.ethStatus p, ethStatusSpec), (.readEthConfig p, readEthConfigSpec), (.ethRingSet p, ethRingSetSpec),
    (.ethTopoSet p, ethTopoSetSpec), (.cvStart p, cvStartSpec), (.cvStop p, cvStopSpec), (.cvStatus p, cvStatusSpec),
    (.culvertClear p, culvertClearSpec), (.cvTraceSet p, cvTraceSetSpec), (.recStatus p, recStatusSpec), (.logRead p, logReadSpec),
    (.logReadNext p, logReadNextSpec), (.logReadStop p, logReadStopSpec)]

/-- A quarter of packetRows, in the table's order. -/
def recordRows (p : Packet) : List (Instr × CmdSpec) :=
  [(.readRecConfig p, readRecConfigSpec), (.snapshotTrigger p, snapshotTriggerSpec), (.clusterStatus p, clusterStatusSpec),
    (.readPairConfig p, readPairConfigSpec), (.dutyHandover p, dutyHandoverSpec), (.clusterForward p, clusterForwardSpec),
    (.discordClear p, discordClearSpec), (.clusterSolo p, clusterSoloSpec), (.secStatus p, secStatusSpec),
    (.identityRead p, identityReadSpec), (.sessionOpen p, sessionOpenSpec), (.sessionConfirm p, sessionConfirmSpec),
    (.sessionClose p, sessionCloseSpec), (.attest p, attestSpec), (.keySet p, keySetSpec), (.lifecycleAdvance p, lifecycleAdvanceSpec),
    (.kemRotate p, kemRotateSpec), (.mgmtHealth p, mgmtHealthSpec), (.bankStatus p, bankStatusSpec), (.imageWrite p, imageWriteSpec),
    (.imageVerify p, imageVerifySpec), (.configLoad p, configLoadSpec), (.activate p, activateSpec), (.supplyStatus p, supplyStatusSpec)]

/-- The rows of the commands whose meaning is their packet's arrival alone (TIME_SET then lets launched packets run besides), each with what
its tables say. -/
def packetRows (p : Packet) : List (Instr × CmdSpec) :=
  controlRows p ++ driveRows p ++ busRows p ++ recordRows p

end Sys2Proof.Machine
end

