-- ==== Sys2Proof/Certificates/Slice0/Obligations.lean ====
section
/-! DEFINITION. The statements for the provers, family by family. Each docstring names the rules of spec/ it rests on. -/

open Sys2Proof Sys2Proof.Machine

/-- The portal tick evaluates its items in order, and the rows of Table 4 it drives (R46, R49, R51, R52, R53, R58, R72): For every state of a running
polder core of a ready module, PORTAL_TICK accepts the edges due, takes a held profile change at rest, evaluates every enabled portal in ascending
order (field state, egress, isolation, faults, contacts, obstacles, release, requests; then, armed and taken from the field, timers and completion),
answers the train-wide commands and sends the comparison vector of the tick. In any module, of a portal the module has: an operated egress handle
leads to EMERGENCY_OPEN (row 1); the isolation switch outside EMERGENCY_OPEN to ISOLATED (row 2); an axis fault of a door not at rest to FAULT with
AXIS_FAULT (row 3); both contacts open in CLOSED_LOCKED or RELEASED to FAULT with UNEXPECTED_UNLOCK (row 6); release permission leads from
CLOSED_LOCKED to RELEASED and its loss back (rows 7, 8) and, UNLOCKING, to LOCKING (row 15); open contacts lead from UNLOCKING to OPENING (row 12),
a finished closing move at POS_CLOSED to LOCKING (row 27), closed contacts in LOCKING within LOCK_TIMEOUT to CLOSED_LOCKED with the cycle counted
when the door had left its window (row 32). -/
def Obligations.PortalTickItems : Prop :=
  (∀ (s : State) (t : Nat), (s.then t).runs isPolder → (s.then t).reset.phase = .ready →
    Gives (.portalTick t) s (((s.then t).acceptAll.applyProfile.enabledPortals.foldl (fun m p =>
      let k := ((((((((m.tickField p).tickEgress p).tickIsolation p).tickFaults p).tickContacts p).tickObstacles p).tickRelease p).tickRequests p)
      (if k.reset.armed && !(k.portal p).awaitField then (k.tickDoor p).tickStep p else k).tickNotes p)
        (s.then t).acceptAll.applyProfile).answerTrains.sendVector)) ∧
  ∀ (m : ModuleState) (p : Nat), 1 ≤ p → p - 1 < m.portals.length →
    (m.egress p → ((m.tickEgress p).portal p).door = .emergencyOpen) ∧
    (m.isolated p → (m.portal p).door ≠ .emergencyOpen → ((m.tickIsolation p).portal p).door = .isolated) ∧
    ((m.portal p).door.resting = false → m.axisFaulty (m.doorAxis p) → ((m.tickFaults p).portal p).door = .fault ∧
      ((m.tickFaults p).portal p).faultCause = .axisFault) ∧
    ((m.portal p).door = .closedLocked ∨ (m.portal p).door = .released → m.bothOpen p → ((m.tickContacts p).portal p).door = .fault ∧
      ((m.tickContacts p).portal p).faultCause = .unexpectedUnlock) ∧
    ((m.portal p).door = .closedLocked → m.released p → ((m.tickRelease p).portal p).door = .released) ∧
    ((m.portal p).door = .released → m.released p = false → ((m.tickRelease p).portal p).door = .closedLocked ∧
      ((m.tickRelease p).portal p).openPending = false) ∧
    ((m.portal p).door = .unlocking → m.released p = false → ((m.tickRelease p).portal p).door = .locking) ∧
    ((m.portal p).door = .unlocking → m.bothOpen p → ((m.tickDoor p).portal p).door = .opening) ∧
    ((m.portal p).door = .closing → m.doorDone p (m.posClosed p) → m.within p (m.doorPos p) (m.posClosed p) →
      ((m.tickDoor p).portal p).door = .locking) ∧
    ((m.portal p).door = .locking → m.bothClosed p → m.now ≤ (m.portal p).enteredAt + ms (m.prof 72 2) → ((m.tickDoor p).portal p).door = .closedLocked ∧
      ((m.tickDoor p).portal p).doorCycles = (if (m.portal p).leftWindow then sat max32 (m.portal p).doorCycles else (m.portal p).doorCycles) ∧
      ((m.tickDoor p).portal p).recloseCount = 0 ∧ ((m.tickDoor p).portal p).reduced = false)

/-- The timers of a portal have the effect of their rows (R52, R53, R54, R55, R59, R61, R66, R355, R437): For every state and enabled portal of an armed
module with a running polder core, the portal taken from the field since ARM: contacts that disagreed for 100 ms in CLOSED_LOCKED, RELEASED or
LOCKING lead to FAULT (row 5); UNLOCK_TIMEOUT to RELEASED with both contacts closed, to FAULT in disagreement (rows 13, 14); the pulse of a PULSE
lock ends; LOCK_TIMEOUT reverses into OBSTRUCTED and counts while reclosings are left, else FAULT (rows 33, 34); MOVE_TIMEOUT leads to FAULT (row
19); the auto-close time to CLOSING_WARNING (row 20); the warning time at rest to CLOSING (row 22); the reclose delay to CLOSING again while
reclosings are left, else to OPEN or to a reduced CLOSING (rows 28 to 30); the step timeout to STEP_FAULT; HOME_TIMEOUT to FAULT (row 36). The
outside lamp's on time ends, the stow move restarts after 1 s, a trace sample is coded, and a scheduled profile change whose launch is reached in
time stays pending for the next rest. -/
def Obligations.PortalTimersRun : Prop :=
  ∀ (s : State) (t p : Nat), 1 ≤ p → p ≤ 4 →
    let m := s.then t
    let q := m.portal p
    m.enabled p → m.reset.armed → q.awaitField = false → m.runs isPolder →
    (∀ b, q.door = .closedLocked ∨ q.door = .released ∨ q.door = .locking → q.disagreeSince = some b → b + ms 100 ≤ m.now → m.disagree p →
      Runs (.contactDisagreeTimeout t p) s fun m' => (m'.portal p).door = .fault ∧ (m'.portal p).faultCause = .contactDisagree) ∧
    (q.door = .unlocking → q.enteredAt + ms (m.prof 70 2) ≤ m.now → m.bothClosed p → Runs (.unlockTimeout t p) s fun m' =>
      (m'.portal p).door = .released) ∧
    (q.door = .unlocking → q.enteredAt + ms (m.prof 70 2) ≤ m.now → m.disagree p → Runs (.unlockTimeout t p) s fun m' =>
      (m'.portal p).door = .fault ∧ (m'.portal p).faultCause = .unlockDisagree) ∧
    (q.door = .unlocking → m.pulseLock p → q.enteredAt + ms (m.cfg (portalCfg p + 44) 2) ≤ m.now →
      Gives (.unlockPulseEnd t p) s (m.lock p false)) ∧
    (q.door = .locking → q.enteredAt + ms (m.prof 72 2) ≤ m.now → m.bothClosed p = false → Runs (.lockTimeout t p) s fun m' =>
      if q.recloseCount < m.prof 38 1 then (m'.portal p).door = .obstructed ∧ (m'.portal p).recloseCount = q.recloseCount + 1
      else (m'.portal p).door = .fault ∧ (m'.portal p).faultCause = .lockFailed) ∧
    (q.door = .opening ∨ q.door = .closing → q.enteredAt + ms (m.prof 74 2) ≤ m.now → Runs (.moveTimeout t p) s fun m' =>
      (m'.portal p).door = .fault ∧ (m'.portal p).faultCause = .moveTimeout) ∧
    (∀ b, q.door = .openD → m.prof 54 2 ≠ 0 → q.autoCloseAt = some b → b + ms (100 * m.prof 54 2) ≤ m.now → Runs (.autoCloseExpiry t p) s fun m' =>
      (m'.portal p).door = .closingWarning) ∧
    (q.door = .closingWarning → q.enteredAt + ms (m.prof 44 2) ≤ m.now → m.still (m.doorAxis p) → Runs (.warnTimeElapsed t p) s fun m' =>
      (m'.portal p).door = .closing) ∧
    (q.warning → q.lampOn → m.prof 52 2 ≠ 0 → q.lampAt + ms (m.prof 50 2) ≤ m.now → Gives (.warningPatternToggle t p true) s
      ((m.setPortal p fun q => { q with lampOn := false, lampAt := m.now }).lampOut p false)) ∧
    (∀ b, q.door = .obstructed → q.reversalDoneAt = some b → b + ms (m.prof 42 2) ≤ m.now → Runs (.recloseDelayElapsed t p) s fun m' =>
      if q.recloseCount < m.prof 38 1 then (m'.portal p).door = .closing ∧ (m'.portal p).recloseCount = q.recloseCount + 1
      else if m.prof 39 1 = 0 then (m'.portal p).door = .openD ∧ (m'.portal p).autoCloseAt = none
      else (m'.portal p).door = .closing ∧ (m'.portal p).reduced = true) ∧
    (∀ b, m.stepAxis p = some b → q.step = .deploying ∨ q.step = .stowing → q.stepMoveAt + ms (m.prof 76 2) ≤ m.now →
      Runs (.stepTimeout t p) s fun m' => (m'.portal p).step = .stepFault) ∧
    (∀ b, q.step = .stowing → q.stepWaitAt = some b → b + seconds 1 ≤ m.now → Runs (.stepRestowWait t p) s fun m' =>
      (m'.portal p).stepWaitAt = none ∧ (m'.portal p).stepMoveAt = m.now ∧ (m'.portal p).step = .stowing) ∧
    (q.door = .homing → q.enteredAt + ms (m.cfg (portalCfg p + 50) 2) ≤ m.now → Runs (.homeTimeout t p) s fun m' =>
      (m'.portal p).door = .fault ∧ (m'.portal p).faultCause = .homingFailed) ∧
    (∀ x, m.profiles.schedule = some x → x.heldSince = none → stampNs x.launch ≤ stampNs m.stamp → stampNs m.stamp ≤ stampNs x.launch + 1000000 →
      Gives (.profileScheduleLaunch t) s { m with profiles := { m.profiles with schedule := some { x with heldSince := some m.now } } }) ∧
    (q.door.traced → bit (m.cfg 3112 1) (p - 1) → q.traceAt + ms (m.cfg 3113 1) ≤ m.now → Gives (.traceSpacingSample t p) s
      (m.setPortal p fun q =>
        { q.sample (m.doorSpeedMm p) (max (-32768) (min 32767 (m.ob p).force.floor)) with traceAt := m.now }))

/-- The portal and profile commands have their effect (R48, R66, R67, R68, R69, R70): For every state and packet that passes every check, of a unit that
is not without duty: PORTAL_OPEN (NO_STEP only from a MAINTAINER), PORTAL_CLOSE, PORTAL_CLEAR and PORTAL_HOME put their request before the next
tick, which answers it; TRAIN_OPEN and TRAIN_CLOSE do so for every enabled portal of the named sides; SET_PLATFORM_CLASS sets the class of its side
or of both; PROFILE_SELECT without a launch time of a slot that holds a profile holds the change for the next rest; PROFILE_CANCEL takes the pending
schedule away; PROFILE_SET_LOAD of a well-formed, signed set stores it for the next rest and logs it, unless the NOR write (a free value of the
model) fails. -/
def Obligations.PortalCommandsDo : Prop :=
  ∀ (s : State) (p : Packet), let b := commandPart p; let n := p.target % 256
    (let m := taken portalOpenSpec p s
     m.notOnDuty = false → getN b 0 1 = 0 ∨ roleOf p s ≠ some .operator → Does portalOpenSpec (.portalOpen p) p s
      { wait := true
        m := m.ask { portal := n, req := .openReq (bit (getN b 0 1) 0) (if getN b 1 1 = 255 then none else some (getN b 1 1))
                     ref := some m.interp.nextRef } }) ∧
    (let m := taken portalCloseSpec p s
     m.notOnDuty = false → Does portalCloseSpec (.portalClose p) p s
      { wait := true, m := m.ask { portal := n, req := .closeReq, ref := some m.interp.nextRef } }) ∧
    (let m := taken portalClearSpec p s
     m.notOnDuty = false → Does portalClearSpec (.portalClear p) p s
      { wait := true, m := m.ask { portal := n, req := .clearReq, ref := some m.interp.nextRef } }) ∧
    (let m := taken portalHomeSpec p s
     m.notOnDuty = false → Does portalHomeSpec (.portalHome p) p s
      { wait := true, m := m.ask { portal := n, req := .homeReq, ref := some m.interp.nextRef } }) ∧
    (let m := taken trainOpenSpec p s
     let named := m.enabledPortals.filter fun k => bit (getN b 0 1) (m.side k)
     named ≠ [] → getN b 0 1 ≠ 0 → m.notOnDuty = false → Does trainOpenSpec (.trainOpen p) p s
      { wait := true, m := m.each named fun m k => m.ask { portal := k, req := .openReq false none, ref := some (taken trainOpenSpec p s).interp.nextRef, train := true } }) ∧
    (let m := taken trainCloseSpec p s
     let named := m.enabledPortals.filter fun k => bit (getN b 0 1) (m.side k)
     named ≠ [] → getN b 0 1 ≠ 0 → m.notOnDuty = false → Does trainCloseSpec (.trainClose p) p s
      { wait := true, m := m.each named fun m k => m.ask { portal := k, req := .closeReq, ref := some (taken trainCloseSpec p s).interp.nextRef, train := true } }) ∧
    (let m := taken setPlatformClassSpec p s
     m.notOnDuty = false → Does setPlatformClassSpec (.setPlatformClass p) p s
      { m := { m with profiles := { m.profiles with
          classL := if getN b 0 1 = 1 then m.profiles.classL else getN b 1 1
          classR := if getN b 0 1 = 0 then m.profiles.classR else getN b 1 1 } } }) ∧
    (let m := taken profileSelectSpec p s
     m.notOnDuty = false → slotValid m.profiles.stored (getN b 0 1) → Does profileSelectSpec (.profileSelect p) p s
      { m := { m with profiles := { m.profiles with change := some (getN b 0 1, m.now), selected := true } } }) ∧
    (let m := taken profileCancelSpec p s
     m.notOnDuty = false → m.profiles.schedule ≠ none → Does profileCancelSpec (.profileCancel p) p s
      { acts := [.recd], m := { m with profiles := { m.profiles with schedule := none } } }) ∧
    (let m := taken profileSetLoadSpec p s
     let set := b.take 1032
     let slot := match m.profiles.change with
       | some ch => ch.1
       | none => m.profiles.active.getD (getN (if m.profiles.set.isEmpty then set else m.profiles.set) 5 1)
     m.notOnDuty = false → 1034 ≤ b.length → b.length = 1034 + getN b 1032 2 → getN b 0 2 = 1 → setFails set m.profiles.busy = none →
     m.warden.activation = none → Does profileSetLoadSpec (.profileSetLoad p) p s
      (let k := m.norTry 0 0
       if m.integratorSigned set (b.drop 1034) = false then { status := stSignatureInvalid, m }
       else if k.1 then { status := stNorFault, m := k.2 }
       else
        { acts := [.fg, .wd]
          m := ({ k.2 with profiles := { k.2.profiles with staged := some set, change := some (slot, m.now) } }).log evProfileSetStored tgModule
            [(getN set 2 2 : Int), (Config.shake256 set 32 : Int)] }))

/-- The protection and diagnosis rows of a load channel have their effect (R245, R248, R249, R250, R252, R257, R258, R259, R261, R264): For every state
and channel 1 to 16, under the conditions named: a current that crosses I_LIMIT sets or ends LIMITING; a thermal shutdown at 165 °C or more of a
conducting channel turns it off (with its turn-off accounted) into THERMAL_OFF while retries are left and into LATCHED when they are used, and logs
it; a cooled channel that nothing holds off is on again with one retry more; 60 s on reset RETRIES; a current on one side of OL_THRESH for 50 ms
sets or ends open load of a channel that is measured; the terminal voltage of a channel that has been off for 10 ms sets high while off, expected
high, or open load while off. -/
def Obligations.LoadRowsRun : Prop :=
  ∀ (s : State) (t n : Nat), 1 ≤ n → n ≤ 16 →
    let m := s.then t
    let x := m.load n
    (∀ current, m.conducts n → Gives (.lsCurrentLimit t n current) s
      (m.setLoad n fun x => { x with limiting := decide (m.cfg (loadCfg n + 4) 2 ≤ current) })) ∧
    (∀ temp, 1650 ≤ temp → m.conducts n → x.held = false → x.retries < m.cfg (loadCfg n + 10) 1 → Gives (.lsThermalShutdown t n temp) s
      ((((m.lsOff n).setLoad n fun y => { y with thermalOff := true, shutdowns := sat max16 y.shutdowns }).saturated max16 x.shutdowns
        (tgLoad n) 0x0603 22).log evLsThermalOff (tgLoad n) [(n : Int), temp, (x.retries : Int)])) ∧
    (∀ temp, 1650 ≤ temp → m.conducts n → x.held = true ∨ m.cfg (loadCfg n + 10) 1 ≤ x.retries → Gives (.lsThermalShutdown t n temp) s
      ((((m.lsOff n).setLoad n fun y => { y with thermalOff := false, latched := true, shutdowns := sat max16 y.shutdowns }).saturated max16
        x.shutdowns (tgLoad n) 0x0603 22).log evLsLatched (tgLoad n) [(n : Int), temp, flagItem x.held])) ∧
    (x.thermalOff → x.latched = false → x.spent = false → x.on = false → x.cut = false → x.demand →
      m.drivesLs n → m.loadMode n ≠ 0 → m.loadCommon.moduleSpent = false → m.loadCommon.vlsCut = false →
      Gives (.lsCooled t n) s (m.setLoad n fun y => { y with
        thermalOff := false, on := true, heldSpent := false, onSince := m.now, openOff := false, highOff := false, expectedHigh := false
        retries := min 15 (y.retries + 1), oweRetry := false })) ∧
    (x.on → x.onSince + seconds 60 ≤ m.now → Gives (.lsRetryReset t n) s (m.setLoad n fun y => { y with retries := 0 })) ∧
    (m.lsMeasured n = (x.on && m.due x.onSince (ms 50) &&
      (m.loadMode n == 1 || (m.inPhase n && m.due x.phaseAt 100000) || x.longAt.any fun t => decide (m.now ≤ t + ms 50)))) ∧
    (∀ current, m.lsMeasured n → m.lsReads n 250 current < m.cfg (loadCfg n + 6) 2 → Gives (.lsOpenLoadTimeout t n current) s
      ((m.setLoad n fun y => { y with openOn := true }).logIf (!x.openOn) evLsOpenLoad (tgLoad n)
        [(n : Int), 0, (m.lsReads n 250 current : Int)])) ∧
    (∀ current, m.lsMeasured n → m.cfg (loadCfg n + 6) 2 ≠ 0 → m.cfg (loadCfg n + 6) 2 < m.lsReads n 250 current →
      Gives (.lsOpenLoadTimeout t n current) s (m.setLoad n fun y => { y with openOn := false })) ∧
    (∀ volt, m.lsState n = 0 → x.offSince + ms 10 ≤ m.now → 80 ≤ volt → x.partnerOn = false → Gives (.lsOffDiagJudged t n volt) s
      ((m.setLoad n fun y => { y with highOff := true, expectedHigh := false }).logIf (!x.highOff) evLsHighWhileOff (tgLoad n)
        [(n : Int), (volt : Int)])) ∧
    (∀ volt, m.lsState n = 0 → x.offSince + ms 10 ≤ m.now → 80 ≤ volt → x.partnerOn = true → Gives (.lsOffDiagJudged t n volt) s
      (m.setLoad n fun y => { y with expectedHigh := true, highOff := false })) ∧
    (∀ volt, m.lsState n = 0 → x.offSince + ms 10 ≤ m.now → bit (m.loadFlags n) 0 → 20 ≤ volt → volt ≤ 55 → Gives (.lsOffDiagJudged t n volt) s
      ((m.setLoad n fun y => { y with openOff := true, highOff := false, expectedHigh := false }).logIf (!x.openOff) evLsOpenLoad
        (tgLoad n) [(n : Int), 1, (volt : Int)]))

/-- Generator periods, LSPWM pins and VLS levels act on the load channels (R246, R260, R263, R264): For every state: when a period of a generator PG1 to
PG4 of a running motion island is over, or none has started, the next starts with the settings of the generator in use, and each of its channels is
in its on-phase when the on-time that PHASE delays wraps into the new period, and else not; within the period a channel that reaches PHASE with DUTY
not 0 is in its on-phase, and one that reaches the end of the on-time is not; an edge of a pin LSPWM0 to LSPWM3 sets its level, which the channels
in PIN mode that name the pin follow; a change of VLS sets the low flag below 16.0 V until above 16.8 V and the cut flag below 12.0 V until above
13.5 V; 200 µs after the last restart step with VLS restored the first channel in VLS_CUT whose demand is on has left VLS_CUT and follows its
demand, and the time of the step is kept. -/
def Obligations.LoadSourcesRun : Prop :=
  ∀ (s : State) (t : Nat), let m := s.then t
    (∀ copy pg rise fall, copy < 2 → 1 ≤ pg → pg ≤ 4 → m.runs (if copy = 0 then isM1 else isM2) →
      pgOver m.now (m.pgUsed copy pg).2 (m.pgStart copy pg) → Runs (.pgPeriodEdge t copy pg true rise fall) s fun m' =>
        m'.loadCommon.pgUse = upd m.loadCommon.pgUse (4 * copy + pg - 1) (fun _ => m.loadCommon.pg.getD (pg - 1) (0, 100)) ∧
        m'.loadCommon.pgAt = upd m.loadCommon.pgAt (4 * copy + pg - 1) (fun _ => some m.now) ∧
        ∀ n ∈ m.pgChannels copy pg, m'.loads[n - 1]?.map (·.phaseOn) =
          m.loads[n - 1]?.map fun _ => m.onAtStart n (m.loadCommon.pg.getD (pg - 1) (0, 100)).1) ∧
    (∀ copy pg n at_, copy < 2 → 1 ≤ pg → pg ≤ 4 → m.runs (if copy = 0 then isM1 else isM2) → m.pgStart copy pg = some at_ →
      n ∈ m.pgChannels copy pg → let g := m.pgUsed copy pg
      (g.1 ≠ 0 → pgReached (m.now - at_) g.2 (m.cfg (loadCfg n + 8) 2) → Runs (.pgPeriodEdge t copy pg false (2 ^ (n - 1)) 0) s fun m' =>
        m'.loads[n - 1]?.map (·.phaseOn) = m.loads[n - 1]?.map fun _ => true) ∧
      (pgReached (m.now - at_) g.2 ((m.cfg (loadCfg n + 8) 2 + g.1) % 4096) → Runs (.pgPeriodEdge t copy pg false 0 (2 ^ (n - 1))) s fun m' =>
        m'.loads[n - 1]?.map (·.phaseOn) = m.loads[n - 1]?.map fun _ => false)) ∧
    (∀ pin level, pin < 4 → m.loadCommon.pins.length = 4 → Runs (.lspwmEdge t pin level) s fun m' =>
      m'.loadCommon.pins = upd m.loadCommon.pins pin (fun _ => level) ∧
      (∀ n, m.loadMode n = 3 → m.loadSource n = pin → m'.inPhase n = level)) ∧
    (∀ vls, Runs (.vlsLevelChange t vls) s fun m' =>
      m'.loadCommon.vls = vls ∧ m'.loadCommon.vlsLow = decide (vls < 160 ∨ (m.loadCommon.vlsLow ∧ vls ≤ 168)) ∧
      m'.loadCommon.vlsCut = decide (vls < 120 ∨ (m.loadCommon.vlsCut ∧ vls ≤ 135))) ∧
    (∀ n, m.loadCommon.vlsCut = false → m.loadCommon.restartAt + 200000 ≤ m.now →
      (nums16.find? fun k => (m.load k).cut && (m.load k).demand) = some n →
      Runs (.vlsRestartStep t) s fun m' => m'.loadCommon.restartAt = m.now ∧ (m'.load n).cut = false ∧
        (m.drivesLs n → m.loadMode n ≠ 0 → m.lsRefusal n = none → (m.load n).thermalOff = false → (m'.load n).on = true))

/-- LS_SET, LS_SET_MULTI, LS_CLEAR and PG_SET have their effect (R246, R250, R254, R260, R263, R266): For every state and packet that passes every
check: LS_SET that nothing refuses sets the demand of its channel and answers DEFERRED when a turn-on meets VLS_CUT; LS_SET_MULTI with no channel
refused sets the demands of the channels it names and returns them; LS_CLEAR of a SPENT channel whose accumulator has fallen below 250 mJ, with
MODULE_SPENT clear, ends SPENT, sets RETRIES to 0, logs it and lets the channel follow its demand; PG_SET with values in range sets FREQ and DUTY of
its generator. -/
def Obligations.LoadCommandsDo : Prop :=
  ∀ (s : State) (p : Packet), let b := commandPart p
    (let m := taken lsSetSpec p s
     let n := p.target % 256
     let on : Bool := getN b 0 1 == 1
     m.lsSetFails (roleOf p s) n on = none → Does lsSetSpec (.lsSet p) p s
      { status := if on && m.loadCommon.vlsCut then stDeferred else stOk, acts := [loadChannel n], m := m.lsDemand n on }) ∧
    (let m := taken lsSetMultiSpec p s
     let named := nums16.filter fun n => bit (getN b 0 2) (n - 1) || bit (getN b 2 2) (n - 1)
     (∀ n ∈ nums16, !(bit (getN b 0 2) (n - 1) && bit (getN b 2 2) (n - 1))) →
     (∀ n ∈ named, m.lsMultiFails (roleOf p s) n (bit (getN b 0 2) (n - 1)) = none) → Does lsSetMultiSpec (.lsSetMulti p) p s
      { data := leBytes 2 ((named.map fun n => 2 ^ (n - 1)).sum) ++ leBytes 2 0, acts := lsActs (getN b 0 2 + getN b 2 2)
        m := (m.each (named.filter fun n => bit (getN b 0 2) (n - 1)) fun m n => m.lsDemand n true).each
          (named.filter fun n => bit (getN b 2 2) (n - 1)) fun m n => m.lsDemand n false }) ∧
    (let m := taken lsClearSpec p s
     let n := p.target % 256
     p.target / 256 = 3 → (m.load n).spent → (m.load n).latched = false → (m.load n).accumNow m.now < 250 →
     m.loadCommon.moduleSpent = false → Does lsClearSpec (.lsClear p) p s
      { data := leBytes 2 (2 ^ (n - 1)) ++ leBytes 2 0, acts := [loadChannel n]
        m := ((({ m with free := m.free + 17 }).setLoad n fun x => { x with spent := false, retries := 0 }).log evLsCleared (tgLoad n)
          [(n : Int), 2]).lsFollow n }) ∧
    (let m := taken pgSetSpec p s
     getN b 2 2 ≤ 4095 → 10 ≤ getN b 4 4 → getN b 4 4 ≤ 25000 → m.notOnDuty = false → Does pgSetSpec (.pgSet p) p s
      { acts := [.m1ls, .m2ls], m := m.setLoads fun k => { k with pg := upd k.pg (getN b 0 1) fun _ => (getN b 2 2, getN b 4 4) } })

/-- The field-input rows have their effect (R274, R275, R276, R278, R280, R281, R282): For every state in which the foreland runs and every input 1 to
48: a voltage at or above the on level of the input's class makes the raw level active, one at or below the off level inactive; a run of raw level
as long as FILTER becomes the filtered level of a settled input and one edge with its stamp of the foreland's time is queued in stamp order, a
shorter run that differed is a glitch and leaves the level; 100 ms below -5 V set REVERSED and log it, above -2 V end it; 10 ms of differing samples
set DISAGREE; a supervised loop resistance held for FILTER in the band of another state makes that state and, as ACTUATED, the active level; a fault
state of 100 ms is logged once. -/
def Obligations.FieldInputRowsRun : Prop :=
  ∀ (s : State) (t n : Nat), 1 ≤ n → n ≤ 48 → (s.then t).runs isForeland →
    let m := s.then t
    let x := m.fin n
    (∀ sample2 old volt, (((m.thresholds n).1 : Int) ≤ volt → m.rawLevel n sample2 old volt = true) ∧
      (volt ≤ ((m.thresholds n).2 : Int) → (m.thresholds n).2 < (m.thresholds n).1 → m.rawLevel n sample2 old volt = false)) ∧
    (∀ volt since, let level := m.rawLevel n false x.raw volt
      m.supervised n = false → 16 < n → x.settling = false → x.level ≠ level → since + m.filter n ≤ m.now →
      m.field.startedAt + m.filter n ≤ m.now → m.field.edges.length < 256 → Runs (.fieldInputEdge t n false volt since) s fun m' =>
        (m'.fin n).level = level ∧ m'.field.edges = insertEdge m.field.edges
          { input := n, level := level, stamp := micro (m.forelandTime since), at_ := since, freeRun := (m.lane true 0).state != .up }) ∧
    (∀ volt since, m.supervised n = false → x.settling = false → x.level ≠ m.rawLevel n false x.raw volt → m.now < since + m.filter n →
      Runs (.fieldInputEdge t n false volt since) s fun m' =>
        (m'.fin n).level = x.level ∧ (m'.fin n).glitches = sat max32 x.glitches ∧ m'.field.edges = m.field.edges) ∧
    (∀ volt, volt < -50 → Gives (.fiReversedTimeout t n volt) s
      ((m.setFin n fun x => { x with reversed := true }).logIf (!x.reversed) evFiReversed (tgFin n) [(n : Int), volt])) ∧
    (∀ volt, -20 < volt → Gives (.fiReversedTimeout t n volt) s (m.setFin n fun x => { x with reversed := false })) ∧
    (∀ since, x.differSince = some since → x.disagree = false → since + ms 10 ≤ m.now → Gives (.sampleDisagreeTimeout t n) s
      ((m.setFin n fun x => { x with disagree := true }).log evSampleDisagree (tgFin n) [(n : Int), flagItem x.level, flagItem x.level2])) ∧
    (∀ ohms b since, m.supervised n → supBand ohms = some b → b ≠ x.sup → x.settling = false → x.supNew = some (b.code, since) →
      since + m.filter n ≤ m.now → Runs (.supervisedMeasure t n ohms) s fun m' =>
        (m'.fin n).sup = b ∧ (m'.fin n).ohms = ohms ∧ (m'.fin n).level = (b == .actuated)) ∧
    (m.supervised n → x.sup.faulty → x.supLogged = false → x.supSince + ms 100 ≤ m.now →
      (∀ p ∈ m.enabledPortals, m.portalByte p 15 ≠ n) → Gives (.supFaultTimeout t n) s
        ((m.setFin n fun x => { x with supLogged := true }).log evSupFault (tgFin n) [(n : Int), (x.sup.code : Int), (x.ohms : Int)]))

/-- The field-output rows have their effect (R285, R286, R287, R288, R292, R296, R299): For every state and output 1 to 16, under the conditions named:
an overload held for 10 ms turns the output off into OVERLOAD_OFF, a thermal shutdown into THERMAL_OFF, and into LATCHED once RETRY_MAX retries are
used; 1 s after an overload, or cooled, an output whose demand is on and that nothing else holds off is on again with one retry more; the on-state
current sets and ends open wire; the terminal voltage while off sets high while off or open wire; VFO sets its low flag below 16.0 V until 16.8 V
and its cut flag below 12.0 V until 13.5 V; a restart step takes the first output waiting to be restored off the list and lets it follow its demand
100 µs after the last. -/
def Obligations.FieldOutputRowsRun : Prop :=
  ∀ (s : State) (t n : Nat), 1 ≤ n → n ≤ 16 →
    let m := s.then t
    let x := m.fout n
    (∀ current, x.on → x.onSince + ms 10 ≤ m.now → x.retriesNow m.now < m.cfg (foCfg n + 6) 1 → Runs (.foOverloadTimeout t n current) s fun m' =>
      (m'.fout n).on = false ∧ (m'.fout n).overloadAt = some m.now ∧ (m'.fout n).lastCause = 1 ∧
      (m'.fout n).shutdowns = sat max16 x.shutdowns ∧ (m'.fout n).latched = x.latched) ∧
    (∀ current, x.on → x.onSince + ms 10 ≤ m.now → m.cfg (foCfg n + 6) 1 ≤ x.retriesNow m.now → Runs (.foOverloadTimeout t n current) s fun m' =>
      (m'.fout n).on = false ∧ (m'.fout n).latched = true ∧ (m'.fout n).lastCause = 1) ∧
    (∀ temp, 1650 ≤ temp → x.on → x.retriesNow m.now < m.cfg (foCfg n + 6) 1 → Runs (.foThermalShutdown t n temp) s fun m' =>
      (m'.fout n).on = false ∧ (m'.fout n).thermalOff = true ∧ (m'.fout n).lastCause = 2 ∧ (m'.fout n).shutdowns = sat max16 x.shutdowns) ∧
    (∀ since, x.overloadAt = some since → since + seconds 1 ≤ m.now → m.runs isForeland → x.demand → m.drivesFo n → x.on = false →
      x.latched = false → x.cut = false → x.linkOff = false → bit m.field.restore (n - 1) = false → m.field.vfoCut = false →
      Runs (.foOverloadRetry t n) s fun m' =>
        (m'.fout n).on = true ∧ (m'.fout n).overloadAt = none ∧ (m'.fout n).retries = min 15 (x.retries + 1)) ∧
    (x.thermalOff → x.overloadAt = none → m.runs isForeland → x.demand → m.drivesFo n → x.on = false → x.latched = false → x.cut = false →
      x.linkOff = false → bit m.field.restore (n - 1) = false → m.field.vfoCut = false → Runs (.foCooled t n) s fun m' =>
        (m'.fout n).on = true ∧ (m'.fout n).thermalOff = false ∧ (m'.fout n).retries = min 15 (x.retries + 1)) ∧
    (∀ current, x.on → x.onSince + ms 50 ≤ m.now → current < m.cfg (foCfg n + 4) 2 → Gives (.foOpenWireTimeout t n current) s
      ((m.setFout n fun y => { y with openOn := true }).logIf (!x.openOn) evFoOpenWire (tgFout n) [(n : Int), 0, (current : Int)])) ∧
    (∀ volt, x.on = false → x.offSince + ms 10 ≤ m.now → m.runs isForeland → 80 ≤ volt → x.partnerOn = false → Gives (.foOffDiagJudged t n volt) s
      ((m.setFout n fun y => { y with highOff := true, expectedHigh := false }).logIf (!x.highOff) evFoHighWhileOff (tgFout n)
        [(n : Int), (volt : Int)])) ∧
    (∀ vfo, Runs (.vfoLevelChange t vfo) s fun m' => m'.field.vfoLow = decide (vfo < 160 ∨ (m.field.vfoLow ∧ vfo ≤ 168)) ∧
      m'.field.vfoCut = decide (vfo < 120 ∨ (m.field.vfoCut ∧ vfo ≤ 135))) ∧
    (m.field.restartAt ≤ m.now → m.runs isForeland → (nums16.find? fun k => bit m.field.restore (k - 1)) = some n →
      Gives (.foRestartStep t) s ((m.setField fun f => { f with restore := setBit f.restore (n - 1) false, restartAt := m.now + 100000 }).foFollow n))

/-- The barrier-link rows have their effect (R293, R294, R295, R296, R297, R300): For every state and lane: a slot without a frame counts as lost; a
frame with a wrong CRC is lost and counted; a valid frame in sequence towards the polder side on lane A or B is counted and ends the run of lost
frames; three lost frames in a row lose the lane, which on the foreland's general lane turns every output off into LINK_OFF and on the polder side's
makes the image STALE; ten valid frames restore a lost lane. -/
def Obligations.BarrierLinkRowsRun : Prop :=
  ∀ (s : State) (t lane loop vA vB : Nat), lane < 3 →
    let m := s.then t
    (∀ crc, Gives (.barrierFrameReceived t lane false none crc loop vA vB) s (m.setLane false lane Lane.lost)) ∧
    (∀ q, Gives (.barrierFrameReceived t lane false (some q) false loop vA vB) s ((m.setLane false lane Lane.lost).laneErrors lane 1 0)) ∧
    (∀ q, q < 256 → 1 ≤ lane → (m.lane false lane).seq = some q →
      Runs (.barrierFrameReceived t lane false (some ((q + 1) % 256)) true loop vA vB) s fun m' =>
        (m'.lane false lane).seq = some ((q + 1) % 256) ∧ (m'.lane false lane).lostRun = 0 ∧
        (m'.lane false lane).framesOk = ((m.lane false lane).framesOk + 1) % 2 ^ 32) ∧
    (3 ≤ (m.lane false 0).lostRun → (m.lane false 0).state = .up → Runs (.barrierLaneLost t 0 false) s fun m' =>
      (m'.lane false 0).state = .lost ∧ m'.field.stale = true ∧ m'.field.outputs = m.field.outputs) ∧
    (3 ≤ (m.lane true 0).lostRun → (m.lane true 0).state = .up → Runs (.barrierLaneLost t 0 true) s fun m' =>
      (m'.lane true 0).state = .lost ∧ ∀ n, 1 ≤ n → n ≤ 16 → (m'.fout n).on = false ∧
        (m'.field.outputs[n - 1]?.map (·.linkOff)) = (m.field.outputs[n - 1]?.map fun _ => true)) ∧
    (∀ fore, (m.lane fore lane).state = .recovering → 10 ≤ (m.lane fore lane).goodRun → Runs (.barrierLaneRestored t lane fore) s fun m' =>
      (m'.lane fore lane).state = .up)

/-- FO_SET, FO_SET_MULTI and FO_CLEAR have their effect (R266, R285, R287, R292, R297, R300): For every state and packet that passes every check: FO_SET
that nothing refuses sets the demand of its output, with DEFERRED below VFO_CUT, and the polder core answers alone while the general lane is lost;
FO_SET_MULTI with no output refused sets the demands it names and returns them; FO_CLEAR of a latched output clears the latch and RETRIES and logs
it when the measured junction (a free value of the model) is below 130 °C, and else is refused with WRONG_STATE. -/
def Obligations.FieldCommandsDo : Prop :=
  ∀ (s : State) (p : Packet), let b := commandPart p
    (let m := taken foSetSpec p s
     let n := p.target % 256 - 64
     let on : Bool := getN b 0 1 == 1
     m.foSetFails n on = none → Does foSetSpec (.foSet p) p s
      { status := if on && m.field.vfoCut then stDeferred else stOk, acts := if m.field.stale then [] else [.fl]
        m := m.setFout n fun x => { x with demand := on, cut := m.field.vfoCut && (x.cut || (on && !x.on)), oweRetry := x.oweRetry && on } }) ∧
    (let m := taken foSetMultiSpec p s
     let named := nums16.filter fun n => bit (getN b 0 2) (n - 1) || bit (getN b 2 2) (n - 1)
     (∀ n ∈ nums16, !(bit (getN b 0 2) (n - 1) && bit (getN b 2 2) (n - 1))) →
     (∀ n ∈ named, m.foSetFails n (bit (getN b 0 2) (n - 1)) = none) → Does foSetMultiSpec (.foSetMulti p) p s
      { data := leBytes 2 ((named.map fun n => 2 ^ (n - 1)).sum) ++ leBytes 2 0
        acts := if getN b 0 2 + getN b 2 2 = 0 ∨ m.field.stale then [] else [.fl]
        m := m.each named fun m n => m.foDemand n (bit (getN b 0 2) (n - 1)) }) ∧
    (let m := taken foClearSpec p s
     let n := p.target % 256 - 64
     p.target / 256 = 4 → (m.fout n).latched → Does foClearSpec (.foClear p) p s
      (if signed 16 (Config.freeValue (m.free + n) % 65536) < 1300 then
        { data := leBytes 2 (2 ^ (n - 1)) ++ leBytes 2 0, acts := if m.field.stale then [] else [.fl]
          m := (({ m with free := m.free + 17 }).setFout n fun x => { x with latched := false, retries := 0 }).log evFoCleared (tgFout n)
            [(n : Int), ((m.fout n).lastCause : Int)] }
      else { status := stWrongState, data := leBytes 2 0 ++ leBytes 2 (2 ^ (n - 1)), m }))

/-- A RING_TEST that has been taken (R238): SWITCH, its command, whether it is the proof test, what is to be done, when, and the current before. -/
def ringTestOf (k ref : Nat) (proof : Bool) (todo : List Nat) (now current : Nat) : RingTest :=
  { which := k, ref, proof, todo, stepAt := now, iBefore := current }

/-- The evaluation, comparison and switching rows of the dike ring have their effect (R217, R221, R222, R223, R224, R225, R226, R227, R230, R233): For
every state and safety island 0 or 1 that runs, under the conditions named: an evaluation makes the evaluation and comparison word of R221 the
island's own and, outside a RING_TEST, leaves the carrier off when close_ok is false; close_ok held for CLOSE_CONFIRM and true now closes the
switch; a side held for RELEASE_CONFIRM and true now is granted while nothing blocks the island, which the missing settings of either island do; a
valid word of the other island ends the count of missing words and with another settings CRC leaves both islands latched; two evaluations without a
word open the switch and withdraw release; ten words end the loss; a difference longer than DISC_TIME leaves both islands latched; a position word
is kept with its time and its sequence number, one more than the last, and one older than 1 ms is dropped; a read-back observation held for 5 ms is
reported once and one of a switch failed closed latches both islands. -/
def Obligations.RingRowsRun : Prop :=
  ∀ (s : State) (t i : Nat), i < 2 → (s.then t).safetyRuns i →
    let m := s.then t
    let x := m.safety i
    (m.ring.test = none → Runs (.safetyEvaluation t i) s fun m' =>
      (m'.safety i).own = m.evaluate x ∧ ((m.evaluate x).closeOk = false → (m'.safety i).carrier = false)) ∧
    (∀ since, x.closeSince = some since → since + ms (x.cfg 8 2) ≤ m.now → (m.evaluate x).closeOk → x.carrier = false →
      x.pulseAt = none → x.lost = false → x.firstClosed = true ∨ (10 ≤ x.run ∧ x.readOpen = true) →
      Runs (.closeConfirmElapsed t i) s fun m' => (m'.safety i).carrier = true ∧ (m'.safety i).closed = true ∧ (m'.safety i).firstClosed = true) ∧
    ((m.evaluate x).closeOk = (x.doors.all (x.confirmed m.now) && m.reset.armed && x.latch == .none)) ∧
    (∀ right since, m.ring.blocked x = false → (if right then (m.evaluate x).right else (m.evaluate x).left) →
      (if right then x.rightSince else x.leftSince) = some since → since + ms (x.cfg 10 2) ≤ m.now →
      Runs (.releaseConfirmElapsed t i right) s fun m' => (if right then (m'.safety i).grantR else (m'.safety i).grantL) = true) ∧
    (m.safetyRuns (1 - i) → Runs (.comparisonWordReceived t i .none) s fun m' =>
      (m'.safety i).seen = some (m.safety (1 - i)).own ∧ (m'.safety i).missed = 0 ∧
      ((m.safety (1 - i)).own.crc ≠ x.own.crc → m'.ring.a.latch ≠ .none ∧ m'.ring.b.latch ≠ .none)) ∧
    (2 ≤ x.missed → x.lostLogged = false → Runs (.compareLost t i) s fun m' =>
      (m'.safety i).lost = true ∧ (m'.safety i).carrier = false ∧ (m'.safety i).closed = false ∧ (m'.safety i).grantL = false ∧
      (m'.safety i).grantR = false) ∧
    (10 ≤ x.run → Gives (.compareResumed t i) s (m.setSafety i fun x => { x with lost := false, lostLogged := false })) ∧
    (∀ d, d ∈ x.diffs → (x.diffs.find? fun e => e.kind == d.kind && e.index == d.index) = some d → d.logged = false →
      d.kind < 4 → d.since + ms (x.cfg 6 2) < m.now → Runs (.discrepancyLatch t i d.kind d.index) s fun m' =>
        m'.ring.a.latch = m.ring.a.latch.join .discrepancy ∧ m'.ring.b.latch = m.ring.b.latch.join .discrepancy) ∧
    (∀ p, 1 ≤ p → p ≤ 4 → m.runs (axisIsland (m.doorAxis p)) → Runs (.positionWordReceived t i p .none) s fun m' =>
      (m'.safety i).words = upd x.words (p - 1) fun _ =>
        some (m.now, (m.axis (m.doorAxis p)).posValid && decide ((m.axisPos (m.doorAxis p) - m.posClosed p).natAbs ≤ m.lockWindow p),
          (m.axis (m.doorAxis p)).nextWord i)) ∧
    (∀ p, 1 ≤ p → p ≤ 4 → Runs (.positionWordStale t i p) s fun m' => ∀ at_ y, m.now > at_ + ms 1 →
      x.words[p - 1]? = some (some (at_, y)) → (m'.safety i).words[p - 1]? = some none) ∧
    (∀ k since, k < 5 → (m.ring.obs.find? (·.1 == k)) = some (k, since, false) → since + ms 5 ≤ m.now →
      Runs (.ringReadbackFault t k) s fun m' => (m'.ring.obs.find? (·.1 == k)) = some (k, since, true) ∧
        (k < 3 → m'.ring.a.latch.ofSwitch ∧ m'.ring.b.latch.ofSwitch) ∧
        (k = 2 → m'.ring.a.latch = .switchBoth ∧ m'.ring.b.latch = .switchBoth))

/-- The test rows of the dike ring have their effect (R231, R232, R239): For every state and running safety island: a periodic test that is due, with
both switches closed, no latch and no other test and at least the test current, stops the carrier for a test pulse and sets the next due time; a
pulse judged outside a RING_TEST resumes the carrier, and with less than 5 mA the test counts as passed, else both islands are left latched and the
switch is not proved; 24 h without a passed test set the overdue flag and log it. -/
def Obligations.RingTestRowsRun : Prop :=
  ∀ (s : State) (t i : Nat), i < 2 → (s.then t).safetyRuns i →
    let m := s.then t
    let x := m.safety i
    (∀ due, bit (x.cfg 4 1) 1 → x.testDue = some due → due ≤ m.now → m.ring.closed → m.ring.latched = false → m.ring.quiet →
      m.ring.test = none → x.cfg 12 2 ≤ x.loopMa → Runs (.ringTestPulseDue t i) s fun m' =>
        (m'.safety i).carrier = false ∧ (m'.safety i).pulseAt = some m.now ∧ (m'.safety i).before = x.loopMa ∧
        (m'.safety i).testDue = m.nextTest i) ∧
    (∀ cur vA vB, x.pulseAt.isSome → m.ring.test = none → cur < 5 → Runs (.ringTestPulseJudged t i cur vA vB) s fun m' =>
      (m'.safety i).carrier = true ∧ (m'.safety i).pulseAt = none ∧ (m'.safety i).lastPass = some m.now ∧ (m'.safety i).overdue = false ∧
      m'.ring.a.latch = m.ring.a.latch ∧ m'.ring.b.latch = m.ring.b.latch) ∧
    (∀ cur vA vB, x.pulseAt.isSome → m.ring.test = none → 5 ≤ cur → Runs (.ringTestPulseJudged t i cur vA vB) s fun m' =>
      (m'.safety i).carrier = true ∧ (m'.safety i).pulseAt = none ∧ m'.ring.a.latch ≠ .none ∧ m'.ring.b.latch ≠ .none ∧
      (if i = 0 then m'.ring.unproved.1 else m'.ring.unproved.2) = true) ∧
    (x.overdueFrom + seconds 86400 ≤ m.now → Gives (.ringTestOverdue t i) s
      ((m.setSafety i fun x => { x with overdue := true, overdueFrom := m.now }).log evRingTestOverdue tgModule
        [(i : Int), ((m.now - x.lastPass.getD m.warden.powerAt) / seconds 3600 : Nat)]))

/-- RING_TEST and RING_CLEAR have their effect (R228, R238, R239): For every state and packet that passes every check: RING_TEST of an armed module with
the ring closed, no latch and no other test is taken with the switches it names and answered when it is done; with a switch or test latch held and
the conditions of R239 met it is the proof test with its steps; RING_CLEAR whose conditions of R228 are met removes the latches of both islands and
logs each cause. -/
def Obligations.RingCommandsDo : Prop :=
  ∀ (s : State) (p : Packet), let b := commandPart p
    (let m := taken ringTestSpec p s
     let k := getN b 0 1
     let chans := match k with | 0 => [Channel.sa] | 1 => [.sb] | _ => [.sa, .sb]
     let todo := match k with | 0 => [0] | 1 => [1] | _ => [0, 1]
     m.reset.armed → m.ring.test = none → m.ring.quiet → m.ring.closed → m.ring.latched = false → Does ringTestSpec (.ringTest p) p s
      { acts := chans, wait := true
        m := m.setRing fun r => { r with test := some (ringTestOf k m.interp.nextRef false todo m.now r.current) } }) ∧
    (let m := taken ringTestSpec p s
     let k := getN b 0 1
     let todo := match k with | 0 => [1, 3] | 1 => [2, 3] | _ => [1, 2, 3]
     m.reset.armed → m.ring.test = none → m.ring.quiet → m.ring.a.latch.ofSwitch ∨ m.ring.b.latch.ofSwitch → m.proofAllowed →
     Does ringTestSpec (.ringTest p) p s
      { acts := [.sa, .sb], wait := true
        m := m.setRing fun r => { r with test := some (ringTestOf k m.interp.nextRef true todo m.now r.current) } }) ∧
    (let m := taken ringClearSpec p s
     m.clearAllowed → ∃ m', Does ringClearSpec (.ringClear p) p s { acts := [.sa, .sb], m := m' } ∧
      m'.ring = { m.ring with a := { m.ring.a with latch := .none }, b := { m.ring.b with latch := .none } })

/-- The rows of islands, their memory errors and restarts have their effect (R37, R38, R39, R539, R570, R571, R572, R573, R576): For every state and
island, under the conditions named: a scrub pass that finds nothing raises SCRUB_PASSES of its island alone; a report of transient errors is logged
and starts their count again; a watchdog expiry of a running island with fewer than two counted restarts in the last hour makes it RESTARTING,
counts the restart and names it the last one with cause WATCHDOG, and the third counted restart leaves it STOPPED; a restart that has begun ends
with the island RUNNING, and a first failed start is counted; the end of the hold window ends it and logs it; automatic re-arming arms the module. -/
def Obligations.IslandRowsRun : Prop :=
  ∀ (s : State) (t i : Nat), i < 9 →
    let m := s.then t
    let x := m.island i
    (m.runs i → x.persTimes = [] → Runs (.scrubPass t i []) s fun m' =>
      m'.islands = upd m.islands i fun y => { y with scrubPasses := sat max32 y.scrubPasses }) ∧
    (x.transientSecond ≠ 0 → x.transientAt = none ∨ (∃ a, x.transientAt = some a ∧ a + seconds 1 ≤ m.now) →
      Gives (.memTransientReport t i) s ((m.setIsland i fun x => { x with transientSecond := 0, transientAt := some m.now }).log evMemTransient
        tgModule [(i : Int), (x.transientSecond : Int)])) ∧
    (m.runs i → (m.restarts1h i).length < 2 → Runs (.watchdogExpiry t i) s fun m' =>
      (m'.islands[i]?.map fun y => (y.state, y.restarts)) = (m.islands[i]?.map fun y => (.restarting, sat max16 y.restarts)) ∧
      m'.reset.lastIsland = i ∧ m'.reset.lastCause = .watchdog) ∧
    (m.runs i → 2 ≤ (m.restarts1h i).length → Runs (.watchdogExpiry t i) s fun m' =>
      (m'.islands[i]?.map (·.state)) = (m.islands[i]?.map fun _ => .stopped) ∧ m'.reset.lastIsland = i) ∧
    (x.state = .restarting → m.warden.activation = none → m.reset.phase = .ready → ∀ damage, Runs (.islandRestartDone t i true damage) s fun m' =>
      (m'.island i).state = .running ∧ (m'.island i).startFails = 0) ∧
    (x.state = .restarting → m.warden.activation = none → m.reset.phase = .ready → x.startFails = 0 → ∀ damage,
      Gives (.islandRestartDone t i false damage) s (m.setIsland i fun x => { x with startFails := 1 })) ∧
    (∀ a, m.reset.holdStart = some a → a + ms m.reset.holdMs ≤ m.now → Runs (.holdWindowEnd t) s fun m' =>
      m'.reset.holdStart = none ∧ m'.reset.holdTaken = 0) ∧
    (m.reset.autoRearm → m.islands.all (·.state == .running) → m.armFails = none → Runs (.autoRearm t) s fun m' => m'.reset.armed = true)

/-- ARM, DISARM, MODULE_RESET and ISLAND_RESTART have their effect (R579, R580, R581): For every state and packet that passes every check: ARM with
HOLD_MS up to 2000 and no condition failing arms the module with that HOLD_MS; DISARM leaves it disarmed, with no automatic re-arming, every load
channel's and field output's demand off, the foreland having a part in it while its lane is not lost; MODULE_RESET outside an activation is
accepted, its reset to follow its reply; ISLAND_RESTART of an island that is not stopped is accepted, its restart to follow its reply. -/
def Obligations.ArmingCommandsDo : Prop :=
  ∀ (s : State) (p : Packet), let b := commandPart p
    (let m := taken armSpec p s
     getN b 0 2 ≤ 2000 → m.armFails = none → ∃ m', Does armSpec (.arm p) p s { acts := [.m1ax, .m2ax], m := m' } ∧
      m'.reset.armed = true ∧ m'.reset.holdMs = getN b 0 2 ∧ (m.reset.armed = false → m'.reset.armedAt = m.now)) ∧
    (let m := taken disarmSpec p s
     ∃ m', Does disarmSpec (.disarm p) p s { acts := [.m1ax, .m1ls, .m2ax, .m2ls] ++ if m.field.stale then [] else [.fl], m := m' } ∧ m'.reset.armed = false ∧
      m'.reset.autoRearm = false ∧
      (m.reset.armed → ∀ n, 1 ≤ n → n ≤ 16 → (m'.load n).demand = false ∧ (m'.fout n).demand = false)) ∧
    (let m := taken moduleResetSpec p s
     m.warden.activation = none → Does moduleResetSpec (.moduleReset p) p s
      { acts := [.wd], m := m.leave.setReset fun r => { r with resetPending := true } }) ∧
    (let m := taken islandRestartSpec p s
     let i := getN b 0 1
     (m.island i).state ≠ .stopped → m.warden.activation = none → Does islandRestartSpec (.islandRestart p) p s
      { acts := [.wd], m := m.setReset fun r => { r with restartOrders := r.restartOrders ++ [i] } })

/-- The force estimate, declarations, kinetic energy and edge rows have their effect (R188, R189, R198, R199, R202, R204, R207): For every state and
enabled portal 1 to 4 whose axes the module estimates: an estimate of a portal without a step keeps the last 50 resisting forces of a moving door,
their mean, the kinetic energy and the bin of the door, and no force for a door at rest; OBST_TIME above the limit spoils the move, keeps the
position and the cause, and stops a moving door axis in QUICK mode, with nothing left in its queue; the same for a step; 10 ms above 1.25 times the
energy limit log KE_EXCEEDED once; an edge in a fault state for 100 ms outside CLOSING degrades the portal and logs EDGE_FAULT once for that state;
NORMAL for 1 s outside CLOSING ends that. -/
def Obligations.ObstacleRowsRun : Prop :=
  ∀ (s : State) (t p : Nat), 1 ≤ p → p ≤ 4 → (s.then t).enabled p →
    let m := s.then t
    let o := m.ob p
    let a := m.doorAxis p
    (m.runs (axisIsland a) → m.estimates a → m.stepAxis p = none → Runs (.forceEstimateUpdate t p) s fun m' =>
      let l := if (m.axis a).moving then last50 o.samples (m.resisting a ((m.cfg (obstCfg p + 4) 4 : Rat) / 65536) (m.doorMass p) (m.doorScale p))
        else []
      (m'.obst[p - 1]?.map fun x => (x.samples, x.force, x.ke, x.bin, x.limit)) =
        m.obst[p - 1]?.map fun _ => (l, mean l, m.doorEnergy p, m.binOf p (m.axisPos a), (m.forceLimit p).map (·.1))) ∧
    (∀ since, m.estimates a → o.overSince = some since → since + ms (m.prof 32 2) ≤ m.now → Runs (.obstTimeElapsed t p false) s fun m' =>
      m'.obst = upd m.obst (p - 1) (fun x => { x with overSince := none, spoiled := true }) ∧
      m'.portals = upd m.portals (p - 1) (fun q => { q with
        obstCause := q.obstCause ||| ((m.forceLimit p).map (·.2)).getD obCeiling, obstPos := m.axisPos a }) ∧
      ((m.axis a).moving → (m'.axis a).queue = [] ∧
        ((m'.axis a).moving = false ∨ ((m'.axis a).stopping, (m'.axis a).stopRate) = (some .quick, (m.quickDecel a, 0))))) ∧
    (∀ since b, m.estimates b → m.stepAxis p = some b → o.stepOverSince = some since → since + ms (m.prof 32 2) ≤ m.now →
      Runs (.obstTimeElapsed t p true) s fun m' =>
        m'.portals = upd m.portals (p - 1) (fun q => { q with stepObst := true }) ∧
        ((m.axis b).moving → (m'.axis b).queue = [] ∧ ((m'.axis b).moving = false ∨ (m'.axis b).stopping = some .quick))) ∧
    (∀ since, o.keSince = some since → since + ms 10 ≤ m.now → o.keLogged = false → Gives (.keExceeded t p) s
      ((m.setOb p fun x => { x with keLogged := true }).log evKeExceeded (tgPortal p)
        [(p : Int), o.ke.floor, (m.doorSpeed p * 1000).floor])) ∧
    (o.edgeFaultLogged = false → o.edge.faulty → o.edgeSince + ms 100 ≤ m.now → (m.portal p).door ≠ .closing → Gives (.edgeFaultTimeout t p) s
      ((m.setOb p fun x => { x with degraded := true, edgeFaultLogged := true }).log evEdgeFault (tgPortal p) [(p : Int), if o.edge = .faultOpen then 3 else 4])) ∧
    (o.degraded → o.edge = .normal → o.edgeSince + seconds 1 ≤ m.now → (m.portal p).door ≠ .closing → Gives (.edgeDegradeEnd t p) s
      (m.setOb p fun x => { x with degraded := false }))

/-- The encoder, edge-fault, supply, signal and termination rows have their effect (R151, R152, R157, R158, R159, R160, R162): For every state and axis
0 to 7, under the conditions named: an edge is held for MIN_EDGE; an edge of A held so long that leaves A unlike B counts up one, wrapping into the
extension word; a second edge of the same line within MIN_EDGE rejects both, which adds two edge faults and counts nothing, and an edge of A and B
at once adds one; EDGE_FAULTS is logged once a second; an overloaded supply is switched off and the signal lost, the position not valid; one second
later, outside a reset, it is on again; a lost RS422 signal, or an input without supply, loses the position, and 10 ms of signal with the supply on
end the loss; the termination of MODE PAIR_AUTO of an odd unit is connected 25 ms after the last lease message and disconnected once they have been
back for 25 ms. -/
def Obligations.EncoderRowsRun : Prop :=
  ∀ (s : State) (t a : Nat), a < 8 →
    let m := s.then t
    let f := m.fb a
    (∀ line la lb at_ lz, m.counting a → line < 4 → f.heldEdges = [] → at_ ≤ m.now → 5 ∣ at_ → m.now < at_ + m.minEdge a →
      Gives (.encoderEdge t a line la lb at_ lz) s
        (m.setFb a fun f => { f with heldEdges := [⟨line, at_, (la, lb), lz, false, m.aimAt a at_⟩] })) ∧
    (∀ lb at_ lz, m.counting a → m.source a = 1 → m.modulo a = false → -2147483648 ≤ f.counter → f.counter ≤ 2147483647 →
      f.heldEdges = [] → 5 ∣ at_ → at_ + m.minEdge a ≤ m.now → Runs (.encoderEdge t a 0 (!lb) lb at_ lz) s fun m' =>
        (m'.feedback[a]?.map fun f => (f.counter, f.ext, f.lines)) = m.feedback[a]?.map fun f =>
          (if f.counter = 2147483647 then -2147483648 else f.counter + 1, if f.counter = 2147483647 then wrap32 (f.ext + 1) else wrap32 f.ext,
            (!lb, lb))) ∧
    (∀ (e : HeldEdge) la lb lz, m.counting a → f.heldEdges = [e] → e.line < 3 → e.rejected = false → 5 ∣ m.now → e.stamp < m.now →
      m.now < e.stamp + m.minEdge a → Runs (.encoderEdge t a e.line la lb m.now lz) s fun m' =>
      (m'.feedback[a]?.map fun f => (f.edgeFaults, f.counter, f.heldEdges)) = m.feedback[a]?.map fun f =>
        (min max32 (f.edgeFaults + 2), f.counter, [{ e with rejected := true }, ⟨e.line, m.now, (la, lb), lz, true, m.aimAt a m.now⟩])) ∧
    (∀ la lb at_ lz, m.counting a → m.source a = 1 → f.heldEdges = [] → 5 ∣ at_ → at_ + m.minEdge a ≤ m.now →
      Runs (.encoderEdge t a 3 la lb at_ lz) s fun m' =>
      (m'.feedback[a]?.map fun f => (f.edgeFaults, f.counter)) = m.feedback[a]?.map fun f => (min max32 (f.edgeFaults + 1), f.counter)) ∧
    (f.faultsSecond.1 ≠ 0 → f.faultsSecond.2 + seconds 1 ≤ m.now → Gives (.edgeFaultsReport t a) s
      ((m.setFb a fun f => { f with faultsSecond := (0, m.now) }).log evEdgeFaults (tgAxis a)
        [(a : Int), (f.faultsSecond.1 : Int), (f.edgeFaults : Int)])) ∧
    (∀ current, f.supplyOn → Runs (.encSupplyOverload t a current) s fun m' =>
      (m'.fb a).supplyOn = false ∧ (m'.fb a).supplyFault = true ∧ (m'.fb a).supplyAt = m.now ∧ (m'.fb a).signalLost = true ∧
      (f.signalLost = false → (m'.axis a).posValid = false)) ∧
    (f.supplyFault → m.held = false → f.supplyAt + seconds 1 ≤ m.now → Gives (.encSupplyRetry t a) s
      (m.setFb a fun f => { f with supplyOn := true, supplyFault := false, badAt := m.now })) ∧
    (∀ supply, (supply = false ∧ m.rs422 a) ∨ (supply = true ∧ m.onEncoder a ∧ f.supplyOn = false) → m.runs (axisIsland a) → f.signalLost = false →
      Runs (.encSignalLoss t a supply) s fun m' =>
      (m'.feedback[a]?.map (·.signalLost)) = (m.feedback[a]?.map fun _ => true) ∧ (m'.axis a).posValid = false) ∧
    (f.supplyOn → f.badAt + ms 10 ≤ m.now → Gives (.encSignalRestored t a) s (m.setFb a fun f => { f with signalLost := false })) ∧
    (m.termMode a = 2 → m.pair.id % 2 = 1 → m.held = false → f.term = false → m.pair.heardAt = none ∨ (∃ b, m.pair.heardAt = some b ∧ b + ms 25 ≤ m.now) →
      Gives (.termPartnerTimeout t a) s ((m.setFb a fun f => { f with term := true }).log evTermChanged (tgAxis a)
        [(m.encInput a : Int), 1, 1])) ∧
    (∀ b c, m.termMode a = 2 → m.pair.id % 2 = 1 → f.term = true → m.pair.heardAt = some b → m.now < b + ms 25 →
      m.pair.heardSince = some c → c + ms 25 ≤ m.now →
      Gives (.termPartnerReturn t a) s ((m.setFb a fun f => { f with term := false }).log evTermChanged (tgAxis a)
        [(m.encInput a : Int), 0, 2]))

/-- The observer, standstill and serial-sensor rows have their effect (R167, R168, R169, R170, R171, R172): For every state and axis 0 to 7 of a running
motion island: without a source the speed status is INVALID and the speed 0, and FEEDBACK_STATUS shows the update with the wraps since the last one
and those not yet read; without a signal or a sensor it is INVALID with speed 0 and the acceleration of the observer, which runs on; T_STILL after
the last counting edge, or with none, it is STILL and speed and acceleration are exactly 0; else one update moves p, v and a by the gains of R167
for the observer's bandwidth; the first good reading of a serial sensor is its word, and the third bad reading in a row puts the port in fault, with
the position not valid. -/
def Obligations.ObserverRowsRun : Prop :=
  ∀ (s : State) (t a : Nat), a < 8 → (s.then t).runs (axisIsland a) →
    let m := s.then t
    let f := m.fb a
    let n := m.acceptEdges a
    let g := n.fb a
    (n.source a = 0 → Runs (.observerUpdate t a) s fun m' =>
      (m'.feedback[a]?.map fun f => (f.speed, f.repSpeed, f.repAccel)) = (n.feedback[a]?.map fun _ => (.invalid, 0, 0)) ∧
      m'.fbEntry a = (m'.setFb a fun f => { f with wrapped := g.wrapped || bit (g.shown.getD 3 0).toNat 2 }).fbNow a) ∧
    (n.source a ≠ 0 → n.source a ≠ 3 → g.signalLost ∨ g.sspFault → Runs (.observerUpdate t a) s fun m' =>
      (m'.feedback[a]?.map fun f => (f.speed, f.repSpeed, f.repAccel)) =
        n.feedback[a]?.map fun f => (.invalid, 0, f.aHat + (2 * circle * (n.cfg (fbCfg a + 12) 2 : Nat) : Rat) ^ 3 * n.observed a / 50000)) ∧
    (n.source a ≠ 0 → n.source a ≠ 3 → g.signalLost = false → g.sspFault = false →
      g.tLast = none ∨ (∃ b, g.tLast = some b ∧ b + n.stillTime a ≤ n.now) → Runs (.observerUpdate t a) s fun m' =>
        (m'.feedback[a]?.map fun f => (f.speed, f.repSpeed, f.repAccel, f.pHat, f.vHat, f.aHat)) =
          n.feedback[a]?.map fun _ => (.still, 0, 0, (n.measured a : Rat), 0, 0)) ∧
    (∀ b, n.source a ≠ 0 → n.source a ≠ 3 → g.signalLost = false → g.sspFault = false → g.tLast = some b → n.now < b + n.stillTime a →
      Runs (.observerUpdate t a) s fun m' =>
        let e := n.observed a
        let w : Rat := 2 * circle * (n.cfg (fbCfg a + 12) 2 : Nat)
        (m'.feedback[a]?.map fun f => (f.pHat, f.vHat, f.aHat, f.repAccel)) = n.feedback[a]?.map fun f =>
          (f.pHat + (f.vHat + 3 * w * e) / 50000, f.vHat + (f.aHat + 3 * w ^ 2 * e) / 50000, f.aHat + w ^ 3 * e / 50000,
            f.aHat + w ^ 3 * e / 50000)) ∧
    (∀ b, m.source a ≠ 0 → f.signalLost = false → f.sspFault = false → f.tLast = some b → b + m.stillTime a ≤ m.now →
      Runs (.speedStillTimeout t a) s fun m' =>
        (m'.feedback[a]?.map fun f => (f.speed, f.repSpeed, f.repAccel)) = m.feedback[a]?.map fun _ => (.still, 0, 0)) ∧
    (∀ started frame copy word warn, m.source a = 3 → m.populated a → f.sspSeen = false →
      f.sspAt = none ∨ (∃ b, f.sspAt = some b ∧ b + m.sspCycle a ≤ m.now) → m.sspFrame a started frame copy = .ok (word, warn) →
      Runs (.sspReading t a started frame copy) s fun m' =>
      (m'.feedback[a]?.map fun f => (f.counter, f.sspSeen, f.sspBad, f.sspWarn)) =
        m.feedback[a]?.map fun _ => ((word : Int), true, 0, warn)) ∧
    (∀ started frame copy cause, m.source a = 3 → m.populated a → f.sspBad = 2 → f.sspFault = false →
      f.sspAt = none ∨ (∃ b, f.sspAt = some b ∧ b + m.sspCycle a ≤ m.now) → m.sspFrame a started frame copy = .error cause →
      Runs (.sspReading t a started frame copy) s fun m' =>
        (m'.fb a).sspFault = true ∧ (m'.fb a).speed = .invalid ∧ (m'.axis a).posValid = false)

/-- MARK_SET, MARK_CLEAR, LATCH_ARM and FORCE_MAP_RESET have their effect (R175, R176, R177, R179, R181, R182, R195, R211): For every state and packet
that passes every check: MARK_SET of a mark 0 to 7 without an action on an unowned axis, once the edges whose MIN_EDGE has passed are counted, arms
it as ordered, with MARK_BEHIND when the axis has already passed it; MARK_CLEAR on an unowned axis disarms the marks of its mask; LATCH_ARM on a
field input 1 to 48 arms the latch as ordered; FORCE_MAP_RESET of a portal at rest resets the maps of its mask with the reason COMMAND. -/
def Obligations.MarkCommandsDo : Prop :=
  ∀ (s : State) (p : Packet), let b := commandPart p
    (let a := p.target % 256
     let m := (taken markSetSpec p s).acceptEdges a
     let src : Bool := getN b 1 1 == 1
     let diff := diff32 (if src then m.measured a else (m.axis a).cmdPos) (getI b 4 4)
     getN b 0 1 ≤ 7 → getN b 3 1 = 0 → m.axisOwner a = 0 → Does markSetSpec (.markSet p) p s
      { status := if m.markBehind a (getN b 2 1) diff then stMarkBehind else stOk, acts := [axisChannel a]
        m := m.setFb a fun f => { f with marks := upd f.marks (getN b 0 1) fun _ =>
          { armed := true, measured := src, dir := getN b 2 1, action := 0, pos := getI b 4 4, value := getN b 8 4, hyst := getN b 12 2,
            rearm := bit (getN b 14 1) 1, notify := bit (getN b 14 1) 0, ready := true, below := diff < 0 } } }) ∧
    (let m := taken markClearSpec p s
     let a := p.target % 256
     m.axisOwner a = 0 → Does markClearSpec (.markClear p) p s
      { acts := [axisChannel a], m := m.setFb a fun f => { f with marks := disarmMarks (getN b 0 1) f.marks } }) ∧
    (let m := taken latchArmSpec p s
     let a := p.target % 256
     getN b 0 1 ≤ 1 → getN b 1 1 = 0 → 1 ≤ getN b 2 1 → getN b 2 1 ≤ 48 → Does latchArmSpec (.latchArm p) p s
      { acts := [axisChannel a]
        m := m.setFb a fun f => { f with latches := upd f.latches (getN b 0 1) fun _ =>
          { state := .armed, index := false, input := getN b 2 1, edge := getN b 3 1, notify := bit (getN b 4 1) 0 } } }) ∧
    (let m := taken forceMapResetSpec p s
     let n := p.target % 256
     m.notOnDuty = false → m.portalRests n → getN b 0 1 ≠ 0 → Does forceMapResetSpec (.forceMapReset p) p s
      { acts := [axisChannel (m.doorAxis n), .recd], m := m.resetMaps n (getN b 0 1) 0 })

/-- An axis is latched with a cause: its bridge off, its sluices ordered open, its setpoints 0, its latch counted, its motion ended. -/
def latchedWith (m m' : ModuleState) (a : Nat) (cause : FaultCode) : Prop :=
  ((m'.drives[a]?.map fun d => (d.bridge, d.fault, d.sluiceOrder, d.iaSet, d.ibSet, d.latches)) =
    m.drives[a]?.map fun d => (.latched, cause, 0, 0, 0, sat max16 d.latches)) ∧
  (m'.axes[a]?.map fun x => (x.queue, x.cmdSpeed, x.interval, x.stopping, x.cmdPos)) =
    m.axes[a]?.map fun x => ([], 0, none, none, x.cmdPos)

/-- The bridge-fault and brake rows latch their axis with its cause (R120, R121, R136, R137, R138, R143): For every state and populated axis 0 to 7 of a
mode other than DISABLED whose bridge is not latched: an overcurrent trip, an open phase that has carried less than 25 % of a setpoint of 500 mA or
more for 2 ms, a junction at 175 °C, a gate-supply fault with VDRV present, and the third comparison in a row that finds a pin following through an
open sluice each latch the axis with the cause of Table 4, every sluice ordered open, its motion ended and its setpoints 0, and count the latch; the
gate supply's recovery is noted; REGEN_BRAKE at 5 J latches with OVERCURRENT an axis that moves at the reading of VDRV_BULK that comes with it, and
brakes one at rest. -/
def Obligations.BridgeFaultRowsRun : Prop :=
  ∀ (s : State) (t a : Nat), a < 8 → (s.then t).populated a → (s.then t).axisMode a ≠ 0 → ((s.then t).drive a).bridge ≠ .latched →
    let m := s.then t
    let d := m.drive a
    (∀ tripped dead ia ib, 0 < tripped → tripped < 256 → Runs (.bridgeOvercurrentTrip t a tripped dead ia ib) s fun m' =>
      latchedWith m m' a (if dead then .overcurrent
        else if tripped &&& 0x55 = 0 then .shortToVdrv
        else if tripped &&& 0xAA = 0 then .shortToPgnd
        else if [0, 1, 2, 3].any fun i => [0, 1, 2, 3].any fun j => i != j && tripped.testBit (2 * i) && tripped.testBit (2 * j + 1) then
          .phaseToPhase
        else .overcurrent)) ∧
    (∀ follows b, d.bridge = .driving → d.sluiceOrder ≠ 0 → 500 ≤ d.iaSet.natAbs → d.chopper.1.lowSince = some b → b + ms 2 ≤ m.now → Runs (.openPhaseDetected t a follows) s fun m' =>
      latchedWith m m' a (if follows then .openPhase else .sluiceStuckOpen)) ∧
    (Runs (.bridgeOvertemp t a) s fun m' => latchedWith m m' a .bridgeOvertemp ∧
      (m'.drives[a]?.map (·.temp)) = m.drives[a]?.map fun d => max 1750 d.temp) ∧
    (m.vdrvPresent → Runs (.gateSupplyFault t a) s fun m' => latchedWith m m' a .gateSupply ∧
      (m'.drives[a]?.map (·.gateOk)) = m.drives[a]?.map fun _ => false) ∧
    (Gives (.gateSupplyRecovered t a) s (m.setDrive a fun d => { d with gateOk := true })) ∧
    (∀ follow, m.vdrvPresent → m.runs (axisIsland a) → d.following = [2, 0, 0, 0] → bit d.sluiceOrder 0 = false → bit follow 0 →
      Runs (.sluiceCheck t a follow) s fun m' => latchedWith m m' a .sluiceStuckClosed) ∧
    (∀ bulk, (((m.clampEnergy 5000).readBulk bulk).axis a).moving → d.bridge ≠ .braking → Runs (.regenBrake t bulk 5000) s fun m' => m'.driveCommon.clampMj = 5000 ∧
      ((m'.drives[a]?.map fun d => (d.bridge, d.fault, d.regenLatched)) = m.drives[a]?.map fun _ => (.latched, .overcurrent, true))) ∧
    (∀ bulk, (((m.clampEnergy 5000).readBulk bulk).axis a).moving = false → d.bridge ≠ .braking → Runs (.regenBrake t bulk 5000) s fun m' =>
      (m'.drives[a]?.map fun d => (d.bridge, d.iaSet, d.ibSet)) = m.drives[a]?.map fun _ => (.braking, 0, 0))

/-- The current loop, standstill, solenoid, sluice, validation, stall and regeneration rows have their effect (R120, R122, R125, R130, R131, R134, R139,
R142, R143, R146, R482): For every state and axis 0 to 7, under the conditions named: a current-loop update without an opening sluice takes the
measured currents, and of a driving open-loop stepper at full thermal scale its setpoints are I_RUN by the cosine and sine of the electrical angle;
the hold delay takes a resting stepper to HOLDING; PULL_MS ends the pull; read-back sluices are closed and the bridge off of an axis that does not
stand free is enabled; a validation within 64 units makes the position valid (that of a serial sensor stays as it is), beyond it is rejected; a
stall sample count at STALL_FILTER with the action REPORT logs and flags the stall; VDRV_BULK above 160 V enters and below 150 V ends the
regeneration limit; a standby bridge test that finds a bad device marks the unit. -/
def Obligations.BridgeRowsRun : Prop :=
  ∀ (s : State) (t a : Nat), a < 8 →
    let m := s.then t
    let d := m.drive a
    let x := m.axis a
    (∀ ia ib temp ca cb, d.openAt = none → d.openBAt = none → m.runs (axisIsland a) → m.populated a → m.axisMode a = 1 → d.bridge = .driving → d.sluiceOrder ≠ 0 →
      d.validatingAt = none → d.holdRampAt = none → d.reentryAt = none → m.pair.checkAt = none → m.homingCap a = none → m.junction a temp ia ib (ca, cb) ≤ 1500 →
      m.warden.hot = false → Runs (.currentLoopUpdate t a ia ib temp ca cb) s fun m' =>
        (m'.drives[a]?.map fun d => (d.iaMeas, d.ibMeas, d.iaSet, d.ibSet, d.temp, d.chop)) = m.drives[a]?.map fun d =>
          (ia, ib, ((m.iRun a : Rat) * cosineOf d.angle).floor, ((m.iRun a : Rat) * sineOf d.angle).floor, m.junction a temp ia ib (ca, cb), (ca, cb))) ∧
    (x.moving = false → x.queue = [] → d.bridge = .driving → d.sluiceOrder ≠ 0 → x.restSince + m.holdDelay a ≤ m.now → m.stepper a →
      Gives (.holdDelayExpiry t a) s (m.setDrive a fun d => { d with bridge := .holding, holdRampAt := some m.now })) ∧
    (d.solenoid.state ≠ 0 → d.solenoid.holding = false → d.solenoid.since + ms d.solenoid.pullMs ≤ m.now →
      Gives (.solenoidPullEnd t a) s (m.setDrive a fun d => { d with solenoid := { d.solenoid with holding := true } })) ∧
    (d.sluiceOrder ≠ 0 → m.mayClose a → d.bridge = .off → m.vdrvPresent → d.awaitVal = false → m.freed a = false → Runs (.sluiceClosedReadback t a) s fun m' =>
      (m'.drive a).sluices = d.sluices ||| d.sluiceOrder ∧ (m'.drive a).bridge = .driving ∧ (m'.drive a).offA = 0 ∧ (m'.drive a).offB = 0) ∧
    (∀ b, d.validatingAt = some b → b + ms 30 ≤ m.now → ((m.acceptEdges a).posError a).natAbs ≤ 64 → d.valKept = false → m.source a ≠ 3 →
      Runs (.angleValidationDone t a) s fun m' => (m'.axes[a]?.map (·.posValid)) = (m.axes[a]?.map fun _ => true) ∧
        (m'.drive a).angleOk = true ∧ (m'.drive a).awaitVal = false ∧ (m'.drive a).validatingAt = none) ∧
    (∀ b, d.validatingAt = some b → b + ms 30 ≤ m.now → 64 < ((m.acceptEdges a).posError a).natAbs → Runs (.angleValidationDone t a) s fun m' =>
      (m'.axis a).posValid = false ∧ (m'.drive a).awaitVal = false ∧ (m'.drive a).validatingAt = none) ∧
    (d.beyond.1 ≠ m.cfg (driveCfg a + 15) 1 → d.beyond.2 = m.cfg (driveCfg a + 15) 1 → m.cfg (driveCfg a + 20) 4 ≠ 0 → m.stallAction a = 0 →
      Gives (.stallWindowExceeded t a) s ((m.setDrive a fun d =>
        { d with beyond := (d.beyond.1, m.cfg (driveCfg a + 15) 1 + 1), stallFlag := true }).log evStallDetected (tgAxis a)
          [(a : Int), m.posError a, 0])) ∧
    (∀ bulk, 1600 < bulk → Runs (.regenLimitEnter t bulk 0) s fun m' => m'.driveCommon.regenLimit = true ∧ m'.warden.bulk = bulk) ∧
    (∀ bulk, bulk < 1500 → Runs (.regenLimitEnd t bulk) s fun m' => m'.driveCommon.regenLimit = false ∧ m'.warden.bulk = bulk) ∧
    (∀ currents follow, m.pairMode ≠ 0 → m.pair.role = .standby → m.shared a → m.populated a → m.axisMode a ≠ 0 → m.testable a →
      m.pair.testAt.getD a 0 + seconds (60 * m.cfg 3125 1) ≤ m.now → m.pair.testAt.foldl max 0 + seconds 1 ≤ m.now →
      passMask m.warden.vdrv currents ≠ 255 → Runs (.standbyBridgeTest t a currents follow) s fun m' =>
        m'.pair.testFailed = true ∧ m'.pair.testAt = upd m.pair.testAt a (fun _ => m.now) ∧
        ((m'.drives[a]?.map fun d => (d.bridge, d.fault)) = m.drives[a]?.map fun _ => (.latched, .testFailed)))

/-- DRIVE_FAULT_CLEAR, SOLENOID_SET and BRIDGE_TEST have their effect (R125, R138, R145, R146): For every state and packet that passes every check:
DRIVE_FAULT_CLEAR of a latched axis whose cause is gone, with fewer than three counted overcurrent latches, ends the latch and its cause;
SOLENOID_SET to POSITIVE or NEGATIVE on an armed, owned-by-no-standby, unlatched DC_SOLENOID axis with currents in range starts the order and asks
for the sluices of phase B; BRIDGE_TEST of a testable unowned axis returns the mask of the devices whose current (free values of the model) is
within 20 % of VDRV / 47 Ω, and latches the axis when one is not. -/
def Obligations.DriveCommandsDo : Prop :=
  ∀ (s : State) (p : Packet), let b := commandPart p; let a := p.target % 256
    (let m := taken driveFaultClearSpec p s
     (m.drive a).bridge = .latched → m.causePresent a = false → (m.drive a).ocTimes.length < 3 → ∃ m',
      Does driveFaultClearSpec (.driveFaultClear p) p s { acts := [axisChannel a], m := m' } ∧
        (m'.drives[a]?.map fun d => (d.fault, d.regenLatched)) = (m.drives[a]?.map fun _ => (.none, false)) ∧ (m'.drive a).bridge ≠ .latched) ∧
    (let m := taken solenoidSetSpec p s
     getN b 0 1 ≠ 0 → getN b 2 2 ≤ m.cfg (driveCfg a + 26) 2 → getN b 4 2 ≤ getN b 2 2 → getN b 6 2 ≤ 5000 → m.notOnDuty = false →
     m.reset.armed → m.axisMode a = 4 → (m.drive a).bridge ≠ .latched → Does solenoidSetSpec (.solenoidSet p) p s
      { acts := [axisChannel a]
        m := m.setDrive a fun d => { d with
          sluiceOrder := d.sluiceOrder % 4 + 12
          openBAt := none
          solenoid := { state := getN b 0 1, pullMa := getN b 2 2, holdMa := getN b 4 2, pullMs := getN b 6 2, since := m.now
                        holding := getN b 6 2 == 0 } } }) ∧
    (let m := taken bridgeTestSpec p s
     let currents := (List.range 8).map fun i => Config.freeValue (m.free + i) % 65536
     let follow := Config.freeValue (m.free + 8) % 16
     m.axisOwner a = 0 → m.testable a → Does bridgeTestSpec (.bridgeTest p) p s
      { acts := [axisChannel a]
        m := ({ m with free := m.free + 9 }).testBridge a currents follow
        data := leBytes 1 (passMask m.warden.vdrv currents) ++ leBytes 1 (if follow = 0 then 1 else 0) ++ leBytes 2 m.warden.vdrv ++
          leBytes 2 (currents.foldl min 65535) })

/-- The step timer and the rate multiplier issue steps and take over from each other (R75, R96, R97, R98, R99, R100, R101, R102, R103, R107): For every
state and axis 0 to 7 of a running motion island, with a trajectory in progress: when the timer has run its interval, the commanded position
advances by one increment in the direction of travel, not past the end of the trajectory, and the step is counted; what is left of an interval
beyond 32 bits runs first; with the axis still under way, the running interval and the buffer are loaded as the trajectory has them, the last
interval is repeated while the engine replans, and a buffer that is empty while travel goes on is a counted timer fault that hands over to the
multiplier; the multiplier follows in shadow, and driving adds 1 000 times its increment to its 48-bit phase every 20 µs, a carry being one step;
steps the sequencer did not receive leave no path; an axis at rest on the multiplier with fewer than three faults in an hour returns to the timer
when its self-test passes. -/
def Obligations.StepRowsRun : Prop :=
  ∀ (s : State) (t a : Nat) (p : Plan), a < 8 → (s.then t).runs (axisIsland a) →
    let m := s.then t
    let x := m.axis a
    let onward := p.dir * (min (m.stepInc a) x.left : Nat)
    (∀ i fed counted, x.plan = some p → x.interval = some i → x.path = .timer → x.stepAt + 5 * i ≤ m.now → x.intervalRest = 0 →
      Runs (.stepTimerExpiry t a fed counted) s fun m' => (m'.axis a).cmdPos = wrap32 (x.cmdPos + onward) ∧
        (m'.axis a).stepCount = (x.stepCount + 1) % 2 ^ 32) ∧
    (∀ i fed counted, x.interval = some i → x.path = .timer → x.stepAt + 5 * i ≤ m.now → 0 < x.intervalRest →
      Gives (.stepTimerExpiry t a fed counted) s (m.setAxis a fun x =>
        { x with interval := some (intervalPart x.intervalRest), intervalRest := x.intervalRest - intervalPart x.intervalRest, stepAt := x.stepAt + 5 * i,
                 stepTime := x.stepTime + i })) ∧
    (∀ i fed, x.interval = some i → x.path = .timer → x.stepAt + 5 * i ≤ m.now → x.intervalRest = 0 →
      ((m.timerStep a i).axis a).plan.isSome → ((m.timerStep a i).axis a).replanAt = none → x.intervals ≠ [] →
      Gives (.stepTimerExpiry t a fed true) s
        (((m.timerStep a i).setAxis a fun y => { y with phaseAcc := 0, phaseAt := m.now }).reload a (if fed then 2 else x.intervals.length - 1))) ∧
    (∀ i fed, x.interval = some i → x.path = .timer → x.stepAt + 5 * i ≤ m.now → x.intervalRest = 0 →
      ((m.timerStep a i).axis a).plan.isSome → ((m.timerStep a i).axis a).replanAt.isSome →
      Gives (.stepTimerExpiry t a fed true) s ((m.timerStep a i).setAxis a fun y => { y with phaseAcc := 0, phaseAt := m.now })) ∧
    (∀ i fed, x.interval = some i → x.path = .timer → x.stepAt + 5 * i ≤ m.now → x.intervalRest = 0 →
      ((m.timerStep a i).axis a).plan.isSome → ((m.timerStep a i).axis a).replanAt = none → x.intervals = [] →
      Runs (.stepTimerExpiry t a fed true) s fun m' =>
        (m'.axes[a]?.map fun y => (y.path, y.fallbacks)) = ((m.timerStep a i).axes[a]?.map fun y => (StepPath.fallback, sat max16 y.fallbacks))) ∧
    (∀ counted, x.path = .timer → x.replanAt = none → Gives (.fallbackIncrementLoad t a counted) s
      ((m.commanded a).setAxis a fun y =>
        { y with phaseAcc := y.phaseNow m.now, phaseAt := m.now, increment := incrementOf ((m.commanded a).stepRate a) })) ∧
    (x.path = .fallback → x.pausedAt = none → x.plan = some p → x.phaseAt + 20000 ≤ m.now → x.phaseAcc + 1000 * x.increment < 2 ^ 48 →
      x.replanAt = none → Runs (.fallbackIncrementLoad t a true) s fun m' => (m'.axis a).cmdPos = x.cmdPos ∧
        (m'.axis a).phaseAcc = x.phaseAcc + 1000 * x.increment ∧ (m'.axis a).phaseAt = x.phaseAt + 20000) ∧
    (x.path = .fallback → x.pausedAt = none → x.plan = some p → x.phaseAt + 20000 ≤ m.now → (x.phaseAcc + 1000 * x.increment) / 2 ^ 48 = 1 →
      Runs (.fallbackIncrementLoad t a true) s fun m' => (m'.axis a).cmdPos = wrap32 (x.cmdPos + onward)) ∧
    (x.path = .fallback → x.pausedAt = none → x.plan = some p → Runs (.fallbackIncrementLoad t a false) s fun m' =>
      (m'.axis a).path = .none ∧ (m'.axis a).posValid = false ∧ (m'.axis a).queue = []) ∧
    (x.path = .fallback → x.moving = false → m.keptOnFallback a = false → Gives (.stepTimerRestore t a true) s
      ((m.setAxis a fun x => { x with path := .timer }).log evStepTimerRestored (tgAxis a) [(a : Int), (m.faultsHour a : Int)]))

/-- AXIS_MOVE, AXIS_STOP, AXIS_SET_POSITION and AXIS_STEP_PATH have their effect (R75, R84, R85, R90, R92, R95, R101, R110, R111, R112, R165): For every
state and packet that passes every check: AXIS_MOVE of one ABSOLUTE or RELATIVE move without BLEND, within the axis maxima, the 32-bit range and the
queue, on an armed, unowned axis with a step path and no latch, appends the move, or with REPLACE takes the queue's place, its target clamped to the
soft limits with CLAMPED; of an idle axis, a move that ends where the axis stands is complete at once; AXIS_STOP flushes the queue, leaves an axis
at rest at rest, and brings a moving one to rest under DECEL or QUICK; AXIS_SET_POSITION at rest redefines the position and makes it valid;
AXIS_STEP_PATH at rest takes the fallback, or the timer when its self-test (a free value of the model) passes. -/
def Obligations.MotionCommandsDo : Prop :=
  ∀ (s : State) (p : Packet), let b := commandPart p; let a := p.target % 256
    (let m := taken axisMoveSpec p s
     let v := m.readMove a b
     let first := bit (getN b 1 1) 0
     let raw := if getN b 0 1 = 1 then (if first then (m.axis a).cmdPos else m.lastEnd a) + getI b 4 4 else getI b 4 4
     let aim := if m.softLimits a then max (m.softMin a) (min (m.softMax a) raw) else raw
     b.length = 32 → getN b 0 1 ≤ 1 → bit (getN b 1 1) 1 = false → m.moveTooMuch a v = false → -2147483648 ≤ raw → raw ≤ 2147483647 →
     m.notOnDuty = false → m.reset.armed → m.axisOwner a = 0 → m.modulo a = false → (m.axis a).queue.length < 16 →
     (m.axis a).path ≠ .none → (m.drive a).bridge ≠ .latched → ∃ m',
      Does axisMoveSpec (.axisMove p) p s { status := if aim = raw then stOk else stClamped, acts := [axisChannel a], m := m' } ∧
        ((first = false ∧ (m.axis a).stopping.isSome) ∨
            (aim ≠ (m.axis a).cmdPos ∧ ∀ w ∈ (m.axis a).queue, m.moveEnd a w ≠ some (m.axis a).cmdPos) →
          (m'.axes[a]?.map fun x => (x.queue.map fun (w : Move) => { w with junction := 0 }, x.cmdPos, x.clamped)) = m.axes[a]?.map fun x =>
            ((((if first then [] else x.queue) ++ [{ v with target := aim }]).map fun (w : Move) => { w with junction := 0 }), x.cmdPos, decide (aim ≠ raw))) ∧
        (aim = (m.axis a).cmdPos → (m.axis a).queue = [] → (m.axis a).moving = false → (m.axis a).pausedAt = none →
          (m.drive a).awaitVal = false → (m.drive a).validatingAt = none → (m.drive a).bridge ≠ .braking →
          (m'.axes[a]?.map fun x => (x.queue, x.cmdPos, x.doneId)) = m.axes[a]?.map fun x => ([], x.cmdPos, v.id))) ∧
    (let m := taken axisStopSpec p s
     m.axisOwner a = 0 → (m.drive a).bridge ≠ .latched → ∃ m',
      Does axisStopSpec (.axisStop p) p s { acts := [axisChannel a], m := m' } ∧ (m'.axis a).queue = [] ∧
        ((m.axis a).moving = false → (m'.axis a).moving = false) ∧
        ((m.axis a).plan.isSome → (m.axis a).stopping = none → (m'.axis a).moving = false ∨
          ((m'.axis a).stopping = some (if getN b 0 1 = 1 then .quick else .decel) ∧
            (getN b 0 1 = 1 → (m'.axis a).stopRate = (m.quickDecel a, 0))))) ∧
    (let m := taken axisSetPositionSpec p s
     m.reset.armed → m.axisOwner a = 0 → ((m.acceptEdges a).axis a).moving = false → ((m.acceptEdges a).axis a).queue = [] → ∃ m',
      Does axisSetPositionSpec (.axisSetPosition p) p s { acts := if m.source a = 3 then [axisChannel a, .recd] else [axisChannel a], m := m' } ∧
        (m'.axes[a]?.map fun x => (x.cmdPos, x.posValid)) = (m.axes[a]?.map fun _ => (getI b 0 4, true)) ∧
        (m.hasFb a → m.source a ≠ 3 → a < m.feedback.length → m'.measured a = getI b 0 4)) ∧
    (let m := taken axisStepPathSpec p s
     m.reset.armed → m.axisOwner a = 0 → (m.axis a).moving = false → (m.axis a).path ≠ .none →
      (getN b 0 1 = 1 → Does axisStepPathSpec (.axisStepPath p) p s { acts := [axisChannel a], m := m.fallBack a 3 }) ∧
      (getN b 0 1 = 0 → Does axisStepPathSpec (.axisStepPath p) p s
        (if Config.freeValue m.free % 2 = 1 ∨ m.keptOnFallback a then { status := stStepPathFault, m := { m with free := m.free + 1 } }
         else
          { acts := [axisChannel a]
            m := if (m.axis a).path = .timer then { m with free := m.free + 1 }
              else (({ m with free := m.free + 1 }).setAxis a fun x => { x with path := .timer }).log evStepTimerRestored (tgAxis a)
                [(a : Int), (m.faultsHour a : Int)] })))

/-- The rows of module time have their effect (R341, R342, R344, R346, R348, R349, R350, R353, R616): For every state, no packet waiting in the
interpreter: the first Announce of a master in the configured domain and transport is kept, and the second one within 8 s of the only master heard
makes it the grandmaster; a measurement of it within 1 s is the offset, its path delay and instant kept, and the 16th in a row within 500 ns makes
SYNCING LOCKED; a PPS_IN edge of the configured polarity within 100 µs of a whole second keeps PPS usable; SYNC_TIMEOUT without PTP loses it, with
its grandmaster when no other master is heard, and takes LOCKED to HOLDOVER; HOLDOVER_MAX ends in FREE; a driven PPS_OUT rises at a whole second
that no step has crossed through a compare unit that serves it and then is free of it, and not with every unit taken, and falls PPS_WIDTH later; the
reference is lost and restored; a free compare unit of a running network island takes the earliest near target, and fires when module time has
reached it: its held packet is launched, with PPS_OUT at a whole second. -/
def Obligations.TimeRowsRun : Prop :=
  ∀ (s : State) (t : Nat), let m := s.then t
    m.interp.launched = [] → m.interp.waiting = [] →
    (∀ utc data, m.ethRuns → m.sources.contains 1 →
      (m.time.masters = [] → Runs (.ptpMessageReceived t (.announce (m.cfg (timeCfg + 4) 1) (m.cfg (timeCfg + 5) 1) utc data)) s fun m' =>
        m'.time.masters = [{ data, utc, last := m.now, prev := none }] ∧ m'.time.gmData = none ∧ m'.time.gm = m.time.gm) ∧
      (∀ f, m.time.masters = [f] → f.data.getD 5 0 = data.getD 5 0 → m.now ≤ f.last + seconds 8 →
        Runs (.ptpMessageReceived t (.announce (m.cfg (timeCfg + 4) 1) (m.cfg (timeCfg + 5) 1) utc data)) s fun m' =>
          m'.time.gm = data.getD 5 0 ∧ m'.time.gmData = some data ∧ m'.time.utc = utc)) ∧
    (∀ (arrived source delay : Nat) d, m.ethRuns → m.cfg timeCfg 1 = 1 → m.isStandby = false → m.time.gmData = some d →
      ((m.time.count arrived : Int) - source).natAbs ≤ 1000000000 →
      Runs (.ptpMessageReceived t (.measurement (m.cfg (timeCfg + 4) 1) (m.cfg (timeCfg + 5) 1) m.time.gm arrived source delay)) s fun m' =>
        m'.time.ptpAt = some m.now ∧ m'.time.pathDelay = delay ∧ m'.time.offset = (m.time.count arrived : Int) - source ∧
        (m.time.quality = .syncing → m.time.goodRun = 15 → ((m.time.count arrived : Int) - source).natAbs ≤ 500 →
          m'.time.quality = .locked)) ∧
    (∀ edge, m.runs isNetwork → m.sources.contains 2 → m.time.timeSet →
      ((m.time.count edge : Int) - m.cfgInt (timeCfg + 14) 2) % 1000000000 ≤ 100000 →
      Runs (.ppsInEdge t edge (bit m.timeFlags 0)) s fun m' => m'.time.ppsAt = some m.now ∧
        (m.cfg timeCfg 1 = 2 → m.isStandby = false →
          m'.time.offset = ((m.time.count edge : Int) - m.cfgInt (timeCfg + 14) 2) % 1000000000)) ∧
    (∀ b, m.time.ptpAt = some b → b + m.syncTimeout ≤ m.now → m.cfg timeCfg 1 = 1 → m.isStandby = false → m.time.quality = .locked →
      m.time.holdoverAt = none → Runs (.ptpSourceLost t) s fun m' =>
        m'.time.ptpAt = none ∧ ((∀ f ∈ m.time.masters, f.data.getD 5 0 = m.time.gm) → m'.time.gmData = none) ∧
          m'.time.quality = .holdover ∧ m'.time.holdoverAt = some m.now) ∧
    (∀ b, m.time.holdoverAt = some b → b + seconds (m.cfg (timeCfg + 10) 2) ≤ m.now → Runs (.holdoverExpiry t) s fun m' =>
      m'.time.quality = .free ∧ m'.time.holdoverAt = none) ∧
    (let x := m.stamp.1 * 1000000000
     let shared := (m.interp.scheduled.any fun q => stampNs q.launch == x) ||
       m.can.any fun c => c.bufs.any fun b => b.state == .waiting && stampNs b.launch == x
     m.runs isNetwork → m.time.quality = .locked → m.stamp.2 = 0 → m.time.crossed ≠ some m.stamp.1 →
      (m.time.units.contains (some x) ∨ m.time.units.contains none → Gives (.ppsOutPulse t) s (m.setTime fun u => { u with
        units := if shared then u.units else u.units.map (fun y => if y = some x then none else y), ppsOut := true, ppsOutAt := m.now })) ∧
      (¬ m.time.units.contains (some x) → ¬ m.time.units.contains none → Gives (.ppsOutPulse t) s m)) ∧
    (m.time.ppsOut → m.time.ppsOutAt + ms (m.cfg (timeCfg + 12) 2) ≤ m.now → Gives (.ppsOutFall t) s
      (m.setTime fun u => { u with ppsOut := false })) ∧
    Gives (.ref25mLost t) s (m.setTime fun u => { u with ref25 := false }) ∧
    Gives (.ref25mRestored t) s (m.setTime fun u => { u with ref25 := true }) ∧
    (∀ unit x, unit < 8 → m.runs isNetwork → m.time.units.getD unit none = none → (m.nearTargets.find? fun y => !m.time.units.contains (some y)) = some x →
      Gives (.compareTargetArm t unit) s (m.setTime fun u => { u with units := upd u.units unit fun _ => some x })) ∧
    (∀ unit x, unit < 8 → m.runs isNetwork → m.time.units.getD unit none = some (stampNs x.launch) → stampNs x.launch ≤ m.count → m.interp.scheduled = [x] →
      (∀ c b, c < 2 → b < 3 → ((m.ctl c).buf b).state ≠ .waiting) → m.interp.hold = none → m.interprets →
      let n := { m with
        time := { m.time with units := upd m.time.units unit fun _ => none }, interp := { m.interp with scheduled := [] } }
      Gives (.compareUnitFire t unit) s (launch command x
        (if stampNs x.launch % 1000000000 = 0 ∧ m.count ≤ stampNs x.launch + 20 then n.raisePps (stampNs x.launch / 1000000000) else n)))

/-- TIME_SET and SCHEDULE_CANCEL have their effect (R346, R357, R358): For every state and packet that passes every check: TIME_SET with nanoseconds
below 1 s, HOST or PPS the source or quality FREE, and an offset of at most 1 s from the time it names, run on since its packet was taken, keeps the
offset, marks module time as set and goes to the network island; SCHEDULE_CANCEL takes the first held packet of its SEQ and transport away. -/
def Obligations.TimeCommandsDo : Prop :=
  ∀ (s : State) (p : Packet), let b := commandPart p
    (let m := taken timeSetSpec p s
     let offset : Int := (m.count : Int) - (stampNs (getN b 0 6, getN b 6 4) + (m.now - p.time) : Nat)
     getN b 6 4 < 1000000000 → m.timeSource = 3 ∨ m.timeSource = 2 ∨ m.time.quality = .free → offset.natAbs ≤ 1000000000 →
     m.interp.waiting = [] → ∃ m', Does timeSetSpec (.timeSet p) p s { acts := [.net], m := m' } ∧
       m'.time.offset = offset ∧ m'.time.timeSet = true ∧ m'.time.steps = m.time.steps) ∧
    (let m := taken scheduleCancelSpec p s
     let hit : Sched → Bool := fun x => x.packet.seq == getN b 0 4 && x.packet.transport.index == getN b 4 1
     ∀ x ∈ m.interp.scheduled, hit x → Does scheduleCancelSpec (.scheduleCancel p) p s
      { m := { m with interp := { m.interp with scheduled := m.interp.scheduled.eraseIdx (m.interp.scheduled.findIdx hit) } } })

/-- The rows of a CAN controller and its bus have their effect (R362, R364, R365, R366, R367, R368, R369, R371, R372, R377, R381, R386): For every state
and controller 0 or 1, under the conditions named: an ordered mode is taken at bus idle, and leaving NORMAL aborts every PENDING buffer with cause
MODE; after integration START_MODE is entered on a ready module; a recovering controller in bus-off returns to error-active with counters 0; while
the network island runs, each bus fault sets its flag and is logged; a received frame counts, lowers REC and lands whole in the plain object bound
to its identifier; a receive error counts and raises REC by 1, or by 9 with a dominant bit after the error flag; AUTO_RATE tries the next candidate
after its dwell and accepts at the second good frame, which counts, with an ordered mode still to come; an acknowledged attempt of a host buffer
that can be on the bus makes it DONE, lowers TEC and counts; a failed one raises TEC by 8 and leaves an unlimited buffer PENDING; transport timeouts
are counted, a single frame is delivered, a first frame opens a reception. -/
def Obligations.CanBusRowsRun : Prop :=
  ∀ (s : State) (t c : Nat), c < 2 →
    let m := s.then t
    let q := m.ctl c
    (∀ mode, q.order = some mode → Runs (.canModeApply t c) s fun m' => (m'.ctl c).mode = mode ∧ (m'.ctl c).order = none ∧
      (q.mode = .normal → mode ≠ .normal → ∀ b, b < 3 → (q.buf b).state = .pending → ((m'.ctl c).buf b).state = .aborted ∧
        ((m'.ctl c).buf b).cause = 3)) ∧
    (q.integrating → m.runs isNetwork → m.configured → m.reset.phase = .ready → Runs (.canBusIntegrated t c) s fun m' =>
      (m'.ctl c).mode = CanMode.ofCode (m.cfg (canCfg c + 1) 1) ∧ (m'.ctl c).integrating = false) ∧
    (q.err = .busOff → q.recovering → q.mode = .normal → Runs (.canBusOffRecovered t c) s fun m' =>
      (m'.ctl c).err = .active ∧ (m'.ctl c).tec = 0 ∧ (m'.ctl c).rec_ = 0 ∧ (m'.ctl c).recovering = false) ∧
    (m.runs isNetwork → Gives (.canTxdTimeout t c) s ((m.setCtl c fun q => { q with busFault := true }).log evCanBusFault tgModule [(c : Int), 0])) ∧
    (m.runs isNetwork → Gives (.canBusDominant t c) s ((m.setCtl c fun q => { q with busFault := true }).log evCanBusFault tgModule [(c : Int), 1])) ∧
    (m.runs isNetwork → Gives (.transceiverThermal t c) s ((m.setCtl c fun q => { q with busFault := true }).log evCanBusFault tgModule [(c : Int), 2])) ∧
    (∀ sof f o, q.mode = .normal → q.err ≠ .busOff → q.rec_ ≤ 127 → (q.objs.findIdx fun x => x.bound == some f.id) = o → o < q.objs.length →
      (q.objs.getD o {}).dedup = false → (q.objs.getD o {}).secured = false → Runs (.canFrameReceived t c sof f) s fun m' =>
        (m'.ctl c).rxFrames = (q.rxFrames + 1) % 2 ^ 32 ∧ (m'.ctl c).rec_ = q.rec_ - 1 ∧
        let x := (m'.ctl c).objs.getD o {}
        x.frame = some f ∧ x.fresh = true ∧ x.lost = ((q.objs.getD o {}).lost || (q.objs.getD o {}).fresh) ∧
          x.count = ((q.objs.getD o {}).count + 1) % 65536 ∧ x.stamp = m.time.stamp sof) ∧
    (∀ dominant, q.mode = .normal → q.err ≠ .busOff → Runs (.canRxError t c dominant) s fun m' =>
      (m'.ctl c).errors = sat max32 q.errors ∧ (m'.ctl c).rec_ = min 255 (q.rec_ + if dominant then 9 else 1)) ∧
    (q.mode = .autoRate → q.dwellAt + ms (m.cfg (canCfg c + 36) 2) ≤ m.now → q.trying + 1 < m.cfg (canCfg c + 38) 1 →
      Runs (.canRateDwellEnd t c) s fun m' => (m'.ctl c).trying = q.trying + 1 ∧ (m'.ctl c).dwellAt = m.now ∧ (m'.ctl c).goodRun = 0) ∧
    (∀ sof f, q.mode = .autoRate → q.goodRun = 1 → Runs (.canFrameReceived t c sof f) s fun m' =>
      (m'.ctl c).candidate = some q.trying ∧ (m'.ctl c).mode = (if bit (m.canFlags c) 2 then .normal else .listenOnly) ∧
        (m'.ctl c).rxFrames = (q.rxFrames + 1) % 2 ^ 32 ∧ (m'.ctl c).noAck = false ∧ (m'.ctl c).order = q.order) ∧
    (∀ b sof, b < 3 → q.mode = .normal → q.err ≠ .busOff → (q.buf b).state = .pending → m.offers c b → Runs (.canTxSuccess t c b sof) s fun m' =>
      ((m'.ctl c).buf b).state = .done ∧ ((m'.ctl c).buf b).attempts = (q.buf b).attempts + 1 ∧ (m'.ctl c).tec = q.tec - 1 ∧
      (m'.ctl c).txFrames = (q.txFrames + 1) % 2 ^ 32) ∧
    (∀ b, b < 3 → q.mode = .normal → q.err ≠ .busOff → (q.buf b).state = .pending → m.offers c b → (q.buf b).retry = 0 → (q.buf b).abortAsked = false →
      q.tec + 8 < 256 → Runs (.canTxErrorFrame t c b .other) s fun m' => ((m'.ctl c).buf b).state = .pending ∧
        ((m'.ctl c).buf b).attempts = (q.buf b).attempts + 1 ∧ (m'.ctl c).tec = q.tec + 8 ∧ (m'.ctl c).errors = sat max32 q.errors) ∧
    (∀ x, q.tpRx = some x → x.last + ms (m.cfg (canCfg c + 32) 2) ≤ m.now → Runs (.canTpNCrTimeout t c) s fun m' =>
      (m'.ctl c).tpRx = none ∧ (m'.ctl c).tpErrors = sat max16 q.tpErrors) ∧
    (∀ x b, q.tpTx = some x → x.waitFc = some b → b + ms (m.cfg (canCfg c + 34) 2) ≤ m.now → q.tpBuf = none →
      Runs (.canTpNBsTimeout t c) s fun m' => (m'.ctl c).tpErrors = sat max16 q.tpErrors) ∧
    (∀ d n, q.carries → m.configured → m.reqId c ≠ 0xFFFFFFFF → q.tpRx = none → getN d 0 1 = n → 1 ≤ n → n ≤ 7 → n < d.length →
      Gives (.canTpFrameReceived t c d) s (m.deliver (if c = 0 then .canA else .canB) (0, 0) ((d.drop 1).take n))) ∧
    (∀ d n, q.carries → m.configured → m.reqId c ≠ 0xFFFFFFFF → q.tpRx = none → getN d 0 1 = 16 + n / 256 → getN d 1 1 = n % 256 →
      1 ≤ n → n < 4096 → Runs (.canTpFrameReceived t c d) s fun m' =>
        (m'.ctl c).tpRx = some { len := n, got := (d.drop 2).take n, next := 1, block := 0, last := m.now })

/-- CAN_MODE, CAN_RX_BIND, CAN_RX_READ, CAN_TX and CAN_TX_ABORT have their effect (R367, R370, R372, R376, R377, R378, R385): For every state and packet
that passes every check: CAN_MODE to a mode other than NORMAL orders it; CAN_RX_BIND of an identifier in range that nothing else uses binds the
object with its frame, flags and count cleared, and unbinds it with 0xFFFFFFFF; CAN_RX_READ returns the entries of the objects of its mask, with
NEW_ONLY those with NEW, and CLEAR ends NEW and LOST of exactly those; CAN_TX of a plain frame without a launch time on a carrying controller loads
an idle buffer as PENDING; CAN_TX_ABORT ends a WAITING buffer with cause HOST. -/
def Obligations.CanCommandsDo : Prop :=
  ∀ (s : State) (p : Packet), let b := commandPart p; let c := p.target % 256 / 128; let n := p.target % 256 % 64
    (let m := taken canModeSpec p s
     CanMode.ofCode (getN b 1 1) ≠ .normal → Does canModeSpec (.canMode p) p s
      { acts := [.net], m := m.setCtl (getN b 0 1) fun q => { q with order := some (CanMode.ofCode (getN b 1 1)) } }) ∧
    (let m := taken canRxBindSpec p s
     let id := getN b 0 4
     id ≠ 0xFFFFFFFF → idInRange id → (∀ x ∈ (m.ctl c).objs, x.bound ≠ some id) → id ≠ m.reqId c → id ≠ m.rspId c → id ≠ m.piId c →
     Does canRxBindSpec (.canRxBind p) p s
      { acts := [.net]
        m := m.setCtl c fun q => { q with objs := upd q.objs n fun _ =>
          { bound := some id, secured := bit (getN b 4 1) 1, dedup := bit (getN b 4 1) 0 } } }) ∧
    (let m := taken canRxBindSpec p s
     getN b 0 4 = 0xFFFFFFFF → Does canRxBindSpec (.canRxBind p) p s
      { acts := [.net], m := m.setCtl c fun q => { q with objs := upd q.objs n fun _ => {} } }) ∧
    (let m := taken canRxReadSpec p s
     let i := getN b 0 1
     let named := (List.range 64).filter fun o => bit (getN b 4 8) o && (!bit (getN b 1 1) 1 || ((m.ctl i).objs.getD o {}).fresh)
     ∃ m', Does canRxReadSpec (.canRxRead p) p s
      { needs := [.net], data := (named.map fun o => rxEntry o ((m.ctl i).objs.getD o {})).flatten, m := m' } ∧
       (bit (getN b 1 1) 0 = false → m' = m) ∧
       (bit (getN b 1 1) 0 → ∀ o, o < 64 → (((m'.ctl i).objs.getD o {}).fresh, ((m'.ctl i).objs.getD o {}).lost) =
         if o ∈ named then (false, false) else (((m.ctl i).objs.getD o {}).fresh, ((m.ctl i).objs.getD o {}).lost))) ∧
    (let m := taken canTxSpec p s
     let fl := getN b 0 1
     let len := getN b 2 1
     let st := ((m.ctl c).buf n).state
     bit fl 6 = false → bit fl 4 = false → bit fl 3 = false ∨ bit fl 2 = true → bit fl 2 = false ∨ bit (m.canFlags c) 0 = true →
     idInRange (getN b 4 4) → lenOk (bit fl 2) len → getN b 1 1 ≤ 15 → (m.ctl c).carries → st ≠ .waiting → st ≠ .pending →
     Does canTxSpec (.canTx p) p s
      { acts := [.net]
        m := m.setCtl c fun q => { q with bufs := upd q.bufs n fun _ =>
          { state := .pending, frame := { id := getN b 4 4, fd := bit fl 2, brs := bit fl 3, data := (b.drop 20).take len }
            retry := getN b 1 1, notify := bit fl 5, secured := false, strict := bit fl 7, launch := (0, 0), late := false, since := m.now } } }) ∧
    (let m := taken canTxAbortSpec p s
     ((m.ctl c).buf n).state = .waiting → Does canTxAbortSpec (.canTxAbort p) p s
      { acts := [.net]
        m := (m.setCtl c fun q => { q with bufs := upd q.bufs n fun x => { x with state := .aborted, cause := 1, abortAsked := false } }).log
          evCanTxAborted tgModule [(c : Int), (n : Int), 1, (((m.ctl c).buf n).attempts : Int)] })

/-- The Ethernet rows and ring doorbells have their effect (R319, R387, R390, R392, R397, R398, R399, R400): For every state with a running network
island and port 0 or 1: a link its port's mode allows comes up with its speed; a frame with a wrong FCS counts and goes nowhere; before the
configuration is loaded, but not within 50 ms of VCTL, a frame passes unchanged to the other port when that has link, at once when it is free, else
from its queue; after it a frame of a VLAN the port is no member of is dropped and counted, and a new source address is learned; a unicast frame
whose address was learned at the other member port leaves there alone, at once when that port is free; an address unseen for AGE_TIME is forgotten;
with the window open the transmit doorbell reads the next descriptor again and, when the module owns a good one for a linked port, has its frame in
sending, else idles, and the receive doorbell ends the idling; without it neither does anything; a frame that has left completes its descriptor with
OWN clear and RESULT 0, and an ordered stop then stops the ring; a reassembly of 200 ms is dropped. -/
def Obligations.EthRowsRun : Prop :=
  ∀ (s : State) (t port : Nat), port < 2 → (s.then t).runs isNetwork →
    let m := s.then t
    let f frame := readFrame frame
    let vid frame := if (readFrame frame).tci % 4096 = 0 then m.pvid port else (readFrame frame).tci % 4096
    (∀ speed flags, m.linkAllowed port speed flags → Runs (.ethLinkChange t port true speed flags) s fun m' =>
      (m'.eth.port port).link = true ∧ (m'.eth.port port).speed = speed ∧ (m'.eth.port port).flags = flags) ∧
    (∀ sof res frame, (m.eth.port port).link → Gives (.ethFrameReceived t port sof res false frame) s (m.portError port false)) ∧
    (∀ sof res frame, (m.eth.port port).link → m.eth.configured = false →
      let early := (m.reset.cause = 1 ∨ m.reset.cause = 2) ∧ m.now < m.reset.resetEndAt + ms 40
      Runs (.ethFrameReceived t port sof res true frame) s fun m' =>
        (m'.eth.port port).rx = ((m.eth.port port).rx + 1) % 2 ^ 32 ∧
        ((m.eth.port (1 - port)).link = false ∨ early → m'.eth.out = m.eth.out ∧ m'.eth.queued = m.eth.queued) ∧
        ((m.eth.port (1 - port)).link → ¬ early → m.eth.queued = [] →
          (m.eth.freeAt (1 - port) ≤ m.now → m'.eth.out = m.eth.out ++ [(1 - port, (f frame).queue, frame)] ∧ m'.eth.queued = [] ∧
            (m'.eth.port (1 - port)).tx = ((m.eth.port (1 - port)).tx + 1) % 2 ^ 32) ∧
          (m.now < m.eth.freeAt (1 - port) → m'.eth.out = m.eth.out ∧
            m'.eth.queued = if Config.queueDepth = 0 then [] else [{ port := 1 - port, prio := (f frame).queue, bytes := frame, since := m.now }]))) ∧
    (∀ sof res frame, (m.eth.port port).link → m.eth.configured → bit (m.vlan (vid frame)).1 port = false →
      Runs (.ethFrameReceived t port sof res true frame) s fun m' => m'.eth.out = m.eth.out ∧
        (m'.eth.port port).drops = sat max32 (m.eth.port port).drops ∧ m'.eth.learned = m.eth.learned) ∧
    (∀ sof res frame, (m.eth.port port).link → m.eth.configured → bit (m.vlan (vid frame)).1 port → bit (f frame).src 0 = false →
      (∀ x ∈ m.eth.learned, ¬ (x.vid = vid frame ∧ x.mac = (f frame).src)) → m.eth.learned.length < 1024 →
      Stores (.ethFrameReceived t port sof res true frame) s fun m' _ =>
        m'.eth.learned = m.eth.learned ++ [{ vid := vid frame, mac := (f frame).src, port, seen := m.now }]) ∧
    (∀ sof res frame x, (m.eth.port port).link → m.eth.configured → bit (m.vlan (vid frame)).1 port → bit (m.vlan (vid frame)).1 (1 - port) →
      (m.eth.port (1 - port)).link → ptpOffset (f frame) = none → (f frame).dst ≠ Config.macBase → (f frame).group = false →
      (m.eth.learned.find? fun y => y.vid == vid frame && y.mac == (f frame).dst) = some x → x.port = 1 - port → (f frame).src ≠ (f frame).dst →
      m.eth.queued = [] → m.eth.freeAt (1 - port) ≤ m.now → Runs (.ethFrameReceived t port sof res true frame) s fun m' =>
        m'.eth.out = m.eth.out ++ [(1 - port, (f frame).queue, m.egressBytes (vid frame) (1 - port) (f frame))]) ∧
    (∀ v mac, Gives (.ethAddressAged t v mac) s (m.setEth fun e => { e with
      learned := e.learned.filter fun x => !(x.vid == v && x.mac == mac && decide (x.seen + seconds (m.cfg (ethCfg + 72) 2) ≤ m.now)) })) ∧
    (let r := m.eth.tx
     let d := s.mem.ringDesc r.addr
     m.windowOpen → m.eth.configured → r.idle → r.count ≠ 0 → r.sending = none →
      (bit d.1 31 = false → Gives (.doorbellEthTx t) s (m.setEth fun e => { e with tx := { e.tx with told := 0 } })) ∧
      (bit d.1 31 → bitsAt d.1 4 2 = 1 → m.eth.port1.link → 60 ≤ d.2.2 → d.2.2 ≤ 1518 → bufOk d.2.1 d.2.2 → m.host.damaged = [] →
        Gives (.doorbellEthTx t) s (m.setEth fun e => { e with
          tx := { e.tx with told := s.mem.owned r.count r, idle := false, sending := some (d.1, s.mem.bytes d.2.1 d.2.2) } }))) ∧
    (m.windowOpen = false → Gives (.doorbellEthTx t) s m ∧ Gives (.doorbellEthRx t) s m) ∧
    (m.windowOpen → Gives (.doorbellEthRx t) s (m.setEth fun e => { e with rx := { e.rx with idle := false } })) ∧
    (∀ sof ctrl b, m.eth.tx.sending = some (ctrl, b) → ctrl < 2 ^ 32 → bitsAt ctrl 4 2 = 1 → m.eth.tx.stopping ≠ [] →
      Stores (.ethTxComplete t sof) s fun m' mem' => m'.eth.tx = {} ∧
        ((∀ x ∈ m.interp.inflight, x.replyTo.transport ≠ .ethernet) → m'.eth.portH.rx = (m.eth.portH.rx + 1) % 2 ^ 32) ∧
        (s.memOk → leNat (mem'.bytes m.eth.tx.addr 4) = ctrl % 2 ^ 31 / 2 ^ 24 * 2 ^ 24 + ctrl % 2 ^ 16)) ∧
    (∀ src ident, Gives (.udpReassemblyTimeout t src ident) s (m.setEth fun e => { e with
      reasm := e.reasm.filter fun x => !(x.key == (src, ident) && decide (x.since + ms 200 ≤ m.now)) }))

/-- ETH_RING_SET, ETH_TOPO_SET, commands by UDP and the door process images have their effect (R319, R383, R395, R400, R401): For every state and packet
that passes every check: ETH_RING_SET defines a stopped ring that fits the window, and stops one with no frame in sending; ETH_TOPO_SET sets both
topography counters. For every state: a UDP datagram of a served port is delivered as a packet; at its period a controller in NORMAL with an
unsecured image on duty queues the 64-byte image with the next SEQ; and TRDP publishes it with the next sequence counter. -/
def Obligations.EthCommandsDo : Prop :=
  (∀ (s : State) (p : Packet), let b := commandPart p
    (let m := taken ethRingSetSpec p s
     let r := if getN b 0 1 = 0 then m.eth.tx else m.eth.rx
     1 ≤ getN b 2 2 → getN b 2 2 ≤ 256 → getN b 4 4 % 32 = 0 → getN b 4 4 + 32 * getN b 2 2 ≤ 0x40000 → r.count = 0 →
     Does ethRingSetSpec (.ethRingSet p) p s
      { acts := [.net]
        m := m.setEth fun e =>
          if getN b 0 1 = 0 then { e with tx := { base := getN b 4 4, count := getN b 2 2, idle := true } }
          else { e with rx := { base := getN b 4 4, count := getN b 2 2, idle := false } } }) ∧
    (let m := taken ethRingSetSpec p s
     let r := if getN b 0 1 = 0 then m.eth.tx else m.eth.rx
     getN b 2 2 = 0 → getN b 4 4 % 32 = 0 → getN b 4 4 ≤ 0x40000 → r.sending = none → Does ethRingSetSpec (.ethRingSet p) p s
      { acts := [.net], m := m.setEth fun e => if getN b 0 1 = 0 then { e with tx := {} } else { e with rx := {} } }) ∧
    (let m := taken ethTopoSetSpec p s
     Does ethTopoSetSpec (.ethTopoSet p) p s
      { acts := [.net], m := m.setEth fun e => { e with etbTopo := getN b 0 4, opTopo := getN b 4 4 } })) ∧
  ∀ (s : State) (t : Nat), let m := s.then t
    (∀ src port ident data, m.ethRuns → bit m.ethFlags 0 → Gives (.udpDatagramReceived t src port ident data) s
      ((m.setEth fun e => { e with reasm := e.reasm.filter (·.key != (src, ident)) }).deliver .ethernet (src, port) data)) ∧
    (∀ c, c < 2 → (m.ctl c).carries → m.configured → m.piId c ≠ 0xFFFFFFFF → (m.ctl c).piAt + ms (m.cfg (canCfg c + 28) 2) ≤ m.now →
      bit (m.canFlags c) 4 = false → m.notOnDuty = false → (m.ctl c).piBuf = none → Runs (.canPiPeriod t c) s fun m' =>
        (m'.ctl c).piSeq = ((m.ctl c).piSeq + 1) % 65536 ∧ (m'.ctl c).piAt = m.now ∧
        (m'.ctl c).piBuf = some ({ id := m.piId c, fd := true, brs := true
                                   data := m.processImage (((m.ctl c).piSeq + 1) % 65536) ++ zeros 12 }, 0)) ∧
    (bit m.ethFlags 1 → m.hostLink → m.reset.phase = .ready → m.ethRuns → m.eth.pdAt + ms (m.cfg (ethCfg + 28) 2) ≤ m.now →
      bit m.ethFlags 2 = false → m.notOnDuty = false → Runs (.trdpPdPeriod t true) s fun m' =>
        m'.eth.pdSeq = (m.eth.pdSeq + 1) % 2 ^ 32 ∧ m'.eth.dsSeq = (m.eth.dsSeq + 1) % 65536 ∧ m'.eth.pdAt = m.now ∧
        m'.eth.pd = some (m.pdHeader ((m.eth.pdSeq + 1) % 2 ^ 32) ++ (m.processImage ((m.eth.dsSeq + 1) % 65536) ++ zeros 12)) ∧
        (∀ b, m.eth.pd = some b → m'.out = m.out ++ [{ transport := .ethernet, dest := (m.cfg (ethCfg + 20) 4, 17224), bytes := b }]))

/-- A channel starts, paces, completes and stops; a bus error halts the engine (R403, R407, R408, R410, R413, R414, R415, R416, R417, R418): For every
state with canonical memory, channel below 16 and running engine: a channel that is to read its descriptor and finds OWN clear is STARVED; a good
unpaced one without a list starts; one with a format error is written back with BYTE_COUNT 0, OWN clear and BAD_FORMAT, in ERROR, or IDLE when a
stop waited; a waiting channel whose queue reached its watermark goes on; a finished one is written back: BYTE_COUNT, TSTAMP under STAMP,
CTRL_STATUS with OWN clear, and no other byte; the channel is then IDLE after END, else goes to NEXT, stops at LAP_END or where CV_STOP asked; a
doorbell in an open window makes a starved one read again. An access without response halts every channel, the recorder's own ones too, with cause
NO_RESPONSE and ABORT_HALT, a trace word's bytes before it moved, when it is not the descriptor's last; an error before the end likewise with cause
1, one after it with ERR_TAIL; further errors are counted. -/
def Obligations.CulvertRowsRun : Prop :=
  ∀ (s : State) (t c : Nat), c < 16 → s.memOk →
    let m := s.then t
    let q := m.chan c
    let a := q.descAddr
    let word (mem : Memory) o := leNat (mem.bytes (a + o) 4)
    let d0 : Desc := { ctrl := word s.mem 0, count := word s.mem 4 % 2 ^ 24, src := word s.mem 8, dst := word s.mem 12
                       next := word s.mem 16, sgl := [] }
    let good := descFormatOk d0 (word s.mem 4) (word s.mem 20) (leNat (s.mem.bytes (a + 24) 2)) (leNat (s.mem.bytes (a + 26) 2))
    (m.cvRuns → q.due → m.host.damaged = [] →
      (bit d0.ctrl 31 = false → Runs (.cvDescriptorStart t c) s fun m' =>
        (m'.chan c).state = .starved ∧ (m'.chan c).due = false ∧ (m'.chan c).descAddr = a) ∧
      (bit d0.ctrl 31 → d0.gather = false → d0.scatter = false →
        (good → d0.pace = 0 → Gives (.cvDescriptorStart t c) s (m.setChan c fun q =>
          { q with state := .running, due := false, desc := some d0, moved := 0, flowing := true })) ∧
        (good = false → Stores (.cvDescriptorStart t c) s fun m' mem' => (m'.chan c).state = (if q.stops = [] then .error else .idle) ∧ (m'.chan c).desc = none ∧
          word mem' 0 = 2 ^ 24 + d0.ctrl % 2 ^ 24 ∧ word mem' 4 = 0))) ∧
    (∀ d, m.cvRuns → q.desc = some d → d.pace ≠ 0 → q.flowing = false → q.state = .waiting →
      min q.high ((d.count - q.moved + 3) / 4) ≤ m.paceLevel d →
      Gives (.cvPaceReady t c) s (m.setChan c fun q => { q with flowing := true, state := .running })) ∧
    (∀ d, m.cvRuns → q.desc = some d → d.count ≤ q.moved → q.sinkBad = false → d.count < 2 ^ 24 →
      Stores (.cvDescriptorComplete t c) s fun m' mem' =>
        word mem' 0 = d.ctrl % 2 ^ 24 ∧ word mem' 4 = d.count ∧ (bit d.ctrl 13 → word mem' 28 = m.count % 2 ^ 32) ∧
        (∀ x, x < a ∨ (a + 8 ≤ x ∧ (x < a + 28 ∨ bit d.ctrl 13 = false)) ∨ a + 32 ≤ x → mem'.read x = s.mem.read x) ∧
        (m'.chan c).desc = none ∧ (m'.chan c).descriptors = (q.descriptors + 1) % 2 ^ 32 ∧
        (q.state = .stopping → (m'.chan c).state = .idle ∧ (m'.chan c).descAddr = if bit d.ctrl 12 then a else d.next) ∧
        (q.state ≠ .stopping → bit d.ctrl 12 → (m'.chan c).state = .idle) ∧
        (q.state ≠ .stopping → bit d.ctrl 12 = false → d.next ≠ q.start →
          (m'.chan c).state = .running ∧ (m'.chan c).descAddr = d.next ∧ (m'.chan c).due) ∧
        (q.state ≠ .stopping → bit d.ctrl 12 = false → d.next = q.start → (m'.chan c).laps = min max16 (q.laps + 1) ∧
          ((m'.chan c).state = .lapEnd ↔ q.lapLimit ≠ 0 ∧ q.lapLimit ≤ min max16 (q.laps + 1)))) ∧
    (m.cvRuns → q.state = .starved → Gives (.doorbellCv t c) s (if m.windowOpen then m.setChan c fun q => { q with due := true } else m)) ∧
    (∀ x d, m.cvRuns → q.desc = some d → d.count < 2 ^ 24 → (∀ k, k ≠ c → (m.chan k).desc = none) → m.cvSilent q = some x →
      q.moved + m.cvPartBytes q < d.count →
      Stores (.cvAccessTimeout t c none) s fun m' mem' => m'.cv.halted ∧ m'.cv.halt.cause = 2 ∧ m'.cv.halt.channel = c ∧
        m'.cv.halt.failAddr = x ∧ (∀ y ∈ m'.cv.chans, y.state = .halted ∧ y.desc = none) ∧ m'.recd.cv14Halted ∧ m'.recd.cv15Halted ∧
        word mem' 0 = 2 ^ 29 + d.ctrl % 2 ^ 24 ∧ word mem' 4 = q.moved + m.cvPartBytes q) ∧
    (∀ x d, m.cvRuns → q.desc = some d → d.count < 2 ^ 24 → q.moved ≤ d.count → (∀ k, k ≠ c → (m.chan k).desc = none) →
      Stores (.cvBusError t c x none) s fun m' mem' => m'.cv.halted ∧ m'.cv.halt.cause = (if q.moved < d.count then 1 else 3) ∧
        m'.cv.halt.failAddr = x ∧ (∀ y ∈ m'.cv.chans, y.state = .halted ∧ y.desc = none) ∧ m'.recd.cv14Halted ∧ m'.recd.cv15Halted ∧
        word mem' 0 = (if q.moved < d.count then 2 ^ 29 else 2 ^ 30) + d.ctrl % 2 ^ 24 ∧ word mem' 4 = q.moved) ∧
    (∀ x, m.runs isRecorder → m.cv.halted → Runs (.cvBusError t c x none) s fun m' =>
      m'.cv.halt = { m.cv.halt with errors := min max16 (m.cv.halt.errors + 1) })

/-- A burst between memory regions moves up to 64 bytes, unchanged, and writes nothing else (R405, R409): For every state with canonical memory in which
channel c is the next the engine serves: with an unpaced descriptor without a list, in INC mode on both sides, whose next n = min(64, bytes left)
source and destination bytes lie in memory regions and do not meet, CV_BURST makes the n destination bytes read as the source bytes read before,
leaves every other byte of memory and every other channel (once those whose queue fell to LOW wait), and counts the n bytes as moved. -/
def Obligations.CulvertBurstMovesItsBytes : Prop :=
  ∀ (s : State) (t c : Nat) (d : Desc), c < 16 → s.memOk →
    let m := s.then t
    let q := m.chan c
    let n := min 64 (d.count - q.moved)
    let src := d.src + q.moved
    let dst := d.dst + q.moved
    q.desc = some d → m.cvSettle.cvTurn = some c → m.host.damaged = [] → d.gather = false → d.scatter = false → bitsAt d.ctrl 10 2 = 0 →
      bitsAt d.ctrl 8 2 = 0 → d.pace = 0 → (∀ k, k < n → cvMemory (src + k) ∧ cvMemory (dst + k)) → (src + n ≤ dst ∨ dst + n ≤ src) →
      Stores (.cvBurst t c) s fun m' mem' => mem'.bytes dst n = s.mem.bytes src n ∧
        (∀ a, a < dst ∨ dst + n ≤ a → mem'.read a = s.mem.read a) ∧ mem'.wf ∧
        (m'.chan c).moved = q.moved + n ∧ (m'.chan c).bytes = (q.bytes + n) % 2 ^ 32 ∧ (m'.chan c).desc = some d ∧
        (∀ k, k ≠ c → m'.chan k = m.cvSettle.chan k)

/-- The culvert commands have their effect (R410, R412, R414, R415, R419, R423): For every state and packet that passes every check, on a host channel:
CV_START of an idle, failed or lap-ended channel takes its address, watermarks and lap limit and makes it read its descriptor; CV_STOP of a starved
or lap-ended channel is answered at once with the next descriptor's address and leaves it IDLE; of a channel in a descriptor it leaves it STOPPING
and the reply waits; CULVERT_CLEAR ends a halt and makes the host channels IDLE; CV_TRACE_SET sets an axis's trace, empties the queue it disables,
and answers drops and level. -/
def Obligations.CulvertCommandsDo : Prop :=
  ∀ (s : State) (p : Packet),
    let b := commandPart p
    let i := p.target % 256
    (let m := taken cvStartSpec p s
     let a := getN b 0 4
     a % 32 = 0 → cvDescRegion a → 1 ≤ getN b 4 2 → getN b 4 2 ≤ 1024 → getN b 6 2 < getN b 4 2 → i < 14 → m.cv.halted = false →
     (m.chan i).state = .idle ∨ (m.chan i).state = .error ∨ (m.chan i).state = .lapEnd → Does cvStartSpec (.cvStart p) p s
      { acts := [.recd]
        m := m.setChan i fun _ =>
          { state := .running, descAddr := a, start := a, high := getN b 4 2, low := getN b 6 2, lapLimit := getN b 8 2, due := true } }) ∧
    (let m := taken cvStopSpec p s
     let q := m.chan i
     i < 14 → q.state = .starved ∨ q.state = .lapEnd → Does cvStopSpec (.cvStop p) p s
      { acts := [.recd], data := leBytes 4 q.descAddr
        m := (m.setChan i fun q => { q with state := .idle, due := false, desc := none, flowing := false }).log evCvStopped (tgChan i)
          [(i : Int), (q.descAddr : Int)] }) ∧
    (let m := taken cvStopSpec p s
     i < 14 → (m.chan i).state = .running → (m.chan i).due = false → Does cvStopSpec (.cvStop p) p s
      { acts := [.recd], wait := true, m := m.setChan i fun q => { q with state := .stopping, stops := q.stops ++ [m.interp.nextRef] } }) ∧
    (let m := taken culvertClearSpec p s
     m.cv.halted → Does culvertClearSpec (.culvertClear p) p s
      { acts := [.recd]
        m := { m with cv := { m.cv with
          halted := false
          chans := (m.cv.chans.take 14).map (fun q => { q with state := .idle }) ++ m.cv.chans.drop 14 } } }) ∧
    (let m := taken cvTraceSetSpec p s
     let q := m.cv.traces.getD i {}
     getN b 0 2 ≠ 0 → Does cvTraceSetSpec (.cvTraceSet p) p s
      { acts := [.recd], data := leBytes 4 q.drops ++ leBytes 2 q.words.length
        m := { m with cv := { m.cv with traces := upd m.cv.traces i fun q =>
          { on := bit (getN b 2 1) 0, div := getN b 0 2, words := if bit (getN b 2 1) 0 then q.words else [], drops := 0 } } } })

/-- The recorder's rows have their effect (R412, R419, R425, R426, R430, R435, R439, R440, R451, R452): For every state with a running recorder: a
queued event becomes one record for each 28 bytes of its data, with the next keys; a half is flushed 1 s after its first record; a burst of CV14
moves 64 bytes of it; a finished flush puts the records in their regions and saves SEQ (the other half staying in the buffer unless it is full); a
retired block is counted; operating time is saved; a burst of CV15 stores up to 64 bytes of the next readout chunk in the half whose turn it is and
changes no other byte; when all of it is stored the turn goes to the other half, and the last chunk ends the readout; so do 60 s without
LOG_READ_NEXT; CV14 and CV15 resume 1 ms after a halt, what they moved being moved again; a trace sample is queued DIV x 20 us after the last, or
dropped and counted when the queue is full; each running axis not DISABLED adds a sample to its history and a collecting snapshot counts it; after
500 later samples the snapshot is held with its header. -/
def Obligations.RecorderRowsRun : Prop :=
  ∀ (s : State) (t : Nat), (s.then t).runs isRecorder →
    let m := s.then t
    let r := m.recd
    (∀ e rest, r.waiting = [] → r.queue = e :: rest → m.recTakes r (64 * e.parts) → r.producers = [] → r.drops = 0 → r.seq < 2 ^ 32 →
      e.snapshots = false → notifying.contains e.code = false → Runs (.recordTakeIn t) s fun m' =>
        m'.recd.queue = rest ∧ m'.recd.seq = (r.seq + e.parts) % 2 ^ 32 ∧
        (m'.recd.flushing ++ m'.recd.buf).getLast? = some {
          key := { op := m.opTime, cycle := r.cycle, seq := (r.seq + e.parts - 1) % 2 ^ 32 }
          body := .event e (e.parts - 1) }) ∧
    (∀ b, r.bufAt = some b → b + seconds 1 ≤ m.now → r.failFlushAt = none → r.flushBusy = false → r.buf ≠ [] →
      Gives (.recordFlushTimer t) s (m.setRec fun r =>
        { r with flushing := r.buf, flushBusy := true, flushLeft := r.bufBytes, buf := [], bufBytes := 0, bufAt := none })) ∧
    ((m.chan 14).desc = none → m.cvSettle.cvTurn = some 14 → Runs (.cvBurst t 14) s fun m' =>
      m'.recd = { r with flushLeft := r.flushLeft - min 64 r.flushLeft }) ∧
    (r.flushBusy → r.flushLeft = 0 → r.cv14Halted = false → r.failFlushAt = none → r.readout = none → r.bufBytes ≠ 65536 →
      (r.cycles ++ r.flushing.filter Rec.isCycle).length * 64 ≤ r.cycleMib * 1048576 → Runs (.nandFlushDone t) s fun m' =>
        m'.recd.flushing = [] ∧ m'.recd.flushBusy = false ∧ m'.recd.seqSaved = r.seq ∧ m'.recd.buf = r.buf ∧
        m'.recd.cycles = r.cycles ++ r.flushing.filter Rec.isCycle ∧
        ((r.events ++ r.flushing.filter Rec.isEvent).length ≤ 8388608 →
          m'.recd.events = r.events ++ r.flushing.filter Rec.isEvent)) ∧
    (∀ region block cause, Runs (.nandBlockFailure t region block cause) s fun m' => m'.recd.retired = min max16 (r.retired + 1)) ∧
    Gives (.opTimeSave t) s (m.setRec fun r => { r with opRecs := .both m.opTime }) ∧
    (∀ o, r.readout = some o → (m.chan 15).desc = none → m.cvSettle.cvTurn = some 15 →
      let left := (m.nextChunk o).1.drop o.moved
      let n := min 64 left.length
      let a := o.bufAddr + o.half * o.halfSize + o.moved
      Stores (.cvBurst t 15) s fun m' mem' => m'.recd = { r with readout := some { o with moved := o.moved + n } } ∧
        (∀ b, b < a ∨ a + n ≤ b → mem'.read b = s.mem.read b) ∧ (s.memOk → mem'.bytes a n = left.take n)) ∧
    (∀ o, r.readout = some o → r.cv15Halted = false → o.waiting = none → bit o.free o.half → o.half < 2 →
      let x := m.nextChunk o
      (o.moved < x.1.length → Gives (.logChunkDone t) s m) ∧
      (o.moved = x.1.length → Runs (.logChunkDone t) s fun m' => (x.2.1 → m'.recd.readout = none) ∧
        (x.2.1 = false → o.stop = false → ∃ o', m'.recd.readout = some o' ∧ o'.chunk = (o.chunk + 1) % 2 ^ 32 ∧ o'.half = 1 - o.half ∧
          bit o'.filled o.half ∧ bit o'.free o.half = false))) ∧
    (∀ o, r.readout = some o → o.waiting = none → o.lastNext + seconds 60 ≤ m.now → Runs (.logReadTimeout t) s fun m' =>
      m'.recd.readout = none) ∧
    (∀ h, m.cv.haltAt = some h → h + ms 1 ≤ m.now → Gives (.cvRecorderResume t) s { m with
      cv := { m.cv with haltAt := none, chans := m.cv.chans.take 14 ++ (m.cv.chans.drop 14).map fun q => { q with state := .idle } }
      recd := { r with cv14Halted := false, cv15Halted := false, flushLeft := if r.flushBusy then recBytesSum r.flushing else 0
                       readout := r.readout.map fun o => { o with moved := 0 } } }) ∧
    (∀ axis q, axis < 8 → m.cv.traces[axis]? = some q → q.on → m.runs (axisIsland axis) →
      let n := m.cvSettle
      let due := ∀ b, q.lastAt = some b → b + q.div * 20000 ≤ m.now
      (¬ due → Gives (.traceSample t axis) s m) ∧
      (due → q.words.length + 4 ≤ 1024 → Gives (.traceSample t axis) s { n with
        cv := { n.cv with traces := upd n.cv.traces axis fun q => { q with lastAt := some n.now, words := q.words ++ n.sampleWords axis } } }) ∧
      (due → 1024 < q.words.length + 4 → Runs (.traceSample t axis) s fun m' =>
        m'.cv.traces[axis]? = some { q with lastAt := some m.now, drops := min max32 (q.drops + 1) })) ∧
    (r.failFlushAt = none → Runs (.snapshotSample t) s fun m' =>
      (∀ a h, a < 8 → m.populated a → m.axisMode a ≠ 0 → m.runs (axisIsland a) → r.history[a]? = some h →
        m'.recd.history[a]? = some (lastN 2000 (h ++ [m.sampleWords a]))) ∧
      (∀ o, r.collecting = some o → o.post < 500 → m'.recd.collecting.map (·.post) = some (o.post + 1))) ∧
    (∀ o, r.collecting = some o → 500 ≤ o.post → r.failFlushAt = none → r.cv15Halted = false → Runs (.snapshotCollectDone t) s fun m' =>
      m'.recd.collecting = none ∧ ∃ d ∈ m'.recd.snaps, d.slot = o.slot ∧ d.key = o.key ∧
        d.header = m.snapshotHeader o (m.sampledAxes.map fun a => 2 ^ a).sum)

/-- The readout and snapshot commands have their effect (R439, R451): For every state and packet that passes every check: LOG_READ in range with no
readout running fixes TO_KEY, the last key when it is open or beyond it, opens the readout with both halves free and is answered with it, at once
when nothing waits in the buffer; LOG_READ_NEXT returns a filled half; LOG_READ_STOP ends the readout at once when no half is being filled, else
after the chunk in work; SNAPSHOT_TRIGGER starts a snapshot of the history under the next slot and key. -/
def Obligations.RecorderCommandsDo : Prop :=
  ∀ (s : State) (p : Packet),
    let b := commandPart p
    (let m := taken logReadSpec p s
     let r := m.recd
     let toRaw := (b.drop 20).take 16
     let open_ : Bool := toRaw == List.replicate 16 (0xFF : Byte)
     let last : Bool := open_ || !(readKey toRaw).le r.lastKey
     let toKey := if last then r.lastKey else readKey toRaw
     getN b 36 4 % 8 = 0 → getN b 40 4 % 64 = 0 → 4096 ≤ getN b 40 4 → getN b 40 4 ≤ 65536 → getN b 36 4 + 2 * getN b 40 4 ≤ 0x40000 →
     (open_ ∨ readKey (b.drop 4) = ⟨0, 0, 0⟩ ∨ (readKey (b.drop 4)).le (readKey toRaw)) → r.readout = none → r.failFlushAt = none → r.cv15Halted = false →
     r.flushBusy = false → Does logReadSpec (.logRead p) p s
      { acts := [.recd], wait := r.buf != [], data := m.keyBytes toKey
        m := m.setRec fun r => { r with
          readout := some { region := getN b 0 1, fromKey := readKey (b.drop 4), toKey, bufAddr := getN b 36 4, halfSize := getN b 40 4
                            lastNext := m.now, waiting := if r.buf != [] then some m.interp.nextRef else none }
          flushing := if r.buf != [] then r.buf else r.flushing
          flushBusy := r.buf != []
          flushLeft := if r.buf != [] then r.bufBytes else r.flushLeft
          buf := []
          bufBytes := if r.buf != [] then 0 else r.bufBytes
          bufAt := if r.buf != [] then none else r.bufAt } }) ∧
    (let m := taken logReadNextSpec p s
     ∀ o, m.recd.readout = some o → bit o.filled (getN b 0 1) → Does logReadNextSpec (.logReadNext p) p s
      { acts := [.recd]
        m := m.setRec fun r => { r with
          readout := some { o with
            filled := setBit o.filled (getN b 0 1) false, free := setBit o.free (getN b 0 1) true, lastNext := m.now } } }) ∧
    (let m := taken logReadStopSpec p s
     ∀ o, m.recd.readout = some o →
      (bit o.free o.half = false → o.waiting = none → ∃ m', Does logReadStopSpec (.logReadStop p) p s
        { acts := [.recd], data := leBytes 4 o.chunk, m := m' } ∧ m'.recd.readout = none) ∧
      (bit o.free o.half → Does logReadStopSpec (.logReadStop p) p s
        { acts := [.recd], wait := true
          m := m.setRec fun r => { r with
            readout := some { o with stop := true, stopRefs := o.stopRefs ++ [m.interp.nextRef] } } })) ∧
    (let m := taken snapshotTriggerSpec p s
     let r := m.recd
     r.collecting = none → r.failFlushAt = none → r.cv15Halted = false → Does snapshotTriggerSpec (.snapshotTrigger p) p s
      { acts := [.recd], data := leBytes 1 r.nextSlot
        m := m.setRec fun r => { r with
          seq := (r.seq + 1) % 2 ^ 32, lastKey := { op := m.opTime, cycle := r.cycle, seq := r.seq }, nextSlot := (r.nextSlot + 1) % 22
          collecting := some { key := { op := m.opTime, cycle := r.cycle, seq := r.seq }, time := m.stamp, quality := m.time.quality.code
                               slot := r.nextSlot, trigger := none, blocks := r.history
                               pre := (r.history.map List.length).foldl max 0 } } })

/-- The lease is renewed, acknowledged, lapsed, taken and given (R457, R458, R462, R463, R464, R466, R467, R468, R469, R470): For every state of a
paired module whose levee link runs: a holder sends RENEW with the next number and a searching unit HELLO; a unit off duty acknowledges a RENEW and
keeps its view of the lease; an ACK in time moves the holder's lease end to the sending of that RENEW plus LEASE_MS; the preferred of two armed
searching units sends CLAIM, the other follows as UNFIT; a standby takes duty on RELINQUISH; a holder goes on as SOLO after LEAVE, 1 ms after its
own fence, or after silence; 2 ms before its lease end a holder lapses; a standby takes duty 2 ms after its view of the lease has ended, fences its
partner and counts; a fence lasts 100 ms; a loop fault ends FENCE_OK; a port changes. -/
def Obligations.LeaseRowsRun : Prop :=
  ∀ (s : State) (t : Nat), let m := s.then t
    let x := m.pair
    let sent (m' : ModuleState) kind := ∃ n, m'.pair.out = x.out ++
      [(0, { src := x.id, dest := m.partnerId, seq := x.ownSeq, body := .lease kind (m'.leaseBytes kind n) })]
    m.paired → m.leveeRuns →
    (x.role = .duty ∨ x.role = .solo → x.sentAt + (if m.cfg (pairCfg + 2) 2 < 20 then m.leaseSpan / 4 else ms 5) ≤ m.now →
      Runs (.leaseRenewSend t) s fun m' => m'.pair.leaseNo = (x.leaseNo + 1) % 2 ^ 32 ∧ m'.pair.sentAt = m.now ∧
        m'.pair.renews = x.renews ++ [((x.leaseNo + 1) % 2 ^ 32, m.now)] ∧ sent m' 1) ∧
    (x.role = .searching → x.sentAt + ms 5 ≤ m.now → Runs (.helloSend t) s fun m' => m'.pair.sentAt = m.now ∧ sent m' 0) ∧
    (∀ msg : LeaseMsg, msg.digest = m.configDigest → msg.compat = m.compat →
      (x.role = .standby ∨ x.role = .unfit → Runs (.leaseRenewReceived t msg) s fun m' =>
        m'.pair.role = x.role ∧ m'.pair.partner = some msg.role ∧ m'.pair.heardAt = some m.now ∧ m'.pair.leaseNo = msg.leaseNo ∧
        m'.pair.leaseView = some (m.now + m.leaseSpan) ∧ sent m' 2) ∧
      (∀ n at_, x.role = .duty → (x.renews.find? fun r => r.1 == msg.leaseNo) = some (n, at_) →
        Runs (.leaseAckReceived t msg) s fun m' => m'.pair.role = .duty ∧ m'.pair.leaseEnd = some (at_ + m.leaseSpan) ∧
          m'.pair.renews = x.renews.filter fun r => at_ < r.2) ∧
      (x.role = .searching → msg.role = .searching → msg.armed → m.preferred → x.claimed = false →
        Runs (.helloReceived t msg) s fun m' => m'.pair.role = .searching ∧ m'.pair.claimed ∧ sent m' 3) ∧
      (x.role = .searching → x.discordant = none → Runs (.claimReceived t msg) s fun m' => m'.pair.role = .unfit ∧ sent m' 2) ∧
      (∀ cause e, x.role = .standby → m.reset.armed → x.testFailed = false → Runs (.relinquishReceived t msg cause e) s fun m' =>
        m'.pair.role = .duty ∧ m'.pair.dutyAt = m.now ∧ m'.pair.checkAt = some m.now) ∧
      (x.role = .duty → Runs (.leaveReceived t msg) s fun m' => m'.pair.role = .solo ∧ m'.pair.leaseEnd = none ∧ m'.pair.partner = none)) ∧
    (∀ msg : LeaseMsg, msg.digest ≠ m.configDigest → x.discordant = none → x.role = .duty → Runs (.leaseRenewReceived t msg) s fun m' =>
      m'.pair.role = .solo ∧ m'.pair.discordant = some 0) ∧
    (∀ e, x.leaseEnd = some e → x.role = .duty → e ≤ m.now + ms 2 → Runs (.leaseLapse t) s fun m' =>
      m'.pair.role = .lapsed ∧ m'.pair.leaseEnd = none ∧ m'.pair.partner = none ∧ m'.pair.soloAt = if m.fenceOk then some m.now else none) ∧
    (∀ a, x.role = .lapsed → x.soloAt = some a → a + ms 1 ≤ m.now → Runs (.fenceSoloDelay t) s fun m' =>
      ∃ m0 : ModuleState, m' = m0.takeUp false ∧ m0.pair.role = .solo ∧ m0.pair.dutyAt = m.now ∧ m0.pair.soloAt = none) ∧
    (∀ a, x.role = .standby → m.reset.armed → m.fenceOk → x.leaseView = some a → a + ms 2 ≤ m.now →
      Runs (.leaseExpiryTakeover t) s fun m' => ∃ m0 : ModuleState, m' = m0.takeUp true ∧ m0.pair.role = .duty ∧ m0.pair.dutyAt = m.now ∧
        m0.pair.takeovers = min max16 (x.takeovers + 1) ∧ m0.pair.partner = none ∧
        (∀ n ∈ m.facing, (x.port n).fenceOk → (m0.pair.port n).fenceOut = some m.now) ∧
        m0.can.map (·.piSeq) = m.can.map (fun c => (c.piSeq + 256) % 65536) ∧ m0.eth.dsSeq = (m.eth.dsSeq + 256) % 65536) ∧
    (x.role = .searching → m.reset.armed → m.fenceOk → x.fenced = false →
      max x.searchAt (x.heardAt.getD 0) + ms (if m.preferred then 100 else 200) ≤ m.now → Runs (.searchSilenceTimeout t) s fun m' =>
        ∃ m0 : ModuleState, m' = m0.takeUp false ∧ m0.pair.role = .solo ∧ m0.pair.dutyAt = m.now) ∧
    ∀ link, link = 1 ∨ link = 2 →
      (∀ a, (x.port link).fenceOut = some a → a + ms 100 ≤ m.now → Gives (.fenceOutputEnd t link) s
        (m.setPair fun x => x.setPort link fun q => { q with fenceOut := none })) ∧
      ((x.port link).fenceOk → (x.port link).fenceOut = none → Runs (.fenceWireFault t link) s fun m' =>
        (m'.pair.port link).fenceOk = false) ∧
      (∀ up, (x.port link).up ≠ up → Runs (.leveePortChange t link up) s fun m' => (m'.pair.port link).up = up) ∧
      (∀ delay offset q, x.role = .duty ∨ x.role = .solo ∨ m.reset.armed = false → Gives (.leveeDelayMeasure t link delay true offset q) s
        (m.setPair fun x => x.setPort link fun y => { y with delay }))

/-- Members compare, arbitrate and mirror (R471, R472, R473, R478, R479, R480): For every state of a paired module whose levee link runs: matching
vectors end the mismatch run; the COMPARE_Nth mismatch in a row of an item opens, between a standby and its duty unit, an arbitration of 5
comparisons over it and counts; its last comparison with equal verdicts sets DISCORD, and a standby that alone disagrees becomes UNFIT; 10 s without
a mismatch end DISCORD; a holder closes an epoch of the mirrored items under the next number and sends its commit; a full or following epoch with a
good CRC becomes current; one with a bad CRC is discarded and a full one wanted, as is a partial one after 2 ms; a unit that has seen a full epoch
and matched for 10 s is STANDBY. -/
def Obligations.MirrorRowsRun : Prop :=
  ∀ (s : State) (t : Nat), let m := s.then t
    let x := m.pair
    m.paired → m.leveeRuns →
    (∀ v own dis failed, x.role = .duty ∨ x.role = .standby → m.ownVector v.tick = some own → x.arb = none →
      (m.mismatching own v = [] → Runs (.comparisonVectorReceived t v dis failed) s fun m' =>
        m'.pair.mismatches = [] ∧ m'.pair.fitSince = some (x.fitSince.getD m.now) ∧ m'.pair.fitLast = m.now ∧ m'.pair.partnerTestFailed = failed) ∧
      (∀ k n, m.mismatching own v = [k] → x.mismatches = [(k, n)] → n < 50 → n + 1 = m.cfg (pairCfg + 4) 1 →
        x.role = .standby ∨ x.partner = some .standby → Runs (.comparisonVectorReceived t v dis failed) s fun m' =>
          m'.pair.arb = some (5, [(k, 0)]) ∧ m'.pair.fitSince = none ∧ m'.pair.arbitrations = min max16 (x.arbitrations + 1))) ∧
    (∀ v own failed k n, m.ownVector v.tick = some own → x.arb = some (1, [(k, n)]) →
      let off := disagrees (k, if m.witness own v k.1 k.2 then n + 1 else n)
      (x.role = .duty ∨ x.role = .standby → Runs (.comparisonVectorReceived t v off failed) s fun m' =>
        m'.pair.discord ∧ m'.pair.arb = none ∧ m'.pair.mismatches = []) ∧
      (x.role = .standby → off → Runs (.comparisonVectorReceived t v false failed) s fun m' => m'.pair.role = .unfit ∧ m'.pair.wantFull)) ∧
    (x.discord → x.mismatchAt + seconds 10 ≤ m.now → Runs (.discordTimeout t) s fun m' => m'.pair.discord = false) ∧
    (x.role = .duty ∨ x.role = .solo → x.discordant = none → x.epochAt + ms 1 ≤ m.now → Runs (.mirrorEpochClose t true) s fun m' =>
      m'.pair.epoch = (x.epoch + 1) % 2 ^ 32 ∧ m'.pair.lastSent = m.epochOf ((x.epoch + 1) % 2 ^ 32) ∧ m'.pair.epochAt = m.now ∧
      m'.pair.out = x.out ++ [(0, { src := x.id, dest := m.partnerId, seq := x.ownSeq, body := .commit ((x.epoch + 1) % 2 ^ 32) })]) ∧
    (∀ e (full : Bool), x.role = .standby ∨ x.role = .unfit →
      (full ∨ e.num = (x.epoch + 1) % 2 ^ 32 → Runs (.epochCommitReceived t e full true) s fun m' =>
        m'.pair.current = e ∧ m'.pair.epoch = e.num ∧ m'.pair.partialAt = none ∧ m'.pair.fullSeen = (x.fullSeen || full) ∧
        m'.profiles.active = e.slot ∧ m'.profiles.schedule = e.schedule) ∧
      Runs (.epochCommitReceived t e full false) s fun m' => m'.pair.epoch = x.epoch ∧ m'.pair.partialAt = none ∧ m'.pair.wantFull) ∧
    (∀ a, x.partialAt = some a → a + ms 2 ≤ m.now → Runs (.epochCommitTimeout t) s fun m' =>
      m'.pair.partialAt = none ∧ m'.pair.wantFull ∧ m'.pair.epoch = x.epoch) ∧
    (∀ a, x.role = .unfit → x.fullSeen → x.fitSince = some a → a + seconds 10 ≤ x.fitLast → m.reset.armed → Gives (.standbyFit t) s
      (m.setPair fun x => { x with role := .standby, standbySince := some m.now }))

/-- Duty is transferred as planned, and forwards end (R465, R484, R485, R486, R491): For every state of a paired module whose polder core and levee link
run: a planned transfer that need not wait leaves a holder with a fit partner STANDBY; ROTATE_DUE and REVERT_DUE plan one that waits; 5 ms after one
the check ends, and an axis latched by an open phase hands duty back; after 1 s of matching digests a discordant unit is concordant, a COLD one
UNFIT; a forward without a reply for 50 ms ends. -/
def Obligations.TransferRowsRun : Prop :=
  ∀ (s : State) (t : Nat), let m := s.then t
    let x := m.pair
    m.paired → m.leveeRuns →
    (∀ cause asked, x.planned = some (cause, false) → x.role = .duty → m.partnerFit → x.discord = false → Runs (.plannedTransfer t asked) s fun m' =>
      m'.pair.role = .standby ∧ m'.pair.planned = none ∧ m'.pair.leaseEnd = none ∧ m'.pair.dutyAt = m.now) ∧
    (x.role = .duty → bit (m.cfg (pairCfg + 1) 1) 2 → x.dutyAt + seconds (3600 * m.cfg (pairCfg + 6) 2) ≤ m.now → x.discord = false →
      m.partnerFit → x.planned = none → Gives (.rotateDue t) s (m.setPair fun x => { x with planned := some (3, true) })) ∧
    (∀ a, m.preferred → x.role = .standby → bit (m.cfg (pairCfg + 1) 1) 1 → x.lostDuty → x.discord = false → x.standbySince = some a →
      a + seconds (m.cfg (pairCfg + 12) 2) ≤ m.now → Gives (.revertDue t) s (m.setPair fun x => { x with planned := some (4, true) })) ∧
    (∀ a, x.checkAt = some a → a + ms 5 ≤ m.now →
      ((∀ k, (m.drive k).bridge ≠ .latched) → Gives (.transferCheckDone t) s (m.setPair fun x => { x with checkAt := none })) ∧
      (∀ k ∈ m.sharedAxes, (m.drive k).bridge = .latched → (m.drive k).fault.code = 5 → x.role = .duty →
        Runs (.transferCheckDone t) s fun m' => m'.pair.role = .standby ∧ m'.pair.checkAt = none)) ∧
    (∀ k a, x.discordant = some k → x.matchSince = some a → a + seconds 1 ≤ m.now → Runs (.discordantEnd t) s fun m' =>
      m'.pair.discordant = none ∧ m'.pair.role = if x.role = .cold then .unfit else x.role) ∧
    (∀ f, x.forwards = [f] → f.sent + ms 50 ≤ m.now → Runs (.forwardTimeout t f.seq) s fun m' => m'.pair.forwards = [])

/-- The pair commands have their effect (R465, R470, R473, R491, R492): For every state and packet that passes every check: DUTY_HANDOVER of a holder
with a fit and heard standby plans the transfer, answered DEFERRED when it waits for a safe moment; CLUSTER_FORWARD, an action of the levee-link
unit, hands the inner packet to its member and waits; DISCORD_CLEAR ends DISCORD; CLUSTER_SOLO lets a fenced searching unit take duty by silence. -/
def Obligations.PairCommandsDo : Prop :=
  ∀ (s : State) (p : Packet),
    let b := commandPart p
    (let m := taken dutyHandoverSpec p s
     m.pair.partner = some .standby → m.heard m.pair.heardAt → m.pair.discordant = none → m.pair.partnerTestFailed = false →
     m.pair.role = .duty ∨ m.pair.role = .solo → Does dutyHandoverSpec (.dutyHandover p) p s
      { status := if getN b 0 1 = 0 then stDeferred else stOk, acts := [.llu]
        m := m.setPair fun x => { x with planned := some (5, getN b 0 1 == 0) } }) ∧
    (let m := taken clusterForwardSpec p s
     let dest := if p.target % 256 ≠ 0xFF then p.target % 256 else if m.pair.role.holds then m.pair.id else m.partnerId
     getN b 2 2 ≠ 0x0D03 → Does clusterForwardSpec (.clusterForward p) p s
      { acts := [.llu], wait := true
        m := m.setPair fun x => { x with
          forwards := x.forwards ++ [{ ref := m.interp.nextRef, dest, sent := m.now, seq := x.ownSeq }]
          out := x.out ++ [(0, { src := x.id, dest, seq := x.ownSeq, body := .inner x.ownSeq b })], ownSeq := (x.ownSeq + 1) % 2 ^ 32 } }) ∧
    (let m := taken discordClearSpec p s
     m.pair.discord → Does discordClearSpec (.discordClear p) p s
      { acts := [.llu], m := (m.setPair fun x => { x with discord := false }).log evDiscord tgModule [1] }) ∧
    (let m := taken clusterSoloSpec p s
     m.pair.fenced → m.pair.role = .searching → Does clusterSoloSpec (.clusterSolo p) p s
      { acts := [.llu], m := m.setPair fun x => { x with soloAllowed := true } })

/-- The floodgate's own rows have their effect (R498, R501, R504, R508, R516, R518): For every state, of a running floodgate where it is its own work: a
session not confirmed for 5 s, or confirmed and past its lifetime, is gone; a tamper sensor that trips is set, counted, holds sessions back and
closes every one of them; after 10 s clear the trip ends; a transmit counter at 0xC000_0000 or above is reported; a probe sets or clears DEBUG_OPEN
before SEALED; a finished subtree build makes signing ready unless the module is RETIRED. -/
def Obligations.SecurityRowsRun : Prop :=
  ∀ (s : State) (t : Nat), let m := s.then t
    let x := m.sec
    (∀ num q, x.session num = some q →
      (q.active = false → q.since + seconds 5 ≤ m.now → Runs (.sessionConfirmTimeout t num) s fun m' =>
        m'.sec.sessions = x.sessions.filter (·.num != num)) ∧
      (q.active → q.since + seconds q.life ≤ m.now → Runs (.sessionExpiry t num) s fun m' =>
        m'.sec.sessions = x.sessions.filter (·.num != num))) ∧
    (m.runs isFloodgate → ∀ sensor, sensor < 2 → bit x.tripped sensor = false → Runs (.tamperTrip t sensor) s fun m' =>
      m'.sec.tripped = setBit x.tripped sensor true ∧ m'.sec.tamperCount = min max32 (x.tamperCount + 1) ∧
      m'.sec.heldBack = some m.now ∧ m'.sec.sessions = []) ∧
    (m.runs isFloodgate → ∀ h since, x.heldBack = some h → h ≤ since → since + seconds 10 ≤ m.now → Runs (.tamperCleared t since) s fun m' =>
      m'.sec.tripped = 0 ∧ m'.sec.heldBack = none) ∧
    (m.runs isFloodgate → ∀ ctl, ctl < 2 → 0xC0000000 ≤ x.fresh.getD ctl 0 → x.freshLowAt.getD ctl none = none → Runs (.freshnessLow t ctl) s fun m' =>
      m'.sec.freshLowAt = upd x.freshLowAt ctl fun _ => some m.now) ∧
    (∀ on, x.life = .blank ∨ x.life = .provisioned → Gives (.debugProbeAttached t on) s (m.setSec fun x => { x with debugOpen := on })) ∧
    (m.runs isFloodgate → x.life ≠ .retired → Gives (.subtreeBuildDone t) s (m.setSec fun x => { x with building := false, signReady := true }))

/-- The floodgate commands have their effect (R496, R502, R504, R505, R508, R512, R514, R520): For every state and packet that passes every check:
SESSION_OPEN in range for a present role key and the current KEM generation adds an unconfirmed session under the next number and signs its answer
with the next leaf; SESSION_CONFIRM with its H makes it ACTIVE; SESSION_CLOSE closes it; ATTEST and KEM_ROTATE sign with the next leaf, the latter
under a new generation; KEY_SET writes a role, group or signing key, erases a role key or revokes a vendor key that is not the last, a group key
coming with a new epoch and a freshness of 0; LIFECYCLE_ADVANCE along an allowed transition takes the new state and closes every session. -/
def Obligations.SecurityCommandsDo : Prop :=
  ∀ (s : State) (p : Packet),
    let b := commandPart p
    (let m := taken sessionOpenSpec p s
     let x := m.sec
     let role := Role.ofCode (getN b 0 1)
     let num := nextNum (x.sessions.map (·.num)) 17 x.lastNum
     let head := leBytes 2 num ++ zeros 2 ++ leBytes 32 (Config.freeValue m.free) ++ leBytes 4 (getN b 4 4) ++ leBytes 8 x.leafNext
     getN b 1 1 ≤ 3 → 60 ≤ getN b 4 4 → getN b 4 4 ≤ 86400 → x.life = .provisioned ∨ x.life = .sealed →
     (x.roleKeys.getD (4 * role.code + getN b 1 1) none).isSome → x.tripped = 0 → x.heldBack = none → getN b 8 4 = x.kemGen → x.kemOk →
     x.sessions.length < 16 → m.signFails = none → ∃ m', Does sessionOpenSpec (.sessionOpen p) p s
      { acts := [.fg], data := head ++ padTo 9893 (Config.sign x.leafNext (leBytes 32 (Config.shake256 (b ++ head) 32))), m := m' } ∧
       m'.sec.leafNext = x.leafNext + 1 ∧ m'.sec.lastNum = num ∧ m'.free = m.free + 1 ∧
       ∃ q, m'.sec.sessions = x.sessions ++ [q] ∧ q.num = num ∧ q.role = role ∧ q.slot = getN b 1 1 ∧ q.transport = p.transport ∧
         q.active = false ∧ q.life = getN b 4 4 ∧ q.since = m.now ∧ q.high = none) ∧
    (let m := taken sessionConfirmSpec p s
     ∀ q, m.sec.session p.session = some q → leNat b = q.h → q.active = false → ∃ m', Does sessionConfirmSpec (.sessionConfirm p) p s
      { acts := [.fg], m := m' } ∧ m'.sec.sessions = updIf m.sec.sessions (·.num == q.num) fun y => { y with active := true, since := m.now }) ∧
    (let m := taken sessionCloseSpec p s
     ∃ m', Does sessionCloseSpec (.sessionClose p) p s { acts := [.fg], m := m' } ∧
       m'.sec.sessions = m.sec.sessions.filter (·.num != p.session)) ∧
    (let m := taken attestSpec p s
     let body := padTo 32 b ++ m.secStatus ++ leBytes 32 m.configDigest ++ leBytes 2 m.compat ++
       m.keyBytes { op := m.opTime, cycle := m.recd.cycle, seq := m.recd.seq } ++ leBytes 8 m.sec.leafNext
     m.signFails = none → Does attestSpec (.attest p) p s
      { acts := [.fg], data := body ++ padTo 9893 (Config.sign m.sec.leafNext body), m := m.useLeaf }) ∧
    (let m := taken kemRotateSpec p s
     let gen := (m.sec.kemGen + 1) % 2 ^ 32
     m.signFails = none → Does kemRotateSpec (.kemRotate p) p s
      { acts := [.fg], data := leBytes 4 gen
        m := m.useLeaf.setSec fun x => { x with kemGen := gen, kemLeaf := m.sec.leafNext, kemOk := true } }) ∧
    (let m := taken keySetSpec p s
     let kind := getN b 0 1
     let which := getN b 1 1
     let slot := getN b 2 1
     let kw := ((m.sec.session p.session).map (·.kWrap)).getD 0
     let mask := Config.kmac256 (leBytes 32 kw) (leBytes 4 p.seq ++ leBytes 2 p.session) 256 "YL-D480 WRAP" % 2 ^ 256
     let sets := fun (P : ModuleState → Prop) => ∃ m', Does keySetSpec (.keySet p) p s { acts := [.fg], m := m' } ∧ P m'
     m.sec.life ≠ .retired →
      (kind = 0 → slot < 4 → getN b 4 2 = 32 → sets fun m' =>
        m'.sec.roleKeys = upd m.sec.roleKeys (4 * which + slot) fun _ => some (leNat ((b.drop 8).take 32) ^^^ mask)) ∧
      (kind = 0 → slot < 4 → getN b 4 2 = 0 → m.lastKey 0 which slot 0 = false → sets fun m' =>
        m'.sec.roleKeys = upd m.sec.roleKeys (4 * which + slot) fun _ => none) ∧
      (kind = 1 → slot = 0 → getN b 4 2 = 32 → sets fun m' =>
        m'.sec.groupKeys = (upd m.sec.groupKeys which fun _ => some (leNat ((b.drop 8).take 32) ^^^ mask)) ∧
        m'.sec.epochs = (upd m.sec.epochs which fun e => (e + 1) % 2 ^ 32) ∧ m'.sec.fresh = upd m.sec.fresh which fun _ => 0) ∧
      (kind = 2 → slot < 2 → getN b 4 2 = 68 → sets fun m' =>
        m'.sec.signKeys = upd m.sec.signKeys slot fun _ => some ((b.drop 8).take 68)) ∧
      (kind = 3 → slot < 4 → getN b 4 2 = 0 → m.lastKey 3 which slot 0 = false → sets fun m' =>
        m'.sec.vendorRevoked = setBit m.sec.vendorRevoked slot true)) ∧
    (let m := taken lifecycleAdvanceSpec p s
     let dest := Lifecycle.ofCode (getN b 0 1)
     getN b 4 4 = Config.shake256 Config.identityKey 32 % 2 ^ 32 → m.advanceOk dest →
     ∃ m', Does lifecycleAdvanceSpec (.lifecycleAdvance p) p s { acts := [.fg], m := m' } ∧ m'.sec.life = dest ∧ m'.sec.sessions = [])

/-- The warden's own rows have their effect (R511, R523, R524, R525, R526, R532, R533, R536, R538, R541): For every state with a running warden: a
sample is taken over, with the shock peaks, and each temperature's warning rises above its level and ends 5 K below; the condensation state changes
after 60 s beyond its limit; a rail fault is kept, and restarts the island that owns the rail or asks for a reset; a finished erase leaves the bank
erased with the waiting data, a failed one without; a verified bank is VERIFIED or REFUSED as R511 judges it; an activation whose check fails is
abandoned, else committed to its bank with the pending configuration; each restarted island is journalled and the next restarts, and the warden's
own ends it. -/
def Obligations.WardenRowsRun : Prop :=
  ∀ (s : State) (t : Nat), (s.then t).runs isWarden →
    let m := s.then t
    let w := m.warden
    (∀ x : SensorSample, x.temps.length = 12 → Runs (.wardenSensorSample t x) s fun m' =>
      m'.warden.temps = x.temps ∧ m'.warden.vctl = x.vctl ∧ m'.warden.vdrv = x.vdrv ∧ m'.warden.bulk = x.bulk ∧
      m'.warden.holdCap = x.holdCap ∧ m'.warden.dew = x.dew ∧ m'.loadCommon.vls = x.vls ∧
      m'.warden.shock = (max w.shock.1 x.shock.1, max w.shock.2.1 x.shock.2.1, max w.shock.2.2 x.shock.2.2) ∧
      ∀ k, k < 12 → bit m'.warden.tempWarn k =
        decide ((if bit w.tempWarn k then warnLevel k - 50 else warnLevel k) < x.temps.getD k 0)) ∧
    (∀ b, (if w.condensation then w.dewHighSince else w.dewLowSince) = some b → b + seconds 60 ≤ m.now →
      Runs (.condensationChange t) s fun m' => m'.warden.condensation = !w.condensation) ∧
    (let hit rail (b : Bool) := m.setWarden fun w =>
       { w with rails := setBit w.rails rail true, railFault := true, railReset := w.railReset || b }
     ∀ rail mv, rail < 8 → m.reset.phase ≠ .held → m.reset.phase ≠ .lockout →
      Gives (.railFaultDetected t rail mv none) s ((hit rail true).log evRailFault tgModule [(rail : Int), (mv : Int)]) ∧
      ∀ k, k < 2 → Gives (.railFaultDetected t rail mv (some k)) s
        (((hit rail false).log evRailFault tgModule [(rail : Int), (mv : Int)]).restartIsland (3 + k) .rail)) ∧
    (∀ a failed, w.erasing = some a → Runs (.imageEraseDone t failed) s fun m' => m'.warden.erasing = none ∧ m'.warden.afterErase = [] ∧
      m'.warden.banks = upd w.banks (1 - w.activeBank) fun b =>
        { b with erased := true, writes := if failed then [] else [(0, w.afterErase)] }) ∧
    (∀ a, w.verifying = some a → w.erasing = none → Runs (.imageVerifyDone t) s fun m' => m'.warden.verifying = none ∧
      m'.warden.banks = upd w.banks (1 - w.activeBank) fun b =>
        { b with state := if (m.imageFails (1 - w.activeBank)).isNone then .verified else .refused }) ∧
    (∀ a rearm bad, w.activation = some (a, rearm, 0) → Runs (.activationCheckDone t bad) s fun m' =>
      if (m.imageFails w.journal.toBank).isSome ∨ bad then m'.warden.activation = none ∧ m'.warden.journal.step = 0 ∧
        m'.warden.activeBank = w.activeBank ∧ m'.warden.config = w.config
      else ∃ m0 : ModuleState, m' = m0.activateIsland 6 ∧ m0.warden.activeBank = w.journal.toBank ∧
        m0.warden.config = w.pendingCfg.getD w.config ∧ m0.warden.pendingCfg = none ∧ m0.warden.journal.step = 2 ∧
        m0.warden.activation = some (a, rearm, 1)) ∧
    (∀ a rearm k damage, w.activation = some (a, rearm, k + 1) →
      (activationOrder.getD k 9 ≠ isWarden → Runs (.activationIslandDone t true false damage) s fun m' =>
        ∃ m0 : ModuleState, m' = m0.activateIsland (activationOrder.getD (k + 1) 9) ∧ m0.warden.activation = some (a, rearm, k + 2)) ∧
      (activationOrder.getD k 9 = isWarden → Runs (.activationIslandDone t true false damage) s fun m' =>
        m'.warden.activation = none ∧ m'.warden.journal.step = 3))

/-- The update commands have their effect (R530, R532, R533, R534, R535, R541): For every state and packet that passes every check, with no update
running: IMAGE_WRITE in range adds its data to the inactive bank, or starts the erase it asks for; IMAGE_VERIFY starts the check; CONFIG_LOAD of the
right length without signature, or with a field that breaks a rule, is refused with the field's offset, and else leaves the configuration pending;
ACTIVATE of a pending configuration in an allowed window writes the BEGUN record; whether NOR fails in one of them is free, and a failure answers
NOR_FAULT. -/
def Obligations.WardenCommandsDo : Prop :=
  ∀ (s : State) (p : Packet),
    let b := commandPart p
    (let m := taken imageWriteSpec p s
     let n := 1 - m.warden.activeBank
     let erase := bit (getN b 4 1) 0
     let k := m.norTry n (if erase then 1 else 0)
     getN b 0 4 % 8 = 0 → getN b 0 4 + (b.drop 8).length ≤ 24 * 1048576 → (erase → getN b 0 4 = 0) → m.warden.erasing = none →
     Does imageWriteSpec (.imageWrite p) p s
      (if k.1 then { status := stNorFault, m := k.2.setBank n fun b => { b with state := .written } }
       else if erase then
        { acts := [.wd]
          m := (k.2.setBank n fun b => { b with state := .written }).setWarden fun w =>
            { w with erasing := some m.now, afterErase := b.drop 8 } }
       else
        { acts := [.wd]
          m := k.2.setBank n fun x => { x with state := .written, writes := x.writes ++ [(getN b 0 4, b.drop 8)] } })) ∧
    (let m := taken imageVerifySpec p s
     m.warden.erasing = none → Does imageVerifySpec (.imageVerify p) p s
      { acts := [.wd, .fg], m := m.setWarden fun w => { w with verifying := some m.now } }) ∧
    (let m := taken configLoadSpec p s
     let cfg := b.take 3152
     let k := m.norTry 0 0
     3154 ≤ b.length → b.length = 3154 + getN b 3152 2 → m.warden.activation = none → Does configLoadSpec (.configLoad p) p s
      (if m.integratorSigned cfg (b.drop 3154) = false then { status := stSignatureInvalid, m }
       else match configFails cfg m.variant m.pair.id with
         | some o => { status := (configAnswer cfg m.variant o).1, data := (configAnswer cfg m.variant o).2, m }
         | none =>
           if k.1 then { status := stNorFault, m := k.2 }
           else
            { acts := [.fg, .wd]
              m := (k.2.setWarden fun w => { w with pendingCfg := some cfg }).log evConfigStored tgModule
                [(getN cfg 4 4 : Int), ((Config.shake256 cfg 32 % 2 ^ 64 : Nat) : Int)] })) ∧
    (let m := taken activateSpec p s
     let flags := getN b 1 1
     let k := m.norTry 0 0
     getN b 0 1 = 1 → m.warden.pendingCfg.isSome → m.reset.phase ≠ .recovery → m.paired = false → bit flags 0 → m.windowOk →
     m.warden.erasing = none → m.loadingConfig = false → m.warden.activation = none → Does activateSpec (.activate p) p s
      (if k.1 then { status := stNorFault, m := k.2 }
       else
        { acts := [.wd]
          m := (k.2.leave.journal fun j =>
            { j with step := 1, what := 1, fromBank := m.warden.activeBank, toBank := m.warden.activeBank, doneMask := 0 }).setWarden fun w =>
              { w with activation := some (m.now, bit flags 1, 0) } }))

/-- The supplies' rows have their effect (R549, R550, R551, R553, R555, R556, R562): For every state: on VCTL power fail the module is no longer armed
and the flush of the recorder begins; the holdup state follows the usable energy at 0.30 J, is LOW 2 s after power-on without READY, and its
capacitance is measured; a VDRV level change is kept; VDRV above 180 V, or above 156 V for 1 s, disconnects, and reconnects 100 ms below 150 V; 1 s
at 105 °C is hot, 10 s below 100 °C ends it, 1 s at 115 °C disarms without re-arming. -/
def Obligations.SupplyRowsRun : Prop :=
  ∀ (s : State) (t : Nat), let m := s.then t
    let w := m.warden
    (m.reset.phase ≠ .held → m.reset.phase ≠ .lockout → m.recd.failFlushAt = none → Runs (.vctlPowerFail t) s fun m' =>
      m'.reset.armed = false ∧ m'.recd.failFlushAt = some m.now) ∧
    (∀ cap, let mj := w.holdUf * (cap * cap - 130 * 130) / 200000
      Runs (.holdupStateChange t cap) s fun m' => m'.warden.holdCap = cap ∧
        m'.warden.holdup = if 300 ≤ mj then .ready else if w.holdup = .ready then .low else w.holdup) ∧
    (w.holdup = .charging → m.reset.phase ≠ .held → w.powerAt + seconds 2 ≤ m.now → Runs (.holdupReadyTimeout t) s fun m' =>
      m'.warden.holdup = .low) ∧
    (∀ uf, w.holdup ≠ .ready ∨ w.holdMeasAt + seconds 86400 ≤ m.now → Gives (.holdupCapMeasure t uf) s
      (m.setWarden fun w => { w with holdUf := uf, holdMeasAt := m.now })) ∧
    (∀ bulk, m.runs isWarden → w.level ≠ levelOf w.level bulk → Runs (.vdrvLevelChange t bulk) s fun m' =>
      m'.warden.level = levelOf w.level bulk ∧ m'.warden.bulk = bulk) ∧
    (∀ v, w.disconnected = false → (1800 < v ∨ (1560 < v ∧ ∃ a, w.surgeAt = some a ∧ a + seconds 1 ≤ m.now)) →
      Runs (.vdrvSurgeDisconnect t v) s fun m' => m'.warden.disconnected ∧ m'.warden.vdrv = v) ∧
    (∀ v since, w.disconnected → v < 1500 → since + ms 100 ≤ m.now → Runs (.vdrvReconnect t v since) s fun m' =>
      m'.warden.disconnected = false ∧ m'.warden.vdrv = v ∧ m'.warden.surgeAt = none) ∧
    (∀ (since : Nat) (x : Int), w.hot = false → 1050 ≤ x → since + seconds 1 ≤ m.now → Runs (.baseplateHot t since x) s fun m' =>
      m'.warden.hot ∧ m'.warden.temps = upd w.temps 11 fun _ => x) ∧
    (∀ (since : Nat) (x : Int), w.hot → x < 1000 → since + seconds 10 ≤ m.now → Runs (.baseplateHotClear t since x) s fun m' =>
      m'.warden.hot = false ∧ m'.warden.temps = upd w.temps 11 fun _ => x) ∧
    (∀ (since : Nat) (x : Int), w.shutdown = false → 1150 ≤ x → since + seconds 1 ≤ m.now → Runs (.thermalShutdown t since x) s fun m' =>
      m'.warden.shutdown ∧ m'.reset.armed = false ∧ m'.reset.autoRearm = false)

/-- Resets begin and end (R458, R526, R553, R567, R569, R573, R577): For every state in which no power-fail flush runs: RESET_N, a failed rail, the
warden's watchdog and a fence input from the partner hold a running module in reset, disarmed, with their cause, the third watchdog reset within 1 h
in LOCKOUT; a finished flush holds it for VCTL or for the MODULE_RESET that ran it; a reset ends with a start after its time, after the last fence
input is released, or with VCTL, which empties the Polder window, ends every session and counts the power cycle; a starting module whose islands run
and whose inputs are settled is READY, with READY_MS. -/
def Obligations.ResetRowsRun : Prop :=
  ∀ (s : State) (t : Nat), let m := s.then t
    let into (m' : ModuleState) phase cause := m'.reset.phase = phase ∧ m'.reset.cause = cause ∧ m'.reset.armed = false ∧ m'.reset.heldAt = m.now
    (m.held = false → m.recd.failFlushAt = none →
      Runs (.resetNAsserted t) s (into · .held 3) ∧
      Runs (.wardenWatchdogReset t) s (into ·
        (if 3 ≤ ((m.reset.wardenResets.filter fun x => m.now < x + seconds 3600) ++ [m.now]).length then .lockout else .held) 7) ∧
      (m.warden.railReset → Runs (.railFaultReset t) s (into · .held 6)) ∧
      (∀ link, link = 1 ∨ link = 2 → m.paired → m.facing.contains link → Runs (.fenceInputAsserted t link) s (into · .held 5))) ∧
    (m.reset.phase = .lockout → Gives (.resetNAsserted t) s
      (m.setReset fun r => { r with phase := .held, cause := 3, heldAt := m.now })) ∧
    (∀ a stages, m.held = false → m.recd.failFlushAt = some a → Runs (.powerFailFlushDone t stages) s
      (into · .held (if m.reset.resetPending then 4 else 2))) ∧
    (∀ straps damage, m.reset.phase = .held → m.reset.cause = 3 ∨ m.reset.cause = 4 ∨ m.reset.cause = 6 ∨ m.reset.cause = 7 →
      m.reset.heldAt + (if m.reset.cause = 3 ∨ m.reset.cause = 4 then ms 1 else ms 10) ≤ m.now →
      Gives (.resetReleased t straps damage) s (m.restart straps damage)) ∧
    (∀ link straps damage, link = 1 ∨ link = 2 → m.reset.phase = .held → m.reset.cause = 5 →
      let m1 := m.setPair fun x => x.setPort link fun q => { q with fenceIn := false }
      (∀ n ∈ m1.facing, (m1.pair.port n).fenceIn = false) → Gives (.fenceInputReleased t link straps damage) s (m1.restart straps damage)) ∧
    (∀ brownout straps damage, m.held → Stores (.powerOnReset t brownout straps damage) s fun m' mem' => mem' = [] ∧
      ∃ m0 : ModuleState, m' = (m0.startUp straps (m0.recd.cycle - 1) damage).firstKeys ∧ m0.recd.cycle = min max32 (m.recd.cycle + 1) ∧
        m0.sec.sessions = [] ∧ m0.reset.cause = if brownout ∧ m.reset.cause = 2 then 2 else 1) ∧
    (m.reset.phase = .starting → (∀ x ∈ m.islands, x.state = .running) → m.unsettled = false →
      Runs (.moduleReady t) s fun m' => m'.reset.phase = .ready ∧ m'.reset.readyMs = min max16 ((m.now - m.reset.resetEndAt) / 1000000))

/-- The host window's registers and FIFOs have their effect (R10, R310, R322, R324, R325, R327, R328, R330, R331): For every state whose window answers:
a read of EVT_FIFO or RSP_FIFO removes and returns the next word, one of an empty FIFO returns 0 and sets SPI_ERR; a write to HW_IRQ_STATUS clears
the flags written, and RSP_READY and EVT_READY stay set while their FIFO holds a packet; one of CMD_ERR also ends discard; WIN_DATA reads and writes
the word at WIN_ADDR, which then moves on by 4, a damaged word reading as 0 with its flag and a written one whole again; no other byte changes;
TIME_SNAP_S latches its group; HW_IRQ_ENABLE, WIN_ADDR and HW_SCRATCH take their bits and no other register does; a broken transaction sets SPI_ERR;
a segment collection ends 2 s after its last segment. -/
def Obligations.HostWindowRowsRun : Prop :=
  ∀ (s : State) (t : Nat), (s.then t).windowOpen →
    let m := s.then t
    let h := m.host
    let a := h.winAddr.toNat
    (∀ w ws rest, h.evt = (w :: ws) :: rest → Gives (.evtFifoRead t) s
      (m.setHost fun h => { h with readData := w, evt := if ws = [] then rest else ws :: rest })) ∧
    (h.evt = [] → Gives (.evtFifoRead t) s (m.setHost fun h => { h.raise 5 with readData := 0 })) ∧
    (∀ w ws rest, h.rsp = (w :: ws) :: rest → h.heldReplies = [] → m.interp.launched = [] → m.interp.waiting = [] →
      Gives (.rspFifoRead t) s (m.cvSettle.setHost fun h => { h with readData := w, rsp := if ws = [] then rest else ws :: rest })) ∧
    (h.rsp = [] → Gives (.rspFifoRead t) s (m.setHost fun h => { h.raise 5 with readData := 0 })) ∧
    (∀ w : Word, w.getLsbD 4 = false → Runs (.hwIrqStatusClear t w) s fun m' => ∀ k, k < 32 →
      m'.host.irq.getLsbD k = ((h.irq.getLsbD k && !w.getLsbD k) || (k == 0 && !h.rsp.isEmpty) || (k == 1 && !h.evt.isEmpty))) ∧
    (∀ w : Word, w.getLsbD 4 → Runs (.hwIrqStatusClear t w) s fun m' =>
      m'.host.partialCmd = [] ∧ m'.host.discard = false ∧ m'.host.irq.getLsbD 4 = false) ∧
    Runs (.cmdErrFlush t) s (fun m' => m'.host.partialCmd = [] ∧ m'.host.discard = false ∧ m'.host.irq.getLsbD 4 = false) ∧
    ((m.island isPolder).persTimes = [] →
      (h.damaged.contains a = false → Gives (.winDataRead t .none) s
        (m.setHost fun h => { h with winAddr := nextWin h.winAddr, readData := BitVec.ofNat 32 (leNat (s.mem.bytes a 4)) })) ∧
      (h.damaged.contains a → Runs (.winDataRead t .none) s fun m' =>
        m'.host.readData = 0 ∧ m'.host.winAddr = nextWin h.winAddr ∧ m'.host.irq.getLsbD 9)) ∧
    (∀ w : Word, Stores (.winDataWrite t w) s fun m' mem' =>
      m' = (m.setHost fun h => { h with winAddr := nextWin h.winAddr, damaged := h.damaged.filter (· != a) }) ∧
      (s.memOk → leNat (mem'.bytes a 4) = w.toNat) ∧ ∀ x, x < a ∨ a + 4 ≤ x → mem'.read x = s.mem.read x) ∧
    Gives (.timeSnapRead t) s (m.setHost fun h =>
      { h with readData := BitVec.ofNat 32 m.stamp.1, snapNs := m.stamp.2, snapQuality := m.time.quality.code }) ∧
    (∀ w : Word, Gives (.registerWrite t 3 w) s (m.setHost fun h => { h with irqEnable := w &&& 0x3FF }) ∧
      Gives (.registerWrite t 11 w) s (m.setHost fun h => { h with winAddr := w &&& 0x3FFFC }) ∧
      Gives (.registerWrite t 15 w) s (m.setHost fun h => { h with scratch := w }) ∧
      ∀ reg, reg < 16 → reg ≠ 3 → reg ≠ 11 → reg ≠ 15 → Gives (.registerWrite t reg w) s m) ∧
    Gives (.spiTransactionAborted t) s (m.setHost fun h => h.raise 5) ∧
    (∀ x, Runs (.segmentTimeout t x) s fun m' => m'.interp.collections =
      m.interp.collections.filter fun c => !(c.transport == x && decide (c.last + seconds 2 ≤ m.now)))

/-- Packets come in by CMD_FIFO and levee frames, and actions end (R21, R25, R27, R32, R307, R326, R327, R457): For every state in which the interpreter
runs: a word written to CMD_FIFO joins the incomplete packet; one that completes a bad header, or finds no room, ends in discard with CMD_ERR; one
that completes a packet has it judged; a levee frame for another member goes out of the other port with one more hop; the oldest action of a channel
ends with its acknowledgement, and its command with its last one; or the oldest action whose time has run out (10 ms after it was placed) ends with
its command; a packet held for room is let go after 5 ms. -/
def Obligations.InterpreterRowsRun : Prop :=
  ∀ (s : State) (t : Nat), (s.then t).interprets →
    let m := s.then t
    (∀ w : Word, m.host.discard = false →
      let words := m.host.partialCmd ++ [w]
      let b := words.flatMap wordBytes
      (m.cmdUsed < 1024 →
        (words.length < 4 ∨ (words.length = 4 ∧ headerOk b ∧ 0 < getN b 12 2) ∨ (4 < words.length ∧ words.length ≠ (16 + getN b 12 2 + 3) / 4) →
          Gives (.cmdFifoWrite t w) s (m.setHost fun h => { h with partialCmd := words })) ∧
        (words.length = 4 → headerOk b = false → Runs (.cmdFifoWrite t w) s fun m' =>
          m'.host.discard ∧ m'.host.partialCmd = [] ∧ m'.host.irq.getLsbD 4) ∧
        (4 ≤ words.length → (words.length = 4 → headerOk b) → words.length = (16 + getN b 12 2 + 3) / 4 → Gives (.cmdFifoWrite t w) s
          (arrive command (readPacket m.now .spi (0, 0) b) (m.setHost fun h => { h with partialCmd := [] })).pump)) ∧
      (1024 ≤ m.cmdUsed → Runs (.cmdFifoWrite t w) s fun m' => m'.host.discard ∧ m'.host.partialCmd = [] ∧ m'.host.irq.getLsbD 4)) ∧
    (∀ link (f : LeveeFrame), link = 1 ∨ link = 2 → m.paired → m.leveeRuns → f.crcOk → f.dest ≠ m.pair.id → f.hops < 3 →
      Gives (.leveeFrameReceived t link f) s
        (m.setPair fun x => { x with out := x.out ++ [(3 - link, { f with hops := f.hops + 1 })] })) ∧
    (m.interp.hold = none → m.interp.launched = [] → m.interp.waiting = [] → ∀ ch a f, (m.oldest ch = some a ∨ m.overdue ch = some a) → a.opcode ≠ 0x0502 → ch ≠ .wd →
      (m.interp.inflight.find? fun x => x.ref == a.ref) = some f →
      (m.oldest ch = some a → m.runs ch.island → ∀ errs, errs < 2 → Runs (.actionAcknowledged t ch errs) s fun m' =>
        m'.interp.actions = m.interp.actions.filter (·.id != a.id) ∧
        (f.left = 1 → m'.interp.inflight = m.interp.inflight.filter (·.ref != a.ref)) ∧
        (1 < f.left → (m'.interp.inflight.find? fun x => x.ref == a.ref).map (·.left) = some (f.left - 1))) ∧
      (m.overdue ch = some a → Runs (.actionAckTimeout t ch) s fun m' =>
        m'.interp.actions = m.interp.actions.filter (·.id != a.id) ∧
        m'.interp.inflight = m.interp.inflight.filter (·.ref != a.ref))) ∧
    (∀ h, m.interp.hold = some h → h.waits = [] → h.checked → h.since + ms 5 ≤ m.now → m.interp.launched = [] → m.interp.waiting = [] →
      Runs (.dispatchRoomTimeout t) s fun m' => m'.interp.hold = none)

/-- ECHO returns its payload and NOTIFY_ROUTE sets the routes (R318, R332): For every state and packet that passes every check: ECHO is answered with
its payload; NOTIFY_ROUTE without routes, or of a session that names its own transport or an address, sets the route of each transport it names to
that session and takes the session off the others. -/
def Obligations.TransportCommandsDo : Prop :=
  ∀ (s : State) (p : Packet),
    let b := commandPart p
    (let m := taken echoSpec p s
     Does echoSpec (.echo p) p s { data := b, m }) ∧
    (let m := taken notifyRouteSpec p s
     let addr := getN b 2 4
     let port := getN b 6 2
     getN b 0 1 = 0 ∨ bit p.flags 0 → (∀ x ∈ routable, bit (getN b 0 1) x.index → x ≠ p.transport → addr ≠ 0) →
     ∃ m', Does notifyRouteSpec (.notifyRoute p) p s { m := m' } ∧ ∀ x ∈ routable, ∀ q, m.interp.ports[x.index]? = some q →
       m'.interp.ports[x.index]? = some
        (if bit (getN b 0 1) x.index then
           { q with route := some (p.session, if addr = 0 then p.src.1 else addr, if port = 0 then p.src.2 else port) }
         else if q.routedTo p.session then { q with route := none }
         else q))

/-- The settings reads return the entries of the active configuration (R75, R265, R332, R423, R453, R492, R529): For every state and packet that passes
every check, the reads of portal, axis, drive, feedback, obstacle, ring, load, field, time, CAN, Ethernet, recorder and pair settings are answered
with the bytes of the active module configuration at the entry's place, one entry for an object and every entry for the module, and change nothing. -/
def Obligations.SettingsReadsAnswer : Prop :=
  ∀ (s : State) (p : Packet),
    let idx := p.target % 256
    let all (l : List Nat) := if p.target / 256 = 0 then l else [idx]
    let axes : List Channel := if p.target / 256 = 0 then [.m1ax, .m2ax] else [axisChannel idx]
    let read (spec : CmdSpec) (i : Instr) (needs : List Channel) (data : ModuleState → List Byte) :=
      Does spec i p s { needs, data := data (taken spec p s), m := taken spec p s }
    read readPortalConfigSpec (.readPortalConfig p) [] (fun m => (all portalNums).flatMap fun k => m.cfgEntry (portalCfg k) 64) ∧
    read readAxisConfigSpec (.readAxisConfig p) axes (fun m => (all axisNums).flatMap fun k => m.cfgEntry (axisCfg k) 64) ∧
    read readDriveConfigSpec (.readDriveConfig p) axes (fun m => (all axisNums).flatMap fun k => m.cfgEntry (driveCfg k) 64) ∧
    read readFeedbackConfigSpec (.readFeedbackConfig p) axes (fun m => (all axisNums).flatMap fun k => m.cfgEntry (fbCfg k) 64) ∧
    read readObstacleConfigSpec (.readObstacleConfig p)
      (if p.target / 256 = 0 then [.m1ax, .m2ax] else [axisChannel ((taken readObstacleConfigSpec p s).doorAxis idx)])
      (fun m => (all portalNums).flatMap fun k => m.cfgEntry (obstCfg k) 64) ∧
    read readRingConfigSpec (.readRingConfig p) [.sa, .sb] (fun m => m.cfgEntry 2064 32) ∧
    read readLsConfigSpec (.readLsConfig p) (if p.target / 256 = 0 then [.m1ls, .m2ls] else [loadChannel idx])
      (fun m => (all nums16).flatMap fun k => m.cfgEntry (loadCfg k) 16) ∧
    read readFieldConfigSpec (.readFieldConfig p) [.fl] (fun m => m.cfgEntry 2352 344) ∧
    read readTimeConfigSpec (.readTimeConfig p) [.net] (fun m => m.cfgEntry timeCfg 32) ∧
    read readCanConfigSpec (.readCanConfig p) [.net] (fun m => m.cfgEntry (canCfg (getN (commandPart p) 0 1)) 144) ∧
    read readEthConfigSpec (.readEthConfig p) [.net] (fun m => m.cfgEntry ethCfg 96) ∧
    read readRecConfigSpec (.readRecConfig p) [.recd] (fun m => m.cfgEntry recCfg 8) ∧
    read readPairConfigSpec (.readPairConfig p) [] (fun m => m.cfgEntry pairCfg 32)

/-- The status reads return their entries (R108, R149, R187, R210, R332, R423, R453, R492, R520, R544, R565): For every state and packet that passes
every check: each status read is answered with the entries of its reply table; AXIS_STATUS ends the axes' soft-stop flags, DRIVE_STATUS their stall
and temperature warning flags, FEEDBACK_STATUS their wrap flags (and those of the entries it shows), MGMT_HEALTH the shock peaks; every other one
changes nothing; currents, temperatures and voltages measured for the reply are free values. -/
def Obligations.StatusReadsAnswer : Prop :=
  ∀ (s : State) (p : Packet),
    let idx := p.target % 256
    let whole : Bool := p.target / 256 == 0
    let all (l : List Nat) := if whole then l else [idx]
    let axes : List Channel := if whole then [.m1ax, .m2ax] else [axisChannel idx]
    let read (spec : CmdSpec) (i : Instr) (needs : List Channel) (data : ModuleState → List Byte) :=
      Does spec i p s { needs, data := data (taken spec p s), m := taken spec p s }
    let v (m : ModuleState) k := Config.freeValue (m.free + k)
    read resetStatusSpec (.resetStatus p) [.wd] (·.resetStatus) ∧
    read readIslandHealthSpec (.readIslandHealth p) [.wd]
      (fun m => leBytes 2 10 ++ stampBytes m.stamp ++ zeros 2 ++ (List.range 10).flatMap m.islandEntry) ∧
    read transportStatusSpec (.transportStatus p) []
      (fun m => [Transport.spi, .canA, .canB, .ethernet, .levee].flatMap m.transportEntry) ∧
    read portalStatusSpec (.portalStatus p) [] (fun m => (all portalNums).flatMap m.portalEntry) ∧
    read profileStatusSpec (.profileStatus p) [] (·.profileStatus) ∧
    (let m := taken axisStatusSpec p s
     Does axisStatusSpec (.axisStatus p) p s { needs := axes, data := (all axisNums).flatMap m.axisEntry
                                               m := m.each (all axisNums) fun m a => m.setAxis a fun x => { x with softStop := false } }) ∧
    (let m := taken driveStatusSpec p s
     Does driveStatusSpec (.driveStatus p) p s
      { needs := axes, data := (all axisNums).flatMap m.driveEntry
        m := m.each (all axisNums) fun m a => m.setDrive a fun d => { d with stallFlag := false, warnFlag := false } }) ∧
    (let m := taken feedbackStatusSpec p s
     Does feedbackStatusSpec (.feedbackStatus p) p s { needs := axes, data := (all axisNums).flatMap m.fbEntry
                                                       m := m.each (all axisNums) fun m a => m.setFb a Feedback.wrapRead }) ∧
    read latchReadSpec (.latchRead p) [axisChannel idx]
      (fun m => ((m.fb idx).latches.getD 0 {}).entry 0 ++ ((m.fb idx).latches.getD 1 {}).entry 1) ∧
    (let door (spec : CmdSpec) : List Channel := if whole then [.m1ax, .m2ax] else [axisChannel ((taken spec p s).doorAxis idx)]
     read obstacleStatusSpec (.obstacleStatus p) (door obstacleStatusSpec) (fun m => (all portalNums).flatMap m.obstEntry) ∧
     (whole = false → read forceMapReadSpec (.forceMapRead p) (door forceMapReadSpec) (fun m => (m.ob idx).work.bytes idx))) ∧
    read ringStatusSpec (.ringStatus p) [.sa, .sb] (·.ringStatus) ∧
    (let m := taken lsStatusSpec p s
     Does lsStatusSpec (.lsStatus p) p s
      { needs := if whole then [.m1ls, .m2ls] else [loadChannel idx], m := { m with free := m.free + 34 }
        data := (all nums16).flatMap fun n => m.lsEntry (v m (2 * n)) (v m (2 * n + 1)) n }) ∧
    read pgStatusSpec (.pgStatus p) [.m1ls, .m2ls] (fun m => [0, 1, 2, 3].flatMap fun i =>
      leBytes 1 i ++ zeros 1 ++ leBytes 2 (m.loadCommon.pg.getD i (0, 100)).1 ++ leBytes 4 (m.loadCommon.pg.getD i (0, 100)).2) ∧
    (let m := taken fiStatusSpec p s
     Does fiStatusSpec (.fiStatus p) p s
      (if whole then
        { needs := [.fl], m := { m with free := m.free + 1, field := { m.field with overflow := false } }, data := m.inputImage (v m 0) }
       else { needs := [.fl], m := { m with free := m.free + 1 }, data := m.inputEntry idx (v m 0) })) ∧
    (let m := taken foStatusSpec p s
     Does foStatusSpec (.foStatus p) p s
      { needs := [.fl], m := { m with free := m.free + 34 }
        data := (if whole then nums16 else [idx - 64]).flatMap fun n => m.foEntry (v m (2 * n) % 65536) (v m (2 * n + 1)) n }) ∧
    read linkStatusSpec (.linkStatus p) [] (fun m => [0, 1, 2].flatMap m.laneEntry) ∧
    read timeStatusSpec (.timeStatus p) [.net] (·.timeStatus) ∧
    read canStatusSpec (.canStatus p) [.net] (fun m => m.canStatus (getN (commandPart p) 0 1)) ∧
    read ethStatusSpec (.ethStatus p) [.net] (·.ethStatus) ∧
    read cvStatusSpec (.cvStatus p) [.recd]
      (fun m => if p.target / 256 = 6 then m.cvEntry idx else m.cv.halt.bytes ++ ((List.range 16).map m.cvEntry).flatten) ∧
    read recStatusSpec (.recStatus p) [.recd] (·.recStatus) ∧
    read clusterStatusSpec (.clusterStatus p) [] (·.clusterStatus) ∧
    read secStatusSpec (.secStatus p) [.fg] (·.secStatus) ∧
    read identityReadSpec (.identityRead p) [.fg] (·.identityRead) ∧
    (let m := taken mgmtHealthSpec p s
     Does mgmtHealthSpec (.mgmtHealth p) p s
      { needs := [.wd], data := m.mgmtHealth, m := m.setWarden fun w => { w with shock := (0, 0, 0) } }) ∧
    read bankStatusSpec (.bankStatus p) [.wd] (fun m => m.bankEntry 0 ++ m.bankEntry 1) ∧
    read supplyStatusSpec (.supplyStatus p) [.wd] (·.supplyStatus)

/-- A step runs the command at the front of the queue on the state with the queue's rest; an empty queue idles (R21, R22): For every state: with a
command at the front of its queue, a step answers exactly what that command answers on the state with the queue's rest; with an empty queue a step
answers the same state (the model's choice of log entry 12: the spec has no queue of happenings). -/
def Obligations.StepTakesTheFront : Prop :=
  ∀ s : State, (∀ c rest, s.pending = c :: rest → step s = exec c { s with pending := rest }) ∧ (s.pending = [] → step s = .next s)

/-- After reset nothing waits, the memory is canonical and reads 0, and the module is disarmed with its ring open (R324, R421, R51, R222, R403): Right
after VCTL has been applied: no command waits; the memory is in its canonical form and every byte reads 0 (log entry 10); the module is held in the
power-on reset and disarmed, HOST_IRQ enables and status are 0, every FIFO is empty, all sixteen culvert channels are idle, every load channel is
off and both ring switches are open. Registers without a reset value in the spec stand at the values of log entry 1. -/
def Obligations.ResetIsAtRest : Prop :=
  State.reset.pending = [] ∧ State.reset.memOk ∧ (∀ a, State.reset.mem.read a = 0) ∧
    (let m := State.reset.m
     m.reset.phase = .held ∧ m.reset.armed = false ∧ m.host.irqEnable = 0 ∧ m.host.irq = 0 ∧ m.host.rsp = [] ∧ m.host.evt = [] ∧
       m.interp.waiting = [] ∧ m.interp.actions = [] ∧ (∀ cv < 16, (m.chan cv).state = .idle) ∧ (∀ n, 1 ≤ n → n ≤ 16 → (m.load n).on = false) ∧
       m.ring.a.carrier = false ∧ m.ring.a.closed = false ∧ m.ring.b.carrier = false ∧ m.ring.b.closed = false)

/-- Every step keeps the memory in its canonical form (R403, R324): For every state whose memory is in its canonical form (addresses strictly rising, no
byte 0 listed): when a step answers a next state, its memory is in that form too. The form is the model's own (log entry 10). -/
def Obligations.EveryStepKeepsTheMemoryForm : Prop :=
  ∀ s s' : State, s.memOk → step s = .next s' → s'.memOk

/-- Every well-formed row answers a next state with the queue as it was; a row stops only on an object that is not there (R306, R324): For every state
and every command: a well-formed command answers a next state with the queue as it was; when a command faults, it names an object the module does
not have and is not well-formed; no command is refused. -/
def Obligations.EveryRowRuns : Prop :=
  ∀ (s : State) (i : Instr), (i.wf → ∃ s', exec i s = .next s' ∧ s'.pending = s.pending) ∧
    (∀ f, exec i s = .fault f → f = .noSuchObject ∧ i.wf = false) ∧ ∀ r, exec i s ≠ .refused r

/-- A command with an action for an island that the warden restarts answers ISLAND_RESTARTING and has no effect (R26): For every state and packet, and
every command row whose meaning is its packet's arrival: when the packet passes the checks before its command's own conditions, those conditions
refuse nothing, and one of the command's actions goes to an island that is being restarted, the row answers the module as it was with the reply
ISLAND_RESTARTING (0x8302) alone. -/
def Obligations.RestartingIslandIsRefused : Prop :=
  ∀ (s : State) (p : Packet), ∀ r ∈ packetRows p, let m := taken r.2 p s
    let x := r.2.body (cmdOf r.2 p s) m
    Accepted r.2 p s → x.status < 0x8000 → (x.acts.any fun ch => (m.island ch.island).state == .restarting) →
    Gives r.1 s (m.answer (replyTo m (asOpcode r.2 p) r.2.opcode false) 0x8302 [])

/-- The module defines the opcodes of Table 2 and no others; any other opcode fails step 5 with OPCODE_UNKNOWN (R622): An opcode of Table 2 that a
command may carry has a command under that opcode; every other opcode has none, and for every module and packet that passes steps 3 and 4 of the
checks, a packet with such an opcode is answered OPCODE_UNKNOWN (0x8003) and does nothing else. The opcodes 0x7F01 and 0x7F02, which only the module
sends, have none either (log entry 92). -/
def Obligations.UnknownOpcodeFails : Prop :=
  (∀ op ∈ tableTwo, ∃ c, command op = some c ∧ c.opcode = op) ∧
    ∀ (p : Packet) (m : ModuleState), p.opcode ∉ tableTwo → p.version = 2 → p.payload.length ≤ 4080 → announced p ≤ p.payload.length →
      command p.opcode = none ∧
      process (command p.opcode) p m = m.answer (replyTo m p p.opcode false) 0x8003 []

/-- A restart of M1, M2, the foreland controller or the polder core disarms the module, and no other restart does (R571): For every module, running
island and cause: after the beginning of the island's restart the module is disarmed when the island is M1, M2, the foreland controller or the
polder core, and is armed exactly when it was before when it is any other; and so it is after the row WATCHDOG_EXPIRY of a running island. -/
def Obligations.RestartDisarmsForFourIslands : Prop :=
  (∀ (m : ModuleState) (i : Nat) (cause : RestartCause), (m.island i).state = .running →
    (m.restartIsland i cause).reset.armed = if i = isM1 ∨ i = isM2 ∨ i = isForeland ∨ i = isPolder then false else m.reset.armed) ∧
  ∀ (s : State) (t i : Nat), i < 9 → (s.then t).runs i → Runs (.watchdogExpiry t i) s fun m' =>
    m'.reset.armed = if i = isM1 ∨ i = isM2 ∨ i = isForeland ∨ i = isPolder then false else s.m.reset.armed

/-- A packet that fails step 6 is answered, and changes nothing but counters of failed tags, sessions it closes and what replies touch (R307, R500,
R507): For every state and packet, and every command row whose meaning is its packet's arrival: when the interpreter takes the packet, it passes
steps 3 and 4 and fails step 6, the row answers a next state with the queue and the memory as they were whose module differs only in what events and
replies touch and, when the tag did not verify, in the count of failed tags and the list of sessions; in every other case the floodgate's state is
as it was. -/
def Obligations.FailedAdmissionHasNoEffect : Prop :=
  ∀ (s : State) (p : Packet), ∀ r ∈ packetRows p, Free r.2 p s → p.version = 2 → p.payload.length ≤ 4080 → announced p ≤ p.payload.length →
    ∀ st, (admission r.2 (asOpcode r.2 p) (arrived r.2 p s)).fail = some st → Runs r.1 s fun m' =>
      let m := s.then p.time
      (st = 0x8103 → m' = ({ m with sec := { m.sec with tagFails := m'.sec.tagFails, sessions := m'.sec.sessions } }).withComm m'.comm) ∧
      (st ≠ 0x8103 → m' = m.withComm m'.comm)

/-- Rows of bridges, feedback, obstacles, ring, load channels and field I/O leave every other part of the module alone (R133, R184, R222, R251, R278,
R295): For each of the rows of the drive side named in it and every operand, when it answers a next state: the command queue, all of memory and
every part of the module other than the parts named for it and what events and replies touch (recorder, FIFOs, interpreter, CAN and Ethernet
transport, outgoing packets) are as before. -/
def Obligations.DriveSideRowsKeep : Prop :=
  ∀ (s : State) (t : Nat),
    (∀ (a : Nat) (p : Bool), Keeps (Instr.stepTimerRestore t a p) t s fun n m => { m with axes := n.axes }) ∧
    (∀ (a b c : Nat) (u v w : Int), ∀ i ∈
      [Instr.currentLoopUpdate t a u v w b c, .holdDelayExpiry t a, .solenoidPullEnd t a, .gateSupplyRecovered t a],
      Keeps i t s fun n m => { m with drives := n.drives }) ∧
    (∀ (a b : Nat), ∀ i ∈
      [Instr.regenLimitEnter t a b, .regenLimitEnd t a],
      Keeps i t s fun n m =>
        { m with driveCommon := n.driveCommon, warden := n.warden, axes := n.axes, drives := n.drives, feedback := n.feedback, portals := n.portals
                 free := n.free, loads := n.loads, loadCommon := n.loadCommon }) ∧
    (∀ (a b : Nat) (p : Bool) (u v : Int), ∀ i ∈
      [Instr.stepTimeout t a, .stepRestowWait t a, .stallWindowExceeded t a, .bridgeOvercurrentTrip t a b p u v,
       .bridgeOvertemp t a, .openPhaseDetected t a p, .gateSupplyFault t a, .sluiceCheck t a b],
      Keeps i t s fun n m => { m with portals := n.portals, axes := n.axes, drives := n.drives }) ∧
    (∀ (a b : Nat) (p : Bool), ∀ i ∈
      [Instr.sluiceClosedReadback t a, .angleValidationDone t a, .encSupplyOverload t a b, .encSignalLoss t a p],
      Keeps i t s fun n m =>
        { m with portals := n.portals, axes := n.axes, drives := n.drives, feedback := n.feedback, free := n.free, loads := n.loads
                 loadCommon := n.loadCommon }) ∧
    (∀ (a : Nat), ∀ i ∈
      [Instr.edgeFaultsReport t a, .encSupplyRetry t a, .encSignalRestored t a, .termPartnerTimeout t a, .termPartnerReturn t a,
       .speedStillTimeout t a],
      Keeps i t s fun n m => { m with feedback := n.feedback }) ∧
    (∀ (a b c : Nat) (p : Bool),
      Keeps (Instr.sspReading t a p b c) t s fun n m => { m with portals := n.portals, axes := n.axes, feedback := n.feedback }) ∧
    (∀ (a : Nat), ∀ i ∈
      [Instr.keExceeded t a, .edgeDegradeEnd t a],
      Keeps i t s fun n m => { m with obst := n.obst }) ∧
    (∀ (a : Nat), Keeps (Instr.edgeFaultTimeout t a) t s fun n m => { m with obst := n.obst, axes := n.axes, drives := n.drives }) ∧
    (∀ (a : Nat), Keeps (Instr.forceEstimateUpdate t a) t s fun n m => { m with portals := n.portals, obst := n.obst }) ∧
    (Keeps (Instr.profileScheduleLaunch t) t s fun n m => { m with profiles := n.profiles }) ∧
    (∀ (a b c d : Nat) (p : Bool), ∀ i ∈
      [Instr.safetyEvaluation t a, .closeConfirmElapsed t a, .releaseConfirmElapsed t a p, .discrepancyLatch t a b c,
       .compareLost t a, .compareResumed t a, .positionWordStale t a b, .ringReadbackFault t a, .ringTestPulseDue t a,
       .ringTestPulseJudged t a b c d, .ringTestOverdue t a],
      Keeps i t s fun n m => { m with ring := n.ring }) ∧
    (∀ (a b c d : Nat) (u : Int) (p : Bool), ∀ i ∈
      [Instr.lsCurrentLimit t a b, .lsThermalShutdown t a u, .lsCooled t a, .lsRetryReset t a, .pgPeriodEdge t a b p c d,
       .lspwmEdge t a p, .lsOpenLoadTimeout t a b, .lsOffDiagJudged t a b, .vlsLevelChange t a, .vlsRestartStep t,
       .unlockPulseEnd t a],
      Keeps i t s fun n m => { m with free := n.free, loads := n.loads, loadCommon := n.loadCommon }) ∧
    (∀ (a b : Nat) (p : Bool) (u : Int), ∀ i ∈
      [Instr.fieldInputEdge t a p u b, .fiReversedTimeout t a u, .sampleDisagreeTimeout t a, .supervisedMeasure t a b,
       .supFaultTimeout t a, .foRestartStep t, .foOverloadTimeout t a b, .foThermalShutdown t a u, .foOverloadRetry t a,
       .foCooled t a, .foOpenWireTimeout t a b, .foOffDiagJudged t a b, .vfoLevelChange t u],
      Keeps i t s fun n m => { m with field := n.field }) ∧
    (∀ (a : Nat) (p : Bool), Keeps (Instr.barrierLaneLost t a p) t s fun n m => { m with free := n.free, ring := n.ring, field := n.field })

/-- Rows of time, buses, records, the pair, security, the warden and the host window leave every other part alone (R345, R392, R421, R446, R459, R517,
R524, R327): For each of the rows of the logic side named in it and every operand, when it answers a next state: the command queue, all of memory
and every part of the module other than the parts named for it and what events and replies touch (recorder, FIFOs, interpreter, CAN and Ethernet
transport, outgoing packets) are as before. -/
def Obligations.LogicSideRowsKeep : Prop :=
  ∀ (s : State) (t : Nat),
    (∀ (y : Word) (a b c : Nat) (z : Transport) (y1 : TxErr) (p : Bool), ∀ i ∈
      [Instr.evtFifoRead t, .hwIrqStatusClear t y, .cmdErrFlush t, .timeSnapRead t, .registerWrite t a y, .spiTransactionAborted t,
       .canTpNCrTimeout t a, .canTpNBsTimeout t a, .segmentTimeout t z, .canRateDwellEnd t a, .canTxSuccess t a b c,
       .canTxErrorFrame t a b y1, .canBusOffRecovered t a, .canModeApply t a, .canBusIntegrated t a, .canTxdTimeout t a,
       .canBusDominant t a, .recordTakeIn t, .recordFlushTimer t, .opTimeSave t,
       .snapshotSample t, .snapshotCollectDone t, .logReadTimeout t, .canRxError t a p, .transceiverThermal t a],
      Keeps i t s fun _ m => m) ∧
    (∀ (a b c : Nat), Keeps (Instr.nandBlockFailure t a b c) t s fun n m => { m with free := n.free }) ∧
    (∀ (y : Machine.LeaseMsg), Keeps (Instr.leaveReceived t y) t s fun n m => { m with loads := n.loads, field := n.field, pair := n.pair }) ∧
    (∀ (a : Nat), ∀ i ∈
      [Instr.doorbellCv t a, .cvPaceReady t a, .cvRecorderResume t, .traceSample t a, .nandFlushDone t],
      Keeps i t s fun n m => { m with cv := n.cv }) ∧
    (∀ (a b c : Nat) (p : Bool), ∀ i ∈
      [Instr.doorbellEthRx t, .udpReassemblyTimeout t a b, .ethLinkChange t a p b c, .ethAddressAged t a b],
      Keeps i t s fun n m => { m with eth := n.eth }) ∧
    (∀ (a : Nat) (p : Bool), ∀ i ∈
      [Instr.canPiPeriod t a, .tamperTrip t a, .tamperCleared t a, .sessionConfirmTimeout t a, .sessionExpiry t a,
       .subtreeBuildDone t, .freshnessLow t a, .debugProbeAttached t p],
      Keeps i t s fun n m => { m with sec := n.sec }) ∧
    (∀ (p : Bool), Keeps (Instr.trdpPdPeriod t p) t s fun n m => { m with sec := n.sec, eth := n.eth }) ∧
    (∀ (a : Nat), ∀ i ∈
      [Instr.ptpSourceLost t, .holdoverExpiry t, .ppsOutPulse t, .ppsOutFall t, .compareTargetArm t a, .ref25mLost t,
       .ref25mRestored t],
      Keeps i t s fun n m => { m with time := n.time }) ∧
    (∀ (a b : Nat) (y : CanFrame), Keeps (Instr.canFrameReceived t a b y) t s fun n m => { m with free := n.free }) ∧
    (∀ (y : Machine.LeaseMsg) (a : Nat) (p : Bool), ∀ i ∈
      [Instr.leaseRenewSend t, .leaseRenewReceived t y, .helloSend t, .helloReceived t y, .claimReceived t y,
       .fenceOutputEnd t a, .discordTimeout t, .mirrorEpochClose t p, .epochCommitTimeout t, .standbyFit t, .rotateDue t,
       .revertDue t, .discordantEnd t, .leveePortChange t a p, .forwardTimeout t a, .fenceWireFault t a],
      Keeps i t s fun n m => { m with pair := n.pair }) ∧
    (∀ (p : Bool) (a : Nat) (u : Int), ∀ i ∈
      [Instr.condensationChange t, .imageEraseDone t p, .imageVerifyDone t, .holdupStateChange t a, .holdupReadyTimeout t,
       .holdupCapMeasure t a, .baseplateHot t a u, .baseplateHotClear t a u],
      Keeps i t s fun n m => { m with warden := n.warden }) ∧
    (∀ (a : Nat), Keeps (Instr.memTransientReport t a) t s fun n m => { m with islands := n.islands }) ∧
    (∀ (a : Nat), Keeps (Instr.traceSpacingSample t a) t s fun n m => { m with portals := n.portals })
end

