-- ==== Sys2Proof/Laws/State.lean ====
section
/-! SUPPORT. What each operation on the state leaves alone, all fields of an operation together, and what it writes; how a frame passes
through a list of updates; what a happening and a step are. -/

namespace Sys2Proof.Machine

variable (m : ModuleState)

@[simp] theorem ModuleState.setAxis_frame (a : Nat) (f : Axis → Axis) :
    (m.setAxis a f).now = m.now ∧ (m.setAxis a f).free = m.free ∧ (m.setAxis a f).variant = m.variant ∧
    (m.setAxis a f).islands = m.islands ∧ (m.setAxis a f).reset = m.reset ∧ (m.setAxis a f).portals = m.portals ∧
    (m.setAxis a f).profiles = m.profiles ∧ (m.setAxis a f).drives = m.drives ∧ (m.setAxis a f).driveCommon = m.driveCommon ∧
    (m.setAxis a f).feedback = m.feedback ∧ (m.setAxis a f).obst = m.obst ∧ (m.setAxis a f).ring = m.ring ∧
    (m.setAxis a f).loads = m.loads ∧ (m.setAxis a f).loadCommon = m.loadCommon ∧ (m.setAxis a f).field = m.field ∧
    (m.setAxis a f).host = m.host ∧ (m.setAxis a f).interp = m.interp ∧ (m.setAxis a f).time = m.time ∧ (m.setAxis a f).sec = m.sec ∧
    (m.setAxis a f).recd = m.recd ∧ (m.setAxis a f).can = m.can ∧ (m.setAxis a f).eth = m.eth ∧ (m.setAxis a f).cv = m.cv ∧
    (m.setAxis a f).warden = m.warden ∧ (m.setAxis a f).pair = m.pair ∧ (m.setAxis a f).out = m.out :=
  ⟨rfl, rfl, rfl, rfl, rfl, rfl, rfl, rfl, rfl, rfl, rfl, rfl, rfl, rfl, rfl, rfl, rfl, rfl, rfl, rfl, rfl, rfl, rfl, rfl, rfl, rfl⟩

@[simp] theorem ModuleState.setDrive_frame (a : Nat) (f : Drive → Drive) :
    (m.setDrive a f).now = m.now ∧ (m.setDrive a f).free = m.free ∧ (m.setDrive a f).variant = m.variant ∧
    (m.setDrive a f).islands = m.islands ∧ (m.setDrive a f).reset = m.reset ∧ (m.setDrive a f).portals = m.portals ∧
    (m.setDrive a f).profiles = m.profiles ∧ (m.setDrive a f).axes = m.axes ∧ (m.setDrive a f).driveCommon = m.driveCommon ∧
    (m.setDrive a f).feedback = m.feedback ∧ (m.setDrive a f).obst = m.obst ∧ (m.setDrive a f).ring = m.ring ∧
    (m.setDrive a f).loads = m.loads ∧ (m.setDrive a f).loadCommon = m.loadCommon ∧ (m.setDrive a f).field = m.field ∧
    (m.setDrive a f).host = m.host ∧ (m.setDrive a f).interp = m.interp ∧ (m.setDrive a f).time = m.time ∧ (m.setDrive a f).sec = m.sec ∧
    (m.setDrive a f).recd = m.recd ∧ (m.setDrive a f).can = m.can ∧ (m.setDrive a f).eth = m.eth ∧ (m.setDrive a f).cv = m.cv ∧
    (m.setDrive a f).warden = m.warden ∧ (m.setDrive a f).pair = m.pair ∧ (m.setDrive a f).out = m.out :=
  ⟨rfl, rfl, rfl, rfl, rfl, rfl, rfl, rfl, rfl, rfl, rfl, rfl, rfl, rfl, rfl, rfl, rfl, rfl, rfl, rfl, rfl, rfl, rfl, rfl, rfl, rfl⟩

@[simp] theorem ModuleState.setFb_frame (a : Nat) (f : Feedback → Feedback) :
    (m.setFb a f).now = m.now ∧ (m.setFb a f).free = m.free ∧ (m.setFb a f).variant = m.variant ∧ (m.setFb a f).islands = m.islands ∧
    (m.setFb a f).reset = m.reset ∧ (m.setFb a f).portals = m.portals ∧ (m.setFb a f).profiles = m.profiles ∧ (m.setFb a f).axes = m.axes ∧
    (m.setFb a f).drives = m.drives ∧ (m.setFb a f).driveCommon = m.driveCommon ∧ (m.setFb a f).obst = m.obst ∧
    (m.setFb a f).ring = m.ring ∧ (m.setFb a f).loads = m.loads ∧ (m.setFb a f).loadCommon = m.loadCommon ∧ (m.setFb a f).field = m.field ∧
    (m.setFb a f).host = m.host ∧ (m.setFb a f).interp = m.interp ∧ (m.setFb a f).time = m.time ∧ (m.setFb a f).sec = m.sec ∧
    (m.setFb a f).recd = m.recd ∧ (m.setFb a f).can = m.can ∧ (m.setFb a f).eth = m.eth ∧ (m.setFb a f).cv = m.cv ∧
    (m.setFb a f).warden = m.warden ∧ (m.setFb a f).pair = m.pair ∧ (m.setFb a f).out = m.out :=
  ⟨rfl, rfl, rfl, rfl, rfl, rfl, rfl, rfl, rfl, rfl, rfl, rfl, rfl, rfl, rfl, rfl, rfl, rfl, rfl, rfl, rfl, rfl, rfl, rfl, rfl, rfl⟩

@[simp] theorem ModuleState.setPortal_frame (p : Nat) (f : Portal → Portal) :
    (m.setPortal p f).now = m.now ∧ (m.setPortal p f).free = m.free ∧ (m.setPortal p f).variant = m.variant ∧
    (m.setPortal p f).islands = m.islands ∧ (m.setPortal p f).reset = m.reset ∧ (m.setPortal p f).profiles = m.profiles ∧
    (m.setPortal p f).axes = m.axes ∧ (m.setPortal p f).drives = m.drives ∧ (m.setPortal p f).driveCommon = m.driveCommon ∧
    (m.setPortal p f).feedback = m.feedback ∧ (m.setPortal p f).obst = m.obst ∧ (m.setPortal p f).ring = m.ring ∧
    (m.setPortal p f).loads = m.loads ∧ (m.setPortal p f).loadCommon = m.loadCommon ∧ (m.setPortal p f).field = m.field ∧
    (m.setPortal p f).host = m.host ∧ (m.setPortal p f).interp = m.interp ∧ (m.setPortal p f).time = m.time ∧
    (m.setPortal p f).sec = m.sec ∧ (m.setPortal p f).recd = m.recd ∧ (m.setPortal p f).can = m.can ∧ (m.setPortal p f).eth = m.eth ∧
    (m.setPortal p f).cv = m.cv ∧ (m.setPortal p f).warden = m.warden ∧ (m.setPortal p f).pair = m.pair ∧ (m.setPortal p f).out = m.out :=
  ⟨rfl, rfl, rfl, rfl, rfl, rfl, rfl, rfl, rfl, rfl, rfl, rfl, rfl, rfl, rfl, rfl, rfl, rfl, rfl, rfl, rfl, rfl, rfl, rfl, rfl, rfl⟩

@[simp] theorem ModuleState.setOb_frame (p : Nat) (f : Obstacle → Obstacle) :
    (m.setOb p f).now = m.now ∧ (m.setOb p f).free = m.free ∧ (m.setOb p f).variant = m.variant ∧ (m.setOb p f).islands = m.islands ∧
    (m.setOb p f).reset = m.reset ∧ (m.setOb p f).portals = m.portals ∧ (m.setOb p f).profiles = m.profiles ∧ (m.setOb p f).axes = m.axes ∧
    (m.setOb p f).drives = m.drives ∧ (m.setOb p f).driveCommon = m.driveCommon ∧ (m.setOb p f).feedback = m.feedback ∧
    (m.setOb p f).ring = m.ring ∧ (m.setOb p f).loads = m.loads ∧ (m.setOb p f).loadCommon = m.loadCommon ∧ (m.setOb p f).field = m.field ∧
    (m.setOb p f).host = m.host ∧ (m.setOb p f).interp = m.interp ∧ (m.setOb p f).time = m.time ∧ (m.setOb p f).sec = m.sec ∧
    (m.setOb p f).recd = m.recd ∧ (m.setOb p f).can = m.can ∧ (m.setOb p f).eth = m.eth ∧ (m.setOb p f).cv = m.cv ∧
    (m.setOb p f).warden = m.warden ∧ (m.setOb p f).pair = m.pair ∧ (m.setOb p f).out = m.out :=
  ⟨rfl, rfl, rfl, rfl, rfl, rfl, rfl, rfl, rfl, rfl, rfl, rfl, rfl, rfl, rfl, rfl, rfl, rfl, rfl, rfl, rfl, rfl, rfl, rfl, rfl, rfl⟩

@[simp] theorem ModuleState.setLoad_frame (n : Nat) (f : Load → Load) :
    (m.setLoad n f).now = m.now ∧ (m.setLoad n f).free = m.free ∧ (m.setLoad n f).variant = m.variant ∧
    (m.setLoad n f).islands = m.islands ∧ (m.setLoad n f).reset = m.reset ∧ (m.setLoad n f).portals = m.portals ∧
    (m.setLoad n f).profiles = m.profiles ∧ (m.setLoad n f).axes = m.axes ∧ (m.setLoad n f).drives = m.drives ∧
    (m.setLoad n f).driveCommon = m.driveCommon ∧ (m.setLoad n f).feedback = m.feedback ∧ (m.setLoad n f).obst = m.obst ∧
    (m.setLoad n f).ring = m.ring ∧ (m.setLoad n f).loadCommon = m.loadCommon ∧ (m.setLoad n f).field = m.field ∧
    (m.setLoad n f).host = m.host ∧ (m.setLoad n f).interp = m.interp ∧ (m.setLoad n f).time = m.time ∧ (m.setLoad n f).sec = m.sec ∧
    (m.setLoad n f).recd = m.recd ∧ (m.setLoad n f).can = m.can ∧ (m.setLoad n f).eth = m.eth ∧ (m.setLoad n f).cv = m.cv ∧
    (m.setLoad n f).warden = m.warden ∧ (m.setLoad n f).pair = m.pair ∧ (m.setLoad n f).out = m.out :=
  ⟨rfl, rfl, rfl, rfl, rfl, rfl, rfl, rfl, rfl, rfl, rfl, rfl, rfl, rfl, rfl, rfl, rfl, rfl, rfl, rfl, rfl, rfl, rfl, rfl, rfl, rfl⟩

@[simp] theorem ModuleState.setLoads_frame (f : LoadCommon → LoadCommon) :
    (m.setLoads f).now = m.now ∧ (m.setLoads f).free = m.free ∧ (m.setLoads f).variant = m.variant ∧ (m.setLoads f).islands = m.islands ∧
    (m.setLoads f).reset = m.reset ∧ (m.setLoads f).portals = m.portals ∧ (m.setLoads f).profiles = m.profiles ∧
    (m.setLoads f).axes = m.axes ∧ (m.setLoads f).drives = m.drives ∧ (m.setLoads f).driveCommon = m.driveCommon ∧
    (m.setLoads f).feedback = m.feedback ∧ (m.setLoads f).obst = m.obst ∧ (m.setLoads f).ring = m.ring ∧ (m.setLoads f).loads = m.loads ∧
    (m.setLoads f).field = m.field ∧ (m.setLoads f).host = m.host ∧ (m.setLoads f).interp = m.interp ∧ (m.setLoads f).time = m.time ∧
    (m.setLoads f).sec = m.sec ∧ (m.setLoads f).recd = m.recd ∧ (m.setLoads f).can = m.can ∧ (m.setLoads f).eth = m.eth ∧
    (m.setLoads f).cv = m.cv ∧ (m.setLoads f).warden = m.warden ∧ (m.setLoads f).pair = m.pair ∧ (m.setLoads f).out = m.out :=
  ⟨rfl, rfl, rfl, rfl, rfl, rfl, rfl, rfl, rfl, rfl, rfl, rfl, rfl, rfl, rfl, rfl, rfl, rfl, rfl, rfl, rfl, rfl, rfl, rfl, rfl, rfl⟩

@[simp] theorem ModuleState.setFin_frame (n : Nat) (f : FieldIn → FieldIn) :
    (m.setFin n f).now = m.now ∧ (m.setFin n f).free = m.free ∧ (m.setFin n f).variant = m.variant ∧ (m.setFin n f).islands = m.islands ∧
    (m.setFin n f).reset = m.reset ∧ (m.setFin n f).portals = m.portals ∧ (m.setFin n f).profiles = m.profiles ∧
    (m.setFin n f).axes = m.axes ∧ (m.setFin n f).drives = m.drives ∧ (m.setFin n f).driveCommon = m.driveCommon ∧
    (m.setFin n f).feedback = m.feedback ∧ (m.setFin n f).obst = m.obst ∧ (m.setFin n f).ring = m.ring ∧ (m.setFin n f).loads = m.loads ∧
    (m.setFin n f).loadCommon = m.loadCommon ∧ (m.setFin n f).host = m.host ∧ (m.setFin n f).interp = m.interp ∧
    (m.setFin n f).time = m.time ∧ (m.setFin n f).sec = m.sec ∧ (m.setFin n f).recd = m.recd ∧ (m.setFin n f).can = m.can ∧
    (m.setFin n f).eth = m.eth ∧ (m.setFin n f).cv = m.cv ∧ (m.setFin n f).warden = m.warden ∧ (m.setFin n f).pair = m.pair ∧
    (m.setFin n f).out = m.out :=
  ⟨rfl, rfl, rfl, rfl, rfl, rfl, rfl, rfl, rfl, rfl, rfl, rfl, rfl, rfl, rfl, rfl, rfl, rfl, rfl, rfl, rfl, rfl, rfl, rfl, rfl, rfl⟩

@[simp] theorem ModuleState.setFout_frame (n : Nat) (f : FieldOut → FieldOut) :
    (m.setFout n f).now = m.now ∧ (m.setFout n f).free = m.free ∧ (m.setFout n f).variant = m.variant ∧
    (m.setFout n f).islands = m.islands ∧ (m.setFout n f).reset = m.reset ∧ (m.setFout n f).portals = m.portals ∧
    (m.setFout n f).profiles = m.profiles ∧ (m.setFout n f).axes = m.axes ∧ (m.setFout n f).drives = m.drives ∧
    (m.setFout n f).driveCommon = m.driveCommon ∧ (m.setFout n f).feedback = m.feedback ∧ (m.setFout n f).obst = m.obst ∧
    (m.setFout n f).ring = m.ring ∧ (m.setFout n f).loads = m.loads ∧ (m.setFout n f).loadCommon = m.loadCommon ∧
    (m.setFout n f).host = m.host ∧ (m.setFout n f).interp = m.interp ∧ (m.setFout n f).time = m.time ∧ (m.setFout n f).sec = m.sec ∧
    (m.setFout n f).recd = m.recd ∧ (m.setFout n f).can = m.can ∧ (m.setFout n f).eth = m.eth ∧ (m.setFout n f).cv = m.cv ∧
    (m.setFout n f).warden = m.warden ∧ (m.setFout n f).pair = m.pair ∧ (m.setFout n f).out = m.out :=
  ⟨rfl, rfl, rfl, rfl, rfl, rfl, rfl, rfl, rfl, rfl, rfl, rfl, rfl, rfl, rfl, rfl, rfl, rfl, rfl, rfl, rfl, rfl, rfl, rfl, rfl, rfl⟩

@[simp] theorem ModuleState.setField_frame (f : Foreland → Foreland) :
    (m.setField f).now = m.now ∧ (m.setField f).free = m.free ∧ (m.setField f).variant = m.variant ∧ (m.setField f).islands = m.islands ∧
    (m.setField f).reset = m.reset ∧ (m.setField f).portals = m.portals ∧ (m.setField f).profiles = m.profiles ∧
    (m.setField f).axes = m.axes ∧ (m.setField f).drives = m.drives ∧ (m.setField f).driveCommon = m.driveCommon ∧
    (m.setField f).feedback = m.feedback ∧ (m.setField f).obst = m.obst ∧ (m.setField f).ring = m.ring ∧ (m.setField f).loads = m.loads ∧
    (m.setField f).loadCommon = m.loadCommon ∧ (m.setField f).host = m.host ∧ (m.setField f).interp = m.interp ∧
    (m.setField f).time = m.time ∧ (m.setField f).sec = m.sec ∧ (m.setField f).recd = m.recd ∧ (m.setField f).can = m.can ∧
    (m.setField f).eth = m.eth ∧ (m.setField f).cv = m.cv ∧ (m.setField f).warden = m.warden ∧ (m.setField f).pair = m.pair ∧
    (m.setField f).out = m.out :=
  ⟨rfl, rfl, rfl, rfl, rfl, rfl, rfl, rfl, rfl, rfl, rfl, rfl, rfl, rfl, rfl, rfl, rfl, rfl, rfl, rfl, rfl, rfl, rfl, rfl, rfl, rfl⟩

@[simp] theorem ModuleState.setIsland_frame (i : Nat) (f : Island → Island) :
    (m.setIsland i f).now = m.now ∧ (m.setIsland i f).free = m.free ∧ (m.setIsland i f).variant = m.variant ∧
    (m.setIsland i f).reset = m.reset ∧ (m.setIsland i f).portals = m.portals ∧ (m.setIsland i f).profiles = m.profiles ∧
    (m.setIsland i f).axes = m.axes ∧ (m.setIsland i f).drives = m.drives ∧ (m.setIsland i f).driveCommon = m.driveCommon ∧
    (m.setIsland i f).feedback = m.feedback ∧ (m.setIsland i f).obst = m.obst ∧ (m.setIsland i f).ring = m.ring ∧
    (m.setIsland i f).loads = m.loads ∧ (m.setIsland i f).loadCommon = m.loadCommon ∧ (m.setIsland i f).field = m.field ∧
    (m.setIsland i f).host = m.host ∧ (m.setIsland i f).interp = m.interp ∧ (m.setIsland i f).time = m.time ∧
    (m.setIsland i f).sec = m.sec ∧ (m.setIsland i f).recd = m.recd ∧ (m.setIsland i f).can = m.can ∧ (m.setIsland i f).eth = m.eth ∧
    (m.setIsland i f).cv = m.cv ∧ (m.setIsland i f).warden = m.warden ∧ (m.setIsland i f).pair = m.pair ∧ (m.setIsland i f).out = m.out :=
  ⟨rfl, rfl, rfl, rfl, rfl, rfl, rfl, rfl, rfl, rfl, rfl, rfl, rfl, rfl, rfl, rfl, rfl, rfl, rfl, rfl, rfl, rfl, rfl, rfl, rfl, rfl⟩

@[simp] theorem ModuleState.setCtl_frame (c : Nat) (f : Can → Can) :
    (m.setCtl c f).now = m.now ∧ (m.setCtl c f).free = m.free ∧ (m.setCtl c f).variant = m.variant ∧ (m.setCtl c f).islands = m.islands ∧
    (m.setCtl c f).reset = m.reset ∧ (m.setCtl c f).portals = m.portals ∧ (m.setCtl c f).profiles = m.profiles ∧
    (m.setCtl c f).axes = m.axes ∧ (m.setCtl c f).drives = m.drives ∧ (m.setCtl c f).driveCommon = m.driveCommon ∧
    (m.setCtl c f).feedback = m.feedback ∧ (m.setCtl c f).obst = m.obst ∧ (m.setCtl c f).ring = m.ring ∧ (m.setCtl c f).loads = m.loads ∧
    (m.setCtl c f).loadCommon = m.loadCommon ∧ (m.setCtl c f).field = m.field ∧ (m.setCtl c f).host = m.host ∧
    (m.setCtl c f).interp = m.interp ∧ (m.setCtl c f).time = m.time ∧ (m.setCtl c f).sec = m.sec ∧ (m.setCtl c f).recd = m.recd ∧
    (m.setCtl c f).eth = m.eth ∧ (m.setCtl c f).cv = m.cv ∧ (m.setCtl c f).warden = m.warden ∧ (m.setCtl c f).pair = m.pair ∧
    (m.setCtl c f).out = m.out :=
  ⟨rfl, rfl, rfl, rfl, rfl, rfl, rfl, rfl, rfl, rfl, rfl, rfl, rfl, rfl, rfl, rfl, rfl, rfl, rfl, rfl, rfl, rfl, rfl, rfl, rfl, rfl⟩

@[simp] theorem ModuleState.setChan_frame (c : Nat) (f : CvChan → CvChan) :
    (m.setChan c f).now = m.now ∧ (m.setChan c f).free = m.free ∧ (m.setChan c f).variant = m.variant ∧
    (m.setChan c f).islands = m.islands ∧ (m.setChan c f).reset = m.reset ∧ (m.setChan c f).portals = m.portals ∧
    (m.setChan c f).profiles = m.profiles ∧ (m.setChan c f).axes = m.axes ∧ (m.setChan c f).drives = m.drives ∧
    (m.setChan c f).driveCommon = m.driveCommon ∧ (m.setChan c f).feedback = m.feedback ∧ (m.setChan c f).obst = m.obst ∧
    (m.setChan c f).ring = m.ring ∧ (m.setChan c f).loads = m.loads ∧ (m.setChan c f).loadCommon = m.loadCommon ∧
    (m.setChan c f).field = m.field ∧ (m.setChan c f).host = m.host ∧ (m.setChan c f).interp = m.interp ∧ (m.setChan c f).time = m.time ∧
    (m.setChan c f).sec = m.sec ∧ (m.setChan c f).recd = m.recd ∧ (m.setChan c f).can = m.can ∧ (m.setChan c f).eth = m.eth ∧
    (m.setChan c f).warden = m.warden ∧ (m.setChan c f).pair = m.pair ∧ (m.setChan c f).out = m.out :=
  ⟨rfl, rfl, rfl, rfl, rfl, rfl, rfl, rfl, rfl, rfl, rfl, rfl, rfl, rfl, rfl, rfl, rfl, rfl, rfl, rfl, rfl, rfl, rfl, rfl, rfl, rfl⟩

@[simp] theorem ModuleState.setRing_frame (f : DikeRing → DikeRing) :
    (m.setRing f).now = m.now ∧ (m.setRing f).free = m.free ∧ (m.setRing f).variant = m.variant ∧ (m.setRing f).islands = m.islands ∧
    (m.setRing f).reset = m.reset ∧ (m.setRing f).portals = m.portals ∧ (m.setRing f).profiles = m.profiles ∧ (m.setRing f).axes = m.axes ∧
    (m.setRing f).drives = m.drives ∧ (m.setRing f).driveCommon = m.driveCommon ∧ (m.setRing f).feedback = m.feedback ∧
    (m.setRing f).obst = m.obst ∧ (m.setRing f).loads = m.loads ∧ (m.setRing f).loadCommon = m.loadCommon ∧ (m.setRing f).field = m.field ∧
    (m.setRing f).host = m.host ∧ (m.setRing f).interp = m.interp ∧ (m.setRing f).time = m.time ∧ (m.setRing f).sec = m.sec ∧
    (m.setRing f).recd = m.recd ∧ (m.setRing f).can = m.can ∧ (m.setRing f).eth = m.eth ∧ (m.setRing f).cv = m.cv ∧
    (m.setRing f).warden = m.warden ∧ (m.setRing f).pair = m.pair ∧ (m.setRing f).out = m.out :=
  ⟨rfl, rfl, rfl, rfl, rfl, rfl, rfl, rfl, rfl, rfl, rfl, rfl, rfl, rfl, rfl, rfl, rfl, rfl, rfl, rfl, rfl, rfl, rfl, rfl, rfl, rfl⟩

@[simp] theorem ModuleState.setSafety_frame (k : Nat) (f : Safety → Safety) :
    (m.setSafety k f).now = m.now ∧ (m.setSafety k f).free = m.free ∧ (m.setSafety k f).variant = m.variant ∧
    (m.setSafety k f).islands = m.islands ∧ (m.setSafety k f).reset = m.reset ∧ (m.setSafety k f).portals = m.portals ∧
    (m.setSafety k f).profiles = m.profiles ∧ (m.setSafety k f).axes = m.axes ∧ (m.setSafety k f).drives = m.drives ∧
    (m.setSafety k f).driveCommon = m.driveCommon ∧ (m.setSafety k f).feedback = m.feedback ∧ (m.setSafety k f).obst = m.obst ∧
    (m.setSafety k f).loads = m.loads ∧ (m.setSafety k f).loadCommon = m.loadCommon ∧ (m.setSafety k f).field = m.field ∧
    (m.setSafety k f).host = m.host ∧ (m.setSafety k f).interp = m.interp ∧ (m.setSafety k f).time = m.time ∧
    (m.setSafety k f).sec = m.sec ∧ (m.setSafety k f).recd = m.recd ∧ (m.setSafety k f).can = m.can ∧ (m.setSafety k f).eth = m.eth ∧
    (m.setSafety k f).cv = m.cv ∧ (m.setSafety k f).warden = m.warden ∧ (m.setSafety k f).pair = m.pair ∧ (m.setSafety k f).out = m.out :=
  ⟨rfl, rfl, rfl, rfl, rfl, rfl, rfl, rfl, rfl, rfl, rfl, rfl, rfl, rfl, rfl, rfl, rfl, rfl, rfl, rfl, rfl, rfl, rfl, rfl, rfl, rfl⟩

@[simp] theorem ModuleState.setTest_frame (f : RingTest → RingTest) :
    (m.setTest f).now = m.now ∧ (m.setTest f).free = m.free ∧ (m.setTest f).variant = m.variant ∧ (m.setTest f).islands = m.islands ∧
    (m.setTest f).reset = m.reset ∧ (m.setTest f).portals = m.portals ∧ (m.setTest f).profiles = m.profiles ∧ (m.setTest f).axes = m.axes ∧
    (m.setTest f).drives = m.drives ∧ (m.setTest f).driveCommon = m.driveCommon ∧ (m.setTest f).feedback = m.feedback ∧
    (m.setTest f).obst = m.obst ∧ (m.setTest f).loads = m.loads ∧ (m.setTest f).loadCommon = m.loadCommon ∧ (m.setTest f).field = m.field ∧
    (m.setTest f).host = m.host ∧ (m.setTest f).interp = m.interp ∧ (m.setTest f).time = m.time ∧ (m.setTest f).sec = m.sec ∧
    (m.setTest f).recd = m.recd ∧ (m.setTest f).can = m.can ∧ (m.setTest f).eth = m.eth ∧ (m.setTest f).cv = m.cv ∧
    (m.setTest f).warden = m.warden ∧ (m.setTest f).pair = m.pair ∧ (m.setTest f).out = m.out :=
  ⟨rfl, rfl, rfl, rfl, rfl, rfl, rfl, rfl, rfl, rfl, rfl, rfl, rfl, rfl, rfl, rfl, rfl, rfl, rfl, rfl, rfl, rfl, rfl, rfl, rfl, rfl⟩

@[simp] theorem ModuleState.setTime_frame (f : TimeUnit → TimeUnit) :
    (m.setTime f).now = m.now ∧ (m.setTime f).free = m.free ∧ (m.setTime f).variant = m.variant ∧ (m.setTime f).islands = m.islands ∧
    (m.setTime f).reset = m.reset ∧ (m.setTime f).portals = m.portals ∧ (m.setTime f).profiles = m.profiles ∧ (m.setTime f).axes = m.axes ∧
    (m.setTime f).drives = m.drives ∧ (m.setTime f).driveCommon = m.driveCommon ∧ (m.setTime f).feedback = m.feedback ∧
    (m.setTime f).obst = m.obst ∧ (m.setTime f).ring = m.ring ∧ (m.setTime f).loads = m.loads ∧ (m.setTime f).loadCommon = m.loadCommon ∧
    (m.setTime f).field = m.field ∧ (m.setTime f).host = m.host ∧ (m.setTime f).interp = m.interp ∧ (m.setTime f).sec = m.sec ∧
    (m.setTime f).recd = m.recd ∧ (m.setTime f).can = m.can ∧ (m.setTime f).eth = m.eth ∧ (m.setTime f).cv = m.cv ∧
    (m.setTime f).warden = m.warden ∧ (m.setTime f).pair = m.pair ∧ (m.setTime f).out = m.out :=
  ⟨rfl, rfl, rfl, rfl, rfl, rfl, rfl, rfl, rfl, rfl, rfl, rfl, rfl, rfl, rfl, rfl, rfl, rfl, rfl, rfl, rfl, rfl, rfl, rfl, rfl, rfl⟩

@[simp] theorem ModuleState.setSec_frame (f : Security → Security) :
    (m.setSec f).now = m.now ∧ (m.setSec f).free = m.free ∧ (m.setSec f).variant = m.variant ∧ (m.setSec f).islands = m.islands ∧
    (m.setSec f).reset = m.reset ∧ (m.setSec f).portals = m.portals ∧ (m.setSec f).profiles = m.profiles ∧ (m.setSec f).axes = m.axes ∧
    (m.setSec f).drives = m.drives ∧ (m.setSec f).driveCommon = m.driveCommon ∧ (m.setSec f).feedback = m.feedback ∧
    (m.setSec f).obst = m.obst ∧ (m.setSec f).ring = m.ring ∧ (m.setSec f).loads = m.loads ∧ (m.setSec f).loadCommon = m.loadCommon ∧
    (m.setSec f).field = m.field ∧ (m.setSec f).host = m.host ∧ (m.setSec f).interp = m.interp ∧ (m.setSec f).time = m.time ∧
    (m.setSec f).recd = m.recd ∧ (m.setSec f).can = m.can ∧ (m.setSec f).eth = m.eth ∧ (m.setSec f).cv = m.cv ∧
    (m.setSec f).warden = m.warden ∧ (m.setSec f).pair = m.pair ∧ (m.setSec f).out = m.out :=
  ⟨rfl, rfl, rfl, rfl, rfl, rfl, rfl, rfl, rfl, rfl, rfl, rfl, rfl, rfl, rfl, rfl, rfl, rfl, rfl, rfl, rfl, rfl, rfl, rfl, rfl, rfl⟩

@[simp] theorem ModuleState.setRec_frame (f : Recorder → Recorder) :
    (m.setRec f).now = m.now ∧ (m.setRec f).free = m.free ∧ (m.setRec f).variant = m.variant ∧ (m.setRec f).islands = m.islands ∧
    (m.setRec f).reset = m.reset ∧ (m.setRec f).portals = m.portals ∧ (m.setRec f).profiles = m.profiles ∧ (m.setRec f).axes = m.axes ∧
    (m.setRec f).drives = m.drives ∧ (m.setRec f).driveCommon = m.driveCommon ∧ (m.setRec f).feedback = m.feedback ∧
    (m.setRec f).obst = m.obst ∧ (m.setRec f).ring = m.ring ∧ (m.setRec f).loads = m.loads ∧ (m.setRec f).loadCommon = m.loadCommon ∧
    (m.setRec f).field = m.field ∧ (m.setRec f).host = m.host ∧ (m.setRec f).interp = m.interp ∧ (m.setRec f).time = m.time ∧
    (m.setRec f).sec = m.sec ∧ (m.setRec f).can = m.can ∧ (m.setRec f).eth = m.eth ∧ (m.setRec f).cv = m.cv ∧
    (m.setRec f).warden = m.warden ∧ (m.setRec f).pair = m.pair ∧ (m.setRec f).out = m.out :=
  ⟨rfl, rfl, rfl, rfl, rfl, rfl, rfl, rfl, rfl, rfl, rfl, rfl, rfl, rfl, rfl, rfl, rfl, rfl, rfl, rfl, rfl, rfl, rfl, rfl, rfl, rfl⟩

@[simp] theorem ModuleState.setWarden_frame (f : Warden → Warden) :
    (m.setWarden f).now = m.now ∧ (m.setWarden f).free = m.free ∧ (m.setWarden f).variant = m.variant ∧
    (m.setWarden f).islands = m.islands ∧ (m.setWarden f).reset = m.reset ∧ (m.setWarden f).portals = m.portals ∧
    (m.setWarden f).profiles = m.profiles ∧ (m.setWarden f).axes = m.axes ∧ (m.setWarden f).drives = m.drives ∧
    (m.setWarden f).driveCommon = m.driveCommon ∧ (m.setWarden f).feedback = m.feedback ∧ (m.setWarden f).obst = m.obst ∧
    (m.setWarden f).ring = m.ring ∧ (m.setWarden f).loads = m.loads ∧ (m.setWarden f).loadCommon = m.loadCommon ∧
    (m.setWarden f).field = m.field ∧ (m.setWarden f).host = m.host ∧ (m.setWarden f).interp = m.interp ∧ (m.setWarden f).time = m.time ∧
    (m.setWarden f).sec = m.sec ∧ (m.setWarden f).recd = m.recd ∧ (m.setWarden f).can = m.can ∧ (m.setWarden f).eth = m.eth ∧
    (m.setWarden f).cv = m.cv ∧ (m.setWarden f).pair = m.pair ∧ (m.setWarden f).out = m.out :=
  ⟨rfl, rfl, rfl, rfl, rfl, rfl, rfl, rfl, rfl, rfl, rfl, rfl, rfl, rfl, rfl, rfl, rfl, rfl, rfl, rfl, rfl, rfl, rfl, rfl, rfl, rfl⟩

@[simp] theorem ModuleState.setPair_frame (f : Pair → Pair) :
    (m.setPair f).now = m.now ∧ (m.setPair f).free = m.free ∧ (m.setPair f).variant = m.variant ∧ (m.setPair f).islands = m.islands ∧
    (m.setPair f).reset = m.reset ∧ (m.setPair f).portals = m.portals ∧ (m.setPair f).profiles = m.profiles ∧ (m.setPair f).axes = m.axes ∧
    (m.setPair f).drives = m.drives ∧ (m.setPair f).driveCommon = m.driveCommon ∧ (m.setPair f).feedback = m.feedback ∧
    (m.setPair f).obst = m.obst ∧ (m.setPair f).ring = m.ring ∧ (m.setPair f).loads = m.loads ∧ (m.setPair f).loadCommon = m.loadCommon ∧
    (m.setPair f).field = m.field ∧ (m.setPair f).host = m.host ∧ (m.setPair f).interp = m.interp ∧ (m.setPair f).time = m.time ∧
    (m.setPair f).sec = m.sec ∧ (m.setPair f).recd = m.recd ∧ (m.setPair f).can = m.can ∧ (m.setPair f).eth = m.eth ∧
    (m.setPair f).cv = m.cv ∧ (m.setPair f).warden = m.warden ∧ (m.setPair f).out = m.out :=
  ⟨rfl, rfl, rfl, rfl, rfl, rfl, rfl, rfl, rfl, rfl, rfl, rfl, rfl, rfl, rfl, rfl, rfl, rfl, rfl, rfl, rfl, rfl, rfl, rfl, rfl, rfl⟩

@[simp] theorem ModuleState.setReset_frame (f : ResetState → ResetState) :
    (m.setReset f).now = m.now ∧ (m.setReset f).free = m.free ∧ (m.setReset f).variant = m.variant ∧ (m.setReset f).islands = m.islands ∧
    (m.setReset f).portals = m.portals ∧ (m.setReset f).profiles = m.profiles ∧ (m.setReset f).axes = m.axes ∧
    (m.setReset f).drives = m.drives ∧ (m.setReset f).driveCommon = m.driveCommon ∧ (m.setReset f).feedback = m.feedback ∧
    (m.setReset f).obst = m.obst ∧ (m.setReset f).ring = m.ring ∧ (m.setReset f).loads = m.loads ∧
    (m.setReset f).loadCommon = m.loadCommon ∧ (m.setReset f).field = m.field ∧ (m.setReset f).host = m.host ∧
    (m.setReset f).interp = m.interp ∧ (m.setReset f).time = m.time ∧ (m.setReset f).sec = m.sec ∧ (m.setReset f).recd = m.recd ∧
    (m.setReset f).can = m.can ∧ (m.setReset f).eth = m.eth ∧ (m.setReset f).cv = m.cv ∧ (m.setReset f).warden = m.warden ∧
    (m.setReset f).pair = m.pair ∧ (m.setReset f).out = m.out :=
  ⟨rfl, rfl, rfl, rfl, rfl, rfl, rfl, rfl, rfl, rfl, rfl, rfl, rfl, rfl, rfl, rfl, rfl, rfl, rfl, rfl, rfl, rfl, rfl, rfl, rfl, rfl⟩

@[simp] theorem ModuleState.setEth_frame (f : Eth → Eth) :
    (m.setEth f).now = m.now ∧ (m.setEth f).free = m.free ∧ (m.setEth f).variant = m.variant ∧ (m.setEth f).islands = m.islands ∧
    (m.setEth f).reset = m.reset ∧ (m.setEth f).portals = m.portals ∧ (m.setEth f).profiles = m.profiles ∧ (m.setEth f).axes = m.axes ∧
    (m.setEth f).drives = m.drives ∧ (m.setEth f).driveCommon = m.driveCommon ∧ (m.setEth f).feedback = m.feedback ∧
    (m.setEth f).obst = m.obst ∧ (m.setEth f).ring = m.ring ∧ (m.setEth f).loads = m.loads ∧ (m.setEth f).loadCommon = m.loadCommon ∧
    (m.setEth f).field = m.field ∧ (m.setEth f).host = m.host ∧ (m.setEth f).interp = m.interp ∧ (m.setEth f).time = m.time ∧
    (m.setEth f).sec = m.sec ∧ (m.setEth f).recd = m.recd ∧ (m.setEth f).can = m.can ∧ (m.setEth f).cv = m.cv ∧
    (m.setEth f).warden = m.warden ∧ (m.setEth f).pair = m.pair ∧ (m.setEth f).out = m.out :=
  ⟨rfl, rfl, rfl, rfl, rfl, rfl, rfl, rfl, rfl, rfl, rfl, rfl, rfl, rfl, rfl, rfl, rfl, rfl, rfl, rfl, rfl, rfl, rfl, rfl, rfl, rfl⟩

@[simp] theorem ModuleState.setHost_frame (f : HostWin → HostWin) :
    (m.setHost f).now = m.now ∧ (m.setHost f).free = m.free ∧ (m.setHost f).variant = m.variant ∧ (m.setHost f).islands = m.islands ∧
    (m.setHost f).reset = m.reset ∧ (m.setHost f).portals = m.portals ∧ (m.setHost f).profiles = m.profiles ∧ (m.setHost f).axes = m.axes ∧
    (m.setHost f).drives = m.drives ∧ (m.setHost f).driveCommon = m.driveCommon ∧ (m.setHost f).feedback = m.feedback ∧
    (m.setHost f).obst = m.obst ∧ (m.setHost f).ring = m.ring ∧ (m.setHost f).loads = m.loads ∧ (m.setHost f).loadCommon = m.loadCommon ∧
    (m.setHost f).field = m.field ∧ (m.setHost f).interp = m.interp ∧ (m.setHost f).time = m.time ∧ (m.setHost f).sec = m.sec ∧
    (m.setHost f).recd = m.recd ∧ (m.setHost f).can = m.can ∧ (m.setHost f).eth = m.eth ∧ (m.setHost f).cv = m.cv ∧
    (m.setHost f).warden = m.warden ∧ (m.setHost f).pair = m.pair ∧ (m.setHost f).out = m.out :=
  ⟨rfl, rfl, rfl, rfl, rfl, rfl, rfl, rfl, rfl, rfl, rfl, rfl, rfl, rfl, rfl, rfl, rfl, rfl, rfl, rfl, rfl, rfl, rfl, rfl, rfl, rfl⟩

@[simp] theorem ModuleState.withComm_frame (c : Comm) :
    (m.withComm c).now = m.now ∧ (m.withComm c).free = m.free ∧ (m.withComm c).variant = m.variant ∧ (m.withComm c).islands = m.islands ∧
    (m.withComm c).reset = m.reset ∧ (m.withComm c).portals = m.portals ∧ (m.withComm c).profiles = m.profiles ∧
    (m.withComm c).axes = m.axes ∧ (m.withComm c).drives = m.drives ∧ (m.withComm c).driveCommon = m.driveCommon ∧
    (m.withComm c).feedback = m.feedback ∧ (m.withComm c).obst = m.obst ∧ (m.withComm c).ring = m.ring ∧ (m.withComm c).loads = m.loads ∧
    (m.withComm c).loadCommon = m.loadCommon ∧ (m.withComm c).field = m.field ∧ (m.withComm c).time = m.time ∧ (m.withComm c).sec = m.sec ∧
    (m.withComm c).cv = m.cv ∧ (m.withComm c).warden = m.warden ∧ (m.withComm c).pair = m.pair :=
  ⟨rfl, rfl, rfl, rfl, rfl, rfl, rfl, rfl, rfl, rfl, rfl, rfl, rfl, rfl, rfl, rfl, rfl, rfl, rfl, rfl, rfl⟩

@[simp] theorem ModuleState.log_frame (code source : Nat) (items : List Int) :
    (m.log code source items).now = m.now ∧ (m.log code source items).free = m.free ∧ (m.log code source items).variant = m.variant ∧
    (m.log code source items).islands = m.islands ∧ (m.log code source items).reset = m.reset ∧
    (m.log code source items).portals = m.portals ∧ (m.log code source items).profiles = m.profiles ∧
    (m.log code source items).axes = m.axes ∧ (m.log code source items).drives = m.drives ∧
    (m.log code source items).driveCommon = m.driveCommon ∧ (m.log code source items).feedback = m.feedback ∧
    (m.log code source items).obst = m.obst ∧ (m.log code source items).ring = m.ring ∧ (m.log code source items).loads = m.loads ∧
    (m.log code source items).loadCommon = m.loadCommon ∧ (m.log code source items).field = m.field ∧
    (m.log code source items).time = m.time ∧ (m.log code source items).sec = m.sec ∧ (m.log code source items).cv = m.cv ∧ (m.log code source items).warden = m.warden ∧ (m.log code source items).pair = m.pair :=
  ⟨rfl, rfl, rfl, rfl, rfl, rfl, rfl, rfl, rfl, rfl, rfl, rfl, rfl, rfl, rfl, rfl, rfl, rfl, rfl, rfl, rfl⟩

@[simp] theorem ModuleState.logIf_frame (b : Bool) (code source : Nat) (items : List Int) :
    (m.logIf b code source items).now = m.now ∧ (m.logIf b code source items).free = m.free ∧
    (m.logIf b code source items).variant = m.variant ∧ (m.logIf b code source items).islands = m.islands ∧
    (m.logIf b code source items).reset = m.reset ∧ (m.logIf b code source items).portals = m.portals ∧
    (m.logIf b code source items).profiles = m.profiles ∧ (m.logIf b code source items).axes = m.axes ∧
    (m.logIf b code source items).drives = m.drives ∧ (m.logIf b code source items).driveCommon = m.driveCommon ∧
    (m.logIf b code source items).feedback = m.feedback ∧ (m.logIf b code source items).obst = m.obst ∧
    (m.logIf b code source items).ring = m.ring ∧ (m.logIf b code source items).loads = m.loads ∧
    (m.logIf b code source items).loadCommon = m.loadCommon ∧ (m.logIf b code source items).field = m.field ∧
    (m.logIf b code source items).time = m.time ∧ (m.logIf b code source items).sec = m.sec ∧ (m.logIf b code source items).cv = m.cv ∧ (m.logIf b code source items).warden = m.warden ∧
    (m.logIf b code source items).pair = m.pair :=
  ⟨rfl, rfl, rfl, rfl, rfl, rfl, rfl, rfl, rfl, rfl, rfl, rfl, rfl, rfl, rfl, rfl, rfl, rfl, rfl, rfl, rfl⟩

@[simp] theorem ModuleState.saturated_frame (max before source opcode off : Nat) :
    (m.saturated max before source opcode off).now = m.now ∧ (m.saturated max before source opcode off).free = m.free ∧
    (m.saturated max before source opcode off).variant = m.variant ∧ (m.saturated max before source opcode off).islands = m.islands ∧
    (m.saturated max before source opcode off).reset = m.reset ∧ (m.saturated max before source opcode off).portals = m.portals ∧
    (m.saturated max before source opcode off).profiles = m.profiles ∧ (m.saturated max before source opcode off).axes = m.axes ∧
    (m.saturated max before source opcode off).drives = m.drives ∧ (m.saturated max before source opcode off).driveCommon = m.driveCommon ∧
    (m.saturated max before source opcode off).feedback = m.feedback ∧ (m.saturated max before source opcode off).obst = m.obst ∧
    (m.saturated max before source opcode off).ring = m.ring ∧ (m.saturated max before source opcode off).loads = m.loads ∧
    (m.saturated max before source opcode off).loadCommon = m.loadCommon ∧ (m.saturated max before source opcode off).field = m.field ∧
    (m.saturated max before source opcode off).time = m.time ∧ (m.saturated max before source opcode off).sec = m.sec ∧
    (m.saturated max before source opcode off).cv = m.cv ∧
    (m.saturated max before source opcode off).warden = m.warden ∧ (m.saturated max before source opcode off).pair = m.pair :=
  ⟨rfl, rfl, rfl, rfl, rfl, rfl, rfl, rfl, rfl, rfl, rfl, rfl, rfl, rfl, rfl, rfl, rfl, rfl, rfl, rfl, rfl⟩

@[simp] theorem ModuleState.answer_frame (r : ReplyTo) (status : Nat) (data : List Byte) :
    (m.answer r status data).now = m.now ∧ (m.answer r status data).free = m.free ∧ (m.answer r status data).variant = m.variant ∧
    (m.answer r status data).islands = m.islands ∧ (m.answer r status data).reset = m.reset ∧ (m.answer r status data).portals = m.portals ∧
    (m.answer r status data).profiles = m.profiles ∧ (m.answer r status data).axes = m.axes ∧ (m.answer r status data).drives = m.drives ∧
    (m.answer r status data).driveCommon = m.driveCommon ∧ (m.answer r status data).feedback = m.feedback ∧
    (m.answer r status data).obst = m.obst ∧ (m.answer r status data).ring = m.ring ∧ (m.answer r status data).loads = m.loads ∧
    (m.answer r status data).loadCommon = m.loadCommon ∧ (m.answer r status data).field = m.field ∧ (m.answer r status data).time = m.time ∧
    (m.answer r status data).sec = m.sec ∧ (m.answer r status data).cv = m.cv ∧
    (m.answer r status data).warden = m.warden ∧ (m.answer r status data).pair = m.pair :=
  ⟨rfl, rfl, rfl, rfl, rfl, rfl, rfl, rfl, rfl, rfl, rfl, rfl, rfl, rfl, rfl, rfl, rfl, rfl, rfl, rfl, rfl⟩

@[simp] theorem ModuleState.settle_frame (ref : Nat) (status : Option Nat) (data : Option (List Byte)) :
    (m.settle ref status data).now = m.now ∧ (m.settle ref status data).free = m.free ∧ (m.settle ref status data).variant = m.variant ∧
    (m.settle ref status data).islands = m.islands ∧ (m.settle ref status data).reset = m.reset ∧
    (m.settle ref status data).portals = m.portals ∧ (m.settle ref status data).profiles = m.profiles ∧
    (m.settle ref status data).axes = m.axes ∧ (m.settle ref status data).drives = m.drives ∧
    (m.settle ref status data).driveCommon = m.driveCommon ∧ (m.settle ref status data).feedback = m.feedback ∧
    (m.settle ref status data).obst = m.obst ∧ (m.settle ref status data).ring = m.ring ∧ (m.settle ref status data).loads = m.loads ∧
    (m.settle ref status data).loadCommon = m.loadCommon ∧ (m.settle ref status data).field = m.field ∧
    (m.settle ref status data).time = m.time ∧ (m.settle ref status data).sec = m.sec ∧ (m.settle ref status data).cv = m.cv ∧ (m.settle ref status data).warden = m.warden ∧ (m.settle ref status data).pair = m.pair :=
  ⟨rfl, rfl, rfl, rfl, rfl, rfl, rfl, rfl, rfl, rfl, rfl, rfl, rfl, rfl, rfl, rfl, rfl, rfl, rfl, rfl, rfl⟩

@[simp] theorem ModuleState.endRef_frame (ref status : Nat) (data : List Byte) :
    (m.endRef ref status data).now = m.now ∧ (m.endRef ref status data).free = m.free ∧ (m.endRef ref status data).variant = m.variant ∧
    (m.endRef ref status data).islands = m.islands ∧ (m.endRef ref status data).reset = m.reset ∧
    (m.endRef ref status data).portals = m.portals ∧ (m.endRef ref status data).profiles = m.profiles ∧
    (m.endRef ref status data).axes = m.axes ∧ (m.endRef ref status data).drives = m.drives ∧
    (m.endRef ref status data).driveCommon = m.driveCommon ∧ (m.endRef ref status data).feedback = m.feedback ∧
    (m.endRef ref status data).obst = m.obst ∧ (m.endRef ref status data).ring = m.ring ∧ (m.endRef ref status data).loads = m.loads ∧
    (m.endRef ref status data).loadCommon = m.loadCommon ∧ (m.endRef ref status data).field = m.field ∧
    (m.endRef ref status data).time = m.time ∧ (m.endRef ref status data).sec = m.sec ∧ (m.endRef ref status data).cv = m.cv ∧ (m.endRef ref status data).warden = m.warden ∧ (m.endRef ref status data).pair = m.pair :=
  ⟨rfl, rfl, rfl, rfl, rfl, rfl, rfl, rfl, rfl, rfl, rfl, rfl, rfl, rfl, rfl, rfl, rfl, rfl, rfl, rfl, rfl⟩

@[simp] theorem ModuleState.discardOn_frame (x : Transport) :
    (m.discardOn x).now = m.now ∧ (m.discardOn x).free = m.free ∧ (m.discardOn x).variant = m.variant ∧
    (m.discardOn x).islands = m.islands ∧ (m.discardOn x).reset = m.reset ∧ (m.discardOn x).portals = m.portals ∧
    (m.discardOn x).profiles = m.profiles ∧ (m.discardOn x).axes = m.axes ∧ (m.discardOn x).drives = m.drives ∧
    (m.discardOn x).driveCommon = m.driveCommon ∧ (m.discardOn x).feedback = m.feedback ∧ (m.discardOn x).obst = m.obst ∧
    (m.discardOn x).ring = m.ring ∧ (m.discardOn x).loads = m.loads ∧ (m.discardOn x).loadCommon = m.loadCommon ∧
    (m.discardOn x).field = m.field ∧ (m.discardOn x).time = m.time ∧ (m.discardOn x).sec = m.sec ∧ (m.discardOn x).cv = m.cv ∧ (m.discardOn x).warden = m.warden ∧ (m.discardOn x).pair = m.pair :=
  ⟨rfl, rfl, rfl, rfl, rfl, rfl, rfl, rfl, rfl, rfl, rfl, rfl, rfl, rfl, rfl, rfl, rfl, rfl, rfl, rfl, rfl⟩

@[simp] theorem ModuleState.holdPacket_frame (h : Hold) :
    (m.holdPacket h).now = m.now ∧ (m.holdPacket h).free = m.free ∧ (m.holdPacket h).variant = m.variant ∧
    (m.holdPacket h).islands = m.islands ∧ (m.holdPacket h).reset = m.reset ∧ (m.holdPacket h).portals = m.portals ∧
    (m.holdPacket h).profiles = m.profiles ∧ (m.holdPacket h).axes = m.axes ∧ (m.holdPacket h).drives = m.drives ∧
    (m.holdPacket h).driveCommon = m.driveCommon ∧ (m.holdPacket h).feedback = m.feedback ∧ (m.holdPacket h).obst = m.obst ∧
    (m.holdPacket h).ring = m.ring ∧ (m.holdPacket h).loads = m.loads ∧ (m.holdPacket h).loadCommon = m.loadCommon ∧
    (m.holdPacket h).field = m.field ∧ (m.holdPacket h).host = m.host ∧ (m.holdPacket h).time = m.time ∧ (m.holdPacket h).sec = m.sec ∧
    (m.holdPacket h).recd = m.recd ∧ (m.holdPacket h).can = m.can ∧ (m.holdPacket h).eth = m.eth ∧ (m.holdPacket h).cv = m.cv ∧
    (m.holdPacket h).warden = m.warden ∧ (m.holdPacket h).pair = m.pair ∧ (m.holdPacket h).out = m.out :=
  ⟨rfl, rfl, rfl, rfl, rfl, rfl, rfl, rfl, rfl, rfl, rfl, rfl, rfl, rfl, rfl, rfl, rfl, rfl, rfl, rfl, rfl, rfl, rfl, rfl, rfl, rfl⟩

/-! ### What an update writes -/

@[simp] theorem ModuleState.setReset_reset (f : ResetState → ResetState) : (m.setReset f).reset = f m.reset := rfl
@[simp] theorem ModuleState.setWarden_warden (f : Warden → Warden) : (m.setWarden f).warden = f m.warden := rfl
@[simp] theorem ModuleState.setPair_pair (f : Pair → Pair) : (m.setPair f).pair = f m.pair := rfl
@[simp] theorem ModuleState.setTime_time (f : TimeUnit → TimeUnit) : (m.setTime f).time = f m.time := rfl
@[simp] theorem ModuleState.setSec_sec (f : Security → Security) : (m.setSec f).sec = f m.sec := rfl
@[simp] theorem ModuleState.setRec_recd (f : Recorder → Recorder) : (m.setRec f).recd = f m.recd := rfl
@[simp] theorem ModuleState.setEth_eth (f : Eth → Eth) : (m.setEth f).eth = f m.eth := rfl
@[simp] theorem ModuleState.setHost_host (f : HostWin → HostWin) : (m.setHost f).host = f m.host := rfl
@[simp] theorem ModuleState.setField_field (f : Foreland → Foreland) : (m.setField f).field = f m.field := rfl
@[simp] theorem ModuleState.setRing_ring (f : DikeRing → DikeRing) : (m.setRing f).ring = f m.ring := rfl
@[simp] theorem ModuleState.setLoads_loadCommon (f : LoadCommon → LoadCommon) : (m.setLoads f).loadCommon = f m.loadCommon := rfl
@[simp] theorem ModuleState.setAxis_axes (a : Nat) (f : Axis → Axis) : (m.setAxis a f).axes = upd m.axes a f := rfl
@[simp] theorem ModuleState.setDrive_drives (a : Nat) (f : Drive → Drive) : (m.setDrive a f).drives = upd m.drives a f := rfl
@[simp] theorem ModuleState.setFb_feedback (a : Nat) (f : Feedback → Feedback) : (m.setFb a f).feedback = upd m.feedback a f := rfl
@[simp] theorem ModuleState.setPortal_portals (p : Nat) (f : Portal → Portal) : (m.setPortal p f).portals = upd m.portals (p - 1) f := rfl
@[simp] theorem ModuleState.setOb_obst (p : Nat) (f : Obstacle → Obstacle) : (m.setOb p f).obst = upd m.obst (p - 1) f := rfl
@[simp] theorem ModuleState.setLoad_loads (n : Nat) (f : Load → Load) : (m.setLoad n f).loads = upd m.loads (n - 1) f := rfl
@[simp] theorem ModuleState.setIsland_islands (i : Nat) (f : Island → Island) : (m.setIsland i f).islands = upd m.islands i f := rfl
@[simp] theorem ModuleState.setCtl_can (c : Nat) (f : Can → Can) : (m.setCtl c f).can = upd m.can c f := rfl

/-! ### Lists of like things -/

/-- An element changed, then read. -/
@[simp] theorem upd_getD_self {α : Type} (l : List α) (i : Nat) (f : α → α) (d : α) (h : i < l.length) :
    (upd l i f).getD i d = f (l.getD i d) := by
  simp [upd, List.getD_eq_getElem?_getD, h]

/-- Another element is as before. -/
@[simp] theorem upd_getD_ne {α : Type} (l : List α) (i j : Nat) (f : α → α) (d : α) (h : i ≠ j) : (upd l i f).getD j d = l.getD j d := by
  simp [upd, List.getD_eq_getElem?_getD, h]

@[simp] theorem upd_length {α : Type} (l : List α) (i : Nat) (f : α → α) : (upd l i f).length = l.length := by simp [upd]

@[simp] theorem updAll_length {α : Type} (l : List α) (f : α → α) : (updAll l f).length = l.length := by simp [updAll]

/-! ### Updates one after another -/

/-- What one update of a list of updates leaves alone, all of them leave alone. -/
theorem ModuleState.each_frame {α β : Type} (l : List α) (f : ModuleState → α → ModuleState) (π : ModuleState → β)
    (h : ∀ m x, π (f m x) = π m) : π (m.each l f) = π m := by
  induction l generalizing m with
  | nil => rfl
  | cons x r ih => exact (ih (f m x)).trans (h m x)

/-- What one update keeps, all of them keep. -/
theorem ModuleState.each_keeps {α : Type} (l : List α) (f : ModuleState → α → ModuleState) (P : ModuleState → Prop)
    (h : ∀ m x, P m → P (f m x)) (h0 : P m) : P (m.each l f) := by
  induction l generalizing m with
  | nil => exact h0
  | cons x r ih => exact ih (f m x) (h m x h0)

@[simp] theorem ModuleState.each_nil {α : Type} (f : ModuleState → α → ModuleState) : m.each [] f = m := rfl
@[simp] theorem ModuleState.each_cons {α : Type} (x : α) (l : List α) (f : ModuleState → α → ModuleState) :
    m.each (x :: l) f = (f m x).each l f := rfl

/-! ### Happenings and steps -/

variable (s : State)

@[simp] theorem State.at_mem (t : Nat) (f : ModuleState → ModuleState) : (s.at t f).mem = s.mem := rfl
@[simp] theorem State.at_pending (t : Nat) (f : ModuleState → ModuleState) : (s.at t f).pending = s.pending := rfl
@[simp] theorem State.at_m (t : Nat) (f : ModuleState → ModuleState) : (s.at t f).m = f { s.m with now := max s.m.now t } := rfl
@[simp] theorem State.both_pending (t : Nat) (f : ModuleState × Memory → ModuleState × Memory) : (s.both t f).pending = s.pending := rfl
@[simp] theorem State.both_mem (t : Nat) (f : ModuleState × Memory → ModuleState × Memory) :
    (s.both t f).mem = (f ({ s.m with now := max s.m.now t }, s.mem)).2 := rfl
@[simp] theorem State.both_m (t : Nat) (f : ModuleState × Memory → ModuleState × Memory) :
    (s.both t f).m = (f ({ s.m with now := max s.m.now t }, s.mem)).1 := rfl
@[simp] theorem submit_mem (spec : CmdSpec) (p : Packet) : (submit spec p s).mem = s.mem := rfl
@[simp] theorem submit_pending (spec : CmdSpec) (p : Packet) : (submit spec p s).pending = s.pending := rfl

/-- All that a happening can do: it changes the module when its object exists, and faults when it does not. -/
theorem happen_cases {ok : Bool} {t : Nat} {f : ModuleState → ModuleState} {o : Host.Outcome State Fault Refusal} (h : happen ok t f s = o) :
    (ok = true ∧ o = .next (s.at t f)) ∨ (ok = false ∧ o = .fault .noSuchObject) := by
  cases ok
  · exact .inr ⟨rfl, h.symm⟩
  · exact .inl ⟨rfl, h.symm⟩

/-- A happening whose object exists. -/
@[simp] theorem happen_true (t : Nat) (f : ModuleState → ModuleState) : happen true t f s = .next (s.at t f) := rfl

/-- A happening whose object does not exist. -/
@[simp] theorem happen_false (t : Nat) (f : ModuleState → ModuleState) : happen false t f s = .fault .noSuchObject := rfl

/-- An event that is not logged changes nothing. -/
@[simp] theorem ModuleState.logIf_false (code source : Nat) (items : List Int) : m.logIf false code source items = m := rfl

/-- An event that is logged. -/
@[simp] theorem ModuleState.logIf_true (code source : Nat) (items : List Int) : m.logIf true code source items = m.log code source items := rfl

/-- Two changes of one element are one. -/
theorem upd_upd {α : Type} (l : List α) (i : Nat) (f g : α → α) : upd (upd l i f) i g = upd l i (g ∘ f) := by
  simp [upd, List.modify_modify_eq]

/-- An answer given to the next value: the free value used, and the count moved on. -/
@[simp] theorem ModuleState.fresh_frame : m.fresh.2 = { m with free := m.free + 1 } := rfl

end Sys2Proof.Machine
end

