-- ==== Sys2Proof/Laws/Memory.lean ====
section
/-! SUPPORT. Memory: what a write reads back, what it leaves alone, and that its canonical form is kept. -/

namespace Sys2Proof.Machine

/-- Where the entries of a written memory come from. -/
theorem Memory.mem_write {mem : Memory} {a : Nat} {b : Byte} {p : Host.Cell} (h : p ∈ mem.write a b) : p ∈ mem ∨ (p = (a, b) ∧ b ≠ 0) := by
  induction mem with
  | nil =>
    by_cases hb : b = 0 <;> simp_all [Memory.write]
  | cons c r ih =>
    obtain ⟨k, v⟩ := c
    simp only [Memory.write] at h
    split at h
    · split at h <;> simp_all
      rcases h with h | h | h <;> simp_all
    · split at h
      · split at h <;> simp_all
        rcases h with h | h <;> simp_all
      · rcases List.mem_cons.mp h with h | h
        · exact .inl (List.mem_cons.mpr (.inl h))
        · rcases ih h with h | h
          · exact .inl (List.mem_cons.mpr (.inr h))
          · exact .inr h

/-- A write keeps the canonical form. -/
theorem Memory.write_wf {mem : Memory} (h : mem.wf) (a : Nat) (b : Byte) : (mem.write a b).wf := by
  refine ⟨?_, fun p hp => ?_⟩
  · induction mem with
    | nil => simp only [Memory.write]; split <;> simp
    | cons c r ih =>
      obtain ⟨k, v⟩ := c
      have hr : Memory.wf r := ⟨(List.pairwise_cons.mp h.1).2, fun p hp => h.2 p (List.mem_cons_of_mem _ hp)⟩
      have hk := (List.pairwise_cons.mp h.1).1
      simp only [Memory.write]
      split
      · split
        · exact h.1
        · refine List.pairwise_cons.mpr ⟨fun p hp => ?_, h.1⟩
          rcases List.mem_cons.mp hp with rfl | hp
          · assumption
          · exact lt_trans ‹a < k› (hk p hp)
      · split
        · next ha => subst ha; split
                     · exact hr.1
                     · exact List.pairwise_cons.mpr ⟨fun p hp => hk p hp, hr.1⟩
        · refine List.pairwise_cons.mpr ⟨fun p hp => ?_, ih hr⟩
          rcases Memory.mem_write hp with hp | ⟨rfl, -⟩
          · exact hk p hp
          · simp only; omega
  · rcases Memory.mem_write hp with hp | ⟨rfl, hb⟩
    · exact h.2 p hp
    · exact hb

/-- A store of bytes keeps the canonical form. -/
theorem Memory.store_wf {mem : Memory} (h : mem.wf) (a : Nat) (l : List Byte) : (mem.store a l).wf := by
  induction l generalizing mem a with
  | nil => exact h
  | cons b r ih => exact ih (Memory.write_wf h a b) (a + 1)

/-- Below its first entry a canonical memory reads 0. -/
theorem Memory.read_below {mem : Memory} (a : Nat) (h : ∀ p ∈ mem, a < p.1) : mem.read a = 0 := by
  induction mem with
  | nil => rfl
  | cons c r ih =>
    have h1 := h c (List.mem_cons_self ..)
    simp only [Memory.read]
    rw [if_neg (by omega)]
    exact ih fun p hp => h p (List.mem_cons_of_mem _ hp)

/-- A byte written reads back. -/
theorem Memory.read_write_self {mem : Memory} (h : mem.wf) (a : Nat) (b : Byte) : (mem.write a b).read a = b := by
  induction mem with
  | nil => simp only [Memory.write]; split <;> simp_all [Memory.read]
  | cons c r ih =>
    obtain ⟨k, v⟩ := c
    have hr : Memory.wf r := ⟨(List.pairwise_cons.mp h.1).2, fun p hp => h.2 p (List.mem_cons_of_mem _ hp)⟩
    have hk := (List.pairwise_cons.mp h.1).1
    simp only [Memory.write]
    split
    · split
      · next ha hb =>
        subst hb
        exact Memory.read_below a fun p hp => by
          rcases List.mem_cons.mp hp with rfl | hp
          · exact ha
          · exact lt_trans ha (hk p hp)
      · simp [Memory.read]
    · split
      · next ha =>
        subst ha
        split
        · next hb => subst hb; exact Memory.read_below _ fun p hp => hk p hp
        · simp [Memory.read]
      · next ha => simp only [Memory.read]; rw [if_neg (fun e => ha e.symm)]; exact ih hr

/-- Every other byte reads as before. -/
theorem Memory.read_write_ne (mem : Memory) {a x : Nat} (b : Byte) (hx : x ≠ a) : (mem.write a b).read x = mem.read x := by
  induction mem with
  | nil => simp only [Memory.write]; split <;> simp [Memory.read, Ne.symm hx]
  | cons c r ih =>
    obtain ⟨k, v⟩ := c
    simp only [Memory.write]
    split
    · split
      · rfl
      · simp [Memory.read, Ne.symm hx]
    · split
      · next ha =>
        subst ha
        split <;> simp [Memory.read, Ne.symm hx]
      · simp only [Memory.read, ih]

/-- A store leaves every byte outside it alone. -/
theorem Memory.read_store_outside (mem : Memory) (a : Nat) (l : List Byte) (x : Nat) (hx : x < a ∨ a + l.length ≤ x) :
    (mem.store a l).read x = mem.read x := by
  induction l generalizing mem a with
  | nil => rfl
  | cons b r ih =>
    simp only [List.length_cons] at hx
    rw [Memory.store, ih _ _ (by omega), Memory.read_write_ne _ _ (by omega)]

/-- A byte stored reads back. -/
theorem Memory.read_store_inside {mem : Memory} (h : mem.wf) (a : Nat) (l : List Byte) (i : Nat) (hi : i < l.length) :
    (mem.store a l).read (a + i) = l[i] := by
  induction l generalizing mem a i with
  | nil => simp at hi
  | cons b r ih =>
    cases i with
    | zero => simp only [Memory.store, Nat.add_zero, List.getElem_cons_zero]
              rw [Memory.read_store_outside _ _ _ _ (by omega), Memory.read_write_self h]
    | succ n =>
      have := ih (mem := mem.write a b) (Memory.write_wf h a b) (a + 1) n (by simpa using hi)
      simpa [Memory.store, Nat.add_assoc, Nat.add_comm 1 n] using this

end Sys2Proof.Machine
end

