-- ==== Sys2Proof/Laws/Submit.lean ====
section
/-! SUPPORT. What a command packet does that passes every check: one lemma for all commands. -/

namespace Sys2Proof.Machine

/-- Step 6 of R307 passes a packet with its session's role, its SEQ marked as seen. -/
theorem admission_passed (spec : CmdSpec) (p : Packet) (m : ModuleState) (h : (admission spec (asOpcode spec p) m).fail = none) :
    admission spec (asOpcode spec p) m =
      { m := if bit p.flags 0 then
          { m with sec := { m.sec with sessions := updIf m.sec.sessions (·.num == p.session) fun x => x.mark p.seq } }
        else m
        role := if bit p.flags 0 then (m.sec.session p.session).map (·.role) else none } := by
  unfold admission asOpcode at *
  by_cases hb : bit p.flags 0
  · simp only [hb, if_true] at h ⊢
    split at h
    · simp at h
    · rename_i s hs
      have hf := Option.filter_eq_some_iff.mp hs
      have hn : s.num = p.session := by
        have := List.find?_some hf.1
        simpa [Security.session] using this
      split at h
      · simp at h
      · rename_i h1
        split at h
        · simp at h
        · rename_i h2
          simp [hf.1, h1, h2, hn]
  · simp only [if_neg hb] at h ⊢
    split at h
    · simp at h
    · rename_i h1
      rw [if_neg h1]
      split at h
      · rename_i h2; rw [if_pos h2]
      · simp at h

/-- Taking a packet into account changes nothing that its checks look at. -/
theorem arrived_frame (spec : CmdSpec) (p : Packet) (s : State) :
    (arrived spec p s).sec = s.m.sec ∧ (arrived spec p s).now = (s.then p.time).now ∧ (arrived spec p s).time = s.m.time ∧
      (arrived spec p s).interp.actions = s.m.interp.actions ∧ (arrived spec p s).interp.collections = s.m.interp.collections := by
  unfold arrived ModuleState.drained State.then
  by_cases h : p.transport = .spi <;> simp only [h, if_true, if_false] <;> (try split) <;>
    simp [ModuleState.withComm, ModuleState.comm, Comm.port]

/-- A packet that passes every check has its command's effect: the one thing a packet that passes can do. -/
theorem submit_accepted (spec : CmdSpec) (p : Packet) (s : State) (x : Result) (ha : Accepted spec p s)
    (hx : spec.body (cmdOf spec p s) (taken spec p s) = x) (hok : x.status < 0x8000) (hc : Clear (taken spec p s) x) :
    submit spec p s = { s with m := dispatched spec p (taken spec p s) x } := by
  obtain ⟨⟨f1, f2, f3, f4, f5, f6⟩, ⟨g1, g2, g3, g4, g5, g6, g7, g8, g9, g10, g11, g12, g13⟩, had⟩ := ha
  obtain ⟨fr1, fr2, fr3, fr4, fr5⟩ := arrived_frame spec p s
  have hp := admission_passed spec p (arrived spec p s) had
  have hm : (admission spec (asOpcode spec p) (arrived spec p s)).m = taken spec p s := by rw [hp]; rfl
  have hr : (admission spec (asOpcode spec p) (arrived spec p s)).role = roleOf p s := by
    rw [hp, roleOf]; simp [fr1]
  -- the command's own effect
  have hrun : runCmd spec (asOpcode spec p) (roleOf p s) (commandPart p) none false (taken spec p s) =
      dispatched spec p (taken spec p s) x := by
    have hb : spec.body (Cmd.mk (asOpcode spec p) ((asOpcode spec p).target / 256) ((asOpcode spec p).target % 256) (commandPart p)
        (roleOf p s) (taken spec p s).interp.nextRef none) (taken spec p s) = x := hx
    unfold runCmd Result.ranLate
    simp only [hb, Bool.false_and, Bool.false_eq_true, if_false]
    have hn : ¬ 0x8000 ≤ x.status := by omega
    have hc1 : ((x.acts ++ x.needs).any fun ch => (taken spec p s).restarting ch.island) = false := by simpa using hc.1
    have hc2 : (taken spec p s).room x.acts = true := hc.2
    simp [hn, hc1, hc2, dispatched]
  have hfin : finishChecks spec (asOpcode spec p) (roleOf p s) (commandPart p) (taken spec p s) =
      dispatched spec p (taken spec p s) x := by
    unfold finishChecks
    have h4 : bit (asOpcode spec p).flags 4 = false := by simpa [asOpcode] using g5
    simp [g12, h4, hrun]
  have hseg : ∀ lim, spec.seg = some lim → segment spec lim (asOpcode spec p) (roleOf p s) (taken spec p s) =
      dispatched spec p (taken spec p s) x := by
    intro lim hl
    have hcol : (taken spec p s).interp.collections = s.m.interp.collections := by
      rw [taken]; split <;> simp [fr5]
    have hnone : (s.m.interp.collections.find? fun c => c.transport == p.transport && c.session == p.session) = none := by
      have := g13 (by simp [hl])
      rw [List.find?_eq_none]
      intro c hcm hcc
      have h2 := this
      simp only [Bool.not_eq_true', List.any_eq_false] at h2
      exact h2 c hcm hcc
    have h3 : bit (asOpcode spec p).flags 3 = false := by simpa [asOpcode] using g6
    have hpart : commandPart (asOpcode spec p) = commandPart p := rfl
    have hlen : ¬ lim < (commandPart p).length := by simp [hl] at g10; omega
    unfold segment
    simp only [hpart, hcol]
    have hnone' : (s.m.interp.collections.find? fun c =>
        c.transport == (asOpcode spec p).transport && c.session == (asOpcode spec p).session) = none := hnone
    simp [hnone', h3, hlen, hfin]
  have hjudge : judge spec (asOpcode spec p) (roleOf p s) (taken spec p s) = dispatched spec p (taken spec p s) x := by
    unfold judge
    have e1 : bitsAt (asOpcode spec p).flags 5 3 = 0 := g4
    have e2 : bit (asOpcode spec p).flags 4 = false := by simpa [asOpcode] using g5
    have e3 : bit (asOpcode spec p).flags 3 = false := by simpa [asOpcode] using g6
    have e4 : spec.kinds.contains ((asOpcode spec p).target / 256) = true := g7
    have e5 : spec.present (taken spec p s) ((asOpcode spec p).target / 256) ((asOpcode spec p).target % 256) = true := g8
    have e6 : commandPart (asOpcode spec p) = commandPart p := rfl
    have e7 : spec.roles.admits (asOpcode spec p) (roleOf p s) = true := by
      rw [← g11]; unfold Roles.admits asOpcode; rfl
    have e8 : sizeFits spec (asOpcode spec p) (taken spec p s) = true := by
      unfold sizeFits
      simp only [e6, e3]
      cases hs : spec.seg with
      | none => simpa [hs] using g9
      | some lim =>
        have hsz : spec.size (commandPart p).length = true := by simp at g9; exact g9.1
        have hcol : (taken spec p s).interp.collections = s.m.interp.collections := by
          rw [taken]; split <;> simp [fr5]
        have hnone : ((taken spec p s).interp.collections.find? fun c =>
            c.transport == (asOpcode spec p).transport && c.session == (asOpcode spec p).session && c.opcode == spec.opcode) = none := by
          have := g13 (by simp [hs])
          simp only [Bool.not_eq_true', List.any_eq_false] at this
          rw [hcol, List.find?_eq_none]
          intro c hcm hcc
          have h1 := this c hcm
          simp only [Bool.and_eq_true] at hcc h1
          exact h1 hcc.1
        simp [hnone, hsz]
    simp only [e1, e2, e3, e4, e5, e6, e7, e8]
    cases hs : spec.seg with
    | none => simp [hfin]
    | some lim => simp [hseg lim hs]
  have hproc : process (some spec) (asOpcode spec p) (arrived spec p s) = dispatched spec p (taken spec p s) x := by
    unfold process
    have e1 : (asOpcode spec p).version = 2 := g1
    have e2 : ¬ (4080 < (asOpcode spec p).payload.length ∨ (asOpcode spec p).payload.length < announced (asOpcode spec p)) := by
      have : announced (asOpcode spec p) = announced p := rfl
      rw [this]; show ¬ (4080 < p.payload.length ∨ p.payload.length < announced p); omega
    have e3 : (admission spec (asOpcode spec p) (arrived spec p s)).fail = none := had
    simp only [e1, if_neg e2, e3, hm, hr, hjudge]
    simp
  unfold submit State.at arrive
  congr 1
  have i1 : ({ s.m with now := max s.m.now p.time } : ModuleState) = s.then p.time := rfl
  simp only [i1, f1, if_true]
  have i2 : asOpcode spec p = { p with opcode := spec.opcode } := rfl
  have i3 : ∀ m1 : ModuleState, m1 = (s.then p.time).withComm ((s.then p.time).comm.port p.transport fun q =>
      { q with packetsIn := (q.packetsIn + 1) % 2 ^ 32 }) →
      m1.interp.hold = (s.then p.time).interp.hold ∧ m1.interp.launched = (s.then p.time).interp.launched ∧
      m1.interp.waiting = (s.then p.time).interp.waiting ∧ m1.host = (s.then p.time).host := by
    rintro m1 rfl
    simp [ModuleState.withComm, ModuleState.comm, Comm.port]
  rw [← i2]
  generalize hm1 : (s.then p.time).withComm ((s.then p.time).comm.port p.transport fun q =>
      { q with packetsIn := (q.packetsIn + 1) % 2 ^ 32 }) = m1
  obtain ⟨j1, j2, j3, j4⟩ := i3 m1 hm1.symm
  have k : ∀ y, m1.takeable y = (s.then p.time).takeable y := fun y => by simp [ModuleState.takeable, j4]
  have f2' : m1.interp.hold.isNone = true := by rw [j1]; exact f2
  have f3' : m1.interp.launched.isEmpty = true := by rw [j2]; exact f3
  have f4' : m1.takeable p.transport = true := by rw [k]; exact f4
  have f5' : (m1.interp.waiting.any fun q => m1.takeable q.transport) = false := by
    simp only [k, j3]; simpa using f5
  simp only [f2', f3', f4', f5', Bool.not_false, Bool.and_self, if_true]
  unfold reach
  have hbar : ∀ m2 : ModuleState, m2.interp.collections = (s.then p.time).interp.collections →
      m2.interp.actions = (s.then p.time).interp.actions →
      ¬ (m2.barrier (asOpcode spec p) && !m2.interp.actions.isEmpty) = true := by
    intro m2 h1 h2 h3
    have : ((s.then p.time).barrier (asOpcode spec p) && !(s.then p.time).interp.actions.isEmpty) = true := by
      simpa [ModuleState.barrier, h1, h2] using h3
    rw [this] at f6
    exact absurd f6 (by decide)
  rw [if_neg]
  · rw [← hproc, arrived]
    subst hm1
    rfl
  · apply hbar
    · split
      · rw [← hm1]; simp only [ModuleState.drained]; split <;> rfl
      · rw [← hm1]; rfl
    · split
      · rw [← hm1]; simp only [ModuleState.drained]; split <;> rfl
      · rw [← hm1]; rfl

end Sys2Proof.Machine
end

