-- ==== Sys2Proof/Tests/Slice0.lean ====
section
/-! SUPPORT. The model's own tests: the checks of WellFormed, check values of the codes, and for every statement with hypotheses a state and
operands that meet them. -/

namespace Sys2Proof.Tests

set_option Elab.async false

open Sys2Proof.Machine

/-! ### Small states and packets -/

/-- A ready module, armed, every island running. -/
def ready : ModuleState := { reset := { phase := .ready, armed := true } }

/-- A state of a module. -/
def st (m : ModuleState) : State := { m := m }

/-- Bytes at an offset, zeros before them. -/
def bytesAt (off : Nat) (b : List Byte) : List Byte := List.replicate off 0 ++ b

/-- A ready module whose configuration has some bytes at an offset. -/
def withCfg (off : Nat) (b : List Byte) : ModuleState := { ready with warden := { config := bytesAt off b } }

/-- A packet without SECURED on the host SPI, NEEDS_REPLY set. -/
def plain (target : Nat) (data : List Byte) : Packet :=
  { time := 5, transport := .spi, src := (0, 0), version := 2, flags := 2, opcode := 0, seq := 1, session := 0, target, payload := data }

/-- An open session of a role on the host SPI. -/
def session (r : Role) : Session :=
  { num := 7, role := r, slot := 0, transport := .spi, kCmd := 1, kRsp := 2, kWrap := 3, h := 0, active := true, life := 60, since := 0
    high := none, seen := 0, fails := [] }

/-- A module with that session open. -/
def logged (r : Role) (m : ModuleState) : ModuleState := { m with sec := { m.sec with sessions := [session r] } }

/-- A secured packet of that session under an opcode. -/
def signed (opcode target : Nat) (data : List Byte) : Packet :=
  { time := 5, transport := .spi, src := (0, 0), version := 2, flags := 3, opcode, seq := 1, session := 7, target
    payload := data ++ leBytes 16 (Config.kmac256 (leBytes 32 1) (headerBytes 2 3 opcode 1 7 target (data.length + 16) ++ data) 128 "YL-D480 CMD") }

/-- n bytes hold a number to their size. -/
theorem leNat_leBytes (n v : Nat) : leNat (leBytes n v) = v % 256 ^ n := by
  induction n generalizing v with
  | zero => simp [leBytes, leNat, Nat.mod_one]
  | succ n ih =>
    rw [leBytes, leNat, ih, pow_succ, Nat.mul_comm (256 ^ n) 256, Nat.mod_mul]
    simp

theorem leBytes_length (n v : Nat) : (leBytes n v).length = n := by
  induction n generalizing v with
  | zero => rfl
  | succ n ih => simp [leBytes, ih]

/-- A secured packet with the session's tag and an unseen SEQ passes step 6. -/
theorem admitted (spec : CmdSpec) (target : Nat) (data : List Byte) (r : Role) (m : ModuleState)
    : Admitted spec (signed spec.opcode target data) (st (logged r m)) := by
  have h := (arrived_frame spec (signed spec.opcode target data) (st (logged r m))).1
  have hs : (arrived spec (signed spec.opcode target data) (st (logged r m))).sec.session 7 = some (session r) := by
    rw [h]; rfl
  have ht : tagOk 1 (asOpcode spec (signed spec.opcode target data)) = true := by
    simp [tagOk, asOpcode, signed, leBytes_length, leNat_leBytes]
  have hb : bit 3 0 = true := by decide
  simp only [Admitted, admission]
  have hq : (asOpcode spec (signed spec.opcode target data)).flags = 3 := rfl
  have hn : (asOpcode spec (signed spec.opcode target data)).session = 7 := rfl
  have ha : (session r).accepts (asOpcode spec (signed spec.opcode target data)).seq = true := rfl
  rw [hq, hn, hs, hb]
  have hf : (some (session r)).filter (fun s => s.transport == (asOpcode spec (signed spec.opcode target data)).transport &&
      (s.active || spec.opcode == 0x0E03)) = some (session r) := by rfl
  rw [hf]
  simp only [ha, if_true]
  split
  · rename_i h0
    have h1 : (!tagOk 1 (asOpcode spec (signed spec.opcode target data))) = true := h0
    rw [ht] at h1
    exact absurd h1 (by decide)
  · rfl

/-- A module whose portal 1 is enabled, with its door on axis 0 and in some state; its contacts are FI1 and FI2, its handle and its
isolation switch FI3. -/
def door1 (q : Portal) (a b c : Bool) : State :=
  st { withCfg 17 [1, 0, 0, 255, 0, 0, 1, 2, 3, 3] with
    portals := [q], field := { ({} : Foreland) with inputs := [{ image := a }, { image := b }, { image := c }] } }

theorem witness_PortalTickItems :
    ((door1 {} true true false).then 5).runs isPolder ∧ ((door1 {} true true false).then 5).enabledPortals = [1] ∧
    ((door1 {} true true true).m.egress 1 ∧ (door1 {} true true true).m.isolated 1) ∧
    ((st { (door1 { door := .opening } true true false).m with axes := [{ path := .none }] }).m.axisFaulty 0) ∧
    (door1 {} false false false).m.bothOpen 1 ∧ (door1 {} true true true).m.bothClosed 1 ∧
    ((st { (door1 {} true true true).m with ring := { a := { grantL := true }, b := { grantL := true } } }).m.released 1) ∧
    (door1 {} true true true).m.released 1 = false ∧
    ((door1 { door := .closing } true true false).m.doorDone 1 0 ∧
      (door1 { door := .closing } true true false).m.within 1 ((door1 { door := .closing } true true false).m.doorPos 1) 0) := by decide +kernel

/-- The same door with a profile whose AUTO_CLOSE and outside-lamp off time are 1 unit. -/
def door1p (q : Portal) : State :=
  st { (door1 q true true false).m with profiles := { set := [0, 0, 0, 0, 1] ++ zeros 55 ++ [1, 0, 1] } }

theorem witness_PortalTimersRun :
    (((door1 {} true true false).then 5).enabled 1 ∧ ((door1 {} true true false).then 5).reset.armed ∧
      ((door1 {} true true false).then 5).runs isPolder) ∧
    (((door1 { disagreeSince := some 0 } true false false).then (ms 100)).disagree 1 ∧
      (((door1 { disagreeSince := some 0 } true false false).then (ms 100)).portal 1).disagreeSince = some 0) ∧
    ((((door1 { door := .unlocking } true true false).then 5).portal 1).door = .unlocking ∧
      ((door1 { door := .unlocking } true true false).then 5).bothClosed 1) ∧
    ((door1p { door := .openD, autoCloseAt := some 0 }).then (ms 100)).prof 54 2 ≠ 0 ∧
    0 + ms (100 * ((door1p {}).then (ms 100)).prof 54 2) ≤ ((door1p {}).then (ms 100)).now ∧
    ((door1p { warning := true, lampOn := true }).then 5).prof 52 2 ≠ 0 ∧
    ((door1 { door := .closingWarning } true true false).then 5).still 0 := by decide +kernel

/-- A profile set with one profile, every field at the low end of its range, and no signature. -/
def smallSet : List Byte :=
  [1, 0, 0, 0, 1, 0, 0, 0] ++ zeros 16 ++ [50, 0, 50, 0, 20, 0, 0, 0, 200, 0, 50, 0, 50, 0, 10, 0, 2, 0, 100, 0, 0, 0, 0, 0, 20, 0, 200, 0, 0, 0, 1, 0] ++
    [0, 0, 1, 0] ++ zeros 16 ++ [20, 0, 50, 0, 50, 0, 0xE8, 3, 0xF4, 1] ++ zeros 50 ++ zeros 896 ++ [0, 0]

/-- A module with a portal, that set, and a pending schedule. -/
def scheduled1 : State :=
  st { (door1 {} true true false).m with
    profiles := { set := [0, 0, 0, 0, 1], schedule := some { slot := 0, launch := (9, 0), strict := false, transport := 0, seq := 0 } } }

theorem witness_PortalCommandsDo :
    Accepted portalOpenSpec (signed 0x100 0x101 [0, 255, 0, 0]) (st (logged .operator (door1 {} true true false).m)) ∧
    Accepted portalCloseSpec (signed 0x101 0x101 []) (st (logged .operator (door1 {} true true false).m)) ∧
    Accepted portalClearSpec (signed 0x105 0x101 []) (st (logged .maintainer (door1 {} true true false).m)) ∧
    Accepted portalHomeSpec (signed 0x106 0x101 []) (st (logged .maintainer (door1 {} true true false).m)) ∧
    Accepted trainOpenSpec (signed 0x102 0 [1, 0, 0, 0]) (st (logged .operator (door1 {} true true false).m)) ∧
    (Accepted trainCloseSpec (signed 0x103 0 [1, 0, 0, 0]) (st (logged .operator (door1 {} true true false).m)) ∧
      (taken trainCloseSpec (signed 0x103 0 [1, 0, 0, 0]) (st (logged .operator (door1 {} true true false).m))).enabledPortals.filter (fun k =>
        bit 1 ((taken trainCloseSpec (signed 0x103 0 [1, 0, 0, 0]) (st (logged .operator (door1 {} true true false).m))).side k)) ≠ []) ∧
    Accepted setPlatformClassSpec (signed 0x104 0 [2, 3, 0, 0]) (st (logged .operator ready)) ∧
    (Accepted profileSelectSpec (signed 0x111 0 [0, 0, 0, 0]) (st (logged .operator scheduled1.m)) ∧
      slotValid (taken profileSelectSpec (signed 0x111 0 [0, 0, 0, 0]) (st (logged .operator scheduled1.m))).profiles.stored 0) ∧
    Accepted profileCancelSpec (signed 0x112 0 []) (st (logged .operator scheduled1.m)) ∧
    (Accepted profileSetLoadSpec (signed 0x110 0 smallSet) (st (logged .integrator ready)) ∧
      setFails (smallSet.take 1032) (taken profileSetLoadSpec (signed 0x110 0 smallSet) (st (logged .integrator ready))).profiles.busy = none ∧
      smallSet.length = 1034) := by
  refine ⟨⟨by decide, by decide +kernel, admitted _ _ _ _ _⟩, ⟨by decide, by decide +kernel, admitted _ _ _ _ _⟩,
    ⟨by decide, by decide +kernel, admitted _ _ _ _ _⟩, ⟨by decide, by decide +kernel, admitted _ _ _ _ _⟩,
    ⟨by decide, by decide +kernel, admitted _ _ _ _ _⟩, ⟨⟨by decide, by decide +kernel, admitted _ _ _ _ _⟩, by decide +kernel⟩,
    ⟨by decide, by decide +kernel, admitted _ _ _ _ _⟩, ⟨⟨by decide, by decide +kernel, admitted _ _ _ _ _⟩, by decide +kernel⟩,
    ⟨by decide, by decide +kernel, admitted _ _ _ _ _⟩,
    ⟨⟨by decide, by decide +kernel, admitted _ _ _ _ _⟩, by decide +kernel, by decide +kernel⟩⟩

/-- A module whose LS1 is STATIC, OL_THRESH 1, RETRY_MAX 2, OFF_DIAG set, and whose LS1 is in some state. -/
def ls1 (x : Load) : State :=
  st { withCfg 2096 [1, 1, 0, 1, 100, 0, 1, 0, 0, 0, 2] with loads := [x] }

theorem witness_LoadRowsRun :
    ((ls1 { on := true }).then 5).conducts 1 ∧
    ((ls1 { on := true }).then 5).cfg (loadCfg 1 + 10) 1 = 2 ∧
    (((ls1 { on := true, retries := 2 }).then 5).load 1).retries = 2 ∧
    (((ls1 { thermalOff := true, demand := true }).then 5).drivesLs 1 ∧ ((ls1 { thermalOff := true, demand := true }).then 5).loadMode 1 = 1) ∧
    (((ls1 { on := true }).then (seconds 60)).load 1).onSince + seconds 60 ≤ ((ls1 { on := true }).then (seconds 60)).now ∧
    ((ls1 { on := true }).then 5).cfg (loadCfg 1 + 6) 2 = 1 ∧
    ((ls1 { on := true }).then (ms 50)).lsMeasured 1 ∧
    ((ls1 {}).then (ms 10)).lsState 1 = 0 ∧ ms 10 ≤ ((ls1 {}).then (ms 10)).now ∧ bit (((ls1 {}).then (ms 10)).loadFlags 1) 0 := by decide +kernel

/-- LS1 in GENERATOR mode on PG1 with PHASE 1 024; PG1 at 100 Hz with DUTY 2 048, its period on M1 started at 0. -/
def pgChan : State :=
  st { withCfg 2096 [1, 2, 0, 0, 0, 0, 0, 0, 0, 4] with
    loadCommon := { pgUse := (2048, 100) :: List.replicate 7 (0, 100), pgAt := some 0 :: List.replicate 7 none } }

/-- A quarter of the period on, LS1 is in its on-phase; three quarters on, it is not (R260). -/
theorem test_pg_phase :
    (match execPgPeriodEdge 2500000 0 1 false 1 0 pgChan with | .next s => (s.m.load 1).phaseOn | _ => false) = true ∧
    (match execPgPeriodEdge 2600000 0 1 false 1 0 pgChan with | .next s => (s.m.load 1).phaseOn | _ => true) = false := by decide +kernel

theorem witness_LoadSourcesRun :
    ((st ready).then 5).runs isM1 ∧ ((st ready).then 5).runs isM2 ∧
    pgOver ((st ready).then 5).now (((st ready).then 5).pgUsed 0 1).2 (((st ready).then 5).pgStart 0 1) ∧
    ((st ready).then 5).loadCommon.pins.length = 4 ∧
    (let m := (pgChan).then 2500000
     m.pgStart 0 1 = some 0 ∧ 1 ∈ m.pgChannels 0 1 ∧ (m.pgUsed 0 1).1 ≠ 0 ∧ pgReached (m.now - 0) (m.pgUsed 0 1).2 (m.cfg (loadCfg 1 + 8) 2)) ∧
    (let m := (pgChan).then 7500000
     pgReached (m.now - 0) (m.pgUsed 0 1).2 ((m.cfg (loadCfg 1 + 8) 2 + (m.pgUsed 0 1).1) % 4096)) ∧
    (nums16.find? fun k => (((ls1 { cut := true, demand := true }).then 200000).load k).cut &&
      (((ls1 { cut := true, demand := true }).then 200000).load k).demand) = some 1 ∧
    ((ls1 { cut := true, demand := true }).then 200000).lsRefusal 1 = none ∧ ((ls1 { cut := true, demand := true }).then 200000).drivesLs 1 ∧
    ((ls1 { cut := true, demand := true }).then 200000).loadMode 1 ≠ 0 ∧
    ((ls1 { cut := true, demand := true }).then 200000).loadCommon.restartAt + 200000 ≤ ((ls1 { cut := true, demand := true }).then 200000).now := by
  decide +kernel

/-- LS1 on, LS1 and LS9 on, LS1 to be cleared, PG1 at 100 Hz and duty 7: the packets pass every check. -/
theorem witness_LoadCommandsDo :
    (Accepted lsSetSpec (signed 0x600 0x301 [1, 0, 0, 0]) (st (logged .operator (ls1 {}).m)) ∧
      (taken lsSetSpec (signed 0x600 0x301 [1, 0, 0, 0]) (st (logged .operator (ls1 {}).m))).lsSetFails (some .operator) 1 true = none) ∧
    (Accepted lsSetMultiSpec (signed 0x601 0 [1, 0, 0, 0, 0, 0, 0, 0]) (st (logged .operator (ls1 {}).m)) ∧
      (taken lsSetMultiSpec (signed 0x601 0 [1, 0, 0, 0, 0, 0, 0, 0]) (st (logged .operator (ls1 {}).m))).lsMultiFails (some .operator) 1 true =
        none) ∧
    (Accepted lsClearSpec (signed 0x602 0x301 []) (st (logged .maintainer (ls1 { spent := true, accum := 0 }).m)) ∧
      ((taken lsClearSpec (signed 0x602 0x301 []) (st (logged .maintainer (ls1 { spent := true, accum := 0 }).m))).load 1).spent) ∧
    (Accepted pgSetSpec (signed 0x605 0 [0, 0, 7, 0, 100, 0, 0, 0]) (st (logged .operator ready)) ∧
      (taken pgSetSpec (signed 0x605 0 [0, 0, 7, 0, 100, 0, 0, 0]) (st (logged .operator ready))).notOnDuty = false) := by
  refine ⟨⟨⟨by decide, by decide +kernel, admitted _ _ _ _ _⟩, by decide +kernel⟩, ⟨⟨by decide, by decide +kernel, admitted _ _ _ _ _⟩, by decide +kernel⟩,
    ⟨⟨by decide, by decide +kernel, admitted _ _ _ _ _⟩, by decide +kernel⟩, ⟨by decide, by decide +kernel, admitted _ _ _ _ _⟩, by decide +kernel⟩

/-- A module whose FI48 is in some state, in SUPERVISED mode or not. -/
def fi48 (sup : Byte) (x : FieldIn) : State :=
  st { withCfg (fiCfg 48) [48, sup] with field := { ({} : Foreland) with inputs := List.replicate 47 {} ++ [x] } }

theorem witness_FieldInputRowsRun :
    ((fi48 0 { settling := false }).then 5).runs isForeland ∧
    (((fi48 0 { settling := false }).then 5).supervised 48 = false ∧ (((fi48 0 { settling := false }).then 5).fin 48).settling = false ∧
      (((fi48 0 { settling := false }).then 5).fin 48).level ≠ ((fi48 0 { settling := false }).then 5).rawLevel 48 false false 150 ∧ 5 + ((fi48 0 { settling := false }).then 5).filter 48 ≤ 5) ∧
    ((fi48 0 { settling := false }).then 5).now < 6 + ((fi48 0 { settling := false }).then 5).filter 48 ∧
    ((((fi48 0 { settling := false, differSince := some 0 }).then (ms 10)).fin 48).differSince = some 0 ∧
      0 + ms 10 ≤ ((fi48 0 { settling := false, differSince := some 0 }).then (ms 10)).now) ∧
    (((fi48 1 { settling := false, supNew := some (1, 5) }).then 5).supervised 48 ∧ supBand 600 = some .actuated ∧
      (((fi48 1 { settling := false, supNew := some (1, 5) }).then 5).fin 48).supNew = some (SupState.actuated.code, 5)) ∧
    ((((fi48 1 { sup := .faultOpen }).then (ms 100)).fin 48).sup.faulty ∧ ((fi48 1 { sup := .faultOpen }).then (ms 100)).enabledPortals = []) := by
  decide +kernel

/-- A module whose FO1 has RETRY_MAX 1 and OW_THRESH 1 and is in some state. -/
def fo1 (x : FieldOut) (restore : Nat) : State :=
  st { withCfg (foCfg 1) [1, 0, 0, 0, 1, 0, 1] with field := { ({} : Foreland) with outputs := [x], restore } }

theorem witness_FieldOutputRowsRun :
    ((((fo1 { on := true } 0).then (ms 50)).fout 1).on ∧ ms 50 ≤ ((fo1 { on := true } 0).then (ms 50)).now ∧
      (((fo1 { on := true } 0).then (ms 50)).fout 1).retriesNow 5 < ((fo1 { on := true } 0).then (ms 50)).cfg (foCfg 1 + 6) 1) ∧
    ((fo1 { on := true, retries := 1 } 0).then 5).cfg (foCfg 1 + 6) 1 ≤ (((fo1 { on := true, retries := 1 } 0).then 5).fout 1).retriesNow 5 ∧
    ((((fo1 { overloadAt := some 0, demand := true } 0).then (seconds 1)).fout 1).overloadAt = some 0 ∧
      ((fo1 { overloadAt := some 0, demand := true } 0).then (seconds 1)).drivesFo 1 ∧
      0 + seconds 1 ≤ ((fo1 { overloadAt := some 0, demand := true } 0).then (seconds 1)).now) ∧
    ((((fo1 { thermalOff := true, demand := true } 0).then 5).fout 1).thermalOff ∧
      ((fo1 { thermalOff := true, demand := true } 0).then 5).drivesFo 1) ∧
    0 < ((fo1 { on := true } 0).then 5).cfg (foCfg 1 + 4) 2 ∧
    ((((fo1 {} 0).then 5).fout 1).on = false ∧ ((fo1 {} 0).then 5).runs isForeland) ∧
    (nums16.find? fun k => bit ((fo1 {} 1).then 5).field.restore (k - 1)) = some 1 := by decide +kernel

/-- A module with a lane 0 of both views in some state, lane 1 after frame 7. -/
def lane0 (l : Lane) : State :=
  st { ready with field := { ({} : Foreland) with lanes := [l, { seq := some 7 }, {}], fore := [l, {}, {}] } }

theorem witness_BarrierLinkRowsRun :
    (((lane0 {}).then 5).lane false 1).seq = some 7 ∧
    (3 ≤ (((lane0 { lostRun := 3 }).then 5).lane false 0).lostRun ∧ (((lane0 { lostRun := 3 }).then 5).lane false 0).state = .up) ∧
    (3 ≤ (((lane0 { lostRun := 3 }).then 5).lane true 0).lostRun ∧ (((lane0 { lostRun := 3 }).then 5).lane true 0).state = .up) ∧
    ((((lane0 { state := .recovering, goodRun := 10 }).then 5).lane true 0).state = .recovering ∧
      10 ≤ (((lane0 { state := .recovering, goodRun := 10 }).then 5).lane true 0).goodRun) := by decide +kernel

theorem witness_FieldCommandsDo :
    (Accepted foSetSpec (signed 0x701 0x441 [1, 0, 0, 0]) (st (logged .operator ready)) ∧
      (taken foSetSpec (signed 0x701 0x441 [1, 0, 0, 0]) (st (logged .operator ready))).foSetFails 1 true = none) ∧
    (Accepted foSetMultiSpec (signed 0x702 0 [1, 0, 0, 0, 0, 0, 0, 0]) (st (logged .operator ready)) ∧
      (taken foSetMultiSpec (signed 0x702 0 [1, 0, 0, 0, 0, 0, 0, 0]) (st (logged .operator ready))).foSetFails 1 true = none) ∧
    (Accepted foClearSpec (signed 0x703 0x441 []) (st (logged .maintainer (fo1 { latched := true } 0).m)) ∧
      ((taken foClearSpec (signed 0x703 0x441 []) (st (logged .maintainer (fo1 { latched := true } 0).m))).fout 1).latched) := by
  refine ⟨⟨⟨by decide, by decide +kernel, admitted _ _ _ _ _⟩, by decide +kernel⟩, ⟨⟨by decide, by decide +kernel, admitted _ _ _ _ _⟩, by decide +kernel⟩,
    ⟨by decide, by decide +kernel, admitted _ _ _ _ _⟩, by decide +kernel⟩

/-- A ready module whose safety island A is in some state. -/
def ringA (x : Safety) : State := st { ready with ring := { a := x } }

theorem witness_RingRowsRun :
    ((ringA {}).then 5).safetyRuns 0 ∧ ((ringA {}).then 5).ring.test = none ∧ ((ringA {}).then 5).safetyRuns 1 ∧
    (((ringA { closeSince := some 0, own := { closeOk := true }, lost := false, firstClosed := true }).then 5).safety 0).closeSince = some 0 ∧
    (let m := (ringA { closeSince := some 0, own := { closeOk := true }, lost := false, firstClosed := true }).then 5
     0 + ms ((m.safety 0).cfg 8 2) ≤ m.now ∧ (m.evaluate (m.safety 0)).closeOk ∧ (m.safety 0).carrier = false) ∧
    (let m := (st { ready with ring := {
        a := { lost := false, settings := some (0, 0), leftSince := some 0, copy := [1, 0, 2], inputs := 3 }, b := { settings := some (0, 0) } } }).then 5
     m.ring.blocked (m.safety 0) = false ∧ (m.evaluate (m.safety 0)).left ∧ 0 + ms ((m.safety 0).cfg 10 2) ≤ m.now) ∧
    2 ≤ (((ringA { missed := 2 }).then 5).safety 0).missed ∧ 10 ≤ (((ringA { run := 10 }).then 5).safety 0).run ∧
    ((((ringA { diffs := [⟨2, 0, 0, false⟩] }).then 5).safety 0).diffs.find? fun e => e.kind == 2 && e.index == 0) = some ⟨2, 0, 0, false⟩ ∧
    0 + ms ((((ringA {}).then 5).safety 0).cfg 6 2) < ((ringA {}).then 5).now ∧
    ((ringA {}).then 5).runs (axisIsland (((ringA {}).then 5).doorAxis 1)) ∧
    ((st { ready with ring := { obs := [(0, 0, false)] } }).then (ms 5)).ring.obs.find? (·.1 == 0) = some (0, 0, false) := by decide +kernel

theorem witness_RingTestRowsRun :
    (let m := (st { ready with ring := { a := { closed := true, testDue := some 5, copy := [0, 0, 0, 0, 2] }, b := { closed := true } } }).then 5
     bit ((m.safety 0).cfg 4 1) 1 ∧ (m.safety 0).testDue = some 5 ∧ m.ring.closed ∧ m.ring.latched = false ∧ m.ring.quiet ∧ m.ring.test = none ∧
       (m.safety 0).cfg 12 2 ≤ (m.safety 0).loopMa ∧ m.safetyRuns 0) ∧
    (((ringA { pulseAt := some 0 }).then 5).safety 0).pulseAt.isSome ∧ ((ringA { pulseAt := some 0 }).then 5).ring.test = none ∧
    (((ringA {}).then (seconds 86400)).safety 0).overdueFrom + seconds 86400 ≤ ((ringA {}).then (seconds 86400)).now := by decide +kernel

theorem witness_RingCommandsDo :
    (let s := st (logged .maintainer { ready with ring := { a := { closed := true }, b := { closed := true } } })
     let p := signed 0x502 0 [2, 0, 0, 0]
     Accepted ringTestSpec p s ∧ (taken ringTestSpec p s).ring.closed ∧ (taken ringTestSpec p s).ring.quiet ∧
      (taken ringTestSpec p s).ring.latched = false) ∧
    (let s := st (logged .maintainer { ready with ring := { a := { latch := .test, vA := 200 } } })
     let p := signed 0x502 0 [2, 0, 0, 0]
     Accepted ringTestSpec p s ∧ (taken ringTestSpec p s).proofAllowed ∧ (taken ringTestSpec p s).ring.a.latch.ofSwitch) ∧
    (let s := st (logged .maintainer { ready with ring := { a := { latch := .discrepancy } } })
     let p := signed 0x503 0 []
     Accepted ringClearSpec p s ∧ (taken ringClearSpec p s).clearAllowed) := by
  refine ⟨⟨⟨by decide, by decide +kernel, admitted _ _ _ _ _⟩, by decide +kernel⟩, ⟨⟨by decide, by decide +kernel, admitted _ _ _ _ _⟩, by decide +kernel⟩,
    ⟨by decide, by decide +kernel, admitted _ _ _ _ _⟩, by decide +kernel⟩

/-- A ready module whose motion island M1 is in some state. -/
def islandM1 (x : Island) (warden : Warden) (autoRearm : Bool) : State :=
  st { ready with
    islands := [{}, x, {}, {}, {}, {}, {}, {}, {}, {}], warden
    reset := { phase := .ready, autoRearm, holdStart := some 0, armed := false } }

theorem witness_IslandRowsRun :
    (((islandM1 {} {} false).then 5).runs 1 ∧ (((islandM1 {} {} false).then 5).island 1).persTimes = []) ∧
    ((((islandM1 { transientSecond := 3 } {} false).then 5).island 1).transientSecond ≠ 0 ∧
      (((islandM1 { transientSecond := 3 } {} false).then 5).island 1).transientAt = none) ∧
    (((islandM1 {} {} false).then 5).restarts1h 1).length < 2 ∧
    2 ≤ (((islandM1 { restartTimes := [1, 2] } {} false).then 5).restarts1h 1).length ∧
    ((((islandM1 { state := .restarting } {} false).then 5).island 1).state = .restarting ∧
      ((islandM1 { state := .restarting } {} false).then 5).warden.activation = none ∧
      ((islandM1 { state := .restarting } {} false).then 5).reset.phase = .ready) ∧
    (((islandM1 {} {} false).then 5).reset.holdStart = some 0 ∧ 0 + ms ((islandM1 {} {} false).then 5).reset.holdMs ≤ 5) ∧
    (((islandM1 {} { config := [1] } true).then 5).reset.autoRearm ∧ ((islandM1 {} { config := [1] } true).then 5).armFails = none ∧
      ((islandM1 {} { config := [1] } true).then 5).islands.all (·.state == .running)) := by decide +kernel

theorem witness_ArmingCommandsDo :
    (let s := st (logged .operator (islandM1 {} { config := [1] } false).m)
     let p := signed 0x0001 0 [100, 0, 0, 0]
     Accepted armSpec p s ∧ (taken armSpec p s).armFails = none ∧ (taken armSpec p s).reset.armed = false) ∧
    Accepted disarmSpec (signed 0x0002 0 []) (st (logged .operator ready)) ∧
    (Accepted moduleResetSpec (signed 0x0003 0 []) (st (logged .maintainer ready)) ∧
      (taken moduleResetSpec (signed 0x0003 0 []) (st (logged .maintainer ready))).warden.activation = none) ∧
    (Accepted islandRestartSpec (signed 0x0004 0 [1, 0, 0, 0]) (st (logged .maintainer ready)) ∧
      ((taken islandRestartSpec (signed 0x0004 0 [1, 0, 0, 0]) (st (logged .maintainer ready))).island 1).state ≠ .stopped) := by
  refine ⟨⟨⟨by decide, by decide +kernel, admitted _ _ _ _ _⟩, by decide +kernel⟩, ⟨by decide, by decide +kernel, admitted _ _ _ _ _⟩,
    ⟨⟨by decide, by decide +kernel, admitted _ _ _ _ _⟩, by decide +kernel⟩, ⟨by decide, by decide +kernel, admitted _ _ _ _ _⟩, by decide +kernel⟩

/-- A module whose portal 1 is enabled, with its door on axis 0 and some obstacle state. -/
def portal1 (o : Obstacle) : State :=
  st { withCfg 17 [1, 0, 0, 255] with obst := [o, {}, {}, {}], axes := [{ cmdSpeed := 1 }] }

theorem witness_ObstacleRowsRun :
    (((portal1 {}).then 5).enabled 1 ∧ ((portal1 {}).then 5).runs (axisIsland (((portal1 {}).then 5).doorAxis 1)) ∧
      ((portal1 {}).then 5).estimates (((portal1 {}).then 5).doorAxis 1) ∧ ((portal1 {}).then 5).stepAxis 1 = none ∧
      (((portal1 {}).then 5).axis (((portal1 {}).then 5).doorAxis 1)).moving) := by decide +kernel

/-- A module whose axis 0 counts an RS422 encoder on input 1, TERM PARTNER, with some feedback state and pair state. -/
def enc0 (f : Feedback) (pair : Pair) : State :=
  st { withCfg (fbCfg 0) [0, 1, 1, 0, 2] with feedback := [f], pair }

/-- The same with MIN_EDGE 50, 500 ns. -/
def encMin (f : Feedback) : State := st { withCfg (fbCfg 0) [0, 1, 1, 0, 2, 0, 0, 0, 50, 0] with feedback := [f] }

theorem witness_EncoderRowsRun :
    (((enc0 {} {}).then 5).counting 0 ∧ ((enc0 {} {}).then 5).source 0 = 1 ∧ ((enc0 {} {}).then 5).modulo 0 = false ∧
      (((enc0 {} {}).then 5).fb 0).heldEdges = [] ∧ 5 + ((enc0 {} {}).then 5).minEdge 0 ≤ 5) ∧
    (((encMin {}).then 10).counting 0 ∧ ((encMin {}).then 10).now < 10 + ((encMin {}).then 10).minEdge 0) ∧
    ((((encMin { heldEdges := [⟨0, 5, (true, false), false, false, none⟩] }).then 10).fb 0).heldEdges = [⟨0, 5, (true, false), false, false, none⟩] ∧
      ((encMin {}).then 10).now < 5 + ((encMin {}).then 10).minEdge 0) ∧
    (((enc0 { supplyFault := true } {}).then (seconds 1)).held = false) ∧
    ((((enc0 {} {}).then 5).fb 0).supplyOn = false ∧ ((enc0 {} {}).then 5).onEncoder 0) ∧
    ((((enc0 { supplyOn := true } {}).then (ms 10)).fb 0).supplyOn) ∧
    ((((enc0 { faultsSecond := (1, 0) } {}).then (seconds 1)).fb 0).faultsSecond.1 = 1) ∧
    (((enc0 {} {}).then 5).rs422 0 ∧ ((enc0 {} {}).then 5).runs (axisIsland 0)) ∧
    (((enc0 {} { id := 1 }).then 5).termMode 0 = 2 ∧ ((enc0 {} { id := 1 }).then 5).pair.heardAt = none) ∧
    (((enc0 { term := true } { id := 1, heardAt := some 9, heardSince := some 0 }).then (ms 25)).pair.heardAt = some 9 ∧
      ((enc0 { term := true } { id := 1, heardAt := some 9, heardSince := some 0 }).then (ms 25)).now < 9 + ms 25) := by decide +kernel

/-- A glitch of 40 ns on line A is rejected whole (R157); an edge that stands for MIN_EDGE counts. -/
theorem test_glitch :
    (((encMin { heldEdges := [⟨0, 5, (true, false), false, false, none⟩] }).m.noteEdge 0 0 45 (false, false) false).fb 0).edgeFaults = 2 ∧
    (((encMin { heldEdges := [⟨0, 5, (true, false), false, false, none⟩] }).then 505).acceptEdges 0).measured 0 = 0 ∧
    ((((encMin { heldEdges := [⟨0, 5, (true, false), false, false, none⟩] }).then 505).acceptEdges 0).fb 0).counter = 1 := by decide +kernel

/-- A module whose axis 0 has a serial sensor with some feedback state. -/
def ssp0 (f : Feedback) : State := st { withCfg (fbCfg 0) [0, 3] with feedback := [f] }

/-- A module whose axis 0 has a serial sensor of 18 bits under a protocol. -/
def ssp18 (protocol : Byte) : ModuleState := withCfg (fbCfg 0) ([0, 3] ++ List.replicate 30 0 ++ [protocol, 18])

theorem witness_ObserverRowsRun :
    (((st ready).then 5).source 0 = 0 ∧ ((st ready).then 5).runs (axisIsland 0)) ∧
    ((((enc0 {} {}).then 5).fb 0).tLast = none ∧ ((enc0 {} {}).then 5).source 0 ≠ 0) ∧
    ((((enc0 { tLast := some 5 } {}).then 5).fb 0).tLast = some 5 ∧ 5 + ((enc0 { tLast := some 5 } {}).then 5).stillTime 0 ≤ 5) ∧
    ((((st { withCfg (fbCfg 0) [0, 1, 1, 0, 0, 0, 0, 0, 0, 0, 1] with feedback := [{ tLast := some 5 }] }).then 5).fb 0).tLast = some 5 ∧
      5 < 5 + ((st { withCfg (fbCfg 0) [0, 1, 1, 0, 0, 0, 0, 0, 0, 0, 1] with feedback := [{ tLast := some 5 }] }).then 5).stillTime 0) ∧
    (((ssp0 {}).then 5).source 0 = 3 ∧ ((ssp0 {}).then 5).populated 0) ∧
    ((((ssp0 { sspBad := 2 }).then 5).fb 0).sspBad = 2) := by decide +kernel

/-- Frames of a sensor of 18 bits (R170): a BiSS-C word 1 with its inverted CRC, no warning; the same with its warning bit active; no start
bit; a Gray-coded SSI word 3. The CRCs of a
lone bit are what x^6 and x^12 leave. -/
theorem test_ssp_frames :
    crc6 1 1 = 3 ∧ crc6 7 64 = 5 ∧
    ((match (ssp18 0).sspFrame 0 true (256 + 192 + (63 - crc6 20 7)) 0 with | .ok x => x == (1, false) | .error _ => false : Bool) = true) ∧
    ((match (ssp18 0).sspFrame 0 true (256 + 128 + (63 - crc6 20 6)) 0 with | .ok x => x == (1, true) | .error _ => false : Bool) = true) ∧
    ((match (ssp18 0).sspFrame 0 false 0 0 with | .ok _ => false | .error c => c == 3 : Bool) = true) ∧
    ((match (ssp18 2).sspFrame 0 true 3 0 with | .ok x => x == (2, false) | .error _ => false : Bool) = true) := by decide +kernel

theorem witness_MarkCommandsDo :
    (Accepted markSetSpec (signed 0x302 0x200 [3, 0, 0, 0, 9, 0, 0, 0, 0, 0, 0, 0, 0, 0, 0, 0]) (st (logged .operator (enc0 {} {}).m)) ∧
      (taken markSetSpec (signed 0x302 0x200 [3, 0, 0, 0, 9, 0, 0, 0, 0, 0, 0, 0, 0, 0, 0, 0]) (st (logged .operator (enc0 {} {}).m))).axisOwner 0
        = 0) ∧
    (Accepted markClearSpec (signed 0x303 0x200 [1, 0, 0, 0]) (st (logged .operator (enc0 {} {}).m)) ∧
      (taken markClearSpec (signed 0x303 0x200 [1, 0, 0, 0]) (st (logged .operator (enc0 {} {}).m))).axisOwner 0 = 0) ∧
    Accepted latchArmSpec (signed 0x304 0x200 [0, 0, 48, 0, 0, 0, 0, 0]) (st (logged .operator (enc0 {} {}).m)) ∧
    (Accepted forceMapResetSpec (signed 0x403 0x101 [3, 0, 0, 0]) (st (logged .maintainer (portal1 {}).m)) ∧
      (taken forceMapResetSpec (signed 0x403 0x101 [3, 0, 0, 0]) (st (logged .maintainer (portal1 {}).m))).portalRests 1) := by
  refine ⟨⟨⟨by decide, by decide +kernel, admitted _ _ _ _ _⟩, by decide +kernel⟩, ⟨⟨by decide, by decide +kernel, admitted _ _ _ _ _⟩, by decide +kernel⟩,
    ⟨by decide, by decide +kernel, admitted _ _ _ _ _⟩, ⟨⟨by decide, by decide +kernel, admitted _ _ _ _ _⟩, by decide +kernel⟩⟩

/-- An armed module whose axis 0 is of some MODE, with some drive and axis state and VDRV present. -/
def drive0 (mode : Byte) (d : Drive) (x : Axis) : State :=
  st { withCfg (axisCfg 0) [0, mode] with drives := [d], axes := [x] }

/-- Its phase A has been open for a while. -/
def openA : State := drive0 1 { bridge := .driving, sluices := 15, sluiceOrder := 15, iaSet := 500, chopper := ({ lowSince := some 0 }, {}) } {}

/-- The same with the reverse-blocking stage open. -/
def fedBack (x : Axis) : State := st { (drive0 1 {} x).m with warden := { (drive0 1 {} x).m.warden with disconnected := true } }

theorem witness_BridgeFaultRowsRun :
    ((openA.then (ms 2)).populated 0 ∧ (openA.then (ms 2)).axisMode 0 ≠ 0 ∧ ((openA.then (ms 2)).drive 0).bridge = .driving ∧
      ((openA.then (ms 2)).drive 0).chopper.1.lowSince = some 0) ∧
    (((drive0 1 { following := [2, 0, 0, 0] } {}).then 5).runs (axisIsland 0)) ∧
    (((((fedBack { cmdSpeed := 1 }).then 5).clampEnergy 5000).readBulk 1650).axis 0).moving ∧
    (((((fedBack {}).then 5).clampEnergy 5000).readBulk 1650).axis 0).moving = false := by decide +kernel

/-- The drive module with its supply settings and STALL_WINDOW 1. -/
def drive0s (d : Drive) : State :=
  st { (drive0 1 d {}).m with warden := { (drive0 1 d {}).m.warden with
    config := bytesAt (axisCfg 0) [0, 1] ++ List.replicate 530 0 ++ [1, 0, 0, 0] } }

/-- A standby unit of a pair whose axis 0 is shared. -/
def standby0 : State :=
  st { ready with
    pair := { role := .standby }
    warden := { config := bytesAt (axisCfg 0) [0, 1] ++ List.replicate 523 0 ++ [4] ++ List.replicate 2322 0 ++ [1] } }

theorem witness_BridgeRowsRun :
    ((openA.then 5).runs (axisIsland 0) ∧ (openA.then 5).homingCap 0 = none ∧ (openA.then 5).axisMode 0 = 1) ∧
    (((openA.then 5).axis 0).restSince + (openA.then 5).holdDelay 0 ≤ 5) ∧
    (((drive0 1 { sluiceOrder := 15 } {}).then 5).mayClose 0 ∧ ((drive0 1 { sluiceOrder := 15 } {}).then 5).vdrvPresent ∧
      ((drive0 1 { sluiceOrder := 15 } {}).then 5).freed 0 = false) ∧
    ((((drive0 1 { validatingAt := some 0 } {}).then (ms 30)).acceptEdges 0).posError 0).natAbs ≤ 64 ∧
    64 < ((((enc0 { offset := 100 } {}).then 5).acceptEdges 0).posError 0).natAbs ∧
    (((drive0s { beyond := (1, 0) }).then 5).cfg (driveCfg 0 + 20) 4 ≠ 0 ∧ ((drive0s { beyond := (1, 0) }).then 5).stallAction 0 = 0 ∧
      ((drive0s { beyond := (1, 0) }).then 5).cfg (driveCfg 0 + 15) 1 = 0) ∧
    ((standby0.then (seconds 1)).pairMode ≠ 0 ∧ (standby0.then (seconds 1)).shared 0 ∧ (standby0.then (seconds 1)).testable 0 ∧
      passMask (standby0.then (seconds 1)).warden.vdrv [1] ≠ 255) := by decide +kernel

theorem witness_DriveCommandsDo :
    (Accepted driveFaultClearSpec (signed 0x208 0x200 []) (st (logged .maintainer (drive0 1 { bridge := .latched } {}).m)) ∧
      (taken driveFaultClearSpec (signed 0x208 0x200 []) (st (logged .maintainer (drive0 1 { bridge := .latched } {}).m))).causePresent 0 = false) ∧
    (Accepted solenoidSetSpec (signed 0x209 0x200 [1, 0, 0, 0, 0, 0, 5, 0]) (st (logged .operator (drive0 4 {} {}).m)) ∧
      (taken solenoidSetSpec (signed 0x209 0x200 [1, 0, 0, 0, 0, 0, 5, 0]) (st (logged .operator (drive0 4 {} {}).m))).axisMode 0 = 4) ∧
    (Accepted bridgeTestSpec (signed 0x20A 0x200 []) (st (logged .maintainer (drive0 1 {} {}).m)) ∧
      (taken bridgeTestSpec (signed 0x20A 0x200 []) (st (logged .maintainer (drive0 1 {} {}).m))).testable 0) := by
  refine ⟨⟨⟨by decide, by decide +kernel, admitted _ _ _ _ _⟩, by decide +kernel⟩, ⟨⟨by decide, by decide +kernel, admitted _ _ _ _ _⟩, by decide +kernel⟩,
    ⟨⟨by decide, by decide +kernel, admitted _ _ _ _ _⟩, by decide +kernel⟩⟩

/-- A ready module with an axis 0 in some state. -/
def axis0 (x : Axis) : State := drive0 1 { bridge := .driving } x

/-- A trajectory at a steady speed from 0 to 1 000 units. -/
def steady : Plan := { dir := 1, aim := 1000, since := 0, origin := 0, begins := ⟨0, 5, 0⟩, pieces := [⟨200, 0, 0⟩] }

/-- An axis on its way by timer steps. -/
def going : Axis :=
  { cmdSpeed := 5, interval := some 0, plan := some steady,
    queue := [{ mode := .absolute, notify := false, blend := false, id := 1, target := 1000, speed := 9, accel := 9, decel := 9, jerk := 9 }] }

theorem witness_StepRowsRun :
    ((((axis0 going).then 5).axis 0).interval = some 0 ∧ (((axis0 going).then 5).axis 0).plan = some steady ∧
      (((axis0 going).then 5).axis 0).stepAt + 5 * 0 ≤ 5) ∧
    ((((axis0 { going with intervalRest := 7 }).then 5).axis 0).intervalRest = 7) ∧
    ((((axis0 { going with intervals := [300] }).then 5).timerStep 0 0).axis 0).plan.isSome ∧
    ((((axis0 { going with replanAt := some 4 }).then 5).timerStep 0 0).axis 0).replanAt.isSome ∧
    (((axis0 going).then 5).axis 0).intervals = [] ∧ ((axis0 going).then 5).stepInc 0 < (((axis0 going).then 5).axis 0).left ∧
    ((((axis0 { going with path := .fallback }).then 20000).axis 0).phaseAt + 20000 ≤ ((axis0 { going with path := .fallback }).then 20000).now ∧
      (((axis0 { going with path := .fallback }).then 20000).axis 0).plan = some steady) ∧
    ((((axis0 { path := .fallback }).then 5).axis 0).moving = false ∧ ((axis0 { path := .fallback }).then 5).keptOnFallback 0 = false) := by decide +kernel

/-- The acceleration of D1 in Table 11 of chapter 03: 25 ms of jerk, 375 ms at constant acceleration, 25 ms of jerk, then cruise. -/
theorem test_profile_of_table_11 :
    ((profile { up := 1536000, down := 1536000, jerk := 61440000 } 0 0 614400 0 614400).map fun l => l.take 4) =
      some [⟨25 / 1000, 0, 61440000⟩, ⟨375 / 1000, 1536000, 0⟩, ⟨25 / 1000, 1536000, -61440000⟩, ⟨575 / 1000, 0, 0⟩] := by decide +kernel

theorem witness_MotionCommandsDo :
    (let s := st (logged .operator (drive0 1 {} {}).m)
     let p := signed 0x200 0x200 ([0, 0, 7] ++ zeros 29)
     let m := taken axisMoveSpec p s
     Accepted axisMoveSpec p s ∧ (m.axis 0).queue = [] ∧ (m.axis 0).moving = false ∧ (m.drive 0).awaitVal = false ∧ getI (commandPart p) 4 4 = (m.axis 0).cmdPos) ∧
    (let s := st (logged .operator (drive0 1 {} {}).m)
     let p := signed 0x200 0x200 ([0, 0, 7, 0, 100] ++ zeros 27)
     Accepted axisMoveSpec p s ∧ (commandPart p).length = 32 ∧ (taken axisMoveSpec p s).axisOwner 0 = 0 ∧
       (taken axisMoveSpec p s).moveTooMuch 0 ((taken axisMoveSpec p s).readMove 0 (commandPart p)) = false) ∧
    (Accepted axisStopSpec (signed 0x201 0x200 [1, 0, 0, 0]) (st (logged .operator (axis0 going).m)) ∧
      ((taken axisStopSpec (signed 0x201 0x200 [1, 0, 0, 0]) (st (logged .operator (axis0 going).m))).axis 0).moving) ∧
    (Accepted axisSetPositionSpec (signed 0x204 0x200 [1, 0, 0, 0, 0, 0, 0, 0]) (st (logged .maintainer (drive0 1 {} {}).m)) ∧
      ((taken axisSetPositionSpec (signed 0x204 0x200 [1, 0, 0, 0, 0, 0, 0, 0]) (st (logged .maintainer (drive0 1 {} {}).m))).axis 0).moving = false) ∧
    Accepted axisStepPathSpec (signed 0x205 0x200 [1, 0, 0, 0]) (st (logged .maintainer (drive0 1 {} {}).m)) ∧
    ((taken axisStepPathSpec (signed 0x205 0x200 [0, 0, 0, 0]) (st (logged .maintainer (drive0 1 {} {}).m))).axis 0).path = .timer := by
  refine ⟨⟨⟨by decide, by decide +kernel, admitted _ _ _ _ _⟩, by decide +kernel, by decide +kernel, by decide +kernel, by decide +kernel⟩,
    ⟨⟨by decide, by decide +kernel, admitted _ _ _ _ _⟩, by decide +kernel, by decide +kernel, by decide +kernel⟩,
    ⟨⟨by decide, by decide +kernel, admitted _ _ _ _ _⟩, by decide +kernel⟩,
    ⟨⟨by decide, by decide +kernel, admitted _ _ _ _ _⟩, by decide +kernel⟩, ⟨by decide, by decide +kernel, admitted _ _ _ _ _⟩, by decide +kernel⟩

/-- A module with SOURCES PTP, PPS and some time unit. -/
def timed (u : TimeUnit) : State := st { withCfg 2696 [1, 2] with time := u, eth := { configured := true } }

/-- A held ECHO with launch time 1 s. -/
def held1 : Sched :=
  { packet := { plain 0 [] with opcode := 7, flags := 18 }, launch := (1, 0), strict := false, role := none, data := [] }

theorem witness_TimeRowsRun :
    (((timed {}).then 5).ethRuns ∧ ((timed {}).then 5).sources.contains 1 ∧ ((timed {}).then 5).sources.contains 2 ∧
      ((timed {}).then 5).cfg timeCfg 1 = 1 ∧ ((timed {}).then 5).isStandby = false) ∧
    ((((timed {}).then 5).time.count 5 : Int) - 0).natAbs ≤ 500 ∧
    ((timed { masters := [{ data := [], utc := 0, last := 0, prev := none }] }).then 5).now ≤ 0 + seconds 8 ∧
    ((timed {}).then 5).time.units.contains none ∧
    (let m := (timed { units := List.replicate 8 (some 1) }).then 5
     ¬ m.time.units.contains (some (m.stamp.1 * 1000000000)) ∧ ¬ m.time.units.contains none) ∧
    ((((timed { timeSet := true }).then 5).time.count 5 : Int) - ((timed {}).then 5).cfgInt (timeCfg + 14) 2) % 1000000000 ≤ 100000 ∧
    0 + ((timed { ptpAt := some 0, quality := .locked }).then 5).syncTimeout ≤ 5 ∧
    0 + seconds (((timed { holdoverAt := some 0 }).then 5).cfg (timeCfg + 10) 2) ≤ 5 ∧
    ((timed { quality := .locked, asOf := 5 }).then 5).stamp.2 = 0 ∧
    ((timed { quality := .locked, asOf := 5 }).then 5).time.crossed ≠ some ((timed { quality := .locked, asOf := 5 }).then 5).stamp.1 ∧
    0 + ms (((timed { ppsOut := true }).then 5).cfg (timeCfg + 12) 2) ≤ 5 ∧
    (let m := (st { (timed {}).m with interp := { scheduled := [held1] } }).then 5
     m.time.units.getD 0 none = none ∧ m.targets = [1000000000] ∧ m.targets.filter (fun x => x ≤ m.count + 1000000000) = [1000000000]) ∧
    (let m := (st { (timed { sec := 1, units := [some 1000000000] }).m with interp := { scheduled := [held1] } }).then 5
     m.time.units.getD 0 none = some (stampNs held1.launch) ∧ stampNs held1.launch ≤ m.count ∧ m.interprets ∧
       ((m.ctl 0).buf 0).state ≠ .waiting) := by decide +kernel

theorem witness_TimeCommandsDo :
    (let p := signed 0x801 0 (zeros 12)
     let m := taken timeSetSpec p (st (logged .maintainer ready))
     Accepted timeSetSpec p (st (logged .maintainer ready)) ∧ m.time.quality = .free ∧ m.interp.waiting = [] ∧
       ((m.count : Int) - (stampNs (getN (commandPart p) 0 6, getN (commandPart p) 6 4) + (m.now - p.time) : Nat)).natAbs ≤ 1000000000) ∧
    (let p := signed 0x803 0 [1, 0, 0, 0, 0, 0, 0, 0]
     let s := st (logged .operator { ready with interp := { scheduled := [held1] } })
     Accepted scheduleCancelSpec p s ∧ (taken scheduleCancelSpec p s).interp.scheduled = [held1] ∧ held1.packet.seq = 1) := by
  refine ⟨⟨⟨by decide, by decide +kernel, admitted _ _ _ _ _⟩, by decide +kernel⟩,
    ⟨⟨by decide, by decide +kernel, admitted _ _ _ _ _⟩, by decide +kernel⟩⟩

/-- A configured module with a controller A in some state. -/
def can0 (q : Can) : State := st { withCfg 2728 (zeros 37 ++ [0, 2]) with can := [q, {}] }

theorem witness_CanBusRowsRun :
    ((((can0 { mode := .normal, order := some .off, bufs := [{ state := .pending }, {}, {}] }).then 5).ctl 0).buf 0).state = .pending ∧
    ((can0 { mode := .normal, bufs := [{ state := .pending }, {}, {}] }).then 5).offers 0 0 ∧
    (((can0 { integrating := true }).then 5).runs isNetwork ∧ ((can0 { integrating := true }).then 5).configured) ∧
    (((can0 { mode := .normal, err := .busOff, recovering := true }).then 5).ctl 0).recovering ∧
    ((((can0 { mode := .normal, objs := [{ bound := some 9 }] }).then 5).ctl 0).objs.findIdx fun x => x.bound == some 9) = 0 ∧
    (((can0 { mode := .autoRate }).then 5).ctl 0).dwellAt + ms (((can0 { mode := .autoRate }).then 5).cfg (canCfg 0 + 36) 2) ≤
      ((can0 { mode := .autoRate }).then 5).now ∧
    (((can0 { mode := .autoRate }).then 5).ctl 0).trying + 1 < ((can0 { mode := .autoRate }).then 5).cfg (canCfg 0 + 38) 1 ∧
    (((can0 { mode := .normal }).then 5).ctl 0).carries ∧ ((can0 { mode := .normal }).then 5).reqId 0 ≠ 0xFFFFFFFF ∧
    getN [3, 1, 2, 3] 0 1 = 3 ∧ getN [16, 20, 1] 0 1 = 16 + 20 / 256 := by decide +kernel

theorem witness_CanCommandsDo :
    Accepted canModeSpec (signed 0x902 0 [0, 2, 0, 0]) (st (logged .maintainer (can0 {}).m)) ∧
    (Accepted canRxBindSpec (signed 0x903 0x503 [9, 0, 0, 0, 1, 0, 0, 0]) (st (logged .operator (can0 {}).m)) ∧
      (∀ x ∈ ((taken canRxBindSpec (signed 0x903 0x503 [9, 0, 0, 0, 1, 0, 0, 0]) (st (logged .operator (can0 {}).m))).ctl 0).objs,
        x.bound ≠ some 9)) ∧
    Accepted canRxBindSpec (signed 0x903 0x503 [255, 255, 255, 255, 0, 0, 0, 0]) (st (logged .operator (can0 {}).m)) ∧
    Accepted canRxReadSpec (signed 0x904 0 [0, 1, 0, 0, 1, 0, 0, 0, 0, 0, 0, 0]) (st (logged .operator (can0 {}).m)) ∧
    (Accepted canTxSpec (signed 0x905 0x541 ([0, 0, 1, 0, 9] ++ zeros 15 ++ [7] ++ zeros 63)) (st (logged .operator (can0 { mode := .normal }).m)) ∧
      ((taken canTxSpec (signed 0x905 0x541 ([0, 0, 1, 0, 9] ++ zeros 15 ++ [7] ++ zeros 63)) (st (logged .operator (can0 { mode := .normal }).m))).ctl
        0).carries) ∧
    (Accepted canTxAbortSpec (signed 0x906 0x540 []) (st (logged .operator (can0 { bufs := [{ state := .waiting }] }).m)) ∧
      (((taken canTxAbortSpec (signed 0x906 0x540 []) (st (logged .operator (can0 { bufs := [{ state := .waiting }] }).m))).ctl 0).buf 0).state =
        .waiting) := by
  refine ⟨⟨by decide, by decide +kernel, admitted _ _ _ _ _⟩, ⟨⟨by decide, by decide +kernel, admitted _ _ _ _ _⟩, by decide +kernel⟩,
    ⟨by decide, by decide +kernel, admitted _ _ _ _ _⟩, ⟨by decide, by decide +kernel, admitted _ _ _ _ _⟩,
    ⟨⟨by decide, by decide +kernel, admitted _ _ _ _ _⟩, by decide +kernel⟩, ⟨⟨by decide, by decide +kernel, admitted _ _ _ _ _⟩, by decide +kernel⟩⟩

/-- A module whose VLAN 1 has all three ports as members, both links up, and some rings. -/
def eth0 (configured : Bool) (tx : EthRing) (learned : List Learned) : State :=
  st { withCfg (ethCfg + 14) ([1, 0, 1, 0] ++ zeros 22 ++ [1, 0, 3, 3]) with
    eth := { port1 := { link := true }, port2 := { link := true }, configured, tx, learned } }

/-- A frame to address 02 from 04. -/
def frame2 : List Byte := [2, 0, 0, 0, 0, 0, 4, 0, 0, 0, 0, 0, 0x88, 0xB5] ++ zeros 46

theorem witness_EthRowsRun :
    ((eth0 true {} []).then 5).windowOpen ∧ ((eth0 true {} []).then 5).eth.freeAt 1 ≤ 5 ∧ ((eth0 true {} []).then (ms 40)).reset.resetEndAt + ms 40 ≤ ms 40 ∧
    (((eth0 true {} []).then 5).runs isNetwork ∧ (((eth0 true {} []).then 5).eth.port 0).link) ∧
    ((eth0 false {} []).then 5).eth.configured = false ∧
    ((eth0 true {} []).then 5).linkAllowed 0 3 1 ∧
    (((eth0 true {} []).then 5).pvid 0 = 1 ∧ bit (((eth0 true {} []).then 5).vlan 1).1 0 ∧ bit (((eth0 true {} []).then 5).vlan 2).1 0 = false ∧
      (readFrame frame2).tci = 0 ∧ bit (readFrame frame2).src 0 = false) ∧
    (((eth0 true {} [{ vid := 1, mac := 2, port := 1, seen := 0 }]).then 5).eth.learned.find? fun y =>
      y.vid == 1 && y.mac == (readFrame frame2).dst) = some { vid := 1, mac := 2, port := 1, seen := 0 } ∧
    ptpOffset (readFrame frame2) = none ∧ (readFrame frame2).group = false ∧
    (bit (((eth0 true { count := 1, idle := true } []).mem.ringDesc 0).1) 31 = false) ∧
    (let mem : Memory := [(0, 16), (3, 128), (8, 60)]
     bit (mem.ringDesc 0).1 31 ∧ bitsAt (mem.ringDesc 0).1 4 2 = 1 ∧ (mem.ringDesc 0).2.2 = 60 ∧ bufOk (mem.ringDesc 0).2.1 60) ∧
    ((eth0 true { count := 1, sending := some (16, []), stopping := [3] } []).then 5).eth.tx.stopping ≠ [] := by decide +kernel

/-- A module whose Ethernet settings have commands and TRDP on and VLAN 1 as HOST_VID. -/
def trdp0 : State :=
  st { withCfg ethCfg ([3] ++ zeros 11 ++ [1, 0] ++ zeros 26 ++ [1, 0, 7, 0]) with eth := { port1 := { link := true }, configured := true } }

theorem witness_EthCommandsDo :
    (Accepted ethRingSetSpec (signed 0xA02 0 [0, 0, 2, 0, 0, 1, 0, 0]) (st (logged .operator ready)) ∧
      (taken ethRingSetSpec (signed 0xA02 0 [0, 0, 2, 0, 0, 1, 0, 0]) (st (logged .operator ready))).eth.tx.count = 0) ∧
    Accepted ethRingSetSpec (signed 0xA02 0 [1, 0, 0, 0, 0, 0, 0, 0]) (st (logged .operator ready)) ∧
    Accepted ethTopoSetSpec (signed 0xA03 0 [1, 0, 0, 0, 2, 0, 0, 0]) (st (logged .operator ready)) ∧
    ((trdp0.then 5).ethRuns ∧ bit (trdp0.then 5).ethFlags 0 ∧ bit (trdp0.then 5).ethFlags 1 ∧ (trdp0.then 5).hostLink ∧
      (trdp0.then 5).notOnDuty = false ∧ (trdp0.then 5).eth.pdAt + ms ((trdp0.then 5).cfg (ethCfg + 28) 2) ≤ 5) ∧
    ((((can0 { mode := .normal }).then 5).ctl 0).mode = .normal ∧ ((can0 { mode := .normal }).then 5).piId 0 ≠ 0xFFFFFFFF ∧
      bit (((can0 { mode := .normal }).then 5).canFlags 0) 4 = false) := by
  refine ⟨⟨⟨by decide, by decide +kernel, admitted _ _ _ _ _⟩, by decide +kernel⟩, ⟨by decide, by decide +kernel, admitted _ _ _ _ _⟩,
    ⟨by decide, by decide +kernel, admitted _ _ _ _ _⟩, by decide +kernel⟩

/-- A ready module with a channel 0 and a memory. -/
def cv0 (q : CvChan) (mem : Memory) : State := { m := { ready with cv := { chans := q :: List.replicate 15 {} } }, mem }

/-- A descriptor: 8 bytes from 0x100 to 0x200, END set. -/
def desc8 : Memory := [(1, 16), (3, 128), (4, 8), (9, 1), (13, 2)]

/-- The same in progress. -/
def moving (moved : Nat) : CvChan :=
  { state := .running, desc := some { ctrl := 0x80001000, count := 8, src := 0x100, dst := 0x200, next := 0, sgl := [] }, moved }

theorem witness_CulvertRowsRun :
    ((cv0 { due := true } []).memOk ∧ ((cv0 { due := true } []).then 5).cvRuns ∧ (((cv0 { due := true } []).then 5).chan 0).due ∧
      bit (leNat ((cv0 { due := true } []).mem.bytes 0 4)) 31 = false) ∧
    (let d : Desc := { ctrl := 0x80001000, count := 8, src := 0x100, dst := 0x200, next := 0, sgl := [] }
     Memory.wf desc8 ∧ leNat (Memory.bytes desc8 0 4) = d.ctrl ∧ bit d.ctrl 31 ∧ d.gather = false ∧ d.scatter = false ∧ d.pace = 0 ∧
       descFormatOk d 8 0 0 0 ∧ descFormatOk d 0x1000008 0 0 0 = false) ∧
    (let d : Desc := { ctrl := 0x80001010, count := 8, src := 0x40000000, dst := 0x200, next := 0, sgl := [] }
     let m := ((cv0 { state := .waiting, desc := some d } []).then 5)
     d.pace ≠ 0 ∧ m.cvRuns ∧ min 0 ((d.count - 0 + 3) / 4) ≤ m.paceLevel d) ∧
    (((cv0 (moving 8) desc8).then 5).cvRuns ∧ (((cv0 (moving 8) desc8).then 5).chan 0).sinkBad = false) ∧
    (((cv0 { state := .starved } []).then 5).chan 0).state = .starved ∧
    (let q := { moving 0 with desc := some { ctrl := 0x80001000, count := 8, src := 0x50000, dst := 0x200, next := 0, sgl := [] } }
     ((cv0 q desc8).then 5).cvSilent q = some 0x50000 ∧ q.moved + ((cv0 q desc8).then 5).cvPartBytes q < 8) ∧
    (∀ k < 20, k ≠ 0 → (((cv0 (moving 4) desc8).then 5).chan k).desc = none) ∧
    (let s : State := { m := { ready with cv := { halted := true } } }
     (s.then 5).runs isRecorder ∧ (s.then 5).cv.halted) := by decide +kernel

theorem witness_CulvertBurstMovesItsBytes :
    let d : Desc := { ctrl := 0x80001000, count := 8, src := 0x100, dst := 0x200, next := 0, sgl := [] }
    let s := cv0 (moving 4) [(0x100, 7), (0x106, 9)]
    s.memOk ∧ ((s.then 5).chan 0).desc = some d ∧ (s.then 5).cvSettle.cvTurn = some 0 ∧ d.gather = false ∧ d.scatter = false ∧
      bitsAt d.ctrl 10 2 = 0 ∧ bitsAt d.ctrl 8 2 = 0 ∧ d.pace = 0 ∧ ∀ k < 4, cvMemory (0x104 + k) ∧ cvMemory (0x204 + k) := by
  decide +kernel

theorem witness_CulvertCommandsDo :
    (let p := signed 0xB00 0x600 [32, 0, 0, 0, 8, 0, 4, 0, 0, 0, 0, 0]
     Accepted cvStartSpec p (st (logged .maintainer ready)) ∧
       ((taken cvStartSpec p (st (logged .maintainer ready))).chan 0).state = .idle ∧ cvDescRegion 32) ∧
    (let s := st (logged .maintainer (cv0 { state := .starved } []).m)
     Accepted cvStopSpec (signed 0xB01 0x600 []) s ∧ ((taken cvStopSpec (signed 0xB01 0x600 []) s).chan 0).state = .starved) ∧
    (let s := st (logged .maintainer (cv0 (moving 4) []).m)
     Accepted cvStopSpec (signed 0xB01 0x600 []) s ∧ ((taken cvStopSpec (signed 0xB01 0x600 []) s).chan 0).state = .running) ∧
    (let s := st (logged .maintainer { ready with cv := { halted := true } })
     Accepted culvertClearSpec (signed 0xB03 0 []) s ∧ (taken culvertClearSpec (signed 0xB03 0 []) s).cv.halted) ∧
    Accepted cvTraceSetSpec (signed 0xB04 0x200 [1, 0, 1, 0]) (st (logged .maintainer ready)) := by
  refine ⟨⟨⟨by decide, by decide +kernel, admitted _ _ _ _ _⟩, by decide +kernel⟩, ⟨⟨by decide, by decide +kernel, admitted _ _ _ _ _⟩,
    by decide +kernel⟩, ⟨⟨by decide, by decide +kernel, admitted _ _ _ _ _⟩, by decide +kernel⟩, ⟨⟨by decide, by decide +kernel,
    admitted _ _ _ _ _⟩, by decide +kernel⟩, ⟨by decide, by decide +kernel, admitted _ _ _ _ _⟩⟩

/-- A ready module with a recorder. -/
def recd0 (r : Recorder) : State := st { ready with recd := r }

/-- A damaged cycle record. -/
def rec0 : Rec := { key := ⟨0, 0, 0⟩, body := .cycle 1 0 {} (0, 0) 0 0 0, damaged := true }

/-- A readout of the cycle region. -/
def readout0 (half : Nat) : Readout := { region := 0, fromKey := ⟨0, 0, 0⟩, toKey := ⟨0, 0, 9⟩, bufAddr := 0, halfSize := half, lastNext := 0 }

/-- A snapshot with so many later samples. -/
def snap0 (post : Nat) : Snapshot := { key := ⟨0, 0, 0⟩, time := (0, 0), quality := 0, slot := 0, trigger := none, blocks := [], pre := 0, post }

theorem witness_RecorderRowsRun :
    ((recd0 {}).then 5).runs isRecorder ∧
    (let e : Event := { code := 0, source := 0, items := [], time := (0, 0), quality := 0 }
     ∀ k, ((recd0 { queue := [e] }).then 5).recTakes { queue := [e] } k ∧ e.snapshots = false ∧ notifying.contains e.code = false) ∧
    0 + seconds 1 ≤ ((recd0 { bufAt := some 0, buf := [rec0] }).then 1000000000).now ∧
    (([] ++ [rec0].filter Rec.isCycle).length * 64 ≤ 3072 * 1048576) ∧
    (let s := recd0 { readout := some (readout0 4096), cycles := [rec0] }
     bit (readout0 4096).free 0 ∧ (s.then 5).cvSettle.cvTurn = some 15 ∧ ((s.then 5).nextChunk (readout0 4096)).2.1) ∧
    ((recd0 { flushBusy := true, flushLeft := 64 }).then 5).cvSettle.cvTurn = some 14 ∧
    ((recd0 { cycles := [rec0] }).then 5 |>.nextChunk (readout0 16)).2.1 = false ∧
    (readout0 0).lastNext + seconds 60 ≤ ((recd0 {}).then 60000000000).now ∧
    0 + ms 1 ≤ ((st { ready with cv := { haltAt := some 0 } }).then 1000000).now ∧
    (let m := (st { ready with cv := { traces := [{ on := true }] } }).then 5
     m.cv.traces[0]? = some { on := true } ∧ m.runs (axisIsland 0)) ∧
    (9 : Nat) < 0 + ({ on := true, div := 1 } : TraceQ).div * 20000 ∧
    (∃ q : TraceQ, q.words.length = 1024 ∧ q.on ∧ ((st { ready with cv := { traces := [q] } }).then 5).cv.traces[0]? = some q) ∧
    (((axis0 {}).then 5).populated 0 ∧ ((axis0 {}).then 5).axisMode 0 ≠ 0 ∧ ((axis0 {}).then 5).recd.history[0]? = some []) ∧
    ((recd0 { collecting := some (snap0 500) }).then 5).recd.collecting = some (snap0 500) := by
  refine ⟨by decide +kernel, fun k => ?_, by decide +kernel, by decide +kernel, by decide +kernel, by decide +kernel, by decide +kernel,
    by decide +kernel, by decide +kernel, by decide +kernel, by decide +kernel, ⟨{ on := true, words := List.replicate 1024 0 }, by decide +kernel, by decide, rfl⟩, by decide +kernel,
    by decide +kernel⟩
  exact ⟨by simp [ModuleState.recTakes, ModuleState.flushClosed]; decide +kernel, by decide +kernel, by decide +kernel⟩

theorem witness_RecorderCommandsDo :
    (let p := signed 0xC01 0 (zeros 20 ++ List.replicate 16 0xFF ++ [0, 0, 0, 0, 0, 16, 0, 0])
     Accepted logReadSpec p (st (logged .maintainer ready)) ∧ ((commandPart p).drop 20).take 16 = List.replicate 16 (0xFF : Byte)) ∧
    (let s := st (logged .maintainer { ready with recd := { readout := some { readout0 4096 with filled := 1, free := 2 } } })
     Accepted logReadNextSpec (signed 0xC02 0 (zeros 4)) s) ∧
    (let s := st (logged .maintainer { ready with recd := { readout := some { readout0 4096 with filled := 1, free := 2 } } })
     Accepted logReadStopSpec (signed 0xC03 0 []) s) ∧
    (let s := st (logged .maintainer { ready with recd := { readout := some (readout0 4096) } })
     Accepted logReadStopSpec (signed 0xC03 0 []) s) ∧
    Accepted snapshotTriggerSpec (signed 0xC05 0 []) (st (logged .maintainer ready)) := by
  refine ⟨⟨⟨by decide, by decide +kernel, admitted _ _ _ _ _⟩, by decide +kernel⟩, ⟨by decide, by decide +kernel, admitted _ _ _ _ _⟩,
    ⟨by decide, by decide +kernel, admitted _ _ _ _ _⟩, ⟨by decide, by decide +kernel, admitted _ _ _ _ _⟩,
    ⟨by decide, by decide +kernel, admitted _ _ _ _ _⟩⟩

/-- A paired module with LEASE_MS 20 and some pair machine. -/
def pair0 (x : Pair) : State := st { withCfg 3120 [1, 0, 20, 0, 1] with pair := x }

/-- A lease message of a searching unit with a module's digest and class. -/
def heard0 (m : ModuleState) : LeaseMsg := { role := .searching, digest := m.configDigest, compat := m.compat }

theorem witness_LeaseRowsRun :
    (((pair0 {}).then 5).paired ∧ ((pair0 {}).then 5).leveeRuns) ∧
    0 + ms 5 ≤ ((pair0 { role := .duty }).then 5000000).now ∧
    (∃ msg : LeaseMsg, msg.digest = ((pair0 {}).then 5).configDigest ∧ msg.compat = ((pair0 {}).then 5).compat ∧
      msg.role = .searching ∧ msg.armed) ∧
    (∃ msg : LeaseMsg, msg.digest ≠ ((pair0 {}).then 5).configDigest) ∧
    ([(0, 3)].find? fun r : Nat × Nat => r.1 == 0) = some (0, 3) ∧
    ((pair0 { role := .searching }).then 5).preferred ∧ ((pair0 { role := .standby }).then 5).reset.armed ∧
    (1000 ≤ ((pair0 { role := .duty, leaseEnd := some 1000 }).then 5).now + ms 2) ∧
    (0 + ms 1 ≤ ((pair0 { role := .lapsed, soloAt := some 0 }).then 1000000).now) ∧
    (((pair0 { role := .standby, leaseView := some 0 }).then 2000000).fenceOk ∧ 0 + ms 2 ≤ ((pair0 {}).then 2000000).now) ∧
    (max 0 ((none : Option Nat).getD 0) + ms 100 ≤ ((pair0 { role := .searching }).then 100000000).now) ∧
    (0 + ms 100 ≤ ((pair0 { port1 := { fenceOut := some 0 } }).then 100000000).now) ∧
    (((pair0 {}).then 5).pair.port 1).fenceOk ∧ (((pair0 {}).then 5).pair.port 1).up ≠ true := by
  refine ⟨by decide +kernel, by decide +kernel, ⟨heard0 ((pair0 {}).then 5), rfl, rfl, rfl, rfl⟩, ⟨{ role := .duty, digest := ((pair0 {}).then 5).configDigest + 1 },
    Nat.succ_ne_self _⟩, by decide, by decide +kernel, by decide +kernel, by decide +kernel, by decide +kernel, by decide +kernel,
    by decide +kernel, by decide +kernel, by decide +kernel, by decide +kernel⟩

/-- The comparison vector of such a module. -/
def vector0 : CompareVector := ((pair0 {}).then 5).vector

theorem witness_MirrorRowsRun :
    (let m := (pair0 { role := .duty, partner := some .standby, mismatches := [((3, 1), 4)], vectors := [(0, vector0)] }).then 5
     m.paired ∧ m.leveeRuns ∧ m.ownVector 0 = some vector0 ∧ m.mismatching vector0 vector0 = [] ∧
       m.mismatching vector0 { vector0 with lsDemand := 1 } = [(3, 1)]) ∧
    4 + 1 = ((st { withCfg 3120 [1, 0, 20, 0, 5] with pair := {} }).then 5).cfg (pairCfg + 4) 1 ∧
    (let m := (pair0 { role := .standby, arb := some (1, [((1, 0), 3)]), vectors := [(0, vector0)] }).then 5
     m.ownVector 0 = some vector0 ∧ disagrees ((1, 0), if m.witness vector0 vector0 1 0 then 4 else 3)) ∧
    0 + seconds 10 ≤ ((pair0 { discord := true, fullSeen := true, fitSince := some 0 }).then 10000000000).now ∧
    0 + ms 1 ≤ ((pair0 { role := .duty }).then 1000000).now ∧
    0 + ms 2 ≤ ((pair0 { partialAt := some 0 }).then 2000000).now := by decide +kernel

theorem witness_TransferRowsRun :
    (((pair0 {}).then 5).paired ∧ ((pair0 {}).then 5).leveeRuns) ∧
    ((pair0 { role := .duty, partner := some .standby, planned := some (5, false) }).then 5).partnerFit ∧
    (let m := (st { withCfg 3120 [1, 6, 20, 0, 1, 0, 1] with pair := { role := .duty, partner := some .standby } }).then 3600000000000
     bit (m.cfg (pairCfg + 1) 1) 2 ∧ m.partnerFit ∧ 0 + seconds (3600 * m.cfg (pairCfg + 6) 2) ≤ m.now) ∧
    (let m := (st { withCfg 3120 [1, 6, 20, 0, 1, 0, 1] with pair := { role := .standby, lostDuty := true, standbySince := some 0 } }).then 5
     m.preferred ∧ bit (m.cfg (pairCfg + 1) 1) 1 ∧ 0 + seconds (m.cfg (pairCfg + 12) 2) ≤ m.now) ∧
    (0 + ms 5 ≤ ((pair0 { checkAt := some 0 }).then 5000000).now ∧ ∀ k < 10, (((pair0 { checkAt := some 0 }).then 5000000).drive k).bridge ≠ .latched) ∧
    (let m := { standby0.m with drives := [{ bridge := .latched, fault := .openPhase }] }
     0 ∈ (State.then { standby0 with m := m } 5).sharedAxes) ∧
    0 + seconds 1 ≤ ((pair0 { discordant := some 0, matchSince := some 0 }).then 1000000000).now ∧
    0 + ms 50 ≤ ((pair0 {}).then 50000000).now := by decide +kernel

theorem witness_PairCommandsDo :
    (let s := st (logged .maintainer (pair0 { role := .duty, partner := some .standby, heardAt := some 0 }).m)
     Accepted dutyHandoverSpec (signed 0xD02 0 (zeros 4)) s ∧
       (taken dutyHandoverSpec (signed 0xD02 0 (zeros 4)) s).heard (some 0)) ∧
    Accepted clusterForwardSpec (signed 0xD03 0x701 (zeros 16)) (st (logged .maintainer (pair0 { role := .duty }).m)) ∧
    Accepted discordClearSpec (signed 0xD04 0 []) (st (logged .maintainer (pair0 { discord := true }).m)) ∧
    Accepted clusterSoloSpec (signed 0xD05 0 []) (st (logged .maintainer (pair0 { fenced := true, role := .searching }).m)) := by
  refine ⟨⟨⟨by decide, by decide +kernel, admitted _ _ _ _ _⟩, by decide +kernel⟩, ⟨by decide, by decide +kernel, admitted _ _ _ _ _⟩,
    ⟨by decide, by decide +kernel, admitted _ _ _ _ _⟩, ⟨by decide, by decide +kernel, admitted _ _ _ _ _⟩⟩

theorem witness_SecurityRowsRun :
    (let m := (st (logged .operator ready)).then 60000000000
     m.sec.session 7 = some (session .operator) ∧ (session .operator).active ∧ 0 + seconds (session .operator).life ≤ m.now) ∧
    (let m := (st { ready with sec := { sessions := [{ session .operator with active := false }] } }).then 5000000000
     m.sec.session 7 = some { session .operator with active := false } ∧ 0 + seconds 5 ≤ m.now) ∧
    bit ((st ready).then 5).sec.tripped 1 = false ∧
    0 + seconds 10 ≤ ((st { ready with sec := { tripped := 1, heldBack := some 0 } }).then 10000000000).now ∧
    ((st ready).then 5).sec.freshLowAt.getD 1 none = none ∧ ((st ready).then 5).sec.life = .blank ∧ ((st ready).then 5).runs isFloodgate := by
  decide +kernel

theorem witness_SecurityCommandsDo :
    (let s := st { ready with sec := { life := .provisioned, roleKeys := [some 1], signReady := true, kemOk := true } }
     let p := { plain 0 ([0, 0, 0, 0, 60] ++ zeros 1127) with opcode := 0xE02 }
     Accepted sessionOpenSpec p s ∧ (taken sessionOpenSpec p s).signFails = none ∧ (taken sessionOpenSpec p s).sec.kemOk) ∧
    (let s := st (logged .operator ready)
     Accepted sessionConfirmSpec (signed 0xE03 0 (zeros 32)) s ∧ leNat (zeros 32) = (session .operator).h) ∧
    Accepted sessionCloseSpec (signed 0xE04 0 []) (st (logged .operator ready)) ∧
    (let s := st (logged .operator { ready with sec := { signReady := true } })
     Accepted attestSpec (signed 0xE05 0 (zeros 32)) s ∧ (taken attestSpec (signed 0xE05 0 (zeros 32)) s).signFails = none) ∧
    (let s := st (logged .integrator { ready with sec := { signReady := true } })
     Accepted kemRotateSpec (signed 0xE08 0 []) s ∧ (taken kemRotateSpec (signed 0xE08 0 []) s).signFails = none) ∧
    Accepted keySetSpec (signed 0xE06 0 ([0, 0, 0, 0, 32, 0, 0, 0] ++ zeros 32)) (st (logged .integrator ready)) ∧
    Accepted keySetSpec (signed 0xE06 0 ([1, 1, 0, 0, 32, 0, 0, 0] ++ zeros 32)) (st (logged .integrator ready)) ∧
    Accepted keySetSpec (signed 0xE06 0 ([2, 0, 1, 0, 68, 0, 0, 0] ++ zeros 68)) (st (logged .integrator ready)) ∧
    (let s := st (logged .integrator ready)
     Accepted keySetSpec (signed 0xE06 0 [3, 0, 1, 0, 0, 0, 0, 0]) s ∧ (taken keySetSpec (signed 0xE06 0 [3, 0, 1, 0, 0, 0, 0, 0]) s).lastKey 3 0 1 0 = false) ∧
    (let s := st (logged .integrator { ready with sec := { life := .provisioned } })
     let p := signed 0xE07 0 ([0, 0, 0, 0] ++ leBytes 4 (Config.shake256 Config.identityKey 32 % 2 ^ 32))
     Accepted lifecycleAdvanceSpec p s ∧ (taken lifecycleAdvanceSpec p s).advanceOk .blank) ∧
    getN ([0, 0, 0, 0] ++ leBytes 4 (Config.shake256 Config.identityKey 32 % 2 ^ 32)) 4 4 = Config.shake256 Config.identityKey 32 % 2 ^ 32 := by
  refine ⟨⟨⟨by decide, by decide +kernel, by unfold Admitted; decide +kernel⟩, by decide +kernel⟩,
    ⟨⟨by decide, by decide +kernel, admitted _ _ _ _ _⟩, by decide⟩, ⟨by decide, by decide +kernel, admitted _ _ _ _ _⟩,
    ⟨⟨by decide, by decide +kernel, admitted _ _ _ _ _⟩, by decide +kernel⟩, ⟨⟨by decide, by decide +kernel, admitted _ _ _ _ _⟩,
    by decide +kernel⟩, ⟨by decide, by decide +kernel, admitted _ _ _ _ _⟩, ⟨by decide, by decide +kernel, admitted _ _ _ _ _⟩,
    ⟨by decide, by decide +kernel, admitted _ _ _ _ _⟩, ⟨⟨by decide, by decide +kernel, admitted _ _ _ _ _⟩, by decide +kernel⟩,
    ⟨⟨by decide, by decide +kernel, admitted _ _ _ _ _⟩, by decide +kernel⟩, ?_⟩
  have h : getN ([0, 0, 0, 0] ++ leBytes 4 (Config.shake256 Config.identityKey 32 % 2 ^ 32)) 4 4 =
    leNat (leBytes 4 (Config.shake256 Config.identityKey 32 % 2 ^ 32)) := rfl
  rw [h, leNat_leBytes]
  omega

/-- A sample at rest. -/
def sample0 : SensorSample :=
  { temps := List.replicate 12 400, vctl := 240, vdrv := 240, bulk := 240, vls := 240, vfo := 240, holdCap := 300, rails := 0, dew := 100
    shock := (5, 5, 5), pLogic := 1, loads := [], outputs := [] }

/-- A ready module with a warden. -/
def warden0 (w : Warden) : State := st { ready with warden := w }

theorem witness_WardenRowsRun :
    (((warden0 {}).then 5).runs isWarden ∧ sample0.temps.length = 12 ∧ ((warden0 {}).then 5).reset.phase ≠ .held) ∧
    0 + seconds 60 ≤ ((warden0 { dewLowSince := some 0 }).then 60000000000).now ∧
    ((warden0 { erasing := some 0 }).then 5).warden.erasing = some 0 ∧
    ((warden0 { verifying := some 0 }).then 5).warden.erasing = none ∧
    ((warden0 { activation := some (0, true, 0) }).then 5).warden.activation = some (0, true, 0) ∧
    (activationOrder.getD 0 9 ≠ isWarden ∧ activationOrder.getD 9 9 = isWarden) := by decide +kernel

theorem witness_WardenCommandsDo :
    Accepted imageWriteSpec (signed 0xF02 0 [0, 0, 0, 0, 1, 0, 0, 0, 7]) (st (logged .maintainer ready)) ∧
    Accepted imageWriteSpec (signed 0xF02 0 [8, 0, 0, 0, 0, 0, 0, 0, 7]) (st (logged .maintainer ready)) ∧
    Accepted imageVerifySpec (signed 0xF03 0 []) (st (logged .maintainer ready)) ∧
    Accepted configLoadSpec (signed 0xF04 0 (zeros 3154)) (st (logged .integrator ready)) ∧
    (let m := { ready with
       warden := { pendingCfg := some [], config := bytesAt 2064 [1] }, ring := { a := { inputs := 1 }, b := { inputs := 1 } } }
     let p := signed 0xF05 0 [1, 1, 0, 0]
     Accepted activateSpec p (st (logged .maintainer m)) ∧ (taken activateSpec p (st (logged .maintainer m))).windowOk ∧
       (taken activateSpec p (st (logged .maintainer m))).paired = false) := by
  refine ⟨⟨by decide +kernel, by decide +kernel, admitted _ _ _ _ _⟩, ⟨by decide +kernel, by decide +kernel, admitted _ _ _ _ _⟩,
    ⟨by decide +kernel, by decide +kernel, admitted _ _ _ _ _⟩, ⟨by decide +kernel, by decide +kernel, admitted _ _ _ _ _⟩,
    ⟨⟨by decide +kernel, by decide +kernel, admitted _ _ _ _ _⟩, by decide +kernel⟩⟩

theorem witness_SupplyRowsRun :
    ((st ready).then 5).recd.failFlushAt = none ∧ ((st ready).then 5).reset.phase ≠ .held ∧ ((st ready).then 5).reset.phase ≠ .lockout ∧
    ((warden0 { holdup := .charging }).then 2000000000).warden.powerAt + seconds 2 ≤ 2000000000 ∧
    ((warden0 {}).then 5).warden.level ≠ levelOf ((warden0 {}).then 5).warden.level 100 ∧
    0 + seconds 1 ≤ ((warden0 { surgeAt := some 0 }).then 1000000000).now ∧
    0 + ms 100 ≤ ((warden0 { disconnected := true }).then 100000000).now ∧
    0 + seconds 10 ≤ ((warden0 { hot := true }).then 10000000000).now ∧
    ((warden0 {}).then 5).warden.hot = false ∧ ((warden0 {}).then 5).warden.shutdown = false := by decide +kernel

/-- A module in a reset phase with a cause. -/
def phase0 (phase : Phase) (cause : Nat) : State := st { reset := { phase, cause } }

theorem witness_ResetRowsRun :
    (((st ready).then 5).held = false ∧ ((st ready).then 5).recd.failFlushAt = none) ∧
    ((warden0 { railReset := true }).then 5).warden.railReset ∧
    (((pair0 {}).then 5).facing.contains 1 ∧ ((pair0 {}).then 5).paired ∧ ((pair0 {}).then 5).held = false) ∧
    ((phase0 .lockout 7).then 5).reset.phase = .lockout ∧
    ((st { ready with recd := { failFlushAt := some 0 } }).then 5).held = false ∧
    ((phase0 .held 6).then 10000000).reset.heldAt + ms 10 ≤ 10000000 ∧
    (let m := ((phase0 .held 5).then 5).setPair fun x => x.setPort 1 fun q => { q with fenceIn := false }
     ∀ n ∈ m.facing, (m.pair.port n).fenceIn = false) ∧
    ((phase0 .held 2).then 5).held ∧
    (let m := (st { reset := { phase := .starting }, field := { inputs := List.replicate 48 { settling := false, settling2 := false }, seenIn := List.replicate 48 { settling := false, settling2 := false } } }).then 5
     (∀ x ∈ m.islands, x.state = .running) ∧ m.unsettled = false) := by decide +kernel

/-- A ready module with a host window. -/
def host0 (h : HostWin) : State := st { ready with host := h }

theorem witness_HostWindowRowsRun :
    ((host0 {}).then 5).windowOpen ∧ ((host0 { evt := [[1, 2]] }).then 5).host.evt = (1 :: [2]) :: [] ∧ ((host0 {}).then 5).host.evt = [] ∧
    (let m := (host0 { rsp := [[1]] }).then 5
     m.host.rsp = (1 :: []) :: [] ∧ m.host.heldReplies = [] ∧ m.interp.launched = [] ∧ m.interp.waiting = []) ∧
    (0x10 : Word).getLsbD 4 ∧ (0x11 : Word).getLsbD 5 = false ∧ (((host0 {}).then 5).island isPolder).persTimes = [] ∧
    ((host0 { damaged := [0] }).then 5).host.damaged.contains ((host0 { damaged := [0] }).then 5).host.winAddr.toNat ∧
    (host0 {}).memOk := by decide +kernel

/-- A placed action of a channel, and what waits for it. -/
def acting (left : Nat) : State :=
  st { ready with interp := { actions := [{ id := 2, ref := 1, channel := .m1ax, placed := 0, opcode := 0x200 }],
                              inflight := [{ ref := 1, replyTo := replyTo ready (plain 0 []) 0x200 false, status := 0, payload := [], left }] } }

theorem witness_InterpreterRowsRun :
    (((host0 {}).then 5).interprets ∧ ((host0 {}).then 5).cmdUsed < 1024 ∧ ((host0 {}).then 5).host.discard = false) ∧
    (let b := ((List.replicate 3 (0 : Word)) ++ [1]).flatMap wordBytes
     headerOk b = false) ∧
    (let b := (packetBytes 2 7 1 0 0 [9]).take 16
     headerOk b ∧ b.length = 16 ∧ getN b 12 2 = 1) ∧
    (let f : LeveeFrame := { src := 1, dest := 2, seq := 0, body := .epochPart }
     let m := (pair0 {}).then 5
     m.paired ∧ m.leveeRuns ∧ f.crcOk ∧ f.dest ≠ m.pair.id ∧ f.hops < 3) ∧
    (let m := (acting 1).then 10000000
     m.oldest .m1ax = some { id := 2, ref := 1, channel := .m1ax, placed := 0, opcode := 0x200 } ∧ m.runs Channel.m1ax.island ∧
       (m.interp.inflight.find? fun x => x.ref == 1).map (·.left) = some 1 ∧ m.overdue .m1ax = m.oldest .m1ax ∧ m.interp.hold = none) ∧
    (let m := (st { ready with interp := { hold := some { packet := plain 0 [], since := 0, waits := [], broken := false, checked := true
                                                          role := none, data := [], late := false } } }).then 5000000
     m.interp.hold.isSome ∧ m.interp.launched = [] ∧ m.interp.waiting = [] ∧ 0 + ms 5 ≤ m.now) := by decide +kernel

theorem witness_TransportCommandsDo :
    Accepted echoSpec (signed 7 0 [1, 2, 3]) (st (logged .operator ready)) ∧
    Accepted notifyRouteSpec (signed 8 0 [2, 0, 1, 0, 0, 0, 0, 0]) (st (logged .operator ready)) ∧
    Accepted notifyRouteSpec (signed 8 0 (zeros 8)) (st (logged .operator ready)) := by
  refine ⟨⟨by decide, by decide +kernel, admitted _ _ _ _ _⟩, ⟨by decide, by decide +kernel, admitted _ _ _ _ _⟩,
    ⟨by decide, by decide +kernel, admitted _ _ _ _ _⟩⟩

theorem witness_SettingsReadsAnswer :
    Accepted readPortalConfigSpec (signed 0x108 0 []) (st (logged .operator ready)) ∧
    Accepted readAxisConfigSpec (signed 0x203 0x200 []) (st (logged .operator ready)) ∧
    Accepted readDriveConfigSpec (signed 0x207 0 []) (st (logged .operator ready)) ∧
    Accepted readFeedbackConfigSpec (signed 0x301 0x207 []) (st (logged .operator ready)) ∧
    Accepted readObstacleConfigSpec (signed 0x401 0x104 []) (st (logged .operator (withCfg 209 [1]))) ∧
    Accepted readRingConfigSpec (signed 0x501 0 []) (st (logged .operator ready)) ∧
    Accepted readLsConfigSpec (signed 0x604 0x310 []) (st (logged .operator ready)) ∧
    Accepted readFieldConfigSpec (signed 0x706 0 []) (st (logged .operator ready)) ∧
    Accepted readTimeConfigSpec (signed 0x802 0 []) (st (logged .operator ready)) ∧
    Accepted readCanConfigSpec (signed 0x901 0 [1, 0, 0, 0]) (st (logged .operator ready)) ∧
    Accepted readEthConfigSpec (signed 0xA01 0 []) (st (logged .operator ready)) ∧
    Accepted readRecConfigSpec (signed 0xC04 0 []) (st (logged .operator ready)) ∧
    Accepted readPairConfigSpec (signed 0xD01 0 []) (st (logged .operator ready)) := by
  refine ⟨⟨by decide, by decide +kernel, admitted _ _ _ _ _⟩, ⟨by decide, by decide +kernel, admitted _ _ _ _ _⟩,
    ⟨by decide, by decide +kernel, admitted _ _ _ _ _⟩, ⟨by decide, by decide +kernel, admitted _ _ _ _ _⟩,
    ⟨by decide +kernel, by decide +kernel, admitted _ _ _ _ _⟩, ⟨by decide, by decide +kernel, admitted _ _ _ _ _⟩,
    ⟨by decide, by decide +kernel, admitted _ _ _ _ _⟩, ⟨by decide, by decide +kernel, admitted _ _ _ _ _⟩,
    ⟨by decide, by decide +kernel, admitted _ _ _ _ _⟩, ⟨by decide, by decide +kernel, admitted _ _ _ _ _⟩,
    ⟨by decide, by decide +kernel, admitted _ _ _ _ _⟩, ⟨by decide, by decide +kernel, admitted _ _ _ _ _⟩,
    ⟨by decide, by decide +kernel, admitted _ _ _ _ _⟩⟩

theorem witness_StatusReadsAnswer :
    Accepted resetStatusSpec (signed 5 0 []) (st (logged .operator ready)) ∧
    Accepted readIslandHealthSpec (signed 6 0 []) (st (logged .operator ready)) ∧
    Accepted transportStatusSpec (signed 9 0 []) (st (logged .operator ready)) ∧
    Accepted portalStatusSpec (signed 0x107 0 []) (st (logged .operator ready)) ∧
    Accepted profileStatusSpec (signed 0x113 0 []) (st (logged .operator ready)) ∧
    Accepted axisStatusSpec (signed 0x202 0x201 []) (st (logged .operator ready)) ∧
    Accepted driveStatusSpec (signed 0x206 0 []) (st (logged .operator ready)) ∧
    Accepted feedbackStatusSpec (signed 0x300 0 []) (st (logged .operator ready)) ∧
    Accepted latchReadSpec (signed 0x305 0x200 []) (st (logged .operator (enc0 {} {}).m)) ∧
    Accepted obstacleStatusSpec (signed 0x400 0 []) (st (logged .operator ready)) ∧
    Accepted forceMapReadSpec (signed 0x402 0x104 []) (st (logged .operator (withCfg 209 [1]))) ∧
    Accepted ringStatusSpec (signed 0x500 0 []) (st (logged .operator ready)) ∧
    Accepted lsStatusSpec (signed 0x603 0x301 []) (st (logged .operator ready)) ∧
    Accepted pgStatusSpec (signed 0x606 0 []) (st (logged .operator ready)) ∧
    Accepted fiStatusSpec (signed 0x700 0x401 []) (st (logged .operator ready)) ∧
    Accepted foStatusSpec (signed 0x704 0 []) (st (logged .operator ready)) ∧
    Accepted linkStatusSpec (signed 0x705 0 []) (st (logged .operator ready)) ∧
    Accepted timeStatusSpec (signed 0x800 0 []) (st (logged .operator ready)) ∧
    Accepted canStatusSpec (signed 0x900 0 [1, 0, 0, 0]) (st (logged .operator ready)) ∧
    Accepted ethStatusSpec (signed 0xA00 0 []) (st (logged .operator ready)) ∧
    Accepted cvStatusSpec (signed 0xB02 0x60F []) (st (logged .operator ready)) ∧
    Accepted recStatusSpec (signed 0xC00 0 []) (st (logged .operator ready)) ∧
    Accepted clusterStatusSpec (signed 0xD00 0 []) (st (logged .operator ready)) ∧
    Accepted secStatusSpec (signed 0xE00 0 []) (st (logged .operator ready)) ∧
    Accepted identityReadSpec (signed 0xE01 0 []) (st (logged .operator ready)) ∧
    Accepted mgmtHealthSpec (signed 0xF00 0 []) (st (logged .operator ready)) ∧
    Accepted bankStatusSpec (signed 0xF01 0 []) (st (logged .operator ready)) ∧
    Accepted supplyStatusSpec (signed 0xF06 0 []) (st (logged .operator ready)) := by
  refine ⟨?_, ?_, ?_, ?_, ?_, ?_, ?_, ?_, ?_, ?_, ?_, ?_, ?_, ?_, ?_, ?_, ?_, ?_, ?_, ?_, ?_, ?_, ?_, ?_, ?_, ?_, ?_, ?_⟩ <;>
    exact ⟨by decide +kernel, by decide +kernel, admitted _ _ _ _ _⟩

theorem witness_StepTakesTheFront :
    ({ st ready with pending := [.moduleReady 5] } : State).pending = Instr.moduleReady 5 :: [] ∧ (st ready).pending = [] := by decide +kernel

theorem witness_EveryStepKeepsTheMemoryForm :
    ({ st ready with pending := [.winDataWrite 5 7], mem := [(4, 1)] } : State).memOk ∧
    (match step { st ready with pending := [.winDataWrite 5 7], mem := [(4, 1)] } with
     | .next s' => s'.pending.isEmpty
     | _ => false) = true := by
  decide +kernel

theorem witness_EveryRowRuns :
    (Instr.lsCooled 5 16).wf ∧ (match exec (.lsCooled 5 17) (st ready) with | .fault _ => true | _ => false) = true := by decide +kernel

/-- LS9 to be switched on while M2 restarts. -/
def restartingM2 : State :=
  st (logged .operator { withCfg 2096 [1, 1, 0, 1, 100, 0, 1, 0, 0, 0, 2] with islands := upd (List.replicate 10 {}) isM2 fun x => { x with state := .restarting } })

theorem witness_RestartingIslandIsRefused : let p := signed 0x605 0 [0, 0, 7, 0, 100, 0, 0, 0]
    (Instr.pgSet p, pgSetSpec) ∈ packetRows p ∧ Accepted pgSetSpec p restartingM2 ∧
    (pgSetSpec.body (cmdOf pgSetSpec p restartingM2) (taken pgSetSpec p restartingM2)).status < 0x8000 ∧
    ((pgSetSpec.body (cmdOf pgSetSpec p restartingM2) (taken pgSetSpec p restartingM2)).acts.any fun ch =>
      ((taken pgSetSpec p restartingM2).island ch.island).state == .restarting) := by
  refine ⟨?_, ⟨by decide, by decide +kernel, admitted _ _ _ _ _⟩, by decide +kernel, by decide +kernel⟩
  simp [packetRows, controlRows, driveRows, busRows, recordRows]

theorem witness_UnknownOpcodeFails : ({ plain 0 [] with opcode := 0x1234 } : Packet).opcode ∉ tableTwo ∧ announced (plain 0 []) ≤ 0 := by decide +kernel

theorem witness_RestartDisarmsForFourIslands : (ready.island isM1).state = .running ∧ ((st ready).then 5).runs isM1 ∧
    ((st ready).then 5).runs isRecorder := by decide +kernel

theorem witness_FailedAdmissionHasNoEffect : let p := { plain 0x301 [1, 0, 0, 0] with session := 9, flags := 3, payload := List.replicate 20 0 }
    Free lsSetSpec p (st ready) ∧ announced p ≤ p.payload.length ∧
    (admission lsSetSpec (asOpcode lsSetSpec p) (arrived lsSetSpec p (st ready))).fail = some 0x8104 := by decide +kernel

theorem witness_DriveSideRowsKeep : (match exec (.lsCooled 5 3) (st ready) with | .next _ => true | _ => false) = true := by decide +kernel

theorem witness_LogicSideRowsKeep : (match exec (.leaseRenewSend 5) (st ready) with | .next _ => true | _ => false) = true := by decide +kernel

/-! ### Well-formed commands -/

/-- A packet field outside its size (R302) is refused. -/
theorem test_wf_packet : (Instr.arm (plain 0 [])).wf ∧ !(Instr.arm { plain 0 [] with version := 256 }).wf ∧
    !(Instr.arm { plain 0 [] with flags := 256 }).wf ∧ !(Instr.arm { plain 0 [] with opcode := 65536 }).wf ∧
    !(Instr.arm { plain 0 [] with seq := 2 ^ 32 }).wf ∧ !(Instr.arm { plain 0 [] with session := 65536 }).wf ∧
    !(Instr.arm { plain 65536 [] with flags := 2 }).wf := by decide

/-- A payload longer than LENGTH can say is refused. -/
theorem test_wf_payload : !(Instr.arm (plain 0 (List.replicate 65536 0))).wf := by
  have h : (List.replicate 65536 (0 : Byte)).length = 65536 := List.length_replicate
  simp only [Instr.wf, Packet.wf, plain, h]
  decide

/-- An operand that names no object of the module is refused, class by class. -/
theorem test_wf_objects : !(Instr.unlockTimeout 5 0).wf ∧ !(Instr.unlockTimeout 5 5).wf ∧ !(Instr.encSupplyRetry 5 8).wf ∧
    !(Instr.canBusDominant 5 2).wf ∧ !(Instr.cvBurst 5 16).wf ∧ !(Instr.ethLinkChange 5 2 true 0 0).wf ∧ !(Instr.lsCooled 5 0).wf ∧
    !(Instr.lsCooled 5 17).wf ∧ !(Instr.foCooled 5 17).wf ∧ !(Instr.supFaultTimeout 5 49).wf ∧ !(Instr.fenceWireFault 5 3).wf ∧
    !(Instr.barrierLaneLost 5 3 true).wf ∧ !(Instr.lspwmEdge 5 4 true).wf ∧ !(Instr.compareTargetArm 5 8).wf ∧ !(Instr.compareLost 5 2).wf ∧
    !(Instr.positionWordStale 5 1 5).wf ∧ !(Instr.pgPeriodEdge 5 2 1 true 0 0).wf ∧ !(Instr.pgPeriodEdge 5 1 5 true 0 0).wf ∧
    !(Instr.ringReadbackFault 5 5).wf ∧ !(Instr.tamperTrip 5 2).wf ∧ !(Instr.railFaultDetected 5 8 0 none).wf ∧
    !(Instr.railFaultDetected 5 1 0 (some 2)).wf ∧ !(Instr.watchdogExpiry 5 9).wf ∧ !(Instr.memTransientReport 5 10).wf ∧
    !(Instr.registerWrite 5 16 0).wf := by decide

/-- A sensor sample without twelve temperatures is refused. -/
theorem test_wf_sample : !(Instr.wardenSensorSample 5
    { temps := [], vctl := 0, vdrv := 0, bulk := 0, vls := 0, vfo := 0, holdCap := 0, rails := 0, dew := 0, shock := (0, 0, 0), pLogic := 0,
      loads := [], outputs := [] }).wf := by decide

/-! ### Codes and words -/

/-- CRC-32 of R434 over the ASCII bytes "123456789". -/
theorem test_crc32 : crc32 [0x31, 0x32, 0x33, 0x34, 0x35, 0x36, 0x37, 0x38, 0x39] = 0xCBF43926 := by decide +kernel

/-- HDR_CHECK of R302: the check value the rule gives. -/
theorem test_crc16 : crc16 [0x31, 0x32, 0x33, 0x34, 0x35, 0x36, 0x37, 0x38, 0x39] = 0x29B1 := by decide +kernel

/-- Fields are little-endian (R5). -/
theorem test_little_endian : leBytes 4 0x11223344 = [0x44, 0x33, 0x22, 0x11] ∧ getN [0, 0x44, 0x33] 1 2 = 0x3344 := by decide

/-- No table word spells a command (log entry 11). -/
theorem test_no_table_word : decodeTableWord 32 0xFFFFFFFF = none ∧ State.reset.withFetchWord 32 1 = State.reset := ⟨rfl, rfl⟩

/-- A byte written to the memory reads back and the bytes beside it do not change (R403). -/
theorem test_memory : (Memory.read (Memory.store [(3, 9)] 4 [1, 2]) 4, Memory.read (Memory.store [(3, 9)] 4 [1, 2]) 3,
    Memory.store [(3, 9)] 3 [0]) = (1, 9, []) := by decide

end Sys2Proof.Tests
end

section
/-! The host window (R310, R321 to R331): what an event leaves of the window, the FIFOs and flags, the Polder window's word, and the rows' effects. -/

namespace Sys2Proof.Machine

variable {s : State} {t : Nat} {i : Instr}

/-! ### Rows that are happenings -/

/-- A row that is a happening gives the module its effect makes of the module at that instant. -/
theorem gives_of_happen {f : ModuleState → ModuleState} {m' : ModuleState} (he : exec i s = happen true t f s) (hf : f (s.then t) = m') :
    Gives i s m' := by
  rw [Gives, he, ← hf]; rfl

/-- A row that is a happening runs. -/
theorem runs_of_happen {f : ModuleState → ModuleState} {P : ModuleState → Prop} (he : exec i s = happen true t f s) (hP : P (f (s.then t))) :
    Runs i s P :=
  ⟨_, gives_of_happen he rfl, hP⟩

/-- A row that may store to memory gives what its effect makes of the module at that instant and the memory. -/
theorem next_of_both {f : ModuleState × Memory → ModuleState × Memory} {m' : ModuleState} {mem' : Memory}
    (he : exec i s = .next (s.both t f)) (hf : f (s.then t, s.mem) = (m', mem')) : exec i s = .next { s with m := m', mem := mem' } := by
  have hm : (f ({ s.m with now := max s.m.now t }, s.mem)) = (m', mem') := hf
  rw [he, State.both, hm]

/-- A module whose host window answers is not held in a reset. -/
theorem held_of_windowOpen {m : ModuleState} (h : m.windowOpen) : m.held = false := by
  simp only [ModuleState.windowOpen, Bool.and_eq_true, beq_iff_eq] at h
  simp [ModuleState.held, h.1]

/-- CMD_FIFO and RSP_FIFO answer with the window. -/
theorem cmdOpen_of_windowOpen {m : ModuleState} (h : m.windowOpen) : m.cmdOpen := by
  simp [ModuleState.cmdOpen, h]

/-! ### What an event leaves of the host window and the interpreter -/

/-- What an event may do to the host window and the interpreter: EVT_FIFO and the transports' counters may change, and flags may be set; no flag
is cleared, and every other field is as it was. -/
structure Comm.Noted (c c' : Comm) : Prop where
  host : c'.host = { c.host with irq := c'.host.irq, evt := c'.host.evt }
  flags : ∀ k, c.host.irq.getLsbD k → c'.host.irq.getLsbD k
  interp : c'.interp = { c.interp with ports := c'.interp.ports }

theorem Comm.Noted.trans {a b c : Comm} (h : a.Noted b) (g : b.Noted c) : a.Noted c where
  host := by rw [g.host, h.host]
  flags k hk := g.flags k (h.flags k hk)
  interp := by rw [g.interp, h.interp]

/-- What leaves the host window and the interpreter alone is as an event may do. -/
theorem Comm.Noted.of_eq {c c' : Comm} (hh : c'.host = c.host) (hi : c'.interp = c.interp) : c.Noted c' where
  host := by rw [hh]
  flags k hk := by rwa [hh]
  interp := by rw [hi]

theorem Comm.Noted.readData {c c' : Comm} (h : c.Noted c') : c'.host.readData = c.host.readData := by rw [h.host]
theorem Comm.Noted.winAddr {c c' : Comm} (h : c.Noted c') : c'.host.winAddr = c.host.winAddr := by rw [h.host]
theorem Comm.Noted.collections {c c' : Comm} (h : c.Noted c') : c'.interp.collections = c.interp.collections := by rw [h.interp]

theorem Comm.Noted.refl (c : Comm) : c.Noted c := .of_eq rfl rfl

/-- A transport's counters changed. -/
theorem Comm.noted_port (c : Comm) (x : Transport) (f : Port → Port) : c.Noted (c.port x f) := ⟨rfl, fun _ h => h, rfl⟩

/-- HW_IRQ_STATUS after a flag is set. -/
theorem HostWin.raise_getLsbD (h : HostWin) (b k : Nat) :
    (h.raise b).irq.getLsbD k = (h.irq.getLsbD k || (decide (k < 32) && k == b)) := by
  rw [HostWin.raise, BitVec.getLsbD_or, BitVec.getLsbD_ofNat, Nat.testBit_two_pow,
    decide_eq_decide.mpr (eq_comm (a := b))]
  rfl

/-- A flag set, whatever has joined EVT_FIFO. -/
theorem Comm.noted_raise (c : Comm) (evt : List (List Word)) (b : Nat) : c.Noted { c with host := { c.host with evt }.raise b } where
  host := rfl
  flags k hk := by rw [HostWin.raise_getLsbD]; simp only [hk, Bool.true_or]
  interp := rfl

/-- A packet handed to a network transport. -/
theorem ModuleState.noted_hand (m : ModuleState) (c : Comm) (x : Transport) (dest : Nat × Nat) (b : List Byte) : c.Noted (m.hand c x dest b) := by
  cases x <;> exact .of_eq rfl rfl

/-- A choice between two outcomes, each as an event may do. -/
theorem Comm.noted_ite {α : Type} {c : Comm} {p : Prop} [Decidable p] {a b : Comm × α} (ha : c.Noted a.1) (hb : c.Noted b.1) :
    c.Noted (if p then a else b).1 := by
  split
  · exact ha
  · exact hb

/-- A notification on one transport (R315, R316): placed, or dropped. -/
theorem ModuleState.noted_notifyOn (m : ModuleState) (c : Comm) (x : Transport) (e : Event) (k : Key) : c.Noted (m.notifyOn c x e k).1 := by
  unfold ModuleState.notifyOn
  dsimp only
  split
  · exact .refl c
  · refine Comm.noted_ite (.trans ?_ (Comm.noted_port _ _ _)) (.trans ?_ (Comm.noted_port _ _ _))
    · split
      · exact c.noted_raise _ 1
      · refine .trans ?_ (m.noted_hand _ _ _ _)
        split
        · exact .refl c
        · exact m.noted_hand _ _ _ _
    · split
      · exact c.noted_raise _ 3
      · exact .refl c

/-- An event's notifications, one transport after another. -/
theorem ModuleState.noted_notifyPorts (m : ModuleState) (c : Comm) (e : Event) (k : Key) (l : List Transport) (q : Comm × List (Nat × List Int))
    (h : c.Noted q.1) :
    c.Noted (l.foldl (fun (q : Comm × List (Nat × List Int)) x => ((m.notifyOn q.1 x e k).1, q.2 ++ (m.notifyOn q.1 x e k).2)) q).1 := by
  induction l generalizing q with
  | nil => exact h
  | cons x r ih => exact ih _ (h.trans (m.noted_notifyOn q.1 x e k))

/-- An event taken in (R425, R435, R315). -/
theorem ModuleState.noted_takeEvent (m : ModuleState) (c : Comm) (e : Event) : c.Noted (m.takeEvent c e) := by
  unfold ModuleState.takeEvent
  dsimp only
  split
  · exact .trans (m.noted_notifyPorts c e _ _ _ (.of_eq rfl rfl)) (.of_eq rfl rfl)
  · exact .of_eq rfl rfl

/-- An event logged (R443). -/
theorem ModuleState.noted_logE (m : ModuleState) (c : Comm) (e : Event) : c.Noted (m.logE c e) := by
  unfold ModuleState.logE
  split
  · exact .of_eq rfl rfl
  · split
    · exact m.noted_takeEvent c e
    · exact .of_eq rfl rfl

theorem ModuleState.noted_log (m : ModuleState) (code source : Nat) (items : List Int) : m.comm.Noted (m.log code source items).comm :=
  m.noted_logE _ _

theorem ModuleState.noted_saturated (m : ModuleState) (max before source opcode off : Nat) :
    m.comm.Noted (m.saturated max before source opcode off).comm := by
  unfold ModuleState.saturated ModuleState.logIf
  split
  · exact m.noted_logE _ _
  · exact .refl _

/-- An event leaves the segment collections alone. -/
@[simp] theorem ModuleState.log_collections (m : ModuleState) (code source : Nat) (items : List Int) :
    (m.log code source items).interp.collections = m.interp.collections :=
  (m.noted_log code source items).collections

/-! ### FIFOs -/

@[simp] theorem fifoHead_cons (w : Word) (ws : List Word) (rest : List (List Word)) : fifoHead ((w :: ws) :: rest) = w := rfl

/-- A FIFO loses the next word, and with its last word the packet. -/
@[simp] theorem fifoTail_cons (w : Word) (ws : List Word) (rest : List (List Word)) :
    fifoTail ((w :: ws) :: rest) = if ws = [] then rest else ws :: rest := by
  cases ws <;> simp [fifoTail]

/-- With no reply held nothing follows into RSP_FIFO. -/
theorem HostWin.release_of_none {h : HostWin} (hh : h.heldReplies = []) : h.release = h := by
  simp [HostWin.release, hh, releaseReplies]

/-- With nothing launched and nothing waiting the interpreter takes nothing. -/
theorem ModuleState.pump_of_idle {m : ModuleState} (hl : m.interp.launched = []) (hw : m.interp.waiting = []) : m.pump = m := by
  simp [ModuleState.pump, hl, hw, drain]

/-- Pausing a paced channel changes the culvert alone. -/
theorem ModuleState.cvPause_cv (m : ModuleState) (c : Nat) : m.cvPause c = { m with cv := (m.cvPause c).cv } := by
  unfold ModuleState.cvPause
  dsimp only
  split
  · rfl
  · split <;> rfl

/-- Judging the paced channels changes the culvert alone. -/
theorem ModuleState.cvSettle_cv (m : ModuleState) : ∃ cv, m.cvSettle = { m with cv } :=
  m.each_keeps _ _ (fun n => ∃ cv, n = { m with cv }) (by
    rintro _ c ⟨cv, rfl⟩
    exact ⟨_, ModuleState.cvPause_cv _ c⟩) ⟨m.cv, rfl⟩

theorem evtFifoRead_next (h : (s.then t).windowOpen) (w : Word) (ws : List Word) (rest : List (List Word))
    (he : (s.then t).host.evt = (w :: ws) :: rest) :
    Gives (.evtFifoRead t) s ((s.then t).setHost fun h => { h with readData := w, evt := if ws = [] then rest else ws :: rest }) :=
  gives_of_happen rfl (by simp [h, ModuleState.setHost, he])

theorem evtFifoRead_empty (h : (s.then t).windowOpen) (he : (s.then t).host.evt = []) :
    Gives (.evtFifoRead t) s ((s.then t).setHost fun h => { h.raise 5 with readData := 0 }) :=
  gives_of_happen rfl (by simp [h, he])

theorem rspFifoRead_next (h : (s.then t).windowOpen) (w : Word) (ws : List Word) (rest : List (List Word))
    (hr : (s.then t).host.rsp = (w :: ws) :: rest) (hh : (s.then t).host.heldReplies = []) (hl : (s.then t).interp.launched = [])
    (hw : (s.then t).interp.waiting = []) :
    Gives (.rspFifoRead t) s
      ((s.then t).cvSettle.setHost fun h => { h with readData := w, rsp := if ws = [] then rest else ws :: rest }) := by
  refine gives_of_happen rfl ?_
  obtain ⟨cv, hcv⟩ := (s.then t).cvSettle_cv
  simp only [cmdOpen_of_windowOpen h, hr, hcv, Bool.not_true, Bool.false_eq_true, if_false, List.isEmpty_cons]
  rw [ModuleState.pump_of_idle (by simpa using hl) (by simpa using hw)]
  simp only [ModuleState.setHost, hr, fifoHead_cons, fifoTail_cons]
  rw [HostWin.release_of_none]
  exact hh

theorem rspFifoRead_empty (h : (s.then t).windowOpen) (hr : (s.then t).host.rsp = []) :
    Gives (.rspFifoRead t) s ((s.then t).setHost fun h => { h.raise 5 with readData := 0 }) :=
  gives_of_happen rfl (by simp [cmdOpen_of_windowOpen h, hr])

/-! ### Flags -/

/-- A flag set unless its FIFO is empty. -/
theorem HostWin.raise_unless_getLsbD (h : HostWin) (empty : Bool) (b : Nat) {k : Nat} (hk : k < 32) :
    (if empty then h else h.raise b).irq.getLsbD k = (h.irq.getLsbD k || (k == b && !empty)) := by
  cases empty <;> simp [HostWin.raise_getLsbD, hk, -BitVec.getLsbD_eq_getElem]

/-- HW_IRQ_STATUS after a write (R325). -/
theorem HostWin.clearIrq_getLsbD (h : HostWin) (w : Word) {k : Nat} (hk : k < 32) : (h.clearIrq w).irq.getLsbD k =
    ((h.irq.getLsbD k && !w.getLsbD k) || (k == 0 && !h.rsp.isEmpty) || (k == 1 && !h.evt.isEmpty)) := by
  rw [HostWin.clearIrq, HostWin.raise_unless_getLsbD _ _ _ hk, HostWin.raise_unless_getLsbD _ _ _ hk, BitVec.getLsbD_and, BitVec.getLsbD_not,
    decide_eq_true hk, Bool.true_and]

/-- CMD_DRAINED alone may follow from what CMD_FIFO loses. -/
theorem ModuleState.drained_host (m : ModuleState) (before : Nat) :
    (m.drained before).host = m.host ∨ (m.drained before).host = m.host.raise 2 := by
  unfold ModuleState.drained
  split
  · exact .inr rfl
  · exact .inl rfl

/-- A flushed CMD_FIFO holds no incomplete packet and takes words again, and CMD_ERR is as it was (R327). -/
theorem ModuleState.flushCmd_host (m : ModuleState) : m.flushCmd.host.partialCmd = [] ∧ m.flushCmd.host.discard = false ∧
    m.flushCmd.host.irq.getLsbD 4 = m.host.irq.getLsbD 4 := by
  unfold ModuleState.flushCmd
  rcases ModuleState.drained_host (m.setHost fun h => { h with partialCmd := [], discard := false }) m.cmdUsed with h | h <;> rw [h]
  · exact ⟨rfl, rfl, rfl⟩
  · exact ⟨rfl, rfl, by rw [HostWin.raise_getLsbD]; exact Bool.or_false _⟩

/-- A 1 written to CMD_ERR ends discard (R327). -/
theorem ModuleState.clearIrq_flushCmd (m : ModuleState) (w : Word) (hw : w.getLsbD 4) :
    let m' := (m.setHost fun h => h.clearIrq w).flushCmd
    m'.host.partialCmd = [] ∧ m'.host.discard = false ∧ m'.host.irq.getLsbD 4 = false := by
  obtain ⟨hp, hd, hi⟩ := (m.setHost fun h => h.clearIrq w).flushCmd_host
  refine ⟨hp, hd, hi.trans ?_⟩
  rw [ModuleState.setHost_host, HostWin.clearIrq_getLsbD _ _ (by decide)]
  simp only [hw, Bool.not_true, Bool.and_false, Bool.false_or]
  rfl

theorem hwIrqStatusClear_flags (h : (s.then t).windowOpen) (w : Word) (hw : w.getLsbD 4 = false) :
    Runs (.hwIrqStatusClear t w) s fun m' => ∀ k, k < 32 → m'.host.irq.getLsbD k =
      (((s.then t).host.irq.getLsbD k && !w.getLsbD k) || (k == 0 && !(s.then t).host.rsp.isEmpty) ||
        (k == 1 && !(s.then t).host.evt.isEmpty)) := by
  refine runs_of_happen rfl fun k hk => ?_
  simp only [held_of_windowOpen h, hw, Bool.false_eq_true, if_false]
  exact HostWin.clearIrq_getLsbD _ w hk

theorem hwIrqStatusClear_cmdErr (h : (s.then t).windowOpen) (w : Word) (hw : w.getLsbD 4) :
    Runs (.hwIrqStatusClear t w) s fun m' => m'.host.partialCmd = [] ∧ m'.host.discard = false ∧ m'.host.irq.getLsbD 4 = false := by
  refine runs_of_happen rfl ?_
  simp only [held_of_windowOpen h, hw, Bool.false_eq_true, if_false, if_true]
  exact (s.then t).clearIrq_flushCmd w hw

theorem cmdErrFlush_flushes (h : (s.then t).windowOpen) :
    Runs (.cmdErrFlush t) s fun m' => m'.host.partialCmd = [] ∧ m'.host.discard = false ∧ m'.host.irq.getLsbD 4 = false := by
  refine runs_of_happen rfl ?_
  simp only [held_of_windowOpen h, Bool.false_eq_true, if_false]
  exact (s.then t).clearIrq_flushCmd 0x10 (by decide)

theorem spiTransactionAborted_raises (h : (s.then t).windowOpen) :
    Gives (.spiTransactionAborted t) s ((s.then t).setHost fun h => h.raise 5) :=
  gives_of_happen rfl (by simp [held_of_windowOpen h])

/-! ### The Polder window -/

/-- Sixteen persistent errors or fewer restart no island (R39). -/
theorem ModuleState.judgeMemory_of_few {m : ModuleState} {i : Nat} (h : (m.island i).persTimes.length ≤ 16) : m.judgeMemory i = m := by
  have hf := (List.length_filter_le (fun t => decide (m.now < t + seconds 60)) (m.island i).persTimes).trans h
  simp [ModuleState.judgeMemory, hf]

/-- The module with a persistent mismatch counted and its time noted, before the counter's limit and its event. -/
def ModuleState.notePersistent (m : ModuleState) (i : Nat) : ModuleState :=
  m.setIsland i fun y => { y with
    persistent := sat max32 y.persistent, persTimes := (y.persTimes.filter fun t => m.now < t + seconds 60) ++ [m.now] }

/-- A persistent mismatch in a word of the window is counted, logged, and the word marked. -/
theorem ModuleState.mismatch_window (m : ModuleState) (i addr a : Nat) : m.mismatch i { addr, err := .persistent, item := .window a } =
    (((m.notePersistent i).saturated max32 (m.island i).persistent tgModule 0x0006 (24 + 16 * i)).log evMemPersistent tgModule
      [(i : Int), (addr : Int), 13]).damageWord a := by
  simp [ModuleState.mismatch, ModuleState.recompute, ownerOf, ModuleState.notePersistent]

/-- The first persistent error of an island since its last restart is the one noted. -/
theorem ModuleState.notePersistent_persTimes {m : ModuleState} {i : Nat} (h : (m.island i).persTimes = []) :
    ((m.notePersistent i).island i).persTimes.length ≤ 1 := by
  unfold ModuleState.island ModuleState.notePersistent at *
  rw [ModuleState.setIsland_islands]
  by_cases hi : i < m.islands.length
  · simp only [upd_getD_self _ _ _ _ hi, h, List.filter_nil, List.nil_append, List.length_singleton, le_refl]
  · simp [List.getD_eq_getElem?_getD, upd_length, Nat.le_of_not_lt hi]

/-- A first persistent mismatch in a word of the window restarts no island, and leaves what was read, WIN_ADDR and the flags set. -/
theorem ModuleState.mismatch_window_first {m : ModuleState} {i : Nat} (h : (m.island i).persTimes = []) (addr a : Nat) :
    let m' := (m.mismatch i { addr, err := .persistent, item := .window a }).judgeMemory i
    m'.host.readData = m.host.readData ∧ m'.host.winAddr = m.host.winAddr ∧ ∀ k, m.host.irq.getLsbD k → m'.host.irq.getLsbD k := by
  intro m'
  have hm' : m' = m.mismatch i { addr, err := .persistent, item := .window a } := by
    refine ModuleState.judgeMemory_of_few ((Nat.le_trans ?_ (ModuleState.notePersistent_persTimes h)).trans (by decide))
    rw [m.mismatch_window]
    simp [ModuleState.island, ModuleState.damageWord]
  rw [hm', m.mismatch_window]
  have hn : m.comm.Noted _ := ((m.notePersistent i).noted_saturated max32 (m.island i).persistent tgModule 0x0006 (24 + 16 * i)).trans
    (ModuleState.noted_log _ evMemPersistent tgModule [(i : Int), (addr : Int), 13])
  exact ⟨hn.readData, hn.winAddr, hn.flags⟩

/-- No mismatch changes nothing. -/
theorem ModuleState.mismatch_none (m : ModuleState) (i addr : Nat) (item : Damaged) : m.mismatch i { addr, err := .none, item } = m := rfl

theorem winDataRead_whole (h : (s.then t).windowOpen) (hp : ((s.then t).island isPolder).persTimes = [])
    (hd : (s.then t).host.damaged.contains (s.then t).host.winAddr.toNat = false) :
    Gives (.winDataRead t .none) s ((s.then t).setHost fun h =>
      { h with winAddr := nextWin h.winAddr, readData := BitVec.ofNat 32 (leNat (s.mem.bytes (s.then t).host.winAddr.toNat 4)) }) := by
  have hbad : (CodeErr.none == CodeErr.persistent) = false := rfl
  refine next_of_both rfl ?_
  simp only [h, hd, hbad, Bool.not_true, Bool.or_false, Bool.false_eq_true, if_false, ModuleState.mismatch_none]
  rw [ModuleState.judgeMemory_of_few (hp ▸ Nat.zero_le 16)]

/-- The module as the window reads a damaged word: 0 with its flag, and WIN_ADDR moved on (R331). -/
def ModuleState.readDamaged (m : ModuleState) : ModuleState :=
  m.setHost fun h => { h.raise 9 with winAddr := nextWin h.winAddr, readData := 0 }

theorem ModuleState.readDamaged_flag (m : ModuleState) : m.readDamaged.host.irq.getLsbD 9 :=
  (HostWin.raise_getLsbD m.host 9 9).trans (Bool.or_true _)

theorem winDataRead_damaged (h : (s.then t).windowOpen) (hp : ((s.then t).island isPolder).persTimes = [])
    (hd : (s.then t).host.damaged.contains (s.then t).host.winAddr.toNat) :
    Runs (.winDataRead t .none) s fun m' =>
      m'.host.readData = 0 ∧ m'.host.winAddr = nextWin (s.then t).host.winAddr ∧ m'.host.irq.getLsbD 9 := by
  obtain ⟨hr, hw, hf⟩ := ModuleState.mismatch_window_first (m := (s.then t).readDamaged) (i := isPolder) hp
    (s.then t).host.winAddr.toNat (s.then t).host.winAddr.toNat
  refine ⟨_, next_of_both rfl ?_, hr, hw, hf 9 (s.then t).readDamaged_flag⟩
  simp only [h, hd, Bool.not_true, Bool.true_or, Bool.false_eq_true, if_false, if_true]
  rfl

/-- Bytes read are the list whose bytes stand there. -/
theorem Memory.bytes_of_read {mem : Memory} {a : Nat} {l : List Byte} (h : ∀ i (hi : i < l.length), mem.read (a + i) = l[i]) :
    mem.bytes a l.length = l := by
  induction l generalizing a with
  | nil => rfl
  | cons b r ih =>
    have hr : mem.bytes (a + 1) r.length = r := ih fun i hi => by
      rw [Nat.add_assoc, Nat.add_comm 1]
      exact h (i + 1) (Nat.succ_lt_succ hi)
    rw [List.length_cons, Memory.bytes, hr]
    exact congrArg (· :: r) (h 0 (Nat.succ_pos _))

/-- Bytes stored read back. -/
theorem Memory.bytes_store {mem : Memory} (h : mem.wf) (a : Nat) (l : List Byte) : (mem.store a l).bytes a l.length = l :=
  Memory.bytes_of_read fun i hi => Memory.read_store_inside h a l i hi

/-- A word is read from its own bytes (R5, R321). -/
@[simp] theorem leNat_wordBytes (w : Word) : leNat (wordBytes w) = w.toNat := by
  have := w.isLt
  simp only [wordBytes, leBytes, leNat, BitVec.toNat_ofNat]
  omega

theorem winDataWrite_stores (h : (s.then t).windowOpen) (w : Word) : Stores (.winDataWrite t w) s fun m' mem' =>
    m' = ((s.then t).setHost fun h =>
      { h with winAddr := nextWin h.winAddr, damaged := h.damaged.filter (· != (s.then t).host.winAddr.toNat) }) ∧
    (s.memOk → leNat (mem'.bytes (s.then t).host.winAddr.toNat 4) = w.toNat) ∧
    ∀ x, x < (s.then t).host.winAddr.toNat ∨ (s.then t).host.winAddr.toNat + 4 ≤ x → mem'.read x = s.mem.read x := by
  refine ⟨_, s.mem.store (s.then t).host.winAddr.toNat (wordBytes w), next_of_both rfl ?_, rfl, fun hm => ?_, fun x hx => ?_⟩
  · simp only [h, Bool.not_true, Bool.false_eq_true, if_false]
  · exact (congrArg leNat (Memory.bytes_store hm _ (wordBytes w))).trans (leNat_wordBytes w)
  · exact Memory.read_store_outside s.mem _ (wordBytes w) x hx

/-! ### Other registers and timeouts -/

theorem timeSnapRead_latches (h : (s.then t).windowOpen) : Gives (.timeSnapRead t) s ((s.then t).setHost fun h =>
    { h with readData := BitVec.ofNat 32 (s.then t).stamp.1, snapNs := (s.then t).stamp.2, snapQuality := (s.then t).time.quality.code }) :=
  gives_of_happen rfl (by simp [h])

theorem registerWrite_irqEnable (h : (s.then t).windowOpen) (w : Word) :
    Gives (.registerWrite t 3 w) s ((s.then t).setHost fun h => { h with irqEnable := w &&& 0x3FF }) :=
  gives_of_happen rfl (by simp [held_of_windowOpen h])

theorem registerWrite_winAddr (h : (s.then t).windowOpen) (w : Word) :
    Gives (.registerWrite t 11 w) s ((s.then t).setHost fun h => { h with winAddr := w &&& 0x3FFFC }) :=
  gives_of_happen rfl (by simp [held_of_windowOpen h, h])

theorem registerWrite_scratch (h : (s.then t).windowOpen) (w : Word) :
    Gives (.registerWrite t 15 w) s ((s.then t).setHost fun h => { h with scratch := w }) :=
  gives_of_happen rfl (by simp [held_of_windowOpen h])

/-- No other register takes a write here (R324). -/
theorem registerWrite_other (h : (s.then t).windowOpen) (w : Word) (reg : Nat) (hr : reg < 16) (h3 : reg ≠ 3) (h11 : reg ≠ 11)
    (h15 : reg ≠ 15) : Gives (.registerWrite t reg w) s (s.then t) := by
  refine gives_of_happen (congrArg (happen · t _ s) (decide_eq_true hr)) ?_
  simp only [held_of_windowOpen h, Bool.false_eq_true, if_false]

theorem segmentTimeout_ends (s : State) (t : Nat) (x : Transport) : Runs (.segmentTimeout t x) s fun m' => m'.interp.collections =
    (s.then t).interp.collections.filter fun c => !(c.transport == x && decide (c.last + seconds 2 ≤ (s.then t).now)) :=
  runs_of_happen rfl (ModuleState.each_frame _ _ _ (·.interp.collections) fun _ _ => ModuleState.log_collections ..)

/-- Settles O46, row by row. -/
theorem hostWindowRowsRun : Obligations.HostWindowRowsRun := fun s t h =>
  ⟨evtFifoRead_next h, evtFifoRead_empty h, rspFifoRead_next h, rspFifoRead_empty h, hwIrqStatusClear_flags h, hwIrqStatusClear_cmdErr h,
    cmdErrFlush_flushes h, fun hp => ⟨winDataRead_whole h hp, winDataRead_damaged h hp⟩, winDataWrite_stores h, timeSnapRead_latches h,
    fun w => ⟨registerWrite_irqEnable h w, registerWrite_winAddr h w, registerWrite_scratch h w, registerWrite_other h w⟩,
    spiTransactionAborted_raises h, segmentTimeout_ends s t⟩

end Sys2Proof.Machine
end

section
/-! How a whole command packet comes to its command's own conditions (R307 Table 4), and the answer to one whose action goes to an island that
restarts (R26); the front of the queue of happenings. -/

namespace Sys2Proof.Machine

/-! ### From arrival to the command's own conditions -/

/-- Taking a packet leaves the segment collections alone. -/
theorem taken_collections (spec : CmdSpec) (p : Packet) (s : State) : (taken spec p s).interp.collections = s.m.interp.collections := by
  obtain ⟨-, -, -, -, hcol⟩ := arrived_frame spec p s
  unfold taken
  split <;> exact hcol

/-- Step 6 passed: what follows works on the module as taken and with the session's role. -/
theorem admission_admitted {spec : CmdSpec} {p : Packet} {s : State} (h : Admitted spec p s) :
    admission spec (asOpcode spec p) (arrived spec p s) = { m := taken spec p s, role := roleOf p s } := by
  obtain ⟨hsec, -, -, -, -⟩ := arrived_frame spec p s
  rw [admission_passed spec p (arrived spec p s) h, roleOf, taken, hsec]

/-- A SCHEDULED packet apart, steps 12 and 13 come to the command's own conditions. -/
theorem finishChecks_unscheduled {spec : CmdSpec} {p : Packet} {role : Option Role} {data : List Byte} {m : ModuleState}
    (hf : spec.fields data) (hs : bit p.flags 4 = false) : finishChecks spec p role data m = runCmd spec p role data none false m := by
  simp [finishChecks, hf, hs]

/-- A command in one segment, with nothing collected before it, is whole (R309). -/
theorem segment_whole {spec : CmdSpec} {limit : Nat} {p : Packet} {role : Option Role} {m : ModuleState}
    (hc : (m.interp.collections.find? fun c => c.transport == p.transport && c.session == p.session) = none) (hm : bit p.flags 3 = false)
    (hl : (commandPart p).length ≤ limit) : segment spec limit p role m = finishChecks spec p role (commandPart p) m := by
  simp [segment, hc, hm, Nat.not_lt.mpr hl]

/-- The size of a command that is whole at once (step 10). -/
theorem sizeFits_whole {spec : CmdSpec} {p : Packet} {m : ModuleState}
    (hs : spec.size (commandPart p).length && (spec.seg.isSome || spec.sized (commandPart p)))
    (hc : spec.seg.isSome → (m.interp.collections.find? fun c =>
      c.transport == p.transport && c.session == p.session && c.opcode == spec.opcode) = none) : sizeFits spec p m := by
  unfold sizeFits
  cases hseg : spec.seg with
  | none => simpa [hseg] using hs
  | some limit =>
    rw [hseg, Option.isSome_some, Bool.true_or, Bool.and_true] at hs
    simp [hc (by simp [hseg]), hs]

/-- No collection of a transport and session: none is found, under whatever further condition. -/
theorem find_collection_none {l : List Collection} {x : Transport} {n : Nat}
    (h : (!l.any fun c => c.transport == x && c.session == n) = true) (q : Collection → Bool) :
    (l.find? fun c => c.transport == x && c.session == n && q c) = none := by
  rw [List.find?_eq_none]
  intro c hc hq
  rw [Bool.not_eq_true', List.any_eq_false] at h
  exact h c hc (Bool.and_eq_true_iff.mp hq).1

/-- Steps 7 to 12 passed (R307): a command carried out at once comes to its own conditions. -/
theorem judge_formed {spec : CmdSpec} {p : Packet} {s : State} (h : Formed spec p s) : judge spec (asOpcode spec p) (roleOf p s) (taken spec p s) =
    runCmd spec (asOpcode spec p) (roleOf p s) (commandPart p) none false (taken spec p s) := by
  obtain ⟨-, -, -, hres, hsch, hmore, hkind, hthere, hsize, hlen, hrole, hfields, hnone⟩ := h
  rw [Bool.not_eq_true'] at hsch hmore
  have hfin := finishChecks_unscheduled (p := asOpcode spec p) (role := roleOf p s) (m := taken spec p s) hfields hsch
  have hfind := fun (hseg : spec.seg.isSome) => find_collection_none (hnone hseg)
  rw [← taken_collections spec p s] at hfind
  have hfits : sizeFits spec (asOpcode spec p) (taken spec p s) := sizeFits_whole hsize fun hseg => hfind hseg _
  have hadm : spec.roles.admits (asOpcode spec p) (roleOf p s) := hrole
  have hkind' : spec.kinds.contains ((asOpcode spec p).target / 256) := hkind
  have hthere' : spec.present (taken spec p s) ((asOpcode spec p).target / 256) ((asOpcode spec p).target % 256) := hthere
  have hres' : bitsAt (asOpcode spec p).flags 5 3 = 0 := hres
  have hsch' : bit (asOpcode spec p).flags 4 = false := hsch
  have hmore' : bit (asOpcode spec p).flags 3 = false := hmore
  simp only [judge, hres', hsch', hmore', hkind', hthere', hfits, hadm, ne_eq, not_true_eq_false, if_false, Bool.false_and, Bool.or_self,
    Bool.false_eq_true, Bool.not_true]
  cases hseg : spec.seg with
  | none => exact hfin
  | some limit =>
    have hl : (commandPart p).length ≤ limit := by simpa [hseg] using hlen
    have hnot := hfind (by rw [hseg]; rfl) fun _ => true
    simp only [Bool.and_true] at hnot
    dsimp only
    rw [segment_whole (p := asOpcode spec p) hnot hmore' hl]
    exact hfin

/-- Steps 3 to 6 passed (R307). -/
theorem process_admitted {spec : CmdSpec} {p : Packet} {s : State} (hv : p.version = 2) (hlen : p.payload.length ≤ 4080)
    (hann : announced p ≤ p.payload.length) (had : Admitted spec p s) :
    process (some spec) (asOpcode spec p) (arrived spec p s) = judge spec (asOpcode spec p) (roleOf p s) (taken spec p s) := by
  have hv' : (asOpcode spec p).version = 2 := hv
  have hlen' : ¬ (4080 < (asOpcode spec p).payload.length ∨ (asOpcode spec p).payload.length < announced (asOpcode spec p)) :=
    not_or.mpr ⟨Nat.not_lt.mpr hlen, Nat.not_lt.mpr hann⟩
  simp only [process, hv', hlen', admission_admitted had, ne_eq, not_true_eq_false, if_false]

/-- Whether a packet waits at a barrier, by the segment collections and the actions outstanding (R31). -/
theorem ModuleState.barrier_congr {m n : ModuleState} (hcol : m.interp.collections = n.interp.collections)
    (hact : m.interp.actions = n.interp.actions) (p : Packet) :
    (m.barrier p && !m.interp.actions.isEmpty) = (n.barrier p && !n.interp.actions.isEmpty) := by
  simp only [ModuleState.barrier, hcol, hact]

/-- A packet that no barrier holds up is judged (R31). -/
theorem reach_unbarred {look : Nat → Option CmdSpec} {p : Packet} {m : ModuleState}
    (h : (m.barrier p && !m.interp.actions.isEmpty) = false) :
    reach look p m = process (look p.opcode) p { m with interp := { m.interp with last := p.transport.index } } := by
  simp only [reach, h, Bool.false_eq_true, if_false]

/-- A packet that the interpreter takes at its arrival is judged there and then (R21, R22, R31, R626). -/
theorem submit_free {spec : CmdSpec} {p : Packet} {s : State} (h : Free spec p s) :
    submit spec p s = { s with m := process (some spec) (asOpcode spec p) (arrived spec p s) } := by
  obtain ⟨hrun, hhold, hlaunched, htake, hwait, hbar⟩ := h
  obtain ⟨-, -, -, hact, hcol⟩ := arrived_frame spec p s
  have hfree : ((s.then p.time).interp.hold.isNone && (s.then p.time).interp.launched.isEmpty && (s.then p.time).takeable p.transport &&
      !((s.then p.time).interp.waiting.any fun q => (s.then p.time).takeable q.transport)) = true := by
    rw [hhold, hlaunched, htake, hwait]; rfl
  have hunbarred := (ModuleState.barrier_congr (n := s.then p.time) hcol hact (asOpcode spec p)).trans (Bool.not_eq_true' _ |>.mp hbar)
  have harrive : arrive (fun _ => some spec) (asOpcode spec p) (s.then p.time) = process (some spec) (asOpcode spec p) (arrived spec p s) := by
    rw [arrive, if_pos hrun]
    exact (if_pos hfree).trans (reach_unbarred hunbarred)
  exact congrArg (fun m => { s with m }) harrive

/-- A packet that passes every check before its command's own conditions comes to them (R307). -/
theorem submit_of_accepted {spec : CmdSpec} {p : Packet} {s : State} (h : Accepted spec p s) : submit spec p s =
    { s with m := runCmd spec (asOpcode spec p) (roleOf p s) (commandPart p) none false (taken spec p s) } := by
  obtain ⟨hfree, hformed, hadm⟩ := h
  have ⟨hv, hlen, hann, _⟩ := hformed
  rw [submit_free hfree, process_admitted hv hlen hann hadm, judge_formed hformed]

/-! ### An island that restarts -/

/-- A command that its own conditions do not refuse, with an action for an island that restarts, is answered ISLAND_RESTARTING and has no
effect (R26). -/
theorem runCmd_restarting {spec : CmdSpec} {p : Packet} {role : Option Role} {data : List Byte} {m : ModuleState} {x : Result}
    (hx : spec.body { p, kind := p.target / 256, idx := p.target % 256, data, role, ref := m.interp.nextRef } m = x) (hok : x.status < 0x8000)
    (hr : x.acts.any fun ch => (m.island ch.island).state == .restarting) :
    runCmd spec p role data none false m = m.answer (replyTo m p spec.opcode false) stIslandRestarting [] := by
  have hany : ((x.acts ++ x.needs).any fun ch => m.restarting ch.island) = true := by
    rw [List.any_append, Bool.or_eq_true]
    exact .inl hr
  simp only [runCmd, Result.ranLate, hx, Bool.false_and, Bool.false_eq_true, if_false, Nat.not_le.mpr hok, hany, if_true]

/-- The row of each command is its packet's arrival: row by row, its arm of exec says so. -/
theorem exec_packetRows (s : State) (p : Packet) : ∀ r ∈ packetRows p, exec r.1 s = .next (submit r.2 p s) :=
  List.map_inj_left.mp rfl

/-- Settles O55: a packet that comes to its command's own conditions is answered before any action of it is placed. -/
theorem restartingIslandIsRefused : Obligations.RestartingIslandIsRefused := by
  intro s p r hr m x hacc hok hrestart
  rw [Gives, exec_packetRows s p r hr, submit_of_accepted hacc, runCmd_restarting (x := x) rfl hok hrestart]

/-! ### The queue of happenings -/

/-- Settles O51, by what the queue holds. -/
theorem stepTakesTheFront : Obligations.StepTakesTheFront := fun s =>
  ⟨fun c rest h => by simp only [step, h], fun h => by simp only [step, h]⟩

end Sys2Proof.Machine
end

section
/-! The interpreter's inputs and the ends of actions (R21, R25, R27, R326, R327, R457): what answers and events leave of its work, what CMD_FIFO
takes, and the rows' effects. -/

namespace Sys2Proof.Machine

variable {s : State} {t : Nat}

/-! ### What answers leave of the interpreter's work -/

/-- The interpreter's work: all it holds but the transports' counters and routes, which answers and events change. -/
def Interp.work (x : Interp) : Interp := { x with ports := [] }

theorem Interp.inflight_of_work {x y : Interp} (h : x.work = y.work) : x.inflight = y.inflight :=
  show x.work.inflight = y.work.inflight from congrArg Interp.inflight h

/-- What an event may do leaves the interpreter's work alone. -/
theorem Comm.Noted.work {c c' : Comm} (h : c.Noted c') : c'.interp.work = c.interp.work := by
  rw [h.interp]; rfl

/-- A choice between two outcomes, each as an event may do. -/
theorem Comm.Noted.ite {c a b : Comm} {p : Prop} [Decidable p] (ha : c.Noted a) (hb : c.Noted b) : c.Noted (if p then a else b) := by
  split
  · exact ha
  · exact hb

/-- A packet that a transport refused, or that it lost, counted (R9, R332). -/
theorem ModuleState.noted_bumpC (m : ModuleState) (c : Comm) (x : Transport) (lost : Bool) : c.Noted (m.bumpC c x lost) := by
  unfold ModuleState.bumpC
  exact .ite ((c.noted_port x _).trans (m.noted_logE _ _)) (c.noted_port x _)

/-- A failed command without a reply (R308): logged, or counted as suppressed. -/
theorem ModuleState.noted_rejectC (m : ModuleState) (c : Comm) (r : ReplyTo) (status : Nat) : c.Noted (m.rejectC c r status) := by
  unfold ModuleState.rejectC
  exact .ite ((m.noted_logE _ _).trans (Comm.noted_port _ _ _)) (c.noted_port _ _)

/-- The packets of a reply handed to a network transport, or lost, one after the other (R312, R320). -/
theorem ModuleState.noted_sendPackets (m : ModuleState) (x : Transport) (dest : Nat × Nat) (ps : List (List Byte)) (c : Comm) :
    c.Noted (ps.foldl (fun c p => if m.takes c x dest [p] then m.hand c x dest p else m.bumpC c x true) c) := by
  induction ps generalizing c with
  | nil => exact .refl c
  | cons p ps ih => exact .trans (.ite (m.noted_hand c x dest p) (m.noted_bumpC c x true)) (ih _)

theorem ModuleState.sendReply_work (m : ModuleState) (c : Comm) (r : ReplyTo) (status : Nat) (data : List Byte) :
    (m.sendReply c r status data).interp.work = c.interp.work := by
  have hsent := fun x ps => m.noted_sendPackets x r.src ps c
  unfold ModuleState.sendReply
  dsimp only
  split
  · rfl
  · split
    · exact ((hsent _ _).trans (Comm.noted_port _ _ _)).work
    · exact (hsent _ _).work

theorem ModuleState.answerC_work (m : ModuleState) (c : Comm) (r : ReplyTo) (status : Nat) (data : List Byte) :
    (m.answerC c r status data).interp.work = c.interp.work := by
  have hbump := fun lost => m.noted_bumpC c r.transport lost
  unfold ModuleState.answerC
  dsimp only
  split
  · split
    · split
      · exact ((hbump true).trans (m.noted_rejectC _ _ _)).work
      · exact (hbump true).work
    · rw [m.sendReply_work]
      split
      · exact (hbump false).work
      · rfl
  · split
    · exact (m.noted_rejectC c r status).work
    · rfl

@[simp] theorem ModuleState.answer_work (m : ModuleState) (r : ReplyTo) (status : Nat) (data : List Byte) :
    (m.answer r status data).interp.work = m.interp.work :=
  m.answerC_work m.comm r status data

@[simp] theorem ModuleState.log_work (m : ModuleState) (code source : Nat) (items : List Int) :
    (m.log code source items).interp.work = m.interp.work :=
  (m.noted_log code source items).work

/-- A session that closes ends its notification routes, and leaves the interpreter's work alone (R508). -/
theorem ModuleState.closeSession_work (m : ModuleState) (n cause : Nat) : (m.closeSession n cause).interp.work = m.interp.work := by
  unfold ModuleState.closeSession ModuleState.logIf
  dsimp only
  split
  · exact (ModuleState.noted_logE _ _ _).work
  · rfl

@[simp] theorem ModuleState.closeAnswered_work (m : ModuleState) : m.closeAnswered.interp.work = m.interp.work :=
  m.each_frame _ _ (·.interp.work) fun m n => m.closeSession_work n 4

/-! ### The ends of commands in flight -/

/-- The last thing a command waited for: it leaves those in flight, and is answered (R21). -/
theorem ModuleState.settle_last {m : ModuleState} {ref : Nat} {f : Inflight} (status : Option Nat) (data : Option (List Byte))
    (hf : (m.interp.inflight.find? fun x => x.ref == ref) = some f) (hl : f.left ≤ 1) :
    (m.settle ref status data).interp.work = { m.interp.work with inflight := m.interp.inflight.filter (·.ref != ref) } := by
  show (m.settleC m.comm ref status data).interp.work = _
  have hfc : (m.comm.interp.inflight.find? fun x => x.ref == ref) = some f := hf
  simp only [ModuleState.settleC, hfc, Nat.sub_eq_zero_of_le hl, if_true]
  exact m.answerC_work _ _ _ _

/-- A command that waits for more: it stays in flight, with one thing less to wait for (R21). -/
theorem ModuleState.settle_more {m : ModuleState} {ref : Nat} {f : Inflight} (status : Option Nat) (data : Option (List Byte))
    (hf : (m.interp.inflight.find? fun x => x.ref == ref) = some f) (hl : 1 < f.left) :
    (m.settle ref status data).interp = { m.interp with inflight := m.interp.inflight.map fun x => if x.ref = ref then
      { f with status := status.getD f.status, payload := data.getD f.payload, left := f.left - 1 } else x } := by
  show (m.settleC m.comm ref status data).interp = _
  have hfc : (m.comm.interp.inflight.find? fun x => x.ref == ref) = some f := hf
  simp only [ModuleState.settleC, hfc, Nat.sub_ne_zero_of_lt hl, if_false]
  rfl

/-- Of the interpreter's work only the commands in flight change as a part of one is done. -/
theorem ModuleState.settle_work (m : ModuleState) (ref : Nat) (status : Option Nat) (data : Option (List Byte)) :
    ∃ l, (m.settle ref status data).interp.work = { m.interp.work with inflight := l } := by
  cases hf : m.interp.inflight.find? fun x => x.ref == ref with
  | none =>
    have hfc : (m.comm.interp.inflight.find? fun x => x.ref == ref) = none := hf
    refine ⟨m.interp.inflight, ?_⟩
    show (m.settleC m.comm ref status data).interp.work = _
    simp only [ModuleState.settleC, hfc]
    rfl
  | some f =>
    rcases Nat.lt_or_ge 1 f.left with hl | hl
    · exact ⟨_, (congrArg Interp.work (ModuleState.settle_more status data hf hl)).trans rfl⟩
    · exact ⟨_, ModuleState.settle_last status data hf hl⟩

/-- A command ended at once leaves those in flight, and is answered (R27). -/
theorem ModuleState.endRef_work {m : ModuleState} {ref : Nat} {f : Inflight} (status : Nat) (data : List Byte)
    (hf : (m.interp.inflight.find? fun x => x.ref == ref) = some f) :
    (m.endRef ref status data).interp.work = { m.interp.work with inflight := m.interp.inflight.filter (·.ref != ref) } := by
  show (m.endC m.comm ref status data).interp.work = _
  have hfc : (m.comm.interp.inflight.find? fun x => x.ref == ref) = some f := hf
  simp only [ModuleState.endC, hfc]
  exact m.answerC_work _ _ _ _

/-- The first command of a reference, after every one of it became another of the same reference. -/
theorem find_ref_map {l : List Inflight} {ref : Nat} {f g : Inflight} (hf : (l.find? fun x => x.ref == ref) = some f) (hg : g.ref = ref) :
    ((l.map fun x => if x.ref = ref then g else x).find? fun x => x.ref == ref) = some g := by
  have hcomp : ((fun x => x.ref == ref) ∘ fun x : Inflight => if x.ref = ref then g else x) = fun x => x.ref == ref := by
    funext x
    by_cases hx : x.ref = ref <;> simp [hx, hg]
  have href : f.ref = ref := by simpa using List.find?_some hf
  rw [List.find?_map, hcomp, hf]
  simp [href]

/-! ### An interpreter with nothing in hand -/

/-- The interpreter holds no packet, and none waits for it. -/
structure Interp.Idle (x : Interp) : Prop where
  hold : x.hold = none
  launched : x.launched = []
  waiting : x.waiting = []

/-- Whether the interpreter is idle is a matter of its work, the commands in flight apart. -/
theorem Interp.Idle.of_work {x y : Interp} {l : List Inflight} (hy : y.Idle) (h : x.work = { y.work with inflight := l }) : x.Idle where
  hold := (congrArg Interp.hold h).trans hy.hold
  launched := (congrArg Interp.launched h).trans hy.launched
  waiting := (congrArg Interp.waiting h).trans hy.waiting

/-- With nothing in hand the interpreter has nothing to go on with. -/
theorem ModuleState.goOn_of_idle {m : ModuleState} (h : m.interp.Idle) : m.goOn = m := by
  simp [ModuleState.goOn, resume, h.hold, h.launched, h.waiting, drain]

/-- An action done or failed leaves an idle interpreter idle. -/
theorem ModuleState.dropAction_idle {m : ModuleState} (h : m.interp.Idle) (a : PlacedAction) (failed : Bool) :
    (m.dropAction a failed).interp.Idle where
  hold := by simp [ModuleState.dropAction, h.hold]
  launched := h.launched
  waiting := h.waiting

/-! ### Acknowledgements and their timeouts -/

/-- The oldest action of a channel is one of that channel. -/
theorem ModuleState.oldest_channel {m : ModuleState} {ch : Channel} {a : PlacedAction} (h : m.oldest ch = some a) : a.channel = ch := by
  have hp := List.find?_some h
  simp only [Bool.and_eq_true, beq_iff_eq] at hp
  obtain ⟨⟨hch, -⟩, -⟩ := hp
  exact hch

/-- An action of a channel whose time has run out is one of that channel. -/
theorem ModuleState.overdue_channel {m : ModuleState} {ch : Channel} {a : PlacedAction} (h : m.overdue ch = some a) : a.channel = ch := by
  have hp := List.find?_some h
  simp only [Bool.and_eq_true, beq_iff_eq] at hp
  obtain ⟨hch, -⟩ := hp
  exact hch

/-- No order of the warden's: nothing begins with its acknowledgement. -/
theorem ModuleState.orderTaken_of_ne {m : ModuleState} {a : PlacedAction} (h : a.channel ≠ .wd) : m.orderTaken a = m := if_pos h

/-- What ends once a command's parts do, and what goes on then: nothing of an idle interpreter's work. -/
theorem ModuleState.goOn_closeAnswered_work {m : ModuleState} (h : m.interp.Idle) : m.closeAnswered.goOn.interp.work = m.interp.work := by
  rw [ModuleState.goOn_of_idle (h.of_work m.closeAnswered_work), m.closeAnswered_work]

/-- An acknowledged action leaves its channel, and a part of its command is done (R21). -/
theorem actionAcknowledged_work (hi : (s.then t).interprets) (hidle : (s.then t).interp.Idle) {ch : Channel} {a : PlacedAction}
    (ha : (s.then t).oldest ch = some a) (hch : ch ≠ .wd) (hr : (s.then t).runs ch.island) {errs : Nat} (he : errs < 2) :
    Runs (.actionAcknowledged t ch errs) s fun m' =>
      m'.interp.work = (((s.then t).dropAction a false).settle a.ref none none).interp.work := by
  refine runs_of_happen rfl ?_
  have hne : a.channel ≠ .wd := (ModuleState.oldest_channel ha).symm ▸ hch
  obtain ⟨l, hl⟩ := ((s.then t).dropAction a false).settle_work a.ref none none
  simp only [ha, hi, hr, Bool.not_true, Bool.or_self, Bool.false_eq_true, if_false, Nat.not_le.mpr he, ModuleState.orderTaken_of_ne hne]
  exact ModuleState.goOn_closeAnswered_work ((ModuleState.dropAction_idle hidle a false).of_work hl)

/-- The module with a failed action and its command gone, before ACTION_TIMEOUT is logged. -/
theorem ModuleState.dropAction_endRef_work {m : ModuleState} {a : PlacedAction} {f : Inflight}
    (hf : (m.interp.inflight.find? fun x => x.ref == a.ref) = some f) :
    ((m.dropAction a true).endRef a.ref stIslandNoAck []).interp.work = { (m.dropAction a true).interp.work with
      inflight := m.interp.inflight.filter (·.ref != a.ref) } :=
  ModuleState.endRef_work (m := m.dropAction a true) stIslandNoAck [] hf

/-- An action whose time has run out leaves its channel, and its command ends (R27). -/
theorem actionAckTimeout_ends (hi : (s.then t).interprets) (hidle : (s.then t).interp.Idle) {ch : Channel} {a : PlacedAction} {f : Inflight}
    (ha : (s.then t).overdue ch = some a) (hop : a.opcode ≠ 0x0502) (hch : ch ≠ .wd)
    (hf : ((s.then t).interp.inflight.find? fun x => x.ref == a.ref) = some f) :
    Runs (.actionAckTimeout t ch) s fun m' => m'.interp.actions = (s.then t).interp.actions.filter (·.id != a.id) ∧
      m'.interp.inflight = (s.then t).interp.inflight.filter (·.ref != a.ref) := by
  have hne : a.channel ≠ .wd := (ModuleState.overdue_channel ha).symm ▸ hch
  have hend := ModuleState.dropAction_endRef_work hf
  have hlog := (ModuleState.log_work _ evActionTimeout tgModule [(channelIndex ch : Int), (a.opcode : Int)]).trans hend
  have hwork := (ModuleState.goOn_closeAnswered_work ((ModuleState.dropAction_idle hidle a true).of_work hlog)).trans hlog
  refine runs_of_happen rfl ?_
  simp only [ha, hi, hop, hne, Bool.not_true, Bool.false_eq_true, if_false]
  exact ⟨congrArg Interp.actions hwork, congrArg Interp.inflight hwork⟩

/-- The action leaves its channel; its command ends with its last one, and has one less to wait for before (R21). -/
theorem actionAcknowledged_ends (hi : (s.then t).interprets) (hidle : (s.then t).interp.Idle) {ch : Channel} {a : PlacedAction} {f : Inflight}
    (ha : (s.then t).oldest ch = some a) (hch : ch ≠ .wd) (hf : ((s.then t).interp.inflight.find? fun x => x.ref == a.ref) = some f)
    (hr : (s.then t).runs ch.island) {errs : Nat} (he : errs < 2) :
    Runs (.actionAcknowledged t ch errs) s fun m' => m'.interp.actions = (s.then t).interp.actions.filter (·.id != a.id) ∧
      (f.left = 1 → m'.interp.inflight = (s.then t).interp.inflight.filter (·.ref != a.ref)) ∧
      (1 < f.left → (m'.interp.inflight.find? fun x => x.ref == a.ref).map (·.left) = some (f.left - 1)) := by
  obtain ⟨m', hrun, hwork⟩ := actionAcknowledged_work hi hidle ha hch hr he
  obtain ⟨l, hl⟩ := ((s.then t).dropAction a false).settle_work a.ref none none
  have hfd : (((s.then t).dropAction a false).interp.inflight.find? fun x => x.ref == a.ref) = some f := hf
  refine ⟨m', hrun, congrArg Interp.actions (hwork.trans hl), fun h1 => ?_, fun h1 => ?_⟩
  · exact congrArg Interp.inflight (hwork.trans (ModuleState.settle_last none none hfd (Nat.le_of_eq h1)))
  · have hin := Interp.inflight_of_work (hwork.trans (congrArg Interp.work (ModuleState.settle_more none none hfd h1)))
    have href : f.ref = a.ref := by simpa using List.find?_some hf
    rw [hin]
    exact congrArg (Option.map (·.left)) (find_ref_map (g := { f with left := f.left - 1 }) hfd href)

/-! ### A packet held for room -/

/-- A packet that found no room for 5 ms is let go (R25). -/
theorem dispatchRoomTimeout_lets_go (hi : (s.then t).interprets) {h : Hold} (hh : (s.then t).interp.hold = some h) (hw : h.waits = [])
    (hc : h.checked) (hd : h.since + ms 5 ≤ (s.then t).now) (hl : (s.then t).interp.launched = []) (hwait : (s.then t).interp.waiting = []) :
    Runs (.dispatchRoomTimeout t) s fun m' => m'.interp.hold = none := by
  have hdue : (s.then t).due h.since (ms 5) := decide_eq_true hd
  refine runs_of_happen rfl ?_
  simp only [hh, hi, hw, hc, hdue, List.isEmpty_nil, Bool.not_true, Bool.or_self, Bool.false_eq_true, if_false]
  generalize hm : ModuleState.answer _ _ _ _ = m'
  have hwork : m'.interp.work = { (s.then t).interp.work with hold := none } := hm ▸ ModuleState.answer_work _ _ _ _
  rw [ModuleState.pump_of_idle ((congrArg Interp.launched hwork).trans hl) ((congrArg Interp.waiting hwork).trans hwait)]
  exact congrArg Interp.hold hwork

/-! ### Levee frames on their way to another member -/

/-- A frame for another member that has hops left goes out of the other port (R457). -/
theorem leveeFrameReceived_passes {link : Nat} {f : LeveeFrame} (hlink : link = 1 ∨ link = 2) (hp : (s.then t).paired)
    (hr : (s.then t).leveeRuns) (hcrc : f.crcOk) (hdest : f.dest ≠ (s.then t).pair.id) (hhops : f.hops < 3) :
    Gives (.leveeFrameReceived t link f) s
      ((s.then t).setPair fun x => { x with out := x.out ++ [(3 - link, { f with hops := f.hops + 1 })] }) := by
  have hok : (decide (1 ≤ link) && decide (link ≤ 2)) = true := by
    rcases hlink with rfl | rfl <;> rfl
  refine gives_of_happen (congrArg (happen · t _ s) hok) ?_
  simp only [hp, hr, hcrc, hdest, Bool.not_true, Bool.or_self, Bool.false_eq_true, if_false, ne_eq, not_false_eq_true, if_true,
    Nat.not_le.mpr hhops]

/-! ### CMD_FIFO -/

theorem ModuleState.windowOpen_of_interprets {m : ModuleState} (h : m.interprets) : m.windowOpen := h

/-- CMD_FIFO in discard: no incomplete packet, and CMD_ERR (R327). -/
theorem ModuleState.enterDiscard_host (m : ModuleState) : m.enterDiscard.host.discard ∧ m.enterDiscard.host.partialCmd = [] ∧
    m.enterDiscard.host.irq.getLsbD 4 := by
  have hraised : (m.host.raise 4).irq.getLsbD 4 := (HostWin.raise_getLsbD m.host 4 4).trans (Bool.or_true _)
  unfold ModuleState.enterDiscard
  rcases ModuleState.drained_host (m.setHost fun h => { h.raise 4 with partialCmd := [], discard := true }) m.cmdUsed with h | h <;> rw [h]
  · exact ⟨rfl, rfl, hraised⟩
  · refine ⟨rfl, rfl, (HostWin.raise_getLsbD _ 2 4).trans ?_⟩
    exact (congrArg (· || _) hraised).trans (Bool.true_or _)

/-- A word that finds no room (R327). -/
theorem cmdFifoWrite_full (hi : (s.then t).interprets) {w : Word} (hd : (s.then t).host.discard = false) (hu : 1024 ≤ (s.then t).cmdUsed) :
    Runs (.cmdFifoWrite t w) s fun m' => m'.host.discard ∧ m'.host.partialCmd = [] ∧ m'.host.irq.getLsbD 4 := by
  have hopen := cmdOpen_of_windowOpen (ModuleState.windowOpen_of_interprets hi)
  refine runs_of_happen rfl ?_
  simp only [hopen, hd, hu, Bool.not_true, Bool.or_self, Bool.false_eq_true, if_false, if_true]
  exact (s.then t).enterDiscard_host

/-- The words of the incomplete packet with one more. -/
def ModuleState.cmdWords (m : ModuleState) (w : Word) : List Word := m.host.partialCmd ++ [w]

/-- Their bytes. -/
def ModuleState.cmdBytes (m : ModuleState) (w : Word) : List Byte := (m.cmdWords w).flatMap wordBytes

/-- What a word does that CMD_FIFO has room for: it completes a bad header, it completes a packet, or it joins the incomplete one (R319, R327). -/
def ModuleState.takeWord (m : ModuleState) (w : Word) : ModuleState :=
  if (m.cmdWords w).length = 4 ∧ !headerOk (m.cmdBytes w) then (m.discardPacket .spi 1).enterDiscard
  else if 4 ≤ (m.cmdWords w).length ∧ (m.cmdWords w).length = wordsOf (m.cmdBytes w) then
    (arrive command (readPacket m.now .spi (0, 0) (m.cmdBytes w)) (m.setHost fun h => { h with partialCmd := [] })).pump
  else m.setHost fun h => { h with partialCmd := m.cmdWords w }

theorem ModuleState.takeWord_joins {m : ModuleState} {w : Word}
    (h : (m.cmdWords w).length < 4 ∨ ((m.cmdWords w).length = 4 ∧ headerOk (m.cmdBytes w) ∧ 0 < getN (m.cmdBytes w) 12 2) ∨
      (4 < (m.cmdWords w).length ∧ (m.cmdWords w).length ≠ (16 + getN (m.cmdBytes w) 12 2 + 3) / 4)) :
    m.takeWord w = m.setHost fun h => { h with partialCmd := m.cmdWords w } := by
  have hgood : ¬ ((m.cmdWords w).length = 4 ∧ !headerOk (m.cmdBytes w)) := by
    rintro ⟨hn, hbad⟩
    rcases h with h | ⟨-, h, -⟩ | ⟨h, -⟩
    · omega
    · simp [h] at hbad
    · omega
  have hpart : ¬ (4 ≤ (m.cmdWords w).length ∧ (m.cmdWords w).length = wordsOf (m.cmdBytes w)) := by
    rintro ⟨hn, hwhole⟩
    unfold wordsOf at hwhole
    omega
  rw [ModuleState.takeWord, if_neg hgood, if_neg hpart]

theorem ModuleState.takeWord_badHeader {m : ModuleState} {w : Word} (hn : (m.cmdWords w).length = 4) (hbad : headerOk (m.cmdBytes w) = false) :
    m.takeWord w = (m.discardPacket .spi 1).enterDiscard :=
  if_pos ⟨hn, by rw [hbad]; rfl⟩

theorem ModuleState.takeWord_whole {m : ModuleState} {w : Word} (hn : 4 ≤ (m.cmdWords w).length)
    (hgood : (m.cmdWords w).length = 4 → headerOk (m.cmdBytes w)) (hwhole : (m.cmdWords w).length = (16 + getN (m.cmdBytes w) 12 2 + 3) / 4) :
    m.takeWord w =
      (arrive command (readPacket m.now .spi (0, 0) (m.cmdBytes w)) (m.setHost fun h => { h with partialCmd := [] })).pump := by
  have hnot : ¬ ((m.cmdWords w).length = 4 ∧ !headerOk (m.cmdBytes w)) := by
    rintro ⟨h4, hbad⟩
    simp [hgood h4] at hbad
  rw [ModuleState.takeWord, if_neg hnot, if_pos ⟨hn, hwhole⟩]

theorem cmdFifoWrite_room (hi : (s.then t).interprets) {w : Word} (hd : (s.then t).host.discard = false) (hu : (s.then t).cmdUsed < 1024) :
    Gives (.cmdFifoWrite t w) s ((s.then t).takeWord w) := by
  have hopen := cmdOpen_of_windowOpen (ModuleState.windowOpen_of_interprets hi)
  refine gives_of_happen rfl ?_
  simp only [hopen, hd, Nat.not_le.mpr hu, Bool.not_true, Bool.or_self, Bool.false_eq_true, if_false]
  rfl

/-- A word that completes a bad header (R327). -/
theorem cmdFifoWrite_badHeader (hi : (s.then t).interprets) {w : Word} (hd : (s.then t).host.discard = false) (hu : (s.then t).cmdUsed < 1024)
    (hn : ((s.then t).cmdWords w).length = 4) (hbad : headerOk ((s.then t).cmdBytes w) = false) :
    Runs (.cmdFifoWrite t w) s fun m' => m'.host.discard ∧ m'.host.partialCmd = [] ∧ m'.host.irq.getLsbD 4 :=
  ⟨_, cmdFifoWrite_room hi hd hu, ModuleState.takeWord_badHeader hn hbad ▸ ModuleState.enterDiscard_host _⟩

/-- Settles O47, row by row: answers and events leave the interpreter's work alone, and an idle interpreter goes on with nothing. -/
theorem interpreterRowsRun : Obligations.InterpreterRowsRun := by
  intro s t hi
  refine ⟨fun w hd => ⟨fun hu => ⟨fun hjoins => ModuleState.takeWord_joins hjoins ▸ cmdFifoWrite_room hi hd hu,
        cmdFifoWrite_badHeader hi hd hu, fun hn hgood hwhole => ModuleState.takeWord_whole hn hgood hwhole ▸ cmdFifoWrite_room hi hd hu⟩,
      cmdFifoWrite_full hi hd⟩,
    fun link f hlink => leveeFrameReceived_passes hlink,
    fun hh hl hw ch a f _ hop hch hf => ⟨fun ha hr errs he => actionAcknowledged_ends hi ⟨hh, hl, hw⟩ ha hch hf hr he,
      fun ha => actionAckTimeout_ends hi ⟨hh, hl, hw⟩ ha hop hch hf⟩,
    fun h hh hw hc hd => dispatchRoomTimeout_lets_go hi hh hw hc hd⟩

end Sys2Proof.Machine
end

section
/-! What leaves the islands and the reset state alone: every operation on axes, drives, feedback, portals, load channels, outputs, the ring, the
pair, the time unit, the floodgate and the recorder that a restart of an island sets going (R570, R575). Each operation is made of those before it:
a choice keeps what both its outcomes keep (base_ite), a list of updates what each of them keeps (each_base), a match what each of its cases keeps. -/

namespace Sys2Proof.Machine

/-- What restarts and arming are about: the islands and the reset state. Every other operation leaves them alone. -/
def ModuleState.base (m : ModuleState) : List Island × ResetState := (m.islands, m.reset)

theorem ModuleState.islands_of_base {m n : ModuleState} (h : m.base = n.base) : m.islands = n.islands := congrArg Prod.fst h
theorem ModuleState.reset_of_base {m n : ModuleState} (h : m.base = n.base) : m.reset = n.reset := congrArg Prod.snd h

variable (m : ModuleState)

/-! ### Updates, events and answers -/

@[simp] theorem ModuleState.setAxis_base (a : Nat) (f : Axis → Axis) : (m.setAxis a f).base = m.base := rfl
@[simp] theorem ModuleState.setDrive_base (a : Nat) (f : Drive → Drive) : (m.setDrive a f).base = m.base := rfl
@[simp] theorem ModuleState.setFb_base (a : Nat) (f : Feedback → Feedback) : (m.setFb a f).base = m.base := rfl
@[simp] theorem ModuleState.setPortal_base (p : Nat) (f : Portal → Portal) : (m.setPortal p f).base = m.base := rfl
@[simp] theorem ModuleState.setOb_base (p : Nat) (f : Obstacle → Obstacle) : (m.setOb p f).base = m.base := rfl
@[simp] theorem ModuleState.setLoad_base (n : Nat) (f : Load → Load) : (m.setLoad n f).base = m.base := rfl
@[simp] theorem ModuleState.setLoads_base (f : LoadCommon → LoadCommon) : (m.setLoads f).base = m.base := rfl
@[simp] theorem ModuleState.setRing_base (f : DikeRing → DikeRing) : (m.setRing f).base = m.base := rfl
@[simp] theorem ModuleState.setSafety_base (k : Nat) (f : Safety → Safety) : (m.setSafety k f).base = m.base := rfl
@[simp] theorem ModuleState.setTest_base (f : RingTest → RingTest) : (m.setTest f).base = m.base := rfl
@[simp] theorem ModuleState.setPair_base (f : Pair → Pair) : (m.setPair f).base = m.base := rfl
@[simp] theorem ModuleState.setSec_base (f : Security → Security) : (m.setSec f).base = m.base := rfl
@[simp] theorem ModuleState.setRec_base (f : Recorder → Recorder) : (m.setRec f).base = m.base := rfl
@[simp] theorem ModuleState.withComm_base (c : Comm) : (m.withComm c).base = m.base := rfl
@[simp] theorem ModuleState.log_base (code source : Nat) (items : List Int) : (m.log code source items).base = m.base := rfl
@[simp] theorem ModuleState.logIf_base (b : Bool) (code source : Nat) (items : List Int) : (m.logIf b code source items).base = m.base := rfl
@[simp] theorem ModuleState.saturated_base (max before source opcode off : Nat) : (m.saturated max before source opcode off).base = m.base := rfl

@[simp] theorem ModuleState.base_ite (c : Prop) [Decidable c] (x y : ModuleState) : (if c then x else y).base = if c then x.base else y.base :=
  apply_ite ModuleState.base c x y

@[simp] theorem ModuleState.each_base {α : Type} (l : List α) (f : ModuleState → α → ModuleState) (h : ∀ m x, (f m x).base = m.base) :
    (m.each l f).base = m.base :=
  m.each_frame l f ModuleState.base h

/-! ### Motion -/

@[simp] theorem ModuleState.bridgeOff_base (a : Nat) : (m.bridgeOff a).base = m.base := rfl

@[simp] theorem ModuleState.energise_base (a : Nat) : (m.energise a).base = m.base := by simp [ModuleState.energise]

@[simp] theorem ModuleState.newMove_base (a : Nat) : (m.newMove a).base = m.base := rfl

@[simp] theorem ModuleState.rest_base (a : Nat) : (m.rest a).base = m.base := by simp [ModuleState.rest]

@[simp] theorem ModuleState.completeMove_base (a : Nat) : (m.completeMove a).base = m.base := by
  unfold ModuleState.completeMove
  dsimp only
  split <;> rfl

@[simp] theorem ModuleState.skipDone_base (a n : Nat) : (m.skipDone a n).base = m.base := by
  induction n generalizing m with
  | zero => rfl
  | succ n ih =>
    unfold ModuleState.skipDone
    split
    · rfl
    · simp [ih]

@[simp] theorem ModuleState.joinQueue_base (a : Nat) (k : Plan) : (m.joinQueue a k).base = m.base := by
  unfold ModuleState.joinQueue
  dsimp only
  split <;> rfl

@[simp] theorem ModuleState.plot_base (a : Nat) (k : Plan) (rest : Bool) : (m.plot a k rest).base = m.base := by
  unfold ModuleState.plot
  dsimp only
  split
  · split
    · simp
    · split <;> simp
  · simp

@[simp] theorem ModuleState.travelOn_base (a : Nat) (p : Plan) : (m.travelOn a p).base = m.base := m.plot_base a _ _

@[simp] theorem ModuleState.arrived_base (a : Nat) (p : Plan) : (m.arrived a p).base = m.base := by
  unfold ModuleState.arrived
  dsimp only
  split <;> simp

@[simp] theorem ModuleState.reload_base (a n : Nat) : (m.reload a n).base = m.base := by
  unfold ModuleState.reload
  dsimp only
  split
  · split <;> rfl
  · rfl

@[simp] theorem ModuleState.depart_base (a : Nat) (v : Move) : (m.depart a v).base = m.base := by
  simp [ModuleState.depart]

@[simp] theorem ModuleState.start_base (a : Nat) : (m.start a).base = m.base := by
  unfold ModuleState.start
  dsimp only
  split
  · rfl
  split
  · simp
  split <;> simp

@[simp] theorem ModuleState.afterStep_base (a : Nat) : (m.afterStep a).base = m.base := by
  unfold ModuleState.afterStep
  split <;> simp

@[simp] theorem ModuleState.planAnew_base (a : Nat) : (m.planAnew a).base = m.base := by simp [ModuleState.planAnew]

@[simp] theorem ModuleState.flush_base (a cause : Nat) : (m.flush a cause).base = m.base := rfl

@[simp] theorem ModuleState.stopAxis_base (a : Nat) (kind : StopKind) (cause : Nat) : (m.stopAxis a kind cause).base = m.base := by
  simp [ModuleState.stopAxis]

@[simp] theorem ModuleState.offAtRest_base (a : Nat) : (m.offAtRest a).base = m.base := by simp [ModuleState.offAtRest]

@[simp] theorem ModuleState.halts_base (a : Nat) : (m.halts a).base = m.base := m.stopAxis_base a _ _

@[simp] theorem ModuleState.append_base (a : Nat) (l : List Move) : (m.append a l).base = m.base := rfl

@[simp] theorem ModuleState.replaceBy_base (a cause : Nat) (l : List Move) : (m.replaceBy a cause l).base = m.base := by
  simp [ModuleState.replaceBy]

@[simp] theorem ModuleState.slow_base (a value : Nat) : (m.slow a value).base = m.base := by simp [ModuleState.slow]

@[simp] theorem ModuleState.setOffset_base (a : Nat) (pos : Int) : (m.setOffset a pos).base = m.base := rfl

@[simp] theorem ModuleState.settleOffset_base (a : Nat) : (m.settleOffset a).base = m.base := by simp [ModuleState.settleOffset]

@[simp] theorem ModuleState.redefine_base (a : Nat) (pos : Int) : (m.redefine a pos).base = m.base := by simp [ModuleState.redefine]

@[simp] theorem ModuleState.tellLost_base (a : Nat) : (m.tellLost a).base = m.base := by
  unfold ModuleState.tellLost
  split <;> rfl

@[simp] theorem ModuleState.unvalid_base (a : Nat) : (m.unvalid a).base = m.base := by simp [ModuleState.unvalid]

@[simp] theorem ModuleState.invalidate_base (a cause : Nat) : (m.invalidate a cause).base = m.base := by simp [ModuleState.invalidate]

/-! ### Load channels and outputs -/

@[simp] theorem ModuleState.spillway_base (n : Nat) : (m.spillway n).base = m.base := by
  unfold ModuleState.spillway
  split <;> rfl

@[simp] theorem ModuleState.lsOff_base (n : Nat) : (m.lsOff n).base = m.base := by simp [ModuleState.lsOff]

@[simp] theorem ModuleState.lsFollow_base (n : Nat) : (m.lsFollow n).base = m.base := by
  unfold ModuleState.lsFollow
  dsimp only
  split
  · rfl
  split <;> simp

@[simp] theorem ModuleState.lsDemand_base (n : Nat) (on : Bool) : (m.lsDemand n on).base = m.base := by simp [ModuleState.lsDemand]

@[simp] theorem ModuleState.lsOrder_base (requester n : Nat) (on : Bool) : (m.lsOrder requester n on).base = m.base := by
  simp [ModuleState.lsOrder]

@[simp] theorem ModuleState.turnOffEdge_base (n : Nat) (conducted : Bool) : (m.turnOffEdge n conducted).base = m.base := by
  simp [ModuleState.turnOffEdge]

@[simp] theorem ModuleState.foDemand_base (n : Nat) (on : Bool) : (m.foDemand n on).base = m.base := rfl

/-! ### Edges counted -/

@[simp] theorem ModuleState.markAction_base (a : Nat) (k : Mark) : (m.markAction a k).base = m.base := by
  unfold ModuleState.markAction
  split
  · rfl
  split <;> simp

@[simp] theorem ModuleState.judgeMark_base (a : Nat) (measured : Bool) (old new : Int) (i : Nat) :
    (m.judgeMark a measured old new i).base = m.base := by
  simp [ModuleState.judgeMark]

@[simp] theorem ModuleState.judgeMarks_base (a : Nat) (measured : Bool) (old new : Int) : (m.judgeMarks a measured old new).base = m.base := by
  simp [ModuleState.judgeMarks]

@[simp] theorem ModuleState.moved_base (a : Nat) (old : Int) (at_ : Nat) : (m.moved a old at_).base = m.base := by simp [ModuleState.moved]

@[simp] theorem ModuleState.edgeFault_base (a n : Nat) : (m.edgeFault a n).base = m.base := by simp [ModuleState.edgeFault]

@[simp] theorem ModuleState.count'_base (a : Nat) (n : Int) (at_ : Nat) : (m.count' a n at_).base = m.base := by simp [ModuleState.count']

@[simp] theorem ModuleState.toothEdge_base (a at_ : Nat) (aim : Option Bool) : (m.toothEdge a at_ aim).base = m.base := by
  unfold ModuleState.toothEdge
  dsimp only
  cases aim <;> simp

@[simp] theorem ModuleState.latchEdge_base (a : Nat) (index : Bool) (input : Nat) (rising : Bool) (at_ : Nat) (stamp : Nat × Nat) (i : Nat) :
    (m.latchEdge a index input rising at_ stamp i).base = m.base := by
  unfold ModuleState.latchEdge
  -- the captured position stays opaque: the kernel would compute it to compare the cases
  generalize (m.fb a).latches.getD i {} = l, m.posAtStamp a at_ = pos
  dsimp only
  split
  · rfl
  obtain ⟨state⟩ := l
  cases state with
  | armed => cases pos <;> simp
  | captured => simp
  | idle | stale => rfl

@[simp] theorem ModuleState.latchEdges_base (a : Nat) (index : Bool) (input : Nat) (rising : Bool) (at_ : Nat) (stamp : Nat × Nat) :
    (m.latchEdges a index input rising at_ stamp).base = m.base := by
  simp [ModuleState.latchEdges]

@[simp] theorem ModuleState.edgeActs_base (a : Nat) (e : HeldEdge) : (m.edgeActs a e).base = m.base := by simp [ModuleState.edgeActs]

@[simp] theorem ModuleState.acceptEdges_base (a : Nat) : (m.acceptEdges a).base = m.base := by simp [ModuleState.acceptEdges]

@[simp] theorem ModuleState.loseSignal_base (a cause : Nat) : (m.loseSignal a cause).base = m.base := by simp [ModuleState.loseSignal]

/-! ### The ring -/

@[simp] theorem ModuleState.noteRelease_base : m.noteRelease.base = m.base := rfl
@[simp] theorem ModuleState.noteObs_base : m.noteObs.base = m.base := rfl
@[simp] theorem ModuleState.testPassed_base (i : Nat) : (m.testPassed i).base = m.base := rfl

@[simp] theorem ModuleState.endTest_base : m.endTest.base = m.base := by
  unfold ModuleState.endTest
  split <;> rfl

@[simp] theorem ModuleState.testDone_base (i res : Nat) : (m.testDone i res).base = m.base := by
  unfold ModuleState.testDone
  split <;> rfl

@[simp] theorem ModuleState.endIfDone_base : m.endIfDone.base = m.base := by
  unfold ModuleState.endIfDone
  split <;> simp

@[simp] theorem ModuleState.endProof_base (x : RingTest) : (m.endProof x).base = m.base := by simp [ModuleState.endProof]

@[simp] theorem ModuleState.dropPulse_base (i : Nat) : (m.dropPulse i).base = m.base := by
  unfold ModuleState.dropPulse
  split <;> simp

@[simp] theorem ModuleState.testLoses_base (i : Nat) : (m.testLoses i).base = m.base := by
  unfold ModuleState.testLoses
  split <;> simp

@[simp] theorem ModuleState.openSwitch_base (i chans cause mask : Nat) : (m.openSwitch i chans cause mask).base = m.base := by
  simp [ModuleState.openSwitch]

@[simp] theorem ModuleState.deliverRing_base (i : Nat) : (m.deliverRing i).base = m.base := by simp [ModuleState.deliverRing]

@[simp] theorem ModuleState.loadRing_base (i : Nat) : (m.loadRing i).base = m.base := by simp [ModuleState.loadRing]

/-! ### Obstacle maps -/

@[simp] theorem ModuleState.writeMap_base (p : Nat) : (m.writeMap p).base = m.base := rfl
@[simp] theorem ModuleState.resetMaps_base (p mask reason : Nat) : (m.resetMaps p mask reason).base = m.base := rfl

@[simp] theorem ModuleState.loadMaps_base (p : Nat) : (m.loadMaps p).base = m.base := by
  unfold ModuleState.loadMaps
  split
  · rfl
  dsimp only
  split <;> simp

@[simp] theorem ModuleState.settleMaps_base (p : Nat) : (m.settleMaps p).base = m.base := by simp [ModuleState.settleMaps]

/-! ### Portals -/

@[simp] theorem ModuleState.lock_base (p : Nat) (on : Bool) : (m.lock p on).base = m.base := m.lsOrder_base _ _ _
@[simp] theorem ModuleState.lampIn_base (p : Nat) (on : Bool) : (m.lampIn p on).base = m.base := m.lsOrder_base _ _ _
@[simp] theorem ModuleState.lampOut_base (p : Nat) (on : Bool) : (m.lampOut p on).base = m.base := m.lsOrder_base _ _ _
@[simp] theorem ModuleState.buzzer_base (p : Nat) (on : Bool) : (m.buzzer p on).base = m.base := m.lsOrder_base _ _ _
@[simp] theorem ModuleState.heaterOff_base (p : Nat) : (m.heaterOff p).base = m.base := m.lsOrder_base _ _ _

@[simp] theorem ModuleState.channelsOff_base (p : Nat) : (m.channelsOff p).base = m.base := by simp [ModuleState.channelsOff]

@[simp] theorem ModuleState.warnOn_base (p : Nat) (st : DoorState) : (m.warnOn p st).base = m.base := by simp [ModuleState.warnOn]

@[simp] theorem ModuleState.warnOff_base (p : Nat) : (m.warnOff p).base = m.base := by simp [ModuleState.warnOff]

@[simp] theorem ModuleState.signals_base (p : Nat) (st : DoorState) : (m.signals p st).base = m.base := by
  unfold ModuleState.signals
  split <;> simp

@[simp] theorem ModuleState.enter_base (p : Nat) (st : DoorState) (row : Nat) : (m.enter p st row).base = m.base := by simp [ModuleState.enter]

@[simp] theorem ModuleState.enterFault_base (p : Nat) (cause : FaultCause) (row : Nat) : (m.enterFault p cause row).base = m.base := by
  simp [ModuleState.enterFault]

@[simp] theorem ModuleState.enterStep_base (p : Nat) (st : StepState) : (m.enterStep p st).base = m.base := rfl

@[simp] theorem ModuleState.place_base (a : Nat) (l : List Move) : (m.place a l).base = m.base := by simp [ModuleState.place]

@[simp] theorem ModuleState.moveStep_base (p : Nat) (target : Int) : (m.moveStep p target).base = m.base := by
  unfold ModuleState.moveStep
  split <;> simp

@[simp] theorem ModuleState.stow_base (p : Nat) : (m.stow p).base = m.base := by simp [ModuleState.stow]

@[simp] theorem ModuleState.enterHoming_base (p row : Nat) : (m.enterHoming p row).base = m.base := by simp [ModuleState.enterHoming]

@[simp] theorem ModuleState.stepFromField_base (p : Nat) (closed : Bool) : (m.stepFromField p closed).base = m.base := by
  unfold ModuleState.stepFromField
  split <;> simp

@[simp] theorem ModuleState.takeField_base (p row : Nat) : (m.takeField p row).base = m.base := by simp [ModuleState.takeField]

@[simp] theorem ModuleState.fieldSoon_base (p : Nat) : (m.fieldSoon p).base = m.base := by simp [ModuleState.fieldSoon]

/-! ### The pair, time, the floodgate, the recorder -/

@[simp] theorem ModuleState.sendLease_base (kind leaseNo : Nat) : (m.sendLease kind leaseNo).base = m.base := rfl

@[simp] theorem ModuleState.stopExclusive_base : m.stopExclusive.base = m.base := by
  unfold ModuleState.stopExclusive
  dsimp only
  rw [ModuleState.each_base, ModuleState.each_base, ModuleState.each_base]
  · exact fun m n => m.lsOff_base n
  · exact fun _ _ => rfl
  · exact fun _ _ => rfl

@[simp] theorem ModuleState.handOver_base (cause : Nat) (role : PairRole) : (m.handOver cause role).base = m.base := by simp [ModuleState.handOver]

@[simp] theorem ModuleState.setQuality_base (q : Quality) : (m.setQuality q).base = m.base := rfl

@[simp] theorem ModuleState.closeSession_base (n cause : Nat) : (m.closeSession n cause).base = m.base := rfl

@[simp] theorem ModuleState.closeSessions_base (l : List Nat) (cause : Nat) : (m.closeSessions l cause).base = m.base :=
  m.each_base l _ fun m n => m.closeSession_base n cause

@[simp] theorem ModuleState.stopSigning_base (cause : Nat) : (m.stopSigning cause).base = m.base := rfl

@[simp] theorem ModuleState.burnLeaves_base : m.burnLeaves.base = m.base := by simp [ModuleState.burnLeaves]

@[simp] theorem ModuleState.floodgateDamage_base (items : List Nat) : (m.floodgateDamage items).base = m.base := by
  refine m.each_base items _ fun m i => ?_
  dsimp only
  rw [ModuleState.logIf_base]
  split <;> rfl

@[simp] theorem ModuleState.endReadout_base (cause : Nat) : (m.endReadout cause).base = m.base := by
  unfold ModuleState.endReadout
  split
  · rfl
  · exact ModuleState.each_base _ _ _ fun _ _ => rfl

end Sys2Proof.Machine
end

section
/-! Islands, their memory errors and restarts (R37 to R39, R539, R570 to R576): what a stop and a start of an island leave alone, and the rows'
effects. -/

namespace Sys2Proof.Machine

variable {s : State} {t i : Nat} {m : ModuleState}

/-! ### One island of the list -/

/-- The list's element at an index, once that is changed. -/
theorem upd_getElem? {α : Type} (l : List α) (i : Nat) (f : α → α) : (upd l i f)[i]? = l[i]?.map f := by
  simp [upd]

/-- What a change of an island leaves of it. -/
theorem ModuleState.setIsland_island {β : Type} (m : ModuleState) (i : Nat) {f : Island → Island} (g : Island → β) (h : ∀ y, g (f y) = g y) :
    g ((m.setIsland i f).island i) = g (m.island i) := by
  unfold ModuleState.island
  rw [ModuleState.setIsland_islands, List.getD_eq_getElem?_getD, List.getD_eq_getElem?_getD, upd_getElem?]
  cases m.islands[i]? with
  | none => rfl
  | some y => exact h y

/-- An island whose state is not that of a missing one is in the list. -/
theorem ModuleState.island_lt_of_restarting (h : (m.island i).state = .restarting) : i < m.islands.length := by
  by_contra hi
  rw [ModuleState.island, List.getD_eq_default _ _ (Nat.le_of_not_lt hi)] at h
  cases h

/-- A running island is RUNNING. -/
theorem ModuleState.state_of_runs (h : m.runs i) : (m.island i).state = .running := by
  simp only [ModuleState.runs, Bool.and_eq_true, beq_iff_eq] at h
  obtain ⟨⟨hrun, -⟩, -⟩ := h
  exact hrun

/-! ### What a stop of an island leaves alone -/

/-- The islands, and which one restarted last and why. -/
def ModuleState.lastRestart (m : ModuleState) : List Island × Nat × RestartCause := (m.islands, m.reset.lastIsland, m.reset.lastCause)

theorem ModuleState.lastRestart_of_base {n : ModuleState} (h : n.base = m.base) : n.lastRestart = m.lastRestart :=
  congrArg (fun b : List Island × ResetState => (b.1, b.2.lastIsland, b.2.lastCause)) h

theorem ModuleState.dropDuty_base (m : ModuleState) (relinquish : Bool) : (m.dropDuty relinquish).base = m.base := by
  simp [ModuleState.dropDuty]

/-- Disarming changes of the reset state only what arming and the hold window are about (R576, R580). -/
theorem ModuleState.disarm_lastRestart (m : ModuleState) (cause : Nat) (relinquish : Bool) (holdFor : Option Nat) :
    (m.disarm cause relinquish holdFor).lastRestart = m.lastRestart := by
  unfold ModuleState.disarm
  split
  · rfl
  · have hdrop := ModuleState.lastRestart_of_base (m.dropDuty_base relinquish)
    dsimp only
    generalize hm1 : (m.dropDuty relinquish).setReset _ = m1
    have hm1' : m1.lastRestart = (m.dropDuty relinquish).lastRestart := by rw [← hm1]; rfl
    exact (ModuleState.lastRestart_of_base (by simp)).trans (hm1'.trans hdrop)

theorem ModuleState.stopDisarms_lastRestart (m : ModuleState) (i : Nat) (cause : RestartCause) :
    (m.stopDisarms i cause).lastRestart = m.lastRestart := by
  unfold ModuleState.stopDisarms
  split
  · exact m.disarm_lastRestart _ _ _
  · rfl

theorem ModuleState.motionStops_base (m : ModuleState) (i : Nat) : (m.motionStops i).base = m.base := by
  unfold ModuleState.motionStops
  dsimp only
  rw [ModuleState.each_base, ModuleState.each_base]
  · exact fun _ _ => rfl
  · simp

theorem ModuleState.safetyStops_base (m : ModuleState) (k : Nat) : (m.safetyStops k).base = m.base := by
  simp [ModuleState.safetyStops]

theorem ModuleState.networkLeaves_base (m : ModuleState) : m.networkLeaves.base = m.base := by
  unfold ModuleState.networkLeaves
  dsimp only
  rw [ModuleState.each_base, ModuleState.each_base] <;> exact fun _ _ => rfl

theorem ModuleState.networkStops_base (m : ModuleState) : m.networkStops.base = m.base := by
  unfold ModuleState.networkStops
  dsimp only
  rw [ModuleState.setQuality_base]
  exact (ModuleState.networkLeaves_base _).trans (m.each_base _ _ fun _ _ => rfl)

theorem ModuleState.recorderStops_base (m : ModuleState) : m.recorderStops.base = m.base := by
  unfold ModuleState.recorderStops
  dsimp only
  rw [ModuleState.setRec_base]
  exact m.each_base _ _ fun _ _ => rfl

/-- An island's stop leaves the islands alone, and which one restarted last and why (R570, R575). -/
theorem ModuleState.islandStops_lastRestart (m : ModuleState) (i : Nat) : (m.islandStops i).lastRestart = m.lastRestart := by
  unfold ModuleState.islandStops
  split
  · rfl
  · exact ModuleState.lastRestart_of_base (m.motionStops_base _)
  · exact ModuleState.lastRestart_of_base (m.motionStops_base _)
  · exact ModuleState.lastRestart_of_base (m.safetyStops_base _)
  · exact ModuleState.lastRestart_of_base (m.safetyStops_base _)
  · rfl
  · exact ModuleState.lastRestart_of_base m.networkStops_base
  · exact ModuleState.lastRestart_of_base m.recorderStops_base
  · exact ModuleState.lastRestart_of_base (m.closeSessions_base _ _)
  · rfl

/-! ### What a start of an island leaves alone -/

theorem ModuleState.startAxis_base (m : ModuleState) (a : Nat) : (m.startAxis a).base = m.base := by
  simp [ModuleState.startAxis]

theorem ModuleState.startModuleAccum_base (m : ModuleState) (i : Nat) : (m.startModuleAccum i).base = m.base := rfl
theorem ModuleState.startAccum_base (m : ModuleState) (n : Nat) : (m.startAccum n).base = m.base := rfl

theorem ModuleState.motionStarts_base (m : ModuleState) (i : Nat) : (m.motionStarts i).base = m.base := by
  unfold ModuleState.motionStarts
  dsimp only
  refine (ModuleState.each_base _ (loadsOf i) _ fun m n => m.startAccum_base n).trans ?_
  rw [ModuleState.setLoads_base, ModuleState.startModuleAccum_base, ModuleState.each_base, ModuleState.each_base]
  · exact fun m a => m.startAxis_base a
  · simp

theorem ModuleState.safetyStarts_base (m : ModuleState) (k : Nat) : (m.safetyStarts k).base = m.base := by
  simp [ModuleState.safetyStarts]

theorem ModuleState.networkStarts_base (m : ModuleState) : m.networkStarts.base = m.base := by
  unfold ModuleState.networkStarts
  dsimp only
  rw [ModuleState.each_base]
  · rfl
  · exact fun _ _ => rfl

theorem ModuleState.recorderStarts_base (m : ModuleState) : m.recorderStarts.base = m.base := by
  simp [ModuleState.recorderStarts]

theorem ModuleState.floodgateStarts_base (m : ModuleState) (damage : List Nat) : (m.floodgateStarts damage).base = m.base := by
  simp [ModuleState.floodgateStarts]

/-- The polder core's start changes of both the reset cause alone (R568). -/
theorem ModuleState.polderStarts_islands (m : ModuleState) (cause : Nat) : (m.polderStarts cause).islands = m.islands := by
  unfold ModuleState.polderStarts
  dsimp only
  generalize hm1 : (m.setReset _).setPair _ = m1
  have hm1' : m1.islands = m.islands := by rw [← hm1]; rfl
  exact (ModuleState.islands_of_base (by simp)).trans hm1'

theorem ModuleState.islandStarts_islands (m : ModuleState) (i : Nat) (damage : List Nat) : (m.islandStarts i damage).islands = m.islands := by
  unfold ModuleState.islandStarts
  split
  · exact m.polderStarts_islands _
  · exact ModuleState.islands_of_base (m.motionStarts_base _)
  · exact ModuleState.islands_of_base (m.motionStarts_base _)
  · exact ModuleState.islands_of_base (m.safetyStarts_base _)
  · exact ModuleState.islands_of_base (m.safetyStarts_base _)
  · rfl
  · exact ModuleState.islands_of_base m.networkStarts_base
  · exact ModuleState.islands_of_base m.recorderStarts_base
  · exact ModuleState.islands_of_base (m.floodgateStarts_base damage)
  · rfl

/-! ### Restarts -/

/-- The end of a motion island's energy measurement changes at most the state of that island (R264). -/
theorem ModuleState.silence_islands (m : ModuleState) (i : Nat) {β : Type} (g : Island → β)
    (h : ∀ (y : Island) st, g { y with state := st } = g y) : (m.silence i).islands[i]?.map g = m.islands[i]?.map g := by
  unfold ModuleState.silence
  split
  · rw [ModuleState.setIsland_islands, upd_getElem?, Option.map_map]
    exact congrFun (congrArg Option.map (funext fun y => h y _)) _
  · rfl

theorem ModuleState.silence_reset (m : ModuleState) (i : Nat) : (m.silence i).reset = m.reset := by
  unfold ModuleState.silence
  split <;> rfl

/-- The module as a restart or a hold of an island begins: the restart noted, and named the last one. -/
def ModuleState.noteRestart (m : ModuleState) (i : Nat) (cause : RestartCause) (recent : List Nat) : ModuleState :=
  (m.setIsland i fun x => { x with restartTimes := recent, restartCause := cause }).setReset fun r => { r with lastIsland := i, lastCause := cause }

theorem ModuleState.noteRestart_islands (m : ModuleState) (i : Nat) (cause : RestartCause) (recent : List Nat) {β : Type} (g : Island → β)
    (h : ∀ (y : Island) l c, g { y with restartTimes := l, restartCause := c } = g y) :
    (m.noteRestart i cause recent).islands[i]?.map g = m.islands[i]?.map g := by
  show (upd m.islands i _)[i]?.map g = _
  rw [upd_getElem?, Option.map_map]
  exact congrFun (congrArg Option.map (funext fun y => h y _ _)) _

/-- The module once a restarting or held island has stopped. -/
def ModuleState.halted (m : ModuleState) (i : Nat) (cause : RestartCause) : ModuleState := ((m.silence i).stopDisarms i cause).islandStops i

theorem ModuleState.halted_lastRestart (m : ModuleState) (i : Nat) (cause : RestartCause) :
    (m.halted i cause).lastRestart = (m.silence i).lastRestart :=
  (ModuleState.islandStops_lastRestart _ i).trans (ModuleState.stopDisarms_lastRestart _ i cause)

theorem ModuleState.keepStopped_lastRestart (m : ModuleState) (i : Nat) (cause : RestartCause) :
    (m.keepStopped i cause).lastRestart = ((m.silence i).setIsland i fun x => { x with state := .stopped }).lastRestart := by
  have hstop := ModuleState.islandStops_lastRestart (((m.silence i).stopDisarms i cause).setReset fun r => { r with autoRearm := false }) i
  have hdisarm := ModuleState.stopDisarms_lastRestart (m.silence i) i cause
  exact congrArg (fun x : List Island × Nat × RestartCause => (upd x.1 i fun x : Island => { x with state := .stopped }, x.2))
    (hstop.trans hdisarm)

/-- A restart that is not the third counted one of its hour (R570, R573). -/
theorem ModuleState.restartIsland_lastRestart {cause : RestartCause} (h : (m.island i).state = .running) (hn : (m.restarts1h i).length < 2) :
    ∃ recent, (m.restartIsland i cause).lastRestart = (((m.noteRestart i cause recent).silence i).setIsland i fun x =>
      { x with state := .restarting, restarts := sat max16 x.restarts }).lastRestart := by
  simp only [ModuleState.restartIsland, h, bne_self_eq_false, Bool.false_eq_true, if_false]
  generalize hrecent : m.restarts1h i ++ (if cause.counted then [m.now] else []) = recent
  have hone : (if cause.counted then [m.now] else []).length ≤ 1 := by split <;> simp
  have hfew : (cause.counted && decide (3 ≤ recent.length)) = false := by
    rw [← hrecent, List.length_append, decide_eq_false (by omega), Bool.and_false]
  refine ⟨recent, ?_⟩
  simp only [hfew, Bool.false_eq_true, if_false]
  exact congrArg (fun x : List Island × Nat × RestartCause =>
    (upd x.1 i fun x : Island => { x with state := .restarting, restarts := sat max16 x.restarts }, x.2))
      ((m.noteRestart i cause recent).halted_lastRestart i cause)

/-- The third counted restart of an hour holds the island (R573). -/
theorem ModuleState.restartIsland_third_lastRestart {cause : RestartCause} (h : (m.island i).state = .running) (hc : cause.counted)
    (hn : 2 ≤ (m.restarts1h i).length) : ∃ recent, (m.restartIsland i cause).lastRestart =
      (((m.noteRestart i cause recent).silence i).setIsland i fun x => { x with state := .stopped }).lastRestart := by
  simp only [ModuleState.restartIsland, h, hc, bne_self_eq_false, Bool.false_eq_true, if_false, if_true, Bool.true_and]
  generalize hrecent : m.restarts1h i ++ [m.now] = recent
  have hmany : decide (3 ≤ recent.length) = true := by
    rw [← hrecent, List.length_append, List.length_singleton, decide_eq_true (by omega)]
  refine ⟨recent, ?_⟩
  simp only [hmany, if_true]
  exact (m.noteRestart i cause recent).keepStopped_lastRestart i cause

/-- What a change of the island makes of what a restart has noted: of the island, its fields but those a restart notes; and the restart's name. -/
theorem ModuleState.noted_of_lastRestart {m' : ModuleState} {cause : RestartCause} {recent : List Nat} {f : Island → Island}
    (h : m'.lastRestart = (((m.noteRestart i cause recent).silence i).setIsland i f).lastRestart) {β : Type} (g : Island → β)
    (hg : ∀ (y : Island) st l c, g (f { y with state := st, restartTimes := l, restartCause := c }) = g (f y)) :
    m'.islands[i]?.map g = (m.islands[i]?.map fun y => g (f y)) ∧ m'.reset.lastIsland = i ∧ m'.reset.lastCause = cause := by
  obtain ⟨hislands, hreset⟩ := Prod.ext_iff.mp h
  obtain ⟨hlast, hcause⟩ := Prod.ext_iff.mp hreset
  have hname : ((m.noteRestart i cause recent).silence i).reset = (m.noteRestart i cause recent).reset := ModuleState.silence_reset _ i
  refine ⟨?_, hlast.trans (congrArg ResetState.lastIsland hname), hcause.trans (congrArg ResetState.lastCause hname)⟩
  calc m'.islands[i]?.map g
      = (upd ((m.noteRestart i cause recent).silence i).islands i f)[i]?.map g := congrArg (fun l : List Island => l[i]?.map g) hislands
    _ = ((m.noteRestart i cause recent).silence i).islands[i]?.map fun y => g (f y) := by rw [upd_getElem?, Option.map_map]; rfl
    _ = (m.noteRestart i cause recent).islands[i]?.map fun y => g (f y) := ModuleState.silence_islands _ i _ fun y st => hg y st _ _
    _ = m.islands[i]?.map fun y => g (f y) := m.noteRestart_islands i cause recent _ fun y l c => hg y _ l c

theorem watchdogExpiry_restarts (hi : i < 9) (hr : (s.then t).runs i) (hn : ((s.then t).restarts1h i).length < 2) :
    Runs (.watchdogExpiry t i) s fun m' =>
      (m'.islands[i]?.map fun y => (y.state, y.restarts)) = ((s.then t).islands[i]?.map fun y => (.restarting, sat max16 y.restarts)) ∧
        m'.reset.lastIsland = i ∧ m'.reset.lastCause = .watchdog := by
  refine runs_of_happen (congrArg (happen · t _ s) (decide_eq_true hi)) ?_
  simp only [hr, if_true]
  obtain ⟨recent, hlast⟩ := ModuleState.restartIsland_lastRestart (cause := .watchdog) (ModuleState.state_of_runs hr) hn
  exact ModuleState.noted_of_lastRestart hlast (fun y => (y.state, y.restarts)) fun _ _ _ _ => rfl

theorem watchdogExpiry_holds (hi : i < 9) (hr : (s.then t).runs i) (hn : 2 ≤ ((s.then t).restarts1h i).length) :
    Runs (.watchdogExpiry t i) s fun m' =>
      (m'.islands[i]?.map (·.state)) = ((s.then t).islands[i]?.map fun _ => .stopped) ∧ m'.reset.lastIsland = i := by
  refine runs_of_happen (congrArg (happen · t _ s) (decide_eq_true hi)) ?_
  simp only [hr, if_true]
  obtain ⟨recent, hlast⟩ := ModuleState.restartIsland_third_lastRestart (cause := .watchdog) (ModuleState.state_of_runs hr) rfl hn
  obtain ⟨hstate, hisland, -⟩ := ModuleState.noted_of_lastRestart hlast (·.state) fun _ _ _ _ => rfl
  exact ⟨hstate, hisland⟩

/-! ### The end of a restart -/

/-- An island that takes its held channels over changes of both the hold window alone (R576). -/
theorem ModuleState.takeHeld_islands (m : ModuleState) : m.takeHeld.islands = m.islands := by
  unfold ModuleState.takeHeld
  split <;> rfl

/-- An island that runs again is RUNNING, with no failed start (R570). -/
theorem ModuleState.islandRuns_island (hi : i < m.islands.length) (damage : List Nat) :
    ((m.islandRuns i damage).island i).state = .running ∧ ((m.islandRuns i damage).island i).startFails = 0 := by
  have hislands : (m.islandRuns i damage).islands = upd m.islands i fun x => { x with state := .running, startFails := 0 } := by
    unfold ModuleState.islandRuns
    dsimp only
    generalize hm1 : ModuleState.islandStarts _ i damage = m1
    have hm1' : m1.islands = upd m.islands i _ := hm1 ▸ ModuleState.islandStarts_islands _ i damage
    have hedges : ∀ l, (m1.each l fun m n => m.turnOffEdge n true).islands = m1.islands := fun l =>
      ModuleState.islands_of_base (m1.each_base l _ fun m n => m.turnOffEdge_base n true)
    split
    · exact (ModuleState.takeHeld_islands _).trans ((hedges _).trans hm1')
    · exact (hedges _).trans hm1'
  simp only [ModuleState.island, hislands, upd_getD_self _ _ _ _ hi, and_self]

theorem islandRestartDone_runs (hi : i < 9) (hx : ((s.then t).island i).state = .restarting) (ha : (s.then t).warden.activation = none)
    (hp : (s.then t).reset.phase = .ready) (damage : List Nat) : Runs (.islandRestartDone t i true damage) s fun m' =>
      (m'.island i).state = .running ∧ (m'.island i).startFails = 0 := by
  refine runs_of_happen (congrArg (happen · t _ s) (decide_eq_true (Nat.lt_succ_of_lt hi))) ?_
  simp [hx, ha, hp, ModuleState.islandRuns_island (ModuleState.island_lt_of_restarting hx) damage]

theorem islandRestartDone_fails (hi : i < 9) (hx : ((s.then t).island i).state = .restarting) (ha : (s.then t).warden.activation = none)
    (hp : (s.then t).reset.phase = .ready) (hf : ((s.then t).island i).startFails = 0) (damage : List Nat) :
    Gives (.islandRestartDone t i false damage) s ((s.then t).setIsland i fun x => { x with startFails := 1 }) := by
  refine gives_of_happen (congrArg (happen · t _ s) (decide_eq_true (Nat.lt_succ_of_lt hi))) ?_
  simp [hx, ha, hp, hf, ModuleState.startFailed]

/-! ### Memory errors -/

theorem scrubPass_clean (hi : i < 9) (hr : (s.then t).runs i) (hp : ((s.then t).island i).persTimes = []) :
    Runs (.scrubPass t i []) s fun m' => m'.islands = upd (s.then t).islands i fun y => { y with scrubPasses := sat max32 y.scrubPasses } := by
  refine runs_of_happen (congrArg (happen · t _ s) (decide_eq_true (Nat.lt_succ_of_lt hi))) ?_
  have hpers : (((s.then t).setIsland i fun x => { x with scrubPasses := sat max32 x.scrubPasses }).island i).persTimes = [] := by
    refine (ModuleState.setIsland_island _ i (·.persTimes) ?_).trans hp
    exact fun _ => rfl
  simp only [hr, Bool.not_true, Bool.false_eq_true, if_false, List.filter_nil, ModuleState.each_nil]
  rw [ModuleState.judgeMemory_of_few]
  · rfl
  · exact (congrArg List.length hpers).trans_le (Nat.zero_le 16)

theorem memTransientReport_logs (hi : i < 9) (hx : ((s.then t).island i).transientSecond ≠ 0)
    (hat : ((s.then t).island i).transientAt = none ∨ ∃ a, ((s.then t).island i).transientAt = some a ∧ a + seconds 1 ≤ (s.then t).now) :
    Gives (.memTransientReport t i) s (((s.then t).setIsland i fun x => { x with transientSecond := 0, transientAt := some (s.then t).now }).log
      evMemTransient tgModule [(i : Int), (((s.then t).island i).transientSecond : Int)]) := by
  refine gives_of_happen (congrArg (happen · t _ s) (decide_eq_true (Nat.lt_succ_of_lt hi))) ?_
  rcases hat with hat | ⟨a, hat, hdue⟩
  · simp [hx, hat]
  · simp [hx, hat, ModuleState.dueO, ModuleState.due, hdue]

/-! ### The hold window and arming -/

theorem holdWindowEnd_ends {a : Nat} (hs : (s.then t).reset.holdStart = some a) (hd : a + ms (s.then t).reset.holdMs ≤ (s.then t).now) :
    Runs (.holdWindowEnd t) s fun m' => m'.reset.holdStart = none ∧ m'.reset.holdTaken = 0 := by
  refine runs_of_happen rfl ?_
  have hdue : (s.then t).dueO (s.then t).reset.holdStart (ms (s.then t).reset.holdMs) = true := by rw [hs]; exact decide_eq_true hd
  simp only [hdue, if_true]
  exact ⟨rfl, rfl⟩

/-- A module that is armed, or was, is armed (R579). -/
theorem ModuleState.arm_armed (m : ModuleState) (cause holdMs : Nat) : (m.arm cause holdMs).reset.armed = true := by
  unfold ModuleState.arm
  dsimp only
  split
  · assumption
  · generalize hm1 : ModuleState.log _ _ _ _ = m1
    have harmed : m1.reset.armed = true := by rw [← hm1]; rfl
    refine (congrArg ResetState.armed (ModuleState.reset_of_base ?_)).trans harmed
    rw [ModuleState.setPair_base, ModuleState.each_base]
    · simp
    · exact fun _ _ => rfl

theorem autoRearm_arms (ha : (s.then t).reset.autoRearm) (hall : (s.then t).islands.all (·.state == .running)) (hf : (s.then t).armFails = none) :
    Runs (.autoRearm t) s fun m' => m'.reset.armed = true := by
  refine runs_of_happen rfl ?_
  simp only [ha, hall, hf, Option.isNone_none, Bool.and_self, if_true]
  exact ModuleState.arm_armed _ _ _

/-- Settles O14, row by row: a stop and a start of an island leave the list of islands alone, so that it says what the row itself has written. -/
theorem islandRowsRun : Obligations.IslandRowsRun := fun _ _ _ hi =>
  ⟨scrubPass_clean hi, memTransientReport_logs hi, watchdogExpiry_restarts hi, watchdogExpiry_holds hi, islandRestartDone_runs hi,
    islandRestartDone_fails hi, fun _ => holdWindowEnd_ends, autoRearm_arms⟩

end Sys2Proof.Machine
end

section
/-! The portal and profile commands (R48, R66 to R70): the result each command's own conditions give, and with it the row's effect. -/

namespace Sys2Proof.Machine

/-! ### From a command's own result to its row's effect -/

/-- A command whose result is not held up is answered or placed (R21, R26): one that its own conditions refuse has nothing to place (R314). -/
theorem runCmd_clear {spec : CmdSpec} {p : Packet} {s : State} {x : Result} (hx : spec.body (cmdOf spec p s) (taken spec p s) = x)
    (href : 0x8000 ≤ x.status → x.acts = [] ∧ x.wait = false) (hc : Clear (taken spec p s) x) :
    runCmd spec (asOpcode spec p) (roleOf p s) (commandPart p) none false (taken spec p s) = dispatched spec p (taken spec p s) x := by
  obtain ⟨hrun, hroom⟩ := hc
  rw [Bool.not_eq_true'] at hrun
  have hbody : spec.body (Cmd.mk (asOpcode spec p) ((asOpcode spec p).target / 256) ((asOpcode spec p).target % 256) (commandPart p) (roleOf p s)
      (taken spec p s).interp.nextRef none) (taken spec p s) = x := hx
  simp only [runCmd, Result.ranLate, hbody, Bool.false_and, Bool.false_eq_true, if_false, hrun, hroom, Bool.not_true]
  by_cases hrefused : 0x8000 ≤ x.status
  · obtain ⟨hacts, hwait⟩ := href hrefused
    simp [dispatched, hrefused, hacts, hwait]
  · rw [if_neg hrefused, dispatched]

/-- A row of a command has the effect its own conditions give. -/
theorem does_of_body {spec : CmdSpec} {i : Instr} {p : Packet} {s : State} {x : Result} (he : exec i s = .next (submit spec p s))
    (hx : spec.body (cmdOf spec p s) (taken spec p s) = x) (href : 0x8000 ≤ x.status → x.acts = [] ∧ x.wait = false) : Does spec i p s x :=
  fun ha hc => by rw [Gives, he, submit_of_accepted ha, runCmd_clear hx href hc]

/-- A row of a command whose own conditions refuse nothing has the effect they give. -/
theorem does_of_ok {spec : CmdSpec} {i : Instr} {p : Packet} {s : State} {x : Result} (he : exec i s = .next (submit spec p s))
    (hx : spec.body (cmdOf spec p s) (taken spec p s) = x) (hok : x.status = 0) : Does spec i p s x :=
  does_of_body he hx fun h => absurd (hok ▸ h) (by decide)

/-! ### Requests for the next tick -/

variable {s : State} {p : Packet} {m : ModuleState} {c : Cmd}

/-- A portal request of a unit on duty waits for the tick that answers it (R48). -/
theorem requestBody_onDuty (req : PortalReq) (h : m.notOnDuty = false) :
    requestBody req c m = { wait := true, m := m.ask { portal := c.idx, req, ref := some c.ref } } := by
  simp [requestBody, h]

/-- PORTAL_OPEN asks for the opening unless an OPERATOR says NO_STEP (R68 Table 10). -/
theorem portalOpenBody_onDuty (h : m.notOnDuty = false) (hrole : getN c.data 0 1 = 0 ∨ c.role ≠ some .operator) :
    portalOpenBody c m = requestBody (.openReq (bit (getN c.data 0 1) 0) (if getN c.data 1 1 = 255 then none else some (getN c.data 1 1))) c m := by
  have hallowed : (bit (getN c.data 0 1) 0 && c.role == some .operator) = false := by
    rcases hrole with h0 | h0
    · rw [h0]; rfl
    · rw [beq_eq_false_iff_ne.mpr h0, Bool.and_false]
  simp only [portalOpenBody, h, hallowed, Bool.false_eq_true, if_false]

/-- A train-wide request of a unit on duty stands on every enabled portal of the named sides (R69). -/
theorem trainBody_onDuty (req : PortalReq) (h : m.notOnDuty = false) (hs : getN c.data 0 1 ≠ 0)
    (hn : (m.enabledPortals.filter fun k => bit (getN c.data 0 1) (m.side k)) ≠ []) :
    trainBody req c m =
      { wait := true
        m := m.each (m.enabledPortals.filter fun k => bit (getN c.data 0 1) (m.side k)) fun m k =>
          m.ask { portal := k, req, ref := some c.ref, train := true } } := by
  simp only [trainBody, hs, List.isEmpty_iff, hn, h, Bool.false_eq_true, if_false]

/-! ### Classes and profiles -/

/-- SET_PLATFORM_CLASS sets the class of the left side, of the right or of both (R70). -/
theorem setPlatformClassBody_onDuty (h : m.notOnDuty = false) : setPlatformClassBody c m =
    { m := { m with profiles := { m.profiles with
        classL := if getN c.data 0 1 = 1 then m.profiles.classL else getN c.data 1 1
        classR := if getN c.data 0 1 = 0 then m.profiles.classR else getN c.data 1 1 } } } := by
  simp only [setPlatformClassBody, h, Bool.false_eq_true, if_false, ModuleState.setClass, if_true]
  by_cases h0 : getN c.data 0 1 = 0
  · simp [h0]
  · by_cases h1 : getN c.data 0 1 = 1 <;> simp [h0, h1]

/-- PROFILE_SELECT without a launch time holds the change for the next rest (R66). -/
theorem profileSelectBody_now (h : m.notOnDuty = false) (hl : c.launch = none) (hv : slotValid m.profiles.stored (getN c.data 0 1)) :
    profileSelectBody c m =
      { m := { m with profiles := { m.profiles with change := some (getN c.data 0 1, m.now), selected := true } } } := by
  simp [profileSelectBody, h, hl, hv]

/-- PROFILE_CANCEL takes the pending schedule away (R67). -/
theorem profileCancelBody_pending (h : m.notOnDuty = false) (hs : m.profiles.schedule ≠ none) :
    profileCancelBody c m = { acts := [.recd], m := { m with profiles := { m.profiles with schedule := none } } } := by
  simp [profileCancelBody, h, hs]

/-- The slot a newly stored set is taken with: the one selected, else the active one, else START_SLOT (R64, R66). -/
def Profiles.nextSlot (x : Profiles) (set : List Byte) : Nat :=
  match x.change with
  | some ch => ch.1
  | none => x.active.getD (getN (if x.set.isEmpty then set else x.set) 5 1)

/-- What PROFILE_SET_LOAD does with a well-formed set (R63, R66, R71, R541). -/
def ModuleState.loadSet (m : ModuleState) (set sig : List Byte) : Result :=
  let k := m.norTry 0 0
  if m.integratorSigned set sig = false then { status := stSignatureInvalid, m }
  else if k.1 then { status := stNorFault, m := k.2 }
  else
    { acts := [.fg, .wd]
      m := ({ k.2 with profiles := { k.2.profiles with staged := some set, change := some (m.profiles.nextSlot set, m.now) } }).log
        evProfileSetStored tgModule [(getN set 2 2 : Int), (Config.shake256 set 32 : Int)] }

/-- A set not stored is refused, with no action placed. -/
theorem ModuleState.loadSet_refused {m : ModuleState} {set sig : List Byte} (h : 0x8000 ≤ (m.loadSet set sig).status) :
    (m.loadSet set sig).acts = [] ∧ (m.loadSet set sig).wait = false := by
  by_cases hsig : m.integratorSigned set sig = false
  · simp [ModuleState.loadSet, hsig]
  by_cases hnor : (m.norTry 0 0).1
  · simp [ModuleState.loadSet, hsig, hnor]
  · exact absurd h (by simp [ModuleState.loadSet, hsig, hnor])

/-- PROFILE_SET_LOAD of a well-formed set while no update runs (R63). -/
theorem profileSetLoadBody_wellFormed (h : m.notOnDuty = false) (hmin : 1034 ≤ c.data.length)
    (hlen : c.data.length = 1034 + getN c.data 1032 2) (hform : getN c.data 0 2 = 1)
    (hset : setFails (c.data.take 1032) m.profiles.busy = none) (hact : m.warden.activation = none) :
    profileSetLoadBody c m = m.loadSet (c.data.take 1032) (c.data.drop 1034) := by
  have hgood : ¬ (c.data.length < 1034 ∨ c.data.length ≠ 1034 + getN c.data 1032 2 ∨ getN c.data 0 2 ≠ 1) := by
    rintro (hbad | hbad | hbad)
    · omega
    · exact hbad hlen
    · exact hbad hform
  simp only [profileSetLoadBody, h, if_neg hgood, hset, hact, ModuleState.loadSet, refuse, Bool.not_eq_true', Option.isSome_none,
    Bool.false_eq_true, if_false]
  rfl

/-- Settles O3, command by command. -/
theorem portalCommandsDo: Obligations.PortalCommandsDo := by
  intro s p b n
  refine ⟨fun h hr => ?_, fun h => ?_, fun h => ?_, fun h => ?_, fun hn h0 h => ?_, fun hn h0 h => ?_, fun h => ?_, fun h hv => ?_, fun h hs => ?_,
    fun h hmin hlen hform hset hact => ?_⟩
  · exact does_of_ok rfl ((portalOpenBody_onDuty (c := cmdOf portalOpenSpec p s) h hr).trans (requestBody_onDuty _ h)) rfl
  · exact does_of_ok rfl (requestBody_onDuty (c := cmdOf portalCloseSpec p s) _ h) rfl
  · exact does_of_ok rfl (requestBody_onDuty (c := cmdOf portalClearSpec p s) _ h) rfl
  · exact does_of_ok rfl (requestBody_onDuty (c := cmdOf portalHomeSpec p s) _ h) rfl
  · exact does_of_ok rfl (trainBody_onDuty (c := cmdOf trainOpenSpec p s) _ h h0 hn) rfl
  · exact does_of_ok rfl (trainBody_onDuty (c := cmdOf trainCloseSpec p s) _ h h0 hn) rfl
  · exact does_of_ok rfl (setPlatformClassBody_onDuty (c := cmdOf setPlatformClassSpec p s) h) rfl
  · exact does_of_ok rfl (profileSelectBody_now (c := cmdOf profileSelectSpec p s) h rfl hv) rfl
  · exact does_of_ok rfl (profileCancelBody_pending (c := cmdOf profileCancelSpec p s) h hs) rfl
  · exact does_of_body rfl (profileSetLoadBody_wellFormed (c := cmdOf profileSetLoadSpec p s) h hmin hlen hform hset hact)
      ModuleState.loadSet_refused

end Sys2Proof.Machine
end

section
/-! What moves and load channels leave alone. A part of the module that sees no axis, no drive and no event is as it was after every move and stop;
one that sees no load channel and no event is as it was after every order to a channel. Both are said once for every such part. -/

namespace Sys2Proof.Machine

/-- A part of the module that motion leaves alone: changes of axes and drives, and events, do not touch it. -/
structure OffMotion {β : Type} (π : ModuleState → β) : Prop where
  axis : ∀ m a f, π (m.setAxis a f) = π m
  drive : ∀ m a f, π (m.setDrive a f) = π m
  comm : ∀ m c, π (m.withComm c) = π m

/-- A part of the module that load channels leave alone: changes of channels and of their sums, measured values and events do not touch it. -/
structure OffLoads {β : Type} (π : ModuleState → β) : Prop where
  load : ∀ m n f, π (m.setLoad n f) = π m
  loads : ∀ m f, π (m.setLoads f) = π m
  free : ∀ m n, π { m with free := n } = π m
  comm : ∀ m c, π (m.withComm c) = π m

section

variable {β : Type} {π : ModuleState → β}

/-! ### Motion -/

section

variable (h : OffMotion π) (m : ModuleState) (a : Nat)
include h

theorem OffMotion.logIf (b : Bool) (code source : Nat) (items : List Int) : π (m.logIf b code source items) = π m := h.comm _ _

theorem OffMotion.bridgeOff : π (m.bridgeOff a) = π m := h.drive _ _ _

theorem OffMotion.energise : π (m.energise a) = π m := by
  simp [ModuleState.energise, apply_ite π, h.drive]

theorem OffMotion.newMove : π (m.newMove a) = π m := h.drive _ _ _

theorem OffMotion.rest : π (m.rest a) = π m := by
  simp [ModuleState.rest, apply_ite π, h.bridgeOff, h.newMove, h.axis]

theorem OffMotion.completeMove : π (m.completeMove a) = π m := by
  unfold ModuleState.completeMove
  dsimp only
  split
  · rfl
  · simp [h.logIf, h.newMove, h.axis]

theorem OffMotion.skipDone (n : Nat) : π (m.skipDone a n) = π m := by
  induction n generalizing m with
  | zero => rfl
  | succ n ih =>
    unfold ModuleState.skipDone
    split
    · rfl
    · simp [apply_ite π, ih, h.completeMove]

theorem OffMotion.joinQueue (k : Plan) : π (m.joinQueue a k) = π m := by
  unfold ModuleState.joinQueue
  dsimp only
  split
  · rfl
  · exact h.axis _ _ _

theorem OffMotion.plot (k : Plan) (rest : Bool) : π (m.plot a k rest) = π m := by
  unfold ModuleState.plot
  dsimp only
  split
  · split
    · simp [h.axis, h.joinQueue]
    · split <;> simp [h.axis, h.joinQueue]
  · simp [h.axis, h.joinQueue]

theorem OffMotion.arrived (p : Plan) : π (m.arrived a p) = π m := by
  unfold ModuleState.arrived
  dsimp only
  split
  · simp [apply_ite π, ModuleState.travelOn, h.plot, h.rest, h.completeMove, h.axis]
  · exact h.rest m a

theorem OffMotion.reload (n : Nat) : π (m.reload a n) = π m := by
  unfold ModuleState.reload
  dsimp only
  split
  · split <;> exact h.axis _ _ _
  · exact h.axis _ _ _

theorem OffMotion.depart (v : Move) : π (m.depart a v) = π m := by
  simp [ModuleState.depart, apply_ite π, h.reload, h.plot, h.axis]

theorem OffMotion.start : π (m.start a) = π m := by
  unfold ModuleState.start
  dsimp only
  split
  · rfl
  split
  · simp [apply_ite π, h.energise]
  split <;> simp [apply_ite π, h.skipDone, h.rest, h.reload, h.plot, h.depart, h.energise, h.axis, h.drive]

theorem OffMotion.afterStep : π (m.afterStep a) = π m := by
  unfold ModuleState.afterStep
  split
  · simp [apply_ite π, h.arrived]
  · rfl

theorem OffMotion.planAnew : π (m.planAnew a) = π m := by
  simp [ModuleState.planAnew, apply_ite π, h.start, h.reload, h.afterStep, h.plot]

theorem OffMotion.flush (cause : Nat) : π (m.flush a cause) = π m := (h.logIf _ _ _ _ _).trans (h.axis _ _ _)

theorem OffMotion.stopAxis (kind : StopKind) (cause : Nat) : π (m.stopAxis a kind cause) = π m := by
  simp [ModuleState.stopAxis, apply_ite π, h.planAnew, h.rest, h.axis, h.flush]

theorem OffMotion.offAtRest : π (m.offAtRest a) = π m := by
  simp [ModuleState.offAtRest, apply_ite π, h.axis, h.bridgeOff]

theorem OffMotion.replaceBy (cause : Nat) (l : List Move) : π (m.replaceBy a cause l) = π m := by
  simp [ModuleState.replaceBy, ModuleState.append, apply_ite π, h.start, h.planAnew, h.newMove, h.axis, h.flush]

end

/-! ### Load channels -/

section

variable (h : OffLoads π) (m : ModuleState) (n : Nat)
include h

theorem OffLoads.logIf (b : Bool) (code source : Nat) (items : List Int) : π (m.logIf b code source items) = π m := h.comm _ _

theorem OffLoads.spillway : π (m.spillway n) = π m := by
  unfold ModuleState.spillway
  split
  · rfl
  · simp [ModuleState.saturated, h.logIf, h.loads, h.load, h.free]

theorem OffLoads.lsOff : π (m.lsOff n) = π m := by
  simp [ModuleState.lsOff, apply_ite π, h.spillway, h.load]

theorem OffLoads.lsFollow : π (m.lsFollow n) = π m := by
  unfold ModuleState.lsFollow
  dsimp only
  split
  · rfl
  split <;> simp [apply_ite π, h.load]

theorem OffLoads.lsDemand (on : Bool) : π (m.lsDemand n on) = π m := by
  simp [ModuleState.lsDemand, apply_ite π, h.lsFollow, h.lsOff, h.load]

theorem OffLoads.lsOrder (requester : Nat) (on : Bool) : π (m.lsOrder requester n on) = π m := by
  simp [ModuleState.lsOrder, apply_ite π, h.logIf, h.lsDemand]

end

end

/-! ### The portals -/

theorem offMotion_portals : OffMotion ModuleState.portals := ⟨fun _ _ _ => rfl, fun _ _ _ => rfl, fun _ _ => rfl⟩

theorem offLoads_portals : OffLoads ModuleState.portals := ⟨fun _ _ _ => rfl, fun _ _ => rfl, fun _ _ => rfl, fun _ _ => rfl⟩

/-! ### Which operations leave the portals alone -/

/-- A portal is read from the list of portals. -/
theorem ModuleState.portals_frame {m n : ModuleState} (h : m.portals = n.portals) : m.portals = n.portals ∧ ∀ k, m.portal k = n.portal k :=
  ⟨h, fun k => congrArg (·.getD (k - 1) {}) h⟩

section

variable (m : ModuleState) (p : Nat)

@[simp] theorem ModuleState.setOb_portal (f : Obstacle → Obstacle) (k : Nat) : (m.setOb p f).portal k = m.portal k := rfl
@[simp] theorem ModuleState.withComm_portal (c : Comm) (k : Nat) : (m.withComm c).portal k = m.portal k := rfl
@[simp] theorem ModuleState.log_portal (code source : Nat) (items : List Int) (k : Nat) : (m.log code source items).portal k = m.portal k := rfl
@[simp] theorem ModuleState.logIf_portal (b : Bool) (code source : Nat) (items : List Int) (k : Nat) :
    (m.logIf b code source items).portal k = m.portal k := rfl

@[simp] theorem ModuleState.ask_portals (r : Request) : (m.ask r).portals = m.portals ∧ ∀ k, (m.ask r).portal k = m.portal k :=
  portals_frame rfl

@[simp] theorem ModuleState.stopAxis_portals (a : Nat) (kind : StopKind) (cause : Nat) :
    (m.stopAxis a kind cause).portals = m.portals ∧ ∀ k, (m.stopAxis a kind cause).portal k = m.portal k :=
  portals_frame (offMotion_portals.stopAxis _ _ _ _)

@[simp] theorem ModuleState.halts_portals (a : Nat) : (m.halts a).portals = m.portals ∧ ∀ k, (m.halts a).portal k = m.portal k :=
  m.stopAxis_portals a _ _

@[simp] theorem ModuleState.haltPortal_portals : (m.haltPortal p).portals = m.portals ∧ ∀ k, (m.haltPortal p).portal k = m.portal k :=
  portals_frame (m.each_frame _ _ _ fun m a => (m.halts_portals a).1)

@[simp] theorem ModuleState.offAtRest_portals (a : Nat) : (m.offAtRest a).portals = m.portals ∧ ∀ k, (m.offAtRest a).portal k = m.portal k :=
  portals_frame (offMotion_portals.offAtRest _ _)

@[simp] theorem ModuleState.place_portals (a : Nat) (l : List Move) :
    (m.place a l).portals = m.portals ∧ ∀ k, (m.place a l).portal k = m.portal k := by
  refine portals_frame ?_
  unfold ModuleState.place
  split
  · exact offMotion_portals.replaceBy _ _ _ _
  · rfl

@[simp] theorem ModuleState.moveOpen_portals : (m.moveOpen p).portals = m.portals ∧ ∀ k, (m.moveOpen p).portal k = m.portal k :=
  m.place_portals _ _

@[simp] theorem ModuleState.moveClose_portals : (m.moveClose p).portals = m.portals ∧ ∀ k, (m.moveClose p).portal k = m.portal k :=
  m.place_portals _ _

@[simp] theorem ModuleState.moveStep_portals (target : Int) :
    (m.moveStep p target).portals = m.portals ∧ ∀ k, (m.moveStep p target).portal k = m.portal k := by
  unfold ModuleState.moveStep
  split
  · exact portals_frame rfl
  · exact m.place_portals _ _

@[simp] theorem ModuleState.lock_portals (on : Bool) : (m.lock p on).portals = m.portals ∧ ∀ k, (m.lock p on).portal k = m.portal k :=
  portals_frame (offLoads_portals.lsOrder _ _ _ _)
@[simp] theorem ModuleState.lampIn_portals (on : Bool) : (m.lampIn p on).portals = m.portals ∧ ∀ k, (m.lampIn p on).portal k = m.portal k :=
  portals_frame (offLoads_portals.lsOrder _ _ _ _)
@[simp] theorem ModuleState.lampOut_portals (on : Bool) : (m.lampOut p on).portals = m.portals ∧ ∀ k, (m.lampOut p on).portal k = m.portal k :=
  portals_frame (offLoads_portals.lsOrder _ _ _ _)
@[simp] theorem ModuleState.buzzer_portals (on : Bool) : (m.buzzer p on).portals = m.portals ∧ ∀ k, (m.buzzer p on).portal k = m.portal k :=
  portals_frame (offLoads_portals.lsOrder _ _ _ _)
@[simp] theorem ModuleState.heaterOff_portals : (m.heaterOff p).portals = m.portals ∧ ∀ k, (m.heaterOff p).portal k = m.portal k :=
  portals_frame (offLoads_portals.lsOrder _ _ _ _)

@[simp] theorem ModuleState.channelsOff_portals : (m.channelsOff p).portals = m.portals ∧ ∀ k, (m.channelsOff p).portal k = m.portal k := by
  simp [ModuleState.channelsOff]

@[simp] theorem ModuleState.learnMove_portals (close : Bool) (sums : List (Nat × Rat × Nat)) :
    (m.learnMove p close sums).portals = m.portals ∧ ∀ k, (m.learnMove p close sums).portal k = m.portal k := portals_frame rfl

@[simp] theorem ModuleState.recordCycle_portals : (m.recordCycle p).portals = m.portals ∧ ∀ k, (m.recordCycle p).portal k = m.portal k :=
  portals_frame rfl

end

end Sys2Proof.Machine
end

section
/-! Entering door and step states (R52, R59, R74): what an entry writes of a portal, and what it leaves of it. -/

namespace Sys2Proof.Machine

variable {m : ModuleState} {p : Nat} {st : DoorState} {row : Nat}

/-! ### One portal of the list -/

/-- A portal that is not as a missing one is in the list. -/
theorem ModuleState.portal_lt {β : Type} (g : Portal → β) (h : g (m.portal p) ≠ g {}) : p - 1 < m.portals.length := by
  by_contra hp
  exact h (congrArg g (List.getD_eq_default _ _ (Nat.le_of_not_lt hp)))

/-- A portal that is not CLOSED_LOCKED is in the list. -/
theorem ModuleState.portal_lt_of_door (hd : (m.portal p).door = st) (hst : st ≠ .closedLocked) : p - 1 < m.portals.length :=
  portal_lt Portal.door (hd ▸ hst)

/-- A portal of the list, once it is changed. -/
theorem ModuleState.setPortal_portal_self (f : Portal → Portal) (hp : p - 1 < m.portals.length) : (m.setPortal p f).portal p = f (m.portal p) :=
  upd_getD_self _ _ _ _ hp

/-- What a change of a portal leaves of it. -/
theorem ModuleState.setPortal_portal {β : Type} (m : ModuleState) (p : Nat) {f : Portal → Portal} (g : Portal → β) (h : ∀ q, g (f q) = g q) :
    g ((m.setPortal p f).portal p) = g (m.portal p) := by
  by_cases hp : p - 1 < m.portals.length
  · rw [m.setPortal_portal_self f hp, h]
  · have hl := Nat.le_of_not_lt hp
    rw [ModuleState.portal, ModuleState.portal, List.getD_eq_default _ _ (by simpa using hl), List.getD_eq_default _ _ hl]

/-! ### Lamps and the buzzer -/

/-- A portal apart from its warning pattern. -/
def Portal.mute (q : Portal) : Portal := { q with warning := false, buzOn := false, buzAt := 0, lampOn := false, lampAt := 0 }

/-- The warning pattern's start and end write the pattern alone. -/
theorem ModuleState.warnOn_mute : ((m.warnOn p st).portal p).mute = (m.portal p).mute := by
  have hlamp (n : ModuleState) : ((n.setPortal p fun q => { q with warning := true, lampOn := true, lampAt := m.now }).portal p).mute =
      (n.portal p).mute := n.setPortal_portal p Portal.mute fun _ => rfl
  have hsilent (n : ModuleState) : ((n.setPortal p fun q => { q with buzOn := false }).portal p).mute = (n.portal p).mute :=
    n.setPortal_portal p Portal.mute fun _ => rfl
  have hsounds (n : ModuleState) : ((n.setPortal p fun q => { q with buzOn := true, buzAt := m.now }).portal p).mute = (n.portal p).mute :=
    n.setPortal_portal p Portal.mute fun _ => rfl
  unfold ModuleState.warnOn
  dsimp only
  split_ifs <;> simp [hlamp, hsilent, hsounds]

theorem ModuleState.warnOff_mute : ((m.warnOff p).portal p).mute = (m.portal p).mute := by
  have hends : ((m.setPortal p fun q => { q with warning := false, buzOn := false, lampOn := false }).portal p).mute = (m.portal p).mute :=
    m.setPortal_portal p Portal.mute fun _ => rfl
  simp [ModuleState.warnOff, hends]

/-- Lamps and buzzer of a door state write the pattern alone. -/
theorem ModuleState.signals_mute : ((m.signals p st).portal p).mute = (m.portal p).mute := by
  unfold ModuleState.signals
  split <;> simp [ModuleState.warnOn_mute, ModuleState.warnOff_mute]

theorem ModuleState.signals_length : (m.signals p st).portals.length = m.portals.length := by
  unfold ModuleState.signals
  split
  case h_1 | h_2 | h_3 =>
    unfold ModuleState.warnOn
    dsimp only
    split_ifs <;> simp
  all_goals simp [ModuleState.warnOff]

/-! ### Door states -/

/-- A portal apart from what the entry of a door state writes: the state and its cause, the cycle with its trace, the times from the entry on,
and the warning pattern. -/
def Portal.kept (q : Portal) : Portal :=
  { q.mute with door := .closedLocked, faultCause := .none, starts := 0, enteredAt := 0, cycle := {}, leftWindow := false, trace := []
                traceRun := (0, 0, 0), traceFull := false, traceCut := false, traceAt := 0 }

/-- What differs in its warning pattern alone is kept. -/
theorem Portal.kept_of_mute {q r : Portal} (h : q.mute = r.mute) : q.kept = r.kept := by
  unfold Portal.kept
  rw [h]

/-- A trace grows: the state, a fault's cause and what is kept are as they were. -/
theorem Portal.addTrace_kept (q : Portal) (b : List Byte) :
    (q.addTrace b).door = q.door ∧ (q.addTrace b).faultCause = q.faultCause ∧ (q.addTrace b).kept = q.kept := by
  unfold Portal.addTrace
  split <;> exact ⟨rfl, rfl, rfl⟩

/-- What the entry of a door state makes of a portal: that state, a fault's cause, and the rest as it was. -/
structure Portal.Entered (q r : Portal) (st : DoorState) : Prop where
  door : r.door = st
  cause : r.faultCause = if st == .fault then q.faultCause else .none
  kept : r.kept = q.kept

/-- The MARK of a trace is no part of what an entry is about (R437). -/
theorem Portal.Entered.mark {q r : Portal} (h : q.Entered r st) (b : List Byte) : q.Entered { r.addTrace b with traceFull := true } st := by
  obtain ⟨hdoor, hcause, hkept⟩ := r.addTrace_kept b
  exact ⟨hdoor.trans h.door, hcause.trans h.cause, hkept.trans h.kept⟩

/-- The lock and the signals of an entry leave of the portal all but its warning pattern. -/
theorem ModuleState.unlock_signals (m : ModuleState) (p : Nat) (st : DoorState) (off : Bool) :
    (((if off then m.lock p false else m).signals p st).portal p).mute = (m.portal p).mute ∧
      ((if off then m.lock p false else m).signals p st).portals.length = m.portals.length := by
  cases off <;> simp [ModuleState.signals_mute, ModuleState.signals_length]

/-- A door state entered (R52, R74). -/
theorem ModuleState.enter_portal (hp : p - 1 < m.portals.length) : (m.portal p).Entered ((m.enter p st row).portal p) st := by
  obtain ⟨hmute, hlen⟩ := m.unlock_signals p st ((m.portal p).door == .unlocking && m.pulseLock p)
  unfold ModuleState.enter
  extract_lets q old idle starts first m1 m2 m3 move m4 e
  change q.Entered ((m2.setPortal p _).portal p) st
  rw [ModuleState.setPortal_portal_self _ (hlen.symm ▸ hp)]
  change (m2.portal p).mute = q.mute at hmute
  generalize m2.portal p = r at hmute ⊢
  extract_lets q0 q1 traced
  have hnew : q0.kept = r.kept := by
    unfold q0
    split <;> rfl
  have hcause : r.faultCause = q.faultCause := (congrArg Portal.faultCause hmute :)
  have hq1 : q.Entered q1 st := ⟨rfl, by rw [← hcause], hnew.trans (Portal.kept_of_mute hmute)⟩
  split
  · exact hq1.mark _
  · exact hq1

/-- The state entered is the portal's. -/
theorem ModuleState.enter_door (hp : p - 1 < m.portals.length) : ((m.enter p st row).portal p).door = st := (enter_portal hp).door

/-- What an entry keeps of the portal. -/
theorem ModuleState.enter_kept {β : Type} (g : Portal → β) (hg : ∀ q, g q.kept = g q) (hp : p - 1 < m.portals.length) :
    g ((m.enter p st row).portal p) = g (m.portal p) := by
  rw [← hg, (enter_portal hp).kept, hg]

/-- A fault entered with its cause (R53). -/
theorem ModuleState.enterFault_portal (cause : FaultCause) (hp : p - 1 < m.portals.length) :
    ((m.enterFault p cause row).portal p).door = .fault ∧ ((m.enterFault p cause row).portal p).faultCause = cause := by
  unfold ModuleState.enterFault
  extract_lets m1
  have hm1 : (m1.portal p).door = .fault ∧ (m1.portal p).faultCause = cause := by
    have he := ModuleState.enter_portal (m := ((m.setPortal p fun q => { q with faultCause := cause }).lock p false).heaterOff p) (p := p)
      (st := .fault) (row := row) (by simpa using hp)
    refine ⟨he.door, he.cause.trans ?_⟩
    simp [ModuleState.setPortal_portal_self _ hp]
  split
  · exact hm1
  · simpa using hm1

/-! ### Step states -/

/-- A step state entered, with the door's state as it was (R59). -/
theorem ModuleState.enterStep_step (st : StepState) (hp : p - 1 < m.portals.length) : ((m.enterStep p st).portal p).step = st :=
  congrArg Portal.step (m.setPortal_portal_self _ hp)

theorem ModuleState.enterStep_door (m : ModuleState) (p : Nat) (st : StepState) : ((m.enterStep p st).portal p).door = (m.portal p).door :=
  m.setPortal_portal p Portal.door fun _ => rfl

/-- A step state entered may end OPEN_PENDING; it never sets it (row 11). -/
theorem ModuleState.enterStep_openPending (m : ModuleState) (p : Nat) (st : StepState) (h : (m.portal p).openPending = false) :
    ((m.enterStep p st).portal p).openPending = false := by
  by_cases hp : p - 1 < m.portals.length
  · refine (congrArg Portal.openPending (m.setPortal_portal_self _ hp)).trans ?_
    simp [h]
  · rw [ModuleState.portal, List.getD_eq_default _ _ (by simpa [ModuleState.enterStep] using hp)]

theorem ModuleState.stow_door (m : ModuleState) (p : Nat) : ((m.stow p).portal p).door = (m.portal p).door := by
  rw [ModuleState.stow, (ModuleState.moveStep_portals ..).2, ModuleState.enterStep_door]

theorem ModuleState.stow_openPending (m : ModuleState) (p : Nat) (h : (m.portal p).openPending = false) :
    ((m.stow p).portal p).openPending = false := by
  rw [ModuleState.stow, (ModuleState.moveStep_portals ..).2]
  exact m.enterStep_openPending p _ h

end Sys2Proof.Machine
end

section
/-! The timers of a portal (R52 to R55, R59, R61, R66, R355, R437): each row under the conditions in which its timer counts. -/

namespace Sys2Proof.Machine

variable {s : State} {t p : Nat} {i : Instr}

/-! ### When a timer counts -/

/-- A row of a portal the module can have runs. -/
theorem runs_of_portal {f : ModuleState → ModuleState} {P : ModuleState → Prop} (hp : 1 ≤ p ∧ p ≤ 4)
    (he : exec i s = happen (1 ≤ p && p ≤ 4) t f s) (hP : P (f (s.then t))) : Runs i s P :=
  runs_of_happen (he.trans (by simp [hp])) hP

/-- A row of a portal the module can have gives what its effect makes of the module at that instant. -/
theorem gives_of_portal {f : ModuleState → ModuleState} {m' : ModuleState} (hp : 1 ≤ p ∧ p ≤ 4)
    (he : exec i s = happen (1 ≤ p && p ≤ 4) t f s) (hf : f (s.then t) = m') : Gives i s m' :=
  gives_of_happen (he.trans (by simp [hp])) hf

/-- The timers of a portal count: it is enabled and taken from the field, the module is armed, and the polder core runs (R51, R579). -/
structure ModuleState.Counts (m : ModuleState) (p : Nat) : Prop where
  enabled : m.enabled p
  clocked : m.clocked p
  runs : m.runs isPolder

theorem ModuleState.Counts.timing {m : ModuleState} (h : m.Counts p) (st : DoorState) : m.timing p st = ((m.portal p).door == st) := by
  simp [ModuleState.timing, h.enabled, h.clocked, h.runs]

/-- A timer from the entry into the present state has run out. -/
theorem ModuleState.Counts.stateDue {m : ModuleState} (h : m.Counts p) {st : DoorState} (hd : (m.portal p).door = st) {span : Nat}
    (hs : (m.portal p).enteredAt + ms span ≤ m.now) : m.stateDue p st span = true := by
  simp [ModuleState.stateDue, h.timing, hd, ModuleState.due, hs]

/-- A timer of another state does not count. -/
theorem ModuleState.Counts.stateDue_ne {m : ModuleState} (h : m.Counts p) {st : DoorState} (hd : (m.portal p).door ≠ st) (span : Nat) :
    m.stateDue p st span = false := by
  simp [ModuleState.stateDue, h.timing, hd]

theorem ModuleState.dueO_some {m : ModuleState} {o : Option Nat} {b span : Nat} (ho : o = some b) (hb : b + span ≤ m.now) :
    m.dueO o span = true := by
  rw [ho]
  exact decide_eq_true hb

/-! ### What the rows do before they enter a state -/

/-- Contacts in disagreement are not both closed. -/
theorem ModuleState.bothClosed_of_disagree {m : ModuleState} (h : m.disagree p) : m.bothClosed p = false := by
  unfold ModuleState.disagree at h
  unfold ModuleState.bothClosed
  cases ha : m.contactA p <;> cases hb : m.contactB p <;> simp_all

/-- A reversal begun leaves the count of reclosings alone. -/
theorem ModuleState.reverse_recloseCount (m : ModuleState) (p : Nat) (pos : Int) :
    ((m.reverse p pos).portal p).recloseCount = (m.portal p).recloseCount := by
  rw [ModuleState.reverse, (ModuleState.place_portals ..).2]
  exact m.setPortal_portal p Portal.recloseCount fun _ => rfl

@[simp] theorem ModuleState.reverse_length (m : ModuleState) (p : Nat) (pos : Int) : (m.reverse p pos).portals.length = m.portals.length := by
  simp [ModuleState.reverse]

section

variable (hp : 1 ≤ p ∧ p ≤ 4) (h : (s.then t).Counts p)
include hp h

/-! ### Contacts and the lock -/

/-- Row 5 of Table 4. -/
theorem contactDisagreeTimeout_faults {b : Nat} (hd : ((s.then t).portal p).door = .closedLocked ∨ ((s.then t).portal p).door = .released ∨
    ((s.then t).portal p).door = .locking) (hs : ((s.then t).portal p).disagreeSince = some b) (hb : b + ms 100 ≤ (s.then t).now)
    (hdis : (s.then t).disagree p) :
    Runs (.contactDisagreeTimeout t p) s fun m' => (m'.portal p).door = .fault ∧ (m'.portal p).faultCause = .contactDisagree := by
  have hlt := ModuleState.portal_lt Portal.disagreeSince (m := s.then t) (p := p) (by rw [hs]; exact Option.some_ne_none b)
  have hstate : (((s.then t).portal p).door == .closedLocked || ((s.then t).portal p).door == .released ||
      ((s.then t).portal p).door == .locking) = true := by simpa [or_assoc] using hd
  refine runs_of_portal hp rfl ?_
  simp only [h.enabled, h.runs, ModuleState.dueO_some hs hb, hdis, hstate, Bool.and_self, if_true]
  exact ModuleState.enterFault_portal _ (by simpa using hlt)

/-- Row 13 of Table 4. -/
theorem unlockTimeout_releases (hd : ((s.then t).portal p).door = .unlocking)
    (hs : ((s.then t).portal p).enteredAt + ms ((s.then t).prof 70 2) ≤ (s.then t).now) (hc : (s.then t).bothClosed p) :
    Runs (.unlockTimeout t p) s fun m' => (m'.portal p).door = .released := by
  have hlt := ModuleState.portal_lt_of_door hd (by decide)
  refine runs_of_portal hp rfl ?_
  simp only [h.stateDue hd hs, hc, Bool.not_true, Bool.false_eq_true, if_false, if_true]
  exact ModuleState.enter_door (by simpa using hlt)

/-- Row 14 of Table 4. -/
theorem unlockTimeout_faults (hd : ((s.then t).portal p).door = .unlocking)
    (hs : ((s.then t).portal p).enteredAt + ms ((s.then t).prof 70 2) ≤ (s.then t).now) (hdis : (s.then t).disagree p) :
    Runs (.unlockTimeout t p) s fun m' => (m'.portal p).door = .fault ∧ (m'.portal p).faultCause = .unlockDisagree := by
  have hlt := ModuleState.portal_lt_of_door hd (by decide)
  refine runs_of_portal hp rfl ?_
  simp only [h.stateDue hd hs, ModuleState.bothClosed_of_disagree hdis, hdis, Bool.not_true, Bool.false_eq_true, if_false, if_true]
  exact ModuleState.enterFault_portal _ (by simpa using hlt)

theorem unlockPulseEnd_ends (hd : ((s.then t).portal p).door = .unlocking) (hl : (s.then t).pulseLock p)
    (hs : ((s.then t).portal p).enteredAt + ms ((s.then t).cfg (portalCfg p + 44) 2) ≤ (s.then t).now) :
    Gives (.unlockPulseEnd t p) s ((s.then t).lock p false) := by
  refine gives_of_portal hp rfl ?_
  simp only [hl, h.stateDue hd hs, Bool.and_self, if_true]

/-- Rows 33 and 34 of Table 4. -/
theorem lockTimeout_reverses_or_faults (hd : ((s.then t).portal p).door = .locking)
    (hs : ((s.then t).portal p).enteredAt + ms ((s.then t).prof 72 2) ≤ (s.then t).now) (hc : (s.then t).bothClosed p = false) :
    Runs (.lockTimeout t p) s fun m' =>
      if ((s.then t).portal p).recloseCount < (s.then t).prof 38 1 then
        (m'.portal p).door = .obstructed ∧ (m'.portal p).recloseCount = ((s.then t).portal p).recloseCount + 1
      else (m'.portal p).door = .fault ∧ (m'.portal p).faultCause = .lockFailed := by
  have hlt := ModuleState.portal_lt_of_door hd (by decide)
  have hhoming : (s.then t).timing p .homing = false := by rw [h.timing, hd]; rfl
  refine runs_of_portal hp rfl ?_
  simp only [hhoming, h.stateDue hd hs, hc, Bool.false_and, Bool.not_true, Bool.or_self, Bool.false_eq_true, if_false, decide_eq_true_eq]
  by_cases hleft : ((s.then t).portal p).recloseCount < (s.then t).prof 38 1
  · simp only [hleft, if_true]
    refine ⟨ModuleState.enter_door (by simpa using hlt), ?_⟩
    rw [ModuleState.enter_kept Portal.recloseCount (fun _ => rfl) (by simpa using hlt), ModuleState.reverse_recloseCount,
      ModuleState.log_portal, ModuleState.setPortal_portal_self _ hlt]
  · simp only [hleft, if_false]
    exact ModuleState.enterFault_portal _ (by simpa using hlt)

/-! ### Moves -/

/-- Row 19 of Table 4. -/
theorem moveTimeout_faults (hd : ((s.then t).portal p).door = .opening ∨ ((s.then t).portal p).door = .closing)
    (hs : ((s.then t).portal p).enteredAt + ms ((s.then t).prof 74 2) ≤ (s.then t).now) :
    Runs (.moveTimeout t p) s fun m' => (m'.portal p).door = .fault ∧ (m'.portal p).faultCause = .moveTimeout := by
  have hlt := ModuleState.portal_lt Portal.door (m := s.then t) (p := p) (by rcases hd with hd | hd <;> rw [hd] <;> decide)
  have hdue : ((s.then t).stateDue p .opening ((s.then t).prof 74 2) || (s.then t).stateDue p .closing ((s.then t).prof 74 2)) = true := by
    rcases hd with hd | hd <;> simp [h.stateDue hd hs]
  refine runs_of_portal hp rfl ?_
  simp only [hdue, if_true]
  exact ModuleState.enterFault_portal _ (by simpa using hlt)

/-- Row 20 of Table 4. -/
theorem autoCloseExpiry_warns {b : Nat} (hd : ((s.then t).portal p).door = .openD) (hn : (s.then t).prof 54 2 ≠ 0)
    (ha : ((s.then t).portal p).autoCloseAt = some b) (hb : b + ms (100 * (s.then t).prof 54 2) ≤ (s.then t).now) :
    Runs (.autoCloseExpiry t p) s fun m' => (m'.portal p).door = .closingWarning := by
  have hlt := ModuleState.portal_lt_of_door hd (by decide)
  refine runs_of_portal hp rfl ?_
  simp only [h.timing, hd, beq_self_eq_true, if_true, ModuleState.autoClose, bne_iff_ne.mpr hn, ModuleState.dueO_some ha hb, h.clocked,
    Bool.and_self]
  exact ModuleState.enter_door hlt

/-- Row 22 of Table 4. -/
theorem warnTimeElapsed_closes (hd : ((s.then t).portal p).door = .closingWarning)
    (hs : ((s.then t).portal p).enteredAt + ms ((s.then t).prof 44 2) ≤ (s.then t).now) (hstill : (s.then t).still ((s.then t).doorAxis p)) :
    Runs (.warnTimeElapsed t p) s fun m' => (m'.portal p).door = .closing := by
  have hlt := ModuleState.portal_lt_of_door hd (by decide)
  have hdue : (s.then t).due ((s.then t).portal p).enteredAt (ms ((s.then t).prof 44 2)) = true := decide_eq_true hs
  refine runs_of_portal hp rfl ?_
  simp only [h.timing, hd, beq_self_eq_true, if_true, ModuleState.tickWarn, hdue, hstill, Bool.and_self, ModuleState.moveClose_portals]
  exact ModuleState.enter_door hlt

theorem warningPatternToggle_lamp (hw : ((s.then t).portal p).warning) (hl : ((s.then t).portal p).lampOn) (hn : (s.then t).prof 52 2 ≠ 0)
    (hs : ((s.then t).portal p).lampAt + ms ((s.then t).prof 50 2) ≤ (s.then t).now) :
    Gives (.warningPatternToggle t p true) s
      (((s.then t).setPortal p fun q => { q with lampOn := false, lampAt := (s.then t).now }).lampOut p false) := by
  have hdue : (s.then t).due ((s.then t).portal p).lampAt (ms ((s.then t).prof 50 2)) = true := decide_eq_true hs
  refine gives_of_portal hp rfl ?_
  simp [hw, hl, h.enabled, h.clocked, h.runs, hn, hdue]

/-- Rows 28 to 30 of Table 4. -/
theorem recloseDelayElapsed_recloses_or_ends {b : Nat} (hd : ((s.then t).portal p).door = .obstructed)
    (hr : ((s.then t).portal p).reversalDoneAt = some b) (hb : b + ms ((s.then t).prof 42 2) ≤ (s.then t).now) :
    Runs (.recloseDelayElapsed t p) s fun m' =>
      if ((s.then t).portal p).recloseCount < (s.then t).prof 38 1 then
        (m'.portal p).door = .closing ∧ (m'.portal p).recloseCount = ((s.then t).portal p).recloseCount + 1
      else if (s.then t).prof 39 1 = 0 then (m'.portal p).door = .openD ∧ (m'.portal p).autoCloseAt = none
      else (m'.portal p).door = .closing ∧ (m'.portal p).reduced = true := by
  have hlt := ModuleState.portal_lt_of_door hd (by decide)
  have hhoming : (s.then t).timing p .homing = false := by rw [h.timing, hd]; rfl
  refine runs_of_portal hp rfl ?_
  simp only [hhoming, h.timing, hd, beq_self_eq_true, ModuleState.dueO_some hr hb, Bool.false_and, Bool.not_true, Bool.or_self,
    Bool.false_eq_true, if_false]
  by_cases hleft : ((s.then t).portal p).recloseCount < (s.then t).prof 38 1
  · simp only [hleft, if_true, ModuleState.moveClose_portals]
    refine ⟨ModuleState.enter_door (by simpa using hlt), ?_⟩
    rw [ModuleState.enter_kept Portal.recloseCount (fun _ => rfl) (by simpa using hlt), ModuleState.setPortal_portal_self _ hlt]
  simp only [hleft, if_false]
  by_cases hend : (s.then t).prof 39 1 = 0
  · simp only [hend, if_true]
    refine ⟨ModuleState.enter_door (by simpa using hlt), ?_⟩
    rw [ModuleState.enter_kept Portal.autoCloseAt (fun _ => rfl) (by simpa using hlt), ModuleState.setPortal_portal_self _ (by simpa using hlt)]
  · simp only [hend, if_false, ModuleState.moveClose_portals]
    refine ⟨ModuleState.enter_door (by simpa using hlt), ?_⟩
    rw [ModuleState.enter_kept Portal.reduced (fun _ => rfl) (by simpa using hlt), ModuleState.setPortal_portal_self _ (by simpa using hlt)]

/-! ### Steps, homing, traces -/

theorem stepTimeout_faults {b : Nat} (hb : (s.then t).stepAxis p = some b)
    (hd : ((s.then t).portal p).step = .deploying ∨ ((s.then t).portal p).step = .stowing)
    (hs : ((s.then t).portal p).stepMoveAt + ms ((s.then t).prof 76 2) ≤ (s.then t).now) :
    Runs (.stepTimeout t p) s fun m' => (m'.portal p).step = .stepFault := by
  have hlt := ModuleState.portal_lt Portal.step (m := s.then t) (p := p) (by rcases hd with hd | hd <;> rw [hd] <;> decide)
  have hmoves : (((s.then t).portal p).step == .deploying || ((s.then t).portal p).step == .stowing) = true := by simpa using hd
  have hdue : (s.then t).due ((s.then t).portal p).stepMoveAt (ms ((s.then t).prof 76 2)) = true := decide_eq_true hs
  refine runs_of_portal hp rfl ?_
  simp only [h.enabled, h.clocked, h.runs, hmoves, hdue, Bool.and_self, if_true, ModuleState.stepFault, hb]
  exact ModuleState.enterStep_step _ (by simpa using hlt)

theorem stepRestowWait_restarts {b : Nat} (hd : ((s.then t).portal p).step = .stowing) (hw : ((s.then t).portal p).stepWaitAt = some b)
    (hb : b + seconds 1 ≤ (s.then t).now) :
    Runs (.stepRestowWait t p) s fun m' =>
      (m'.portal p).stepWaitAt = none ∧ (m'.portal p).stepMoveAt = (s.then t).now ∧ (m'.portal p).step = .stowing := by
  have hlt := ModuleState.portal_lt Portal.step (m := s.then t) (p := p) (by rw [hd]; decide)
  refine runs_of_portal hp rfl ?_
  simp only [h.enabled, h.clocked, h.runs, hd, beq_self_eq_true, ModuleState.dueO_some hw hb, Bool.and_self, if_true,
    ModuleState.moveStep_portals, ModuleState.setPortal_portal_self _ hlt, and_self]

/-- Row 36 of Table 4. -/
theorem homeTimeout_faults (hd : ((s.then t).portal p).door = .homing)
    (hs : ((s.then t).portal p).enteredAt + ms ((s.then t).cfg (portalCfg p + 50) 2) ≤ (s.then t).now) :
    Runs (.homeTimeout t p) s fun m' => (m'.portal p).door = .fault ∧ (m'.portal p).faultCause = .homingFailed := by
  have hlt := ModuleState.portal_lt_of_door hd (by decide)
  refine runs_of_portal hp rfl ?_
  simp only [h.stateDue hd hs, if_true, ModuleState.homingFails]
  exact ModuleState.enterFault_portal _ (by simpa using hlt)

omit hp in
theorem profileScheduleLaunch_pends {x : ProfileSched} (hx : (s.then t).profiles.schedule = some x) (hh : x.heldSince = none)
    (hcome : stampNs x.launch ≤ stampNs (s.then t).stamp) (hintime : stampNs (s.then t).stamp ≤ stampNs x.launch + 1000000) :
    Gives (.profileScheduleLaunch t) s
      { s.then t with profiles := { (s.then t).profiles with schedule := some { x with heldSince := some (s.then t).now } } } := by
  refine gives_of_happen rfl ?_
  have hlate : decide (stampNs x.launch + 1000000 < stampNs (s.then t).stamp) = false := decide_eq_false (Nat.not_lt.mpr hintime)
  simp only [hx, h.runs, hh, hlate, Nat.not_lt.mpr hcome, Option.isSome_none, Bool.not_true, Bool.or_self, Bool.false_eq_true, decide_false,
    Bool.false_and, if_false]

theorem traceSpacingSample_codes (hd : ((s.then t).portal p).door.traced) (hon : bit ((s.then t).cfg 3112 1) (p - 1))
    (hs : ((s.then t).portal p).traceAt + ms ((s.then t).cfg 3113 1) ≤ (s.then t).now) :
    Gives (.traceSpacingSample t p) s ((s.then t).setPortal p fun q =>
      { q.sample ((s.then t).doorSpeedMm p) (max (-32768) (min 32767 ((s.then t).ob p).force.floor)) with traceAt := (s.then t).now }) := by
  have hdue : (s.then t).due ((s.then t).portal p).traceAt (ms ((s.then t).cfg 3113 1)) = true := decide_eq_true hs
  refine gives_of_portal hp rfl ?_
  simp only [h.enabled, h.runs, hd, hon, hdue, Bool.and_self, if_true]
  rfl

end

/-- Settles O2, row by row: what the rows do before and after they enter a state leaves the portal alone. -/
theorem portalTimersRun : Obligations.PortalTimersRun := by
  intro s t p h1 h4 m q hen harm haw hrun
  have hp : 1 ≤ p ∧ p ≤ 4 := ⟨h1, h4⟩
  have hclocked : m.clocked p := by simpa [ModuleState.clocked, harm] using haw
  have h : m.Counts p := ⟨hen, hclocked, hrun⟩
  exact ⟨fun b => contactDisagreeTimeout_faults hp h, unlockTimeout_releases hp h, unlockTimeout_faults hp h, unlockPulseEnd_ends hp h,
    lockTimeout_reverses_or_faults hp h, moveTimeout_faults hp h, fun b => autoCloseExpiry_warns hp h, warnTimeElapsed_closes hp h,
    warningPatternToggle_lamp hp h, fun b => recloseDelayElapsed_recloses_or_ends hp h, fun b => stepTimeout_faults hp h,
    fun b => stepRestowWait_restarts hp h, homeTimeout_faults hp h, fun x => profileScheduleLaunch_pends h, traceSpacingSample_codes hp h⟩

end Sys2Proof.Machine
end

section
/-! The portal tick (R49, R51): its items in order, and the rows of Table 4 that each item drives. -/

namespace Sys2Proof.Machine

variable {m : ModuleState} {p : Nat}

/-! ### Items 1 to 4: egress, isolation, faults, contacts -/

section

variable (hp : p - 1 < m.portals.length)
include hp

/-- Row 1 of Table 4. -/
theorem ModuleState.tickEgress_opens (h : m.egress p) : ((m.tickEgress p).portal p).door = .emergencyOpen := by
  unfold ModuleState.tickEgress
  extract_lets st
  by_cases hst : st = .emergencyOpen
  · rw [if_neg (by simp [hst])]
    exact hst
  · rw [if_pos (by simp [h, hst])]
    exact enter_door (by split <;> simpa using hp)

/-- Row 2 of Table 4. -/
theorem ModuleState.tickIsolation_isolates (h : m.isolated p) (hd : (m.portal p).door ≠ .emergencyOpen) :
    ((m.tickIsolation p).portal p).door = .isolated := by
  unfold ModuleState.tickIsolation
  extract_lets st
  rw [if_pos h]
  by_cases hst : st = .isolated
  · rw [if_pos (by simp [hst])]
    exact hst
  · rw [if_neg (by simpa [hst] using hd)]
    exact enter_door (by simpa using hp)

/-- Row 3 of Table 4. -/
theorem ModuleState.tickFaults_axisFault (hd : (m.portal p).door.resting = false) (h : m.axisFaulty (m.doorAxis p)) :
    ((m.tickFaults p).portal p).door = .fault ∧ ((m.tickFaults p).portal p).faultCause = .axisFault := by
  unfold ModuleState.tickFaults
  extract_lets q a st stepBad m0 stepLost m1 lost
  have hlen : m1.portals.length = m.portals.length := by
    unfold m1 m0 ModuleState.stepFault
    split
    · split <;> simp [ModuleState.enterStep]
    · simp
  rw [if_pos (by simp [st, q, a, hd, h])]
  exact enterFault_portal _ (by simpa [hlen] using hp)

/-- Row 6 of Table 4. -/
theorem ModuleState.tickContacts_unlocked (hd : (m.portal p).door = .closedLocked ∨ (m.portal p).door = .released) (h : m.bothOpen p) :
    ((m.tickContacts p).portal p).door = .fault ∧ ((m.tickContacts p).portal p).faultCause = .unexpectedUnlock := by
  unfold ModuleState.tickContacts
  extract_lets st locked m1
  have hlocked : locked := by simpa [locked, st] using hd
  rw [if_pos (by simp [hlocked, h])]
  exact enterFault_portal _ (by simpa [m1] using hp)

end

/-! ### Item 6: release permission -/

/-- What release permission does with the door (rows 7, 8, 15, 18 and 20), before it does anything with the step. -/
def ModuleState.doorRelease (m : ModuleState) (p : Nat) : ModuleState :=
  let q := m.portal p
  let on := m.released p
  let lost : Bool := q.releaseSeen && !on && bit (m.prof 58 1) 0
  let m0 := m.setPortal p fun q => { q with releaseSeen := on }
  match q.door with
  | .closedLocked =>
    if !on then m0
    else
      let m1 := m0.enter p .released 7
      if m.prof 57 1 = 0 ∧ m.reset.armed then m1.ask { portal := p, req := .openReq false none, ref := none } else m1
  | .released => if on then m0 else (m0.setPortal p fun q => { q with openPending := false }).enter p .closedLocked 8
  | .unlocking => if on then m0 else (m0.lock p false).enter p .locking 15
  | .opening => if lost then m0.closingWarning p 18 else m0
  | .openD => if lost then m0.closingWarning p 20 else m0
  | _ => m0

/-- A step that goes in with the release leaves the door's state, and sets no OPEN_PENDING. -/
theorem ModuleState.tickRelease_door (m : ModuleState) (p : Nat) :
    ((m.tickRelease p).portal p).door = ((m.doorRelease p).portal p).door ∧
      (((m.doorRelease p).portal p).openPending = false → ((m.tickRelease p).portal p).openPending = false) := by
  have heq : m.tickRelease p = match m.stepAxis p with
      | none => m.doorRelease p
      | some b =>
        if (m.portal p).step == .deploying && !m.released p then ((m.doorRelease p).halts b).stow p
        else if (m.portal p).step == .deployed && ((m.doorRelease p).portal p).door == .closedLocked && !m.released p then (m.doorRelease p).stow p
        else m.doorRelease p := rfl
  rw [heq]
  generalize m.doorRelease p = n
  split
  · exact ⟨rfl, id⟩
  split_ifs
  · exact ⟨by simp [stow_door], fun h => stow_openPending _ _ (by simpa using h)⟩
  · exact ⟨stow_door _ _, stow_openPending _ _⟩
  · exact ⟨rfl, id⟩

section

variable (hp : p - 1 < m.portals.length)
include hp

/-- Row 7 of Table 4. -/
theorem ModuleState.tickRelease_releases (hd : (m.portal p).door = .closedLocked) (h : m.released p) :
    ((m.tickRelease p).portal p).door = .released := by
  rw [(m.tickRelease_door p).1]
  simp only [ModuleState.doorRelease, hd, h, Bool.not_true, Bool.false_eq_true, if_false]
  split
  · rw [(ask_portals ..).2]
    exact enter_door (by simpa using hp)
  · exact enter_door (by simpa using hp)

/-- Row 8 of Table 4. -/
theorem ModuleState.tickRelease_locks (hd : (m.portal p).door = .released) (h : m.released p = false) :
    ((m.tickRelease p).portal p).door = .closedLocked ∧ ((m.tickRelease p).portal p).openPending = false := by
  obtain ⟨hdoor, hpending⟩ := m.tickRelease_door p
  simp only [ModuleState.doorRelease, hd, h, Bool.false_eq_true, if_false] at hdoor hpending
  refine ⟨hdoor.trans (enter_door (by simpa using hp)), hpending ?_⟩
  rw [enter_kept Portal.openPending (fun _ => rfl) (by simpa using hp), setPortal_portal_self _ (by simpa using hp)]

/-- Row 15 of Table 4. -/
theorem ModuleState.tickRelease_relocks (hd : (m.portal p).door = .unlocking) (h : m.released p = false) :
    ((m.tickRelease p).portal p).door = .locking := by
  rw [(m.tickRelease_door p).1]
  simp only [ModuleState.doorRelease, hd, h, Bool.false_eq_true, if_false]
  exact enter_door (by simpa using hp)

/-! ### Item 8: contacts and completed moves -/

/-- Row 12 of Table 4. -/
theorem ModuleState.tickDoor_opens (hd : (m.portal p).door = .unlocking) (h : m.bothOpen p) : ((m.tickDoor p).portal p).door = .opening := by
  simp only [ModuleState.tickDoor, hd, h, if_true, moveOpen_portals]
  exact enter_door hp

/-- Row 27 of Table 4. -/
theorem ModuleState.tickDoor_locks (hd : (m.portal p).door = .closing) (h : m.doorDone p (m.posClosed p))
    (hw : m.within p (m.doorPos p) (m.posClosed p)) : ((m.tickDoor p).portal p).door = .locking := by
  simp only [ModuleState.tickDoor, hd, h, hw, Bool.and_self, if_true]
  exact enter_door (by split <;> simpa using hp)

/-- Row 32 of Table 4: the cycle counts when the door had left its window (R72, R73). -/
theorem ModuleState.doorLocked_portal : ((m.doorLocked p).portal p).door = .closedLocked ∧
    ((m.doorLocked p).portal p).doorCycles =
      (if (m.portal p).leftWindow then sat max32 (m.portal p).doorCycles else (m.portal p).doorCycles) ∧
    ((m.doorLocked p).portal p).recloseCount = 0 ∧ ((m.doorLocked p).portal p).reduced = false := by
  unfold ModuleState.doorLocked
  extract_lets q o counted good m1 m2 m3
  have hm1 : m1.portal p = { q with
      reduced := false, recloseCount := 0, doorCycles := if counted then sat max32 q.doorCycles else q.doorCycles } :=
    m.setPortal_portal_self _ hp
  have hm3 : m3.portals = m1.portals := by
    unfold m3 m2
    split_ifs <;> simp
  generalize hm4 : m3.logIf _ _ _ _ = m4
  have hm4p : m4.portals = m1.portals := hm4 ▸ hm3
  have hq : m4.portal p = _ := ((portals_frame hm4p).2 p).trans hm1
  have hlt : p - 1 < m4.portals.length := by simpa [hm4p, m1] using hp
  refine ⟨enter_door hlt, ?_, ?_, ?_⟩
  · rw [enter_kept Portal.doorCycles (fun _ => rfl) hlt, hq]
  · rw [enter_kept Portal.recloseCount (fun _ => rfl) hlt, hq]
  · rw [enter_kept Portal.reduced (fun _ => rfl) hlt, hq]

end

theorem ModuleState.tickDoor_locked (hd : (m.portal p).door = .locking) (h : m.bothClosed p)
    (ht : m.now ≤ (m.portal p).enteredAt + ms (m.prof 72 2)) : m.tickDoor p = m.doorLocked p := by
  have htime : m.inLockTime (m.portal p).enteredAt = true := decide_eq_true ht
  simp only [ModuleState.tickDoor, hd, h, htime, Bool.and_self, if_true]

/-! ### The tick -/

/-- PORTAL_TICK of a running polder core of a ready module (R49, R66, R471). -/
theorem portalTick_items {s : State} {t : Nat} (hr : (s.then t).runs isPolder) (hphase : (s.then t).reset.phase = .ready) :
    Gives (.portalTick t) s (((s.then t).acceptAll.applyProfile.each (s.then t).acceptAll.applyProfile.enabledPortals fun m p =>
      m.tickPortal p).answerTrains.sendVector) := by
  refine gives_of_happen rfl ?_
  simp only [hr, hphase, beq_self_eq_true, Bool.and_self, if_true]

/-- Settles O1: the tick by its definition, and each row by the item that drives it. -/
theorem portalTickItems : Obligations.PortalTickItems := by
  refine ⟨fun s t hr hphase => portalTick_items hr hphase, fun m p _ hp => ?_⟩
  exact ⟨ModuleState.tickEgress_opens hp, ModuleState.tickIsolation_isolates hp, ModuleState.tickFaults_axisFault hp,
    ModuleState.tickContacts_unlocked hp, ModuleState.tickRelease_releases hp, ModuleState.tickRelease_locks hp,
    ModuleState.tickRelease_relocks hp, ModuleState.tickDoor_opens hp, ModuleState.tickDoor_locks hp,
    fun hd h ht => ModuleState.tickDoor_locked hd h ht ▸ ModuleState.doorLocked_portal hp⟩

end Sys2Proof.Machine
end

section
/-! The reads of settings and of status (R26, R300): what the settings reads answer, and a status read that is not as its statement says. -/

namespace Sys2Proof.Machine

/-! ### The settings reads -/

/-- A read of data of some islands has the effect its specification's body gives (R26). -/
theorem does_of_readFrom {spec : CmdSpec} {i : Instr} {p : Packet} {s : State} {needs : List Channel} {m : ModuleState} {data : List Byte}
    (he : exec i s = .next (submit spec p s)) (hb : spec.body (cmdOf spec p s) (taken spec p s) = readFrom needs m data) :
    Does spec i p s { needs, data, m } :=
  does_of_ok he hb rfl

/-- The entries of a read: those of every object for the module, one for an object. -/
theorem entries_flatMap (c : Cmd) (l : List Nat) (f : Nat → List Byte) : entries c l f = (if c.kind = 0 then l else [c.idx]).flatMap f := by
  unfold entries
  split <;> simp

/-- Settles O49: the body of each settings read is the read of the entries the statement names (log entry 16). -/
theorem settingsReadsAnswer : Obligations.SettingsReadsAnswer := by
  intro s p
  dsimp only
  exact ⟨does_of_readFrom rfl rfl, does_of_readFrom rfl rfl, does_of_readFrom rfl rfl, does_of_readFrom rfl rfl, does_of_readFrom rfl rfl,
    does_of_readFrom rfl rfl, does_of_readFrom rfl (congrArg (readFrom _ _) (entries_flatMap ..)), does_of_readFrom rfl rfl,
    does_of_readFrom rfl rfl, does_of_readFrom rfl rfl, does_of_readFrom rfl rfl, does_of_readFrom rfl rfl, does_of_readFrom rfl rfl⟩

/-! ### FI_STATUS -/

/-- A ready module, every island running. -/
def readyState : State := { m := { reset := { phase := .ready, armed := true } } }

/-- FI_STATUS of the module, without SECURED, on the host SPI. -/
def fiStatusPacket : Packet :=
  { time := 5, transport := .spi, src := (0, 0), version := 2, flags := 2, opcode := 0x0700, seq := 1, session := 0, target := 0, payload := [] }

/-- The packet passes every check. -/
theorem fiStatusPacket_accepted : Accepted fiStatusSpec fiStatusPacket readyState :=
  ⟨by decide, by decide +kernel, rfl⟩

/-- A command that is answered at once leaves the free values used as its own effect has them. -/
theorem dispatched_free {spec : CmdSpec} {p : Packet} {m : ModuleState} {x : Result} (ha : x.acts = []) (hw : x.wait = false) :
    (dispatched spec p m x).free = x.m.free := by
  simp [dispatched, ha, hw]

/-- FI_STATUS of the module moves the free values on by the 83 of the foreland, while the general lane is not lost (R293). -/
theorem fiStatusBody_free {c : Cmd} {m : ModuleState} (hk : c.kind = 0) (hf : m.field.frozen = none) : (fiStatusBody c m).m.free = m.free + 83 := by
  simp [fiStatusBody, hk, measureField, hf, measureFrom, readFrom]

/-- A packet has one effect: two that its row is said to have leave the same free values. -/
theorem Does.free_eq {spec : CmdSpec} {i : Instr} {p : Packet} {s : State} {x y : Result} (hx : Does spec i p s x) (hy : Does spec i p s y)
    (ha : Accepted spec p s) (hcx : Clear (taken spec p s) x) (hcy : Clear (taken spec p s) y) (hxa : x.acts = [] ∧ x.wait = false)
    (hya : y.acts = [] ∧ y.wait = false) : x.m.free = y.m.free := by
  have he := (hx ha hcx).symm.trans (hy ha hcy)
  injection he with he
  rw [← dispatched_free hxa.1 hxa.2, ← dispatched_free hya.1 hya.2]
  exact congrArg (fun s : State => s.m.free) he

/-- Refutes O50: the statement gives FI_STATUS of the module one free value, VFO. The model measures the whole foreland at once, so the read
moves the free values on by 83. -/
theorem not_statusReadsAnswer : ¬ Obligations.StatusReadsAnswer := by
  unfold Obligations.StatusReadsAnswer
  intro h
  obtain ⟨-, -, -, -, -, -, -, -, -, -, -, -, -, hfi, -⟩ := h readyState fiStatusPacket
  have hmodel : Does fiStatusSpec (.fiStatus fiStatusPacket) fiStatusPacket readyState
      (fiStatusBody (cmdOf fiStatusSpec fiStatusPacket readyState) (taken fiStatusSpec fiStatusPacket readyState)) := does_of_ok rfl rfl rfl
  have hfree := hmodel.free_eq hfi fiStatusPacket_accepted (by decide +kernel) (by decide +kernel) ⟨rfl, rfl⟩ ⟨rfl, rfl⟩
  rw [fiStatusBody_free rfl rfl] at hfree
  exact absurd hfree (by decide +kernel)

end Sys2Proof.Machine
end

section
/-! What motion leaves of an axis (R84 to R107). Every operation on moves leaves the configuration alone, and of an axis what only a step, a
redefinition or a command changes; those that issue no step leave the moves of the queue, too, but for their junction speeds, unless one ends where
the axis stands. -/

namespace Sys2Proof.Machine

/-! ### Parts of the axes -/

/-- What every operation on moves leaves of an axis: its position, the steps counted, whether the position is valid, and CLAMPED. -/
def Axis.fixed (x : Axis) : Int × Nat × Bool × Bool := (x.cmdPos, x.stepCount, x.posValid, x.clamped)

/-- The same, with the moves of the queue but for their junction speeds. -/
def Axis.course (x : Axis) : (Int × Nat × Bool × Bool) × List Move := (x.fixed, x.queue.map fun w => { w with junction := 0 })

/-- The warden's state, which holds the configuration, and a part of every axis. -/
def ModuleState.onAxes {β : Type} (m : ModuleState) (g : Axis → β) : Warden × List β := (m.warden, m.axes.map g)

section

variable {β : Type} {g : Axis → β} {m n : ModuleState} {a : Nat}

/-- A part of an axis that does not exist is that of the default. -/
theorem ModuleState.axis_of_le (h : m.axes.length ≤ a) : m.axis a = {} := by
  simp [ModuleState.axis, List.getD_eq_getElem?_getD, h]

/-- An axis that is not as a missing one is in the list. -/
theorem ModuleState.axis_lt {b : β} (h : g (m.axis a) = b) (hb : g {} ≠ b) : a < m.axes.length := by
  by_contra hlt
  exact hb (m.axis_of_le (Nat.le_of_not_lt hlt) ▸ h)

/-- An axis of the list once it is changed. -/
theorem ModuleState.setAxis_axis (f : Axis → Axis) (h : a < m.axes.length) : (m.setAxis a f).axis a = f (m.axis a) :=
  upd_getD_self m.axes a f {} h

/-- What a change makes of an axis holds of it, when it holds of a missing one. -/
theorem ModuleState.setAxis_axis_of {P : Axis → Prop} {f : Axis → Axis} (h : P (f (m.axis a))) (h0 : P {}) : P ((m.setAxis a f).axis a) := by
  by_cases hlt : a < m.axes.length
  · rwa [m.setAxis_axis f hlt]
  · rwa [(m.setAxis a f).axis_of_le (by simpa using hlt)]

/-- A change that keeps a part of the axis keeps that part of every axis. -/
theorem ModuleState.setAxis_onAxes {f : Axis → Axis} (h : g (f (m.axis a)) = g (m.axis a) := by rfl) : (m.setAxis a f).onAxes g = m.onAxes g := by
  refine Prod.ext rfl (List.ext_getElem? fun i => ?_)
  simp only [ModuleState.onAxes, ModuleState.setAxis_axes, upd, List.getElem?_map, List.getElem?_modify]
  rcases eq_or_ne a i with rfl | hne
  · by_cases hlt : a < m.axes.length
    · simpa [ModuleState.axis, hlt] using h
    · simp [hlt]
  · simp [hne]

theorem ModuleState.setDrive_onAxes (f : Drive → Drive) : (m.setDrive a f).onAxes g = m.onAxes g := rfl
theorem ModuleState.logIf_onAxes (b : Bool) (code source : Nat) (items : List Int) : (m.logIf b code source items).onAxes g = m.onAxes g := rfl
theorem ModuleState.log_onAxes (code source : Nat) (items : List Int) : (m.log code source items).onAxes g = m.onAxes g := rfl

theorem ModuleState.saturated_onAxes (max before source opcode off : Nat) : (m.saturated max before source opcode off).onAxes g = m.onAxes g := rfl

theorem ModuleState.warden_of_onAxes (h : n.onAxes g = m.onAxes g) : n.warden = m.warden := congrArg Prod.fst h

theorem ModuleState.length_of_onAxes (h : n.onAxes g = m.onAxes g) : n.axes.length = m.axes.length := by
  simpa [ModuleState.onAxes] using congrArg (fun x => x.2.length) h

/-- A part that every axis keeps, each one keeps. -/
theorem ModuleState.axis_of_onAxes (h : n.onAxes g = m.onAxes g) : g (n.axis a) = g (m.axis a) := by
  have key : ∀ k : ModuleState, g (k.axis a) = (k.onAxes g).2.getD a (g {}) := fun k => by
    simp only [ModuleState.axis, ModuleState.onAxes, List.getD_eq_getElem?_getD, List.getElem?_map]
    cases k.axes[a]? <;> rfl
  rw [key, key, h]

theorem ModuleState.getElem?_of_onAxes (h : n.onAxes g = m.onAxes g) : n.axes[a]?.map g = m.axes[a]?.map g := by
  simpa [ModuleState.onAxes] using congrArg (fun x => x.2[a]?) h

/-- What holds of an axis of the list, said of the list. -/
theorem ModuleState.getElem?_of_axis {g' : Axis → β} (hl : n.axes.length = m.axes.length)
    (h : a < m.axes.length → g (n.axis a) = g' (m.axis a)) : n.axes[a]?.map g = m.axes[a]?.map g' := by
  by_cases hlt : a < m.axes.length
  · have hlt' : a < n.axes.length := hl ▸ hlt
    simpa [ModuleState.axis, hlt, hlt'] using h hlt
  · have hlt' : ¬ a < n.axes.length := hl ▸ hlt
    simp [hlt, hlt']

/-- A part that is told by another one. -/
theorem ModuleState.onAxes_comp {γ : Type} (k : β → γ) (h : n.onAxes g = m.onAxes g) : n.onAxes (k ∘ g) = m.onAxes (k ∘ g) := by
  have h2 : n.axes.map g = m.axes.map g := congrArg Prod.snd h
  refine Prod.ext (ModuleState.warden_of_onAxes h) ?_
  simp only [ModuleState.onAxes, ← List.map_map, h2]

theorem ModuleState.fixed_of_course (h : n.onAxes Axis.course = m.onAxes Axis.course) : n.onAxes Axis.fixed = m.onAxes Axis.fixed :=
  ModuleState.onAxes_comp Prod.fst h

end

/-! ### Junction speeds -/

theorem endSpeeds_length (l : List Leg) : (endSpeeds l).length = l.length := by
  induction l with
  | nil => rfl
  | cons x r ih =>
    cases r with
    | nil => rfl
    | cons y r => simp [endSpeeds, ih]

theorem reachable_length (l : List Leg) (us : List Rat) (v a : Rat) : (reachable v a l us).length = min l.length us.length := by
  induction l generalizing us v a with
  | nil => simp [reachable]
  | cons x r ih =>
    cases us with
    | nil => simp [reachable]
    | cons u us => simp [reachable, ih]

/-- Each move has its junction speed (R86). -/
theorem junctions_length (v a : Rat) (l : List Leg) : (junctions v a l).length = l.length := by
  simp [junctions, reachable_length, endSpeeds_length]

theorem ModuleState.legs_length (m : ModuleState) (a : Nat) (start : Rat) (slow : Option Nat) (l : List Move) :
    (m.legs a start slow l).length = l.length := by
  induction l generalizing start slow with
  | nil => rfl
  | cons v r ih => simp [ModuleState.legs, ih]

/-- Moves given junction speeds are the same moves otherwise. -/
theorem map_junction_zip {l : List Move} {js : List Rat} (h : js.length = l.length) :
    ((l.zip js).map fun (y : Move × Rat) => { y.1 with junction := y.2 }).map (fun w => { w with junction := 0 }) =
      l.map fun w => { w with junction := 0 } := by
  conv_rhs => rw [← List.map_fst_zip (l₁ := l) (l₂ := js) h.ge]
  simp

/-! ### Operations that issue no step -/

/-- No queued move ends where the axis stands. -/
def ModuleState.NoneDone (m : ModuleState) (a : Nat) : Prop := ∀ v ∈ (m.axis a).queue, m.moveEnd a v ≠ some (m.axis a).cmdPos

/-- What operations on an axis's moves leave when they issue no step: the fixed parts of every axis; and, while no queued move ends where the
axis stands, the queue, too. -/
structure ModuleState.Follows (m : ModuleState) (a : Nat) (n : ModuleState) : Prop where
  fixed : n.onAxes Axis.fixed = m.onAxes Axis.fixed
  course : m.NoneDone a → n.onAxes Axis.course = m.onAxes Axis.course

/-- Where a move ends depends on the configuration, and on whether the position is valid. -/
theorem ModuleState.moveEnd_congr {m n : ModuleState} {a : Nat} (h : n.onAxes Axis.posValid = m.onAxes Axis.posValid) (v : Move) :
    n.moveEnd a v = m.moveEnd a v := by
  simp [ModuleState.moveEnd, ModuleState.softLimits, ModuleState.softMax, ModuleState.softMin, ModuleState.cfg, ModuleState.cfgInt,
    ModuleState.warden_of_onAxes h, ModuleState.axis_of_onAxes h]

theorem ModuleState.noneDone_of_course {m n : ModuleState} {a : Nat} (h : n.onAxes Axis.course = m.onAxes Axis.course) (hm : m.NoneDone a) :
    n.NoneDone a := by
  intro v hv
  have hf := ModuleState.fixed_of_course h
  have hpos : (n.axis a).cmdPos = (m.axis a).cmdPos := congrArg Prod.fst (ModuleState.axis_of_onAxes hf)
  have hq : (n.axis a).queue.map _ = (m.axis a).queue.map _ := congrArg Prod.snd (ModuleState.axis_of_onAxes h)
  obtain ⟨w, hw, hwv⟩ := List.mem_map.mp (hq ▸ List.mem_map_of_mem hv)
  have hend : m.moveEnd a w = m.moveEnd a v :=
    show m.moveEnd a { w with junction := 0 } = m.moveEnd a { v with junction := 0 } from congrArg (m.moveEnd a) hwv
  rw [ModuleState.moveEnd_congr (ModuleState.onAxes_comp (fun y => y.2.2.1) hf), hpos, ← hend]
  exact hm w hw

/-- A queue whose head ends where the axis stands. -/
theorem ModuleState.not_noneDone {m : ModuleState} {a : Nat} {v : Move} {r : List Move} (hq : (m.axis a).queue = v :: r)
    (he : m.moveEnd a v = some (m.axis a).cmdPos) : ¬ m.NoneDone a :=
  fun h => h v (by simp [hq]) he

namespace ModuleState.Follows

variable {m n k : ModuleState} {a : Nat}

theorem of_course (h : n.onAxes Axis.course = m.onAxes Axis.course) : m.Follows a n := ⟨fixed_of_course h, fun _ => h⟩

theorem refl (m : ModuleState) (a : Nat) : m.Follows a m := of_course rfl

theorem trans (h : m.Follows a n) (g : n.Follows a k) : m.Follows a k where
  fixed := g.fixed.trans h.fixed
  course hm := (g.course (noneDone_of_course (h.course hm) hm)).trans (h.course hm)

theorem axis (h : m.Follows a n) {f : Axis → Axis} (hf : ∀ x, (f x).course = x.course := by intro; rfl) :
    m.Follows a (n.setAxis a f) :=
  h.trans (of_course (setAxis_onAxes (hf _)))

theorem drive (h : m.Follows a n) (f : Drive → Drive) : m.Follows a (n.setDrive a f) := h.trans (of_course rfl)

theorem ite {c : Prop} [Decidable c] (hn : c → m.Follows a n) (hk : ¬ c → m.Follows a k) : m.Follows a (if c then n else k) := by
  split
  · exact hn ‹_›
  · exact hk ‹_›

end ModuleState.Follows

section

variable (m : ModuleState) (a : Nat)

theorem ModuleState.joinQueue_follows (k : Plan) : m.Follows a (m.joinQueue a k) := by
  unfold ModuleState.joinQueue
  dsimp only
  split
  · exact .refl m a
  · exact .of_course (m.setAxis_onAxes (Prod.ext rfl (map_junction_zip (by rw [junctions_length, m.legs_length]))))

theorem ModuleState.plot_follows (k : Plan) (rest : Bool) : m.Follows a (m.plot a k rest) := by
  have hj := m.joinQueue_follows a k
  unfold ModuleState.plot
  dsimp only
  split
  · refine .ite (fun _ => hj.axis.axis) fun _ => ?_
    split
    · exact hj.axis.axis
    · exact hj.axis.axis
  · exact hj.axis.axis

theorem ModuleState.reload_follows (n : Nat) : m.Follows a (m.reload a n) := by
  unfold ModuleState.reload
  dsimp only
  split
  · split <;> exact (Follows.refl m a).axis
  · exact (Follows.refl m a).axis

theorem ModuleState.depart_follows (v : Move) : m.Follows a (m.depart a v) := by
  unfold ModuleState.depart
  dsimp only
  refine .ite (fun _ => .trans ?_ (ModuleState.reload_follows _ a 2)) fun _ => .axis ?_ <;>
    exact (Follows.refl m a).axis.axis.trans (ModuleState.plot_follows _ a _ true)

theorem ModuleState.energise_follows : m.Follows a (m.energise a) := .ite (fun _ => (Follows.refl m a).drive _) fun _ => .refl m a

theorem ModuleState.rest_follows : m.Follows a (m.rest a) := by
  unfold ModuleState.rest
  dsimp only
  split
  · exact ((Follows.refl m a).axis.drive _).drive _
  · exact (Follows.refl m a).axis.drive _

theorem ModuleState.completeMove_fixed : (m.completeMove a).onAxes Axis.fixed = m.onAxes Axis.fixed := by
  unfold ModuleState.completeMove
  dsimp only
  split
  · rfl
  · exact m.setAxis_onAxes

/-- A move is complete only when a queued one ends where the axis stands (R88). -/
theorem ModuleState.Follows.completeMove {m n : ModuleState} {a : Nat} (h : m.Follows a n) (hm : ¬ m.NoneDone a) : m.Follows a (n.completeMove a) :=
  ⟨(n.completeMove_fixed a).trans h.fixed, fun hd => absurd hd hm⟩

theorem ModuleState.skipDone_follows (n : Nat) : m.Follows a (m.skipDone a n) := by
  induction n generalizing m with
  | zero => exact .refl m a
  | succ n ih =>
    unfold ModuleState.skipDone
    split
    · exact .refl m a
    · next hq => exact .ite (fun he => ((Follows.refl m a).completeMove (not_noneDone hq he)).trans (ih _)) fun _ => .refl m a

theorem ModuleState.arrived_follows (p : Plan) : m.Follows a (m.arrived a p) := by
  unfold ModuleState.arrived ModuleState.travelOn
  dsimp only
  split
  · next v r _ hq =>
    have hturned := (Follows.refl m a).axis (f := fun x => { x with turning := false, bound := none, stopRate := (0, 0), cmdSpeed := 0, cmdAccel := 0 })
      fun _ => rfl
    refine .ite (fun _ => .ite (fun hw => .trans (.ite (fun hs => hturned.completeMove ?_) fun _ => hturned) (ModuleState.rest_follows _ a))
      fun _ => hturned.trans (ModuleState.plot_follows _ a _ _)) fun _ => .ite (fun he => ?_) fun _ => m.rest_follows a
    · obtain ⟨e, he⟩ := Option.isSome_iff_exists.mp hs
      rw [ModuleState.wayEnd, he, Option.getD_some] at hw
      exact not_noneDone hq (hw ▸ he)
    · have hdone := (Follows.refl m a).completeMove (not_noneDone hq he)
      exact .ite (fun _ => hdone.trans (ModuleState.plot_follows _ a _ _)) fun _ => hdone.trans (ModuleState.rest_follows _ a)
  · exact m.rest_follows a

theorem ModuleState.start_follows : m.Follows a (m.start a) := by
  unfold ModuleState.start
  dsimp only
  refine .ite (fun _ => .refl m a) fun _ => .ite (fun _ => .ite (fun _ => m.energise_follows a) fun _ => .refl m a) fun _ => ?_
  have hms : m.Follows a (if (m.axis a).cmdSpeed = 0 then m.skipDone a (m.axis a).queue.length else m) :=
    .ite (fun _ => m.skipDone_follows a _) fun _ => .refl m a
  generalize (if (m.axis a).cmdSpeed = 0 then m.skipDone a (m.axis a).queue.length else m) = ms at hms ⊢
  split
  · exact .ite (fun _ => hms.trans (ms.rest_follows a)) fun _ =>
      (hms.axis.axis.trans (ModuleState.plot_follows _ a _ _)).trans (ModuleState.reload_follows _ a 2)
  · have hm1 : m.Follows a (if (m.drive a).sluiceOrder &&& m.pinsOn a = m.pinsOn a then ms.setDrive a fun d => d.toMove m.vdrvPresent m.now
        else (ms.setDrive a fun d => d.toMove m.vdrvPresent m.now).energise a) :=
      .ite (fun _ => hms.drive _) fun _ => (hms.drive _).trans (ModuleState.energise_follows _ a)
    exact .ite (fun _ => hms) fun _ => .ite
      (fun _ => (hm1.axis.trans (ModuleState.plot_follows _ a _ _)).trans (ModuleState.reload_follows _ a 2))
      fun _ => .ite (fun _ => hm1) fun _ => hm1.trans (ModuleState.depart_follows _ a _)

theorem ModuleState.afterStep_follows : m.Follows a (m.afterStep a) := by
  unfold ModuleState.afterStep
  split
  · exact .ite (fun _ => m.arrived_follows a _) fun _ => .refl m a
  · exact .refl m a

theorem ModuleState.planAnew_follows : m.Follows a (m.planAnew a) := by
  have hplanned := (m.plot_follows a ((m.axis a).present m.now) false).trans (ModuleState.afterStep_follows _ a)
  exact .ite (fun _ => hplanned.trans (ModuleState.start_follows _ a)) fun _ => hplanned.trans (ModuleState.reload_follows _ a 2)

/-! ### Stops and marks -/

theorem ModuleState.flush_fixed (cause : Nat) : (m.flush a cause).onAxes Axis.fixed = m.onAxes Axis.fixed := m.setAxis_onAxes

theorem ModuleState.stopAxis_fixed (kind : StopKind) (cause : Nat) : (m.stopAxis a kind cause).onAxes Axis.fixed = m.onAxes Axis.fixed := by
  have hflush := m.flush_fixed a cause
  unfold ModuleState.stopAxis
  dsimp only
  split
  · split
    · exact (ModuleState.rest_follows _ a).fixed.trans hflush
    · exact .trans setAxis_onAxes hflush
  split
  · exact hflush
  · exact (ModuleState.planAnew_follows _ a).fixed.trans (.trans setAxis_onAxes hflush)

theorem ModuleState.slow_fixed (value : Nat) : (m.slow a value).onAxes Axis.fixed = m.onAxes Axis.fixed := by
  unfold ModuleState.slow
  dsimp only
  split_ifs
  · rfl
  · exact (ModuleState.planAnew_follows _ a).fixed.trans setAxis_onAxes
  · exact setAxis_onAxes

theorem offLoads_onAxes {β : Type} (g : Axis → β) : OffLoads fun m => m.onAxes g :=
  ⟨fun _ _ _ => rfl, fun _ _ => rfl, fun _ _ => rfl, fun _ _ => rfl⟩

theorem ModuleState.markAction_fixed (k : Mark) : (m.markAction a k).onAxes Axis.fixed = m.onAxes Axis.fixed := by
  unfold ModuleState.markAction
  split
  · rfl
  split
  · exact (offLoads_onAxes Axis.fixed).lsOrder ..
  · exact (offLoads_onAxes Axis.fixed).lsOrder ..
  · exact m.slow_fixed a _
  · exact m.stopAxis_fixed a _ _
  · rfl

theorem ModuleState.judgeMark_fixed (measured : Bool) (old new : Int) (i : Nat) :
    (m.judgeMark a measured old new i).onAxes Axis.fixed = m.onAxes Axis.fixed := by
  unfold ModuleState.judgeMark
  dsimp only
  split_ifs
  · rfl
  · exact ModuleState.markAction_fixed _ a _
  · rfl

theorem ModuleState.judgeMarks_fixed (measured : Bool) (old new : Int) :
    (m.judgeMarks a measured old new).onAxes Axis.fixed = m.onAxes Axis.fixed :=
  m.each_frame axisNums _ (fun m => m.onAxes Axis.fixed) fun m i => m.judgeMark_fixed a measured old new i

end
end Sys2Proof.Machine
end

section
/-! Step timing (R96 to R103): what a step does to its axis, and the rows of the step timer and of the rate multiplier. -/

namespace Sys2Proof.Machine

variable {s : State} {t a : Nat} {i : Instr}

/-! ### Rows of an axis -/

/-- A row of an axis the module can have gives what its effect makes of the module at that instant. -/
theorem gives_of_axis {f : ModuleState → ModuleState} {m' : ModuleState} (ha : a < 8) (he : exec i s = happen (a < 8) t f s)
    (hf : f (s.then t) = m') : Gives i s m' :=
  gives_of_happen (he.trans (by simp [ha])) hf

/-! ### A step -/

section

variable {m : ModuleState} {p : Plan}

/-- The increment of a step depends on the configuration and the axis's resolution. -/
theorem ModuleState.setAxis_stepInc {f : Axis → Axis} (h : (f (m.axis a)).res = (m.axis a).res) : (m.setAxis a f).stepInc a = m.stepInc a := by
  have hres : ((m.setAxis a f).axis a).res = (m.axis a).res := by
    by_cases hlt : a < m.axes.length
    · rw [m.setAxis_axis f hlt, h]
    · rw [m.axis_of_le (Nat.le_of_not_lt hlt), ModuleState.axis_of_le (by simpa using hlt)]
  simp only [ModuleState.stepInc, hres]
  rfl

/-- A trajectory belongs to an axis of the list. -/
theorem ModuleState.lt_of_plan (hp : (m.axis a).plan = some p) : a < m.axes.length := ModuleState.axis_lt (g := Axis.plan) hp nofun

/-- The commanded position after the next step: an increment further in the direction of travel, not past the end of the trajectory (R96). -/
def ModuleState.nextPos (m : ModuleState) (a : Nat) (p : Plan) : Int :=
  wrap32 ((m.axis a).cmdPos + p.dir * (min (m.stepInc a) (m.axis a).left : Nat))

/-- A step advances the commanded position, and is counted (R96, R100). -/
theorem ModuleState.issueStep_fixed (hp : (m.axis a).plan = some p) :
    ((m.issueStep a).axis a).fixed = (m.nextPos a p, ((m.axis a).stepCount + 1) % 2 ^ 32, (m.axis a).posValid, (m.axis a).clamped) := by
  unfold ModuleState.issueStep
  extract_lets x
  split
  · next hnone => exact nomatch hnone.symm.trans hp
  next q hq =>
  obtain rfl : q = p := Option.some.inj (hq.symm.trans hp)
  extract_lets d pos turn m1 m2 m3
  have hm1 : m1.axis a = _ := m.setAxis_axis _ (ModuleState.lt_of_plan hp)
  have hm2 : m2.onAxes Axis.fixed = m1.onAxes Axis.fixed := m1.judgeMarks_fixed a false _ pos
  clear_value m2
  have hm3 : m3.onAxes Axis.fixed = m2.onAxes Axis.fixed := ModuleState.setAxis_onAxes
  rw [ModuleState.axis_of_onAxes (m3.afterStep_follows a).fixed, ModuleState.axis_of_onAxes hm3, ModuleState.axis_of_onAxes hm2, hm1]
  rfl

/-- The step of an interval that has run (R96, R98). -/
theorem ModuleState.timerStep_fixed (hp : (m.axis a).plan = some p) (i : Nat) :
    ((m.timerStep a i).axis a).fixed = (m.nextPos a p, ((m.axis a).stepCount + 1) % 2 ^ 32, (m.axis a).posValid, (m.axis a).clamped) := by
  have hx := m.setAxis_axis (fun x => { x with stepAt := x.stepAt + 5 * i, stepTime := x.stepTime + i }) (ModuleState.lt_of_plan hp)
  have hstep := ModuleState.issueStep_fixed ((congrArg Axis.plan hx).trans hp)
  rwa [ModuleState.nextPos, ModuleState.setAxis_stepInc rfl, hx] at hstep

end

/-! ### Faults and replanning -/

section

variable (m : ModuleState) (a : Nat)

theorem ModuleState.fallBack_fixed (cause : Nat) : (m.fallBack a cause).onAxes Axis.fixed = m.onAxes Axis.fixed := by
  unfold ModuleState.fallBack
  dsimp only
  rw [ModuleState.log_onAxes]
  split
  · rw [ModuleState.saturated_onAxes]
    exact setAxis_onAxes
  · exact setAxis_onAxes

/-- A timer fault with an empty buffer is counted, and the multiplier takes over (R101). -/
theorem ModuleState.fallBack_fault {cause : Nat} (h : (cause != 3) = true) :
    ((m.fallBack a cause).axes[a]?.map fun y => (y.path, y.fallbacks)) = m.axes[a]?.map fun y => (StepPath.fallback, sat max16 y.fallbacks) := by
  simp [ModuleState.fallBack, h, upd, Function.comp_def]

theorem ModuleState.replanned_fixed : (m.replanned a).onAxes Axis.fixed = m.onAxes Axis.fixed := by
  unfold ModuleState.replanned
  dsimp only
  split
  · rfl
  · rw [ModuleState.log_onAxes, (ModuleState.reload_follows _ a 2).fixed, (ModuleState.plot_follows _ a _ _).fixed, ModuleState.saturated_onAxes]
    exact setAxis_onAxes

theorem ModuleState.commanded_fixed : (m.commanded a).onAxes Axis.fixed = m.onAxes Axis.fixed := by
  unfold ModuleState.commanded
  split
  · exact setAxis_onAxes
  · rfl

theorem ModuleState.tellLost_axes : (m.tellLost a).axes = m.axes := by
  unfold ModuleState.tellLost
  split <;> rfl

theorem ModuleState.tellFault_axes : (m.tellFault a).axes = m.axes := by
  unfold ModuleState.tellFault
  split
  · rfl
  split <;> rfl

/-- A position declared not valid: the step path and the queue are as before (R166). -/
theorem ModuleState.unvalid_axis : ((m.unvalid a).axis a).path = (m.axis a).path ∧ ((m.unvalid a).axis a).posValid = false ∧
    ((m.unvalid a).axis a).queue = (m.axis a).queue := by
  unfold ModuleState.unvalid
  split
  · next h =>
    have hx := m.setAxis_axis (fun x => { x with posValid := false, lost := true }) (ModuleState.axis_lt (g := Axis.posValid) h nofun)
    simp only [ModuleState.axis, ModuleState.tellLost_axes] at hx ⊢
    rw [hx]
    exact ⟨rfl, rfl, rfl⟩
  · next h => exact ⟨rfl, Bool.not_eq_true _ ▸ h, rfl⟩

/-- Steps that the sequencer did not receive leave no step path (R103). -/
theorem ModuleState.pathLost_axis {p : Plan} (hp : (m.axis a).plan = some p) (cause : Nat) :
    ((m.pathLost a cause).axis a).path = .none ∧ ((m.pathLost a cause).axis a).posValid = false ∧ ((m.pathLost a cause).axis a).queue = [] := by
  have hx := m.setAxis_axis (fun x => { x.halt m.now with path := .none }) (ModuleState.lt_of_plan hp)
  obtain ⟨hpath, hvalid, hqueue⟩ := ((m.setAxis a fun x => { x.halt m.now with path := .none }).bridgeOff a).unvalid_axis a
  have hlost : (m.pathLost a cause).axis a = (((m.setAxis a fun x => { x.halt m.now with path := .none }).bridgeOff a).unvalid a).axis a :=
    congrArg (fun l : List Axis => l.getD a {}) (ModuleState.tellFault_axes _ a)
  rw [hlost, hpath, hvalid, hqueue]
  exact ⟨congrArg Axis.path hx, rfl, congrArg Axis.queue hx⟩

end

/-! ### The step timer -/

/-- The module once an interval has run with nothing of it left: a step, and what comes after it. -/
def ModuleState.timerEnds (m : ModuleState) (a i : Nat) (fed counted : Bool) : ModuleState :=
  let m1 := m.timerStep a i
  let y := m1.axis a
  let m2 := m1.setAxis a fun y => { y with phaseAcc := 0, phaseAt := m.now }
  if !counted then (if y.plan.isNone then (m2.fallBack a 2).start a else m2.fallBack a 2)
  else if y.plan.isNone then m2.start a
  else if y.replanAt.isSome then m2
  else if (m.axis a).intervals.isEmpty then m1.fallBack a 0
  else m2.reload a (if fed then 2 else (m.axis a).intervals.length - 1)

section

variable {m : ModuleState} {i : Nat} (fed : Bool) (hplan : ((m.timerStep a i).axis a).plan.isSome)
include hplan

/-- With travel under way the running interval and the buffer are loaded from the trajectory (R97). -/
theorem ModuleState.timerEnds_reloads (hreplan : ((m.timerStep a i).axis a).replanAt = none) (hbuf : (m.axis a).intervals ≠ []) :
    m.timerEnds a i fed true = ((m.timerStep a i).setAxis a fun y => { y with phaseAcc := 0, phaseAt := m.now }).reload a
      (if fed then 2 else (m.axis a).intervals.length - 1) := by
  simp only [ModuleState.timerEnds, Option.isNone_eq_false_iff.mpr hplan, hreplan, List.isEmpty_eq_false_iff.mpr hbuf, Option.isSome_none,
    Bool.not_true, Bool.false_eq_true, if_false]

/-- While the engine replans, the timer repeats its last interval (R107). -/
theorem ModuleState.timerEnds_repeats (hreplan : ((m.timerStep a i).axis a).replanAt.isSome) :
    m.timerEnds a i fed true = (m.timerStep a i).setAxis a fun y => { y with phaseAcc := 0, phaseAt := m.now } := by
  simp only [ModuleState.timerEnds, Option.isNone_eq_false_iff.mpr hplan, hreplan, Bool.not_true, Bool.false_eq_true, if_false, if_true]

/-- With travel under way and an empty buffer the multiplier takes over (R101). -/
theorem ModuleState.timerEnds_faults (hreplan : ((m.timerStep a i).axis a).replanAt = none) (hbuf : (m.axis a).intervals = []) :
    m.timerEnds a i fed true = (m.timerStep a i).fallBack a 0 := by
  simp only [ModuleState.timerEnds, Option.isNone_eq_false_iff.mpr hplan, hreplan, hbuf, List.isEmpty_nil, Option.isSome_none, Bool.not_true,
    Bool.false_eq_true, if_false, if_true]

end

/-- Nothing after the step of an interval moves the axis. -/
theorem ModuleState.timerEnds_fixed (m : ModuleState) (a i : Nat) (fed counted : Bool) :
    (m.timerEnds a i fed counted).onAxes Axis.fixed = (m.timerStep a i).onAxes Axis.fixed := by
  unfold ModuleState.timerEnds
  extract_lets m1 y m2
  have hm2 : m2.onAxes Axis.fixed = m1.onAxes Axis.fixed := setAxis_onAxes
  split
  · split
    · rw [(ModuleState.start_follows _ a).fixed, ModuleState.fallBack_fixed, hm2]
    · rw [ModuleState.fallBack_fixed, hm2]
  split
  · rw [(ModuleState.start_follows _ a).fixed, hm2]
  split
  · exact hm2
  split
  · exact m1.fallBack_fixed a 0
  · rw [(ModuleState.reload_follows _ a _).fixed, hm2]

section

variable {i : Nat} (ha : a < 8) (hr : (s.then t).runs (axisIsland a)) (hi : ((s.then t).axis a).interval = some i)
  (hpath : ((s.then t).axis a).path = .timer) (hdue : ((s.then t).axis a).stepAt + 5 * i ≤ (s.then t).now)
include ha hr hi hpath hdue

/-- An interval that has run is followed by what is left of it beyond 32 bits (R98). -/
theorem stepTimerExpiry_rest (fed counted : Bool) (hrest : 0 < ((s.then t).axis a).intervalRest) :
    Gives (.stepTimerExpiry t a fed counted) s ((s.then t).setAxis a fun x =>
      { x with interval := some (intervalPart x.intervalRest), intervalRest := x.intervalRest - intervalPart x.intervalRest, stepAt := x.stepAt + 5 * i,
               stepTime := x.stepTime + i }) := by
  refine gives_of_axis ha rfl ?_
  simp only [hi, hpath, hr, hrest, ModuleState.due, hdue, ne_eq, not_true_eq_false, decide_true, Bool.not_true, Bool.false_eq_true, or_self, if_false,
    if_true]

/-- An interval that has run with nothing left ends in a step (R96, R98). -/
theorem stepTimerExpiry_ends (fed counted : Bool) (hrest : ((s.then t).axis a).intervalRest = 0) :
    Gives (.stepTimerExpiry t a fed counted) s ((s.then t).timerEnds a i fed counted) := by
  refine gives_of_axis ha rfl ?_
  simp only [hi, hpath, hr, hrest, ModuleState.due, hdue, ne_eq, not_true_eq_false, decide_true, Bool.not_true, Bool.false_eq_true, or_self, if_false,
    Nat.lt_irrefl]
  rfl

end

/-! ### The rate multiplier -/

/-- The accumulator run through the 1 000 clocks of 20 µs (R99). -/
def ModuleState.accumulated (m : ModuleState) (a : Nat) : ModuleState := m.setAxis a fun x =>
  { x with phaseAcc := ((m.axis a).phaseAcc + 1000 * (m.axis a).increment) % 2 ^ 48, phaseAt := x.phaseAt + 20000 }

/-- The module once a multiplier that drives has run for 20 µs: a step for each carry, and the increment loaded anew (R99, R101). -/
def ModuleState.multiplied (m : ModuleState) (a : Nat) : ModuleState :=
  let m1 := (m.accumulated a).issueSteps a (((m.axis a).phaseAcc + 1000 * (m.axis a).increment) / 2 ^ 48)
  if (m1.axis a).plan.isNone then m1.start a
  else
    let m2 := (m1.replanned a).commanded a
    m2.setAxis a fun x => { x with increment := incrementOf (m2.stepRate a + m2.behind a * 50000) }

/-- Nothing after the steps of the carries moves the axis. -/
theorem ModuleState.multiplied_fixed (m : ModuleState) (a : Nat) : (m.multiplied a).onAxes Axis.fixed =
    ((m.accumulated a).issueSteps a (((m.axis a).phaseAcc + 1000 * (m.axis a).increment) / 2 ^ 48)).onAxes Axis.fixed := by
  unfold ModuleState.multiplied
  extract_lets m1
  split
  · exact (m1.start_follows a).fixed
  · exact .trans ModuleState.setAxis_onAxes ((ModuleState.commanded_fixed _ a).trans (m1.replanned_fixed a))

section

variable {m : ModuleState} {p : Plan} (hp : (m.axis a).plan = some p)
include hp

theorem ModuleState.accumulated_axis : (m.accumulated a).axis a = { m.axis a with
    phaseAcc := ((m.axis a).phaseAcc + 1000 * (m.axis a).increment) % 2 ^ 48, phaseAt := (m.axis a).phaseAt + 20000 } :=
  m.setAxis_axis _ (ModuleState.lt_of_plan hp)

/-- Without a carry the accumulator runs on, and the axis stays where it is. -/
theorem ModuleState.multiplied_noCarry (hsum : (m.axis a).phaseAcc + 1000 * (m.axis a).increment < 2 ^ 48) (hreplan : (m.axis a).replanAt = none) :
    ((m.multiplied a).axis a).cmdPos = (m.axis a).cmdPos ∧
      ((m.multiplied a).axis a).phaseAcc = (m.axis a).phaseAcc + 1000 * (m.axis a).increment ∧
      ((m.multiplied a).axis a).phaseAt = (m.axis a).phaseAt + 20000 := by
  have hx := ModuleState.accumulated_axis hp
  have hkept : (m.multiplied a).onAxes (fun x => (x.cmdPos, x.phaseAcc, x.phaseAt)) =
      (m.accumulated a).onAxes fun x => (x.cmdPos, x.phaseAcc, x.phaseAt) := by
    unfold ModuleState.multiplied
    simp only [Nat.div_eq_of_lt hsum, ModuleState.issueSteps, hx, hp, ModuleState.replanned, hreplan, Option.isNone_some, Option.isNone_none,
      Bool.false_eq_true, if_false, if_true]
    refine .trans ModuleState.setAxis_onAxes ?_
    unfold ModuleState.commanded
    split
    · exact ModuleState.setAxis_onAxes
    · rfl
  have heq := ModuleState.axis_of_onAxes (a := a) hkept
  simp only [hx, Prod.mk.injEq, Nat.mod_eq_of_lt hsum] at heq
  exact heq

/-- A carry is one step. -/
theorem ModuleState.multiplied_carry (hsum : ((m.axis a).phaseAcc + 1000 * (m.axis a).increment) / 2 ^ 48 = 1) :
    ((m.multiplied a).axis a).cmdPos = m.nextPos a p := by
  have hx := ModuleState.accumulated_axis hp
  have hstep := ModuleState.issueStep_fixed ((congrArg Axis.plan hx).trans hp)
  have hone : (m.accumulated a).issueSteps a 1 = (m.accumulated a).issueStep a := by
    simp only [ModuleState.issueSteps, hx, hp, Option.isSome_some, if_true]
  have hfixed := ModuleState.axis_of_onAxes (a := a) (m.multiplied_fixed a)
  rw [hsum, hone, hstep, ModuleState.nextPos, hx, ModuleState.accumulated, ModuleState.setAxis_stepInc rfl] at hfixed
  exact congrArg Prod.fst hfixed

end

section

variable (ha : a < 8) (hr : (s.then t).runs (axisIsland a))
include ha hr

/-- In shadow the multiplier takes the increment of the planned step rate (R99, R101). -/
theorem fallbackIncrementLoad_shadow (counted : Bool) (hpath : ((s.then t).axis a).path = .timer) (hreplan : ((s.then t).axis a).replanAt = none) :
    Gives (.fallbackIncrementLoad t a counted) s (((s.then t).commanded a).setAxis a fun y =>
      { y with phaseAcc := y.phaseNow (s.then t).now, phaseAt := (s.then t).now, increment := incrementOf (((s.then t).commanded a).stepRate a) }) := by
  refine gives_of_axis ha rfl ?_
  simp only [hr, hpath, ModuleState.replanned, hreplan, Bool.not_true, Bool.false_eq_true, if_false, Option.isNone_none, if_true]

variable {p : Plan} (hpath : ((s.then t).axis a).path = .fallback) (hpause : ((s.then t).axis a).pausedAt = none)
  (hp : ((s.then t).axis a).plan = some p)
include hpath hpause hp

/-- Steps the sequencer did not receive leave no path (R103). -/
theorem fallbackIncrementLoad_lost : Gives (.fallbackIncrementLoad t a false) s ((s.then t).pathLost a 2) := by
  refine gives_of_axis ha rfl ?_
  simp only [hr, hpath, hp, hpause, Bool.not_true, Bool.not_false, Bool.false_eq_true, if_false, Option.isNone_some, Option.isSome_none, Bool.or_self,
    if_true]

/-- Driving, the multiplier runs for the 20 µs that have passed (R99, R101). -/
theorem fallbackIncrementLoad_drives (hdue : ((s.then t).axis a).phaseAt + 20000 ≤ (s.then t).now) :
    Gives (.fallbackIncrementLoad t a true) s ((s.then t).multiplied a) := by
  refine gives_of_axis ha rfl ?_
  simp only [hr, hpath, hp, hpause, ModuleState.due, hdue, decide_true, Bool.not_true, Bool.false_eq_true, if_false, Option.isNone_some,
    Option.isSome_none, Bool.or_self]
  rfl

end

/-- An axis at rest on the multiplier returns to the timer when its self-test passes (R102). -/
theorem stepTimerRestore_passes (ha : a < 8) (hr : (s.then t).runs (axisIsland a)) (hpath : ((s.then t).axis a).path = .fallback)
    (hrest : ((s.then t).axis a).moving = false) (hkept : (s.then t).keptOnFallback a = false) :
    Gives (.stepTimerRestore t a true) s
      (((s.then t).setAxis a fun x => { x with path := .timer }).log evStepTimerRestored (tgAxis a) [(a : Int), ((s.then t).faultsHour a : Int)]) := by
  refine gives_of_axis ha rfl ?_
  simp only [hr, hpath, hrest, hkept, beq_self_eq_true, Bool.not_false, Bool.and_self, if_true]

/-- Settles O23: a row of the timer is the step of its interval, a row of the multiplier the steps of its carries, and nothing after a step moves
the axis. -/
theorem stepRowsRun : Obligations.StepRowsRun := by
  intro s t a p ha hr m x onward
  refine ⟨fun i fed counted hp hi hpath hdue hrest => ?_, fun i fed counted hi hpath hdue hrest => ?_,
    fun i fed hi hpath hdue hrest hplan hreplan hbuf => ?_, fun i fed hi hpath hdue hrest hplan hreplan => ?_,
    fun i fed hi hpath hdue hrest hplan hreplan hbuf => ?_, fun counted hpath hreplan => ?_, fun hpath hpause hp hdue hsum hreplan => ?_,
    fun hpath hpause hp hdue hsum => ?_, fun hpath hpause hp => ?_, fun hpath hrest hkept => ?_⟩
  · have hfixed := (ModuleState.axis_of_onAxes (m.timerEnds_fixed a i fed counted)).trans (ModuleState.timerStep_fixed hp i)
    exact ⟨_, stepTimerExpiry_ends ha hr hi hpath hdue fed counted hrest, congrArg Prod.fst hfixed, congrArg (fun y => y.2.1) hfixed⟩
  · exact stepTimerExpiry_rest ha hr hi hpath hdue fed counted hrest
  · rw [← ModuleState.timerEnds_reloads fed hplan hreplan hbuf]
    exact stepTimerExpiry_ends ha hr hi hpath hdue fed true hrest
  · rw [← ModuleState.timerEnds_repeats fed hplan hreplan]
    exact stepTimerExpiry_ends ha hr hi hpath hdue fed true hrest
  · refine ⟨_, stepTimerExpiry_ends ha hr hi hpath hdue fed true hrest, ?_⟩
    rw [ModuleState.timerEnds_faults fed hplan hreplan hbuf]
    exact ModuleState.fallBack_fault _ a rfl
  · exact fallbackIncrementLoad_shadow ha hr counted hpath hreplan
  · exact ⟨_, fallbackIncrementLoad_drives ha hr hpath hpause hp hdue, ModuleState.multiplied_noCarry hp hsum hreplan⟩
  · exact ⟨_, fallbackIncrementLoad_drives ha hr hpath hpause hp hdue, ModuleState.multiplied_carry hp hsum⟩
  · exact ⟨_, fallbackIncrementLoad_lost ha hr hpath hpause hp, m.pathLost_axis a hp 2⟩
  · exact stepTimerRestore_passes ha hr hpath hrest hkept

end Sys2Proof.Machine
end

section
/-! Edges of the feedback inputs and the position they count (R157 to R166): a part of the module that motion, load channels, feedback and portals
leave alone is as it was once the edges due are accepted; and what a redefinition of the position gives. -/

namespace Sys2Proof.Machine

/-- A part of the module that accepted edges leave alone. -/
structure OffEdges {β : Type} (π : ModuleState → β) : Prop extends OffMotion π, OffLoads π where
  fb : ∀ m a f, π (m.setFb a f) = π m
  portal : ∀ m p f, π (m.setPortal p f) = π m

section

variable {β : Type} {π : ModuleState → β} (h : OffEdges π) (m : ModuleState) (a : Nat)
include h

theorem OffEdges.log (code source : Nat) (items : List Int) : π (m.log code source items) = π m := h.toOffMotion.comm _ _

theorem OffEdges.logIf (b : Bool) (code source : Nat) (items : List Int) : π (m.logIf b code source items) = π m := h.toOffMotion.comm _ _

theorem OffEdges.tellLost : π (m.tellLost a) = π m := by
  unfold ModuleState.tellLost
  split
  · exact h.portal _ _ _
  · rfl

theorem OffEdges.invalidate (cause : Nat) : π (m.invalidate a cause) = π m := by
  simp [ModuleState.invalidate, ModuleState.unvalid, apply_ite π, h.logIf, h.tellLost, h.axis]

theorem OffEdges.slow (value : Nat) : π (m.slow a value) = π m := by
  simp [ModuleState.slow, apply_ite π, h.toOffMotion.planAnew, h.axis]

theorem OffEdges.markAction (k : Mark) : π (m.markAction a k) = π m := by
  unfold ModuleState.markAction
  split
  · rfl
  split <;> simp [h.toOffLoads.lsOrder, h.slow, h.toOffMotion.stopAxis]

theorem OffEdges.judgeMark (measured : Bool) (old new : Int) (i : Nat) : π (m.judgeMark a measured old new i) = π m := by
  simp [ModuleState.judgeMark, apply_ite π, h.logIf, h.markAction, h.fb]

theorem OffEdges.judgeMarks (measured : Bool) (old new : Int) : π (m.judgeMarks a measured old new) = π m :=
  m.each_frame axisNums _ π fun m i => h.judgeMark m a measured old new i

theorem OffEdges.moved (old : Int) (at_ : Nat) : π (m.moved a old at_) = π m := by simp [ModuleState.moved, h.judgeMarks, h.fb]

theorem OffEdges.edgeFault (n : Nat) : π (m.edgeFault a n) = π m := by
  simp [ModuleState.edgeFault, apply_ite π, h.invalidate, h.logIf, h.fb]

theorem OffEdges.count' (n : Int) (at_ : Nat) : π (m.count' a n at_) = π m := by
  simp [ModuleState.count', apply_ite π, h.moved, h.logIf, h.fb]

theorem OffEdges.toothEdge (at_ : Nat) (aim : Option Bool) : π (m.toothEdge a at_ aim) = π m := by
  unfold ModuleState.toothEdge
  dsimp only
  cases aim <;> simp [apply_ite π, h.invalidate, h.edgeFault, h.count', h.log, h.fb]

theorem OffEdges.latchEdge (index : Bool) (input : Nat) (rising : Bool) (at_ : Nat) (stamp : Nat × Nat) (i : Nat) :
    π (m.latchEdge a index input rising at_ stamp i) = π m := by
  unfold ModuleState.latchEdge
  generalize (m.fb a).latches.getD i {} = l, m.posAtStamp a at_ = pos
  dsimp only
  split
  · rfl
  obtain ⟨state⟩ := l
  cases state with
  | armed => cases pos <;> simp [h.logIf, h.fb]
  | captured => simp [ModuleState.saturated, h.logIf, h.fb]
  | idle | stale => rfl

theorem OffEdges.latchEdges (index : Bool) (input : Nat) (rising : Bool) (at_ : Nat) (stamp : Nat × Nat) :
    π (m.latchEdges a index input rising at_ stamp) = π m := by
  simp [ModuleState.latchEdges, h.latchEdge]

theorem OffEdges.edgeActs (e : HeldEdge) : π (m.edgeActs a e) = π m := by
  simp [ModuleState.edgeActs, apply_ite π, h.latchEdges, h.toothEdge, h.edgeFault, h.count', h.fb]

theorem OffEdges.acceptEdges : π (m.acceptEdges a) = π m :=
  (ModuleState.each_frame _ _ _ π fun m e => h.edgeActs m a e).trans (h.fb _ _ _)

end

theorem offEdges_warden : OffEdges ModuleState.warden where
  axis _ _ _ := rfl
  drive _ _ _ := rfl
  comm _ _ := rfl
  load _ _ _ := rfl
  loads _ _ := rfl
  free _ _ := rfl
  fb _ _ _ := rfl
  portal _ _ _ := rfl

theorem offEdges_axes_length : OffEdges fun m => m.axes.length where
  axis _ _ _ := upd_length ..
  drive _ _ _ := rfl
  comm _ _ := rfl
  load _ _ _ := rfl
  loads _ _ := rfl
  free _ _ := rfl
  fb _ _ _ := rfl
  portal _ _ _ := rfl

theorem offEdges_feedback_length : OffEdges fun m => m.feedback.length where
  axis _ _ _ := rfl
  drive _ _ _ := rfl
  comm _ _ := rfl
  load _ _ _ := rfl
  loads _ _ := rfl
  free _ _ := rfl
  fb _ _ _ := upd_length ..
  portal _ _ _ := rfl

/-! ### What the configuration says -/

section

variable {m n : ModuleState} (h : n.warden = m.warden)
include h

theorem ModuleState.cfg_congr : n.cfg = m.cfg := by
  funext off k
  rw [ModuleState.cfg, h, ModuleState.cfg]

theorem ModuleState.source_congr (a : Nat) : n.source a = m.source a := congrFun₂ (ModuleState.cfg_congr h) _ _

theorem ModuleState.hasFb_congr (a : Nat) : n.hasFb a = m.hasFb a := by
  rw [ModuleState.hasFb, ModuleState.source_congr h, ModuleState.hasFb]

theorem ModuleState.portalByte_congr : n.portalByte = m.portalByte := by
  funext p off
  rw [ModuleState.portalByte, ModuleState.cfg_congr h, ModuleState.portalByte]

theorem ModuleState.axisOwner_congr (a : Nat) : n.axisOwner a = m.axisOwner a := by
  have henabled : n.enabled = m.enabled := by
    funext p
    rw [ModuleState.enabled, ModuleState.portalByte_congr h, ModuleState.enabled]
  have hdoor : n.doorAxis = m.doorAxis := by
    funext p
    rw [ModuleState.doorAxis, ModuleState.portalByte_congr h, ModuleState.doorAxis]
  have hstep : n.stepAxis = m.stepAxis := by
    funext p
    rw [ModuleState.stepAxis, ModuleState.portalByte_congr h, ModuleState.stepAxis]
  rw [ModuleState.axisOwner, ModuleState.enabledPortals, henabled, hdoor, hstep]
  rfl

end

/-! ### The position redefined -/

section

variable {m : ModuleState} {a : Nat}

/-- The commanded position takes the value, and is valid (R111, R165). -/
theorem ModuleState.redefine_axis (pos : Int) (h : a < m.axes.length) :
    (((m.redefine a pos).axis a).cmdPos, ((m.redefine a pos).axis a).posValid) = (pos, true) := by
  unfold ModuleState.redefine
  rw [ModuleState.setAxis_axis]
  split
  · exact h
  · exact h

theorem ModuleState.redefine_length (pos : Int) : (m.redefine a pos).axes.length = m.axes.length := by
  unfold ModuleState.redefine
  split <;> exact upd_length ..

/-- OFFSET takes up the difference; what is counted is as before (R165). -/
theorem ModuleState.redefine_fb (pos : Int) (hfb : m.hasFb a) (hlt : a < m.feedback.length) :
    ((m.redefine a pos).fb a).offset = (m.fb a).offset + (pos - m.measured a) ∧ ((m.redefine a pos).fb a).ext = (m.fb a).ext ∧
      ((m.redefine a pos).fb a).counter = (m.fb a).counter := by
  have hfbs : (m.redefine a pos).feedback = (m.setOffset a pos).feedback := by
    rw [ModuleState.redefine, if_pos hfb]
    rfl
  simp only [ModuleState.fb, hfbs, ModuleState.setOffset, ModuleState.setFb_feedback, upd_getD_self _ _ _ _ hlt, and_self]

/-- The measured position of an axis with a counted feedback takes the value, too (R165). -/
theorem ModuleState.redefine_measured (pos : Int) (hfb : m.hasFb a) (hsource : m.source a ≠ 3) (hlt : a < m.feedback.length) :
    (m.redefine a pos).measured a = pos := by
  obtain ⟨hoffset, hext, hcounter⟩ := ModuleState.redefine_fb pos hfb hlt
  have hconfig : (m.redefine a pos).warden = m.warden := by
    rw [ModuleState.redefine, if_pos hfb]
    rfl
  have hcount : (m.redefine a pos).countC a = m.countC a := by
    unfold ModuleState.countC ModuleState.modulo
    dsimp only
    rw [ModuleState.source_congr hconfig, ModuleState.cfg_congr hconfig, hext, hcounter]
  have hnew : (m.redefine a pos).measured a = (m.redefine a pos).countPos a := if_neg (ModuleState.source_congr hconfig a ▸ hsource)
  have hold : m.measured a = m.countPos a := if_neg hsource
  rw [hold] at hoffset
  rw [hnew]
  simp only [ModuleState.countPos, hcount, hoffset, ModuleState.posNum, ModuleState.posDen, ModuleState.cfg, ModuleState.cfgInt, hconfig]
  omega

end

/-! ### AXIS_SET_POSITION and AXIS_STEP_PATH -/

section

variable {m : ModuleState} {c : Cmd}

/-- A motion command to an axis that no portal owns is not refused (R79). -/
theorem ModuleState.axisTaken_host {a : Nat} (ho : m.axisOwner a = 0) (role : Option Role) : m.axisTaken a role = false := by
  simp [ModuleState.axisTaken, ho]

/-- AXIS_SET_POSITION of an axis at rest, once the edges due are counted (R111). -/
theorem axisSetPositionBody_atRest (harm : m.reset.armed) (hown : m.axisOwner c.idx = 0) (hrest : ((m.acceptEdges c.idx).axis c.idx).moving = false)
    (hqueue : ((m.acceptEdges c.idx).axis c.idx).queue = []) : axisSetPositionBody c m =
      { acts := if m.source c.idx = 3 then [axisChannel c.idx, .recd] else [axisChannel c.idx]
        m := (m.acceptEdges c.idx).redefine c.idx (getI c.data 0 4) } := by
  have harm' : (m.acceptEdges c.idx).reset.armed = true := (ModuleState.reset_of_base (m.acceptEdges_base c.idx)) ▸ harm
  have hconfig : (m.acceptEdges c.idx).warden = m.warden := offEdges_warden.acceptEdges m c.idx
  have hown' : (m.acceptEdges c.idx).axisTaken c.idx c.role = false :=
    ModuleState.axisTaken_host ((ModuleState.axisOwner_congr hconfig _).trans hown) c.role
  simp only [axisSetPositionBody, harm', hown', hrest, hqueue, ModuleState.source_congr hconfig, List.isEmpty_nil, Bool.not_true, Bool.or_self,
    Bool.false_eq_true, if_false]

/-- AXIS_STEP_PATH to the fallback (R112). -/
theorem axisStepPathBody_fallback (harm : m.reset.armed) (hown : m.axisOwner c.idx = 0) (hrest : (m.axis c.idx).moving = false)
    (hpath : (m.axis c.idx).path ≠ .none) (hb : getN c.data 0 1 = 1) :
    axisStepPathBody c m = { acts := [axisChannel c.idx], m := m.fallBack c.idx 3 } := by
  simp only [axisStepPathBody, harm, ModuleState.axisTaken_host hown, hrest, beq_eq_false_iff_ne.mpr hpath, hb, Bool.not_true, Bool.false_eq_true,
    if_false, if_true]

/-- An axis on the timer that is put on the timer is as it was. -/
theorem ModuleState.setAxis_timer {a : Nat} (h : (m.axis a).path = .timer) : (m.setAxis a fun x => { x with path := .timer }) = m := by
  have hl : upd m.axes a (fun x => { x with path := .timer }) = m.axes := by
    refine List.ext_getElem? fun i => ?_
    rw [upd, List.getElem?_modify]
    rcases eq_or_ne a i with rfl | hne
    · by_cases hlt : a < m.axes.length
      · have hx : m.axis a = m.axes[a] := by simp [ModuleState.axis, hlt]
        simp [hlt, ← hx, ← h]
      · simp [hlt]
    · simp [hne]
  rw [ModuleState.setAxis, hl]

/-- What AXIS_STEP_PATH to the timer does: its self-test fails, or the axis is on the timer (R112). -/
def ModuleState.toTimer (m : ModuleState) (a : Nat) : Result :=
  if Config.freeValue m.free % 2 = 1 ∨ m.keptOnFallback a then { status := stStepPathFault, m := { m with free := m.free + 1 } }
  else
    { acts := [axisChannel a]
      m := if (m.axis a).path = .timer then { m with free := m.free + 1 }
        else (({ m with free := m.free + 1 }).setAxis a fun x => { x with path := .timer }).log evStepTimerRestored (tgAxis a)
          [(a : Int), (m.faultsHour a : Int)] }

theorem ModuleState.toTimer_refused {a : Nat} (h : 0x8000 ≤ (m.toTimer a).status) : (m.toTimer a).acts = [] ∧ (m.toTimer a).wait = false := by
  by_cases hfail : Config.freeValue m.free % 2 = 1 ∨ m.keptOnFallback a
  · simp [ModuleState.toTimer, hfail]
  · exact absurd h (by simp [ModuleState.toTimer, hfail])

/-- AXIS_STEP_PATH to the timer (R112). -/
theorem axisStepPathBody_timer (harm : m.reset.armed) (hown : m.axisOwner c.idx = 0) (hrest : (m.axis c.idx).moving = false)
    (hpath : (m.axis c.idx).path ≠ .none) (hb : getN c.data 0 1 = 0) : axisStepPathBody c m = m.toTimer c.idx := by
  simp only [axisStepPathBody, harm, ModuleState.axisTaken_host hown, hrest, beq_eq_false_iff_ne.mpr hpath, hb, Bool.not_true, Bool.false_eq_true,
    if_false, ModuleState.toTimer, refuse, Nat.zero_ne_one]
  refine if_congr Iff.rfl rfl ?_
  cases hp : (m.axis c.idx).path with
  | none => exact absurd hp hpath
  | timer =>
    have hsame : ({ m with free := m.free + 1 } : ModuleState).setAxis c.idx (fun x => { x with path := .timer }) = { m with free := m.free + 1 } :=
      ModuleState.setAxis_timer hp
    rw [hsame]
    rfl
  | fallback => rfl

end

end Sys2Proof.Machine
end

section
/-! Stops and moves commanded (R84 to R95, R110): a stop flushes the queue and brings the axis to rest; a move joins the queue, takes its place, or is
complete at once. -/

namespace Sys2Proof.Machine

section

variable {m : ModuleState} {a : Nat}

/-! ### Rest -/

theorem Axis.moving_eq_false {x : Axis} : x.moving = false ↔ x.plan = none ∧ x.interval = none ∧ x.cmdSpeed = 0 ∧ x.stopping = none := by
  simp [Axis.moving, and_assoc]

/-- An axis that has come to rest does not move. -/
theorem ModuleState.rest_moving : ((m.rest a).axis a).moving = false := by
  unfold ModuleState.rest
  dsimp only
  split <;> exact ModuleState.setAxis_axis_of (P := fun x => x.moving = false) rfl rfl

/-- Coming to rest leaves the queue, the position and the last move done alone. -/
theorem ModuleState.rest_onAxes : (m.rest a).onAxes (fun x => (x.queue, x.cmdPos, x.doneId)) = m.onAxes fun x => (x.queue, x.cmdPos, x.doneId) := by
  unfold ModuleState.rest
  dsimp only
  split
  · rw [ModuleState.bridgeOff, ModuleState.setDrive_onAxes, ModuleState.newMove, ModuleState.setDrive_onAxes]
    exact ModuleState.setAxis_onAxes
  · rw [ModuleState.newMove, ModuleState.setDrive_onAxes]
    exact ModuleState.setAxis_onAxes

/-- A stop in progress is not interrupted by a start. -/
theorem ModuleState.start_of_stopping (h : (m.axis a).stopping.isSome) : m.start a = m := by
  simp [ModuleState.start, h]

/-- An axis at rest without a move stays at rest. -/
theorem ModuleState.start_of_empty (hq : (m.axis a).queue = []) (hs : (m.axis a).cmdSpeed = 0) : m.start a = m := by
  simp [ModuleState.start, hq, hs]

theorem ModuleState.noneDone_of_empty (h : (m.axis a).queue = []) : m.NoneDone a := by simp [ModuleState.NoneDone, h]

/-- An empty queue stays empty. -/
theorem ModuleState.Follows.queue_nil {n : ModuleState} (h : m.Follows a n) (hq : (m.axis a).queue = []) : (n.axis a).queue = [] := by
  have hr : (n.axis a).queue.map _ = (m.axis a).queue.map _ :=
    congrArg Prod.snd (ModuleState.axis_of_onAxes (h.course (ModuleState.noneDone_of_empty hq)))
  rw [hq] at hr
  exact List.map_eq_nil_iff.mp hr

/-! ### Stops -/

/-- The stop in progress and its rates. -/
def Axis.stop (x : Axis) : Option StopKind × Nat × Nat := (x.stopping, x.stopRate)

/-- A stop planned stays the stop it is. -/
theorem ModuleState.plot_stop (hs : (m.axis a).stopping.isSome) (k : Plan) (rest : Bool) :
    (m.plot a k rest).onAxes Axis.stop = m.onAxes Axis.stop := by
  have hj : (m.joinQueue a k).onAxes Axis.stop = m.onAxes Axis.stop := by
    unfold ModuleState.joinQueue
    dsimp only
    split
    · rfl
    · exact ModuleState.setAxis_onAxes
  have hsj : ((m.joinQueue a k).axis a).stopping = (m.axis a).stopping := congrArg Prod.fst (ModuleState.axis_of_onAxes hj)
  unfold ModuleState.plot
  dsimp only
  split
  · next hnone _ => simp [← hsj, hnone] at hs
  · exact .trans ModuleState.setAxis_onAxes (.trans ModuleState.setAxis_onAxes hj)

theorem ModuleState.reload_stop (n : Nat) : (m.reload a n).onAxes Axis.stop = m.onAxes Axis.stop := by
  unfold ModuleState.reload
  dsimp only
  split
  · split <;> exact ModuleState.setAxis_onAxes
  · exact ModuleState.setAxis_onAxes

/-- A stop that has reached its end is at rest (R95). -/
theorem ModuleState.afterStep_stopping (hs : (m.axis a).stopping.isSome) : m.afterStep a = m.rest a ∨ m.afterStep a = m := by
  obtain ⟨kind, hkind⟩ := Option.isSome_iff_exists.mp hs
  unfold ModuleState.afterStep
  split
  · split
    · exact .inl (by simp only [ModuleState.arrived, hkind])
    · exact .inr rfl
  · exact .inr rfl

/-- A stop planned either ends at once, at rest, or is under way. -/
theorem ModuleState.planAnew_stopping (hs : (m.axis a).stopping.isSome) (hq : (m.axis a).queue = []) :
    ((m.planAnew a).axis a).moving = false ∨ ((m.planAnew a).axis a).stop = (m.axis a).stop := by
  have hfollows := m.plot_follows a ((m.axis a).present m.now) false
  have hstop := ModuleState.axis_of_onAxes (a := a) (ModuleState.plot_stop hs ((m.axis a).present m.now) false)
  unfold ModuleState.planAnew
  dsimp only
  generalize m.plot a ((m.axis a).present m.now) false = n at hfollows hstop
  have hsn : (n.axis a).stopping.isSome := by
    rw [show (n.axis a).stopping = (m.axis a).stopping from congrArg Prod.fst hstop]
    exact hs
  rcases ModuleState.afterStep_stopping hsn with hrest | hsame
  · have hqr := (n.rest_follows a).queue_nil (hfollows.queue_nil hq)
    obtain ⟨hplan, -, hspeed, -⟩ := Axis.moving_eq_false.mp (n.rest_moving (a := a))
    rw [hrest, hplan, Option.isNone_none, if_pos rfl, ModuleState.start_of_empty hqr hspeed]
    exact .inl n.rest_moving
  · rw [hsame]
    split
    · rw [ModuleState.start_of_stopping hsn]
      exact .inr hstop
    · exact .inr ((ModuleState.axis_of_onAxes (ModuleState.reload_stop 2)).trans hstop)

theorem ModuleState.flush_queue (cause : Nat) : ((m.flush a cause).axis a).queue = [] :=
  ModuleState.setAxis_axis_of (P := fun x => x.queue = []) rfl rfl

theorem ModuleState.flush_moving (cause : Nat) : ((m.flush a cause).axis a).moving = (m.axis a).moving :=
  ModuleState.axis_of_onAxes (g := Axis.moving) (ModuleState.setAxis_onAxes (m := m) (a := a))

/-- A stop leaves no move in the queue (R95). -/
theorem ModuleState.stopAxis_queue (kind : StopKind) (cause : Nat) : ((m.stopAxis a kind cause).axis a).queue = [] := by
  have hq := m.flush_queue (a := a) cause
  unfold ModuleState.stopAxis
  dsimp only
  split
  · split
    · exact (ModuleState.rest_follows _ a).queue_nil hq
    · exact ModuleState.setAxis_axis_of (P := fun x => x.queue = []) hq rfl
  split
  · exact hq
  · exact (ModuleState.planAnew_follows _ a).queue_nil (ModuleState.setAxis_axis_of (P := fun x => x.queue = []) hq rfl)

/-- An axis at rest stays at rest. -/
theorem ModuleState.stopAxis_atRest (kind : StopKind) (cause : Nat) (h : (m.axis a).moving = false) :
    ((m.stopAxis a kind cause).axis a).moving = false := by
  simp only [ModuleState.stopAxis, h, Bool.not_false, if_true]
  split
  · exact ModuleState.rest_moving
  · exact ModuleState.setAxis_axis_of (P := fun x => x.moving = false) ((m.flush_moving cause).trans h) rfl

/-- A moving axis that is not stopping yet is at rest, or stopping under the rates of the stop (R95). -/
theorem ModuleState.stopAxis_moving (kind : StopKind) (cause : Nat) (hp : (m.axis a).plan.isSome) (hs : (m.axis a).stopping = none) :
    ((m.stopAxis a kind cause).axis a).moving = false ∨ (((m.stopAxis a kind cause).axis a).stopping = some kind ∧
      (kind = .quick → ((m.stopAxis a kind cause).axis a).stopRate = (m.quickDecel a, 0))) := by
  have hlt : a < m.axes.length := ModuleState.axis_lt (g := fun x => x.plan.isSome) hp nofun
  have hlt' : a < (m.flush a cause).axes.length := by
    rw [ModuleState.length_of_onAxes (m.flush_fixed a cause)]
    exact hlt
  have hmoving : (m.axis a).moving = true := by simp [Axis.moving, hp]
  simp only [ModuleState.stopAxis, hmoving, hs, Option.isNone_eq_false_iff.mpr hp, Option.isSome_none, Bool.not_true, Bool.false_and, Bool.or_self,
    Bool.false_eq_true, if_false]
  generalize hn : ((m.flush a cause).setAxis a fun x => { x with
    stopping := some kind, turning := false
    stopRate := if kind = .quick then (m.quickDecel a, 0) else if x.stopRate.1 = 0 then (m.maxDecel a, m.maxJerk a) else x.stopRate }) = n
  have hx := congrArg (fun k : ModuleState => k.axis a) hn
  rw [ModuleState.setAxis_axis _ hlt'] at hx
  have hkind : (n.axis a).stopping = some kind := (congrArg Axis.stopping hx).symm
  have hqn : (n.axis a).queue = [] := (congrArg Axis.queue hx).symm.trans (m.flush_queue cause)
  refine (ModuleState.planAnew_stopping (by simp [hkind]) hqn).imp_right fun hstop => ?_
  obtain ⟨hst, hrate⟩ := Prod.mk.inj hstop
  refine ⟨hst.trans hkind, fun hquick => hrate.trans ((congrArg Axis.stopRate hx).symm.trans ?_)⟩
  simp [hquick]

/-- AXIS_STOP of an axis of the host (R95). -/
theorem axisStopBody_host {c : Cmd} (hown : m.axisOwner c.idx = 0) (hbridge : (m.drive c.idx).bridge ≠ .latched) :
    axisStopBody c m = { acts := [axisChannel c.idx], m := m.stopAxis c.idx (if getN c.data 0 1 = 1 then .quick else .decel) 1 } := by
  have htaken : m.axisTaken c.idx c.role = false := ModuleState.axisTaken_host hown c.role
  simp only [axisStopBody, htaken, beq_eq_false_iff_ne.mpr hbridge, Bool.false_eq_true, if_false]

end
end Sys2Proof.Machine
end

section
/-! Moves commanded (R84 to R92, R110): what AXIS_MOVE makes of one move, and the queue it leaves. -/

namespace Sys2Proof.Machine

section

variable {m : ModuleState} {a : Nat}

/-! ### Moves that join a queue -/

theorem ModuleState.append_fixed (l : List Move) : (m.append a l).onAxes Axis.fixed = m.onAxes Axis.fixed := setAxis_onAxes

/-- Moves that end elsewhere, joined to a queue of such moves. -/
theorem ModuleState.append_noneDone {l : List Move} (h : m.NoneDone a) (hl : ∀ v ∈ l, m.moveEnd a v ≠ some (m.axis a).cmdPos) :
    (m.append a l).NoneDone a := by
  have hf := m.append_fixed (a := a) l
  have hpos : ((m.append a l).axis a).cmdPos = (m.axis a).cmdPos := congrArg Prod.fst (ModuleState.axis_of_onAxes hf)
  intro v hv
  rw [ModuleState.moveEnd_congr (ModuleState.onAxes_comp (fun y => y.2.2.1) hf), hpos]
  have hmem : v ∈ (m.axis a).queue ++ l :=
    ModuleState.setAxis_axis_of (P := fun x => v ∈ x.queue → v ∈ (m.axis a).queue ++ l) id nofun hv
  rcases List.mem_append.mp hmem with hold | hnew
  · exact h v hold
  · exact hl v hnew

/-- Moves queued join the queue (R84, R86). -/
theorem ModuleState.queueMoves_follows (l : List Move) : (m.append a l).Follows a (m.queueMoves a l) := by
  refine .ite (fun _ => ModuleState.start_follows _ a) fun _ => ?_
  have hjoined := (m.append a l).joinQueue_follows a (((m.append a l).axis a).present m.now)
  exact .ite (fun _ => hjoined) fun _ => hjoined.trans (ModuleState.planAnew_follows _ a)

/-- Of a stopping axis they only wait (R95). -/
theorem ModuleState.queueMoves_stopping (l : List Move) (h : (m.axis a).stopping.isSome) : m.queueMoves a l = m.append a l := by
  have hs : ((m.append a l).axis a).stopping = (m.axis a).stopping := ModuleState.axis_of_onAxes (g := Axis.stopping) (setAxis_onAxes (m := m) (a := a))
  simp only [ModuleState.queueMoves, hs, h, Bool.or_true, if_true]
  exact ModuleState.start_of_stopping (hs ▸ h)

/-- An axis whose queue has been flushed for moves that replace it (R90). -/
def ModuleState.cleared (m : ModuleState) (a cause : Nat) : ModuleState :=
  (m.flush a cause).setAxis a fun x => { x with stopping := none, turning := false, offAtRest := false }

theorem ModuleState.cleared_queue (cause : Nat) : ((m.cleared a cause).axis a).queue = [] :=
  ModuleState.setAxis_axis_of (P := fun x => x.queue = []) (m.flush_queue cause) rfl

theorem ModuleState.cleared_fixed (cause : Nat) : (m.cleared a cause).onAxes Axis.fixed = m.onAxes Axis.fixed :=
  .trans setAxis_onAxes (m.flush_fixed a cause)

/-- Moves in place of the queue stand in the queue flushed (R90). -/
theorem ModuleState.replaceBy_follows (cause : Nat) (l : List Move) : ((m.cleared a cause).append a l).Follows a (m.replaceBy a cause l) := by
  refine .ite (fun _ => ModuleState.start_follows _ a) fun _ => .trans ?_ (ModuleState.planAnew_follows _ a)
  exact .axis (.drive (.refl _ a) _)

/-! ### A move that is complete at once -/

/-- The move at the head of the queue is complete: its ID is the last done, and the queue goes on with the next (R88). -/
theorem ModuleState.completeMove_axis {v : Move} {r : List Move} (hq : (m.axis a).queue = v :: r) :
    (((m.completeMove a).axis a).queue, ((m.completeMove a).axis a).cmdPos, ((m.completeMove a).axis a).doneId) = (r, (m.axis a).cmdPos, v.id) := by
  have hlt : a < m.axes.length := ModuleState.axis_lt (g := Axis.queue) hq nofun
  unfold ModuleState.completeMove
  dsimp only
  split
  · next hnil => exact nomatch hnil.symm.trans hq
  · next w rest hcons =>
    obtain ⟨rfl, rfl⟩ := List.cons.inj (hcons.symm.trans hq)
    exact congrArg (fun x : Axis => (x.queue, x.cmdPos, x.doneId)) (m.setAxis_axis _ hlt)

/-- An axis at rest whose one move ends where it stands completes it and stays at rest (R88). -/
theorem ModuleState.start_completes {v : Move} (hq : (m.axis a).queue = [v]) (he : m.moveEnd a v = some (m.axis a).cmdPos)
    (hrest : (m.axis a).moving = false) (hpause : (m.axis a).pausedAt = none) (hpath : (m.axis a).path ≠ .none)
    (hval : (m.drive a).validatingAt = none) (hlatch : (m.drive a).bridge ≠ .latched) (hbrake : (m.drive a).bridge ≠ .braking)
    (hwait : (m.drive a).awaitVal = false) (hduty : m.notOnDuty = false) : m.start a = (m.completeMove a).rest a := by
  obtain ⟨hplan, -, hspeed, hstop⟩ := Axis.moving_eq_false.mp hrest
  have hempty : ((m.completeMove a).axis a).queue = [] := congrArg Prod.fst (ModuleState.completeMove_axis hq)
  have hskip : m.skipDone a 1 = m.completeMove a := by simp only [ModuleState.skipDone, hq, he, if_true]
  simp only [ModuleState.start, hq, hspeed, hplan, hstop, hpause, hval, hwait, hduty, beq_eq_false_iff_ne.mpr hpath, beq_eq_false_iff_ne.mpr hlatch,
    beq_eq_false_iff_ne.mpr hbrake, List.isEmpty_cons, Option.isSome_none, Bool.false_and, Bool.and_false, Bool.or_self, Bool.false_eq_true, if_false,
    if_true, List.length_singleton, hskip, hempty]

/-! ### AXIS_MOVE of one move -/

/-- The module before a move joins its queue: CLAMPED is known, and a queue that is replaced is flushed (R84, R90, R92). -/
def ModuleState.staged (m : ModuleState) (a : Nat) (first clamped : Bool) : ModuleState :=
  let m1 := (m.setAxis a fun x => { x with clamped := false }).setAxis a fun x => { x with clamped }
  if first then m1.cleared a 0 else m1

/-- What AXIS_MOVE of one move does to the module. -/
def ModuleState.moveTo (m : ModuleState) (a : Nat) (first clamped : Bool) (v : Move) : ModuleState :=
  let m1 := (m.setAxis a fun x => { x with clamped := false }).setAxis a fun x => { x with clamped }
  if first then m1.replaceBy a 0 [v] else m1.queueMoves a [v]

/-- Where an axis stands, whether that is valid, its pause and its step path. -/
def Axis.place (x : Axis) : Int × Bool × Option Nat × StepPath := (x.cmdPos, x.posValid, x.pausedAt, x.path)

theorem OffMotion.staged {β : Type} {π : ModuleState → β} (h : OffMotion π) (m : ModuleState) (a : Nat) (first clamped : Bool) :
    π (m.staged a first clamped) = π m := by
  have hnoted : π ((m.setAxis a fun x => { x with clamped := false }).setAxis a fun x => { x with clamped }) = π m :=
    (h.axis _ _ _).trans (h.axis _ _ _)
  cases first
  · exact hnoted
  · exact (h.axis _ _ _).trans ((h.flush _ _ _).trans hnoted)

theorem offMotion_notOnDuty : OffMotion ModuleState.notOnDuty := ⟨fun _ _ _ => rfl, fun _ _ _ => rfl, fun _ _ => rfl⟩

theorem ModuleState.staged_drives (m : ModuleState) (a : Nat) (first clamped : Bool) : (m.staged a first clamped).drives = m.drives := by
  cases first <;> rfl

theorem ModuleState.staged_place (first clamped : Bool) : (m.staged a first clamped).onAxes Axis.place = m.onAxes Axis.place := by
  have hnoted : ((m.setAxis a fun x => { x with clamped := false }).setAxis a fun x => { x with clamped }).onAxes Axis.place = m.onAxes Axis.place :=
    .trans setAxis_onAxes setAxis_onAxes
  cases first
  · exact hnoted
  · refine .trans setAxis_onAxes (.trans ?_ hnoted)
    rw [ModuleState.flush, ModuleState.logIf_onAxes]
    exact setAxis_onAxes

theorem ModuleState.staged_queue (first clamped : Bool) : ((m.staged a first clamped).axis a).queue = if first then [] else (m.axis a).queue := by
  cases first
  · exact ModuleState.axis_of_onAxes (g := Axis.queue) (.trans setAxis_onAxes setAxis_onAxes)
  · exact ModuleState.cleared_queue 0

theorem ModuleState.staged_clamped (first clamped : Bool) (h : a < m.axes.length) : ((m.staged a first clamped).axis a).clamped = clamped := by
  have hnoted : (((m.setAxis a fun x => { x with clamped := false }).setAxis a fun x => { x with clamped }).axis a).clamped = clamped := by
    rw [ModuleState.setAxis_axis _ (by simpa using h)]
  cases first
  · exact hnoted
  · exact (congrArg (fun y => y.2.2.2) (ModuleState.axis_of_onAxes (ModuleState.cleared_fixed 0))).trans hnoted

theorem ModuleState.staged_moving (first clamped : Bool) (h : (m.axis a).moving = false) : ((m.staged a first clamped).axis a).moving = false := by
  have hnoted : (((m.setAxis a fun x => { x with clamped := false }).setAxis a fun x => { x with clamped }).axis a).moving = false :=
    (ModuleState.axis_of_onAxes (g := Axis.moving) (.trans setAxis_onAxes setAxis_onAxes)).trans h
  cases first
  · exact hnoted
  · obtain ⟨hplan, hinterval, hspeed, -⟩ := Axis.moving_eq_false.mp ((ModuleState.flush_moving 0).trans hnoted)
    exact ModuleState.setAxis_axis_of (P := fun x => x.moving = false) (Axis.moving_eq_false.mpr ⟨hplan, hinterval, hspeed, rfl⟩) rfl

theorem ModuleState.moveTo_follows (first clamped : Bool) (v : Move) :
    ((m.staged a first clamped).append a [v]).Follows a (m.moveTo a first clamped v) := by
  cases first
  · exact ModuleState.queueMoves_follows [v]
  · exact ModuleState.replaceBy_follows 0 [v]

/-- A move of an ABSOLUTE or RELATIVE target ends there. -/
theorem ModuleState.moveEnd_target {v : Move} (h : v.mode ≠ .velocity) : m.moveEnd a v = some v.target := by
  unfold ModuleState.moveEnd
  split
  · next hv => exact absurd hv h
  · rfl

/-- A move that ends elsewhere stands in the queue, after the moves it does not replace; of a stopping axis every one does (R84, R90, R95). -/
theorem ModuleState.moveTo_queue {first : Bool} {v : Move} (clamped : Bool) (hv : v.mode ≠ .velocity)
    (h : (first = false ∧ (m.axis a).stopping.isSome) ∨
      (v.target ≠ (m.axis a).cmdPos ∧ ∀ w ∈ (m.axis a).queue, m.moveEnd a w ≠ some (m.axis a).cmdPos)) :
    (m.moveTo a first clamped v).onAxes Axis.course = ((m.staged a first clamped).append a [v]).onAxes Axis.course := by
  rcases h with ⟨rfl, hstop⟩ | ⟨hv', hold⟩
  · have hs : (((m.setAxis a fun x => { x with clamped := false }).setAxis a fun x => { x with clamped }).axis a).stopping = (m.axis a).stopping :=
      ModuleState.axis_of_onAxes (g := Axis.stopping) (.trans setAxis_onAxes setAxis_onAxes)
    exact congrArg (fun k : ModuleState => k.onAxes Axis.course) (ModuleState.queueMoves_stopping [v] (hs ▸ hstop))
  · have hplace := ModuleState.staged_place (m := m) (a := a) first clamped
    have hpos : ((m.staged a first clamped).axis a).cmdPos = (m.axis a).cmdPos := congrArg Prod.fst (ModuleState.axis_of_onAxes hplace)
    refine (ModuleState.moveTo_follows first clamped v).course (ModuleState.append_noneDone (fun w hw => ?_) fun w hw => ?_)
    · rw [ModuleState.moveEnd_congr (ModuleState.onAxes_comp (fun y => y.2.1) hplace), hpos]
      rw [ModuleState.staged_queue] at hw
      cases first
      · exact hold w hw
      · exact nomatch hw
    · obtain rfl := List.mem_singleton.mp hw
      rw [ModuleState.moveEnd_target hv, hpos]
      exact fun heq => hv' (Option.some.inj heq)

/-- The queue, the position and CLAMPED after such a move. -/
theorem ModuleState.staged_append_axes (first clamped : Bool) (v : Move) :
    (((m.staged a first clamped).append a [v]).axes[a]?.map fun x => (x.queue, x.cmdPos, x.clamped)) =
      m.axes[a]?.map fun x => ((if first then [] else x.queue) ++ [v], x.cmdPos, clamped) := by
  have hplace := ModuleState.staged_place (m := m) (a := a) first clamped
  have hlen : ((m.staged a first clamped).append a [v]).axes.length = m.axes.length :=
    (upd_length ..).trans (ModuleState.length_of_onAxes hplace)
  refine ModuleState.getElem?_of_axis hlen fun hlt => ?_
  rw [ModuleState.append, ModuleState.setAxis_axis _ ((ModuleState.length_of_onAxes hplace).symm ▸ hlt)]
  simp only [ModuleState.staged_queue, ModuleState.staged_clamped first clamped hlt,
    show ((m.staged a first clamped).axis a).cmdPos = (m.axis a).cmdPos from congrArg Prod.fst (ModuleState.axis_of_onAxes hplace)]

/-- The same without the junction speeds, which the queue gets anew: what AXIS_MOVE leaves of its axis. -/
theorem ModuleState.moveTo_axes {first : Bool} {v : Move} (clamped : Bool) (hv : v.mode ≠ .velocity)
    (h : (first = false ∧ (m.axis a).stopping.isSome) ∨
      (v.target ≠ (m.axis a).cmdPos ∧ ∀ w ∈ (m.axis a).queue, m.moveEnd a w ≠ some (m.axis a).cmdPos)) :
    ((m.moveTo a first clamped v).axes[a]?.map fun x => (x.queue.map fun (w : Move) => { w with junction := 0 }, x.cmdPos, x.clamped)) =
      m.axes[a]?.map fun x => ((((if first then [] else x.queue) ++ [v]).map fun (w : Move) => { w with junction := 0 }), x.cmdPos, clamped) := by
  have hcourse := congrArg (Option.map fun y => (y.2, y.1.1, y.1.2.2.2))
    (ModuleState.getElem?_of_onAxes (a := a) (ModuleState.moveTo_queue clamped hv h))
  have hstaged := congrArg (Option.map fun y => (y.1.map fun (w : Move) => { w with junction := 0 }, y.2))
    (ModuleState.staged_append_axes (m := m) (a := a) first clamped v)
  rw [Option.map_map, Option.map_map] at hcourse hstaged
  exact hcourse.trans hstaged

/-- A move queued for an axis without a trajectory starts it (R83). -/
theorem ModuleState.moveTo_start (first clamped : Bool) (v : Move) (hplan : (m.axis a).plan = none) :
    m.moveTo a first clamped v = ((m.staged a first clamped).append a [v]).start a := by
  have hnoted : (((m.setAxis a fun x => { x with clamped := false }).setAxis a fun x => { x with clamped }).axis a).plan = none :=
    (ModuleState.axis_of_onAxes (g := Axis.plan) (.trans setAxis_onAxes setAxis_onAxes)).trans hplan
  cases first
  · have happend : ((((m.setAxis a fun x => { x with clamped := false }).setAxis a fun x => { x with clamped }).append a [v]).axis a).plan = none :=
      (ModuleState.axis_of_onAxes (g := Axis.plan) setAxis_onAxes).trans hnoted
    simp only [ModuleState.moveTo, ModuleState.staged, ModuleState.queueMoves, happend, Option.isNone_none, Bool.true_or, Bool.false_eq_true, if_false,
      if_true]
  · simp only [ModuleState.moveTo, ModuleState.staged, ModuleState.replaceBy, ModuleState.cleared, hnoted, Option.isNone_none, if_true]

/-- Of an idle axis a move that ends where the axis stands is complete at once (R88). -/
theorem ModuleState.moveTo_completes {first : Bool} {v : Move} (clamped : Bool) (hv : v.mode ≠ .velocity) (htarget : v.target = (m.axis a).cmdPos)
    (hq : (m.axis a).queue = []) (hrest : (m.axis a).moving = false) (hpause : (m.axis a).pausedAt = none) (hpath : (m.axis a).path ≠ .none)
    (hval : (m.drive a).validatingAt = none) (hlatch : (m.drive a).bridge ≠ .latched) (hbrake : (m.drive a).bridge ≠ .braking)
    (hwait : (m.drive a).awaitVal = false) (hduty : m.notOnDuty = false) :
    ((m.moveTo a first clamped v).axes[a]?.map fun x => (x.queue, x.cmdPos, x.doneId)) = m.axes[a]?.map fun x => ([], x.cmdPos, v.id) := by
  have hplace := ModuleState.staged_place (m := m) (a := a) first clamped
  have hlen : ((m.staged a first clamped).append a [v]).axes.length = m.axes.length :=
    (upd_length ..).trans (ModuleState.length_of_onAxes hplace)
  refine ModuleState.getElem?_of_axis
    ((ModuleState.length_of_onAxes (ModuleState.moveTo_follows first clamped v).fixed).trans hlen) fun hlt => ?_
  have hx := (m.staged a first clamped).setAxis_axis (fun x => { x with queue := x.queue ++ [v] })
    ((ModuleState.length_of_onAxes hplace).symm ▸ hlt)
  have hqueue : (((m.staged a first clamped).append a [v]).axis a).queue = [v] := by
    refine (congrArg Axis.queue hx).trans ?_
    simp [ModuleState.staged_queue, hq]
  have hmoving : (((m.staged a first clamped).append a [v]).axis a).moving = false :=
    (congrArg Axis.moving hx).trans (ModuleState.staged_moving first clamped hrest)
  obtain ⟨hpos, -, hpause', hpath'⟩ : _ ∧ _ ∧ _ ∧ _ := by
    simpa only [Axis.place, Prod.mk.injEq] using (congrArg Axis.place hx).trans (ModuleState.axis_of_onAxes hplace)
  have hdrive : ((m.staged a first clamped).append a [v]).drive a = m.drive a :=
    congrArg (fun l : List Drive => l.getD a {}) (m.staged_drives a first clamped)
  have hduty' : ((m.staged a first clamped).append a [v]).notOnDuty = false :=
    (offMotion_notOnDuty.axis _ a _).trans ((offMotion_notOnDuty.staged m a first clamped).trans hduty)
  rw [ModuleState.moveTo_start first clamped v (Axis.moving_eq_false.mp hrest).1, ModuleState.start_completes hqueue
    (by rw [ModuleState.moveEnd_target hv, htarget]; exact congrArg some hpos.symm) hmoving (hpause'.trans hpause) (hpath'.trans_ne hpath)
    (hdrive ▸ hval) (hdrive ▸ hlatch) (hdrive ▸ hbrake) (hdrive ▸ hwait) hduty']
  refine (ModuleState.axis_of_onAxes ModuleState.rest_onAxes).trans ((ModuleState.completeMove_axis hqueue).trans ?_)
  exact congrArg (fun y => ([], y, v.id)) hpos

end
end Sys2Proof.Machine
end

section
/-! The motion commands (R84 to R112): the result each command's own conditions give, and with it the row's effect. -/

namespace Sys2Proof.Machine

section

variable {m : ModuleState} {a : Nat} {c : Cmd}

/-- One move in a packet is one piece of 32 bytes. -/
theorem chunks_single {b : List Byte} (h : b.length = 32) : chunks 32 b = [b] := by
  have hone : b.length / 32 = 1 := by omega
  simp [chunks, hone, List.take_of_length_le h.le]

/-- MODE 0 is ABSOLUTE, MODE 1 RELATIVE (Table 8). -/
theorem ModuleState.readMove_mode {b : List Byte} (h : getN b 0 1 ≤ 1) :
    (m.readMove a b).mode = if getN b 0 1 = 1 then .relative else .absolute := by
  obtain h0 | h1 : getN b 0 1 = 0 ∨ getN b 0 1 = 1 := by omega
  · simp [ModuleState.readMove, h0]
  · simp [ModuleState.readMove, h1]

theorem ModuleState.readMove_not_velocity {b : List Byte} (h : getN b 0 1 ≤ 1) : (m.readMove a b).mode ≠ .velocity := by
  rw [ModuleState.readMove_mode h]
  split <;> nofun

/-- The target a move asks for: counted from where the axis stands or from where its queue ends, or absolute (R85). -/
def ModuleState.rawTarget (m : ModuleState) (a : Nat) (b : List Byte) : Int :=
  if getN b 0 1 = 1 then (if bit (getN b 1 1) 0 then (m.axis a).cmdPos else m.lastEnd a) + getI b 4 4 else getI b 4 4

/-- The target it is given within the soft limits (R92). -/
def ModuleState.aimFor (m : ModuleState) (a : Nat) (raw : Int) : Int :=
  if m.softLimits a then max (m.softMin a) (min (m.softMax a) raw) else raw

theorem ModuleState.aimFor_congr {n : ModuleState} (h : n.onAxes Axis.posValid = m.onAxes Axis.posValid) (raw : Int) :
    n.aimFor a raw = m.aimFor a raw := by
  simp [ModuleState.aimFor, ModuleState.softLimits, ModuleState.softMax, ModuleState.softMin, ModuleState.cfg, ModuleState.cfgInt,
    ModuleState.warden_of_onAxes h, ModuleState.axis_of_onAxes h]

/-- One move within the 32-bit range, resolved (R85, R92). -/
theorem ModuleState.resolve_single {v : Move} {base raw : Int} (hv : v.mode ≠ .velocity)
    (hraw : (if v.mode = .relative then base + v.target else v.target) = raw) (hlo : -2147483648 ≤ raw) (hhi : raw ≤ 2147483647) :
    m.resolve a base [v] = some ([{ v with target := m.aimFor a raw }], decide (m.aimFor a raw ≠ raw)) := by
  have hrange : ¬ (raw < -2147483648 ∨ 2147483647 < raw) := by omega
  have hclamped : (m.aimFor a raw != raw) = decide (m.aimFor a raw ≠ raw) := by rw [bne, beq_eq_decide, decide_not]
  simp only [ModuleState.resolve, if_neg hv, hraw, if_neg hrange, Option.map_some, Bool.false_or, ← hclamped]
  rfl

/-- What AXIS_MOVE of one ABSOLUTE or RELATIVE move gives (R84, R85, R90, R92). -/
def ModuleState.moveResult (m : ModuleState) (a : Nat) (b : List Byte) : Result :=
  let raw := m.rawTarget a b
  { status := if m.aimFor a raw = raw then stOk else stClamped, acts := [axisChannel a]
    m := m.moveTo a (bit (getN b 1 1) 0) (decide (m.aimFor a raw ≠ raw)) { m.readMove a b with target := m.aimFor a raw } }

/-- AXIS_MOVE of one ABSOLUTE or RELATIVE move that no condition of its own refuses (R110). -/
theorem axisMoveBody_single (hlen : c.data.length = 32) (hmode : getN c.data 0 1 ≤ 1)
    (hmuch : m.moveTooMuch c.idx (m.readMove c.idx c.data) = false) (hlo : -2147483648 ≤ m.rawTarget c.idx c.data)
    (hhi : m.rawTarget c.idx c.data ≤ 2147483647) (hduty : m.notOnDuty = false) (harm : m.reset.armed) (hown : m.axisOwner c.idx = 0)
    (hmodulo : m.modulo c.idx = false) (hroom : (m.axis c.idx).queue.length < 16) (hpath : (m.axis c.idx).path ≠ .none)
    (hbridge : (m.drive c.idx).bridge ≠ .latched) : axisMoveBody c m = m.moveResult c.idx c.data := by
  have hraw : (if (m.readMove c.idx c.data).mode = .relative then
      (if bit (getN c.data 1 1) 0 then (m.axis c.idx).cmdPos else m.lastEnd c.idx) + (m.readMove c.idx c.data).target
      else (m.readMove c.idx c.data).target) = m.rawTarget c.idx c.data := by
    rw [ModuleState.readMove_mode hmode]
    by_cases h1 : getN c.data 0 1 = 1 <;> simp [h1, ModuleState.rawTarget, ModuleState.readMove]
  have hroom' : ¬ 16 < 1 + (if bit (getN c.data 1 1) 0 then 0 else (m.axis c.idx).queue.length) := by
    split <;> omega
  unfold axisMoveBody
  dsimp only
  rw [chunks_single hlen, ModuleState.moveResult, ModuleState.moveTo]
  -- CLAMPED taken back touches nothing that the conditions look at
  generalize hn : m.setAxis c.idx (fun x => { x with clamped := false }) = n
  have hkept : n.onAxes (fun x => (x.queue, x.path, x.posValid)) = m.onAxes fun x => (x.queue, x.path, x.posValid) :=
    hn ▸ ModuleState.setAxis_onAxes
  obtain ⟨hqueue, hpath', -⟩ : _ ∧ _ ∧ _ := by simpa only [Prod.mk.injEq] using ModuleState.axis_of_onAxes (a := c.idx) hkept
  have haim := ModuleState.aimFor_congr (a := c.idx) (ModuleState.onAxes_comp (fun y => y.2.2) hkept) (m.rawTarget c.idx c.data)
  have hresolve := haim ▸ ModuleState.resolve_single (m := n) (a := c.idx) (ModuleState.readMove_not_velocity hmode) hraw hlo hhi
  have hmuch' : n.moveTooMuch c.idx (m.readMove c.idx c.data) = false := hn ▸ hmuch
  have hduty' : n.notOnDuty = false := hn ▸ hduty
  have harm' : n.reset.armed = true := hn ▸ harm
  have htaken : n.axisTaken c.idx c.role = false := hn ▸ ModuleState.axisTaken_host hown c.role
  have hmodulo' : n.modulo c.idx = false := hn ▸ hmodulo
  have hbridge' : (n.drive c.idx).bridge ≠ .latched := hn ▸ hbridge
  simp only [List.map_cons, List.map_nil, List.any_cons, List.any_nil, List.drop_one, List.tail_cons, hmuch', hresolve, hduty', harm', htaken, hmodulo',
    hqueue, hpath', List.length_singleton, if_neg hroom', beq_eq_false_iff_ne.mpr hpath, beq_eq_false_iff_ne.mpr hbridge', Bool.or_self,
    Bool.false_and, Bool.not_true, Bool.false_eq_true, if_false]
  by_cases hsame : m.aimFor c.idx (m.rawTarget c.idx c.data) = m.rawTarget c.idx c.data <;> simp [hsame]

/-- AXIS_MOVE of one move is answered, as CLAMPED when its target is another. -/
theorem ModuleState.moveResult_accepted (b : List Byte) : ¬ 0x8000 ≤ (m.moveResult a b).status := by
  unfold ModuleState.moveResult
  dsimp only
  split <;> decide

end

/-- Settles O24, command by command. -/
theorem motionCommandsDo : Obligations.MotionCommandsDo := by
  intro s p b a
  refine ⟨?_, ?_, ?_, ?_⟩
  · intro m v first raw aim hlen hmode _ hmuch hlo hhi hduty harm hown hmodulo hroom hpath hbridge
    have hv : v.mode ≠ .velocity := ModuleState.readMove_not_velocity hmode
    refine ⟨m.moveTo a first (decide (aim ≠ raw)) { v with target := aim }, ?_, fun h => ?_, fun haim hqueue hrest hpause hwait hval hbrake => ?_⟩
    · exact does_of_body rfl (axisMoveBody_single (c := cmdOf axisMoveSpec p s) hlen hmode hmuch hlo hhi hduty harm hown hmodulo hroom hpath hbridge)
        fun h => absurd h (ModuleState.moveResult_accepted b)
    · exact ModuleState.moveTo_axes _ (v := { v with target := aim }) hv h
    · exact ModuleState.moveTo_completes _ (v := { v with target := aim }) hv haim hqueue hrest hpause hpath hval
        hbridge hbrake hwait hduty
  · intro m hown hbridge
    refine ⟨_, does_of_ok rfl (axisStopBody_host (c := cmdOf axisStopSpec p s) hown hbridge) rfl, ModuleState.stopAxis_queue _ 1,
      ModuleState.stopAxis_atRest _ 1, fun hplan hstop => ?_⟩
    refine (ModuleState.stopAxis_moving _ 1 hplan hstop).imp_right fun ⟨hkind, hrate⟩ => ⟨hkind, fun hquick => hrate (if_pos hquick)⟩
  · intro m harm hown hrest hqueue
    have hlength : (m.acceptEdges a).axes.length = m.axes.length := offEdges_axes_length.acceptEdges m a
    have hconfig : (m.acceptEdges a).warden = m.warden := offEdges_warden.acceptEdges m a
    refine ⟨_, does_of_ok rfl (axisSetPositionBody_atRest (c := cmdOf axisSetPositionSpec p s) harm hown hrest hqueue) rfl, ?_, ?_⟩
    · exact ModuleState.getElem?_of_axis ((ModuleState.redefine_length _).trans hlength) fun hlt =>
        ModuleState.redefine_axis _ (hlength.symm ▸ hlt)
    · exact fun hfb hsource hlt => ModuleState.redefine_measured _ ((ModuleState.hasFb_congr hconfig a).trans hfb)
        (ModuleState.source_congr hconfig a ▸ hsource) ((offEdges_feedback_length.acceptEdges m a).symm ▸ hlt)
  · intro m harm hown hrest hpath
    exact ⟨fun hb => does_of_ok rfl (axisStepPathBody_fallback (c := cmdOf axisStepPathSpec p s) harm hown hrest hpath hb) rfl,
      fun hb => does_of_body rfl (axisStepPathBody_timer (c := cmdOf axisStepPathSpec p s) harm hown hrest hpath hb) ModuleState.toTimer_refused⟩

end Sys2Proof.Machine
end

section
/-! What motion leaves of a drive (R88, R95, R119, R120, R130 to R132): a property of a drive that outlasts its bridge switched off, its axis
energised and what the beginning and the end of a move write of it, outlasts every move and stop, and the edges that are accepted. -/

namespace Sys2Proof.Machine

/-! ### Drives of the list -/

section

variable {m n : ModuleState} {a b : Nat}

/-- A drive that does not exist is the default. -/
theorem ModuleState.drive_of_le (h : m.drives.length ≤ a) : m.drive a = {} := by
  simp [ModuleState.drive, List.getD_eq_getElem?_getD, h]

/-- A drive that is not as a missing one is in the list. -/
theorem ModuleState.drive_lt {β : Type} {g : Drive → β} {v : β} (h : g (m.drive a) = v) (hv : g {} ≠ v) : a < m.drives.length := by
  by_contra hlt
  exact hv (m.drive_of_le (Nat.le_of_not_lt hlt) ▸ h)

/-- A drive of the list once it is changed. -/
theorem ModuleState.setDrive_drive (f : Drive → Drive) (h : a < m.drives.length) : (m.setDrive a f).drive a = f (m.drive a) :=
  upd_getD_self m.drives a f {} h

/-- What holds of a drive holds once it or another is changed, when the change keeps it. -/
theorem ModuleState.setDrive_drive_of {P : Drive → Prop} {f : Drive → Drive} (h : P (m.drive b)) (hf : ∀ d, P d → P (f d)) :
    P ((m.setDrive a f).drive b) := by
  rcases eq_or_ne a b with rfl | hne
  · by_cases hlt : a < m.drives.length
    · rw [m.setDrive_drive f hlt]
      exact hf _ h
    · rwa [ModuleState.drive_of_le (by simpa using hlt), ← m.drive_of_le (Nat.le_of_not_lt hlt)]
  · have hsame : (m.setDrive a f).drive b = m.drive b := upd_getD_ne m.drives a b f {} hne
    rwa [hsame]

/-- A part of a drive that a change of it, or of another, keeps. -/
theorem ModuleState.setDrive_part {β : Type} {f : Drive → Drive} (g : Drive → β) (hf : ∀ d, g (f d) = g d := by intro; rfl) :
    g ((m.setDrive a f).drive b) = g (m.drive b) :=
  ModuleState.setDrive_drive_of (P := fun d => g d = g (m.drive b)) rfl fun d hd => (hf d).trans hd

/-- What holds of a drive of the list, said of the list. -/
theorem ModuleState.getElem?_of_drive {β : Type} {g g' : Drive → β} (hl : n.drives.length = m.drives.length)
    (h : a < m.drives.length → g (n.drive a) = g' (m.drive a)) : n.drives[a]?.map g = m.drives[a]?.map g' := by
  by_cases hlt : a < m.drives.length
  · have hlt' : a < n.drives.length := hl ▸ hlt
    simpa [ModuleState.drive, hlt, hlt'] using h hlt
  · have hlt' : ¬ a < n.drives.length := hl ▸ hlt
    simp [hlt, hlt']

end

/-! ### Operations that change no drive -/

section

variable (m : ModuleState) (a : Nat)

theorem ModuleState.joinQueue_drives (k : Plan) : (m.joinQueue a k).drives = m.drives := by
  unfold ModuleState.joinQueue
  dsimp only
  split <;> rfl

theorem ModuleState.plot_drives (k : Plan) (rest : Bool) : (m.plot a k rest).drives = m.drives := by
  have hj := m.joinQueue_drives a k
  unfold ModuleState.plot
  dsimp only
  split
  · split
    · exact hj
    · split <;> exact hj
  · exact hj

theorem ModuleState.reload_drives (n : Nat) : (m.reload a n).drives = m.drives := by
  unfold ModuleState.reload
  dsimp only
  split
  · split <;> rfl
  · rfl

theorem ModuleState.depart_drives (v : Move) : (m.depart a v).drives = m.drives := by
  unfold ModuleState.depart
  dsimp only
  split
  · exact (ModuleState.reload_drives _ a 2).trans (ModuleState.plot_drives _ a _ true)
  · exact ModuleState.plot_drives _ a _ true

theorem ModuleState.tellLost_drives : (m.tellLost a).drives = m.drives := by
  unfold ModuleState.tellLost
  split <;> rfl

theorem ModuleState.unvalid_drives : (m.unvalid a).drives = m.drives := by
  unfold ModuleState.unvalid
  split
  · exact ModuleState.tellLost_drives _ a
  · rfl

theorem ModuleState.invalidate_drives (cause : Nat) : (m.invalidate a cause).drives = m.drives := m.unvalid_drives a

theorem ModuleState.edgeFault_drives (n : Nat) : (m.edgeFault a n).drives = m.drives := by
  unfold ModuleState.edgeFault
  dsimp only
  split
  · exact ModuleState.invalidate_drives _ a 0
  · rfl

theorem ModuleState.latchEdge_drives (index : Bool) (input : Nat) (rising : Bool) (at_ : Nat) (stamp : Nat × Nat) (i : Nat) :
    (m.latchEdge a index input rising at_ stamp i).drives = m.drives := by
  unfold ModuleState.latchEdge
  -- the captured position stays opaque: the kernel would compute it to compare the cases
  generalize (m.fb a).latches.getD i {} = l, m.posAtStamp a at_ = pos
  dsimp only
  split
  · rfl
  obtain ⟨state⟩ := l
  cases state with
  | armed => cases pos <;> rfl
  | captured => rfl
  | idle | stale => rfl

theorem offLoads_drives : OffLoads ModuleState.drives := ⟨fun _ _ _ => rfl, fun _ _ => rfl, fun _ _ => rfl, fun _ _ => rfl⟩

end

/-! ### Motion -/

/-- A property of a drive that motion keeps: it outlasts the bridge switched off, the axis energised, and what a move writes of the drive. -/
structure MotionKeeps (P : Drive → Prop) : Prop where
  off : ∀ d now, P d → P (d.off now)
  energised : ∀ d pins openB, P d →
    P { d with sluiceOrder := pins, openAt := none, openBAt := openB, bridge := if d.sluiceOrder = 0 ∧ !d.stopped then .off else d.bridge }
  unwarned : ∀ d, P d → P { d with warned := false }
  toMove : ∀ d fed now, P d → P (d.toMove fed now)

section

variable {P : Drive → Prop} (h : MotionKeeps P) {m : ModuleState} {b : Nat} (hp : P (m.drive b)) (a : Nat)
include h hp

omit h in
theorem MotionKeeps.axis (f : Axis → Axis) : P ((m.setAxis a f).drive b) := hp

omit h in
theorem MotionKeeps.fb (f : Feedback → Feedback) : P ((m.setFb a f).drive b) := hp

omit h in
theorem MotionKeeps.logIf (c : Bool) (code source : Nat) (items : List Int) : P ((m.logIf c code source items).drive b) := hp

theorem MotionKeeps.bridgeOff : P ((m.bridgeOff a).drive b) := ModuleState.setDrive_drive_of hp fun d => h.off d m.now

theorem MotionKeeps.energise : P ((m.energise a).drive b) := by
  unfold ModuleState.energise
  split
  · exact ModuleState.setDrive_drive_of hp fun d => h.energised d _ _
  · exact hp

theorem MotionKeeps.newMove : P ((m.newMove a).drive b) := ModuleState.setDrive_drive_of hp h.unwarned

theorem MotionKeeps.rest : P ((m.rest a).drive b) := by
  have hnew : P (((m.setAxis a fun x =>
      { x with cmdSpeed := 0, cmdAccel := 0, plan := none, turning := false, replanAt := none, interval := none, intervals := [],
               intervalRest := 0, stopping := none, stopRate := (0, 0), bound := none, slowTo := none, offAtRest := false, restSince := m.now,
               speedZeroSince := m.now }).newMove a).drive b) := h.newMove hp a
  unfold ModuleState.rest
  dsimp only
  split
  · exact h.bridgeOff hnew a
  · exact hnew

theorem MotionKeeps.completeMove : P ((m.completeMove a).drive b) := by
  unfold ModuleState.completeMove
  dsimp only
  split
  · exact hp
  · exact ModuleState.setDrive_drive_of hp h.unwarned

theorem MotionKeeps.skipDone (n : Nat) : P ((m.skipDone a n).drive b) := by
  induction n generalizing m with
  | zero => exact hp
  | succ n ih =>
    unfold ModuleState.skipDone
    split
    · exact hp
    split
    · exact ih (h.completeMove hp a)
    · exact hp

omit h in
theorem MotionKeeps.plot (k : Plan) (rest : Bool) : P ((m.plot a k rest).drive b) := by
  rwa [ModuleState.drive, m.plot_drives a k rest]

omit h in
theorem MotionKeeps.reload (n : Nat) : P ((m.reload a n).drive b) := by
  rwa [ModuleState.drive, m.reload_drives a n]

omit h in
theorem MotionKeeps.depart (v : Move) : P ((m.depart a v).drive b) := by
  rwa [ModuleState.drive, m.depart_drives a v]

theorem MotionKeeps.arrived (p : Plan) : P ((m.arrived a p).drive b) := by
  have hdone := h.completeMove hp a
  unfold ModuleState.arrived ModuleState.travelOn
  dsimp only
  split
  · have hturned := MotionKeeps.axis hp a fun x => { x with turning := false, bound := none, stopRate := (0, 0), cmdSpeed := 0, cmdAccel := 0 }
    split
    · split
      · split
        · exact h.rest (h.completeMove hturned a) a
        · exact h.rest hturned a
      · exact MotionKeeps.plot hturned a _ _
    · split
      · split
        · exact MotionKeeps.plot hdone a _ _
        · exact h.rest hdone a
      · exact h.rest hp a
  · exact h.rest hp a

theorem MotionKeeps.start : P ((m.start a).drive b) := by
  unfold ModuleState.start
  dsimp only
  split
  · exact hp
  split
  · split
    · exact h.energise hp a
    · exact hp
  have hms : P ((if (m.axis a).cmdSpeed = 0 then m.skipDone a (m.axis a).queue.length else m).drive b) := by
    split
    · exact h.skipDone hp a _
    · exact hp
  generalize (if (m.axis a).cmdSpeed = 0 then m.skipDone a (m.axis a).queue.length else m) = ms at hms ⊢
  split
  · split
    · exact h.rest hms a
    · exact MotionKeeps.reload (MotionKeeps.plot (MotionKeeps.axis (MotionKeeps.axis hms a _) a _) a _ _) a 2
  · have hm0 : P ((ms.setDrive a fun d => d.toMove m.vdrvPresent m.now).drive b) :=
      ModuleState.setDrive_drive_of hms fun d => h.toMove d _ _
    have hm1 : P ((if (m.drive a).sluiceOrder &&& m.pinsOn a = m.pinsOn a then ms.setDrive a fun d => d.toMove m.vdrvPresent m.now
        else (ms.setDrive a fun d => d.toMove m.vdrvPresent m.now).energise a).drive b) := by
      split
      · exact hm0
      · exact h.energise hm0 a
    split
    · exact hms
    split
    · exact MotionKeeps.reload (MotionKeeps.plot (MotionKeeps.axis hm1 a _) a _ _) a 2
    split
    · exact hm1
    · exact MotionKeeps.depart hm1 a _

theorem MotionKeeps.afterStep : P ((m.afterStep a).drive b) := by
  unfold ModuleState.afterStep
  split
  · split
    · exact h.arrived hp a _
    · exact hp
  · exact hp

theorem MotionKeeps.planAnew : P ((m.planAnew a).drive b) := by
  have hplanned := h.afterStep (MotionKeeps.plot hp a ((m.axis a).present m.now) false) a
  unfold ModuleState.planAnew
  dsimp only
  split
  · exact h.start hplanned a
  · exact MotionKeeps.reload hplanned a 2

theorem MotionKeeps.stopAxis (kind : StopKind) (cause : Nat) : P ((m.stopAxis a kind cause).drive b) := by
  have hflush : P ((m.flush a cause).drive b) := hp
  unfold ModuleState.stopAxis
  dsimp only
  split
  · split
    · exact h.rest hflush a
    · exact hflush
  split
  · exact hflush
  · exact h.planAnew (MotionKeeps.axis hflush a _) a

theorem MotionKeeps.holdAxis : P ((m.holdAxis a).drive b) := by
  unfold ModuleState.holdAxis
  dsimp only
  split
  · exact hp
  split
  · exact h.rest (MotionKeeps.axis hp a _) a
  · exact hp

/-! ### Edges accepted -/

theorem MotionKeeps.slow (value : Nat) : P ((m.slow a value).drive b) := by
  unfold ModuleState.slow
  dsimp only
  split
  · exact hp
  split
  · exact h.planAnew (MotionKeeps.axis hp a _) a
  · exact hp

theorem MotionKeeps.markAction (k : Mark) : P ((m.markAction a k).drive b) := by
  unfold ModuleState.markAction
  split
  · exact hp
  split
  · rwa [ModuleState.drive, offLoads_drives.lsOrder]
  · rwa [ModuleState.drive, offLoads_drives.lsOrder]
  · exact h.slow hp a _
  · exact h.stopAxis hp a _ _
  · exact hp

theorem MotionKeeps.judgeMark (measured : Bool) (old new : Int) (i : Nat) : P ((m.judgeMark a measured old new i).drive b) := by
  unfold ModuleState.judgeMark
  dsimp only
  split
  · exact hp
  split
  · exact MotionKeeps.logIf (h.markAction (MotionKeeps.fb hp a _) a _) _ _ _ _
  · exact hp

theorem MotionKeeps.judgeMarks (measured : Bool) (old new : Int) : P ((m.judgeMarks a measured old new).drive b) :=
  m.each_keeps axisNums _ (fun m => P (m.drive b)) (fun _ i hm => h.judgeMark hm a measured old new i) hp

theorem MotionKeeps.moved (old : Int) (at_ : Nat) : P ((m.moved a old at_).drive b) :=
  h.judgeMarks (MotionKeeps.fb hp a _) a true old _

theorem MotionKeeps.count' (n : Int) (at_ : Nat) : P ((m.count' a n at_).drive b) := by
  unfold ModuleState.count'
  dsimp only
  split
  · exact h.moved (MotionKeeps.fb hp a _) a _ _
  · exact h.moved (MotionKeeps.logIf (MotionKeeps.fb hp a _) _ _ _ _) a _ _

omit h in
theorem MotionKeeps.edgeFault (n : Nat) : P ((m.edgeFault a n).drive b) := by
  rwa [ModuleState.drive, m.edgeFault_drives a n]

omit h in
theorem MotionKeeps.invalidate (cause : Nat) : P ((m.invalidate a cause).drive b) := by
  rwa [ModuleState.drive, m.invalidate_drives a cause]

theorem MotionKeeps.toothEdge (at_ : Nat) (aim : Option Bool) : P ((m.toothEdge a at_ aim).drive b) := by
  unfold ModuleState.toothEdge
  extract_lets f kind span before timed extra missing size
  have htimed : P (timed.drive b) := MotionKeeps.fb hp a _
  clear_value timed
  split
  · exact MotionKeeps.invalidate htimed a 2
  · extract_lets n m1 total
    have hm1 : P (m1.drive b) := by
      unfold m1
      split
      · exact htimed
      · exact h.count' htimed a n at_
    clear_value m1
    split
    · split
      · exact MotionKeeps.invalidate (MotionKeeps.edgeFault (MotionKeeps.logIf (MotionKeeps.fb hm1 a _) true _ _ _) a 1) a 2
      · exact MotionKeeps.fb hm1 a _
    · exact MotionKeeps.fb hm1 a _

omit h in
theorem MotionKeeps.latchEdges (index : Bool) (input : Nat) (rising : Bool) (at_ : Nat) (stamp : Nat × Nat) :
    P ((m.latchEdges a index input rising at_ stamp).drive b) := by
  rwa [ModuleState.latchEdges, ModuleState.drive, ModuleState.latchEdge_drives, ModuleState.latchEdge_drives]

theorem MotionKeeps.edgeActs (e : HeldEdge) : P ((m.edgeActs a e).drive b) := by
  unfold ModuleState.edgeActs
  dsimp only
  split
  · split
    · exact MotionKeeps.latchEdges hp a _ _ _ _ _
    · exact hp
  split
  · split
    · exact h.toothEdge hp a _ _
    · exact hp
  split
  · exact MotionKeeps.edgeFault (MotionKeeps.fb hp a _) a 1
  · exact h.count' (MotionKeeps.fb hp a _) a _ _

theorem MotionKeeps.acceptEdges : P ((m.acceptEdges a).drive b) :=
  ModuleState.each_keeps _ _ _ (fun m => P (m.drive b)) (fun _ e hm => h.edgeActs hm a e) hp

end

/-- Motion leaves the list of drives as long as it is. -/
theorem offEdges_drives_length : OffEdges fun m => m.drives.length where
  axis _ _ _ := rfl
  drive _ _ _ := upd_length ..
  comm _ _ := rfl
  load _ _ _ := rfl
  loads _ _ := rfl
  free _ _ := rfl
  fb _ _ _ := rfl
  portal _ _ _ := rfl

end Sys2Proof.Machine
end

section
/-! Supply voltage coming and going (R132, R143, R554, R555): what the bridges and the moving axes that follow VDRV leave alone. -/

namespace Sys2Proof.Machine

/-- A part of the module that VDRV coming and going leaves alone. -/
structure OffSupply {β : Type} (π : ModuleState → β) : Prop extends OffEdges π where
  unfed : ∀ m : ModuleState, π { m with drives := updAll m.drives Drive.unfed } = π m

section

variable {β : Type} {π : ModuleState → β} (h : OffEdges π) (m : ModuleState) (a : Nat)
include h

theorem OffEdges.beginValidation : π (m.beginValidation a) = π m := by
  unfold ModuleState.beginValidation
  dsimp only
  split
  · simp only [ModuleState.setOffset, h.drive, h.axis, apply_ite π, h.fb, h.acceptEdges, ite_self]
  · simp only [h.drive, h.acceptEdges]

theorem OffEdges.enableBridge : π (m.enableBridge a) = π m := by
  simp only [ModuleState.enableBridge, apply_ite π, h.beginValidation, h.drive, ite_self]

theorem OffEdges.reenter : π (m.reenter a) = π m := by
  simp only [ModuleState.reenter, apply_ite π, h.toOffMotion.start, h.drive, h.enableBridge, ite_self]

theorem OffEdges.holdAxis : π (m.holdAxis a) = π m := by
  simp only [ModuleState.holdAxis, apply_ite π, h.toOffMotion.rest, h.axis, ite_self]

omit h in
theorem OffSupply.followVdrv (h : OffSupply π) (was : Bool) : π (m.followVdrv was) = π m := by
  unfold ModuleState.followVdrv
  split
  · exact (ModuleState.each_frame _ _ _ π fun m a => h.holdAxis m a).trans (h.unfed m)
  split
  · exact m.each_frame _ _ π fun m a => h.reenter m a
  · rfl

end

theorem offSupply_warden : OffSupply ModuleState.warden := { offEdges_warden with unfed := fun _ => rfl }

theorem offSupply_drives_length : OffSupply fun m => m.drives.length := { offEdges_drives_length with unfed := fun _ => updAll_length .. }

theorem offSupply_driveCommon : OffSupply ModuleState.driveCommon where
  axis _ _ _ := rfl
  drive _ _ _ := rfl
  comm _ _ := rfl
  load _ _ _ := rfl
  loads _ _ := rfl
  free _ _ := rfl
  fb _ _ _ := rfl
  portal _ _ _ := rfl
  unfed _ := rfl

theorem offSupply_variant : OffSupply ModuleState.variant where
  axis _ _ _ := rfl
  drive _ _ _ := rfl
  comm _ _ := rfl
  load _ _ _ := rfl
  loads _ _ := rfl
  free _ _ := rfl
  fb _ _ _ := rfl
  portal _ _ _ := rfl
  unfed _ := rfl

section

variable (m : ModuleState) (bulk : Nat)

/-- A reading of VDRV_BULK is kept (R554). -/
theorem ModuleState.readBulk_warden : (m.readBulk bulk).warden = { m.warden with bulk := bulk } := offSupply_warden.followVdrv _ _

theorem ModuleState.readBulk_driveCommon : (m.readBulk bulk).driveCommon = m.driveCommon := offSupply_driveCommon.followVdrv _ _

theorem ModuleState.readBulk_variant : (m.readBulk bulk).variant = m.variant := offSupply_variant.followVdrv _ _

theorem ModuleState.readBulk_drives_length : (m.readBulk bulk).drives.length = m.drives.length := offSupply_drives_length.followVdrv _ _

end

/-! ### A bridge that is not latched stays so -/

/-- A bridge that no fault latches. -/
def Drive.notLatched (d : Drive) : Prop := d.bridge ≠ .latched

theorem motionKeeps_notLatched : MotionKeeps Drive.notLatched where
  off d _ h := by
    unfold Drive.notLatched Drive.off
    dsimp only
    split
    · exact h
    · nofun
  energised d _ _ h := by
    unfold Drive.notLatched
    dsimp only
    split
    · nofun
    · exact h
  unwarned _ h := h
  toMove d _ _ h := by
    unfold Drive.toMove
    dsimp only
    split
    · nofun
    split
    · nofun
    split
    · exact h
    · exact h

section

variable {m : ModuleState} {b : Nat} (hp : (m.drive b).notLatched) (a : Nat)
include hp

theorem ModuleState.beginValidation_notLatched : ((m.beginValidation a).drive b).notLatched := by
  have hedges := motionKeeps_notLatched.acceptEdges hp a
  unfold ModuleState.beginValidation
  extract_lets d n m1
  have hm1 : (m1.drive b).notLatched := by
    unfold m1
    split
    · refine ModuleState.setDrive_drive_of (MotionKeeps.axis (P := Drive.notLatched) ?_ a _) fun _ h => h
      split
      · exact hedges
      · exact MotionKeeps.fb (P := Drive.notLatched) hedges a _
    · exact hedges
  exact ModuleState.setDrive_drive_of hm1 fun _ h => h

theorem ModuleState.enableBridge_notLatched : ((m.enableBridge a).drive b).notLatched := by
  unfold ModuleState.enableBridge
  extract_lets free m1
  have hm1 : (m1.drive b).notLatched := by
    refine ModuleState.setDrive_drive_of hp fun d _ => ?_
    unfold Drive.notLatched
    dsimp only
    split
    · nofun
    split
    · nofun
    · nofun
  split
  · exact ModuleState.beginValidation_notLatched hm1 a
  · exact hm1

theorem ModuleState.reenter_notLatched : ((m.reenter a).drive b).notLatched := by
  unfold ModuleState.reenter
  dsimp only
  split
  · refine motionKeeps_notLatched.start (ModuleState.setDrive_drive_of (ModuleState.enableBridge_notLatched hp a) fun d h => ?_) a
    unfold Drive.notLatched
    dsimp only
    split
    · nofun
    · exact h
  · exact motionKeeps_notLatched.start hp a

omit a in
theorem ModuleState.unfed_notLatched : (ModuleState.drive { m with drives := updAll m.drives Drive.unfed } b).notLatched := by
  have hd : ModuleState.drive { m with drives := updAll m.drives Drive.unfed } b = (m.drive b).unfed := by
    simp only [ModuleState.drive, updAll, List.getD_eq_getElem?_getD, List.getElem?_map]
    cases m.drives[b]? <;> rfl
  rw [hd, Drive.unfed]
  split
  · exact hp
  · nofun

omit a in
/-- A change of VDRV latches no bridge. -/
theorem ModuleState.readBulk_notLatched (bulk : Nat) : ((m.readBulk bulk).drive b).notLatched := by
  have hread : (ModuleState.drive { m with warden := { m.warden with bulk := bulk } } b).notLatched := hp
  unfold ModuleState.readBulk ModuleState.followVdrv
  split
  · exact ModuleState.each_keeps _ _ _ (fun m => (m.drive b).notLatched) (fun _ a h => motionKeeps_notLatched.holdAxis h a)
      (ModuleState.unfed_notLatched hread)
  split
  · exact ModuleState.each_keeps _ _ _ (fun m => (m.drive b).notLatched) (fun _ a h => ModuleState.reenter_notLatched h a) hread
  · exact hread

end

end Sys2Proof.Machine
end

section
/-! Latches and braking (R120, R121, R136 to R138, R143): what a latch writes of its axis and drive, and the bridge-fault rows. -/

namespace Sys2Proof.Machine

/-! ### What faults of an axis leave alone -/

/-- A part of the module that faults of one axis leave alone: changes of that axis and its drive, of portals, and events do not touch it. -/
structure OffAxis {β : Type} (a : Nat) (π : ModuleState → β) : Prop where
  axis : ∀ m f, π (m.setAxis a f) = π m
  drive : ∀ m f, π (m.setDrive a f) = π m
  portal : ∀ m p f, π (m.setPortal p f) = π m
  comm : ∀ m c, π (m.withComm c) = π m

theorem OffEdges.offAxis {β : Type} {π : ModuleState → β} (h : OffEdges π) (a : Nat) : OffAxis a π :=
  ⟨fun m => h.axis m a, fun m => h.drive m a, h.portal, h.toOffMotion.comm⟩

section

variable {β : Type} {π : ModuleState → β} {a : Nat} (h : OffAxis a π) (m : ModuleState)
include h

theorem OffAxis.tellLost : π (m.tellLost a) = π m := by
  unfold ModuleState.tellLost
  split
  · exact h.portal _ _ _
  · rfl

theorem OffAxis.tellFault : π (m.tellFault a) = π m := by
  unfold ModuleState.tellFault
  split
  · exact h.portal _ _ _
  split
  · exact h.portal _ _ _
  · rfl

theorem OffAxis.unvalid : π (m.unvalid a) = π m := by
  simp only [ModuleState.unvalid, apply_ite π, h.tellLost, h.axis, ite_self]

theorem OffAxis.invalidate (cause : Nat) : π (m.invalidate a cause) = π m := (h.comm _ _).trans (h.unvalid m)

theorem OffAxis.latch (cause : FaultCode) (mask : Nat) (ia ib : Int) : π (m.latch a cause mask ia ib) = π m := by
  simp only [ModuleState.latch, ModuleState.log, ModuleState.saturated, ModuleState.logIf, apply_ite π, h.tellFault, h.comm, h.unvalid, h.axis,
    h.drive, ite_self]

theorem OffAxis.brake : π (m.brake a) = π m := by
  simp only [ModuleState.brake, apply_ite π, h.drive, h.latch, ite_self]

end

/-! ### A latch -/

section

variable (m : ModuleState) (a : Nat)

theorem ModuleState.tellFault_drives : (m.tellFault a).drives = m.drives := by
  unfold ModuleState.tellFault
  split
  · rfl
  split <;> rfl

/-- A position declared not valid changes nothing else of an axis. -/
theorem ModuleState.unvalid_onAxes {β : Type} {g : Axis → β} (hg : ∀ x, g { x with posValid := false, lost := true } = g x := by intro; rfl) :
    (m.unvalid a).onAxes g = m.onAxes g := by
  have hlost : ∀ k : ModuleState, (k.tellLost a).onAxes g = k.onAxes g := fun k => by
    unfold ModuleState.tellLost
    split <;> rfl
  unfold ModuleState.unvalid
  split
  · exact (hlost _).trans (ModuleState.setAxis_onAxes (hg _))
  · rfl

theorem ModuleState.tellFault_onAxes {β : Type} (g : Axis → β) : (m.tellFault a).onAxes g = m.onAxes g := by
  unfold ModuleState.tellFault
  split
  · rfl
  split <;> rfl

/-- A drive as a latch of its axis writes it (R136 to R138). -/
def ModuleState.latchDrive (cause : FaultCode) (d : Drive) : Drive :=
  let held := (m.drive a).bridge == .latched
  let oc : Bool := 1 ≤ cause.code && cause.code ≤ 4
  { d.off m.now with
    bridge := .latched
    fault := cause
    latches := if held then d.latches else sat max16 d.latches
    testPassed := false
    regenLatched := d.regenLatched
    lowOn := false
    ocTimes := if oc && d.ocTimes.length < 3 then d.ocRecent m.now ++ [m.now] else d.ocTimes
    awaitVal := d.awaitVal || (m.stepper a && m.hasFb a)
    valKept := if d.awaitVal then d.valKept else true }

variable {m a} {cause : FaultCode} (hpop : m.populated a) (hmode : m.axisMode a ≠ 0)
  (hlatch : (m.drive a).bridge ≠ .latched ∨ cause = .testFailed) (mask : Nat) (ia ib : Int)
include hpop hmode hlatch

/-- A populated axis that is not DISABLED takes a latch, unless it holds one; a failed BRIDGE_TEST takes the place of that, too. -/
theorem ModuleState.latch_taken : ¬ (!m.populated a || m.axisMode a = 0 || ((m.drive a).bridge == .latched && cause != .testFailed)) := by
  rcases hlatch with hb | rfl
  · simp [hpop, hmode, hb]
  · simp [hpop, hmode]

theorem ModuleState.latch_drives : (m.latch a cause mask ia ib).drives = upd m.drives a (m.latchDrive a cause) := by
  have htaken := ModuleState.latch_taken hpop hmode hlatch
  unfold ModuleState.latch
  extract_lets d held oc m1 m2
  rw [if_neg htaken, ModuleState.tellFault_drives]
  have hm2 : m2.drives = m1.drives := by
    unfold m2
    split
    · rfl
    · exact m1.unvalid_drives a
  have hm3 : (if held = true then m2 else m2.saturated max16 d.latches (tgAxis a) 0x0206 32).drives = m2.drives := by
    split <;> rfl
  exact hm3.trans hm2

theorem ModuleState.latch_onAxes {β : Type} {g : Axis → β} (hg : ∀ x, g { x with posValid := false, lost := true } = g x := by intro; rfl) :
    (m.latch a cause mask ia ib).onAxes g = (m.setAxis a fun x => x.halt m.now).onAxes g := by
  have htaken := ModuleState.latch_taken hpop hmode hlatch
  unfold ModuleState.latch
  extract_lets d held oc m1 m2
  rw [if_neg htaken, ModuleState.tellFault_onAxes, ModuleState.log_onAxes]
  have hm2 : m2.onAxes g = m1.onAxes g := by
    unfold m2
    split
    · rfl
    · exact m1.unvalid_onAxes a hg
  have hm3 : (if held = true then m2 else m2.saturated max16 d.latches (tgAxis a) 0x0206 32).onAxes g = m2.onAxes g := by
    split <;> rfl
  exact hm3.trans hm2

omit hlatch in
/-- An axis that is not latched is latched with the cause. -/
theorem ModuleState.latch_latchedWith (hb : (m.drive a).bridge ≠ .latched) : latchedWith m (m.latch a cause mask ia ib) a cause := by
  constructor
  · rw [ModuleState.latch_drives hpop hmode (.inl hb), upd_getElem?, Option.map_map]
    simp [Function.comp_def, ModuleState.latchDrive, Drive.off, hb]
  · rw [ModuleState.getElem?_of_onAxes (ModuleState.latch_onAxes hpop hmode (.inl hb) mask ia ib), ModuleState.setAxis_axes, upd_getElem?,
      Option.map_map]
    rfl

end

/-- A latch of an axis whose drive was written before, but for its bridge and the count of its latches. -/
theorem ModuleState.setDrive_latch {m : ModuleState} {a : Nat} (hpop : m.populated a) (hmode : m.axisMode a ≠ 0)
    (hb : (m.drive a).bridge ≠ .latched) {f : Drive → Drive} (cause : FaultCode) (mask : Nat) (ia ib : Int)
    (hf : ∀ d, (f d).bridge = d.bridge ∧ (f d).latches = d.latches := by intro; exact ⟨rfl, rfl⟩) :
    latchedWith m ((m.setDrive a f).latch a cause mask ia ib) a cause ∧
      ((m.setDrive a f).latch a cause mask ia ib).drives = upd m.drives a ((m.setDrive a f).latchDrive a cause ∘ f) := by
  have hb' : ((m.setDrive a f).drive a).bridge ≠ .latched := by rwa [m.setDrive_part Drive.bridge fun d => (hf d).1]
  obtain ⟨hdrive, haxis⟩ := ModuleState.latch_latchedWith (m := m.setDrive a f) hpop hmode mask ia ib hb' (cause := cause)
  refine ⟨⟨hdrive.trans ?_, haxis⟩, ?_⟩
  · rw [ModuleState.setDrive_drives, upd_getElem?, Option.map_map]
    simp only [Function.comp_def, hf]
  · rw [ModuleState.latch_drives (m := m.setDrive a f) hpop hmode (.inl hb'), ModuleState.setDrive_drives, upd_upd]

/-! ### One element of a list of updates -/

/-- What an update for one element writes stands after the updates for all of a list in which it stands once, when those for the others neither see
nor change it. -/
theorem ModuleState.each_once {α β : Type} {l : List α} {x : α} (hnd : l.Nodup) (hx : x ∈ l) {f : ModuleState → α → ModuleState}
    {π : ModuleState → β} (hne : ∀ m y, y ≠ x → π (f m y) = π m) (m : ModuleState) : ∃ n, π n = π m ∧ π (m.each l f) = π (f n x) := by
  induction l generalizing m with
  | nil => simp at hx
  | cons y r ih =>
    rw [ModuleState.each_cons]
    rw [List.nodup_cons] at hnd
    rcases eq_or_ne y x with rfl | hyx
    · refine ⟨m, rfl, ?_⟩
      have hrest : ∀ k : ModuleState, ∀ l' : List α, y ∉ l' → π (k.each l' f) = π k := fun k l' => by
        induction l' generalizing k with
        | nil => exact fun _ => rfl
        | cons z l' ih' =>
          intro hz
          rw [List.mem_cons, not_or] at hz
          exact (ih' _ hz.2).trans (hne k z (Ne.symm hz.1))
      exact hrest _ r hnd.1
    · obtain ⟨n, hn, hlast⟩ := ih hnd.2 ((List.mem_cons.mp hx).resolve_left hyx.symm) (f m y)
      exact ⟨n, hn.trans (hne m y hyx), hlast⟩

/-! ### The bridge-fault rows -/

/-- For each pin, the comparisons in a row that found it following through its open sluice (R121). -/
def Drive.followed (d : Drive) (follow : Nat) : List Nat :=
  (d.following.zip [0, 1, 2, 3]).map fun x => if bit d.sluiceOrder x.2 || !bit follow x.2 then 0 else min 3 (x.1 + 1)

section

variable {s : State} {t a : Nat} (ha : a < 8)
include ha

/-- Devices that trip latch their axis, the cause told by which they are (R136, R137). -/
theorem bridgeOvercurrentTrip_gives {tripped : Nat} (h0 : 0 < tripped) (h1 : tripped < 256) (dead : Bool) (ia ib : Int) :
    Gives (.bridgeOvercurrentTrip t a tripped dead ia ib) s ((s.then t).latch a (tripCause tripped dead) tripped ia ib) :=
  gives_of_axis ha rfl (by rw [Nat.mod_eq_of_lt h1, if_neg h0.ne'])

/-- A phase that carries less than a quarter of its setpoint for 2 ms latches its axis (R137). -/
theorem openPhaseDetected_gives (follows : Bool) {b : Nat} (hb : ((s.then t).drive a).bridge = .driving) (ho : ((s.then t).drive a).sluiceOrder ≠ 0)
    (hset : 500 ≤ ((s.then t).drive a).iaSet.natAbs) (hlow : ((s.then t).drive a).chopper.1.lowSince = some b) (hdue : b + ms 2 ≤ (s.then t).now) :
    Gives (.openPhaseDetected t a follows) s ((s.then t).latch a (if follows then .openPhase else .sluiceStuckOpen) 0
      ((s.then t).drive a).iaMeas ((s.then t).drive a).ibMeas) := by
  have hopen : ((s.then t).drive a).chopper.1.openPhase (s.then t) ((s.then t).drive a).iaSet = true := by
    simp [Chopper.openPhase, hset, ModuleState.dueO_some hlow hdue]
  have hdrives : ((s.then t).drive a).drives = true := by simp [Drive.drives, hb, ho]
  exact gives_of_axis ha rfl (by simp only [hopen, hdrives, Bool.true_or, Bool.and_self, if_true])

theorem bridgeOvertemp_gives : Gives (.bridgeOvertemp t a) s (((s.then t).setDrive a fun d => { d with temp := max 1750 d.temp }).latch a
    .bridgeOvertemp 0 ((s.then t).drive a).iaMeas ((s.then t).drive a).ibMeas) :=
  gives_of_axis ha rfl rfl

theorem gateSupplyFault_gives (hv : (s.then t).vdrvPresent) : Gives (.gateSupplyFault t a) s
    (((s.then t).setDrive a fun d => { d with gateOk := false }).latch a .gateSupply 0 ((s.then t).drive a).iaMeas ((s.then t).drive a).ibMeas) :=
  gives_of_axis ha rfl (by simp only [hv, if_true])

/-- The third comparison in a row that finds pin A1 following through its open sluice latches the axis (R121). -/
theorem sluiceCheck_gives {follow : Nat} (hv : (s.then t).vdrvPresent) (hr : (s.then t).runs (axisIsland a))
    (hf : ((s.then t).drive a).following = [2, 0, 0, 0]) (ho : bit ((s.then t).drive a).sluiceOrder 0 = false) (hpin : bit follow 0) :
    Gives (.sluiceCheck t a follow) s (((s.then t).setDrive a fun d => { d with following := ((s.then t).drive a).followed follow }).latch a
      .sluiceStuckClosed 0 ((s.then t).drive a).iaMeas ((s.then t).drive a).ibMeas) := by
  have hthird : (((s.then t).drive a).followed follow).any (· == 3) = true := by simp [Drive.followed, hf, ho, hpin]
  refine gives_of_axis ha rfl ?_
  simp only [hv, hr, Bool.not_true, Bool.or_self, Bool.false_eq_true, if_false]
  exact if_pos hthird

end

/-! ### The cause of an overcurrent trip -/

/-- A number shares no bit with a mask when none of the mask's bits is set in it. -/
theorem and_eq_zero_iff {mask : Nat} {bits : List Nat} (hmask : mask < 256) (hbits : ∀ i < 8, mask.testBit i = decide (i ∈ bits))
    (hsmall : ∀ i ∈ bits, i < 8) (n : Nat) : n &&& mask = 0 ↔ ∀ i ∈ bits, n.testBit i = false := by
  constructor
  · intro h i hi
    have hbit := congrArg (Nat.testBit · i) h
    simpa [hbits i (hsmall i hi), hi] using hbit
  · intro h
    refine Nat.eq_of_testBit_eq fun i => ?_
    rw [Nat.testBit_and, Nat.zero_testBit, Bool.and_eq_false_iff]
    by_cases hi : i ∈ bits
    · exact .inl (h i hi)
    · right
      by_cases h8 : i < 8
      · rw [hbits i h8, decide_eq_false hi]
      · exact Nat.testBit_lt_two_pow (hmask.trans_le (Nat.pow_le_pow_right Nat.two_pos (Nat.le_of_not_lt h8)))

theorem trippedHigh_isEmpty (n : Nat) : ([0, 1, 2, 3].filter fun k => bit n (2 * k)).isEmpty = decide (n &&& 0x55 = 0) := by
  have hmask : n &&& 0x55 = 0 ↔ _ := and_eq_zero_iff (bits := [0, 2, 4, 6]) (by decide) (by decide) (by decide) n
  rw [Bool.eq_iff_iff, decide_eq_true_eq, hmask]
  simp [bit]

theorem trippedLow_isEmpty (n : Nat) : ([0, 1, 2, 3].filter fun k => bit n (2 * k + 1)).isEmpty = decide (n &&& 0xAA = 0) := by
  have hmask : n &&& 0xAA = 0 ↔ _ := and_eq_zero_iff (bits := [1, 3, 5, 7]) (by decide) (by decide) (by decide) n
  rw [Bool.eq_iff_iff, decide_eq_true_eq, hmask]
  simp [bit]

/-- The cause of a trip by the mask of the devices: only low-side ones, only high-side ones, a high-side and a low-side one of different pins
(R137 Table 4). -/
theorem tripCause_eq (n : Nat) (dead : Bool) : tripCause n dead = if dead then .overcurrent
    else if n &&& 0x55 = 0 then .shortToVdrv
    else if n &&& 0xAA = 0 then .shortToPgnd
    else if [0, 1, 2, 3].any fun i => [0, 1, 2, 3].any fun j => i != j && n.testBit (2 * i) && n.testBit (2 * j + 1) then .phaseToPhase
    else .overcurrent := by
  have hacross : (([0, 1, 2, 3].filter fun k => bit n (2 * k)).any fun i => ([0, 1, 2, 3].filter fun k => bit n (2 * k + 1)).any fun j => i != j) =
      [0, 1, 2, 3].any fun i => [0, 1, 2, 3].any fun j => i != j && n.testBit (2 * i) && n.testBit (2 * j + 1) := by
    rw [Bool.eq_iff_iff]
    simp only [List.any_filter, List.any_eq_true, Bool.and_eq_true, bit]
    grind
  simp only [tripCause, trippedHigh_isEmpty, trippedLow_isEmpty, hacross, decide_eq_true_eq]

/-! ### Regeneration (R143) -/

/-- What the braking of one axis sees of the module, and what that of another leaves alone. -/
def ModuleState.braked (m : ModuleState) (a : Nat) : Warden × Nat × Option Drive × Option Bool × DriveCommon :=
  (m.warden, m.variant, m.drives[a]?, m.axes[a]?.map Axis.moving, m.driveCommon)

theorem ModuleState.log_driveCommon (m : ModuleState) (code source : Nat) (items : List Int) :
    (m.log code source items).driveCommon = m.driveCommon := rfl

theorem ModuleState.log_drives (m : ModuleState) (code source : Nat) (items : List Int) : (m.log code source items).drives = m.drives := rfl

theorem offAxis_braked {a b : Nat} (hne : b ≠ a) : OffAxis b fun m => m.braked a where
  axis _ _ := by simp [ModuleState.braked, upd, hne]
  drive _ _ := by simp [ModuleState.braked, upd, hne]
  portal _ _ _ := rfl
  comm _ _ := rfl

section

variable {m : ModuleState} {a : Nat} (hpop : m.populated a) (hmode : m.axisMode a ≠ 0) (hb : (m.drive a).bridge ≠ .latched)
include hpop hmode hb

/-- A moving axis that is braked is latched with OVERCURRENT (R143). -/
theorem ModuleState.brake_moving (hmoving : (m.axis a).moving) : ((m.brake a).drives[a]?.map fun d => (d.bridge, d.fault, d.regenLatched)) =
    m.drives[a]?.map fun _ => (.latched, .overcurrent, true) := by
  have hskip : ¬ (!m.populated a || m.axisMode a = 0 || (m.drive a).bridge == .latched) := by simp [hpop, hmode, hb]
  simp only [ModuleState.brake, if_neg hskip, hmoving, if_true]
  rw [ModuleState.setDrive_drives, upd_getElem?, ModuleState.latch_drives hpop hmode (.inl hb), upd_getElem?, Option.map_map, Option.map_map]
  rfl

/-- An axis at rest that is braked has all low-side devices on, its setpoints 0 (R143). -/
theorem ModuleState.brake_atRest (hrest : (m.axis a).moving = false) : ((m.brake a).drives[a]?.map fun d => (d.bridge, d.iaSet, d.ibSet)) =
    m.drives[a]?.map fun _ => (.braking, 0, 0) := by
  have hskip : ¬ (!m.populated a || m.axisMode a = 0 || (m.drive a).bridge == .latched) := by simp [hpop, hmode, hb]
  simp only [ModuleState.brake, if_neg hskip, hrest, Bool.false_eq_true, if_false]
  rw [ModuleState.setDrive_drives, upd_getElem?, Option.map_map]
  rfl

end

/-- 5 J and more fill the accumulator of the clamp, however it stood (R142). -/
theorem ModuleState.clampEnergy_full (m : ModuleState) : (m.clampEnergy 5000).driveCommon.clampMj = 5000 := by
  have hleak : (0 : Rat) ≤ leak m.driveCommon.clampMj 500 m.driveCommon.clampAt m.now := le_max_left _ _
  exact min_eq_left (le_add_of_nonneg_left hleak)

/-- The module once the reading of VDRV_BULK that comes with REGEN_BRAKE at 5 J has been followed (R143, R554). -/
def ModuleState.filled (m : ModuleState) (bulk : Nat) : ModuleState := (m.clampEnergy 5000).readBulk bulk

theorem ModuleState.filled_clampMj (m : ModuleState) (bulk : Nat) : (m.filled bulk).driveCommon.clampMj = 5000 := by
  rw [ModuleState.filled, ModuleState.readBulk_driveCommon, ModuleState.clampEnergy_full]

/-- Axes that may be braked (R143). -/
def ModuleState.brakable (m : ModuleState) : List Nat :=
  axisNums.filter fun a => m.populated a && m.axisMode a != 0 && (m.drive a).bridge != .latched

theorem mem_axisNums {a : Nat} (ha : a < 8) : a ∈ axisNums := (show ∀ b < 8, b ∈ axisNums by decide) a ha

section

variable {s : State} {t a : Nat} (ha : a < 8) (hpop : (s.then t).populated a) (hmode : (s.then t).axisMode a ≠ 0)
  (hlatch : ((s.then t).drive a).bridge ≠ .latched) (hbrake : ((s.then t).drive a).bridge ≠ .braking) (bulk : Nat)
include ha hpop hmode hlatch hbrake

/-- REGEN_BRAKE at 5 J brakes the axes when one that may be is not braked yet (R143). -/
theorem regenBrake_gives : Gives (.regenBrake t bulk 5000) s ((((s.then t).filled bulk).each axisNums fun m b => m.brake b).log evRegenBrake
    tgModule [5000, (((s.then t).brakable.map fun b => 2 ^ b).sum : Nat)]) := by
  have hfull : ¬ ((s.then t).filled bulk).driveCommon.clampMj < 5000 := by
    rw [ModuleState.filled_clampMj]
    exact lt_irrefl _
  have hnew : ¬ ((s.then t).brakable.all fun b => ((s.then t).drive b).bridge == .braking) = true := by
    intro hall
    have hhit := List.all_eq_true.mp hall a (List.mem_filter.mpr ⟨mem_axisNums ha, by simp [hpop, hmode, hlatch]⟩)
    exact hbrake (beq_iff_eq.mp hhit)
  exact gives_of_happen (t := t) rfl ((if_neg hfull).trans (if_neg hnew))

end

/-- Of each axis, the braking of the others tells nothing. -/
theorem ModuleState.brakeAll_drive (m : ModuleState) {a : Nat} (ha : a < 8) : ∃ n : ModuleState,
    (m.each axisNums fun m b => m.brake b).drives[a]? = (n.brake a).drives[a]? ∧ n.braked a = m.braked a := by
  obtain ⟨n, hn, hlast⟩ := ModuleState.each_once (l := axisNums) (by decide) (mem_axisNums ha) (f := fun m b => m.brake b)
    (π := fun m => m.braked a) (fun m b hne => (offAxis_braked hne).brake m) m
  exact ⟨n, congrArg (fun x => x.2.2.1) hlast, hn⟩

theorem ModuleState.brakeAll_driveCommon (m : ModuleState) : (m.each axisNums fun m b => m.brake b).driveCommon = m.driveCommon :=
  m.each_frame _ _ ModuleState.driveCommon fun m b => (offSupply_driveCommon.offAxis b).brake m

/-- What the braking of an axis needs is as the reading of VDRV_BULK found it. -/
theorem ModuleState.brakeable_of_braked {m n : ModuleState} {a bulk : Nat} (hpop : m.populated a) (hmode : m.axisMode a ≠ 0)
    (hlatch : (m.drive a).bridge ≠ .latched) (hn : n.braked a = (m.filled bulk).braked a) :
    n.populated a ∧ n.axisMode a ≠ 0 ∧ (n.drive a).bridge ≠ .latched ∧ (n.axis a).moving = ((m.filled bulk).axis a).moving ∧
      n.drives[a]? = (m.filled bulk).drives[a]? := by
  obtain ⟨hwarden, hvariant, hdrive, hmoving, -⟩ : n.warden = _ ∧ n.variant = _ ∧ n.drives[a]? = _ ∧ n.axes[a]?.map Axis.moving = _ ∧ _ := by
    simpa only [ModuleState.braked, Prod.mk.injEq] using hn
  have hpop' : n.populated a = m.populated a := by
    rw [ModuleState.populated, hvariant, ModuleState.filled, ModuleState.readBulk_variant]
    rfl
  have hmode' : n.axisMode a = m.axisMode a := by
    rw [ModuleState.axisMode, ModuleState.cfg, hwarden, ModuleState.filled, ModuleState.readBulk_warden]
    rfl
  have hd : n.drive a = (m.filled bulk).drive a := by
    rw [ModuleState.drive, ModuleState.drive, List.getD_eq_getElem?_getD, List.getD_eq_getElem?_getD, hdrive]
  refine ⟨hpop' ▸ hpop, hmode' ▸ hmode, ?_, ?_, hdrive⟩
  · rw [hd]
    exact ModuleState.readBulk_notLatched (m := m.clampEnergy 5000) hlatch bulk
  · have hx : ∀ k : ModuleState, (k.axis a).moving = (k.axes[a]?.map Axis.moving).getD false := fun k => by
      rw [ModuleState.axis, List.getD_eq_getElem?_getD]
      cases k.axes[a]? <;> rfl
    rw [hx, hx, hmoving]

/-- The list of drives is as long after the reading as it was. -/
theorem ModuleState.filled_getElem? {β : Type} (m : ModuleState) (bulk a : Nat) (v : β) :
    ((m.filled bulk).drives[a]?.map fun _ => v) = m.drives[a]?.map fun _ => v :=
  ModuleState.getElem?_of_drive ((m.clampEnergy 5000).readBulk_drives_length bulk) fun _ => rfl

/-- Settles O20: each row ends in the latch of its axis, and a braked axis is latched when it moves. -/
theorem bridgeFaultRowsRun : Obligations.BridgeFaultRowsRun := by
  intro s t a ha hpop hmode hlatch m d
  refine ⟨fun tripped dead ia ib h0 h1 => ?_, fun follows b hb ho hset hlow hdue => ?_, ?_, fun hv => ?_, gives_of_axis ha rfl rfl,
    fun follow hv hr hf ho hpin => ?_, fun bulk hmoving hbrake => ?_, fun bulk hrest hbrake => ?_⟩
  · rw [← tripCause_eq]
    exact ⟨_, bridgeOvercurrentTrip_gives ha h0 h1 dead ia ib, ModuleState.latch_latchedWith hpop hmode _ _ _ hlatch⟩
  · exact ⟨_, openPhaseDetected_gives ha follows hb ho hset hlow hdue, ModuleState.latch_latchedWith hpop hmode _ _ _ hlatch⟩
  · obtain ⟨hwith, hdrives⟩ := ModuleState.setDrive_latch hpop hmode hlatch (f := fun d => { d with temp := max 1750 d.temp }) .bridgeOvertemp 0
      (m.drive a).iaMeas (m.drive a).ibMeas
    refine ⟨_, bridgeOvertemp_gives ha, hwith, ?_⟩
    rw [hdrives, upd_getElem?, Option.map_map]
    rfl
  · obtain ⟨hwith, hdrives⟩ := ModuleState.setDrive_latch hpop hmode hlatch (f := fun d => { d with gateOk := false }) .gateSupply 0
      (m.drive a).iaMeas (m.drive a).ibMeas
    refine ⟨_, gateSupplyFault_gives ha hv, hwith, ?_⟩
    rw [hdrives, upd_getElem?, Option.map_map]
    rfl
  · exact ⟨_, sluiceCheck_gives ha hv hr hf ho hpin, (ModuleState.setDrive_latch hpop hmode hlatch _ _ _ _).1⟩
  · obtain ⟨n, hdrive, hn⟩ := (m.filled bulk).brakeAll_drive ha
    obtain ⟨hpop', hmode', hlatch', hmoving', hdrive'⟩ := ModuleState.brakeable_of_braked hpop hmode hlatch hn
    refine ⟨_, regenBrake_gives ha hpop hmode hlatch hbrake bulk, ?_, ?_⟩
    · rw [(ModuleState.log_driveCommon ..), ModuleState.brakeAll_driveCommon, m.filled_clampMj]
    · rw [ModuleState.log_drives, hdrive, ModuleState.brake_moving hpop' hmode' hlatch' (hmoving'.trans hmoving), hdrive', ModuleState.filled_getElem?]
  · obtain ⟨n, hdrive, hn⟩ := (m.filled bulk).brakeAll_drive ha
    obtain ⟨hpop', hmode', hlatch', hmoving', hdrive'⟩ := ModuleState.brakeable_of_braked hpop hmode hlatch hn
    refine ⟨_, regenBrake_gives ha hpop hmode hlatch hbrake bulk, ?_⟩
    beta_reduce
    rw [ModuleState.log_drives, hdrive, ModuleState.brake_atRest hpop' hmode' hlatch' (hmoving'.trans hrest), hdrive', ModuleState.filled_getElem?]

end Sys2Proof.Machine
end

section
/-! Current control (R120, R122, R123, R125, R130, R131, R134, R139, R142, R143, R146, R482): the current loop, standstill, solenoids, sluices, angle
validation, stall windows, the regeneration limit and the bridge test of a standby. -/

namespace Sys2Proof.Machine

/-! ### The current loop -/

section

variable {m : ModuleState} {a : Nat}

/-- A phase that is not on its way to its sluices' opening stays as it is (R120). -/
theorem ModuleState.openPhase_of_none {b : Bool} (h : (if b then (m.drive a).openBAt else (m.drive a).openAt) = none) (current : Int) :
    m.openPhase a b current = m := by
  simp only [ModuleState.openPhase, h]

theorem ModuleState.openSluices_of_none (hA : (m.drive a).openAt = none) (hB : (m.drive a).openBAt = none) (ia ib : Int) :
    m.openSluices a ia ib = m := by
  rw [ModuleState.openSluices, ModuleState.openPhase_of_none (b := false) hA, ModuleState.openPhase_of_none (b := true) hB]

/-- The windows compared change nothing of the drive but the counts (R139). -/
theorem ModuleState.sampleWindows_part {β : Type} (g : Drive → β) (hg : ∀ d n, g { d with beyond := n } = g d := by intro _ _; rfl) :
    g ((m.sampleWindows a).drive a) = g (m.drive a) := by
  unfold ModuleState.sampleWindows
  dsimp only
  split
  · exact ModuleState.setDrive_part g fun d => hg d _
  · exact ModuleState.setDrive_part g fun d => hg d _

theorem ModuleState.sampleWindows_length : (m.sampleWindows a).drives.length = m.drives.length := by
  unfold ModuleState.sampleWindows
  dsimp only
  split <;> exact upd_length ..

/-- Outside validation, standstill and re-entry an open-loop stepper has its running current (R123). -/
theorem ModuleState.amplitude_openLoop (hmode : m.axisMode a = 1) (hval : (m.drive a).validatingAt = none) (hramp : (m.drive a).holdRampAt = none)
    (hre : (m.drive a).reentryAt = none) (hcheck : m.pair.checkAt = none) : (m.amplitude a).1 = m.iRun a := by
  simp [ModuleState.amplitude, hmode, hval, hramp, hre, hcheck]

/-- The setpoints of a driving open-loop stepper at full thermal scale (R122). -/
theorem ModuleState.currentLoop_openLoop {ia ib point : Int} {chop : Nat × Nat} (hmode : m.axisMode a = 1) (hb : (m.drive a).bridge = .driving)
    (ho : (m.drive a).sluiceOrder ≠ 0) (hval : (m.drive a).validatingAt = none) (hramp : (m.drive a).holdRampAt = none)
    (hre : (m.drive a).reentryAt = none) (hcheck : m.pair.checkAt = none) (hcap : m.homingCap a = none)
    (hcool : m.junction a point ia ib chop ≤ 1500) (hhot : m.warden.hot = false) :
    ((m.currentLoop a ia ib point chop).drives[a]?.map fun d => (d.iaMeas, d.ibMeas, d.iaSet, d.ibSet, d.temp, d.chop)) =
      m.drives[a]?.map fun d =>
        (ia, ib, ((m.iRun a : Rat) * cosineOf d.angle).floor, ((m.iRun a : Rat) * sineOf d.angle).floor, m.junction a point ia ib chop, chop) := by
  have hscale : thermalScale (m.junction a point ia ib chop) = 1000 := if_pos hcool
  have hdrives : (m.drive a).drives = true := by simp [Drive.drives, hb, ho]
  have hstepper : m.stepper a = true := by simp [ModuleState.stepper, hmode]
  unfold ModuleState.currentLoop
  extract_lets d temp sc factor on cap amp dc i sets fast m1
  have hi : i = m.iRun a := by
    have hamp : amp.1 = m.iRun a := ModuleState.amplitude_openLoop hmode hval hramp hre hcheck
    simp [i, cap, hcap, hamp, factor, sc, temp, hscale, hhot]
  have hsets : sets = ((m.iRun a * cosineOf d.angle).floor, (m.iRun a * sineOf d.angle).floor) := by
    simp [sets, on, d, hdrives, hstepper, hi]
  clear_value i fast sets
  subst hsets
  have hlength : ((m1.logIf (decide (sc < 1000) && d.scale == 1000) evThermalLimit tgModule [↑a, temp, ↑sc]).sampleWindows a).drives.length =
      m.drives.length := ModuleState.sampleWindows_length.trans (upd_length ..)
  refine ModuleState.getElem?_of_drive hlength fun hlt => ?_
  rw [ModuleState.sampleWindows_part fun d => (d.iaMeas, d.ibMeas, d.iaSet, d.ibSet, d.temp, d.chop)]
  have hlogged : (m1.logIf (decide (sc < 1000) && d.scale == 1000) evThermalLimit tgModule [↑a, temp, ↑sc]).drive a = m1.drive a := rfl
  have hdrive : m1.drive a = _ := m.setDrive_drive _ hlt
  rw [hlogged, hdrive]

end

/-! ### The other rows -/

section

variable {m : ModuleState} {a : Nat}

/-- Whether a DC axis stands free depends on its sluice order alone of its drive (R131). -/
theorem ModuleState.setDrive_freed {f : Drive → Drive} (hf : ∀ d, (f d).sluiceOrder = d.sluiceOrder := by intro; rfl) :
    (m.setDrive a f).freed a = m.freed a := by
  have horder := m.setDrive_part (b := a) (a := a) Drive.sluiceOrder hf
  unfold ModuleState.freed
  rw [horder]
  rfl

/-- A bridge that no validation waits for and that does not stand free drives once it is enabled, its offsets 0 (R120, R127). -/
theorem ModuleState.enableBridge_drive (hawait : (m.drive a).awaitVal = false) (hfree : m.freed a = false) :
    m.enableBridge a = m.setDrive a fun d =>
      { d with bridge := .driving, chopper := (.started m.now, .started m.now), offA := 0, offB := 0, servoAmp := 0, dcInt := 0, kept := .off } := by
  simp [ModuleState.enableBridge, hawait, hfree]

/-- An angle that is validated or not, with no validation waiting or under way (R134). -/
def Drive.valDone (ok : Bool) (d : Drive) : Prop := (ok → d.angleOk) ∧ d.awaitVal = false ∧ d.validatingAt = none

theorem motionKeeps_valDone (ok : Bool) : MotionKeeps (Drive.valDone ok) where
  off _ _ h := ⟨h.1, h.2.1, rfl⟩
  energised _ _ _ h := h
  unwarned _ h := h
  toMove d _ _ h := by
    unfold Drive.toMove
    dsimp only
    split_ifs <;> exact h

theorem ModuleState.acceptEdges_source (m : ModuleState) : (m.acceptEdges a).source a = m.source a :=
  ModuleState.source_congr (offEdges_warden.acceptEdges m a) a

end

/-! ### Angle validation (R134) -/

/-- The validation of an axis at its end, its drive told whether the position lies within the limit (R134 step 4). -/
def ModuleState.valEnded (m : ModuleState) (a : Nat) (ok : Bool) : ModuleState :=
  m.setDrive a fun d => { d with validatingAt := none, awaitVal := false, valKept := false, angleOk := d.angleOk || ok }

section

variable {m : ModuleState} {a : Nat}

/-- Whether a position is valid, its axis's start leaves alone. -/
theorem ModuleState.start_posValid : (m.start a).onAxes Axis.posValid = m.onAxes Axis.posValid :=
  ModuleState.onAxes_comp (fun x : Int × Nat × Bool × Bool => x.2.2.1) (m.start_follows a).fixed

/-- The drive of an axis under validation, its validation at an end. -/
theorem ModuleState.valEnded_drive {b : Nat} (hb : (m.drive a).validatingAt = some b) {n : ModuleState} (hn : n.drives.length = m.drives.length)
    (ok : Bool) : ((n.valEnded a ok).drive a).valDone ok := by
  have hlt : a < n.drives.length := hn ▸ ModuleState.drive_lt hb nofun
  rw [ModuleState.valEnded, n.setDrive_drive _ hlt]
  exact ⟨fun h => by simp [h], rfl, rfl⟩

/-- The module once a validation is over, an event told, and the start of the axis it waited for (R134). -/
def ModuleState.valLogged (m : ModuleState) (a now code : Nat) (items : List Int) : ModuleState :=
  ((m.log code (tgAxis a) items).setAxis a fun x => { x with restSince := now }).start a

theorem ModuleState.valLogged_drive {ok : Bool} (h : (m.drive a).valDone ok) (now code : Nat) (items : List Int) :
    ((m.valLogged a now code items).drive a).valDone ok :=
  (motionKeeps_valDone ok).start (m := (m.log code (tgAxis a) items).setAxis a fun x => { x with restSince := now }) h a

theorem ModuleState.valLogged_posValid (now code : Nat) (items : List Int) :
    (m.valLogged a now code items).onAxes Axis.posValid = m.onAxes Axis.posValid :=
  ModuleState.start_posValid.trans ModuleState.setAxis_onAxes

end

section

variable {s : State} {t a b : Nat} (ha : a < 8) (hb : ((s.then t).drive a).validatingAt = some b) (hdue : b + ms 30 ≤ (s.then t).now)
include ha hb hdue

/-- A measured position within 64 units of the saved one validates the angle, and the position with it (R134). -/
theorem angleValidationDone_validates (herr : (((s.then t).acceptEdges a).posError a).natAbs ≤ 64) (hkept : ((s.then t).drive a).valKept = false)
    (hsource : (s.then t).source a ≠ 3) : Runs (.angleValidationDone t a) s fun m' =>
      m'.axes[a]?.map (·.posValid) = ((s.then t).axes[a]?.map fun _ => true) ∧ (m'.drive a).valDone true := by
  have hover : (s.then t).dueO ((s.then t).drive a).validatingAt 30000000 = true := ModuleState.dueO_some hb hdue
  have hsource' : ((s.then t).acceptEdges a).source a ≠ 3 := by rwa [ModuleState.acceptEdges_source]
  have hrow : Gives (.angleValidationDone t a) s (((((s.then t).acceptEdges a).valEnded a true).setAxis a fun x =>
      { x with posValid := true, lost := false }).valLogged a ((s.then t).acceptEdges a).now evAngleValidated
        [(a : Int), (((s.then t).drive a).angle : Int), -((s.then t).acceptEdges a).posError a]) := by
    refine gives_of_axis ha rfl ?_
    simp only [hover, Int.natAbs_neg, herr, decide_true, if_true, hkept, bne_iff_ne.mpr hsource', beq_eq_false_iff_ne.mpr hsource', Bool.not_false,
      Bool.and_self, Bool.or_true, Bool.or_self, Bool.and_false, ModuleState.valEnded, Bool.not_true, Bool.false_eq_true, if_false]
    rfl
  refine ⟨_, hrow, ?_, ModuleState.valLogged_drive ?_ _ _ _⟩
  · rw [ModuleState.getElem?_of_onAxes (ModuleState.valLogged_posValid ..), ModuleState.setAxis_axes, upd_getElem?, Option.map_map]
    exact ModuleState.getElem?_of_axis (g' := fun _ => true) (offEdges_axes_length.acceptEdges _ a) fun _ => rfl
  · exact MotionKeeps.axis (ModuleState.valEnded_drive hb (offEdges_drives_length.acceptEdges _ a) true) a _

/-- A measured position beyond 64 units rejects the angle (R134). -/
theorem angleValidationDone_rejects (herr : 64 < (((s.then t).acceptEdges a).posError a).natAbs) : Runs (.angleValidationDone t a) s fun m' =>
      (m'.axis a).posValid = false ∧ (m'.drive a).valDone false := by
  have hover : (s.then t).dueO ((s.then t).drive a).validatingAt 30000000 = true := ModuleState.dueO_some hb hdue
  have hrow : Gives (.angleValidationDone t a) s (((((s.then t).acceptEdges a).valEnded a false).unvalid a).valLogged a
      ((s.then t).acceptEdges a).now evAngleRejected [(a : Int), 4, -((s.then t).acceptEdges a).posError a]) := by
    refine gives_of_axis ha rfl ?_
    simp only [hover, Int.natAbs_neg, Nat.not_le_of_lt herr, decide_false, if_false, ModuleState.valEnded, Bool.not_true, Bool.false_eq_true]
    rfl
  refine ⟨_, hrow, ?_, ModuleState.valLogged_drive ?_ _ _ _⟩
  · obtain ⟨-, hvalid, -⟩ := (((s.then t).acceptEdges a).valEnded a false).unvalid_axis a
    exact (ModuleState.axis_of_onAxes (ModuleState.valLogged_posValid _ _ _)).trans hvalid
  · rw [ModuleState.drive, ModuleState.unvalid_drives]
    exact ModuleState.valEnded_drive hb (offEdges_drives_length.acceptEdges _ a) false

end

/-! ### Sluices and stalls (R120, R139) -/

section

variable {s : State} {t a : Nat} (ha : a < 8)
include ha

/-- Sluices read back as closed enable the bridge of an axis that is off, unless it stands free (R120). -/
theorem sluiceClosedReadback_enables (ho : ((s.then t).drive a).sluiceOrder ≠ 0) (hclose : (s.then t).mayClose a)
    (hb : ((s.then t).drive a).bridge = .off) (hv : (s.then t).vdrvPresent) (hawait : ((s.then t).drive a).awaitVal = false)
    (hfree : (s.then t).freed a = false) : Runs (.sluiceClosedReadback t a) s fun m' =>
      (m'.drive a).sluices = ((s.then t).drive a).sluices ||| ((s.then t).drive a).sluiceOrder ∧ (m'.drive a).bridge = .driving ∧
        (m'.drive a).offA = 0 ∧ (m'.drive a).offB = 0 := by
  have hlt : a < (s.then t).drives.length := ModuleState.drive_lt (g := fun d => decide (d.sluiceOrder = 0)) (decide_eq_false ho) (by decide)
  have hwait : ¬ (((s.then t).drive a).sluiceOrder = 0 ∨ (!(s.then t).mayClose a) = true) := by simp [ho, hclose]
  have hon : (((s.then t).drive a).bridge == .off && (s.then t).vdrvPresent) = true := by simp [hb, hv]
  refine ⟨_, gives_of_axis ha rfl ((if_neg hwait).trans (if_pos hon)), ?_⟩
  beta_reduce
  rw [ModuleState.enableBridge_drive ((ModuleState.setDrive_part Drive.awaitVal).trans hawait)
      ((ModuleState.setDrive_freed (m := s.then t)).trans hfree),
    ModuleState.setDrive_drive _ (by simpa using hlt), ModuleState.setDrive_drive _ hlt]
  exact ⟨rfl, rfl, rfl, rfl⟩

/-- Samples beyond the stall window are told and flagged when the action is REPORT (R139, R140). -/
theorem stallWindowExceeded_reports (hwarn : ((s.then t).drive a).beyond.1 ≠ (s.then t).cfg (driveCfg a + 15) 1)
    (hstall : ((s.then t).drive a).beyond.2 = (s.then t).cfg (driveCfg a + 15) 1) (hwindow : (s.then t).cfg (driveCfg a + 20) 4 ≠ 0)
    (hact : (s.then t).stallAction a = 0) : Gives (.stallWindowExceeded t a) s (((s.then t).setDrive a fun d =>
      { d with beyond := (d.beyond.1, (s.then t).cfg (driveCfg a + 15) 1 + 1), stallFlag := true }).log evStallDetected (tgAxis a)
        [(a : Int), (s.then t).posError a, 0]) := by
  refine gives_of_axis ha rfl ?_
  simp only [hwarn, hstall, hwindow, hact, false_and, ne_eq, not_false_eq_true, and_self, if_true, if_false]
  rfl

end

/-! ### The regeneration limit (R142, R143) -/

section

variable {s : State} {t bulk : Nat}

theorem regenLimitEnter_limits (h : 1600 < bulk) : Runs (.regenLimitEnter t bulk 0) s fun m' =>
    m'.driveCommon.regenLimit = true ∧ m'.warden.bulk = bulk := by
  refine runs_of_happen rfl ?_
  dsimp only
  split
  · next hlimit =>
    rw [ModuleState.readBulk_driveCommon, ModuleState.readBulk_warden]
    exact ⟨hlimit.resolve_left (Nat.not_le_of_lt h), rfl⟩
  · exact ⟨rfl, congrArg Warden.bulk (ModuleState.readBulk_warden ((s.then t).clampEnergy 0) bulk)⟩

theorem regenLimitEnd_ends (h : bulk < 1500) : Runs (.regenLimitEnd t bulk) s fun m' =>
    m'.driveCommon.regenLimit = false ∧ m'.warden.bulk = bulk := by
  refine runs_of_happen rfl ?_
  rw [ModuleState.readBulk_driveCommon, ModuleState.readBulk_warden]
  simp [Nat.not_le_of_lt h]

end

/-! ### The bridge test -/

section

variable {m : ModuleState} {a : Nat} (hpop : m.populated a) (hmode : m.axisMode a ≠ 0)

theorem offAxis_pair : OffAxis a ModuleState.pair := ⟨fun _ _ => rfl, fun _ _ => rfl, fun _ _ _ => rfl, fun _ _ => rfl⟩

theorem ModuleState.testBridge_pair (currents : List Nat) (follow : Nat) : (m.testBridge a currents follow).pair = m.pair := by
  unfold ModuleState.testBridge
  dsimp only
  split
  · rfl
  · exact offAxis_pair.latch _ _ _ _ _

include hpop hmode

/-- A device that does not pass latches the axis with TEST_FAILED (R146). -/
theorem ModuleState.testBridge_latches {currents : List Nat} (hbad : passMask m.warden.vdrv currents ≠ 255) (follow : Nat) :
    ((m.testBridge a currents follow).drives[a]?.map fun d => (d.bridge, d.fault)) = m.drives[a]?.map fun _ => (.latched, .testFailed) := by
  unfold ModuleState.testBridge
  extract_lets d pass ok apart m1
  have hok : ¬ ok = true := by simp [ok, pass, hbad]
  have hlatch := ModuleState.latch_drives (m := m1) (a := a) (cause := .testFailed) hpop hmode (.inr rfl) (255 - pass) d.iaMeas d.ibMeas
  have hdrives : m1.drives = _ := m.setDrive_drives a _
  rw [if_neg hok, hlatch, upd_getElem?, hdrives, upd_getElem?, Option.map_map, Option.map_map]
  rfl

end

/-- A device found bad by the bridge test of a standby marks the unit and latches the axis (R482). -/
theorem standbyBridgeTest_fails {s : State} {t a : Nat} (ha : a < 8) (currents : List Nat) (follow : Nat) (hmode2 : (s.then t).pairMode ≠ 0)
    (hrole : (s.then t).pair.role = .standby) (hshared : (s.then t).shared a) (hpop : (s.then t).populated a) (hmode : (s.then t).axisMode a ≠ 0)
    (htest : (s.then t).testable a) (hdue : (s.then t).pair.testAt.getD a 0 + seconds (60 * (s.then t).cfg 3125 1) ≤ (s.then t).now)
    (hlast : (s.then t).pair.testAt.foldl max 0 + seconds 1 ≤ (s.then t).now) (hbad : passMask (s.then t).warden.vdrv currents ≠ 255) :
    Runs (.standbyBridgeTest t a currents follow) s fun m' => m'.pair.testFailed = true ∧
      m'.pair.testAt = upd (s.then t).pair.testAt a (fun _ => (s.then t).now) ∧
      (m'.drives[a]?.map fun d => (d.bridge, d.fault)) = (s.then t).drives[a]?.map fun _ => (.latched, .testFailed) := by
  have hwait : ¬ ((s.then t).pairMode = 0 ∨ (s.then t).pair.role ≠ .standby ∨ !(s.then t).shared a ∨ !(s.then t).populated a ∨
      (s.then t).axisMode a = 0 ∨ !(s.then t).testable a ∨
      !(s.then t).due ((s.then t).pair.testAt.getD a 0) (seconds (60 * (s.then t).cfg 3125 1)) ∨
      !(s.then t).due ((s.then t).pair.testAt.foldl max 0) (seconds 1)) := by
    simp only [hmode2, hrole, hshared, hpop, hmode, htest, ModuleState.due, hlast, hdue, ne_eq, not_true, Bool.not_true, decide_true,
      Bool.false_eq_true, or_self, not_false_eq_true]
  refine ⟨_, gives_of_axis ha rfl (if_neg hwait), ?_, ?_, ModuleState.testBridge_latches hpop hmode hbad follow⟩
  · exact (congrArg (· || _) (bne_iff_ne.mpr hbad)).trans (Bool.true_or _)
  · exact congrArg (fun x : Pair => upd x.testAt a fun _ => (s.then t).now) (ModuleState.testBridge_pair currents follow)

/-- Settles O21: a lemma for each row, the conditions telling which branch it takes. -/
theorem bridgeRowsRun : Obligations.BridgeRowsRun := by
  intro s t a ha m d x
  refine ⟨fun ia ib temp ca cb hA hB hruns hpop hmode hb ho hval hramp hre hcheck hcap hcool hhot => ?_,
    fun hmoving hqueue hb ho hrest hstepper => gives_of_axis ha rfl ?_, fun hstate hholding hsince => gives_of_axis ha rfl ?_,
    fun ho hclose hb hv hawait hfree => sluiceClosedReadback_enables ha ho hclose hb hv hawait hfree, fun b hb hdue herr hkept hsource => ?_,
    fun b hb hdue herr => ?_, stallWindowExceeded_reports ha, fun bulk => regenLimitEnter_limits, fun bulk => regenLimitEnd_ends,
    fun currents follow hpair hrole hshared hpop hmode htest hdue hlast =>
      standbyBridgeTest_fails ha currents follow hpair hrole hshared hpop hmode htest hdue hlast⟩
  · have hon : (m.runs (axisIsland a) && m.populated a && m.axisMode a != 0) = true := by simp [hruns, hpop, hmode]
    refine ⟨_, gives_of_axis ha rfl ((if_pos hon).trans (by rw [ModuleState.openSluices_of_none hA hB])), ?_⟩
    exact ModuleState.currentLoop_openLoop hmode hb ho hval hramp hre hcheck hcap hcool hhot
  · have hwait : ¬ (x.moving || !x.queue.isEmpty || d.bridge != .driving || d.sluiceOrder = 0 || !m.due x.restSince (m.holdDelay a)) := by
      simp [hmoving, hqueue, hb, ho, ModuleState.due, hrest]
    exact (if_neg hwait).trans (if_pos hstepper)
  · have hend : d.solenoid.state ≠ 0 ∧ !d.solenoid.holding ∧ m.due d.solenoid.since (ms d.solenoid.pullMs) := by
      simp [hstate, hholding, ModuleState.due, hsince]
    exact if_pos hend
  · obtain ⟨m', hrow, hvalid, hok, hawait, hnone⟩ := angleValidationDone_validates ha hb hdue herr hkept hsource
    exact ⟨m', hrow, hvalid, hok rfl, hawait, hnone⟩
  · obtain ⟨m', hrow, hvalid, -, hawait, hnone⟩ := angleValidationDone_rejects ha hb hdue herr
    exact ⟨m', hrow, hvalid, hawait, hnone⟩

end Sys2Proof.Machine
end

section
/-! The drive commands (R125, R138, R145, R146): a latch cleared, a solenoid ordered, the bridge test. -/

namespace Sys2Proof.Machine

/-! ### A latch cleared (R138) -/

/-- A drive that no cause holds: no fault, no braking by the regeneration, no latch. -/
def Drive.cleared (d : Drive) : Prop := (d.fault = .none ∧ d.regenLatched = false) ∧ d.notLatched

theorem motionKeeps_cleared : MotionKeeps Drive.cleared where
  off d now h := ⟨h.1, motionKeeps_notLatched.off d now h.2⟩
  energised d pins openB h := ⟨h.1, motionKeeps_notLatched.energised d pins openB h.2⟩
  unwarned _ h := h
  toMove d fed now h := by
    refine ⟨?_, motionKeeps_notLatched.toMove d fed now h.2⟩
    unfold Drive.toMove
    dsimp only
    split_ifs <;> exact h.1

section

variable {m : ModuleState} {a : Nat} (hb : (m.drive a).bridge = .latched)
include hb

/-- A latched axis unlatched has no cause left (R138). -/
theorem ModuleState.unlatch_cleared : ((m.unlatch a).drive a).cleared := by
  have hlt : a < m.drives.length := ModuleState.drive_lt hb nofun
  unfold ModuleState.unlatch
  extract_lets d m1 m2
  have hm2 : m2 = m1 := by simp [m2, d, hb]
  have hm1 : (m1.drive a).cleared := by
    rw [m.setDrive_drive _ hlt]
    exact ⟨⟨rfl, rfl⟩, nofun⟩
  rw [hm2]
  split
  · exact motionKeeps_cleared.energise hm1 a
  · exact motionKeeps_cleared.start hm1 a

theorem ModuleState.clearFails_none (hcause : m.causePresent a = false) (htimes : (m.drive a).ocTimes.length < 3) : m.clearFails a = none := by
  simp [ModuleState.clearFails, Drive.stopped, hb, hcause, Nat.not_le_of_lt htimes]

end

theorem ModuleState.unlatch_length (m : ModuleState) (a : Nat) : (m.unlatch a).drives.length = m.drives.length := by
  simp only [ModuleState.unlatch, apply_ite (fun m : ModuleState => m.drives.length), offEdges_drives_length.toOffMotion.energise,
    offEdges_drives_length.toOffMotion.start, offEdges_drives_length.enableBridge, offEdges_drives_length.drive, ite_self]

/-! ### The bodies of the commands -/

section

variable {m : ModuleState} {c : Cmd}

theorem driveFaultClearBody_clears (h : m.clearFails c.idx = none) :
    driveFaultClearSpec.body c m = { acts := [axisChannel c.idx], m := m.unlatch c.idx } := by
  simp only [driveFaultClearSpec, h]

theorem solenoidSetBody_on (hstate : getN c.data 0 1 ≠ 0) (hpull : getN c.data 2 2 ≤ m.cfg (driveCfg c.idx + 26) 2)
    (hhold : getN c.data 4 2 ≤ getN c.data 2 2) (hspan : getN c.data 6 2 ≤ 5000) (hduty : m.notOnDuty = false) (harm : m.reset.armed)
    (hmode : m.axisMode c.idx = 4) (hb : (m.drive c.idx).bridge ≠ .latched) : solenoidSetBody c m =
      { acts := [axisChannel c.idx]
        m := m.setDrive c.idx fun d => { d with
          sluiceOrder := d.sluiceOrder % 4 + 12
          openBAt := none
          solenoid := { state := getN c.data 0 1, pullMa := getN c.data 2 2, holdMa := getN c.data 4 2, pullMs := getN c.data 6 2, since := m.now
                        holding := getN c.data 6 2 == 0 } } } := by
  have hrange : ¬ (m.cfg (driveCfg c.idx + 26) 2 < getN c.data 2 2 ∨ getN c.data 2 2 < getN c.data 4 2 ∨ 5000 < getN c.data 6 2) := by omega
  simp only [solenoidSetBody, hrange, hduty, harm, hmode, beq_eq_false_iff_ne.mpr hb, hstate, if_false, Bool.false_and, Bool.false_eq_true,
    Bool.not_true, ne_eq, not_true]

theorem bridgeTestBody_unowned (hown : m.axisOwner c.idx = 0) (htest : m.testable c.idx) : bridgeTestBody c m =
    { acts := [axisChannel c.idx]
      m := ({ m with free := m.free + 9 }).testBridge c.idx ((List.range 8).map fun i => Config.freeValue (m.free + i) % 65536)
        (Config.freeValue (m.free + 8) % 16)
      data := leBytes 1 (passMask m.warden.vdrv ((List.range 8).map fun i => Config.freeValue (m.free + i) % 65536)) ++
        leBytes 1 (if Config.freeValue (m.free + 8) % 16 = 0 then 1 else 0) ++ leBytes 2 m.warden.vdrv ++
        leBytes 2 (((List.range 8).map fun i => Config.freeValue (m.free + i) % 65536).foldl min 65535) } := by
  simp [bridgeTestBody, hown, htest, bitOf]

end

/-- Settles O22: the body of each command under its conditions, and what a latch cleared leaves of the drive. -/
theorem driveCommandsDo : Obligations.DriveCommandsDo := by
  intro s p b a
  refine ⟨?_, ?_, ?_⟩
  · intro m hb hcause htimes
    have hbody := driveFaultClearBody_clears (c := cmdOf driveFaultClearSpec p s) (ModuleState.clearFails_none hb hcause htimes)
    obtain ⟨⟨hfault, hregen⟩, hlatch⟩ := ModuleState.unlatch_cleared hb
    exact ⟨_, does_of_ok rfl hbody rfl, ModuleState.getElem?_of_drive (m.unlatch_length a) fun _ => Prod.ext hfault hregen, hlatch⟩
  · intro m hstate hpull hhold hspan hduty harm hmode hb
    exact does_of_ok rfl (solenoidSetBody_on (c := cmdOf solenoidSetSpec p s) hstate hpull hhold hspan hduty harm hmode hb) rfl
  · intro m currents follow hown htest
    exact does_of_ok rfl (bridgeTestBody_unowned (c := cmdOf bridgeTestSpec p s) hown htest) rfl

end Sys2Proof.Machine
end

section
/-! What the rows of bridges and feedback leave alone (R133, R184). Each operation of a row is said once to leave every part alone that sees none of what
it changes; a row then leaves the rest of the module alone as one such part. -/

namespace Sys2Proof.Machine

/-! ### A row and the part of the module it leaves alone -/

/-- A row leaves a part of the module, the queue and memory alone. -/
def Leaves {β : Type} (π : ModuleState → β) (i : Instr) (t : Nat) : Prop :=
  ∀ s s', exec i s = .next s' → s'.pending = s.pending ∧ s'.mem = s.mem ∧ π s'.m = π (s.then t)

/-- A happening leaves alone what its effect leaves alone. -/
theorem leaves_of_happen {β : Type} {π : ModuleState → β} {i : Instr} {t : Nat} {ok : Bool} {f : ModuleState → ModuleState}
    (he : ∀ s, exec i s = happen ok t f s) (h : ∀ m, π (f m) = π m) : Leaves π i t := by
  intro s s' hs
  rcases happen_cases s ((he s).symm.trans hs) with ⟨-, ho⟩ | ⟨-, ho⟩
  · injection ho with ho
    rw [ho]
    exact ⟨rfl, rfl, h _⟩
  · cases ho

/-- A module apart from the parts that set puts into it and from what events and replies touch: those as power-on leaves them. -/
def ModuleState.apart (set : ModuleState → ModuleState → ModuleState) (m : ModuleState) : ModuleState :=
  (set {} m).withComm (ModuleState.comm {})

section

variable {set : ModuleState → ModuleState → ModuleState} {t : Nat}

/-- A row that leaves the module apart from some parts alone keeps all but those. -/
theorem Leaves.keeps {i : Instr} (h : Leaves (ModuleState.apart set) i t) (s : State)
    (hset : ∀ n m : ModuleState, (set n (m.apart set)).withComm n.comm = (set n m).withComm n.comm := by intros; rfl)
    (hself : ∀ n : ModuleState, (set n n).withComm n.comm = n := by intros; rfl) : Keeps i t s set := by
  intro s' hs
  obtain ⟨hpending, hmem, hapart⟩ := h s s' hs
  refine ⟨hpending, hmem, ?_⟩
  rw [← hset, ← hapart, hset, hself]

theorem keeps_all {l : List Instr} (h : ∀ i ∈ l, Leaves (ModuleState.apart set) i t) (s : State)
    (hset : ∀ n m : ModuleState, (set n (m.apart set)).withComm n.comm = (set n m).withComm n.comm := by intros; rfl)
    (hself : ∀ n : ModuleState, (set n n).withComm n.comm = n := by intros; rfl) : ∀ i ∈ l, Keeps i t s set :=
  fun i hi => (h i hi).keeps s hset hself

end

/-! ### Bridges -/

/-- A part of the module that current control leaves alone: changes of drives, and events, do not touch it. -/
structure OffBridges {β : Type} (π : ModuleState → β) : Prop where
  drive : ∀ m a f, π (m.setDrive a f) = π m
  comm : ∀ m c, π (m.withComm c) = π m

section

variable {β : Type} {π : ModuleState → β} (h : OffBridges π) (m : ModuleState) (a : Nat)
include h

theorem OffBridges.logIf (b : Bool) (code source : Nat) (items : List Int) : π (m.logIf b code source items) = π m := h.comm _ _

theorem OffBridges.openPhase (b : Bool) (current : Int) : π (m.openPhase a b current) = π m := by
  unfold ModuleState.openPhase
  dsimp only
  split
  · rfl
  · simp only [ModuleState.opened, ModuleState.saturated, apply_ite π, h.logIf, h.drive, ite_self]

theorem OffBridges.currentLoop (ia ib point : Int) (chop : Nat × Nat) : π (m.currentLoop a ia ib point chop) = π m := by
  simp only [ModuleState.currentLoop, ModuleState.sampleWindows, apply_ite π, h.logIf, h.drive, ite_self]

omit m
variable (t : Nat)

theorem OffBridges.currentLoopUpdate (ia ib temp : Int) (ca cb : Nat) : Leaves π (.currentLoopUpdate t a ia ib temp ca cb) t :=
  leaves_of_happen (fun _ => rfl) fun m => by
    simp only [ModuleState.openSluices, apply_ite π, h.currentLoop, h.openPhase, ite_self]

theorem OffBridges.holdDelayExpiry : Leaves π (.holdDelayExpiry t a) t :=
  leaves_of_happen (fun _ => rfl) fun m => by simp only [apply_ite π, h.drive, ite_self]

theorem OffBridges.solenoidPullEnd : Leaves π (.solenoidPullEnd t a) t :=
  leaves_of_happen (fun _ => rfl) fun m => by simp only [apply_ite π, h.drive, ite_self]

theorem OffBridges.gateSupplyRecovered : Leaves π (.gateSupplyRecovered t a) t := leaves_of_happen (fun _ => rfl) fun m => h.drive m a _

end

/-! ### Stops and faults of axes -/

/-- A part of the module that stops, latches and faults of axes leave alone: changes of axes, drives and portals, and events, do not touch it. -/
structure OffFaults {β : Type} (π : ModuleState → β) : Prop extends OffMotion π where
  portal : ∀ m p f, π (m.setPortal p f) = π m

section

variable {β : Type} {π : ModuleState → β} (h : OffFaults π)
include h

theorem OffFaults.offAxis (a : Nat) : OffAxis a π := ⟨fun m => h.axis m a, fun m => h.drive m a, h.portal, h.comm⟩

theorem OffFaults.latch (m : ModuleState) (a : Nat) (cause : FaultCode) (mask : Nat) (ia ib : Int) : π (m.latch a cause mask ia ib) = π m :=
  (h.offAxis a).latch m cause mask ia ib

theorem OffFaults.enterStep (m : ModuleState) (p : Nat) (st : StepState) : π (m.enterStep p st) = π m := by
  simp only [ModuleState.enterStep, h.toOffMotion.logIf, h.portal]

theorem OffFaults.stepFault (m : ModuleState) (p : Nat) : π (m.stepFault p) = π m := by
  unfold ModuleState.stepFault
  split
  · simp only [ModuleState.halts, h.enterStep, h.toOffMotion.stopAxis]
  · rfl

theorem OffFaults.moveStep (m : ModuleState) (p : Nat) (target : Int) : π (m.moveStep p target) = π m := by
  unfold ModuleState.moveStep
  split
  · rfl
  · simp only [ModuleState.place, apply_ite π, h.toOffMotion.replaceBy, ite_self]

theorem OffFaults.tellStall (m : ModuleState) (a : Nat) : π (m.tellStall a) = π m := by
  unfold ModuleState.tellStall
  split
  · exact h.portal _ _ _
  · rfl

variable (t : Nat)

theorem OffFaults.stepTimeout (p : Nat) : Leaves π (.stepTimeout t p) t :=
  leaves_of_happen (fun _ => rfl) fun m => by simp only [apply_ite π, h.stepFault, ite_self]

theorem OffFaults.stepRestowWait (p : Nat) : Leaves π (.stepRestowWait t p) t :=
  leaves_of_happen (fun _ => rfl) fun m => by simp only [apply_ite π, h.moveStep, h.portal, ite_self]

variable (a : Nat)

theorem OffFaults.stallWindowExceeded : Leaves π (.stallWindowExceeded t a) t :=
  leaves_of_happen (fun _ => rfl) fun m => by
    extract_lets d filter err warns m1 act m2
    have hm1 : π m1 = π m := by simp only [m1, apply_ite π, h.toOffMotion.logIf, h.drive, ite_self]
    have hm2 : π m2 = π m := by simp only [m2, ModuleState.log, h.comm, h.drive, hm1]
    clear_value m2 m1 act
    split
    · split
      · exact hm2
      · simp only [h.tellStall, (h.offAxis a).invalidate, h.toOffMotion.stopAxis, hm2]
      · simp only [h.tellStall, (h.offAxis a).invalidate, h.toOffMotion.bridgeOff, h.axis, hm2]
    · exact hm1

theorem OffFaults.bridgeOvercurrentTrip (tripped : Nat) (dead : Bool) (ia ib : Int) : Leaves π (.bridgeOvercurrentTrip t a tripped dead ia ib) t :=
  leaves_of_happen (fun _ => rfl) fun m => by simp only [apply_ite π, h.latch, ite_self]

theorem OffFaults.bridgeOvertemp : Leaves π (.bridgeOvertemp t a) t := leaves_of_happen (fun _ => rfl) fun m => by simp only [h.latch, h.drive]

theorem OffFaults.openPhaseDetected (follows : Bool) : Leaves π (.openPhaseDetected t a follows) t :=
  leaves_of_happen (fun _ => rfl) fun m => by simp only [apply_ite π, h.latch, ite_self]

theorem OffFaults.gateSupplyFault : Leaves π (.gateSupplyFault t a) t :=
  leaves_of_happen (fun _ => rfl) fun m => by simp only [apply_ite π, h.latch, h.drive, ite_self]

theorem OffFaults.sluiceCheck (follow : Nat) : Leaves π (.sluiceCheck t a follow) t :=
  leaves_of_happen (fun _ => rfl) fun m => by simp only [apply_ite π, h.latch, h.drive, ite_self]

end

/-! ### Regeneration, validation and lost signals -/

section

variable {β : Type} {π : ModuleState → β} (t : Nat)

section

variable (h : OffSupply π) (hwarden : ∀ m w, π (ModuleState.setWarden m fun _ => w) = π m)
include h hwarden

theorem OffSupply.readBulk (m : ModuleState) (bulk : Nat) : π (m.readBulk bulk) = π m :=
  (h.followVdrv _ _).trans (hwarden m { m.warden with bulk := bulk })

variable (hcommon : ∀ m c, π { m with driveCommon := c } = π m)
include hcommon

theorem OffSupply.regenLimitEnter (bulk clamp : Nat) : Leaves π (.regenLimitEnter t bulk clamp) t :=
  leaves_of_happen (ok := true) (fun _ => rfl) fun m => by
    simp only [ModuleState.clampEnergy, apply_ite π, h.log, hcommon, h.readBulk hwarden, ite_self]

theorem OffSupply.regenLimitEnd (bulk : Nat) : Leaves π (.regenLimitEnd t bulk) t :=
  leaves_of_happen (ok := true) (fun _ => rfl) fun m => by simp only [hcommon, h.readBulk hwarden]

end

variable (h : OffEdges π) (a : Nat)
include h

theorem OffEdges.unvalid (m : ModuleState) : π (m.unvalid a) = π m := (h.offAxis a).unvalid m

theorem OffEdges.loseSignal (m : ModuleState) (cause : Nat) : π (m.loseSignal a cause) = π m := by
  simp only [ModuleState.loseSignal, apply_ite π, h.invalidate, h.log, h.fb, h.acceptEdges, ite_self]

theorem OffEdges.sluiceClosedReadback : Leaves π (.sluiceClosedReadback t a) t :=
  leaves_of_happen (fun _ => rfl) fun m => by simp only [apply_ite π, h.enableBridge, h.drive, ite_self]

theorem OffEdges.angleValidationDone : Leaves π (.angleValidationDone t a) t :=
  leaves_of_happen (fun _ => rfl) fun m => by
    simp only [apply_ite π, h.toOffMotion.start, h.log, h.unvalid, h.axis, h.drive, h.acceptEdges, ite_self]

theorem OffEdges.encSupplyOverload (current : Nat) : Leaves π (.encSupplyOverload t a current) t :=
  leaves_of_happen (fun _ => rfl) fun m => by simp only [apply_ite π, h.loseSignal, h.log, h.fb, ite_self]

theorem OffEdges.encSignalLoss (supply : Bool) : Leaves π (.encSignalLoss t a supply) t :=
  leaves_of_happen (fun _ => rfl) fun m => by simp only [apply_ite π, h.loseSignal, ite_self]

end

/-! ### Feedback -/

/-- A part of the module that readings of feedback leave alone: changes of feedback, and events, do not touch it. -/
structure OffFeedback {β : Type} (π : ModuleState → β) : Prop where
  fb : ∀ m a f, π (m.setFb a f) = π m
  comm : ∀ m c, π (m.withComm c) = π m

section

variable {β : Type} {π : ModuleState → β} (h : OffFeedback π) (t a : Nat)
include h

theorem OffFeedback.setTerm (m : ModuleState) (on : Bool) (cause : Nat) : π (m.setTerm a on cause) = π m := (h.comm _ _).trans (h.fb _ _ _)

theorem OffFeedback.edgeFaultsReport : Leaves π (.edgeFaultsReport t a) t :=
  leaves_of_happen (fun _ => rfl) fun m => by simp only [ModuleState.log, apply_ite π, h.comm, h.fb, ite_self]

theorem OffFeedback.encSupplyRetry : Leaves π (.encSupplyRetry t a) t :=
  leaves_of_happen (fun _ => rfl) fun m => by simp only [apply_ite π, h.fb, ite_self]

theorem OffFeedback.encSignalRestored : Leaves π (.encSignalRestored t a) t :=
  leaves_of_happen (fun _ => rfl) fun m => by simp only [apply_ite π, h.fb, ite_self]

theorem OffFeedback.termPartnerTimeout : Leaves π (.termPartnerTimeout t a) t :=
  leaves_of_happen (fun _ => rfl) fun m => by simp only [apply_ite π, h.setTerm, ite_self]

theorem OffFeedback.termPartnerReturn : Leaves π (.termPartnerReturn t a) t :=
  leaves_of_happen (fun _ => rfl) fun m => by simp only [apply_ite π, h.setTerm, ite_self]

theorem OffFeedback.speedStillTimeout : Leaves π (.speedStillTimeout t a) t :=
  leaves_of_happen (fun _ => rfl) fun m => by simp only [ModuleState.standStill, apply_ite π, h.fb, ite_self]

end

/-- A part of the module that the readings of a serial sensor leave alone, the invalid position they tell its portal of included. -/
structure OffReadings {β : Type} (π : ModuleState → β) : Prop extends OffFeedback π where
  axis : ∀ m a f, π (m.setAxis a f) = π m
  portal : ∀ m p f, π (m.setPortal p f) = π m

section

variable {β : Type} {π : ModuleState → β} (h : OffReadings π) (m : ModuleState) (a : Nat)
include h

theorem OffReadings.invalidate (cause : Nat) : π (m.invalidate a cause) = π m := by
  have hlost : ∀ m : ModuleState, π (m.tellLost a) = π m := fun m => by
    unfold ModuleState.tellLost
    split
    · exact h.portal _ _ _
    · rfl
  simp only [ModuleState.invalidate, ModuleState.unvalid, ModuleState.logIf, apply_ite π, h.comm, hlost, h.axis, ite_self]

theorem OffReadings.badReading (cause : Nat) : π (m.badReading a cause) = π m := by
  simp only [ModuleState.badReading, ModuleState.log, apply_ite π, h.invalidate, h.comm, h.fb, ite_self]

theorem OffReadings.goodReading (word : Nat) : π (m.goodReading a word) = π m := by
  simp only [ModuleState.goodReading, ModuleState.logIf, apply_ite π, h.axis, h.comm, h.fb, ite_self]

omit m in
theorem OffReadings.sspReading (t : Nat) (started : Bool) (frame copy : Nat) : Leaves π (.sspReading t a started frame copy) t :=
  leaves_of_happen (fun _ => rfl) fun m => by
    dsimp only
    split
    · rfl
    split
    · simp only [h.badReading, h.fb]
    · simp only [apply_ite π, h.badReading, h.goodReading, h.fb, ite_self]

end

end Sys2Proof.Machine
end

section
/-! What the rows of obstacles, the ring, load channels and field I/O leave alone (R184, R222, R251, R278, R295), for every part of the module that
sees none of what they change. -/

namespace Sys2Proof.Machine

/-! ### Obstacles and profiles -/

/-- A part of the module that the force estimates of portals leave alone: changes of obstacles and portals do not touch it. -/
structure OffEstimates {β : Type} (π : ModuleState → β) : Prop where
  ob : ∀ m p f, π (m.setOb p f) = π m
  portal : ∀ m p f, π (m.setPortal p f) = π m

/-- A part of the module that obstacle detection leaves alone: changes of obstacles, and events, do not touch it. -/
structure OffObstacles {β : Type} (π : ModuleState → β) : Prop where
  ob : ∀ m p f, π (ModuleState.setOb m p f) = π m
  comm : ∀ m c, π (ModuleState.withComm m c) = π m

section

variable {β : Type} {π : ModuleState → β} (t p : Nat)

theorem OffEstimates.estimateDoor (h : OffEstimates π) (m : ModuleState) : π (m.estimateDoor p) = π m := (h.portal _ _ _).trans (h.ob _ _ _)

theorem OffEstimates.forceEstimateUpdate (h : OffEstimates π) : Leaves π (.forceEstimateUpdate t p) t :=
  leaves_of_happen (fun _ => rfl) fun m => by
    dsimp only
    split
    · rfl
    split
    · simp only [ModuleState.estimateStep, apply_ite π, h.estimateDoor, h.ob, ite_self]
    · simp only [apply_ite π, h.estimateDoor, h.ob, ite_self]

theorem OffObstacles.keExceeded (h : OffObstacles π) : Leaves π (.keExceeded t p) t :=
  leaves_of_happen (fun _ => rfl) fun m => by simp only [ModuleState.log, apply_ite π, h.comm, h.ob, ite_self]

theorem OffObstacles.edgeDegradeEnd (h : OffObstacles π) : Leaves π (.edgeDegradeEnd t p) t :=
  leaves_of_happen (fun _ => rfl) fun m => by simp only [apply_ite π, h.ob, ite_self]

theorem OffMotion.slow (h : OffMotion π) (m : ModuleState) (a value : Nat) : π (m.slow a value) = π m := by
  simp only [ModuleState.slow, apply_ite π, h.planAnew, h.axis, ite_self]

theorem OffMotion.edgeFaultTimeout (h : OffMotion π) (hob : OffObstacles π) : Leaves π (.edgeFaultTimeout t p) t :=
  leaves_of_happen (fun _ => rfl) fun m => by simp only [ModuleState.log, apply_ite π, h.comm, h.slow, hob.ob, ite_self]

theorem profileScheduleLaunch_leaves (hprofiles : ∀ m x, π { m with profiles := x } = π m) (hcomm : ∀ m c, π (ModuleState.withComm m c) = π m) :
    Leaves π (.profileScheduleLaunch t) t :=
  leaves_of_happen (ok := true) (fun _ => rfl) fun m => by
    dsimp only
    split
    · simp only [ModuleState.profileLate, ModuleState.log, apply_ite π, hprofiles, hcomm, ite_self]
    · rfl

theorem stepTimerRestore_leaves (haxis : ∀ m a f, π (ModuleState.setAxis m a f) = π m) (hcomm : ∀ m c, π (ModuleState.withComm m c) = π m)
    (a : Nat) (passed : Bool) : Leaves π (.stepTimerRestore t a passed) t :=
  leaves_of_happen (fun _ => rfl) fun m => by simp only [ModuleState.log, apply_ite π, hcomm, haxis, ite_self]

end

/-! ### The dike ring -/

/-- A part of the module that the ring leaves alone: changes of the ring, and events and replies, do not touch it. -/
structure OffRing {β : Type} (π : ModuleState → β) : Prop where
  ring : ∀ m f, π (ModuleState.setRing m f) = π m
  comm : ∀ m c, π (ModuleState.withComm m c) = π m

section

variable {β : Type} {π : ModuleState → β} (h : OffRing π) (m : ModuleState)
include h

theorem OffRing.log (code source : Nat) (items : List Int) : π (m.log code source items) = π m := h.comm _ _

theorem OffRing.logIf (b : Bool) (code source : Nat) (items : List Int) : π (m.logIf b code source items) = π m := h.comm _ _

theorem OffRing.safety (i : Nat) (f : Safety → Safety) : π (m.setSafety i f) = π m := h.ring _ _

theorem OffRing.test (f : RingTest → RingTest) : π (m.setTest f) = π m := h.ring _ _

theorem OffRing.noteObs : π m.noteObs = π m := h.ring _ _

theorem OffRing.noteRelease : π m.noteRelease = π m := (h.logIf _ _ _ _ _).trans (h.ring _ _)

theorem OffRing.takeLatch (c : RingLatch) : π (m.takeLatch c) = π m := h.ring _ _

theorem OffRing.unproveSwitch (a b : Bool) : π (m.unproveSwitch a b) = π m := h.ring _ _

theorem OffRing.startPulse (i : Nat) : π (m.startPulse i) = π m := (h.noteObs _).trans (h.safety _ _ _)

theorem OffRing.testPassed (i : Nat) : π (m.testPassed i) = π m := (h.ring _ _).trans (h.safety _ _ _)

theorem OffRing.testDone (i res : Nat) : π (m.testDone i res) = π m := by
  unfold ModuleState.testDone
  split
  · rfl
  · exact h.log _ _ _ _

theorem OffRing.endTest : π m.endTest = π m := by
  unfold ModuleState.endTest
  split
  · rfl
  · simp only [ModuleState.settle, h.comm, h.ring]

theorem OffRing.endIfDone : π m.endIfDone = π m := by
  unfold ModuleState.endIfDone
  split
  · simp only [apply_ite π, h.endTest, ite_self]
  · rfl

theorem OffRing.endProof (x : RingTest) : π (m.endProof x) = π m := by
  simp only [ModuleState.endProof, apply_ite π, h.endTest, h.testDone, h.testPassed, h.noteObs, h.test, h.safety, ite_self]

theorem OffRing.dropPulse (i : Nat) : π (m.dropPulse i) = π m := by
  unfold ModuleState.dropPulse
  split
  · rfl
  · simp only [apply_ite π, h.endProof, h.endIfDone, h.testDone, h.test, ite_self]

theorem OffRing.openSwitch (i chans cause mask : Nat) : π (m.openSwitch i chans cause mask) = π m := by
  simp only [ModuleState.openSwitch, ModuleState.saturated, h.dropPulse, h.noteObs, h.logIf, h.ring, h.safety]

theorem OffRing.stepTest (i : Nat) : π (m.stepTest i) = π m := by
  unfold ModuleState.stepTest
  split
  · rfl
  split
  · rfl
  · simp only [apply_ite π, h.endProof, h.endIfDone, h.testDone, h.startPulse, h.noteObs, h.test, h.safety, ite_self]

theorem OffRing.judgePulse (i cur volt : Nat) : π (m.judgePulse i cur volt) = π m := by
  simp only [ModuleState.judgePulse, apply_ite π, h.endIfDone, h.testDone, h.test, h.logIf, h.log, h.unproveSwitch, h.takeLatch, h.testPassed,
    h.noteObs, h.safety, ite_self]

theorem OffRing.judgeStep (x : RingTest) (minMa k cur vA vB : Nat) : π (m.judgeStep x minMa k cur vA vB) = π m := by
  simp only [ModuleState.judgeStep, apply_ite π, h.endProof, h.noteObs, h.test, h.safety, h.log, h.unproveSwitch, ite_self]

theorem OffRing.evaluateIsland (i : Nat) : π (m.evaluateIsland i) = π m := by
  unfold ModuleState.evaluateIsland
  extract_lets x w m1 quench missing cause m2 m3 shut m4
  have hm1 : π m1 = π m := (h.safety _ _ _).trans (h.safety _ _ _)
  have hm2 : π m2 = π m := by simp only [m2, apply_ite π, h.openSwitch, hm1, ite_self]
  have hm3 : π m3 = π m := by
    unfold m3
    split
    · simp only [apply_ite π, h.endProof, hm2, ite_self]
    · exact hm2
  simp only [m4, h.noteRelease, h.stepTest, h.logIf, h.ring, hm3]

omit m
variable (t sw : Nat)

theorem OffRing.safetyEvaluation : Leaves π (.safetyEvaluation t sw) t :=
  leaves_of_happen (fun _ => rfl) fun m => by simp only [apply_ite π, h.evaluateIsland, ite_self]

theorem OffRing.closeConfirmElapsed : Leaves π (.closeConfirmElapsed t sw) t :=
  leaves_of_happen (fun _ => rfl) fun m => by simp only [apply_ite π, h.noteObs, h.ring, h.safety, ite_self]

theorem OffRing.releaseConfirmElapsed (right : Bool) : Leaves π (.releaseConfirmElapsed t sw right) t :=
  leaves_of_happen (fun _ => rfl) fun m => by simp only [apply_ite π, h.noteRelease, h.safety, ite_self]

theorem OffRing.discrepancyLatch (kind index : Nat) : Leaves π (.discrepancyLatch t sw kind index) t :=
  leaves_of_happen (fun _ => rfl) fun m => by
    dsimp only
    split
    · rfl
    · simp only [apply_ite π, h.log, h.ring, h.takeLatch, ite_self]

theorem OffRing.compareLost : Leaves π (.compareLost t sw) t :=
  leaves_of_happen (fun _ => rfl) fun m => by simp only [apply_ite π, h.noteRelease, h.log, h.safety, h.openSwitch, ite_self]

theorem OffRing.compareResumed : Leaves π (.compareResumed t sw) t :=
  leaves_of_happen (fun _ => rfl) fun m => by simp only [apply_ite π, h.safety, ite_self]

theorem OffRing.positionWordStale (p : Nat) : Leaves π (.positionWordStale t sw p) t := leaves_of_happen (fun _ => rfl) fun m => h.safety m _ _

theorem OffRing.ringReadbackFault (obs : Nat) : Leaves π (.ringReadbackFault t obs) t :=
  leaves_of_happen (fun _ => rfl) fun m => by
    dsimp only
    split
    · rfl
    split
    · rfl
    · rw [h.log]
      split <;> simp only [h.unproveSwitch, h.takeLatch, h.ring]

theorem OffRing.ringTestPulseDue : Leaves π (.ringTestPulseDue t sw) t :=
  leaves_of_happen (fun _ => rfl) fun m => by simp only [apply_ite π, h.safety, h.startPulse, ite_self]

theorem OffRing.ringTestPulseJudged (current vA vB : Nat) : Leaves π (.ringTestPulseJudged t sw current vA vB) t :=
  leaves_of_happen (fun _ => rfl) fun m => by
    split
    · rfl
    split
    · exact h.judgePulse _ _ _ _
    split
    · rfl
    split
    · exact h.judgeStep _ _ _ _ _ _ _
    · rfl

theorem OffRing.ringTestOverdue : Leaves π (.ringTestOverdue t sw) t :=
  leaves_of_happen (fun _ => rfl) fun m => by simp only [apply_ite π, h.log, h.safety, ite_self]

end

/-! ### Load channels -/

section

variable {β : Type} {π : ModuleState → β} (h : OffLoads π) (m : ModuleState) (n : Nat)
include h

theorem OffLoads.log (code source : Nat) (items : List Int) : π (m.log code source items) = π m := h.comm _ _

theorem OffLoads.turnOffEdge (conducted : Bool) : π (m.turnOffEdge n conducted) = π m := by
  simp only [ModuleState.turnOffEdge, apply_ite π, h.load, h.spillway, ite_self]

theorem OffLoads.setPhase (on : Bool) : π (m.setPhase n on) = π m := by
  simp only [ModuleState.setPhase, apply_ite π, h.turnOffEdge, h.load, ite_self]

theorem OffLoads.pgBegin (copy pg : Nat) : π (m.pgBegin copy pg) = π m :=
  (ModuleState.each_frame _ _ _ π fun m n => h.setPhase m n _).trans (h.loads _ _)

theorem OffLoads.pgEdges (copy pg rise fall at_ : Nat) : π (m.pgEdges copy pg rise fall at_) = π m :=
  m.each_frame _ _ π fun m n => by simp only [apply_ite π, h.setPhase, ite_self]

theorem OffLoads.cutLs : π (m.cutLs n) = π m := by simp only [ModuleState.cutLs, apply_ite π, h.load, h.lsOff, ite_self]

omit m
variable (t : Nat)

theorem OffLoads.lsCurrentLimit (current : Nat) : Leaves π (.lsCurrentLimit t n current) t :=
  leaves_of_happen (fun _ => rfl) fun m => by simp only [apply_ite π, h.load, ite_self]

theorem OffLoads.lsThermalShutdown (temp : Int) : Leaves π (.lsThermalShutdown t n temp) t :=
  leaves_of_happen (fun _ => rfl) fun m => by simp only [ModuleState.saturated, apply_ite π, h.logIf, h.load, h.lsOff, ite_self]

theorem OffLoads.lsCooled : Leaves π (.lsCooled t n) t :=
  leaves_of_happen (fun _ => rfl) fun m => by simp only [apply_ite π, h.load, h.lsFollow, ite_self]

theorem OffLoads.lsRetryReset : Leaves π (.lsRetryReset t n) t :=
  leaves_of_happen (fun _ => rfl) fun m => by simp only [apply_ite π, h.load, ite_self]

theorem OffLoads.pgPeriodEdge (copy pg : Nat) (start : Bool) (rise fall : Nat) : Leaves π (.pgPeriodEdge t copy pg start rise fall) t :=
  leaves_of_happen (fun _ => rfl) fun m => by
    cases m.pgStart copy pg with
    | none => simp only [apply_ite π, h.pgBegin, ite_self]
    | some at_ => simp only [apply_ite π, h.pgBegin, h.pgEdges, ite_self]

theorem OffLoads.lspwmEdge (pin : Nat) (level : Bool) : Leaves π (.lspwmEdge t pin level) t :=
  leaves_of_happen (fun _ => rfl) fun m => by
    dsimp only
    split
    · rfl
    · exact (ModuleState.each_frame _ _ _ π fun m n => by simp only [apply_ite π, h.load, h.turnOffEdge, ite_self]).trans (h.loads _ _)

theorem OffLoads.lsOpenLoadTimeout (amount : Nat) : Leaves π (.lsOpenLoadTimeout t n amount) t :=
  leaves_of_happen (fun _ => rfl) fun m => by simp only [apply_ite π, h.logIf, h.load, ite_self]

theorem OffLoads.lsOffDiagJudged (volt : Nat) : Leaves π (.lsOffDiagJudged t n volt) t :=
  leaves_of_happen (fun _ => rfl) fun m => by simp only [apply_ite π, h.logIf, h.load, ite_self]

theorem OffLoads.vlsLevelChange (hall : ∀ m f, π { m with loads := updAll m.loads f } = π m) (vls : Nat) : Leaves π (.vlsLevelChange t vls) t :=
  leaves_of_happen (ok := true) (fun _ => rfl) fun m => by
    have hcut : ∀ m : ModuleState, π (m.each nums16 fun m n => m.cutLs n) = π m := fun m => m.each_frame _ _ π fun m n => h.cutLs m n
    simp only [apply_ite π, h.log, h.logIf, hcut, h.loads, hall, ite_self]

theorem OffLoads.vlsRestartStep : Leaves π (.vlsRestartStep t) t :=
  leaves_of_happen (ok := true) (fun _ => rfl) fun m => by
    dsimp only
    split
    · rfl
    split
    · rfl
    · simp only [h.load, h.loads, h.lsFollow]

theorem OffLoads.unlockPulseEnd (p : Nat) : Leaves π (.unlockPulseEnd t p) t :=
  leaves_of_happen (fun _ => rfl) fun m => by simp only [ModuleState.lock, apply_ite π, h.lsOrder, ite_self]

end

/-! ### Field inputs and outputs -/

/-- A part of the module that field I/O leaves alone: changes of the foreland, and events, do not touch it. -/
structure OffField {β : Type} (π : ModuleState → β) : Prop where
  field : ∀ m f, π (ModuleState.setField m f) = π m
  comm : ∀ m c, π (ModuleState.withComm m c) = π m

section

variable {β : Type} {π : ModuleState → β} (h : OffField π) (m : ModuleState) (n : Nat)
include h

theorem OffField.log (code source : Nat) (items : List Int) : π (m.log code source items) = π m := h.comm _ _

theorem OffField.logIf (b : Bool) (code source : Nat) (items : List Int) : π (m.logIf b code source items) = π m := h.comm _ _

theorem OffField.fin (f : FieldIn → FieldIn) : π (m.setFin n f) = π m := h.field m fun x => { x with inputs := upd x.inputs (n - 1) f }

theorem OffField.fout (f : FieldOut → FieldOut) : π (m.setFout n f) = π m := h.field m fun x => { x with outputs := upd x.outputs (n - 1) f }

theorem OffField.fouts (f : ModuleState → Nat → FieldOut → FieldOut) : π (m.each nums16 fun m n => m.setFout n (f m n)) = π m :=
  m.each_frame _ _ π fun m n => h.fout m n (f m n)

theorem OffField.glitch : π (m.glitch n) = π m := (h.logIf _ _ _ _ _).trans (h.fin _ _ _)

theorem OffField.newLevel (level : Bool) (since : Nat) : π (m.newLevel n level since) = π m := by
  simp only [ModuleState.newLevel, ModuleState.queueEdge, apply_ite π, h.field, h.fin, ite_self]

theorem OffField.foFollow : π (m.foFollow n) = π m := by simp only [ModuleState.foFollow, apply_ite π, h.fout, ite_self]

theorem OffField.foRetry : π (m.foRetry n) = π m := (h.foFollow _ _).trans (h.fout _ _ _)

theorem OffField.foShutdown (cause code : Nat) (items : List Int) : π (m.foShutdown n cause code items) = π m := by
  simp only [ModuleState.foShutdown, ModuleState.saturated, h.logIf, h.fout]

omit m
variable (t : Nat)

theorem OffField.fieldInputEdge (sample2 : Bool) (volt : Int) (since : Nat) : Leaves π (.fieldInputEdge t n sample2 volt since) t :=
  leaves_of_happen (fun _ => rfl) fun m => by simp only [apply_ite π, h.fin, h.glitch, h.newLevel, ite_self]

theorem OffField.fiReversedTimeout (volt : Int) : Leaves π (.fiReversedTimeout t n volt) t :=
  leaves_of_happen (fun _ => rfl) fun m => by simp only [apply_ite π, h.logIf, h.fin, ite_self]

theorem OffField.sampleDisagreeTimeout : Leaves π (.sampleDisagreeTimeout t n) t :=
  leaves_of_happen (fun _ => rfl) fun m => by simp only [apply_ite π, h.log, h.fin, ite_self]

theorem OffField.supervisedMeasure (ohms : Nat) : Leaves π (.supervisedMeasure t n ohms) t :=
  leaves_of_happen (fun _ => rfl) fun m => by
    cases supBand ohms with
    | none => simp only [apply_ite π, h.glitch, h.fin, ite_self]
    | some b => simp only [apply_ite π, h.newLevel, h.glitch, h.fin, ite_self]

theorem OffField.supFaultTimeout : Leaves π (.supFaultTimeout t n) t :=
  leaves_of_happen (fun _ => rfl) fun m => by simp only [apply_ite π, h.log, h.fin, ite_self]

omit n in
theorem OffField.foRestartStep : Leaves π (.foRestartStep t) t :=
  leaves_of_happen (ok := true) (fun _ => rfl) fun m => by
    cases nums16.find? fun n => bit m.field.restore (n - 1) with
    | none => simp only [ite_self]
    | some n => simp only [apply_ite π, h.foFollow, h.field, ite_self]

theorem OffField.foOverloadTimeout (current : Nat) : Leaves π (.foOverloadTimeout t n current) t :=
  leaves_of_happen (fun _ => rfl) fun m => by simp only [apply_ite π, h.foShutdown, ite_self]

theorem OffField.foThermalShutdown (temp : Int) : Leaves π (.foThermalShutdown t n temp) t :=
  leaves_of_happen (fun _ => rfl) fun m => by simp only [apply_ite π, h.foShutdown, ite_self]

theorem OffField.foOverloadRetry : Leaves π (.foOverloadRetry t n) t :=
  leaves_of_happen (fun _ => rfl) fun m => by simp only [apply_ite π, h.foRetry, ite_self]

theorem OffField.foCooled : Leaves π (.foCooled t n) t :=
  leaves_of_happen (fun _ => rfl) fun m => by simp only [apply_ite π, h.foRetry, ite_self]

theorem OffField.foOpenWireTimeout (current : Nat) : Leaves π (.foOpenWireTimeout t n current) t :=
  leaves_of_happen (fun _ => rfl) fun m => by simp only [apply_ite π, h.logIf, h.fout, ite_self]

theorem OffField.foOffDiagJudged (volt : Nat) : Leaves π (.foOffDiagJudged t n volt) t :=
  leaves_of_happen (fun _ => rfl) fun m => by simp only [apply_ite π, h.logIf, h.fout, ite_self]

omit n in
theorem OffField.vfoLevelChange (vfo : Int) : Leaves π (.vfoLevelChange t vfo) t :=
  leaves_of_happen (ok := true) (fun _ => rfl) fun m => by
    simp only [ModuleState.restoreFo, apply_ite π, h.log, h.logIf, h.field, h.fouts, ite_self]

omit n in
theorem OffField.lane (m : ModuleState) (fore : Bool) (i : Nat) (f : Lane → Lane) : π (m.setLane fore i f) = π m := h.field _ _

omit n in
/-- A lane to the foreland lost touches the ring as well, whose inputs come over it, and takes the values measured last. -/
theorem OffField.loseLane (hring : OffRing π) (hfree : ∀ m k, π { m with free := k } = π m) (m : ModuleState) (lane : Nat) (fore : Bool) :
    π (m.loseLane lane fore) = π m := by
  unfold ModuleState.loseLane
  extract_lets m1 n m2 m3
  have hm2 : π m2 = π m := by simp only [m2, m1, ModuleState.saturated, apply_ite π, h.logIf, h.lane, ite_self]
  have hm3 : π m3 = π m := by
    unfold m3
    split <;> simp only [h.field, h.fouts, hfree, hring.noteObs, hring.safety, hm2]
  simp only [apply_ite π, h.logIf, hm3, ite_self]

omit n in
theorem OffField.barrierLaneLost (hring : OffRing π) (hfree : ∀ m k, π { m with free := k } = π m) (lane : Nat) (fore : Bool) :
    Leaves π (.barrierLaneLost t lane fore) t :=
  leaves_of_happen (fun _ => rfl) fun m => by simp only [apply_ite π, h.loseLane hring hfree, ite_self]

end

end Sys2Proof.Machine
end

section
/-! The rows of the drive side together (R133, R184, R222, R251, R278, R295): the module apart from the parts that a group of rows may change is such a
part as those rows leave alone. -/

namespace Sys2Proof.Machine

/-- What regeneration, sluices, validation and lost signals may change beside common parts: all that edges accepted do. -/
theorem offEdges_apart : OffEdges (ModuleState.apart fun n m =>
    { m with portals := n.portals, axes := n.axes, drives := n.drives, feedback := n.feedback, free := n.free, loads := n.loads
             loadCommon := n.loadCommon }) where
  axis _ _ _ := rfl
  drive _ _ _ := rfl
  comm _ _ := rfl
  load _ _ _ := rfl
  loads _ _ := rfl
  free _ _ := rfl
  fb _ _ _ := rfl
  portal _ _ _ := rfl

theorem offSupply_apart : OffSupply (ModuleState.apart fun n m =>
    { m with driveCommon := n.driveCommon, warden := n.warden, axes := n.axes, drives := n.drives, feedback := n.feedback, portals := n.portals
             free := n.free, loads := n.loads, loadCommon := n.loadCommon }) where
  axis _ _ _ := rfl
  drive _ _ _ := rfl
  comm _ _ := rfl
  load _ _ _ := rfl
  loads _ _ := rfl
  free _ _ := rfl
  fb _ _ _ := rfl
  portal _ _ _ := rfl
  unfed _ := rfl

theorem offBridges_apart : OffBridges (ModuleState.apart fun n m => { m with drives := n.drives }) :=
  ⟨fun _ _ _ => rfl, fun _ _ => rfl⟩

theorem offFaults_apart : OffFaults (ModuleState.apart fun n m => { m with portals := n.portals, axes := n.axes, drives := n.drives }) :=
  ⟨⟨fun _ _ _ => rfl, fun _ _ _ => rfl, fun _ _ => rfl⟩, fun _ _ _ => rfl⟩

theorem offFeedback_apart : OffFeedback (ModuleState.apart fun n m => { m with feedback := n.feedback }) :=
  ⟨fun _ _ _ => rfl, fun _ _ => rfl⟩

theorem offReadings_apart : OffReadings (ModuleState.apart fun n m => { m with portals := n.portals, axes := n.axes, feedback := n.feedback }) :=
  ⟨⟨fun _ _ _ => rfl, fun _ _ => rfl⟩, fun _ _ _ => rfl, fun _ _ _ => rfl⟩

theorem offObstacles_apart : OffObstacles (ModuleState.apart fun n m => { m with obst := n.obst }) :=
  ⟨fun _ _ _ => rfl, fun _ _ => rfl⟩

theorem offMotion_apart : OffMotion (ModuleState.apart fun n m => { m with obst := n.obst, axes := n.axes, drives := n.drives }) :=
  ⟨fun _ _ _ => rfl, fun _ _ _ => rfl, fun _ _ => rfl⟩

theorem offEstimates_apart : OffEstimates (ModuleState.apart fun n m => { m with portals := n.portals, obst := n.obst }) :=
  ⟨fun _ _ _ => rfl, fun _ _ _ => rfl⟩

theorem offRing_apart : OffRing (ModuleState.apart fun n m => { m with ring := n.ring }) :=
  ⟨fun _ _ => rfl, fun _ _ => rfl⟩

theorem offLoads_apart : OffLoads (ModuleState.apart fun n m => { m with free := n.free, loads := n.loads, loadCommon := n.loadCommon }) :=
  ⟨fun _ _ _ => rfl, fun _ _ => rfl, fun _ _ => rfl, fun _ _ => rfl⟩

theorem offField_apart : OffField (ModuleState.apart fun n m => { m with field := n.field }) :=
  ⟨fun _ _ => rfl, fun _ _ => rfl⟩

theorem offLane_apart : OffField (ModuleState.apart fun n m => { m with free := n.free, ring := n.ring, field := n.field }) :=
  ⟨fun _ _ => rfl, fun _ _ => rfl⟩

/-- Settles O59: every row leaves the module apart from its parts alone. -/
theorem driveSideRowsKeep : Obligations.DriveSideRowsKeep := by
  intro s t
  refine ⟨fun a p => ?_, fun a b c u v w => ?_, fun a b => ?_, fun a b p u v => ?_, fun a b p => ?_, fun a => ?_, fun a b c p => ?_, fun a => ?_,
    fun a => ?_, fun a => ?_, ?_, fun a b c d p => ?_, fun a b c d u p => ?_, fun a b p u => ?_, fun a p => ?_⟩
  · exact (stepTimerRestore_leaves t (fun _ _ _ => rfl) (fun _ _ => rfl) a p).keeps s
  · exact keeps_all (by simp [offBridges_apart.currentLoopUpdate, offBridges_apart.holdDelayExpiry, offBridges_apart.solenoidPullEnd,
      offBridges_apart.gateSupplyRecovered]) s
  · exact keeps_all (by simp [offSupply_apart.regenLimitEnter t (fun _ _ => rfl) fun _ _ => rfl,
      offSupply_apart.regenLimitEnd t (fun _ _ => rfl) fun _ _ => rfl]) s
  · exact keeps_all (by simp [offFaults_apart.stepTimeout, offFaults_apart.stepRestowWait, offFaults_apart.stallWindowExceeded,
      offFaults_apart.bridgeOvercurrentTrip, offFaults_apart.bridgeOvertemp, offFaults_apart.openPhaseDetected, offFaults_apart.gateSupplyFault,
      offFaults_apart.sluiceCheck]) s
  · exact keeps_all (by simp [offEdges_apart.sluiceClosedReadback, offEdges_apart.angleValidationDone, offEdges_apart.encSupplyOverload,
      offEdges_apart.encSignalLoss]) s
  · exact keeps_all (by simp [offFeedback_apart.edgeFaultsReport, offFeedback_apart.encSupplyRetry, offFeedback_apart.encSignalRestored,
      offFeedback_apart.termPartnerTimeout, offFeedback_apart.termPartnerReturn, offFeedback_apart.speedStillTimeout]) s
  · exact (offReadings_apart.sspReading a t p b c).keeps s
  · exact keeps_all (by simp [offObstacles_apart.keExceeded, offObstacles_apart.edgeDegradeEnd]) s
  · exact (offMotion_apart.edgeFaultTimeout t a ⟨fun _ _ _ => rfl, fun _ _ => rfl⟩).keeps s
  · exact (offEstimates_apart.forceEstimateUpdate t a).keeps s
  · exact (profileScheduleLaunch_leaves t (fun _ _ => rfl) fun _ _ => rfl).keeps s
  · exact keeps_all (by simp [offRing_apart.safetyEvaluation, offRing_apart.closeConfirmElapsed, offRing_apart.releaseConfirmElapsed,
      offRing_apart.discrepancyLatch, offRing_apart.compareLost, offRing_apart.compareResumed, offRing_apart.positionWordStale,
      offRing_apart.ringReadbackFault, offRing_apart.ringTestPulseDue, offRing_apart.ringTestPulseJudged, offRing_apart.ringTestOverdue]) s
  · exact keeps_all (by simp [offLoads_apart.lsCurrentLimit, offLoads_apart.lsThermalShutdown, offLoads_apart.lsCooled, offLoads_apart.lsRetryReset,
      offLoads_apart.pgPeriodEdge, offLoads_apart.lspwmEdge, offLoads_apart.lsOpenLoadTimeout, offLoads_apart.lsOffDiagJudged,
      offLoads_apart.vlsLevelChange t fun _ _ => rfl, offLoads_apart.vlsRestartStep, offLoads_apart.unlockPulseEnd]) s
  · exact keeps_all (by simp [offField_apart.fieldInputEdge, offField_apart.fiReversedTimeout, offField_apart.sampleDisagreeTimeout,
      offField_apart.supervisedMeasure, offField_apart.supFaultTimeout, offField_apart.foRestartStep, offField_apart.foOverloadTimeout,
      offField_apart.foThermalShutdown, offField_apart.foOverloadRetry, offField_apart.foCooled, offField_apart.foOpenWireTimeout,
      offField_apart.foOffDiagJudged, offField_apart.vfoLevelChange]) s
  · exact (offLane_apart.barrierLaneLost t ⟨fun _ _ => rfl, fun _ _ => rfl⟩ (fun _ _ => rfl) a p).keeps s

end Sys2Proof.Machine
end

section
/-! The feedback of one axis (R157 to R166): one element of the list of feedbacks, and what marks, motion and accepted edges leave of it. -/

namespace Sys2Proof.Machine

/-! ### Feedbacks of the list -/

/-- A part of every feedback. -/
def ModuleState.onFb {β : Type} (m : ModuleState) (g : Feedback → β) : List β := m.feedback.map g

section

variable {β : Type} {g : Feedback → β} {m n : ModuleState} {a : Nat}

/-- A feedback that does not exist is the default. -/
theorem ModuleState.fb_of_le (h : m.feedback.length ≤ a) : m.fb a = {} := by
  simp [ModuleState.fb, List.getD_eq_getElem?_getD, h]

/-- A feedback that is not as a missing one is in the list. -/
theorem ModuleState.fb_lt {b : β} (h : g (m.fb a) = b) (hb : g {} ≠ b) : a < m.feedback.length := by
  by_contra hlt
  exact hb (m.fb_of_le (Nat.le_of_not_lt hlt) ▸ h)

/-- A feedback of the list once it is changed. -/
theorem ModuleState.setFb_fb (f : Feedback → Feedback) (h : a < m.feedback.length) : (m.setFb a f).fb a = f (m.fb a) :=
  upd_getD_self m.feedback a f {} h

/-- What a change makes of a feedback holds of it, when it holds of a missing one. -/
theorem ModuleState.setFb_fb_of {P : Feedback → Prop} {f : Feedback → Feedback} (h : P (f (m.fb a))) (h0 : P {}) : P ((m.setFb a f).fb a) := by
  by_cases hlt : a < m.feedback.length
  · rwa [m.setFb_fb f hlt]
  · rwa [(m.setFb a f).fb_of_le (by simpa using hlt)]

/-- Two changes that agree on a feedback are the same. -/
theorem ModuleState.setFb_congr {f k : Feedback → Feedback} (h : f (m.fb a) = k (m.fb a)) : m.setFb a f = m.setFb a k := by
  refine congrArg (fun l => { m with feedback := l }) (List.ext_getElem? fun i => ?_)
  simp only [upd, List.getElem?_modify]
  rcases eq_or_ne a i with rfl | hne
  · by_cases hlt : a < m.feedback.length
    · simpa [ModuleState.fb, hlt] using h
    · simp [hlt]
  · simp [hne]

/-- A change that leaves a feedback as it is leaves the module so. -/
theorem ModuleState.setFb_same {f : Feedback → Feedback} (h : f (m.fb a) = m.fb a) : m.setFb a f = m := by
  rw [ModuleState.setFb_congr (k := id) h, ModuleState.setFb, upd, List.modify_id]

/-- Two changes of one feedback are one. -/
theorem ModuleState.setFb_setFb (f k : Feedback → Feedback) : (m.setFb a f).setFb a k = m.setFb a (k ∘ f) :=
  congrArg (fun l => { m with feedback := l }) (upd_upd m.feedback a f k)

/-- A change of a feedback that does not exist is none. -/
theorem ModuleState.setFb_of_le (f : Feedback → Feedback) (h : m.feedback.length ≤ a) : m.setFb a f = m := by
  rw [ModuleState.setFb, upd, List.modify_eq_self h]

/-- A part of the changed feedback, said of the list. -/
theorem ModuleState.setFb_getElem? (f : Feedback → Feedback) : (m.setFb a f).feedback[a]?.map g = m.feedback[a]?.map (g ∘ f) := by
  rw [ModuleState.setFb_feedback, upd_getElem?, Option.map_map]

/-- What holds of a feedback of the list, said of the list. -/
theorem ModuleState.getElem?_of_fb {g' : Feedback → β} (hl : n.feedback.length = m.feedback.length)
    (h : a < m.feedback.length → g (n.fb a) = g' (m.fb a)) : n.feedback[a]?.map g = m.feedback[a]?.map g' := by
  by_cases hlt : a < m.feedback.length
  · have hlt' : a < n.feedback.length := hl ▸ hlt
    simpa [ModuleState.fb, hlt, hlt'] using h hlt
  · have hlt' : ¬ a < n.feedback.length := hl ▸ hlt
    simp [hlt, hlt']

/-- A part that every feedback keeps, each one keeps. -/
theorem ModuleState.fb_of_onFb (h : n.onFb g = m.onFb g) : g (n.fb a) = g (m.fb a) := by
  have key : ∀ k : ModuleState, g (k.fb a) = (k.onFb g).getD a (g {}) := fun k => by
    simp only [ModuleState.fb, ModuleState.onFb, List.getD_eq_getElem?_getD, List.getElem?_map]
    cases k.feedback[a]? <;> rfl
  rw [key, key, h]

/-- A change that keeps a part of a feedback keeps that part of every feedback. -/
theorem ModuleState.setFb_onFb {f : Feedback → Feedback} (h : ∀ x, g (f x) = g x := by intro; rfl) : (m.setFb a f).onFb g = m.onFb g := by
  refine List.ext_getElem? fun i => ?_
  simp only [ModuleState.onFb, ModuleState.setFb_feedback, upd, List.getElem?_map, List.getElem?_modify]
  rcases eq_or_ne a i with rfl | hne
  · simp [Function.comp_def, h]
  · simp [hne]

end

/-! ### What leaves the feedbacks alone -/

theorem offMotion_feedback : OffMotion ModuleState.feedback := ⟨fun _ _ _ => rfl, fun _ _ _ => rfl, fun _ _ => rfl⟩

theorem offLoads_feedback : OffLoads ModuleState.feedback := ⟨fun _ _ _ => rfl, fun _ _ => rfl, fun _ _ => rfl, fun _ _ => rfl⟩

theorem offAxis_feedback (a : Nat) : OffAxis a ModuleState.feedback := ⟨fun _ _ => rfl, fun _ _ => rfl, fun _ _ _ => rfl, fun _ _ => rfl⟩

theorem offEdges_now : OffEdges ModuleState.now where
  axis _ _ _ := rfl
  drive _ _ _ := rfl
  comm _ _ := rfl
  load _ _ _ := rfl
  loads _ _ := rfl
  free _ _ := rfl
  fb _ _ _ := rfl
  portal _ _ _ := rfl

section

variable (m : ModuleState) (a : Nat)

theorem ModuleState.invalidate_feedback (cause : Nat) : (m.invalidate a cause).feedback = m.feedback := (offAxis_feedback a).invalidate m cause

theorem ModuleState.slow_feedback (value : Nat) : (m.slow a value).feedback = m.feedback := by
  unfold ModuleState.slow
  dsimp only
  split
  · rfl
  split
  · exact offMotion_feedback.planAnew _ a
  · rfl

theorem ModuleState.markAction_feedback (k : Mark) : (m.markAction a k).feedback = m.feedback := by
  unfold ModuleState.markAction
  split
  · rfl
  split
  · exact offLoads_feedback.lsOrder m _ _ _
  · exact offLoads_feedback.lsOrder m _ _ _
  · exact m.slow_feedback a _
  · exact offMotion_feedback.stopAxis m a _ _
  · rfl

/-- Faults write the fault counts of their feedback, and nothing else of any (R157, R159). -/
theorem ModuleState.edgeFault_feedback (n : Nat) : (m.edgeFault a n).feedback = (m.setFb a fun f =>
    { f with
      edgeFaults := satAdd max32 f.edgeFaults n
      faultTimes := (m.fb a).faultTimes.filter (fun t => m.now < t + seconds 1) ++ List.replicate n m.now
      faultsSecond := (f.faultsSecond.1 + n, f.faultsSecond.2) }).feedback := by
  unfold ModuleState.edgeFault
  dsimp only
  split
  · exact ModuleState.invalidate_feedback _ a 0
  · rfl

end

/-! ### What accepted edges leave of a feedback -/

/-- A part of a feedback that a change of the position leaves alone: the marks judged and the history kept do not touch it. -/
structure OffMarks {β : Type} (g : Feedback → β) : Prop where
  marks : ∀ f l, g { f with marks := l } = g f
  history : ∀ f l, g { f with history := l } = g f

section

variable {β : Type} {g : Feedback → β} (h : OffMarks g) (m : ModuleState) (a : Nat)
include h

theorem OffMarks.judgeMark (measured : Bool) (old new : Int) (i : Nat) : (m.judgeMark a measured old new i).onFb g = m.onFb g := by
  unfold ModuleState.judgeMark
  dsimp only
  split
  · rfl
  split
  · exact (congrArg (List.map g) (ModuleState.markAction_feedback _ a _)).trans (ModuleState.setFb_onFb fun f => h.marks f _)
  · exact ModuleState.setFb_onFb fun f => h.marks f _

theorem OffMarks.moved (old : Int) (at_ : Nat) : (m.moved a old at_).onFb g = m.onFb g := by
  unfold ModuleState.moved ModuleState.judgeMarks
  rw [ModuleState.each_frame _ axisNums _ (fun m => m.onFb g) fun m i => h.judgeMark m a true old _ i]
  exact ModuleState.setFb_onFb fun f => h.history f _

end

/-- What a feedback holds of its encoder supply (R151). -/
def Feedback.supply (f : Feedback) : Bool × Bool × Nat := (f.supplyOn, f.supplyFault, f.supplyAt)

theorem offMarks_supply : OffMarks Feedback.supply := ⟨fun _ _ => rfl, fun _ _ => rfl⟩

/-- A counting edge writes the speed status and its stamps alone (R168, R169). -/
theorem Feedback.edge_part {β : Type} {g : Feedback → β} (f : Feedback) (up : Bool) (at_ : Nat)
    (hg : ∀ f v l p u r, g { f with speed := v, tLast := l, tPrev := p, lastUp := u, reversed := r } = g f := by intros; rfl) :
    g (f.edge up at_) = g f := by
  unfold Feedback.edge
  dsimp only
  split
  · exact hg f _ _ _ _ _
  · exact hg f _ _ _ _ _
  · split <;> exact hg f _ _ _ _ _
  · split <;> exact hg f _ _ _ _ _

section

variable (m : ModuleState) (a : Nat)

theorem ModuleState.edgeFault_supply (n : Nat) : (m.edgeFault a n).onFb Feedback.supply = m.onFb Feedback.supply :=
  (congrArg (List.map _) (m.edgeFault_feedback a n)).trans ModuleState.setFb_onFb

theorem ModuleState.count'_supply (n : Int) (at_ : Nat) : (m.count' a n at_).onFb Feedback.supply = m.onFb Feedback.supply := by
  unfold ModuleState.count'
  dsimp only
  split
  · exact (offMarks_supply.moved _ a _ _).trans (ModuleState.setFb_onFb fun f => Feedback.edge_part (g := Feedback.supply) _ _ _)
  · exact (offMarks_supply.moved _ a _ _).trans (ModuleState.setFb_onFb fun f => Feedback.edge_part (g := Feedback.supply) _ _ _)

theorem ModuleState.invalidate_supply (cause : Nat) : (m.invalidate a cause).onFb Feedback.supply = m.onFb Feedback.supply :=
  congrArg (List.map _) (m.invalidate_feedback a cause)

theorem ModuleState.toothEdge_supply (at_ : Nat) (aim : Option Bool) : (m.toothEdge a at_ aim).onFb Feedback.supply = m.onFb Feedback.supply := by
  unfold ModuleState.toothEdge
  extract_lets f kind span before timed extra missing size
  have htimed : timed.onFb Feedback.supply = m.onFb Feedback.supply := ModuleState.setFb_onFb
  clear_value timed
  split
  · exact (timed.invalidate_supply a 2).trans htimed
  · extract_lets n m1 total r bad m2
    have hm1 : m1.onFb Feedback.supply = m.onFb Feedback.supply := by
      unfold m1
      split
      · exact htimed
      · exact (timed.count'_supply a n at_).trans htimed
    clear_value m1
    have hm2 : m2.onFb Feedback.supply = m.onFb Feedback.supply := .trans ModuleState.setFb_onFb hm1
    clear_value m2
    split
    · split
      · exact (ModuleState.invalidate_supply _ a 2).trans ((ModuleState.edgeFault_supply _ a 1).trans hm2)
      · exact hm2
    · exact .trans ModuleState.setFb_onFb hm1

theorem ModuleState.latchEdge_supply (index : Bool) (input : Nat) (rising : Bool) (at_ : Nat) (stamp : Nat × Nat) (i : Nat) :
    (m.latchEdge a index input rising at_ stamp i).onFb Feedback.supply = m.onFb Feedback.supply := by
  unfold ModuleState.latchEdge
  -- the captured position stays opaque: the kernel would compute it to compare the cases
  generalize (m.fb a).latches.getD i {} = l, m.posAtStamp a at_ = pos
  dsimp only
  split
  · rfl
  obtain ⟨state⟩ := l
  cases state with
  | armed => cases pos <;> exact ModuleState.setFb_onFb
  | captured => exact ModuleState.setFb_onFb
  | idle | stale => rfl

theorem ModuleState.edgeActs_supply (e : HeldEdge) : (m.edgeActs a e).onFb Feedback.supply = m.onFb Feedback.supply := by
  unfold ModuleState.edgeActs
  dsimp only
  split
  · split
    · exact (ModuleState.latchEdge_supply _ a _ _ _ _ _ _).trans (m.latchEdge_supply a _ _ _ _ _ _)
    · rfl
  split
  · split
    · exact m.toothEdge_supply a _ _
    · rfl
  split
  · exact (ModuleState.edgeFault_supply _ a 1).trans ModuleState.setFb_onFb
  · exact (ModuleState.count'_supply _ a _ _).trans ModuleState.setFb_onFb

/-- Accepted edges leave the encoder supplies alone. -/
theorem ModuleState.acceptEdges_supply : (m.acceptEdges a).onFb Feedback.supply = m.onFb Feedback.supply :=
  (ModuleState.each_frame _ _ _ (fun m => m.onFb Feedback.supply) fun m e => m.edgeActs_supply a e).trans ModuleState.setFb_onFb

end

end Sys2Proof.Machine
end

section
/-! Edges of an encoder input (R157 to R162): an edge held, one counted, and a glitch rejected; the rows of the input's supply, signal and
termination (R151, R152, R159, R160). -/

namespace Sys2Proof.Machine

/-! ### Edges held and accepted -/

section

variable {m : ModuleState} {a line at_ : Nat} (levels : Bool × Bool) (lz : Bool)

theorem ModuleState.minEdge_congr {n : ModuleState} (h : n.warden = m.warden) : n.minEdge a = m.minEdge a := by
  rw [ModuleState.minEdge, ModuleState.cfg_congr h, ModuleState.minEdge]

/-- The module with these edges held on an axis's input. -/
def ModuleState.hold (m : ModuleState) (a : Nat) (l : List HeldEdge) : ModuleState := m.setFb a fun f => { f with heldEdges := l }

theorem ModuleState.hold_heldEdges (l : List HeldEdge) (hlt : a < m.feedback.length) : ((m.hold a l).fb a).heldEdges = l :=
  congrArg Feedback.heldEdges (m.setFb_fb _ hlt)

theorem ModuleState.hold_hold (l k : List HeldEdge) : (m.hold a l).hold a k = m.hold a k := ModuleState.setFb_setFb _ _

theorem ModuleState.hold_same {l : List HeldEdge} (h : (m.fb a).heldEdges = l) : m.hold a l = m := ModuleState.setFb_same (by rw [← h])

/-- The first edge of an input is held (R157). -/
theorem ModuleState.noteEdge_first (hheld : (m.fb a).heldEdges = []) :
    m.noteEdge a line at_ levels lz = m.hold a [⟨line, at_, levels, lz, false, m.aimAt a at_⟩] := by
  simp [ModuleState.noteEdge, hheld, ModuleState.hold]

/-- Edges within MIN_EDGE stay held (R157). -/
theorem ModuleState.acceptEdges_none (h : ∀ e ∈ (m.fb a).heldEdges, m.now < e.stamp + m.minEdge a) : m.acceptEdges a = m := by
  have hdue : ∀ e ∈ (m.fb a).heldEdges, m.due e.stamp (m.minEdge a) = false := fun e he => decide_eq_false (Nat.not_le_of_lt (h e he))
  have hripe : (m.fb a).heldEdges.filter (fun e => m.due e.stamp (m.minEdge a)) = [] := by
    simpa [List.filter_eq_nil_iff] using hdue
  have hkept : (m.fb a).heldEdges.filter (fun e => !m.due e.stamp (m.minEdge a)) = (m.fb a).heldEdges := by
    simpa [List.filter_eq_self] using hdue
  simp only [ModuleState.acceptEdges, hripe, List.filter_nil, ModuleState.each_nil]
  exact ModuleState.setFb_same (by rw [hkept])

/-- The one edge held takes effect once MIN_EDGE has passed without another (R157). -/
theorem ModuleState.acceptEdges_ripe {e : HeldEdge} (hheld : (m.fb a).heldEdges = [e]) (hrej : e.rejected = false)
    (hdue : e.stamp + m.minEdge a ≤ m.now) : m.acceptEdges a = (m.hold a []).edgeActs a e := by
  have hripe : m.due e.stamp (m.minEdge a) = true := decide_eq_true hdue
  have hkept : (m.setFb a fun f => { f with heldEdges := f.heldEdges.filter fun e => !m.due e.stamp (m.minEdge a) }) = m.hold a [] :=
    ModuleState.setFb_congr (by simp [hheld, hripe])
  simp [ModuleState.acceptEdges, hheld, hripe, hrej, hkept]

/-- A first edge that has stood for MIN_EDGE takes effect at once (R157). -/
theorem ModuleState.acceptEdges_first (hlt : a < m.feedback.length) (hheld : (m.fb a).heldEdges = []) (hspan : at_ + m.minEdge a ≤ m.now) :
    (m.noteEdge a line at_ levels lz).acceptEdges a = m.edgeActs a ⟨line, at_, levels, lz, false, m.aimAt a at_⟩ := by
  rw [ModuleState.noteEdge_first _ _ hheld, ModuleState.acceptEdges_ripe (ModuleState.hold_heldEdges _ hlt) rfl hspan, ModuleState.hold_hold,
    ModuleState.hold_same hheld]

/-- A second edge of a line within MIN_EDGE rejects both (R157). -/
theorem ModuleState.noteEdge_glitch {e : HeldEdge} (hheld : (m.fb a).heldEdges = [e]) (hline : e.line < 3) (hrej : e.rejected = false)
    (hlater : e.stamp < at_) (hspan : at_ < e.stamp + m.minEdge a) : m.noteEdge a e.line at_ levels lz =
      (m.hold a [{ e with rejected := true }, ⟨e.line, at_, levels, lz, true, m.aimAt a at_⟩]).edgeFault a 2 := by
  have hnear : e.near e.line at_ (m.minEdge a) = true := by
    have hbefore : e.stamp < at_ + m.minEdge a := by omega
    simp [HeldEdge.near, sameLine, hspan, hbefore]
  have hknown : (e.stamp == at_) = false := beq_eq_false_iff_ne.mpr hlater.ne
  have hone : edgesOf e.line = 1 := if_neg hline.ne
  simp [ModuleState.noteEdge, ModuleState.hold, hheld, hknown, hnear, hrej, hone, updIf]

/-- Noting an edge leaves what accepted edges leave alone. -/
theorem OffEdges.noteEdge {β : Type} {π : ModuleState → β} (h : OffEdges π) (m : ModuleState) (a line at_ : Nat) :
    π (m.noteEdge a line at_ levels lz) = π m := by
  simp only [ModuleState.noteEdge, apply_ite π, h.edgeFault, h.fb, ite_self]

end

/-! ### Edges that count -/

theorem ModuleState.logIf_fb (m : ModuleState) (b : Bool) (code source : Nat) (items : List Int) (a : Nat) :
    (m.logIf b code source items).fb a = m.fb a := rfl

section

variable {m : ModuleState} {a : Nat} {e : HeldEdge} (hsource : m.source a = 1)
include hsource

/-- An edge of A alone counts up when it leaves A unlike B, else down (R158, log entry 25). -/
theorem ModuleState.edgeActs_lineA (hline : e.line = 0) : m.edgeActs a e =
    (m.setFb a fun f => { f with lines := e.levels }).count' a (if e.levels.1 != e.levels.2 then 1 else -1) e.stamp := by
  simp [ModuleState.edgeActs, hline, hsource]

/-- Edges of A and B at once are an edge fault (R158). -/
theorem ModuleState.edgeActs_both (hline : e.line = 3) : m.edgeActs a e = (m.setFb a fun f => { f with lines := e.levels }).edgeFault a 1 := by
  simp [ModuleState.edgeActs, hline, hsource]

end

/-- What a count in LINEAR mode writes: the counter, its extension word (R162), and the levels of the lines, which it leaves. -/
def Feedback.counted (f : Feedback) : Int × Int × Bool × Bool := (f.counter, f.ext, f.lines)

theorem offMarks_counted : OffMarks Feedback.counted := ⟨fun _ _ => rfl, fun _ _ => rfl⟩

/-- A position of the signed 32-bit range is kept (R75). -/
theorem wrap32_of_range {x : Int} (hlo : -2147483648 ≤ x) (hhi : x ≤ 2147483647) : wrap32 x = x := by
  unfold wrap32 signed
  norm_num
  split <;> omega

section

variable {m : ModuleState} {a : Nat}

/-- One count up in LINEAR mode carries into the extension word (R162). -/
theorem ModuleState.count'_up (hlt : a < m.feedback.length) (hmode : m.modulo a = false) (hlo : -2147483648 ≤ (m.fb a).counter)
    (hhi : (m.fb a).counter ≤ 2147483647) (at_ : Nat) : ((m.count' a 1 at_).fb a).counted =
      (if (m.fb a).counter = 2147483647 then -2147483648 else (m.fb a).counter + 1,
        if (m.fb a).counter = 2147483647 then wrap32 ((m.fb a).ext + 1) else wrap32 (m.fb a).ext, (m.fb a).lines) := by
  unfold ModuleState.count'
  extract_lets f old up size c turnModulo turn ext
  rw [if_neg (by simp [hmode]), ModuleState.fb_of_onFb (offMarks_counted.moved _ a _ _), ModuleState.logIf_fb, m.setFb_fb _ hlt,
    Feedback.edge_part (g := Feedback.counted)]
  have hc : c = (m.fb a).counter + 1 := rfl
  by_cases hmax : (m.fb a).counter = 2147483647
  · have hturn : turn = 1 := if_pos (by omega)
    have hwrap : wrap32 c = -2147483648 := by
      rw [hc, hmax]
      rfl
    simp only [Feedback.counted, hmax, if_true, hwrap, ext, hturn, f]
  · have hturn : turn = 0 := (if_neg (by omega)).trans (if_neg (by omega))
    have hwrap : wrap32 c = c := wrap32_of_range (by omega) (by omega)
    simp only [Feedback.counted, hmax, if_false, hwrap, ext, hturn, add_zero, f]
    rw [hc]

/-- Faults of an input add to its fault counter, with nothing counted and the same edges held (R157, R159). -/
theorem ModuleState.edgeFault_fb (hlt : a < m.feedback.length) (n : Nat) :
    (((m.edgeFault a n).fb a).edgeFaults, ((m.edgeFault a n).fb a).counter, ((m.edgeFault a n).fb a).heldEdges) =
      (min max32 ((m.fb a).edgeFaults + n), (m.fb a).counter, (m.fb a).heldEdges) := by
  simp only [ModuleState.fb, m.edgeFault_feedback a n, ModuleState.setFb_feedback, upd_getD_self _ _ _ _ hlt, satAdd]

/-- Faults of an input whose edges all lie within MIN_EDGE accept none of them (R157). -/
theorem ModuleState.edgeFault_acceptEdges (h : ∀ e ∈ (m.fb a).heldEdges, m.now < e.stamp + m.minEdge a) (n : Nat) :
    (m.edgeFault a n).acceptEdges a = m.edgeFault a n := by
  have hheld : (m.edgeFault a n).onFb Feedback.heldEdges = m.onFb Feedback.heldEdges :=
    (congrArg (List.map _) (m.edgeFault_feedback a n)).trans ModuleState.setFb_onFb
  refine ModuleState.acceptEdges_none ?_
  rwa [ModuleState.minEdge_congr (offEdges_warden.edgeFault m a n), offEdges_now.edgeFault, ModuleState.fb_of_onFb hheld]

end

/-! ### The row of an edge -/

section

variable {s : State} {t a line at_ : Nat} {la lb lz : Bool} (ha : a < 8) (hcount : (s.then t).counting a)
include ha hcount

/-- An edge of a counting input is noted, and the edges due are accepted (R157). -/
theorem encoderEdge_gives (hline : line < 4) (hat : at_ ≤ (s.then t).now) (h5 : 5 ∣ at_) :
    Gives (.encoderEdge t a line la lb at_ lz) s (((s.then t).noteEdge a line at_ (la, lb) lz).acceptEdges a) := by
  refine gives_of_axis ha rfl ?_
  simp only [hcount, hline, decide_true, Bool.and_self, if_true, Nat.min_eq_left hat, Nat.div_mul_cancel h5]

/-- An edge that follows no other one is held within MIN_EDGE (R157). -/
theorem encoderEdge_held (hline : line < 4) (hheld : ((s.then t).fb a).heldEdges = []) (hat : at_ ≤ (s.then t).now) (h5 : 5 ∣ at_)
    (hspan : (s.then t).now < at_ + (s.then t).minEdge a) : Gives (.encoderEdge t a line la lb at_ lz) s
      ((s.then t).setFb a fun f => { f with heldEdges := [⟨line, at_, (la, lb), lz, false, (s.then t).aimAt a at_⟩] }) := by
  have hrow := encoderEdge_gives (la := la) (lb := lb) (lz := lz) ha hcount hline hat h5
  rw [ModuleState.noteEdge_first _ _ hheld, ModuleState.acceptEdges_none] at hrow
  · exact hrow
  · refine ModuleState.setFb_fb_of (P := fun f => ∀ e ∈ f.heldEdges, (s.then t).now < e.stamp + (s.then t).minEdge a) ?_ nofun
    simpa using hspan

/-- What the noted edge and the accepted ones make of the input's feedback, said of the row. -/
theorem encoderEdge_runs {β : Type} {g g' : Feedback → β} (hline : line < 4) (hat : at_ ≤ (s.then t).now) (h5 : 5 ∣ at_)
    (hfb : a < (s.then t).feedback.length →
      g ((((s.then t).noteEdge a line at_ (la, lb) lz).acceptEdges a).fb a) = g' ((s.then t).fb a)) :
    Runs (.encoderEdge t a line la lb at_ lz) s fun m' => m'.feedback[a]?.map g = (s.then t).feedback[a]?.map g' :=
  ⟨_, encoderEdge_gives ha hcount hline hat h5, ModuleState.getElem?_of_fb
    ((offEdges_feedback_length.acceptEdges _ a).trans (offEdges_feedback_length.noteEdge _ _ _ a line at_)) hfb⟩

/-- An edge of A that stands for MIN_EDGE and leaves A unlike B counts up (R158, log entries 25 and 137). -/
theorem encoderEdge_countsUp (hsource : (s.then t).source a = 1) (hmode : (s.then t).modulo a = false)
    (hlo : -2147483648 ≤ ((s.then t).fb a).counter) (hhi : ((s.then t).fb a).counter ≤ 2147483647)
    (hheld : ((s.then t).fb a).heldEdges = []) (h5 : 5 ∣ at_) (hspan : at_ + (s.then t).minEdge a ≤ (s.then t).now) :
    Runs (.encoderEdge t a 0 (!lb) lb at_ lz) s fun m' =>
      m'.feedback[a]?.map Feedback.counted = (s.then t).feedback[a]?.map fun f =>
        (if f.counter = 2147483647 then -2147483648 else f.counter + 1,
          if f.counter = 2147483647 then wrap32 (f.ext + 1) else wrap32 f.ext, (!lb, lb)) := by
  refine encoderEdge_runs ha hcount (by decide) (by omega) h5 fun hlt => ?_
  have hlines : ((s.then t).setFb a fun f => { f with lines := (!lb, lb) }).fb a = { (s.then t).fb a with lines := (!lb, lb) } :=
    ModuleState.setFb_fb _ hlt
  have hup : (if (!lb) != lb then (1 : Int) else -1) = 1 := by cases lb <;> rfl
  rw [ModuleState.acceptEdges_first _ _ hlt hheld hspan, ModuleState.edgeActs_lineA hsource rfl, hup, ModuleState.count'_up, hlines]
  · simpa using hlt
  · exact hmode
  · rwa [hlines]
  · rwa [hlines]

/-- A second edge of a line within MIN_EDGE: two edge faults, and nothing counted (R157). -/
theorem encoderEdge_glitch {e : HeldEdge} (hheld : ((s.then t).fb a).heldEdges = [e]) (hline : e.line < 3) (hrej : e.rejected = false)
    (h5 : 5 ∣ (s.then t).now) (hlater : e.stamp < (s.then t).now) (hspan : (s.then t).now < e.stamp + (s.then t).minEdge a) :
    Runs (.encoderEdge t a e.line la lb (s.then t).now lz) s fun m' =>
      (m'.feedback[a]?.map fun f => (f.edgeFaults, f.counter, f.heldEdges)) = (s.then t).feedback[a]?.map fun f =>
        (min max32 (f.edgeFaults + 2), f.counter,
          [{ e with rejected := true }, ⟨e.line, (s.then t).now, (la, lb), lz, true, (s.then t).aimAt a (s.then t).now⟩]) := by
  refine encoderEdge_runs ha hcount (Nat.lt_succ_of_lt hline) le_rfl h5 fun hlt => ?_
  rw [ModuleState.noteEdge_glitch _ _ hheld hline hrej hlater hspan, ModuleState.edgeFault_acceptEdges, ModuleState.edgeFault_fb,
    ModuleState.hold_heldEdges _ hlt, ModuleState.hold, ModuleState.setFb_fb _ hlt]
  · simpa [ModuleState.hold] using hlt
  · have hnow : (s.then t).now < (s.then t).now + (s.then t).minEdge a := by omega
    rw [ModuleState.hold_heldEdges _ hlt, List.forall_mem_cons, List.forall_mem_singleton]
    exact ⟨hspan, hnow⟩

/-- Edges of A and B at once: one edge fault, and nothing counted (R158). -/
theorem encoderEdge_both (hsource : (s.then t).source a = 1) (hheld : ((s.then t).fb a).heldEdges = []) (h5 : 5 ∣ at_)
    (hspan : at_ + (s.then t).minEdge a ≤ (s.then t).now) : Runs (.encoderEdge t a 3 la lb at_ lz) s fun m' =>
      (m'.feedback[a]?.map fun f => (f.edgeFaults, f.counter)) = (s.then t).feedback[a]?.map fun f => (min max32 (f.edgeFaults + 1), f.counter) := by
  refine encoderEdge_runs ha hcount (by decide) (by omega) h5 fun hlt => ?_
  rw [ModuleState.acceptEdges_first _ _ hlt hheld hspan, ModuleState.edgeActs_both hsource rfl]
  have hfaults := ModuleState.edgeFault_fb (m := (s.then t).setFb a fun f => { f with lines := (la, lb) }) (a := a) (by simpa using hlt) 1
  rw [ModuleState.setFb_fb _ hlt] at hfaults
  exact congrArg (fun x => (x.1, x.2.1)) hfaults

end

end Sys2Proof.Machine
end

section
/-! The supply, signal and termination of an encoder input (R151, R152, R159, R160). -/

namespace Sys2Proof.Machine

/-! ### A signal lost -/

section

variable {m : ModuleState} {a : Nat} (cause : Nat)

/-- A signal lost is noted in its feedback (R160). -/
theorem ModuleState.loseSignal_signalLost (hlt : a < m.feedback.length) : ((m.loseSignal a cause).fb a).signalLost = true := by
  unfold ModuleState.loseSignal
  split
  · next hlost => rwa [m.setFb_fb _ hlt]
  · have hlt' : a < (m.acceptEdges a).feedback.length := (offEdges_feedback_length.acceptEdges m a).symm ▸ hlt
    rw [ModuleState.fb, ModuleState.invalidate_feedback]
    exact congrArg Feedback.signalLost ((m.acceptEdges a).setFb_fb _ hlt')

/-- A signal lost leaves the encoder supply as it is. -/
theorem ModuleState.loseSignal_supply : (m.loseSignal a cause).onFb Feedback.supply = m.onFb Feedback.supply := by
  unfold ModuleState.loseSignal
  split
  · exact ModuleState.setFb_onFb
  · exact (ModuleState.invalidate_supply _ a 1).trans (.trans ModuleState.setFb_onFb (m.acceptEdges_supply a))

/-- A signal newly lost makes the position not valid (R160, R166). -/
theorem ModuleState.loseSignal_posValid (h : (m.fb a).signalLost = false) : ((m.loseSignal a cause).axis a).posValid = false := by
  obtain ⟨-, hvalid, -⟩ := ((((m.acceptEdges a).setFb a fun f => { f with signalLost := true, badAt := m.now, heldEdges := [] }).log
    evEncSignalLost (tgAxis a) [(a : Int), (cause : Int), (m.fb a).counter]).unvalid_axis a)
  rw [ModuleState.loseSignal, h]
  exact hvalid

end

/-! ### The rows -/

section

variable {s : State} {t a : Nat} (ha : a < 8)
include ha

/-- An overloaded supply is switched off, and the signal with it lost (R151). -/
theorem encSupplyOverload_switchesOff (current : Nat) (hon : ((s.then t).fb a).supplyOn) : Runs (.encSupplyOverload t a current) s fun m' =>
    (m'.fb a).supplyOn = false ∧ (m'.fb a).supplyFault = true ∧ (m'.fb a).supplyAt = (s.then t).now ∧ (m'.fb a).signalLost = true ∧
      (((s.then t).fb a).signalLost = false → (m'.axis a).posValid = false) := by
  have hlt : a < (s.then t).feedback.length := ModuleState.fb_lt hon nofun
  let m1 := ((s.then t).setFb a fun f => { f with supplyOn := false, supplyFault := true, supplyAt := (s.then t).now }).log evEncSupplyFault
    (tgAxis a) [((s.then t).encInput a : Int), (current : Int)]
  have hlt1 : a < m1.feedback.length := by simpa [m1] using hlt
  have hfb : m1.fb a = { (s.then t).fb a with supplyOn := false, supplyFault := true, supplyAt := (s.then t).now } := ModuleState.setFb_fb _ hlt
  have hsupply : ((m1.loseSignal a 1).fb a).supply = (false, true, (s.then t).now) := by
    rw [ModuleState.fb_of_onFb (ModuleState.loseSignal_supply 1), hfb]
    rfl
  simp only [Feedback.supply, Prod.mk.injEq] at hsupply
  obtain ⟨hoff, hfault, hat⟩ := hsupply
  refine ⟨m1.loseSignal a 1, gives_of_axis ha rfl ?_, hoff, hfault, hat, ModuleState.loseSignal_signalLost 1 hlt1, fun hlost => ?_⟩
  · simp only [hon, Bool.not_true, Bool.false_eq_true, if_false]
    rfl
  · exact ModuleState.loseSignal_posValid 1 (by rwa [hfb])

/-- A signal lost on an input, or with its supply, makes the position not valid (R160). -/
theorem encSignalLoss_loses {supply : Bool} (hinput : (supply = false ∧ (s.then t).rs422 a) ∨
    (supply = true ∧ (s.then t).onEncoder a ∧ ((s.then t).fb a).supplyOn = false)) (hruns : (s.then t).runs (axisIsland a))
    (hlost : ((s.then t).fb a).signalLost = false) : Runs (.encSignalLoss t a supply) s fun m' =>
      (m'.feedback[a]?.map (·.signalLost)) = ((s.then t).feedback[a]?.map fun _ => true) ∧ (m'.axis a).posValid = false := by
  refine ⟨(s.then t).loseSignal a (bitOf supply 0), gives_of_axis ha rfl ?_, ModuleState.getElem?_of_fb (g' := fun _ => true) ?_ fun hlt => ?_,
    ModuleState.loseSignal_posValid _ hlost⟩
  · rcases hinput with ⟨rfl, hrs⟩ | ⟨rfl, hencoder, hoff⟩
    · simp only [hruns, hrs, Bool.false_eq_true, if_false, Bool.and_self, if_true]
    · simp only [hruns, hencoder, hoff, Bool.not_false, Bool.and_self, if_true]
  · exact offEdges_feedback_length.loseSignal a _ _
  · exact ModuleState.loseSignal_signalLost _ hlt

/-- EDGE_FAULTS is logged once a second, while there are faults to tell (R159). -/
theorem edgeFaultsReport_logs (hsome : ((s.then t).fb a).faultsSecond.1 ≠ 0)
    (hdue : ((s.then t).fb a).faultsSecond.2 + seconds 1 ≤ (s.then t).now) : Gives (.edgeFaultsReport t a) s
      (((s.then t).setFb a fun f => { f with faultsSecond := (0, (s.then t).now) }).log evEdgeFaults (tgAxis a)
        [(a : Int), (((s.then t).fb a).faultsSecond.1 : Int), (((s.then t).fb a).edgeFaults : Int)]) := by
  refine gives_of_axis ha rfl (if_neg ?_)
  simp [hsome, ModuleState.due, hdue]

/-- A supply switched off by overload is tried again one second later, outside a reset (R151). -/
theorem encSupplyRetry_switchesOn (hfault : ((s.then t).fb a).supplyFault) (hheld : (s.then t).held = false)
    (hdue : ((s.then t).fb a).supplyAt + seconds 1 ≤ (s.then t).now) : Gives (.encSupplyRetry t a) s
      ((s.then t).setFb a fun f => { f with supplyOn := true, supplyFault := false, badAt := (s.then t).now }) := by
  refine gives_of_axis ha rfl (if_pos ?_)
  simp [hfault, hheld, ModuleState.due, hdue]

/-- 10 ms of signal with the supply on end the loss (R160). -/
theorem encSignalRestored_ends (hon : ((s.then t).fb a).supplyOn) (hdue : ((s.then t).fb a).badAt + ms 10 ≤ (s.then t).now) :
    Gives (.encSignalRestored t a) s ((s.then t).setFb a fun f => { f with signalLost := false }) := by
  refine gives_of_axis ha rfl (if_pos ?_)
  simp [hon, ModuleState.due, hdue]

/-- The termination of an odd unit is connected 25 ms after the last lease message, or without any (R152). -/
theorem termPartnerTimeout_connects (hmode : (s.then t).termMode a = 2) (hodd : (s.then t).pair.id % 2 = 1) (hheld : (s.then t).held = false)
    (hterm : ((s.then t).fb a).term = false)
    (hheard : (s.then t).pair.heardAt = none ∨ ∃ b, (s.then t).pair.heardAt = some b ∧ b + ms 25 ≤ (s.then t).now) :
    Gives (.termPartnerTimeout t a) s (((s.then t).setFb a fun f => { f with term := true }).log evTermChanged (tgAxis a)
      [((s.then t).encInput a : Int), 1, 1]) := by
  have hgone : ((s.then t).pair.heardAt.isNone || (s.then t).dueO (s.then t).pair.heardAt (ms 25)) = true := by
    rcases hheard with hnone | ⟨b, hb, hdue⟩
    · simp [hnone]
    · simp [ModuleState.dueO_some hb hdue]
  refine gives_of_axis ha rfl ((if_pos ⟨hmode, hodd, by simp [hheld], hgone⟩).trans ?_)
  rw [ModuleState.setTerm, hterm]
  rfl

/-- The termination of an odd unit is disconnected once lease messages have been back for 25 ms (R152). -/
theorem termPartnerReturn_disconnects {b c : Nat} (hmode : (s.then t).termMode a = 2) (hodd : (s.then t).pair.id % 2 = 1)
    (hterm : ((s.then t).fb a).term = true) (hheard : (s.then t).pair.heardAt = some b) (hrecent : (s.then t).now < b + ms 25)
    (hsince : (s.then t).pair.heardSince = some c) (hdue : c + ms 25 ≤ (s.then t).now) :
    Gives (.termPartnerReturn t a) s (((s.then t).setFb a fun f => { f with term := false }).log evTermChanged (tgAxis a)
      [((s.then t).encInput a : Int), 0, 2]) := by
  have hback : (!(s.then t).dueO (s.then t).pair.heardAt (ms 25)) = true := by
    simp [hheard, ModuleState.dueO, ModuleState.due, hrecent]
  refine gives_of_axis ha rfl ((if_pos ⟨hmode, hodd, by simp [hheard], hback, ModuleState.dueO_some hsince hdue⟩).trans ?_)
  rw [ModuleState.setTerm, hterm]
  rfl

end

/-- Settles O17, row by row: an edge noted is held, or accepted once MIN_EDGE has passed (log entry 137), and one of A that leaves A unlike
B counts up (log entry 25). -/
theorem encoderRowsRun : Obligations.EncoderRowsRun := by
  intro s t a ha m f
  exact ⟨fun line la lb at_ lz hcount hline hheld hat h5 hspan => encoderEdge_held ha hcount hline hheld hat h5 hspan,
    fun lb at_ lz hcount hsource hmode hlo hhi hheld h5 hspan => encoderEdge_countsUp ha hcount hsource hmode hlo hhi hheld h5 hspan,
    fun e la lb lz hcount hheld hline hrej h5 hlater hspan => encoderEdge_glitch ha hcount hheld hline hrej h5 hlater hspan,
    fun la lb at_ lz hcount hsource hheld h5 hspan => encoderEdge_both ha hcount hsource hheld h5 hspan,
    fun hsome hdue => edgeFaultsReport_logs ha hsome hdue, fun current hon => encSupplyOverload_switchesOff ha current hon,
    fun hfault hheld hdue => encSupplyRetry_switchesOn ha hfault hheld hdue,
    fun supply hinput hruns hlost => encSignalLoss_loses ha hinput hruns hlost, fun hon hdue => encSignalRestored_ends ha hon hdue,
    fun hmode hodd hheld hterm hheard => termPartnerTimeout_connects ha hmode hodd hheld hterm hheard,
    fun b c hmode hodd hterm hheard hrecent hsince hdue => termPartnerReturn_disconnects ha hmode hodd hterm hheard hrecent hsince hdue⟩

end Sys2Proof.Machine
end

section
/-! The observer, the speed status and the serial sensors (R167 to R172): an update by the case it finds, FEEDBACK_STATUS as it shows an update, and
the readings of a serial sensor. -/

namespace Sys2Proof.Machine

/-! ### One update -/

section

variable {m : ModuleState} {a : Nat}

/-- An axis without a source is INVALID (R169). -/
theorem ModuleState.track_noSource (hsource : m.source a = 0) :
    m.track a = m.setFb a fun f => { f with speed := .invalid, repSpeed := 0, repAccel := 0 } := if_pos hsource

section

variable (hsource : m.source a ≠ 0) (hserial : m.source a ≠ 3)
include hsource hserial

/-- Without a signal the status is INVALID, and the observer runs on (R167, R169). -/
theorem ModuleState.track_lost (hlost : (m.fb a).signalLost ∨ (m.fb a).sspFault) :
    m.track a = (m.observe a).setFb a fun f => { f with speed := .invalid, repSpeed := 0, repAccel := f.aHat } := by
  simp only [ModuleState.track, hsource, hlost, hserial, if_true, if_false]

variable (hsignal : (m.fb a).signalLost = false) (hport : (m.fb a).sspFault = false)
include hsignal hport

/-- T_STILL after the last counting edge the axis stands still (R169). -/
theorem ModuleState.track_still (hstill : (m.fb a).tLast = none ∨ ∃ b, (m.fb a).tLast = some b ∧ b + m.stillTime a ≤ m.now) :
    m.track a = m.standStill a := by
  have hover : ((m.fb a).tLast.isNone || m.dueO (m.fb a).tLast (m.stillTime a)) = true := by
    rcases hstill with hnone | ⟨b, hb, hdue⟩
    · simp [hnone]
    · simp [ModuleState.dueO_some hb hdue]
  simp only [ModuleState.track, hsource, hsignal, hport, hserial, hover, Bool.false_eq_true, or_self, if_true, if_false]

/-- Within T_STILL of a counting edge the observer is updated and reports (R167, R168). -/
theorem ModuleState.track_moving {b : Nat} (hlast : (m.fb a).tLast = some b) (hrecent : m.now < b + m.stillTime a) :
    m.track a = (m.observe a).report a := by
  have hnot : ((m.fb a).tLast.isNone || m.dueO (m.fb a).tLast (m.stillTime a)) = false := by
    simp [hlast, ModuleState.dueO, ModuleState.due, hrecent]
  simp only [ModuleState.track, hsource, hsignal, hport, hserial, hnot, Bool.false_eq_true, or_self, if_false]

end

/-- What an update of the observer makes of p, v and a (R167). -/
theorem ModuleState.observe_getElem? {β : Type} (g : Rat × Rat × Rat → β) :
    ((m.observe a).feedback[a]?.map fun f => g (f.pHat, f.vHat, f.aHat)) = m.feedback[a]?.map fun f =>
      g (f.pHat + (f.vHat + 3 * (2 * circle * (m.cfg (fbCfg a + 12) 2 : Nat)) * m.observed a) / 50000,
        f.vHat + (f.aHat + 3 * (2 * circle * (m.cfg (fbCfg a + 12) 2 : Nat)) ^ 2 * m.observed a) / 50000,
        f.aHat + (2 * circle * (m.cfg (fbCfg a + 12) 2 : Nat)) ^ 3 * m.observed a / 50000) := by
  rw [ModuleState.observe, ModuleState.setFb_getElem?]
  refine congrArg (Option.map · _) (funext fun f => congrArg g ?_)
  simp only [Prod.mk.injEq]
  exact ⟨by ring, by ring, by ring⟩

end

/-! ### The update as FEEDBACK_STATUS shows it -/

section

variable {m : ModuleState} {a : Nat}

/-- An entry of FEEDBACK_STATUS does not tell the entry shown before. -/
theorem ModuleState.fbNow_shown (l : List Byte) : (m.setFb a fun f => { f with shown := l }).fbNow a = m.fbNow a := by
  by_cases hlt : a < m.feedback.length
  · have hfb := m.setFb_fb (fun f => { f with shown := l }) hlt
    simp only [ModuleState.fbNow, ModuleState.measured, ModuleState.countPos, ModuleState.countC, hfb]
    rfl
  · rw [ModuleState.setFb_of_le _ (Nat.le_of_not_lt hlt)]

theorem ModuleState.fbNow_isEmpty : (m.fbNow a).isEmpty = false := by simp [ModuleState.fbNow, leBytes]

/-- The wraps since the last update, and those not yet read (R162, R181). -/
def Feedback.wraps (f : Feedback) : Bool := f.wrapped || bit (f.shown.getD 3 0).toNat 2

/-- The module with the entry of an update shown, its wraps with it (R162, R181). -/
def ModuleState.showUpdate (m : ModuleState) (a : Nat) : ModuleState :=
  m.setFb a fun f =>
    { f with
      shown := (m.setFb a fun f => { f with wrapped := f.wraps }).fbNow a
      wrapped := false }

/-- FEEDBACK_STATUS takes its fields from the update shown (R181). -/
theorem ModuleState.showUpdate_fbEntry {wraps : Bool} (hwraps : (m.fb a).wraps = wraps) :
    (m.showUpdate a).fbEntry a = ((m.showUpdate a).setFb a fun f => { f with wrapped := wraps }).fbNow a := by
  by_cases hlt : a < m.feedback.length
  · have hentry : (m.showUpdate a).fbEntry a = (m.setFb a fun f => { f with wrapped := f.wraps }).fbNow a := by
      rw [ModuleState.fbEntry, ModuleState.showUpdate, m.setFb_fb _ hlt]
      exact if_neg (by simp [ModuleState.fbNow_isEmpty])
    have hshown : (m.showUpdate a).setFb a (fun f => { f with wrapped := wraps }) =
        (m.setFb a fun f => { f with wrapped := wraps }).setFb a fun f =>
          { f with shown := (m.setFb a fun f => { f with wrapped := f.wraps }).fbNow a } := by
      rw [ModuleState.showUpdate, ModuleState.setFb_setFb, ModuleState.setFb_setFb]
      rfl
    rw [hentry, hshown, ModuleState.fbNow_shown, ModuleState.setFb_congr (k := fun f => { f with wrapped := wraps })]
    simp only [hwraps]
  · have hle : m.feedback.length ≤ a := Nat.le_of_not_lt hlt
    rw [ModuleState.showUpdate, ModuleState.setFb_of_le _ hle, ModuleState.setFb_of_le _ hle, ModuleState.fbEntry, ModuleState.fb_of_le hle]
    rfl

end

section

variable {s : State} {t a : Nat} (ha : a < 8) (hruns : (s.then t).runs (axisIsland a))
include ha hruns

/-- The edges due are accepted, the observer updated, and the update shown (R167, R181). -/
theorem observerUpdate_gives : Gives (.observerUpdate t a) s ((((s.then t).acceptEdges a).track a).showUpdate a) :=
  gives_of_axis ha rfl (if_neg (by simp [hruns]))

/-- What an update makes of a feedback, but for the entry shown and the wraps in it. -/
theorem observerUpdate_runs {β : Type} {g g' : Feedback → β} (hg : ∀ f l, g { f with shown := l, wrapped := false } = g f)
    (htrack : (((s.then t).acceptEdges a).track a).feedback[a]?.map g = ((s.then t).acceptEdges a).feedback[a]?.map g') :
    Runs (.observerUpdate t a) s fun m' => m'.feedback[a]?.map g = ((s.then t).acceptEdges a).feedback[a]?.map g' := by
  refine ⟨_, observerUpdate_gives ha hruns, Eq.trans ?_ htrack⟩
  rw [ModuleState.showUpdate, ModuleState.setFb_getElem?]
  exact congrArg (Option.map · _) (funext fun f => hg f _)

/-- Without a source the status is INVALID and the speed 0, and the update is shown with its wraps (R169, R181). -/
theorem observerUpdate_noSource (hsource : ((s.then t).acceptEdges a).source a = 0) : Runs (.observerUpdate t a) s fun m' =>
    (m'.feedback[a]?.map fun f => (f.speed, f.repSpeed, f.repAccel)) = (((s.then t).acceptEdges a).feedback[a]?.map fun _ => (.invalid, 0, 0)) ∧
      m'.fbEntry a = (m'.setFb a fun f => { f with wrapped := (((s.then t).acceptEdges a).fb a).wraps }).fbNow a := by
  have htrack := ModuleState.track_noSource hsource
  refine ⟨_, observerUpdate_gives ha hruns, ?_, ModuleState.showUpdate_fbEntry ?_⟩
  · rw [ModuleState.showUpdate, ModuleState.setFb_getElem?, htrack, ModuleState.setFb_getElem?]
    rfl
  · have hkept : (((s.then t).acceptEdges a).track a).onFb Feedback.wraps = ((s.then t).acceptEdges a).onFb Feedback.wraps :=
      htrack ▸ ModuleState.setFb_onFb
    exact ModuleState.fb_of_onFb hkept

end

/-! ### Serial sensors -/

section

variable {m : ModuleState} {a : Nat}

/-- The first good reading of a serial sensor is its word (R170, R172). -/
theorem ModuleState.goodReading_first (hseen : (m.fb a).sspSeen = false) (word : Nat) :
    ((m.goodReading a word).feedback[a]?.map fun f => (f.counter, f.sspSeen, f.sspBad, f.sspWarn)) =
      m.feedback[a]?.map fun f => ((word : Int), true, 0, f.sspWarn) := by
  unfold ModuleState.goodReading
  extract_lets f bits size d total ext turn m1 pos m2 m3 m4
  have hd : d = 0 := if_neg (by simp [f, hseen])
  have hm3 : m3 = m2 := if_pos hd
  have hm4 : m4.feedback = m2.feedback := show m3.feedback = m2.feedback by rw [hm3]
  rw [if_neg (by simp [f, hseen])]
  change ((m4.setFb a _).feedback[a]?.map _) = _
  rw [ModuleState.setFb_getElem?, hm4, ModuleState.setFb_getElem?, ModuleState.setFb_getElem?]
  rfl

/-- The third bad reading in a row puts the port in fault (R171). -/
theorem ModuleState.badReading_third (hbad : (m.fb a).sspBad = 2) (hport : (m.fb a).sspFault = false) (cause : Nat) :
    ((m.badReading a cause).fb a).sspFault = true ∧ ((m.badReading a cause).fb a).speed = .invalid ∧
      ((m.badReading a cause).axis a).posValid = false := by
  have hlt : a < m.feedback.length := ModuleState.fb_lt hbad nofun
  unfold ModuleState.badReading
  extract_lets f m1
  rw [if_neg (by simp [f, hbad, hport])]
  obtain ⟨-, hvalid, -⟩ := (((m1.setFb a fun f => { f with sspFault := true, speed := .invalid }).log evSspFault (tgAxis a)
    [(a : Int), (cause : Int)]).unvalid_axis a)
  have hfb : (m1.setFb a fun f => { f with sspFault := true, speed := .invalid }).fb a = { m1.fb a with sspFault := true, speed := .invalid } :=
    ModuleState.setFb_fb _ (by simpa [m1] using hlt)
  refine ⟨?_, ?_, hvalid⟩
  · rw [ModuleState.fb, ModuleState.invalidate_feedback]
    exact congrArg Feedback.sspFault hfb
  · rw [ModuleState.fb, ModuleState.invalidate_feedback]
    exact congrArg Feedback.speed hfb

end

/-! ### The rows -/

section

variable {s : State} {t a : Nat} (ha : a < 8)
include ha

/-- T_STILL after the last counting edge the speed is exactly 0 (R169). -/
theorem speedStillTimeout_stills {b : Nat} (hsource : (s.then t).source a ≠ 0) (hsignal : ((s.then t).fb a).signalLost = false)
    (hport : ((s.then t).fb a).sspFault = false) (hlast : ((s.then t).fb a).tLast = some b) (hdue : b + (s.then t).stillTime a ≤ (s.then t).now) :
    Gives (.speedStillTimeout t a) s ((s.then t).standStill a) := by
  refine gives_of_axis ha rfl (if_neg ?_)
  simp [hsource, hsignal, hport, ModuleState.dueO_some hlast hdue]

variable (hruns : (s.then t).runs (axisIsland a)) (hsource : (s.then t).source a = 3) (hpop : (s.then t).populated a)
  (hcycle : ((s.then t).fb a).sspAt = none ∨ ∃ b, ((s.then t).fb a).sspAt = some b ∧ b + (s.then t).sspCycle a ≤ (s.then t).now)
include hruns hsource hpop hcycle

omit ha in
/-- A frame is read once a cycle has passed since the last one (R170). -/
theorem sspReading_due : ¬ ((s.then t).source a ≠ 3 ∨ !(s.then t).runs (axisIsland a) ∨ !(s.then t).populated a ∨
    (((s.then t).fb a).sspAt.isSome && !(s.then t).dueO ((s.then t).fb a).sspAt ((s.then t).sspCycle a))) := by
  rcases hcycle with hnone | ⟨b, hb, hdue⟩
  · simp [hsource, hruns, hpop, hnone]
  · simp [hsource, hruns, hpop, ModuleState.dueO_some hb hdue]

/-- The first good reading of a serial sensor is its word, with the warning it tells (R170 to R172). -/
theorem sspReading_first {started warn : Bool} {frame copy word : Nat} (hseen : ((s.then t).fb a).sspSeen = false)
    (hframe : (s.then t).sspFrame a started frame copy = .ok (word, warn)) : Runs (.sspReading t a started frame copy) s fun m' =>
      (m'.feedback[a]?.map fun f => (f.counter, f.sspSeen, f.sspBad, f.sspWarn)) =
        (s.then t).feedback[a]?.map fun _ => ((word : Int), true, 0, warn) := by
  let m1 := ((s.then t).setFb a fun f => { f with sspAt := some (s.then t).now }).setFb a fun f => { f with sspWarn := warn }
  have hseen1 : (m1.fb a).sspSeen = false :=
    (ModuleState.fb_of_onFb (g := Feedback.sspSeen) (.trans ModuleState.setFb_onFb ModuleState.setFb_onFb)).trans hseen
  refine ⟨m1.goodReading a word, gives_of_axis ha rfl ((if_neg (sspReading_due hruns hsource hpop hcycle)).trans ?_),
    (ModuleState.goodReading_first hseen1 word).trans ?_⟩
  · simp only [hframe, hseen, Bool.false_and, Bool.false_eq_true, if_false]
    rfl
  · rw [ModuleState.setFb_getElem?, ModuleState.setFb_getElem?]
    rfl

/-- The third bad reading in a row puts the port in fault, its position not valid (R171). -/
theorem sspReading_fault {started : Bool} {frame copy cause : Nat} (hbad : ((s.then t).fb a).sspBad = 2)
    (hport : ((s.then t).fb a).sspFault = false) (hframe : (s.then t).sspFrame a started frame copy = .error cause) :
    Runs (.sspReading t a started frame copy) s fun m' =>
      (m'.fb a).sspFault = true ∧ (m'.fb a).speed = .invalid ∧ (m'.axis a).posValid = false := by
  let m0 := (s.then t).setFb a fun f => { f with sspAt := some (s.then t).now }
  have hbad0 : (m0.fb a).sspBad = 2 := (ModuleState.fb_of_onFb (g := Feedback.sspBad) ModuleState.setFb_onFb).trans hbad
  have hport0 : (m0.fb a).sspFault = false := (ModuleState.fb_of_onFb (g := Feedback.sspFault) ModuleState.setFb_onFb).trans hport
  refine ⟨m0.badReading a cause, gives_of_axis ha rfl ((if_neg (sspReading_due hruns hsource hpop hcycle)).trans ?_),
    ModuleState.badReading_third hbad0 hport0 cause⟩
  simp only [hframe]
  rfl

end

/-- Settles O18: an update by the case it finds, with the observer's numbers exact rationals (log entry 24), and a reading of a serial sensor by its
frame. -/
theorem observerRowsRun : Obligations.ObserverRowsRun := by
  intro s t a ha hruns m f n g
  refine ⟨fun hsource => observerUpdate_noSource ha hruns hsource, fun hsource hserial hlost => observerUpdate_runs ha hruns (fun _ _ => rfl) ?_,
    fun hsource hserial hsignal hport hstill => observerUpdate_runs ha hruns (fun _ _ => rfl) ?_,
    fun b hsource hserial hsignal hport hlast hrecent => observerUpdate_runs ha hruns (fun _ _ => rfl) ?_,
    fun b hsource hsignal hport hlast hdue => ⟨_, speedStillTimeout_stills ha hsource hsignal hport hlast hdue, ModuleState.setFb_getElem? _⟩,
    fun started frame copy word warn hsource hpop hseen hcycle hframe => sspReading_first ha hruns hsource hpop hcycle hseen hframe,
    fun started frame copy cause hsource hpop hbad hport hcycle hframe => sspReading_fault ha hruns hsource hpop hcycle hbad hport hframe⟩
  · rw [ModuleState.track_lost hsource hserial hlost, ModuleState.setFb_getElem?]
    exact ModuleState.observe_getElem? fun x => (SpeedState.invalid, (0 : Rat), x.2.2)
  · rw [ModuleState.track_still hsource hserial hsignal hport hstill, ModuleState.standStill, ModuleState.setFb_getElem?]
    simp only [Function.comp_def, if_neg hserial]
    rfl
  · rw [ModuleState.track_moving hsource hserial hsignal hport hlast hrecent, ModuleState.report, ModuleState.setFb_getElem?]
    exact ModuleState.observe_getElem? fun x => (x.1, x.2.1, x.2.2, x.2.2)

end Sys2Proof.Machine
end

section
/-! The mark, latch and force-map commands (R175 to R182, R211): the result each command's own conditions give, and with it the row's effect. -/

namespace Sys2Proof.Machine

section

variable {m : ModuleState} {c : Cmd}

/-- The mark that MARK_SET orders without an action, where the axis stands a distance from it (R175). -/
def Cmd.mark (c : Cmd) (diff : Int) : Mark :=
  { armed := true, measured := getN c.data 1 1 == 1, dir := getN c.data 2 1, action := 0, pos := getI c.data 4 4, value := getN c.data 8 4
    hyst := getN c.data 12 2, rearm := bit (getN c.data 14 1) 1, notify := bit (getN c.data 14 1) 0, ready := true, below := diff < 0 }

/-- MARK_SET of a mark without an action, the edges due counted before it (R175, R176, R182). -/
theorem markSetBody_noAction {n : ModuleState} (hn : m.acceptEdges c.idx = n) (hi : getN c.data 0 1 ≤ 7) (hact : getN c.data 3 1 = 0)
    (hown : n.axisOwner c.idx = 0) {diff : Int}
    (hdiff : diff32 (if getN c.data 1 1 == 1 then n.measured c.idx else (n.axis c.idx).cmdPos) (getI c.data 4 4) = diff) : markSetBody c m =
      { status := if n.markBehind c.idx (getN c.data 2 1) diff then stMarkBehind else stOk
        acts := [axisChannel c.idx]
        m := n.setFb c.idx fun f => { f with marks := upd f.marks (getN c.data 0 1) fun _ => c.mark diff } } := by
  subst hdiff
  simp only [markSetBody, hn, hact, hown, Cmd.mark, Nat.not_lt.mpr hi]
  simp

/-- MARK_CLEAR of an axis that no portal owns (R181). -/
theorem markClearBody_unowned (hown : m.axisOwner c.idx = 0) : markClearBody c m =
    { acts := [axisChannel c.idx], m := m.setFb c.idx fun f => { f with marks := disarmMarks (getN c.data 0 1) f.marks } } :=
  if_neg fun h => h.1 hown

/-- LATCH_ARM on a field input (R179). -/
theorem latchArmBody_input (hi : getN c.data 0 1 ≤ 1) (hsource : getN c.data 1 1 = 0) (hlo : 1 ≤ getN c.data 2 1) (hhi : getN c.data 2 1 ≤ 48) :
    latchArmBody c m =
      { acts := [axisChannel c.idx]
        m := m.setFb c.idx fun f => { f with latches := upd f.latches (getN c.data 0 1) fun _ =>
          { state := .armed, index := false, input := getN c.data 2 1, edge := getN c.data 3 1, notify := bit (getN c.data 4 1) 0 } } } := by
  have hrange : ¬ (1 < getN c.data 0 1 ∨ getN c.data 2 1 = 0 ∨ 48 < getN c.data 2 1) := by omega
  have hindex : (getN c.data 1 1 == 1) = false := by simp [hsource]
  simp only [latchArmBody, hindex, Bool.not_false, true_and, hrange, Bool.false_eq_true, false_and, if_false]

/-- FORCE_MAP_RESET of a portal at rest (R195, R211). -/
theorem forceMapResetBody_atRest (hduty : m.notOnDuty = false) (hrest : m.portalRests c.idx) (hmask : getN c.data 0 1 ≠ 0) :
    forceMapResetBody c m = { acts := [axisChannel (m.doorAxis c.idx), .recd], m := m.resetMaps c.idx (getN c.data 0 1) 0 } := by
  simp only [forceMapResetBody, hduty, hrest, hmask, Bool.not_true, Bool.false_eq_true, if_false]

end

/-- Settles O19, command by command. -/
theorem markCommandsDo : Obligations.MarkCommandsDo := by
  intro s p b
  refine ⟨fun hi hact hown => ?_, fun hown => ?_, fun hi hsource hlo hhi => ?_, fun hduty hrest hmask => ?_⟩
  · have haccepted : ∀ behind : Bool, ¬ 0x8000 ≤ if behind then stMarkBehind else stOk := by decide
    exact does_of_body rfl (markSetBody_noAction (c := cmdOf markSetSpec p s) rfl hi hact hown rfl) fun h => absurd h (haccepted _)
  · exact does_of_ok rfl (markClearBody_unowned (c := cmdOf markClearSpec p s) hown) rfl
  · exact does_of_ok rfl (latchArmBody_input (c := cmdOf latchArmSpec p s) hi hsource hlo hhi) rfl
  · exact does_of_ok rfl (forceMapResetBody_atRest (c := cmdOf forceMapResetSpec p s) hduty hrest hmask) rfl

end Sys2Proof.Machine
end

section
/-! Obstacle detection (R188, R189, R198, R199, R202, R204, R207): a QUICK stop of any moving axis, and what each row makes of the module. -/

namespace Sys2Proof.Machine

/-! ### A QUICK stop -/

section

variable {m : ModuleState} {a : Nat}

/-- A moving axis that the module estimates is at rest, or in a QUICK stop under its rates, whatever stop it was in before (R95, R208). -/
theorem ModuleState.stopAxis_quick (cause : Nat) (hmoving : (m.axis a).moving) (hest : m.estimates a) :
    ((m.stopAxis a .quick cause).axis a).moving = false ∨ ((m.stopAxis a .quick cause).axis a).stop = (some .quick, m.quickDecel a, 0) := by
  have hlt : a < (m.flush a cause).axes.length := by
    rw [ModuleState.length_of_onAxes (m.flush_fixed a cause)]
    exact ModuleState.axis_lt (g := Axis.moving) hmoving nofun
  have hduty : (m.shared a && m.notOnDuty) = false :=
    (Bool.and_comm _ _).trans (by simpa only [ModuleState.estimates, Bool.not_eq_true'] using hest)
  have hstops : ((m.axis a).stopping.isSome && StopKind.quick == .decel || ((m.axis a).plan.isNone && m.shared a && m.notOnDuty)) = false := by
    rw [Bool.and_assoc, hduty, Bool.and_false, Bool.or_false]
    exact Bool.and_false _
  simp only [ModuleState.stopAxis, hmoving, hstops, Bool.not_true, Bool.false_eq_true, if_false, if_true]
  generalize hn : (m.flush a cause).setAxis a _ = n
  have hx := congrArg (fun k : ModuleState => k.axis a) hn
  rw [ModuleState.setAxis_axis _ hlt] at hx
  have hstop : (n.axis a).stop = (some .quick, m.quickDecel a, 0) := (congrArg Axis.stop hx).symm
  have hqueue : (n.axis a).queue = [] := (congrArg Axis.queue hx).symm.trans (m.flush_queue cause)
  have hsome : (n.axis a).stopping.isSome := by rw [(Prod.mk.inj hstop).1]; rfl
  exact (ModuleState.planAnew_stopping hsome hqueue).imp_right fun h => h.trans hstop

theorem offMotion_obst : OffMotion ModuleState.obst := ⟨fun _ _ _ => rfl, fun _ _ _ => rfl, fun _ _ => rfl⟩

end

/-! ### Estimates and declarations -/

section

variable (m : ModuleState) (p : Nat)

/-- What an estimate of a door keeps of its samples, their mean, the energy, the bin and the limit (R189, R190, R198). -/
theorem ModuleState.estimateDoor_getElem? :
    ((m.estimateDoor p).obst[p - 1]?.map fun o => (o.samples, o.force, o.ke, o.bin, o.limit)) = m.obst[p - 1]?.map fun _ =>
      let l := if (m.axis (m.doorAxis p)).moving then
          last50 (m.ob p).samples (m.resisting (m.doorAxis p) ((m.cfg (obstCfg p + 4) 4 : Rat) / 65536) (m.doorMass p) (m.doorScale p))
        else []
      (l, mean l, m.doorEnergy p, m.binOf p (m.axisPos (m.doorAxis p)), (m.forceLimit p).map (·.1)) := by
  change ((upd m.obst (p - 1) _)[p - 1]?.map _) = _
  rw [upd_getElem?, Option.map_map]
  rfl

/-- An obstacle declared of a door: the move is spoiled, the cause and the position are kept (R198, R199). -/
def ModuleState.noteDoorObst : ModuleState :=
  (m.setOb p fun o => { o with overSince := none, spoiled := true }).setPortal p fun q =>
    { q with obstCause := q.obstCause ||| ((m.forceLimit p).map (·.2)).getD obCeiling, obstPos := m.axisPos (m.doorAxis p) }

/-- An obstacle declared of a step (R204). -/
def ModuleState.noteStepObst : ModuleState :=
  (m.setOb p fun o => { o with stepOverSince := none }).setPortal p fun q => { q with stepObst := true }

end

/-! ### The rows -/

section

variable {s : State} {t p : Nat} (hp : 1 ≤ p ∧ p ≤ 4)
include hp

section

variable (hen : (s.then t).enabled p)
include hen

/-- An estimate of a portal without a step is the estimate of its door (R188, R189). -/
theorem forceEstimateUpdate_door (hruns : (s.then t).runs (axisIsland ((s.then t).doorAxis p))) (hest : (s.then t).estimates ((s.then t).doorAxis p))
    (hstep : (s.then t).stepAxis p = none) : Gives (.forceEstimateUpdate t p) s ((s.then t).estimateDoor p) :=
  gives_of_portal hp rfl (by simp [hen, hruns, hest, hstep])

/-- OBST_TIME above the limit of a door declares an obstacle and stops the door axis in QUICK mode (R198, R199). -/
theorem obstTimeElapsed_door {since : Nat} (hest : (s.then t).estimates ((s.then t).doorAxis p)) (hover : ((s.then t).ob p).overSince = some since)
    (hdue : since + ms ((s.then t).prof 32 2) ≤ (s.then t).now) : Gives (.obstTimeElapsed t p false) s
      (((s.then t).noteDoorObst p).stopAxis ((s.then t).doorAxis p) .quick 1) :=
  gives_of_portal hp rfl (by simp [hen, hest, ModuleState.noteDoorObst, ModuleState.dueO_some hover hdue])

/-- OBST_TIME above the limit of a step declares an obstacle of the step and stops its axis in QUICK mode (R204). -/
theorem obstTimeElapsed_step {since b : Nat} (hest : (s.then t).estimates b) (hstep : (s.then t).stepAxis p = some b)
    (hover : ((s.then t).ob p).stepOverSince = some since) (hdue : since + ms ((s.then t).prof 32 2) ≤ (s.then t).now) :
    Gives (.obstTimeElapsed t p true) s (((s.then t).noteStepObst p).stopAxis b .quick 1) :=
  gives_of_portal hp rfl (by simp [hen, hest, hstep, ModuleState.noteStepObst, ModuleState.dueO_some hover hdue])

/-- 10 ms above 1.25 times the energy limit log KE_EXCEEDED, once in a move (R202). -/
theorem keExceeded_logs {since : Nat} (hsince : ((s.then t).ob p).keSince = some since) (hdue : since + ms 10 ≤ (s.then t).now)
    (hlogged : ((s.then t).ob p).keLogged = false) : Gives (.keExceeded t p) s
      (((s.then t).setOb p fun o => { o with keLogged := true }).log evKeExceeded (tgPortal p)
        [(p : Int), ((s.then t).ob p).ke.floor, ((s.then t).doorSpeed p * 1000).floor]) := by
  have hspan : (s.then t).dueO ((s.then t).ob p).keSince 10000000 = true := ModuleState.dueO_some hsince hdue
  exact gives_of_portal hp rfl (by simp [hen, hlogged, hspan])

/-- A fault state of an edge for 100 ms outside CLOSING degrades the portal and is logged (R207). -/
theorem edgeFaultTimeout_degrades (hlogged : ((s.then t).ob p).edgeFaultLogged = false) (hfaulty : ((s.then t).ob p).edge.faulty)
    (hdue : ((s.then t).ob p).edgeSince + ms 100 ≤ (s.then t).now) (hdoor : ((s.then t).portal p).door ≠ .closing) :
    Gives (.edgeFaultTimeout t p) s (((s.then t).setOb p fun o => { o with degraded := true, edgeFaultLogged := true }).log evEdgeFault
      (tgPortal p) [(p : Int), if ((s.then t).ob p).edge = .faultOpen then 3 else 4]) :=
  gives_of_portal hp rfl (by simp [hen, hlogged, hfaulty, ModuleState.due, hdue, hdoor])

end

/-- NORMAL for 1 s outside CLOSING ends the degradation (R207). -/
theorem edgeDegradeEnd_ends (hdegraded : ((s.then t).ob p).degraded) (hedge : ((s.then t).ob p).edge = .normal)
    (hdue : ((s.then t).ob p).edgeSince + seconds 1 ≤ (s.then t).now) (hdoor : ((s.then t).portal p).door ≠ .closing) :
    Gives (.edgeDegradeEnd t p) s ((s.then t).setOb p fun o => { o with degraded := false }) :=
  gives_of_portal hp rfl (by simp [hdegraded, hedge, ModuleState.due, hdue, hdoor])

end

/-- Settles O16, row by row: a declaration leaves the axes alone before it stops one, and the stop leaves the portals and their
obstacle state alone. -/
theorem obstacleRowsRun : Obligations.ObstacleRowsRun := by
  intro s t p hlo hhi hen m o a
  have hp := And.intro hlo hhi
  refine ⟨fun hruns hest hstep => ⟨_, forceEstimateUpdate_door hp hen hruns hest hstep, m.estimateDoor_getElem? p⟩,
    fun since hest hover hdue => ⟨_, obstTimeElapsed_door hp hen hest hover hdue, offMotion_obst.stopAxis _ _ _ _,
      offMotion_portals.stopAxis _ _ _ _, fun hmoving => ⟨ModuleState.stopAxis_queue _ 1, ?_⟩⟩,
    fun since b hest hstep hover hdue => ⟨_, obstTimeElapsed_step hp hen hest hstep hover hdue, offMotion_portals.stopAxis _ _ _ _,
      fun hmoving => ⟨ModuleState.stopAxis_queue _ 1, ?_⟩⟩,
    fun since hsince hdue hlogged => keExceeded_logs hp hen hsince hdue hlogged,
    fun hlogged hfaulty hdue hdoor => edgeFaultTimeout_degrades hp hen hlogged hfaulty hdue hdoor,
    fun hdegraded hedge hdue hdoor => edgeDegradeEnd_ends hp hdegraded hedge hdue hdoor⟩
  · exact ModuleState.stopAxis_quick (m := m.noteDoorObst p) 1 hmoving hest
  · exact (ModuleState.stopAxis_quick (m := m.noteStepObst p) 1 hmoving hest).imp_right (congrArg Prod.fst)

end Sys2Proof.Machine
end

section
/-! The two safety islands of the dike ring (R221 to R239): what each operation on the ring writes of an island and what it leaves of it, and the
order of the latches. -/

namespace Sys2Proof.Machine

variable (m : ModuleState) (i : Nat)

/-! ### An island read after an operation -/

@[simp] theorem ModuleState.setSafety_safety (f : Safety → Safety) : (m.setSafety i f).safety i = f (m.safety i) := by
  by_cases hi : i = 0 <;> simp [ModuleState.safety, ModuleState.setSafety, hi]

/-- One island changed: the other is as it was. -/
theorem ModuleState.setSafety_safety_cases (j : Nat) (f : Safety → Safety) :
    (m.setSafety j f).safety i = f (m.safety i) ∨ (m.setSafety j f).safety i = m.safety i := by
  by_cases hi : i = 0 <;> by_cases hj : j = 0 <;> simp [ModuleState.safety, ModuleState.setSafety, hi, hj]

@[simp] theorem ModuleState.setSafety_test (f : Safety → Safety) : (m.setSafety i f).ring.test = m.ring.test := by
  unfold ModuleState.setSafety
  split <;> rfl

@[simp] theorem ModuleState.noteObs_test : m.noteObs.ring.test = m.ring.test := rfl

@[simp] theorem ModuleState.log_safety (code source : Nat) (items : List Int) : (m.log code source items).safety i = m.safety i := rfl

@[simp] theorem ModuleState.logIf_safety (b : Bool) (code source : Nat) (items : List Int) :
    (m.logIf b code source items).safety i = m.safety i := rfl

@[simp] theorem ModuleState.saturated_safety (max before source opcode off : Nat) :
    (m.saturated max before source opcode off).safety i = m.safety i := rfl

/-- A change of the ring that leaves both islands alone. -/
theorem ModuleState.setRing_safety {f : DikeRing → DikeRing} (ha : (f m.ring).a = m.ring.a) (hb : (f m.ring).b = m.ring.b) :
    (m.setRing f).safety i = m.safety i := by
  simp only [ModuleState.safety, ModuleState.setRing, ha, hb]

@[simp] theorem ModuleState.setTest_safety (f : RingTest → RingTest) : (m.setTest f).safety i = m.safety i := rfl
@[simp] theorem ModuleState.noteObs_safety : m.noteObs.safety i = m.safety i := rfl
@[simp] theorem ModuleState.noteRelease_safety : m.noteRelease.safety i = m.safety i := rfl
@[simp] theorem ModuleState.unproveSwitch_safety (a b : Bool) : (m.unproveSwitch a b).safety i = m.safety i := rfl

@[simp] theorem ModuleState.takeLatch_safety (c : RingLatch) :
    (m.takeLatch c).safety i = { m.safety i with latch := (m.safety i).latch.join c } := by
  unfold ModuleState.safety
  split <;> rfl

/-- A test pulse begins with the carrier off and the current before it noted (R232). -/
@[simp] theorem ModuleState.startPulse_safety : (m.startPulse i).safety i =
    { m.safety i with carrier := false, pulseAt := some m.now, before := (m.safety i).loopMa } :=
  m.setSafety_safety i _

@[simp] theorem ModuleState.testPassed_safety : (m.testPassed i).safety i =
    { m.safety i with lastPass := some m.now, overdue := false, overdueFrom := m.now } :=
  m.setSafety_safety i _

/-- Following the differences changes nothing else of an island (R224). -/
theorem ModuleState.noteDiffs_safety : ∃ diffs, (m.noteDiffs i).safety i = { m.safety i with diffs } := by
  unfold ModuleState.noteDiffs
  rw [ModuleState.setSafety_safety]
  split
  · exact ⟨_, rfl⟩
  · exact ⟨_, rfl⟩

/-! ### A RING_TEST -/

@[simp] theorem ModuleState.testDone_safety (k res : Nat) : (m.testDone k res).safety i = m.safety i := by
  unfold ModuleState.testDone
  split <;> rfl

@[simp] theorem ModuleState.endTest_safety : m.endTest.safety i = m.safety i := by
  unfold ModuleState.endTest
  split <;> rfl

@[simp] theorem ModuleState.endIfDone_safety : m.endIfDone.safety i = m.safety i := by
  unfold ModuleState.endIfDone
  split
  · split
    · exact m.endTest_safety i
    · rfl
  · rfl

section

variable {m} (h : m.ring.test = none)
include h

/-- Without a RING_TEST no pulse of one is dropped. -/
theorem ModuleState.dropPulse_of_noTest : m.dropPulse i = m := by
  simp only [ModuleState.dropPulse, h]

/-- Without a RING_TEST none goes on. -/
theorem ModuleState.stepTest_of_noTest : m.stepTest i = m := by
  simp only [ModuleState.stepTest, h]

end

/-! ### A switch that is off -/

/-- A switch is off: its carrier is off and it does not conduct. -/
def Safety.off (x : Safety) : Prop := x.carrier = false ∧ x.closed = false

theorem Safety.off.carrier_off {x : Safety} (h : x.off) : { x with carrier := false }.off := ⟨rfl, h.2⟩

section

variable {m i} (h : (m.safety i).off)
include h

theorem ModuleState.setSafety_off (j : Nat) {f : Safety → Safety} (hf : ∀ x, x.off → (f x).off) : ((m.setSafety j f).safety i).off := by
  rcases m.setSafety_safety_cases i j f with heq | heq
  · exact heq ▸ hf _ h
  · exact heq ▸ h

/-- The result of one switch in a proof test leaves a switch off. -/
theorem ModuleState.proved_off (j res : Nat) (covered : Bool) :
    ((if covered then (if res = 0 then m.testPassed j else m).testDone j res else m).safety i).off := by
  split
  · rw [ModuleState.testDone_safety]
    split
    · exact ModuleState.setSafety_off h j fun _ hx => hx
    · exact h
  · exact h

/-- A proof test ends with both carriers off (R239). -/
theorem ModuleState.endProof_off (x : RingTest) : ((m.endProof x).safety i).off := by
  unfold ModuleState.endProof
  extract_lets m1 m2
  have h1 : (m1.safety i).off := by
    rw [ModuleState.noteObs_safety, ModuleState.setTest_safety]
    exact ModuleState.setSafety_off (ModuleState.setSafety_off h 0 fun _ hx => hx.carrier_off) 1 fun _ hx => hx.carrier_off
  have h2 : (m2.safety i).off := ModuleState.proved_off h1 0 x.resA _
  rw [ModuleState.endTest_safety]
  exact ModuleState.proved_off h2 1 x.resB _

/-- A pulse or step that is dropped leaves a switch off (R238). -/
theorem ModuleState.dropPulse_off (j : Nat) : ((m.dropPulse j).safety i).off := by
  unfold ModuleState.dropPulse
  split
  · exact h
  · split
    · exact h
    split
    · exact ModuleState.endProof_off h _
    split
    · simpa using h
    · exact h

end

/-- An island that has opened its switch (R222). -/
def Safety.opened (x : Safety) : Safety := { x with carrier := false, closed := false, pulseAt := none }

/-- A switch is opened, then what runs of a RING_TEST on it is dropped (R222, R238). -/
theorem ModuleState.openSwitch_eq (chans cause mask : Nat) : ∃ n : ModuleState, m.openSwitch i chans cause mask = n.dropPulse i ∧
    n.safety i = (m.safety i).opened ∧ n.ring.test = m.ring.test := by
  unfold ModuleState.openSwitch
  extract_lets was n m1
  refine ⟨_, rfl, ?_, ?_⟩
  · rw [ModuleState.noteObs_safety, ModuleState.saturated_safety, ModuleState.logIf_safety, ModuleState.setRing_safety _ _ rfl rfl,
      ModuleState.setSafety_safety]
    rfl
  · simp [m1]

/-- A switch that its island opens is off, whatever RING_TEST runs (R222). -/
theorem ModuleState.openSwitch_off (chans cause mask : Nat) : ((m.openSwitch i chans cause mask).safety i).off := by
  obtain ⟨n, heq, hopened, -⟩ := m.openSwitch_eq i chans cause mask
  have hoff : (n.safety i).off := hopened ▸ ⟨rfl, rfl⟩
  exact heq ▸ ModuleState.dropPulse_off hoff i

/-- Outside a RING_TEST the opening of its switch is all that an island does (R222). -/
theorem ModuleState.openSwitch_of_noTest {m : ModuleState} (h : m.ring.test = none) (chans cause mask : Nat) :
    (m.openSwitch i chans cause mask).safety i = (m.safety i).opened ∧ (m.openSwitch i chans cause mask).ring.test = none := by
  obtain ⟨n, heq, hopened, htest⟩ := m.openSwitch_eq i chans cause mask
  rw [heq, ModuleState.dropPulse_of_noTest i (htest.trans h)]
  exact ⟨hopened, htest.trans h⟩

/-! ### Latches -/

/-- A latch that an island takes ranks no lower than its cause. -/
theorem RingLatch.rank_le_join (x y : RingLatch) : y.rank ≤ (x.join y).rank := by
  unfold RingLatch.join
  split
  · decide
  · decide
  · split
    · exact le_refl _
    · omega

/-- An island that has taken a latch for a cause holds one. -/
theorem RingLatch.join_ne_none (x : RingLatch) {y : RingLatch} (hy : 0 < y.rank) : x.join y ≠ .none := by
  intro h
  have hrank := x.rank_le_join y
  rw [h] at hrank
  exact absurd (hy.trans_le hrank) (by decide)

/-- A latch that ranks with a failed test or above is a SWITCH or TEST latch. -/
theorem RingLatch.ofSwitch_of_rank {x : RingLatch} (h : 3 ≤ x.rank) : x.ofSwitch := by
  cases x <;> simp_all [RingLatch.rank, RingLatch.ofSwitch]

/-- An island that has taken a SWITCH or TEST latch holds one. -/
theorem RingLatch.join_ofSwitch (x : RingLatch) {y : RingLatch} (hy : 3 ≤ y.rank) : (x.join y).ofSwitch :=
  RingLatch.ofSwitch_of_rank (hy.trans (x.rank_le_join y))

/-- Nothing ranks above both switches failed closed. -/
theorem RingLatch.join_switchBoth (x : RingLatch) : x.join .switchBoth = .switchBoth := by
  cases x <;> rfl

/-- The latches that the two islands hold. -/
def DikeRing.latches (x : DikeRing) : RingLatch × RingLatch := (x.a.latch, x.b.latch)

/-- A change of an island that leaves its latch alone leaves both latches alone. -/
theorem ModuleState.setSafety_latches {f : Safety → Safety} (hf : ∀ x, (f x).latch = x.latch) :
    (m.setSafety i f).ring.latches = m.ring.latches := by
  unfold ModuleState.setSafety ModuleState.setRing DikeRing.latches
  split
  · exact Prod.ext (hf _) rfl
  · exact Prod.ext rfl (hf _)

@[simp] theorem ModuleState.noteDiffs_latches : (m.noteDiffs i).ring.latches = m.ring.latches :=
  m.setSafety_latches i fun x => by split <;> rfl

@[simp] theorem ModuleState.logIf_latches (b : Bool) (code source : Nat) (items : List Int) :
    (m.logIf b code source items).ring.latches = m.ring.latches := rfl

theorem ModuleState.takeLatch_latches {m : ModuleState} {l : RingLatch × RingLatch} (h : m.ring.latches = l) (c : RingLatch) :
    (m.takeLatch c).ring.latches = l.map (·.join c) (·.join c) :=
  h ▸ rfl

theorem ModuleState.takeLatch_ofSwitch {c : RingLatch} (hc : 3 ≤ c.rank) :
    (m.takeLatch c).ring.a.latch.ofSwitch ∧ (m.takeLatch c).ring.b.latch.ofSwitch :=
  ⟨RingLatch.join_ofSwitch _ hc, RingLatch.join_ofSwitch _ hc⟩

@[simp] theorem ModuleState.testPassed_latches : (m.testPassed i).ring.latches = m.ring.latches := m.setSafety_latches i fun _ => rfl

/-- Islands that have both taken a latch for a cause hold one. -/
theorem DikeRing.latches_ne_none {x : DikeRing} {l : RingLatch × RingLatch} {c : RingLatch} (h : x.latches = l.map (·.join c) (·.join c))
    (hc : 0 < c.rank) : x.a.latch ≠ .none ∧ x.b.latch ≠ .none := by
  obtain ⟨ha, hb⟩ := Prod.mk.inj h
  exact ⟨ha ▸ RingLatch.join_ne_none _ hc, hb ▸ RingLatch.join_ne_none _ hc⟩

end Sys2Proof.Machine
end

section
/-! The rows of the dike ring (R217, R221 to R233): evaluations, switches and release, comparison, position words, read-back. -/

namespace Sys2Proof.Machine

variable {s : State} {t i : Nat}

/-! ### Rows of a thing that is there -/

/-- A row of a thing that is there gives the module its effect makes of the module at that instant. -/
theorem gives_of_there {r : Instr} {ok : Bool} {f : ModuleState → ModuleState} {m' : ModuleState} (hok : ok = true)
    (he : exec r s = happen ok t f s) (hf : f (s.then t) = m') : Gives r s m' :=
  gives_of_happen (hok ▸ he) hf

/-- A row of a thing that is there runs. -/
theorem runs_of_there {r : Instr} {ok : Bool} {f : ModuleState → ModuleState} {m' : ModuleState} {P : ModuleState → Prop} (hok : ok = true)
    (he : exec r s = happen ok t f s) (hf : f (s.then t) = m') (hP : P m') : Runs r s P :=
  ⟨m', gives_of_there hok he hf, hP⟩

/-! ### Evaluation, closing and release -/

/-- An evaluation outside a RING_TEST: the island's own word is the one of R221, and without close_ok the carrier is off (R222). -/
theorem ModuleState.evaluateIsland_of_noTest {m : ModuleState} (i : Nat) (h : m.ring.test = none) :
    ((m.evaluateIsland i).safety i).own = m.evaluate (m.safety i) ∧
      ((m.evaluate (m.safety i)).closeOk = false → ((m.evaluateIsland i).safety i).carrier = false) := by
  unfold ModuleState.evaluateIsland
  extract_lets x w m1 quench missing cause m2 m3 shut m4
  have htest1 : m1.ring.test = none := by simp [m1, ModuleState.noteDiffs, h]
  obtain ⟨hown1, hcarrier1⟩ : (m1.safety i).own = w ∧ (m1.safety i).carrier = x.carrier := by
    obtain ⟨diffs, hdiffs⟩ := (m.setSafety i fun x => x.evaluated m.now i (m.ring.blocked x) w).noteDiffs_safety i
    rw [hdiffs, ModuleState.setSafety_safety]
    exact ⟨rfl, rfl⟩
  obtain ⟨hown2, hcarrier2, htest2⟩ :
      (m2.safety i).own = w ∧ (w.closeOk = false → (m2.safety i).carrier = false) ∧ m2.ring.test = none := by
    unfold m2
    split
    · obtain ⟨hopened, htest⟩ := ModuleState.openSwitch_of_noTest i htest1 (2 ^ i) cause (if cause = 0 then missing else 0)
      rw [hopened]
      exact ⟨hown1, fun _ => rfl, htest⟩
    · next hquench =>
      refine ⟨hown1, fun hclose => hcarrier1.trans ?_, htest1⟩
      have hproving : m.ring.proving = false := by simp only [DikeRing.proving, h]
      have hoff : x.carrier = false ∧ x.closed = false := by simpa [quench, hclose, hproving] using hquench
      exact hoff.1
  have hm3 : m3 = m2 := by simp only [m3, htest2]
  have htest4 : m4.ring.test = none := by simp [m4, hm3, htest2]
  have hm4 : m4.safety i = m2.safety i := by
    rw [ModuleState.logIf_safety, ModuleState.setRing_safety _ _ rfl rfl, hm3]
  rw [ModuleState.noteRelease_safety, ModuleState.stepTest_of_noTest i htest4, hm4]
  exact ⟨hown2, hcarrier2⟩

/-! ### Comparison words -/

/-- A valid comparison word taken in (R224, R227). -/
theorem ModuleState.hearWord_safety (m : ModuleState) (i : Nat) :
    ((m.hearWord i).safety i).seen = some (m.safety (1 - i)).own ∧ ((m.hearWord i).safety i).missed = 0 := by
  unfold ModuleState.hearWord
  extract_lets w m1
  obtain ⟨hseen, hmissed⟩ : (m1.safety i).seen = some w ∧ (m1.safety i).missed = 0 := by
    obtain ⟨diffs, hdiffs⟩ := (m.setSafety i fun x => { x with seen := some w, missed := 0, run := sat max8 x.run }).noteDiffs_safety i
    rw [hdiffs, ModuleState.setSafety_safety]
    exact ⟨rfl, rfl⟩
  split
  · exact ⟨hseen, hmissed⟩
  · rw [ModuleState.logIf_safety, ModuleState.setSafety_safety, ModuleState.takeLatch_safety]
    exact ⟨hseen, hmissed⟩

/-- A word with another settings CRC leaves both islands latched (R226). -/
theorem ModuleState.hearWord_latches {m : ModuleState} {i : Nat} (h : (m.safety (1 - i)).own.crc ≠ (m.safety i).own.crc) :
    (m.hearWord i).ring.a.latch ≠ .none ∧ (m.hearWord i).ring.b.latch ≠ .none := by
  have htaken : (m.hearWord i).ring.latches = m.ring.latches.map (·.join .settings) (·.join .settings) := by
    unfold ModuleState.hearWord
    extract_lets w m1
    have hm1 : m1.ring.latches = m.ring.latches :=
      (ModuleState.noteDiffs_latches _ i).trans (m.setSafety_latches i fun _ => rfl)
    rw [if_neg h, ModuleState.logIf_latches]
    exact (ModuleState.setSafety_latches _ i (by intro; rfl)).trans (ModuleState.takeLatch_latches hm1 _)
  exact DikeRing.latches_ne_none htaken (by decide)

/-! ### Observations -/

/-- An observation once reported is held as reported. -/
theorem find_reported {l : List (Nat × Nat × Bool)} {k since : Nat} {done : Bool} (h : l.find? (·.1 == k) = some (k, since, done)) :
    (l.map fun x => if x.1 = k then (x.1, x.2.1, true) else x).find? (·.1 == k) = some (k, since, true) := by
  have hkeeps : (fun x : Nat × Nat × Bool => x.1 == k) ∘ (fun x => if x.1 = k then (x.1, x.2.1, true) else x) = fun x => x.1 == k := by
    funext x
    simp only [Function.comp]
    split <;> rfl
  rw [List.find?_map, hkeeps, h]
  simp

/-! ### The rows -/

section

variable (hi : i < 2) (hr : (s.then t).safetyRuns i)
include hi hr

/-- An evaluation of a running island (R221, R222). -/
theorem safetyEvaluation_evaluates (h : (s.then t).ring.test = none) : Runs (.safetyEvaluation t i) s fun m' =>
    (m'.safety i).own = (s.then t).evaluate ((s.then t).safety i) ∧
      (((s.then t).evaluate ((s.then t).safety i)).closeOk = false → (m'.safety i).carrier = false) :=
  runs_of_there (decide_eq_true hi) rfl (if_pos hr) (ModuleState.evaluateIsland_of_noTest i h)

/-- The first closure of SW_A sets the due times of the first tests besides, which leaves both switches alone (R222, R231, R233). -/
theorem closeConfirmElapsed_closes {since : Nat} (hsince : ((s.then t).safety i).closeSince = some since)
    (hdue : since + ms (((s.then t).safety i).cfg 8 2) ≤ (s.then t).now) (hok : ((s.then t).evaluate ((s.then t).safety i)).closeOk)
    (hcarrier : ((s.then t).safety i).carrier = false) (hpulse : ((s.then t).safety i).pulseAt = none)
    (hlost : ((s.then t).safety i).lost = false)
    (hfirst : ((s.then t).safety i).firstClosed = true ∨ (10 ≤ ((s.then t).safety i).run ∧ ((s.then t).safety i).readOpen = true)) :
    Runs (.closeConfirmElapsed t i) s fun m' =>
      (m'.safety i).carrier = true ∧ (m'.safety i).closed = true ∧ (m'.safety i).firstClosed = true := by
  have hheld := ModuleState.dueO_some hsince hdue
  refine runs_of_there (decide_eq_true hi) rfl (if_neg ?_) ?_
  · rcases hfirst with hfirst | ⟨hrun, hopen⟩
    · simp [hr, hheld, hok, hcarrier, hpulse, hlost, hfirst]
    · simp [hr, hheld, hok, hcarrier, hpulse, hlost, hrun, hopen]
  · rw [ModuleState.noteObs_safety]
    cases hfirst : i == 0 && (s.then t).ring.firstTest.isNone with
    | false =>
      rw [ModuleState.setRing_safety _ _ rfl rfl, ModuleState.setSafety_safety]
      exact ⟨rfl, rfl, rfl⟩
    | true =>
      obtain ⟨rfl, -⟩ : i = 0 ∧ _ := by simpa using hfirst
      exact ⟨rfl, rfl, rfl⟩

/-- A side held for RELEASE_CONFIRM is granted (R223). -/
theorem releaseConfirmElapsed_grants (right : Bool) {since : Nat} (hfree : (s.then t).ring.blocked ((s.then t).safety i) = false)
    (hside : if right then ((s.then t).evaluate ((s.then t).safety i)).right else ((s.then t).evaluate ((s.then t).safety i)).left)
    (hsince : (if right then ((s.then t).safety i).rightSince else ((s.then t).safety i).leftSince) = some since)
    (hdue : since + ms (((s.then t).safety i).cfg 10 2) ≤ (s.then t).now) :
    Runs (.releaseConfirmElapsed t i right) s fun m' => (if right then (m'.safety i).grantR else (m'.safety i).grantL) = true := by
  have hheld := ModuleState.dueO_some hsince hdue
  refine runs_of_there (decide_eq_true hi) rfl (if_neg ?_) ?_
  · cases right <;> simp_all
  · rw [ModuleState.noteRelease_safety, ModuleState.setSafety_safety]
    cases right <;> rfl

/-! ### Comparison -/

/-- Two evaluations without a word open the switch, whatever RING_TEST runs, and withdraw release (R227). -/
theorem compareLost_opens (hmissed : 2 ≤ ((s.then t).safety i).missed) (hlogged : ((s.then t).safety i).lostLogged = false) :
    Runs (.compareLost t i) s fun m' => (m'.safety i).lost = true ∧ (m'.safety i).carrier = false ∧ (m'.safety i).closed = false ∧
      (m'.safety i).grantL = false ∧ (m'.safety i).grantR = false := by
  obtain ⟨hcarrier, hclosed⟩ := (s.then t).openSwitch_off i (2 ^ i) 3 0
  refine runs_of_there (decide_eq_true hi) rfl (if_neg (by simp [Nat.not_lt.mpr hmissed, hlogged, hr])) ?_
  rw [ModuleState.noteRelease_safety, ModuleState.log_safety, ModuleState.setSafety_safety]
  exact ⟨rfl, hcarrier, hclosed, rfl, rfl⟩

/-- Ten words end the loss (R227). -/
theorem compareResumed_ends (hrun : 10 ≤ ((s.then t).safety i).run) :
    Gives (.compareResumed t i) s ((s.then t).setSafety i fun x => { x with lost := false, lostLogged := false }) :=
  gives_of_there (decide_eq_true hi) rfl (if_neg (by simp [hrun, hr]))

/-- A valid word of the other island is the latest received, and ends the count of missing words (R224, R227). -/
theorem comparisonWordReceived_hears (hother : (s.then t).safetyRuns (1 - i)) : Runs (.comparisonWordReceived t i .none) s fun m' =>
    (m'.safety i).seen = some ((s.then t).safety (1 - i)).own ∧ (m'.safety i).missed = 0 ∧
      (((s.then t).safety (1 - i)).own.crc ≠ ((s.then t).safety i).own.crc → m'.ring.a.latch ≠ .none ∧ m'.ring.b.latch ≠ .none) := by
  obtain ⟨hseen, hmissed⟩ := (s.then t).hearWord_safety i
  exact runs_of_there (decide_eq_true hi) rfl (if_neg (by simp [hother, hr])) ⟨hseen, hmissed, ModuleState.hearWord_latches⟩

/-- A difference longer than DISC_TIME (R225). -/
theorem discrepancyLatch_latches {d : Diff}
    (hfind : (((s.then t).safety i).diffs.find? fun e => e.kind == d.kind && e.index == d.index) = some d) (hlogged : d.logged = false)
    (hkind : d.kind < 4) (hdue : d.since + ms (((s.then t).safety i).cfg 6 2) < (s.then t).now) :
    Runs (.discrepancyLatch t i d.kind d.index) s fun m' => m'.ring.a.latch = (s.then t).ring.a.latch.join .discrepancy ∧
      m'.ring.b.latch = (s.then t).ring.b.latch.join .discrepancy := by
  have hpass : (decide ((s.then t).now ≤ d.since + ms (((s.then t).safety i).cfg 6 2)) || !(s.then t).safetyRuns i || d.logged) = false := by
    simp [hr, hlogged, hdue]
  refine runs_of_there (by simp [hi, hkind]) rfl rfl ?_
  simp only [hfind, hpass, Bool.false_eq_true, if_false]
  exact ⟨rfl, rfl⟩

/-! ### Position words -/

/-- The word of the door axis is numbered before the island takes it, which the axis's position does not see (R217). -/
theorem positionWordReceived_keeps {p : Nat} (hp : 1 ≤ p ∧ p ≤ 4) (haxis : (s.then t).runs (axisIsland ((s.then t).doorAxis p))) :
    Runs (.positionWordReceived t i p .none) s fun m' => (m'.safety i).words = upd ((s.then t).safety i).words (p - 1) fun _ =>
      some ((s.then t).now, ((s.then t).axis ((s.then t).doorAxis p)).posValid &&
        decide (((s.then t).axisPos ((s.then t).doorAxis p) - (s.then t).posClosed p).natAbs ≤ (s.then t).lockWindow p),
        ((s.then t).axis ((s.then t).doorAxis p)).nextWord i) := by
  refine runs_of_there (by simp [hi, hp]) rfl (if_neg (by simp [hr, haxis])) ?_
  rw [ModuleState.hearPosition, ModuleState.setSafety_safety]
  rfl

omit hr in
/-- A word older than 1 ms is dropped (R217). -/
theorem positionWordStale_drops {p : Nat} (hp : 1 ≤ p ∧ p ≤ 4) : Runs (.positionWordStale t i p) s fun m' => ∀ at_ y,
    (s.then t).now > at_ + ms 1 → ((s.then t).safety i).words[p - 1]? = some (some (at_, y)) → (m'.safety i).words[p - 1]? = some none := by
  refine runs_of_there (by simp [hi, hp]) rfl rfl fun at_ y hold hword => ?_
  rw [ModuleState.setSafety_safety, upd_getElem?, hword]
  simp [Option.filter, hold]

/-! ### Read-back -/

/-- An observation held for 5 ms: a switch failed closed latches both islands, one failed open is reported alone (R230 Table 3). -/
theorem ringReadbackFault_reports {k since : Nat} (hk : k < 5) (hobs : ((s.then t).ring.obs.find? (·.1 == k)) = some (k, since, false))
    (hdue : since + ms 5 ≤ (s.then t).now) : Runs (.ringReadbackFault t k) s fun m' =>
      (m'.ring.obs.find? (·.1 == k)) = some (k, since, true) ∧ (k < 3 → m'.ring.a.latch.ofSwitch ∧ m'.ring.b.latch.ofSwitch) ∧
        (k = 2 → m'.ring.a.latch = .switchBoth ∧ m'.ring.b.latch = .switchBoth) := by
  have hany : ((s.then t).safetyRuns 0 || (s.then t).safetyRuns 1) = true := by
    obtain rfl | rfl : i = 0 ∨ i = 1 := by omega
    · rw [hr, Bool.true_or]
    · rw [hr, Bool.or_true]
  have hspan : (s.then t).due since (ms 5) = true := decide_eq_true hdue
  have hdone := find_reported hobs
  refine runs_of_there (decide_eq_true hk) rfl rfl ?_
  simp only [hobs, hspan, hany, Bool.not_true, Bool.or_self, Bool.false_eq_true, if_false, ModuleState.log_frame]
  have hobservation : k = 0 ∨ k = 1 ∨ k = 2 ∨ k = 3 ∨ k = 4 := by omega
  rcases hobservation with rfl | rfl | rfl | rfl | rfl
  · exact ⟨hdone, fun _ => ModuleState.takeLatch_ofSwitch _ (by decide), nofun⟩
  · exact ⟨hdone, fun _ => ModuleState.takeLatch_ofSwitch _ (by decide), nofun⟩
  · exact ⟨hdone, fun _ => ModuleState.takeLatch_ofSwitch _ (by decide), fun _ => ⟨RingLatch.join_switchBoth _, RingLatch.join_switchBoth _⟩⟩
  · exact ⟨hdone, (absurd · (by decide)), nofun⟩
  · exact ⟨hdone, (absurd · (by decide)), nofun⟩

end

/-- Settles O11, row by row. -/
theorem ringRowsRun : Obligations.RingRowsRun := fun _ _ _ hi hr =>
  ⟨safetyEvaluation_evaluates hi hr, fun _ => closeConfirmElapsed_closes hi hr, rfl, fun right _ => releaseConfirmElapsed_grants hi hr right,
    comparisonWordReceived_hears hi hr, compareLost_opens hi hr, compareResumed_ends hi hr,
    fun _ _ hfind hlogged => discrepancyLatch_latches hi hr hfind hlogged, fun _ hlo hhi => positionWordReceived_keeps hi hr ⟨hlo, hhi⟩,
    fun _ hlo hhi => positionWordStale_drops hi ⟨hlo, hhi⟩, fun _ _ => ringReadbackFault_reports hi hr⟩

end Sys2Proof.Machine
end

section
/-! The periodic tests of the ring switches (R231, R232, R239): a pulse, its judgement outside a RING_TEST, and the test overdue. -/

namespace Sys2Proof.Machine

variable {s : State} {t i : Nat}

/-! ### A pulse judged outside a RING_TEST -/

/-- A pulse ends: the carrier resumes (R232). -/
def ModuleState.resumed (m : ModuleState) (i : Nat) : ModuleState :=
  (m.setSafety i fun x => { x with carrier := true, pulseAt := none }).noteObs

section

variable (m : ModuleState) (i : Nat)

theorem ModuleState.resumed_safety : (m.resumed i).safety i = { m.safety i with carrier := true, pulseAt := none } := m.setSafety_safety i _

theorem ModuleState.resumed_latches : (m.resumed i).ring.latches = m.ring.latches := m.setSafety_latches i fun _ => rfl

/-- A switch found faulty is not proved. -/
theorem ModuleState.unproveSwitch_self : (if i = 0 then (m.unproveSwitch (i == 0) (i != 0)).ring.unproved.1
    else (m.unproveSwitch (i == 0) (i != 0)).ring.unproved.2) = true := by
  by_cases h : i = 0 <;> simp [ModuleState.unproveSwitch, h]

variable {m i} (h : m.ring.test = none) {cur : Nat} (volt : Nat)
include h

/-- Outside a RING_TEST a pulse is judged for its switch alone, and a failure is logged besides as the end of a test (R232). -/
theorem ModuleState.judgePulse_of_noTest : m.judgePulse i cur volt =
    (if decide (cur < 5) then (m.resumed i).testPassed i else
      (((m.resumed i).takeLatch .test).unproveSwitch (i == 0) (i != 0)).log evRingSwitchFault tgModule
        [(i : Int), 0, (cur : Int), (volt : Int)]).logIf (!decide (cur < 5)) evRingTestDone tgModule
      [(i : Int), 1, ((m.safety i).before : Int), (cur : Int)] := by
  unfold ModuleState.judgePulse
  simp only [h, Bool.false_eq_true, if_false]
  rfl

/-- Less than 5 mA during a pulse is a passed test of its switch (R231, R232). -/
theorem ModuleState.judgePulse_passed (hcur : cur < 5) : (m.judgePulse i cur volt).safety i = { m.safety i with
      carrier := true, pulseAt := none, lastPass := some m.now, overdue := false, overdueFrom := m.now } ∧
    (m.judgePulse i cur volt).ring.latches = m.ring.latches := by
  rw [ModuleState.judgePulse_of_noTest h, if_pos (decide_eq_true hcur), ModuleState.logIf_safety, ModuleState.logIf_latches,
    ModuleState.testPassed_safety, ModuleState.testPassed_latches, ModuleState.resumed_safety]
  exact ⟨rfl, m.resumed_latches i⟩

/-- 5 mA or more during a pulse leave both islands latched and the switch not proved (R228, R232). -/
theorem ModuleState.judgePulse_failed (hcur : 5 ≤ cur) :
    (m.judgePulse i cur volt).safety i = { m.safety i with carrier := true, pulseAt := none, latch := (m.safety i).latch.join .test } ∧
    (m.judgePulse i cur volt).ring.latches = m.ring.latches.map (·.join .test) (·.join .test) ∧
    (if i = 0 then (m.judgePulse i cur volt).ring.unproved.1 else (m.judgePulse i cur volt).ring.unproved.2) = true := by
  rw [ModuleState.judgePulse_of_noTest h, if_neg (by simpa using hcur)]
  simp only [ModuleState.logIf_safety, ModuleState.log_safety, ModuleState.unproveSwitch_safety, ModuleState.takeLatch_safety,
    ModuleState.resumed_safety, ModuleState.logIf_frame, ModuleState.log_frame]
  exact ⟨trivial, ModuleState.takeLatch_latches (m.resumed_latches i) _, ModuleState.unproveSwitch_self _ i⟩

end

/-! ### The rows -/

section

variable (hi : i < 2) (hr : (s.then t).safetyRuns i)
include hi hr

/-- A periodic test whose conditions hold starts its pulse (R231). -/
theorem ringTestPulseDue_starts {due : Nat} (hon : bit (((s.then t).safety i).cfg 4 1) 1) (htest : ((s.then t).safety i).testDue = some due)
    (hdue : due ≤ (s.then t).now) (hclosed : (s.then t).ring.closed) (hlatch : (s.then t).ring.latched = false) (hquiet : (s.then t).ring.quiet)
    (hnone : (s.then t).ring.test = none) (hloop : ((s.then t).safety i).cfg 12 2 ≤ ((s.then t).safety i).loopMa) :
    Runs (.ringTestPulseDue t i) s fun m' => (m'.safety i).carrier = false ∧ (m'.safety i).pulseAt = some (s.then t).now ∧
      (m'.safety i).before = ((s.then t).safety i).loopMa ∧ (m'.safety i).testDue = (s.then t).nextTest i := by
  have hspan : (s.then t).dueO ((s.then t).safety i).testDue 0 = true := ModuleState.dueO_some htest hdue
  refine runs_of_there (decide_eq_true hi) rfl
    (if_neg (by simp [hon, hspan, hr, hclosed, hlatch, hquiet, hnone, Nat.not_lt.mpr hloop])) ?_
  rw [ModuleState.setSafety_safety, ModuleState.startPulse_safety]
  exact ⟨rfl, rfl, rfl, rfl⟩

/-- A pulse that runs is judged (R232). -/
theorem ringTestPulseJudged_judges (cur vA vB : Nat) (hpulse : ((s.then t).safety i).pulseAt.isSome) :
    Gives (.ringTestPulseJudged t i cur vA vB) s ((s.then t).judgePulse i cur (if i = 0 then vA else vB)) :=
  gives_of_there (decide_eq_true hi) rfl (by simp only [hr, hpulse, Bool.not_true, Bool.false_eq_true, if_false, if_true])

/-- A pulse passed outside a RING_TEST (R232). -/
theorem ringTestPulseJudged_passes (cur vA vB : Nat) (hpulse : ((s.then t).safety i).pulseAt.isSome) (hnone : (s.then t).ring.test = none)
    (hcur : cur < 5) : Runs (.ringTestPulseJudged t i cur vA vB) s fun m' => (m'.safety i).carrier = true ∧ (m'.safety i).pulseAt = none ∧
      (m'.safety i).lastPass = some (s.then t).now ∧ (m'.safety i).overdue = false ∧ m'.ring.a.latch = (s.then t).ring.a.latch ∧
      m'.ring.b.latch = (s.then t).ring.b.latch := by
  obtain ⟨hisland, hlatches⟩ := ModuleState.judgePulse_passed (i := i) hnone (if i = 0 then vA else vB) hcur
  obtain ⟨ha, hb⟩ := Prod.mk.inj hlatches
  refine ⟨_, ringTestPulseJudged_judges hi hr cur vA vB hpulse, ?_⟩
  simp only [hisland]
  exact ⟨trivial, trivial, trivial, trivial, ha, hb⟩

/-- A pulse failed outside a RING_TEST (R228, R232). -/
theorem ringTestPulseJudged_fails (cur vA vB : Nat) (hpulse : ((s.then t).safety i).pulseAt.isSome) (hnone : (s.then t).ring.test = none)
    (hcur : 5 ≤ cur) : Runs (.ringTestPulseJudged t i cur vA vB) s fun m' => (m'.safety i).carrier = true ∧ (m'.safety i).pulseAt = none ∧
      m'.ring.a.latch ≠ .none ∧ m'.ring.b.latch ≠ .none ∧ (if i = 0 then m'.ring.unproved.1 else m'.ring.unproved.2) = true := by
  obtain ⟨hisland, hlatches, hproved⟩ := ModuleState.judgePulse_failed (i := i) hnone (if i = 0 then vA else vB) hcur
  obtain ⟨ha, hb⟩ := DikeRing.latches_ne_none hlatches (by decide)
  refine ⟨_, ringTestPulseJudged_judges hi hr cur vA vB hpulse, ?_⟩
  simp only [hisland]
  exact ⟨trivial, trivial, ha, hb, hproved⟩

/-- 24 h without a passed test, from when they count (R231). -/
theorem ringTestOverdue_logs (hdue : ((s.then t).safety i).overdueFrom + seconds 86400 ≤ (s.then t).now) : Gives (.ringTestOverdue t i) s
    (((s.then t).setSafety i fun x => { x with overdue := true, overdueFrom := (s.then t).now }).log evRingTestOverdue tgModule
      [(i : Int), (((s.then t).now - ((s.then t).safety i).lastPass.getD (s.then t).warden.powerAt) / seconds 3600 : Nat)]) := by
  have hspan : (s.then t).due ((s.then t).safety i).overdueFrom (seconds 86400) = true := decide_eq_true hdue
  exact gives_of_there (decide_eq_true hi) rfl (if_neg (by simp [hr, hspan]))

end

/-- Settles O12, row by row. -/
theorem ringTestRowsRun : Obligations.RingTestRowsRun := fun _ _ _ hi hr =>
  ⟨fun _ => ringTestPulseDue_starts hi hr, ringTestPulseJudged_passes hi hr, ringTestPulseJudged_fails hi hr, ringTestOverdue_logs hi hr⟩

end Sys2Proof.Machine
end

section
/-! RING_TEST and RING_CLEAR (R228, R238, R239): the result each command's own conditions give, and with it the row's effect. -/

namespace Sys2Proof.Machine

variable {m : ModuleState} {c : Cmd}

/-- The islands hold no latch. -/
theorem DikeRing.latched_eq_false {x : DikeRing} : x.latched = false ↔ x.a.latch = .none ∧ x.b.latch = .none := by
  simp [DikeRing.latched]

section

variable (harm : m.reset.armed) (hnone : m.ring.test = none) (hquiet : m.ring.quiet)
include harm hnone hquiet

/-- RING_TEST with the ring closed and no latch: pulses on the switches it names (R238). -/
theorem ringTestBody_pulses (hclosed : m.ring.closed) (hlatch : m.ring.latched = false) : ringTestBody c m =
    { acts := match getN c.data 0 1 with | 0 => [.sa] | 1 => [.sb] | _ => [.sa, .sb]
      wait := true
      m := m.setRing fun r => { r with test := some (ringTestOf (getN c.data 0 1) c.ref false
        (match getN c.data 0 1 with | 0 => [0] | 1 => [1] | _ => [0, 1]) m.now r.current) } } := by
  obtain ⟨ha, hb⟩ := DikeRing.latched_eq_false.mp hlatch
  have hproof : (m.ring.a.latch.ofSwitch || m.ring.b.latch.ofSwitch) = false := by rw [ha, hb]; rfl
  simp only [ringTestBody, hproof, harm, hnone, hquiet, hclosed, hlatch, ringTestOf]
  rfl

/-- RING_TEST with a SWITCH or TEST latch: the steps of the proof test (R239). -/
theorem ringTestBody_proves (hlatch : m.ring.a.latch.ofSwitch ∨ m.ring.b.latch.ofSwitch) (hallowed : m.proofAllowed) : ringTestBody c m =
    { acts := [.sa, .sb]
      wait := true
      m := m.setRing fun r => { r with test := some (ringTestOf (getN c.data 0 1) c.ref true
        (match getN c.data 0 1 with | 0 => [1, 3] | 1 => [2, 3] | _ => [1, 2, 3]) m.now r.current) } } := by
  have hproof : (m.ring.a.latch.ofSwitch || m.ring.b.latch.ofSwitch) = true := (Bool.or_eq_true _ _).mpr hlatch
  simp only [ringTestBody, hproof, harm, hnone, hquiet, hallowed, ringTestOf]
  rfl

end

/-- RING_CLEAR under its conditions removes both latches, and changes nothing else of the ring (R228). -/
theorem ringClearBody_clears (h : m.clearAllowed) : ∃ m', ringClearBody c m = { acts := [.sa, .sb], m := m' } ∧
    m'.ring = { m.ring with a := { m.ring.a with latch := .none }, b := { m.ring.b with latch := .none } } := by
  refine ⟨_, by simp only [ringClearBody, h, Bool.not_true, Bool.false_eq_true, if_false]; rfl, ?_⟩
  simp only [ModuleState.logIf_frame]
  rfl

/-- Settles O13, command by command. -/
theorem ringCommandsDo : Obligations.RingCommandsDo := by
  intro s p b
  refine ⟨fun harm hnone hquiet hclosed hlatch => ?_, fun harm hnone hquiet hlatch hallowed => ?_, fun hallowed => ?_⟩
  · exact does_of_ok rfl (ringTestBody_pulses (c := cmdOf ringTestSpec p s) harm hnone hquiet hclosed hlatch) rfl
  · exact does_of_ok rfl (ringTestBody_proves (c := cmdOf ringTestSpec p s) harm hnone hquiet hlatch hallowed) rfl
  · obtain ⟨m', hbody, hring⟩ := ringClearBody_clears (c := cmdOf ringClearSpec p s) hallowed
    exact ⟨m', does_of_ok rfl hbody rfl, hring⟩

end Sys2Proof.Machine
end

section
/-! The load channels of the list, and what switching leaves of the common part (R245 to R254): one channel changed, and the settings, pins and levels
that the channels follow. -/

namespace Sys2Proof.Machine

/-! ### Channels of the list -/

/-- Two changes that agree on an element are the same. -/
theorem upd_congr {α : Type} {l : List α} {i : Nat} {f k : α → α} {d : α} (h : f (l.getD i d) = k (l.getD i d)) : upd l i f = upd l i k := by
  refine List.ext_getElem? fun j => ?_
  simp only [upd, List.getElem?_modify]
  rcases eq_or_ne i j with rfl | hne
  · cases hl : l[i]? with
    | none => rfl
    | some x => simpa [List.getD_eq_getElem?_getD, hl] using h
  · simp [hne]

section

variable {m : ModuleState} {n : Nat}

/-- A channel that is not as a missing one is in the list. -/
theorem ModuleState.load_lt {β : Type} {g : Load → β} {b : β} (h : g (m.load n) = b) (hb : g {} ≠ b) : n - 1 < m.loads.length := by
  by_contra hlt
  refine hb ?_
  rwa [ModuleState.load, List.getD_eq_default _ _ (Nat.le_of_not_lt hlt)] at h

/-- A channel of the list once it is changed. -/
theorem ModuleState.setLoad_load (f : Load → Load) (h : n - 1 < m.loads.length) : (m.setLoad n f).load n = f (m.load n) :=
  upd_getD_self m.loads (n - 1) f {} h

/-- A part that a change keeps of the channel is kept, whether or not the channel is in the list. -/
theorem ModuleState.setLoad_part {β : Type} {g : Load → β} {f : Load → Load} (h : g (f (m.load n)) = g (m.load n)) :
    g ((m.setLoad n f).load n) = g (m.load n) := by
  by_cases hlt : n - 1 < m.loads.length
  · rw [ModuleState.setLoad_load f hlt, h]
  · rw [ModuleState.setLoad, upd, List.modify_eq_self (Nat.le_of_not_lt hlt)]

/-- Two changes that agree on a channel are the same. -/
theorem ModuleState.setLoad_congr {f k : Load → Load} (h : f (m.load n) = k (m.load n)) : m.setLoad n f = m.setLoad n k :=
  congrArg (fun l => { m with loads := l }) (upd_congr h)

/-- Two changes of one channel are one. -/
theorem ModuleState.setLoad_setLoad (f k : Load → Load) : (m.setLoad n f).setLoad n k = m.setLoad n (k ∘ f) :=
  congrArg (fun l => { m with loads := l }) (upd_upd m.loads (n - 1) f k)

/-! ### A channel that follows its demand -/

/-- An off channel that nothing holds off follows a demand that is on (R246). -/
theorem ModuleState.lsFollow_turnsOn (hdemand : (m.load n).demand) (hoff : (m.load n).on = false) (hdrives : m.drivesLs n) (hmode : m.loadMode n ≠ 0)
    (hrefusal : m.lsRefusal n = none) (hthermal : (m.load n).thermalOff = false) (hvls : m.loadCommon.vlsCut = false)
    (hcut : (m.load n).cut = false) : m.lsFollow n = m.setLoad n fun x =>
      { x with on := true, heldSpent := false, onSince := m.now, openOff := false, highOff := false, expectedHigh := false } := by
  simp [ModuleState.lsFollow, hdemand, hoff, hdrives, hmode, hrefusal, hthermal, hvls, hcut]

/-- Following its demand changes a channel at most, which it neither latches nor spends, and cuts only with VLS cut or the channel cut before
(R246, R263). -/
theorem ModuleState.lsFollow_load (m : ModuleState) (n : Nat) : ∃ f : Load → Load, m.lsFollow n = m.setLoad n f ∧
    (∀ x, (f x).latched = x.latched ∧ (f x).spent = x.spent ∧ (x.on = true → (f x).on = true)) ∧
    (m.loadCommon.vlsCut = false → (m.load n).cut = false → ∀ x, (f x).cut = x.cut) := by
  have hsame : m = m.setLoad n id := by rw [ModuleState.setLoad, upd, List.modify_id]
  unfold ModuleState.lsFollow
  extract_lets x
  split
  · exact ⟨id, hsame, fun _ => ⟨rfl, rfl, id⟩, fun _ _ _ => rfl⟩
  split
  · exact ⟨_, rfl, fun _ => ⟨rfl, rfl, id⟩, fun _ _ _ => rfl⟩
  split
  · exact ⟨id, hsame, fun _ => ⟨rfl, rfl, id⟩, fun _ _ _ => rfl⟩
  split
  · next hcut =>
    refine ⟨_, rfl, fun _ => ⟨rfl, rfl, id⟩, fun hv hc => ?_⟩
    exact absurd hcut (by simp [x, hv, hc])
  · exact ⟨_, rfl, fun _ => ⟨rfl, rfl, fun _ => rfl⟩, fun _ _ _ => rfl⟩

end

end Sys2Proof.Machine
end

section
/-! The protection and diagnosis rows of a load channel (R245 to R264). -/

namespace Sys2Proof.Machine

/-- A channel that none of its protections holds off is refused nothing (R247, R253). -/
theorem ModuleState.lsRefusal_eq_none {m : ModuleState} {n : Nat} (hlatched : (m.load n).latched = false) (hspent : (m.load n).spent = false)
    (hmodule : m.loadCommon.moduleSpent = false) : m.lsRefusal n = none := by
  simp [ModuleState.lsRefusal, hlatched, hspent, hmodule]

section

variable {s : State} {t n : Nat} (hn : (decide (1 ≤ n) && decide (n ≤ 16)) = true)
include hn

/-! ### Protection -/

/-- The current of a conducting channel against I_LIMIT (R248). -/
theorem lsCurrentLimit_limits (current : Nat) (hon : (s.then t).conducts n) : Gives (.lsCurrentLimit t n current) s
    ((s.then t).setLoad n fun x => { x with limiting := decide ((s.then t).cfg (loadCfg n + 4) 2 ≤ current) }) :=
  gives_of_there hn rfl (if_pos hon)

/-- The shutdown level is reached with retries left, outside a hold window (R248). -/
theorem lsThermalShutdown_turnsOff (temp : Int) (htemp : 1650 ≤ temp) (hon : (s.then t).conducts n) (hheld : ((s.then t).load n).held = false)
    (hleft : ((s.then t).load n).retries < (s.then t).cfg (loadCfg n + 10) 1) : Gives (.lsThermalShutdown t n temp) s
      (((((s.then t).lsOff n).setLoad n fun y => { y with thermalOff := true, shutdowns := sat max16 y.shutdowns }).saturated max16
        ((s.then t).load n).shutdowns (tgLoad n) 0x0603 22).log evLsThermalOff (tgLoad n)
          [(n : Int), temp, (((s.then t).load n).retries : Int)]) := by
  have hlatch : (((s.then t).load n).held || decide ((s.then t).cfg (loadCfg n + 10) 1 ≤ ((s.then t).load n).retries)) = false := by
    simp [hheld, hleft]
  refine gives_of_there hn rfl ((if_neg (by simp [hon, htemp])).trans ?_)
  simp only [hlatch, Bool.or_false, Bool.not_false, ModuleState.logIf_true, ModuleState.logIf_false]

/-- The shutdown level is reached with the retries used, or in a hold window (R248, R264). -/
theorem lsThermalShutdown_latches (temp : Int) (htemp : 1650 ≤ temp) (hon : (s.then t).conducts n)
    (hused : ((s.then t).load n).held = true ∨ (s.then t).cfg (loadCfg n + 10) 1 ≤ ((s.then t).load n).retries) :
    Gives (.lsThermalShutdown t n temp) s
      (((((s.then t).lsOff n).setLoad n fun y => { y with thermalOff := false, latched := true, shutdowns := sat max16 y.shutdowns }).saturated
        max16 ((s.then t).load n).shutdowns (tgLoad n) 0x0603 22).log evLsLatched (tgLoad n)
          [(n : Int), temp, flagItem ((s.then t).load n).held]) := by
  have hlatch : (((s.then t).load n).held || decide ((s.then t).cfg (loadCfg n + 10) 1 ≤ ((s.then t).load n).retries)) = true := by
    simpa using hused
  refine gives_of_there hn rfl ((if_neg (by simp [hon, htemp])).trans ?_)
  simp only [hlatch, Bool.or_true, Bool.not_true, ModuleState.logIf_true, ModuleState.logIf_false]

/-- A cooled channel that nothing holds off is on again with one retry more (R248). -/
theorem lsCooled_turnsOn (hthermal : ((s.then t).load n).thermalOff) (hlatched : ((s.then t).load n).latched = false)
    (hspent : ((s.then t).load n).spent = false) (hoff : ((s.then t).load n).on = false) (hcut : ((s.then t).load n).cut = false)
    (hdemand : ((s.then t).load n).demand) (hdrives : (s.then t).drivesLs n) (hmode : (s.then t).loadMode n ≠ 0)
    (hmodule : (s.then t).loadCommon.moduleSpent = false) (hvls : (s.then t).loadCommon.vlsCut = false) :
    Gives (.lsCooled t n) s ((s.then t).setLoad n fun y => { y with
      thermalOff := false, on := true, heldSpent := false, onSince := (s.then t).now, openOff := false, highOff := false, expectedHigh := false
      retries := min 15 (y.retries + 1), oweRetry := false }) := by
  have hlt := ModuleState.load_lt hthermal (by decide)
  refine gives_of_there hn rfl ((if_neg (by simp [hthermal, hlatched])).trans ?_)
  extract_lets m1 m2
  have hcool : m1.load n = { (s.then t).load n with thermalOff := false } := ModuleState.setLoad_load _ hlt
  have hrefusal : m1.lsRefusal n = none := ModuleState.lsRefusal_eq_none (by rw [hcool, hlatched]) (by rw [hcool, hspent]) hmodule
  have hfollow : m2 = m1.setLoad n _ := ModuleState.lsFollow_turnsOn (by rw [hcool, hdemand]) (by rw [hcool, hoff]) hdrives hmode hrefusal
    (by rw [hcool]) hvls (by rw [hcool, hcut])
  rw [hfollow, ModuleState.setLoad_setLoad, ModuleState.setLoad_setLoad]
  exact ModuleState.setLoad_congr (by simp [hcut, m1])

/-- 60 s on without a thermal shutdown (R249). -/
theorem lsRetryReset_resets (hon : ((s.then t).load n).on) (hdue : ((s.then t).load n).onSince + seconds 60 ≤ (s.then t).now) :
    Gives (.lsRetryReset t n) s ((s.then t).setLoad n fun y => { y with retries := 0 }) :=
  gives_of_there hn rfl (if_pos (by simp [hon, ModuleState.due, hdue]))

/-! ### Diagnosis -/

/-- Below OL_THRESH for 50 ms (R257). -/
theorem lsOpenLoadTimeout_sets (current : Nat) (hmeasured : (s.then t).lsMeasured n)
    (hbelow : (s.then t).lsReads n 250 current < (s.then t).cfg (loadCfg n + 6) 2) : Gives (.lsOpenLoadTimeout t n current) s
      (((s.then t).setLoad n fun y => { y with openOn := true }).logIf (!((s.then t).load n).openOn) evLsOpenLoad (tgLoad n)
        [(n : Int), 0, ((s.then t).lsReads n 250 current : Int)]) := by
  have hjudged : ¬ ((s.then t).cfg (loadCfg n + 6) 2 = 0 ∨ (!(s.then t).lsMeasured n) = true) := by
    simpa [hmeasured] using Nat.ne_zero_of_lt hbelow
  exact gives_of_there hn rfl ((if_neg hjudged).trans (if_pos hbelow))

/-- Above OL_THRESH for 50 ms (R257). -/
theorem lsOpenLoadTimeout_ends (current : Nat) (hmeasured : (s.then t).lsMeasured n) (hth : (s.then t).cfg (loadCfg n + 6) 2 ≠ 0)
    (habove : (s.then t).cfg (loadCfg n + 6) 2 < (s.then t).lsReads n 250 current) : Gives (.lsOpenLoadTimeout t n current) s
      ((s.then t).setLoad n fun y => { y with openOn := false }) := by
  have hjudged : ¬ ((s.then t).cfg (loadCfg n + 6) 2 = 0 ∨ (!(s.then t).lsMeasured n) = true) := by simpa [hmeasured] using hth
  exact gives_of_there hn rfl ((if_neg hjudged).trans ((if_neg (Nat.lt_asymm habove)).trans (if_pos habove)))

variable (hstate : (s.then t).lsState n = 0) (hdue : ((s.then t).load n).offSince + ms 10 ≤ (s.then t).now)
include hstate hdue

omit hn in
/-- A channel in STATE OFF for 10 ms is judged (R258). -/
theorem lsOffDiag_judges : ¬ ((!((s.then t).lsState n == 0 || (s.then t).lsState n == 3 || (s.then t).lsState n == 4 || (s.then t).lsState n == 5) ||
    !(s.then t).due ((s.then t).load n).offSince (ms 10)) = true) := by
  simp [hstate, ModuleState.due, hdue]

/-- High while off (R259). -/
theorem lsOffDiagJudged_high (volt : Nat) (hhigh : 80 ≤ volt) (hpartner : ((s.then t).load n).partnerOn = false) :
    Gives (.lsOffDiagJudged t n volt) s
      (((s.then t).setLoad n fun y => { y with highOff := true, expectedHigh := false }).logIf (!((s.then t).load n).highOff) evLsHighWhileOff
        (tgLoad n) [(n : Int), (volt : Int)]) :=
  gives_of_there hn rfl ((if_neg (lsOffDiag_judges hstate hdue)).trans ((if_pos hhigh).trans (if_neg (by simp [hpartner]))))

/-- High while the partner's switch is on is expected (R261). -/
theorem lsOffDiagJudged_expected (volt : Nat) (hhigh : 80 ≤ volt) (hpartner : ((s.then t).load n).partnerOn = true) :
    Gives (.lsOffDiagJudged t n volt) s ((s.then t).setLoad n fun y => { y with expectedHigh := true, highOff := false }) :=
  gives_of_there hn rfl ((if_neg (lsOffDiag_judges hstate hdue)).trans ((if_pos hhigh).trans (if_pos hpartner)))

/-- Open load while off (R258). -/
theorem lsOffDiagJudged_open (volt : Nat) (hdiag : bit ((s.then t).loadFlags n) 0) (hlow : 20 ≤ volt) (hhigh : volt ≤ 55) :
    Gives (.lsOffDiagJudged t n volt) s
      (((s.then t).setLoad n fun y => { y with openOff := true, highOff := false, expectedHigh := false }).logIf
        (!((s.then t).load n).openOff) evLsOpenLoad (tgLoad n) [(n : Int), 1, (volt : Int)]) :=
  gives_of_there hn rfl ((if_neg (lsOffDiag_judges hstate hdue)).trans ((if_neg (by omega)).trans ((if_neg (by simp [hdiag])).trans
    (if_pos ⟨hlow, hhigh⟩))))

end

/-- Settles O4, row by row. -/
theorem loadRowsRun : Obligations.LoadRowsRun := by
  intro s t n hlo hhi m x
  have hn : (decide (1 ≤ n) && decide (n ≤ 16)) = true := by simp [hlo, hhi]
  exact ⟨lsCurrentLimit_limits hn, lsThermalShutdown_turnsOff hn, lsThermalShutdown_latches hn, lsCooled_turnsOn hn, lsRetryReset_resets hn, rfl,
    lsOpenLoadTimeout_sets hn, lsOpenLoadTimeout_ends hn, fun volt hstate hdue => lsOffDiagJudged_high hn hstate hdue volt,
    fun volt hstate hdue => lsOffDiagJudged_expected hn hstate hdue volt, fun volt hstate hdue => lsOffDiagJudged_open hn hstate hdue volt⟩

end Sys2Proof.Machine
end

section
/-! What the load channels follow (R246, R260, R263): the phases of the generators, the pins, and VLS. Switching accounts turn-offs, and leaves the
settings, pins and levels of the common part alone. -/

namespace Sys2Proof.Machine

/-! ### The common part apart from the spillway's accounts -/

/-- The common part of the load channels apart from the module accumulator and MODULE_SPENT. -/
def ModuleState.loadInputs (m : ModuleState) : LoadCommon :=
  { m.loadCommon with accum1 := 0, accum2 := 0, accumAt := 0, moduleSpent := false }

theorem offLoads_warden : OffLoads ModuleState.warden := ⟨fun _ _ _ => rfl, fun _ _ => rfl, fun _ _ => rfl, fun _ _ => rfl⟩

section

variable (m : ModuleState) (n : Nat)

@[simp] theorem ModuleState.setLoad_loadInputs (f : Load → Load) : (m.setLoad n f).loadInputs = m.loadInputs := rfl

@[simp] theorem ModuleState.spillway_loadInputs : (m.spillway n).loadInputs = m.loadInputs := by
  unfold ModuleState.spillway
  split <;> rfl

@[simp] theorem ModuleState.lsOff_loadInputs : (m.lsOff n).loadInputs = m.loadInputs := by
  simp only [ModuleState.lsOff, apply_ite ModuleState.loadInputs, ModuleState.spillway_loadInputs, ModuleState.setLoad_loadInputs, ite_self]

@[simp] theorem ModuleState.turnOffEdge_loadInputs (conducted : Bool) : (m.turnOffEdge n conducted).loadInputs = m.loadInputs := by
  simp only [ModuleState.turnOffEdge, apply_ite ModuleState.loadInputs, ModuleState.spillway_loadInputs, ModuleState.setLoad_loadInputs, ite_self]

@[simp] theorem ModuleState.setPhase_loadInputs (on : Bool) : (m.setPhase n on).loadInputs = m.loadInputs := by
  simp only [ModuleState.setPhase, apply_ite ModuleState.loadInputs, ModuleState.turnOffEdge_loadInputs, ModuleState.setLoad_loadInputs, ite_self]

@[simp] theorem ModuleState.cutLs_loadInputs : (m.cutLs n).loadInputs = m.loadInputs := by
  simp only [ModuleState.cutLs, apply_ite ModuleState.loadInputs, ModuleState.lsOff_loadInputs, ModuleState.setLoad_loadInputs, ite_self]

end

/-- Each part of what the channels follow. -/
theorem ModuleState.parts_of_loadInputs {m k : ModuleState} (h : k.loadInputs = m.loadInputs) :
    k.loadCommon.pgUse = m.loadCommon.pgUse ∧ k.loadCommon.pgAt = m.loadCommon.pgAt ∧ k.loadCommon.pins = m.loadCommon.pins ∧
      k.loadCommon.vls = m.loadCommon.vls ∧ k.loadCommon.vlsLow = m.loadCommon.vlsLow ∧ k.loadCommon.vlsCut = m.loadCommon.vlsCut :=
  ⟨congrArg (·.pgUse) h, congrArg (·.pgAt) h, congrArg (·.pins) h, congrArg (·.vls) h, congrArg (·.vlsLow) h, congrArg (·.vlsCut) h⟩

/-! ### Phases -/

/-- The list's element at another index than the one that is changed. -/
theorem upd_getElem?_ne {α : Type} {l : List α} {i j : Nat} {f : α → α} (h : i ≠ j) : (upd l i f)[j]? = l[j]? := by
  simp [upd, h]

/-- Which channels are in their on-phase. -/
def ModuleState.phases (m : ModuleState) : List Bool := m.loads.map (·.phaseOn)

/-- A phase of the list, said of its channel. -/
theorem ModuleState.phases_getElem? (m : ModuleState) (i : Nat) : m.phases[i]? = m.loads[i]?.map (·.phaseOn) := List.getElem?_map

section

variable {m : ModuleState} {n : Nat}

/-- A change that makes something of the channel's phase makes it of the list's. -/
theorem ModuleState.setLoad_phases {f : Load → Load} {v : Bool → Bool} (h : ∀ x, (f x).phaseOn = v x.phaseOn) :
    (m.setLoad n f).phases = upd m.phases (n - 1) v := by
  refine List.ext_getElem? fun i => ?_
  simp only [ModuleState.phases, ModuleState.setLoad_loads, upd, List.getElem?_map, List.getElem?_modify]
  rcases eq_or_ne (n - 1) i with rfl | hne
  · simp [Function.comp_def, h]
  · simp [hne]

/-- A change that keeps the channel's phase keeps every phase. -/
theorem ModuleState.setLoad_phases_same {f : Load → Load} (h : ∀ x, (f x).phaseOn = x.phaseOn := by intro; rfl) :
    (m.setLoad n f).phases = m.phases :=
  (ModuleState.setLoad_phases (v := id) h).trans (List.modify_id ..)

theorem ModuleState.spillway_phases : (m.spillway n).phases = m.phases := by
  unfold ModuleState.spillway
  split
  · rfl
  · exact ModuleState.setLoad_phases_same (m := { m with free := m.free + 1 }) (n := n)

theorem ModuleState.turnOffEdge_phases (conducted : Bool) : (m.turnOffEdge n conducted).phases = m.phases := by
  unfold ModuleState.turnOffEdge
  extract_lets m1 m2
  have hm1 : m1.phases = m.phases := ModuleState.setLoad_phases_same
  have hm2 : m2.phases = m.phases := ModuleState.spillway_phases.trans hm1
  split
  · split
    · exact (ModuleState.setLoad_phases_same).trans hm2
    split
    · exact (ModuleState.setLoad_phases_same).trans hm2
    · exact hm2
  · exact hm1

/-- The beginning or the end of an on-phase is that of its channel alone (R260). -/
theorem ModuleState.setPhase_phases (on : Bool) : (m.setPhase n on).phases = upd m.phases (n - 1) fun _ => on := by
  unfold ModuleState.setPhase
  split
  · next hon => exact ModuleState.setLoad_phases fun _ => hon.symm
  · next hoff =>
    rw [ModuleState.turnOffEdge_phases]
    exact ModuleState.setLoad_phases fun _ => ((Bool.not_eq_true _).mp hoff).symm

end

/-- Whether a channel is in its on-phase as a period starts is a matter of the configuration. -/
theorem ModuleState.onAtStart_eq {m k : ModuleState} (h : m.warden = k.warden) (n duty : Nat) : m.onAtStart n duty = k.onAtStart n duty := by
  rw [ModuleState.onAtStart, ModuleState.onAtStart, ModuleState.cfg, ModuleState.cfg, h]

/-! ### The channels of a generator -/

/-- The numbers of channels are different, and none is 0. -/
theorem pgChannels_nodup (m : ModuleState) (copy pg : Nat) : (m.pgChannels copy pg).Nodup := List.Nodup.filter _ (by decide)

theorem pos_of_mem_pgChannels {m : ModuleState} {copy pg n : Nat} (h : n ∈ m.pgChannels copy pg) : 1 ≤ n :=
  (by decide : ∀ k ∈ nums16, 1 ≤ k) n (List.mem_of_mem_filter h)

/-- Of updates that are none but for one element, that of the element is left. -/
theorem ModuleState.each_only {α : Type} {l : List α} {f : ModuleState → α → ModuleState} {a : α} (hl : l.Nodup) (ha : a ∈ l)
    (h : ∀ m, ∀ x ∈ l, x ≠ a → f m x = m) (m : ModuleState) : m.each l f = f m a := by
  have hnone : ∀ (r : List α) (m : ModuleState), (∀ x ∈ r, f m x = m) → m.each r f = m := fun r => by
    induction r with
    | nil => exact fun _ _ => rfl
    | cons x r ih =>
      intro m hr
      obtain ⟨hx, hr⟩ := List.forall_mem_cons.mp hr
      rw [ModuleState.each_cons, hx, ih m hr]
  induction l generalizing m with
  | nil => cases ha
  | cons x r ih =>
    obtain ⟨hx, hr⟩ := List.nodup_cons.mp hl
    rw [ModuleState.each_cons]
    rcases List.mem_cons.mp ha with rfl | har
    · exact hnone r _ fun y hy => h _ y (List.mem_cons_of_mem _ hy) fun hya => hx (hya ▸ hy)
    · rw [h m x List.mem_cons_self fun hxa => hx (hxa ▸ har)]
      exact ih hr har (fun m y hy => h m y (List.mem_cons_of_mem _ hy)) m

section

variable {n duty : Nat}

/-- The phase of a channel that is not among those whose period starts. -/
theorem each_setPhase_of_notMem {l : List Nat} (hl : ∀ k ∈ l, 1 ≤ k) (hpos : 1 ≤ n) (hn : n ∉ l) (m : ModuleState) :
    (m.each l fun m k => m.setPhase k (m.onAtStart k duty)).phases[n - 1]? = m.phases[n - 1]? := by
  induction l generalizing m with
  | nil => rfl
  | cons k r ih =>
    obtain ⟨hk, hr⟩ := List.forall_mem_cons.mp hl
    obtain ⟨hnk, hnr⟩ := not_or.mp (List.mem_cons.not.mp hn)
    have hne : k - 1 ≠ n - 1 := by omega
    rw [ModuleState.each_cons, ih hr hnr, ModuleState.setPhase_phases, upd_getElem?_ne hne]

/-- The phase of a channel whose period starts (R260). -/
theorem each_setPhase_of_mem {l : List Nat} (hl : ∀ k ∈ l, 1 ≤ k) (hnodup : l.Nodup) (hn : n ∈ l) (m : ModuleState) :
    (m.each l fun m k => m.setPhase k (m.onAtStart k duty)).phases[n - 1]? = m.phases[n - 1]?.map fun _ => m.onAtStart n duty := by
  induction l generalizing m with
  | nil => cases hn
  | cons k r ih =>
    obtain ⟨hk, hr⟩ := List.forall_mem_cons.mp hl
    obtain ⟨hkr, hnodup⟩ := List.nodup_cons.mp hnodup
    rw [ModuleState.each_cons]
    rcases List.mem_cons.mp hn with rfl | hnr
    · rw [each_setPhase_of_notMem hr hk hkr, ModuleState.setPhase_phases, upd_getElem?]
    · have hne : k - 1 ≠ n - 1 := by
        have hpos := hr n hnr
        have hother : k ≠ n := fun h => hkr (h ▸ hnr)
        omega
      rw [ih hr hnodup hnr, ModuleState.setPhase_phases, upd_getElem?_ne hne,
        ModuleState.onAtStart_eq (offLoads_warden.setPhase m k _)]

end

/-- A period of a generator started (R260). -/
theorem ModuleState.pgBegin_starts (m : ModuleState) (copy pg : Nat) :
    (m.pgBegin copy pg).loadCommon.pgUse = upd m.loadCommon.pgUse (4 * copy + pg - 1) (fun _ => m.loadCommon.pg.getD (pg - 1) (0, 100)) ∧
    (m.pgBegin copy pg).loadCommon.pgAt = upd m.loadCommon.pgAt (4 * copy + pg - 1) (fun _ => some m.now) ∧
    ∀ n ∈ m.pgChannels copy pg, (m.pgBegin copy pg).loads[n - 1]?.map (·.phaseOn) =
      m.loads[n - 1]?.map fun _ => m.onAtStart n (m.loadCommon.pg.getD (pg - 1) (0, 100)).1 := by
  unfold ModuleState.pgBegin
  extract_lets g m1
  have hinputs : (m1.each (m.pgChannels copy pg) fun m n => m.setPhase n (m.onAtStart n g.1)).loadInputs = m1.loadInputs :=
    m1.each_frame _ _ ModuleState.loadInputs fun m n => m.setPhase_loadInputs n _
  obtain ⟨huse, hat, -⟩ := ModuleState.parts_of_loadInputs hinputs
  refine ⟨huse, hat, fun n hn => ?_⟩
  rw [← ModuleState.phases_getElem?,
    each_setPhase_of_mem (fun k hk => pos_of_mem_pgChannels hk) (pgChannels_nodup m copy pg) hn, ModuleState.phases_getElem?, Option.map_map]
  rfl

/-- A mask of none names none. -/
theorem bit_zero (k : Nat) : bit 0 k = false := Nat.zero_testBit k

/-- A mask of one channel names it. -/
theorem bit_two_pow_self (k : Nat) : bit (2 ^ k) k = true := Nat.testBit_two_pow_self

/-- A mask of one channel names no other. -/
theorem bit_two_pow_ne {k n : Nat} (hk : 1 ≤ k) (hn : 1 ≤ n) (h : k ≠ n) : bit (2 ^ (n - 1)) (k - 1) = false :=
  Nat.testBit_two_pow_of_ne (by omega)

section

variable {m : ModuleState} {copy pg n at_ : Nat} (hn : n ∈ m.pgChannels copy pg)
include hn

/-- One channel reaches the start of its on-phase (R260). -/
theorem ModuleState.pgEdges_rise (hduty : (m.pgUsed copy pg).1 ≠ 0)
    (hnear : pgReached (m.now - at_) (m.pgUsed copy pg).2 (m.cfg (loadCfg n + 8) 2)) :
    m.pgEdges copy pg (2 ^ (n - 1)) 0 at_ = m.setPhase n true := by
  unfold ModuleState.pgEdges
  extract_lets g near
  rw [ModuleState.each_only (pgChannels_nodup m copy pg) hn fun x k hk hne => by
    have hother := bit_two_pow_ne (pos_of_mem_pgChannels hk) (pos_of_mem_pgChannels hn) hne
    simp [hother, bit_zero]]
  simp [near, g, bit_zero, bit_two_pow_self, hduty, hnear]

/-- One channel reaches the end of its on-time (R260). -/
theorem ModuleState.pgEdges_fall
    (hnear : pgReached (m.now - at_) (m.pgUsed copy pg).2 ((m.cfg (loadCfg n + 8) 2 + (m.pgUsed copy pg).1) % 4096)) :
    m.pgEdges copy pg 0 (2 ^ (n - 1)) at_ = m.setPhase n false := by
  unfold ModuleState.pgEdges
  extract_lets g near
  rw [ModuleState.each_only (pgChannels_nodup m copy pg) hn fun x k hk hne => by
    have hother := bit_two_pow_ne (pos_of_mem_pgChannels hk) (pos_of_mem_pgChannels hn) hne
    simp [hother, bit_zero]]
  simp [near, g, bit_zero, bit_two_pow_self, hnear]

end

/-- The channel whose phase is set, in the list. -/
theorem ModuleState.setPhase_getElem? (m : ModuleState) (n : Nat) (on : Bool) :
    (m.setPhase n on).loads[n - 1]?.map (·.phaseOn) = m.loads[n - 1]?.map fun _ => on := by
  rw [← ModuleState.phases_getElem?, ModuleState.setPhase_phases, upd_getElem?, ModuleState.phases_getElem?, Option.map_map]
  rfl

/-! ### The rows -/

/-- A level below a threshold, until above another, as the model decides it. -/
theorem hysteresis {lo hi v : Nat} (h : lo ≤ hi) (b : Bool) : (if b then decide (v ≤ hi) else decide (v < lo)) = decide (v < lo ∨ (b ∧ v ≤ hi)) := by
  cases b with
  | false => simp
  | true =>
    have hlow : v ≤ hi ↔ v < lo ∨ v ≤ hi := by omega
    simp [← hlow]

/-- A channel that leaves VLS_CUT with VLS restored follows its demand (R263). -/
theorem ModuleState.restored_follows {m : ModuleState} {n : Nat} (hlt : n - 1 < m.loads.length) (hdemand : (m.load n).demand)
    (hvls : m.loadCommon.vlsCut = false) : (((m.setLoad n fun x => { x with cut := false }).lsFollow n).load n).cut = false ∧
      (m.drivesLs n → m.loadMode n ≠ 0 → m.lsRefusal n = none → (m.load n).thermalOff = false →
        (((m.setLoad n fun x => { x with cut := false }).lsFollow n).load n).on = true) := by
  generalize hk : (m.setLoad n fun x => { x with cut := false }) = k
  have hload : k.load n = { m.load n with cut := false } := hk ▸ ModuleState.setLoad_load _ hlt
  have hklt : n - 1 < k.loads.length := by simpa [← hk] using hlt
  have hkvls : k.loadCommon.vlsCut = false := hk ▸ hvls
  obtain ⟨f, hfollow, hkeeps, hcut⟩ := k.lsFollow_load n
  refine ⟨?_, fun hdrives hmode hrefusal hthermal => ?_⟩
  · rw [hfollow, ModuleState.setLoad_load f hklt, hcut hkvls (by rw [hload]), hload]
  cases hon : (m.load n).on with
  | true =>
    obtain ⟨-, -, hkept⟩ := hkeeps (k.load n)
    rw [hfollow, ModuleState.setLoad_load f hklt]
    exact hkept (by rw [hload, hon])
  | false =>
    have hkrefusal : k.lsRefusal n = none := by
      rw [← hrefusal, ModuleState.lsRefusal, ModuleState.lsRefusal, hload, ← hk]
      rfl
    rw [ModuleState.lsFollow_turnsOn (by rw [hload, hdemand]) (by rw [hload, hon]) (hk ▸ hdrives) (hk ▸ hmode) hkrefusal (by rw [hload, hthermal])
      hkvls (by rw [hload]), ModuleState.setLoad_load _ hklt]

/-- A change that leaves an element as it is leaves the list so. -/
theorem upd_same {α : Type} {l : List α} {i : Nat} {f : α → α} {d : α} (h : f (l.getD i d) = l.getD i d) : upd l i f = l :=
  (upd_congr (k := id) h).trans (List.modify_id ..)

/-- What an edge of a pin leaves alone of the channels that follow it (R260). -/
theorem ModuleState.each_pinEdge {β : Type} (π : ModuleState → β) (hload : ∀ x n f, π (ModuleState.setLoad x n f) = π x)
    (hedge : ∀ x n c, π (ModuleState.turnOffEdge x n c) = π x) (m k : ModuleState) (l : List Nat) (level : Bool) :
    π (k.each l fun x n => if level then x.setLoad n fun y => { y with phaseAt := x.now } else x.turnOffEdge n (m.conducts n)) = π k :=
  k.each_frame _ _ π fun x n => by simp only [apply_ite π, hload, hedge, ite_self]

/-- A pin set to a level, and the configuration as it was: the channels in PIN mode that name the pin follow it (R260). -/
theorem ModuleState.followsPin {m m' : ModuleState} {pin : Nat} {level : Bool} (hpin : pin < m.loadCommon.pins.length)
    (hwarden : m'.warden = m.warden) (hpins : m'.loadCommon.pins = upd m.loadCommon.pins pin fun _ => level) :
    m'.loadCommon.pins = upd m.loadCommon.pins pin (fun _ => level) ∧
      ∀ n, m.loadMode n = 3 → m.loadSource n = pin → m'.inPhase n = level := by
  refine ⟨hpins, fun n hmode hsource => ?_⟩
  have hmode' : m'.loadMode n = 3 := by rwa [ModuleState.loadMode, ModuleState.cfg, hwarden]
  have hsource' : m'.loadSource n = pin := by rwa [ModuleState.loadSource, ModuleState.cfg, hwarden]
  simp only [ModuleState.inPhase, hmode', hsource', hpins]
  exact upd_getD_self _ _ _ _ hpin

section

variable {s : State} {t : Nat}

/-- A period over, or none started (R260). -/
theorem pgPeriodEdge_starts (copy pg rise fall : Nat) (hcopy : copy < 2) (hlo : 1 ≤ pg) (hhi : pg ≤ 4)
    (hruns : (s.then t).runs (if copy = 0 then isM1 else isM2))
    (hover : pgOver (s.then t).now ((s.then t).pgUsed copy pg).2 ((s.then t).pgStart copy pg)) :
    Gives (.pgPeriodEdge t copy pg true rise fall) s ((s.then t).pgBegin copy pg) :=
  gives_of_there (ok := decide (copy < 2) && decide (1 ≤ pg) && decide (pg ≤ 4)) (by simp [hcopy, hlo, hhi]) rfl
    ((if_neg (by simp [hruns])).trans ((if_pos rfl).trans (if_pos hover)))

/-- An edge within a period (R260). -/
theorem pgPeriodEdge_edges (copy pg rise fall at_ : Nat) (hcopy : copy < 2) (hlo : 1 ≤ pg) (hhi : pg ≤ 4)
    (hruns : (s.then t).runs (if copy = 0 then isM1 else isM2)) (hstart : (s.then t).pgStart copy pg = some at_) :
    Gives (.pgPeriodEdge t copy pg false rise fall) s ((s.then t).pgEdges copy pg rise fall at_) :=
  gives_of_there (ok := decide (copy < 2) && decide (1 ≤ pg) && decide (pg ≤ 4)) (by simp [hcopy, hlo, hhi]) rfl
    (by simp [hruns, hstart])

/-- The channels in PIN mode follow their pin (R260). -/
theorem lspwmEdge_follows (pin : Nat) (level : Bool) (hpin : pin < 4) (hpins : (s.then t).loadCommon.pins.length = 4) :
    Runs (.lspwmEdge t pin level) s fun m' =>
      m'.loadCommon.pins = upd (s.then t).loadCommon.pins pin (fun _ => level) ∧
      (∀ n, (s.then t).loadMode n = 3 → (s.then t).loadSource n = pin → m'.inPhase n = level) := by
  refine runs_of_there (decide_eq_true hpin) rfl rfl ?_
  split
  · next hsame =>
    have hlevel : (s.then t).loadCommon.pins.getD pin false = level := by simpa using hsame
    exact ModuleState.followsPin (hpins ▸ hpin) rfl (upd_same (d := false) hlevel.symm).symm
  · obtain ⟨-, -, hset, -⟩ := ModuleState.parts_of_loadInputs (ModuleState.each_pinEdge ModuleState.loadInputs
      (fun x n f => x.setLoad_loadInputs n f) (fun x n c => x.turnOffEdge_loadInputs n c) (s.then t)
      ((s.then t).setLoads fun c => { c with pins := upd c.pins pin fun _ => level }) _ level)
    refine ModuleState.followsPin (hpins ▸ hpin) ?_ hset
    exact ModuleState.each_pinEdge ModuleState.warden offLoads_warden.load (fun x n c => offLoads_warden.turnOffEdge x n c) ..

/-- VLS against its thresholds with their hysteresis (R263 Table 4). -/
theorem vlsLevelChange_sets (vls : Nat) : Runs (.vlsLevelChange t vls) s fun m' =>
    m'.loadCommon.vls = vls ∧ m'.loadCommon.vlsLow = decide (vls < 160 ∨ ((s.then t).loadCommon.vlsLow ∧ vls ≤ 168)) ∧
    m'.loadCommon.vlsCut = decide (vls < 120 ∨ ((s.then t).loadCommon.vlsCut ∧ vls ≤ 135)) := by
  refine runs_of_there (ok := true) rfl rfl rfl ?_
  rw [← hysteresis (by decide), ← hysteresis (by decide)]
  extract_lets c low cut m1 mask back
  split
  · have hinputs : (m1.each nums16 fun m n => m.cutLs n).loadInputs = m1.loadInputs :=
      m1.each_frame _ _ ModuleState.loadInputs fun m n => m.cutLs_loadInputs n
    obtain ⟨-, -, -, hvls, hlow, hcut⟩ := ModuleState.parts_of_loadInputs hinputs
    simp only [ModuleState.log_frame, hvls, hlow, hcut]
    exact ⟨rfl, rfl, rfl⟩
  split
  · exact ⟨rfl, rfl, rfl⟩
  · exact ⟨rfl, rfl, rfl⟩

/-- The first channel in VLS_CUT whose demand is on is restored (R263). -/
theorem vlsRestartStep_restores (n : Nat) (hvls : (s.then t).loadCommon.vlsCut = false)
    (hdue : (s.then t).loadCommon.restartAt + 200000 ≤ (s.then t).now)
    (hfind : (nums16.find? fun k => ((s.then t).load k).cut && ((s.then t).load k).demand) = some n) :
    Runs (.vlsRestartStep t) s fun m' => m'.loadCommon.restartAt = (s.then t).now ∧ (m'.load n).cut = false ∧
      ((s.then t).drivesLs n → (s.then t).loadMode n ≠ 0 → (s.then t).lsRefusal n = none → ((s.then t).load n).thermalOff = false →
        (m'.load n).on = true) := by
  obtain ⟨hcut, hdemand⟩ := Bool.and_eq_true_iff.mp (List.find?_some (p := fun k => ((s.then t).load k).cut && ((s.then t).load k).demand) hfind)
  have hlt := ModuleState.load_lt (g := (·.cut)) hcut (by decide)
  have hwaits : ((s.then t).loadCommon.vlsCut || !(s.then t).due (s.then t).loadCommon.restartAt 200000) = false := by
    simp [hvls, ModuleState.due, hdue]
  obtain ⟨hleft, hfollows⟩ := ModuleState.restored_follows hlt hdemand hvls
  refine runs_of_there (ok := true) rfl rfl rfl ?_
  simp only [hwaits, hfind, Bool.false_eq_true, if_false]
  refine ⟨rfl, (ModuleState.setLoad_part (g := (·.cut)) rfl).trans hleft, fun hdrives hmode hrefusal hthermal => ?_⟩
  exact (ModuleState.setLoad_part (g := (·.on)) rfl).trans (hfollows hdrives hmode hrefusal hthermal)

end

/-- Settles O5, row by row. -/
theorem loadSourcesRun : Obligations.LoadSourcesRun := by
  intro s t m
  refine ⟨fun copy pg rise fall hcopy hlo hhi hruns hover => ?_, fun copy pg n at_ hcopy hlo hhi hruns hstart hn =>
    ⟨fun hduty hnear => ?_, fun hnear => ?_⟩, lspwmEdge_follows, vlsLevelChange_sets, vlsRestartStep_restores⟩
  · exact ⟨_, pgPeriodEdge_starts copy pg rise fall hcopy hlo hhi hruns hover, m.pgBegin_starts copy pg⟩
  · exact ⟨_, pgPeriodEdge_edges copy pg _ _ at_ hcopy hlo hhi hruns hstart, by
      rw [ModuleState.pgEdges_rise hn hduty hnear]; exact m.setPhase_getElem? n true⟩
  · exact ⟨_, pgPeriodEdge_edges copy pg _ _ at_ hcopy hlo hhi hruns hstart, by
      rw [ModuleState.pgEdges_fall hn hnear]; exact m.setPhase_getElem? n false⟩

end Sys2Proof.Machine
end

section
/-! The load-channel and field-output commands (R246 to R266, R285 to R300): the result each command's own conditions give, and with it the row's
effect. -/

namespace Sys2Proof.Machine

variable {m : ModuleState} {c : Cmd}

/-- A command that one status or another accepts. -/
theorem does_of_accepted {spec : CmdSpec} {i : Instr} {p : Packet} {s : State} {x : Result} (he : exec i s = .next (submit spec p s))
    (hx : spec.body (cmdOf spec p s) (taken spec p s) = x) (hok : x.status < 0x8000) : Does spec i p s x :=
  does_of_body he hx fun h => absurd h (Nat.not_le_of_lt hok)

/-- A turn-on that waits for its supply is accepted as one that is carried out is. -/
theorem deferred_lt (b : Bool) : (if b then stDeferred else stOk) < 0x8000 := by cases b <;> decide

/-! ### Commands of two masks -/

section

/-- The numbers that one of two masks names (R266). -/
def namedIn (on off : Nat) : List Nat := nums16.filter fun n => bit on (n - 1) || bit off (n - 1)

variable {on off : Nat} {fails : Nat → Option Nat}

/-- Masks that share no number are taken. -/
theorem any_both_eq_false (h : ∀ n ∈ nums16, !(bit on (n - 1) && bit off (n - 1))) :
    (nums16.any fun n => bit on (n - 1) && bit off (n - 1)) = false :=
  List.any_eq_false.mpr fun n hn => ne_true_of_eq_false ((Bool.not_eq_true' _).mp (h n hn))

variable (h : ∀ n ∈ namedIn on off, fails n = none)
include h

/-- A number that is named is not refused. -/
theorem refused_eq_false {n : Nat} (hn : n ∈ nums16) : ((bit on (n - 1) || bit off (n - 1)) && (fails n).isSome) = false := by
  cases hnamed : bit on (n - 1) || bit off (n - 1) with
  | false => rfl
  | true => rw [h n (List.mem_filter.mpr ⟨hn, hnamed⟩)]; rfl

/-- No number is the first that is refused. -/
theorem find_refused : nums16.find? (fun n => (bit on (n - 1) || bit off (n - 1)) && (fails n).isSome) = none :=
  List.find?_eq_none.mpr fun _ hn => ne_true_of_eq_false (refused_eq_false h hn)

/-- No number is refused. -/
theorem filter_refused : nums16.filter (fun n => (bit on (n - 1) || bit off (n - 1)) && (fails n).isSome) = [] :=
  List.filter_eq_nil_iff.mpr fun _ hn => ne_true_of_eq_false (refused_eq_false h hn)

/-- Every number that is named is done. -/
theorem filter_done : nums16.filter (fun n => (bit on (n - 1) || bit off (n - 1)) && !((bit on (n - 1) || bit off (n - 1)) && (fails n).isSome)) =
    namedIn on off :=
  List.filter_congr fun n hn => by rw [refused_eq_false h hn, Bool.not_false, Bool.and_true]

/-- Every number that is named, of those with a property, is done. -/
theorem filter_done_and (q : Nat → Bool) :
    nums16.filter (fun n => ((bit on (n - 1) || bit off (n - 1)) && !((bit on (n - 1) || bit off (n - 1)) && (fails n).isSome)) && q n) =
      (namedIn on off).filter q := by
  rw [← filter_done h, List.filter_filter]
  exact List.filter_congr fun n _ => Bool.and_comm _ _

end

/-! ### Load channels -/

/-- LS_SET that nothing refuses (R246). -/
theorem lsSetBody_accepts (h : m.lsSetFails c.role c.idx (getN c.data 0 1 == 1) = none) : lsSetBody c m =
    { status := if (getN c.data 0 1 == 1) && m.loadCommon.vlsCut then stDeferred else stOk, acts := [loadChannel c.idx]
      m := m.lsDemand c.idx (getN c.data 0 1 == 1) } := by
  simp only [lsSetBody, h]

/-- LS_SET_MULTI with no channel refused (R266). -/
theorem lsSetMultiBody_accepts (hmasks : ∀ n ∈ nums16, !(bit (getN c.data 0 2) (n - 1) && bit (getN c.data 2 2) (n - 1)))
    (h : ∀ n ∈ namedIn (getN c.data 0 2) (getN c.data 2 2), m.lsMultiFails c.role n (bit (getN c.data 0 2) (n - 1)) = none) :
    lsSetMultiBody c m =
      { data := leBytes 2 (((namedIn (getN c.data 0 2) (getN c.data 2 2)).map fun n => 2 ^ (n - 1)).sum) ++ leBytes 2 0
        acts := lsActs (getN c.data 0 2 + getN c.data 2 2)
        m := m.lsSetAll ((namedIn (getN c.data 0 2) (getN c.data 2 2)).filter fun n => bit (getN c.data 0 2) (n - 1))
          ((namedIn (getN c.data 0 2) (getN c.data 2 2)).filter fun n => bit (getN c.data 2 2) (n - 1)) } := by
  simp only [lsSetMultiBody, any_both_eq_false hmasks, maskOf, find_refused h, filter_refused h, filter_done h, filter_done_and h]
  rfl

/-- What LS_CLEAR makes of a SPENT channel whose budget has recovered (R254): the channel in the list ends neither latched nor spent. -/
theorem ModuleState.lsClear_spent {n : Nat} (temp : Int) (hspent : (m.load n).spent) (hlatched : (m.load n).latched = false)
    (hbudget : (m.load n).accumNow m.now < 250) (hmodule : m.loadCommon.moduleSpent = false) :
    m.lsClear n temp = ((m.setLoad n fun x => { x with spent := false, retries := 0 }).log evLsCleared (tgLoad n) [(n : Int), 2]).lsFollow n ∧
      ((m.lsClear n temp).load n).latched = false ∧ ((m.lsClear n temp).load n).spent = false := by
  have hclearable : m.lsClearable n temp = (false, true) := by simp [ModuleState.lsClearable, hspent, hlatched, hbudget, hmodule]
  have hchange : (m.setLoad n fun x => { x with latched := x.latched && !false, spent := x.spent && !true, retries := 0 }) =
      m.setLoad n fun x => { x with spent := false, retries := 0 } := by
    simp only [Bool.not_false, Bool.not_true, Bool.and_true, Bool.and_false]
  have hclear : m.lsClear n temp =
      ((m.setLoad n fun x => { x with spent := false, retries := 0 }).log evLsCleared (tgLoad n) [(n : Int), 2]).lsFollow n := by
    simp only [ModuleState.lsClear, hclearable, hchange]
    rfl
  obtain ⟨f, hfollow, hkeeps, -⟩ :=
    ((m.setLoad n fun x => { x with spent := false, retries := 0 }).log evLsCleared (tgLoad n) [(n : Int), 2]).lsFollow_load n
  have hload : (m.lsClear n temp).load n = f { m.load n with spent := false, retries := 0 } := by
    have hlt := ModuleState.load_lt hspent (by decide)
    rw [hclear, hfollow, ModuleState.setLoad_load _ (by simpa using hlt)]
    exact congrArg f (ModuleState.setLoad_load _ hlt)
  obtain ⟨hlatchedKept, hspentKept, -⟩ := hkeeps { m.load n with spent := false, retries := 0 }
  exact ⟨hclear, by rw [hload, hlatchedKept, hlatched], by rw [hload, hspentKept]⟩

/-- LS_CLEAR of a SPENT channel whose budget has recovered (R254). -/
theorem lsClearBody_spent (hkind : c.kind = 3) (hspent : (m.load c.idx).spent) (hlatched : (m.load c.idx).latched = false)
    (hbudget : (m.load c.idx).accumNow m.now < 250) (hmodule : m.loadCommon.moduleSpent = false) : lsClearBody c m =
      { data := leBytes 2 (2 ^ (c.idx - 1)) ++ leBytes 2 0, acts := [loadChannel c.idx]
        m := ((({ m with free := m.free + 17 }).setLoad c.idx fun x => { x with spent := false, retries := 0 }).log evLsCleared (tgLoad c.idx)
          [(c.idx : Int), 2]).lsFollow c.idx } := by
  have hclearable : ∀ temp, m.lsClearable c.idx temp = (false, true) := fun temp => by
    simp [ModuleState.lsClearable, hspent, hlatched, hbudget, hmodule]
  obtain ⟨hclear, hunlatched, hunspent⟩ := ModuleState.lsClear_spent (m := { m with free := m.free + 17 }) (n := c.idx)
    (signed 16 (Config.freeValue (m.free + c.idx) % 65536)) hspent hlatched hbudget hmodule
  rw [← hclear]
  simp only [lsClearBody, if_pos hkind, hclearable, hunlatched, hunspent]
  rfl

/-- PG_SET with values in range (R260). -/
theorem pgSetBody_inRange (hduty : getN c.data 2 2 ≤ 4095) (hlo : 10 ≤ getN c.data 4 4) (hhi : getN c.data 4 4 ≤ 25000)
    (hon : m.notOnDuty = false) : pgSetBody c m =
      { acts := [.m1ls, .m2ls]
        m := m.setLoads fun k => { k with pg := upd k.pg (getN c.data 0 1) fun _ => (getN c.data 2 2, getN c.data 4 4) } } := by
  have hrange : ¬ (4095 < getN c.data 2 2 ∨ getN c.data 4 4 < 10 ∨ 25000 < getN c.data 4 4) := by omega
  simp only [pgSetBody, if_neg hrange, hon, Bool.false_eq_true, if_false]

/-- Settles O6, command by command. -/
theorem loadCommandsDo : Obligations.LoadCommandsDo := by
  intro s p b
  refine ⟨fun h => ?_, fun hmasks h => ?_, fun hkind hspent hlatched hbudget hmodule => ?_, fun hduty hlo hhi hon => ?_⟩
  · exact does_of_accepted rfl (lsSetBody_accepts (c := cmdOf lsSetSpec p s) h) (deferred_lt _)
  · exact does_of_ok rfl (lsSetMultiBody_accepts (c := cmdOf lsSetMultiSpec p s) hmasks h) rfl
  · exact does_of_ok rfl (lsClearBody_spent (c := cmdOf lsClearSpec p s) hkind hspent hlatched hbudget hmodule) rfl
  · exact does_of_ok rfl (pgSetBody_inRange (c := cmdOf pgSetSpec p s) hduty hlo hhi hon) rfl

/-! ### Field outputs -/

/-- FO_SET that nothing refuses (R285, R292, R297). -/
theorem foSetBody_accepts (h : m.foSetFails (c.idx - 64) (getN c.data 0 1 == 1) = none) : foSetBody c m =
    { status := if (getN c.data 0 1 == 1) && m.field.vfoCut then stDeferred else stOk, acts := m.foActs
      m := m.foDemand (c.idx - 64) (getN c.data 0 1 == 1) } := by
  simp only [foSetBody, h]

/-- FO_SET_MULTI with no output refused (R266, R300). -/
theorem foSetMultiBody_accepts (hmasks : ∀ n ∈ nums16, !(bit (getN c.data 0 2) (n - 1) && bit (getN c.data 2 2) (n - 1)))
    (h : ∀ n ∈ namedIn (getN c.data 0 2) (getN c.data 2 2), m.foSetFails n (bit (getN c.data 0 2) (n - 1)) = none) : foSetMultiBody c m =
      { data := leBytes 2 (((namedIn (getN c.data 0 2) (getN c.data 2 2)).map fun n => 2 ^ (n - 1)).sum) ++ leBytes 2 0
        acts := if getN c.data 0 2 + getN c.data 2 2 = 0 then [] else m.foActs
        m := m.each (namedIn (getN c.data 0 2) (getN c.data 2 2)) fun m n => m.foDemand n (bit (getN c.data 0 2) (n - 1)) } := by
  simp only [foSetMultiBody, any_both_eq_false hmasks, maskOf, find_refused h, filter_refused h, filter_done h]
  rfl

/-- FO_CLEAR of one latched output, by its measured junction (R287). -/
theorem foClearBody_latched (hkind : c.kind = 4) (hlatched : (m.fout (c.idx - 64)).latched) : foClearBody c m =
    if signed 16 (Config.freeValue (m.free + (c.idx - 64)) % 65536) < 1300 then
      { data := leBytes 2 (2 ^ (c.idx - 64 - 1)) ++ leBytes 2 0, acts := m.foActs
        m := (({ m with free := m.free + 17 }).setFout (c.idx - 64) fun x => { x with latched := false, retries := 0 }).log evFoCleared
          (tgFout (c.idx - 64)) [((c.idx - 64 : Nat) : Int), ((m.fout (c.idx - 64)).lastCause : Int)] }
    else { status := stWrongState, data := leBytes 2 0 ++ leBytes 2 (2 ^ (c.idx - 64 - 1)), m } := by
  have hone : c.kind ≠ 0 := by omega
  by_cases hcool : signed 16 (Config.freeValue (m.free + (c.idx - 64)) % 65536) < 1300
  · simp only [foClearBody, if_neg hone, List.filter_cons, List.filter_nil, hlatched, hcool, if_true, decide_true]
    rfl
  · simp only [foClearBody, if_neg hone, List.filter_cons, List.filter_nil, hlatched, hcool, if_true, decide_false, if_false]
    rfl

/-- Settles O10, command by command. -/
theorem fieldCommandsDo : Obligations.FieldCommandsDo := by
  intro s p b
  refine ⟨fun h => ?_, fun hmasks h => ?_, fun hkind hlatched => ?_⟩
  · exact does_of_accepted rfl (foSetBody_accepts (c := cmdOf foSetSpec p s) h) (deferred_lt _)
  · refine does_of_ok rfl ((foSetMultiBody_accepts (c := cmdOf foSetMultiSpec p s) hmasks h).trans ?_) rfl
    simp only [ite_or]
    rfl
  · refine does_of_body rfl (foClearBody_latched (c := cmdOf foClearSpec p s) hkind hlatched) fun hrefused => ?_
    split
    · next hcool => exact absurd hrefused (by simp [hcool])
    · exact ⟨rfl, rfl⟩

end Sys2Proof.Machine
end

section
/-! The foreland's inputs, outputs and lanes of their lists (R272 to R296): one of them changed, and what other operations leave of them. -/

namespace Sys2Proof.Machine

/-- An element that is not as a missing one is in the list. -/
theorem lt_of_getD {α β : Type} {l : List α} {i : Nat} {d : α} {b : β} (g : α → β) (h : g (l.getD i d) = b) (hb : g d ≠ b) :
    i < l.length := by
  by_contra hlt
  rw [List.getD_eq_default _ _ (Nat.le_of_not_lt hlt)] at h
  exact hb h

/-- What each update of a list keeps and the one for an element brings about stands after all of them. -/
theorem ModuleState.each_reaches {α : Type} {l : List α} {x : α} (hx : x ∈ l) {f : ModuleState → α → ModuleState} {P : ModuleState → Prop}
    (hset : ∀ m, P (f m x)) (hkeep : ∀ m y, P m → P (f m y)) (m : ModuleState) : P (m.each l f) := by
  obtain ⟨before, after, rfl⟩ := List.append_of_mem hx
  rw [ModuleState.each, List.foldl_append]
  exact ModuleState.each_keeps _ after f P hkeep (hset _)

section

variable {m : ModuleState} {n : Nat}

/-- An input of the list once it is changed. -/
theorem ModuleState.setFin_fin (f : FieldIn → FieldIn) (h : n - 1 < m.field.inputs.length) : (m.setFin n f).fin n = f (m.fin n) :=
  upd_getD_self m.field.inputs (n - 1) f {} h

/-- An output of the list once it is changed. -/
theorem ModuleState.setFout_fout (f : FieldOut → FieldOut) (h : n - 1 < m.field.outputs.length) : (m.setFout n f).fout n = f (m.fout n) :=
  upd_getD_self m.field.outputs (n - 1) f {} h

/-- The changed output, said of the list. -/
theorem ModuleState.setFout_getElem? (f : FieldOut → FieldOut) : (m.setFout n f).field.outputs[n - 1]? = m.field.outputs[n - 1]?.map f :=
  upd_getElem? m.field.outputs (n - 1) f

/-- What any output is after a change and the one looked at was before, it is after it, whichever output the change was of. -/
theorem ModuleState.setFout_keeps {P : FieldOut → Prop} {f : FieldOut → FieldOut} (hf : ∀ x, P (f x)) (k : Nat)
    (h : ∀ x ∈ m.field.outputs[n - 1]?, P x) : ∀ x ∈ (m.setFout k f).field.outputs[n - 1]?, P x := by
  rcases eq_or_ne (k - 1) (n - 1) with heq | hne
  · rw [← heq, ModuleState.setFout_getElem?]
    intro x hx
    obtain ⟨y, -, rfl⟩ := Option.map_eq_some_iff.mp hx
    exact hf y
  · rwa [ModuleState.setFout, upd_getElem?_ne hne]

end

section

variable {m : ModuleState} {fore : Bool} {i : Nat}

/-- The lanes of one side of the barrier link (R293). -/
def ModuleState.lanesOf (m : ModuleState) (fore : Bool) : List Lane := if fore then m.field.fore else m.field.lanes

/-- A lane is the element of its side's list. -/
theorem ModuleState.lane_eq : m.lane fore i = (m.lanesOf fore).getD i {} := rfl

/-- A lane that is not as a missing one is in its side's list. -/
theorem ModuleState.lane_lt {β : Type} {b : β} (g : Lane → β) (h : g (m.lane fore i) = b) (hb : g {} ≠ b) : i < (m.lanesOf fore).length :=
  lt_of_getD (l := m.lanesOf fore) g h hb

/-- The lanes of a side with one of them changed. -/
theorem ModuleState.setLane_lanesOf (f : Lane → Lane) : (m.setLane fore i f).lanesOf fore = upd (m.lanesOf fore) i f := by
  cases fore <;> rfl

/-- A lane of the list once it is changed. -/
theorem ModuleState.setLane_lane (f : Lane → Lane) (h : i < (m.lanesOf fore).length) : (m.setLane fore i f).lane fore i = f (m.lane fore i) := by
  rw [ModuleState.lane_eq, ModuleState.setLane_lanesOf, upd_getD_self _ _ _ _ h, ModuleState.lane_eq]

end

end Sys2Proof.Machine
end

section
/-! The rows of the field inputs (R272 to R282): raw and filtered levels, edges and glitches, reversal, disagreement, supervised states. -/

namespace Sys2Proof.Machine

/-! ### Levels, glitches and edges -/

section

variable {m : ModuleState} {n : Nat}

/-- At or above the on level the raw level is active (R272). -/
theorem ModuleState.rawLevel_on (sample2 old : Bool) {volt : Int} (h : ((m.thresholds n).1 : Int) ≤ volt) :
    m.rawLevel n sample2 old volt = true :=
  if_pos h

/-- At or below the off level, which is the lower one, the raw level is inactive (R272). -/
theorem ModuleState.rawLevel_off (sample2 old : Bool) {volt : Int} (h : volt ≤ ((m.thresholds n).2 : Int))
    (hband : (m.thresholds n).2 < (m.thresholds n).1) : m.rawLevel n sample2 old volt = false := by
  have hlow : volt < ((m.thresholds n).1 : Int) := by omega
  exact (if_neg (Int.not_le.mpr hlow)).trans (if_pos h)

/-- The input whose glitch is counted. -/
theorem ModuleState.glitch_fin (h : n - 1 < m.field.inputs.length) :
    (m.glitch n).fin n = { m.fin n with glitches := sat max32 (m.fin n).glitches } :=
  ModuleState.setFin_fin (fun x => { x with glitches := sat max32 x.glitches }) h

/-- The edge of an input's new filtered level, whose run began at an instant (R276, R277). -/
def ModuleState.edgeOf (m : ModuleState) (n : Nat) (level : Bool) (since : Nat) : Edge :=
  { input := n, level, stamp := micro (m.forelandTime since), at_ := since, freeRun := (m.lane true 0).state != .up }

/-- A queued edge changes no input (R278). -/
theorem ModuleState.queueEdge_inputs (level : Bool) (since : Nat) : (m.queueEdge n level since).field.inputs = m.field.inputs :=
  (apply_ite Foreland.inputs _ _ _).trans (ite_self _)

/-- An edge is queued while the queue has room (R278). -/
theorem ModuleState.queueEdge_edges (level : Bool) (since : Nat) (h : m.field.edges.length < 256) :
    (m.queueEdge n level since).field.edges = insertEdge m.field.edges (m.edgeOf n level since) :=
  congrArg Foreland.edges (if_pos h)

/-- A new filtered level is the level of its input, which is settled, whether or not an edge is queued (R276, R298). -/
theorem ModuleState.newLevel_fin (level : Bool) (since : Nat) (h : n - 1 < m.field.inputs.length) :
    (m.newLevel n level since).fin n = { m.fin n with level, settling := false } := by
  have hset : (m.setFin n fun x => { x with level, settling := false }).fin n = { m.fin n with level, settling := false } :=
    ModuleState.setFin_fin _ h
  unfold ModuleState.newLevel
  extract_lets x m1
  split
  · exact hset
  · exact (congrArg (·.getD (n - 1) {}) (m1.queueEdge_inputs level since)).trans hset

/-- A level that differs from that of a settled input is an edge (R276). -/
theorem ModuleState.newLevel_edges {level : Bool} (since : Nat) (hsettled : (m.fin n).settling = false) (hdiffers : (m.fin n).level ≠ level)
    (hroom : m.field.edges.length < 256) : (m.newLevel n level since).field.edges = insertEdge m.field.edges (m.edgeOf n level since) := by
  have hedge : ¬ ((m.fin n).settling || (m.fin n).level == level) = true := by simp [hsettled, hdiffers]
  exact (congrArg (fun k : ModuleState => k.field.edges) (if_neg hedge)).trans (ModuleState.queueEdge_edges level since hroom)

end

/-! ### The rows -/

section

variable {s : State} {t n : Nat} (hn : (decide (1 ≤ n) && decide (n ≤ 48)) = true) (hruns : (s.then t).runs isForeland)
include hn hruns

/-- A run of a raw level as long as FILTER becomes the filtered level, with an edge (R275, R276). -/
theorem fieldInputEdge_accepts (volt : Int) (since : Nat) (hsup : (s.then t).supervised n = false) (hclass : 16 < n)
    (hsettled : ((s.then t).fin n).settling = false)
    (hdiffers : ((s.then t).fin n).level ≠ (s.then t).rawLevel n false ((s.then t).fin n).raw volt)
    (hheld : since + (s.then t).filter n ≤ (s.then t).now) (hstarted : (s.then t).field.startedAt + (s.then t).filter n ≤ (s.then t).now)
    (hroom : (s.then t).field.edges.length < 256) : Runs (.fieldInputEdge t n false volt since) s fun m' =>
      (m'.fin n).level = (s.then t).rawLevel n false ((s.then t).fin n).raw volt ∧
      m'.field.edges = insertEdge (s.then t).field.edges
        ((s.then t).edgeOf n ((s.then t).rawLevel n false ((s.then t).fin n).raw volt) since) := by
  have hlt := lt_of_getD FieldIn.settling hsettled (by decide)
  have hfiltered : (s.then t).filtered n since = true := by simp [ModuleState.filtered]; omega
  refine runs_of_there hn rfl ((if_neg (by simp [hruns, hsup])).trans
    ((if_neg Bool.false_ne_true).trans ((if_pos hfiltered).trans (if_neg (Nat.not_le_of_lt hclass))))) ⟨?_, ?_⟩
  · rw [ModuleState.newLevel_fin _ _ (by simpa [ModuleState.setFin] using hlt)]
    rfl
  · refine ModuleState.newLevel_edges since ?_ ?_ hroom
    · rw [ModuleState.setFin_fin _ hlt]; exact hsettled
    · rw [ModuleState.setFin_fin _ hlt]; exact hdiffers

/-- A shorter run that differed from the filtered level is a glitch (R275). -/
theorem fieldInputEdge_glitches (volt : Int) (since : Nat) (hsup : (s.then t).supervised n = false)
    (hsettled : ((s.then t).fin n).settling = false)
    (hdiffers : ((s.then t).fin n).level ≠ (s.then t).rawLevel n false ((s.then t).fin n).raw volt)
    (hshort : (s.then t).now < since + (s.then t).filter n) : Runs (.fieldInputEdge t n false volt since) s fun m' =>
      (m'.fin n).level = ((s.then t).fin n).level ∧ (m'.fin n).glitches = sat max32 ((s.then t).fin n).glitches ∧
      m'.field.edges = (s.then t).field.edges := by
  have hlt := lt_of_getD FieldIn.settling hsettled (by decide)
  have hunfiltered : ¬ (s.then t).filtered n since = true := by simp [ModuleState.filtered]; omega
  refine runs_of_there hn rfl ((if_neg (by simp [hruns, hsup])).trans
    ((if_neg Bool.false_ne_true).trans ((if_neg hunfiltered).trans (if_neg (by simp [hsettled, hdiffers.symm]))))) ?_
  rw [ModuleState.glitch_fin (by simpa [ModuleState.setFin] using hlt), ModuleState.setFin_fin _ hlt]
  exact ⟨rfl, rfl, rfl⟩

/-- 100 ms below -5 V (R274). -/
theorem fiReversedTimeout_sets (volt : Int) (hlow : volt < -50) : Gives (.fiReversedTimeout t n volt) s
    (((s.then t).setFin n fun x => { x with reversed := true }).logIf (!((s.then t).fin n).reversed) evFiReversed (tgFin n) [(n : Int), volt]) :=
  gives_of_there hn rfl ((if_neg (by simp [hruns])).trans (if_pos hlow))

/-- 100 ms above -2 V (R274). -/
theorem fiReversedTimeout_ends (volt : Int) (hhigh : -20 < volt) : Gives (.fiReversedTimeout t n volt) s
    ((s.then t).setFin n fun x => { x with reversed := false }) :=
  gives_of_there hn rfl ((if_neg (by simp [hruns])).trans ((if_neg (by omega)).trans (if_pos hhigh)))

/-- The samples have differed for 10 ms (R280). -/
theorem sampleDisagreeTimeout_sets (since : Nat) (hdiffer : ((s.then t).fin n).differSince = some since)
    (hagreed : ((s.then t).fin n).disagree = false) (hdue : since + ms 10 ≤ (s.then t).now) : Gives (.sampleDisagreeTimeout t n) s
      (((s.then t).setFin n fun x => { x with disagree := true }).log evSampleDisagree (tgFin n)
        [(n : Int), flagItem ((s.then t).fin n).level, flagItem ((s.then t).fin n).level2]) :=
  gives_of_there hn rfl (if_neg (by simp [hruns, hagreed, hdiffer, ModuleState.dueO, ModuleState.due, hdue]))

/-- A loop resistance held for FILTER in the band of another state (R281, R282). -/
theorem supervisedMeasure_changes (ohms : Nat) (b : SupState) (since : Nat) (hsup : (s.then t).supervised n) (hband : supBand ohms = some b)
    (hother : b ≠ ((s.then t).fin n).sup) (hsettled : ((s.then t).fin n).settling = false)
    (hnew : ((s.then t).fin n).supNew = some (b.code, since)) (hheld : since + (s.then t).filter n ≤ (s.then t).now) :
    Runs (.supervisedMeasure t n ohms) s fun m' =>
      (m'.fin n).sup = b ∧ (m'.fin n).ohms = ohms ∧ (m'.fin n).level = (b == .actuated) := by
  have hlt := lt_of_getD FieldIn.settling hsettled (by decide)
  have hstays : ¬ (b = ((s.then t).fin n).sup ∧ (!((s.then t).fin n).settling) = true) := fun h => hother h.1
  have hsame : (!((s.then t).fin n).settling && (some (b.code, since)).any fun y => y.1 != b.code) = false := by simp
  refine runs_of_there hn rfl (if_neg (by simp [hruns, hsup])) ?_
  simp only [hband, if_neg hstays, hsame, hnew, if_true, Bool.false_eq_true, if_false, if_pos hheld]
  rw [ModuleState.newLevel_fin _ _ (by simpa [ModuleState.setFin] using hlt), ModuleState.setFin_fin _ (by simpa [ModuleState.setFin] using hlt),
    ModuleState.setFin_fin _ hlt]
  exact ⟨rfl, rfl, rfl⟩

/-- A fault state for 100 ms of an input that is no portal's EDGE_FI (R282). -/
theorem supFaultTimeout_logs (hsup : (s.then t).supervised n) (hfaulty : ((s.then t).fin n).sup.faulty)
    (hnew : ((s.then t).fin n).supLogged = false) (hdue : ((s.then t).fin n).supSince + ms 100 ≤ (s.then t).now)
    (hedge : ∀ p ∈ (s.then t).enabledPortals, (s.then t).portalByte p 15 ≠ n) : Gives (.supFaultTimeout t n) s
      (((s.then t).setFin n fun x => { x with supLogged := true }).log evSupFault (tgFin n)
        [(n : Int), (((s.then t).fin n).sup.code : Int), (((s.then t).fin n).ohms : Int)]) := by
  have hplain : ((s.then t).enabledPortals.any fun p => (s.then t).portalByte p 15 == n) = false := by simpa using hedge
  exact gives_of_there hn rfl (if_neg (by simp [hruns, hsup, hfaulty, hnew, ModuleState.due, hdue, hplain]))

end

/-- Settles O7, row by row. -/
theorem fieldInputRowsRun : Obligations.FieldInputRowsRun := by
  intro s t n hlo hhi hruns m x
  have hn : (decide (1 ≤ n) && decide (n ≤ 48)) = true := by simp [hlo, hhi]
  exact ⟨fun sample2 old volt => ⟨m.rawLevel_on sample2 old, m.rawLevel_off sample2 old⟩, fieldInputEdge_accepts hn hruns,
    fieldInputEdge_glitches hn hruns, fiReversedTimeout_sets hn hruns, fiReversedTimeout_ends hn hruns, sampleDisagreeTimeout_sets hn hruns,
    supervisedMeasure_changes hn hruns, supFaultTimeout_logs hn hruns⟩

end Sys2Proof.Machine
end

section
/-! The rows of the field outputs (R285 to R299): shutdowns and retries, diagnosis, VFO, and the steps of a restart. -/

namespace Sys2Proof.Machine

/-! ### Shutdowns, retries and levels -/

/-- A level below a threshold, until above another: the lower condition implies the upper one. -/
theorem decide_hysteresis {below upto : Prop} [Decidable below] [Decidable upto] (h : below → upto) (b : Bool) :
    (if b then decide upto else decide below) = decide (below ∨ (b ∧ upto)) := by
  cases b with
  | false => simp
  | true => simp [or_iff_right_of_imp h]

section

variable {m : ModuleState} {n : Nat}

/-- An output that is shut down: off, latched once its retries are used, else waiting or cooling (R286, R287). -/
theorem ModuleState.foShutdown_fout (cause code : Nat) (items : List Int) (h : n - 1 < m.field.outputs.length) :
    let latch : Bool := m.cfg (foCfg n + 6) 1 ≤ (m.fout n).retriesNow m.now
    (m.foShutdown n cause code items).fout n = { (m.fout n).switchOff m.now with
      lastCause := cause, latched := (m.fout n).latched || latch, shutdowns := sat max16 (m.fout n).shutdowns
      overloadAt := if cause = 1 && !latch then some m.now else none, thermalOff := cause == 2 && !latch } := by
  intro latch
  exact ModuleState.setFout_fout (m := m) (fun x => { x.switchOff m.now with
    lastCause := cause, latched := x.latched || latch, shutdowns := sat max16 x.shutdowns
    overloadAt := if cause = 1 && !latch then some m.now else none, thermalOff := cause == 2 && !latch }) h

/-- An off output that nothing holds off follows a demand that is on (R285). -/
theorem ModuleState.foFollow_turnsOn (hdemand : (m.fout n).demand) (hdrives : m.drivesFo n) (hoff : (m.fout n).on = false)
    (hfree : (m.fout n).free) (hrestore : bit m.field.restore (n - 1) = false) (hvfo : m.field.vfoCut = false) :
    m.foFollow n = m.setFout n fun x =>
      { x with on := true, onSince := m.now, openOff := false, highOff := false, expectedHigh := false
               retries := if x.oweRetry then min 15 (x.retries + 1) else x.retries, oweRetry := false } := by
  simp [ModuleState.foFollow, hdemand, hdrives, hoff, hfree, hrestore, hvfo]

/-- An output whose wait or cooling is over, and that nothing else holds off, is on again with one retry more (R287). -/
theorem ModuleState.foRetry_fout (h : n - 1 < m.field.outputs.length) (hdemand : (m.fout n).demand) (hdrives : m.drivesFo n)
    (hoff : (m.fout n).on = false) (hlatched : (m.fout n).latched = false) (hcut : (m.fout n).cut = false)
    (hlink : (m.fout n).linkOff = false) (hrestore : bit m.field.restore (n - 1) = false) (hvfo : m.field.vfoCut = false) :
    (m.foRetry n).fout n = { m.fout n with
      overloadAt := none, thermalOff := false, oweRetry := false, on := true, onSince := m.now, openOff := false, highOff := false
      expectedHigh := false, retries := min 15 ((m.fout n).retries + 1) } := by
  unfold ModuleState.foRetry
  generalize hk : (m.setFout n fun x => { x with overloadAt := none, thermalOff := false, oweRetry := x.demand }) = k
  have hover : k.fout n = { m.fout n with overloadAt := none, thermalOff := false, oweRetry := (m.fout n).demand } :=
    hk ▸ ModuleState.setFout_fout _ h
  have hklt : n - 1 < k.field.outputs.length := by simpa [← hk, ModuleState.setFout] using h
  have hnow : k.now = m.now := hk ▸ rfl
  rw [ModuleState.foFollow_turnsOn (by rw [hover, hdemand]) (hk ▸ hdrives) (by rw [hover, hoff])
    (by simp [hover, FieldOut.free, hlatched, hcut, hlink]) (hk ▸ hrestore) (hk ▸ hvfo), ModuleState.setFout_fout _ hklt, hover, hnow]
  simp [hdemand]

/-- Whether VFO is low, and below its cut-off. -/
def ModuleState.vfoFlags (m : ModuleState) : Bool × Bool := (m.field.vfoLow, m.field.vfoCut)

/-- Changes of the outputs leave the flags of VFO alone. -/
theorem ModuleState.each_setFout_vfoFlags (l : List Nat) (f : ModuleState → Nat → FieldOut → FieldOut) :
    (m.each l fun m n => m.setFout n (f m n)).vfoFlags = m.vfoFlags :=
  m.each_frame l _ ModuleState.vfoFlags fun _ _ => rfl

end

/-! ### The rows -/

section

variable {s : State} {t n : Nat}

section

variable (hn : (decide (1 ≤ n) && decide (n ≤ 16)) = true)
include hn

/-- An overload held for 10 ms shuts the output down (R286). -/
theorem foOverloadTimeout_shuts {P : ModuleState → Prop} (current : Nat) (hon : ((s.then t).fout n).on)
    (hdue : ((s.then t).fout n).onSince + ms 10 ≤ (s.then t).now)
    (h : P ((s.then t).foShutdown n 1 evFoOverload [(n : Int), (current : Int)])) : Runs (.foOverloadTimeout t n current) s P :=
  runs_of_there hn rfl (if_pos (by simp [hon, ModuleState.due, hdue])) h

/-- An overload held for 10 ms with retries left (R286). -/
theorem foOverloadTimeout_turnsOff (current : Nat) (hon : ((s.then t).fout n).on)
    (hdue : ((s.then t).fout n).onSince + ms 10 ≤ (s.then t).now)
    (hleft : ((s.then t).fout n).retriesNow (s.then t).now < (s.then t).cfg (foCfg n + 6) 1) : Runs (.foOverloadTimeout t n current) s fun m' =>
      (m'.fout n).on = false ∧ (m'.fout n).overloadAt = some (s.then t).now ∧ (m'.fout n).lastCause = 1 ∧
      (m'.fout n).shutdowns = sat max16 ((s.then t).fout n).shutdowns ∧ (m'.fout n).latched = ((s.then t).fout n).latched := by
  refine foOverloadTimeout_shuts hn current hon hdue ?_
  rw [ModuleState.foShutdown_fout _ _ _ (lt_of_getD FieldOut.on hon (by decide))]
  simp [hleft, FieldOut.switchOff]

/-- An overload held for 10 ms with the retries used (R287). -/
theorem foOverloadTimeout_latches (current : Nat) (hon : ((s.then t).fout n).on)
    (hdue : ((s.then t).fout n).onSince + ms 10 ≤ (s.then t).now)
    (hused : (s.then t).cfg (foCfg n + 6) 1 ≤ ((s.then t).fout n).retriesNow (s.then t).now) : Runs (.foOverloadTimeout t n current) s fun m' =>
      (m'.fout n).on = false ∧ (m'.fout n).latched = true ∧ (m'.fout n).lastCause = 1 := by
  refine foOverloadTimeout_shuts hn current hon hdue ?_
  rw [ModuleState.foShutdown_fout _ _ _ (lt_of_getD FieldOut.on hon (by decide))]
  simp [hused, FieldOut.switchOff]

/-- The shutdown level is reached with retries left (R286). -/
theorem foThermalShutdown_turnsOff (temp : Int) (htemp : 1650 ≤ temp) (hon : ((s.then t).fout n).on)
    (hleft : ((s.then t).fout n).retriesNow (s.then t).now < (s.then t).cfg (foCfg n + 6) 1) : Runs (.foThermalShutdown t n temp) s fun m' =>
      (m'.fout n).on = false ∧ (m'.fout n).thermalOff = true ∧ (m'.fout n).lastCause = 2 ∧
      (m'.fout n).shutdowns = sat max16 ((s.then t).fout n).shutdowns := by
  refine runs_of_there hn rfl (if_pos (by simp [hon, htemp])) ?_
  rw [ModuleState.foShutdown_fout _ _ _ (lt_of_getD FieldOut.on hon (by decide))]
  simp [hleft, FieldOut.switchOff]

/-- The on-state current below OW_THRESH for 50 ms (R288). -/
theorem foOpenWireTimeout_sets (current : Nat) (hon : ((s.then t).fout n).on) (hdue : ((s.then t).fout n).onSince + ms 50 ≤ (s.then t).now)
    (hbelow : current < (s.then t).cfg (foCfg n + 4) 2) : Gives (.foOpenWireTimeout t n current) s
      (((s.then t).setFout n fun y => { y with openOn := true }).logIf (!((s.then t).fout n).openOn) evFoOpenWire (tgFout n)
        [(n : Int), 0, (current : Int)]) :=
  gives_of_there hn rfl ((if_neg (by simp [hon, ModuleState.due, hdue, Nat.ne_zero_of_lt hbelow])).trans (if_pos hbelow))

/-- High while off, with the partner's output off (R288). -/
theorem foOffDiagJudged_high (volt : Nat) (hoff : ((s.then t).fout n).on = false)
    (hdue : ((s.then t).fout n).offSince + ms 10 ≤ (s.then t).now) (hruns : (s.then t).runs isForeland) (hhigh : 80 ≤ volt)
    (hpartner : ((s.then t).fout n).partnerOn = false) : Gives (.foOffDiagJudged t n volt) s
      (((s.then t).setFout n fun y => { y with highOff := true, expectedHigh := false }).logIf (!((s.then t).fout n).highOff) evFoHighWhileOff
        (tgFout n) [(n : Int), (volt : Int)]) :=
  gives_of_there hn rfl ((if_neg (by simp [hoff, hruns, ModuleState.due, hdue])).trans ((if_pos hhigh).trans (if_neg (by simp [hpartner]))))

variable (hruns : (s.then t).runs isForeland) (hdemand : ((s.then t).fout n).demand) (hdrives : (s.then t).drivesFo n)
  (hoff : ((s.then t).fout n).on = false) (hlatched : ((s.then t).fout n).latched = false) (hcut : ((s.then t).fout n).cut = false)
  (hlink : ((s.then t).fout n).linkOff = false) (hrestore : bit (s.then t).field.restore (n - 1) = false)
  (hvfo : (s.then t).field.vfoCut = false)
include hruns hdemand hdrives hoff hlatched hcut hlink hrestore hvfo

/-- 1 s after an overload (R287). -/
theorem foOverloadRetry_turnsOn {since : Nat} (hover : ((s.then t).fout n).overloadAt = some since)
    (hdue : since + seconds 1 ≤ (s.then t).now) : Runs (.foOverloadRetry t n) s fun m' =>
      (m'.fout n).on = true ∧ (m'.fout n).overloadAt = none ∧ (m'.fout n).retries = min 15 (((s.then t).fout n).retries + 1) := by
  refine runs_of_there hn rfl (if_pos (by simp [hover, ModuleState.dueO, ModuleState.due, hdue, hruns])) ?_
  rw [ModuleState.foRetry_fout (lt_of_getD FieldOut.overloadAt hover nofun) hdemand hdrives hoff hlatched hcut hlink hrestore hvfo]
  exact ⟨rfl, rfl, rfl⟩

/-- Cooled by 20 K (R287). -/
theorem foCooled_turnsOn (hthermal : ((s.then t).fout n).thermalOff) : Runs (.foCooled t n) s fun m' =>
    (m'.fout n).on = true ∧ (m'.fout n).thermalOff = false ∧ (m'.fout n).retries = min 15 (((s.then t).fout n).retries + 1) := by
  refine runs_of_there hn rfl (if_pos (by simp [hthermal, hruns])) ?_
  rw [ModuleState.foRetry_fout (lt_of_getD FieldOut.thermalOff hthermal (by decide)) hdemand hdrives hoff hlatched hcut hlink hrestore hvfo]
  exact ⟨rfl, rfl, rfl⟩

end

/-- VFO against its thresholds with their hysteresis (R292 Table 8). -/
theorem vfoLevelChange_sets (vfo : Int) : Runs (.vfoLevelChange t vfo) s fun m' =>
    m'.field.vfoLow = decide (vfo < 160 ∨ ((s.then t).field.vfoLow ∧ vfo ≤ 168)) ∧
    m'.field.vfoCut = decide (vfo < 120 ∨ ((s.then t).field.vfoCut ∧ vfo ≤ 135)) := by
  refine runs_of_there (ok := true) rfl rfl rfl ?_
  rw [← decide_hysteresis (fun hlow => by omega), ← decide_hysteresis (fun hcut => by omega)]
  extract_lets f low cut m1 was back
  have hparts : ∀ k : ModuleState, k.vfoFlags = m1.vfoFlags → k.field.vfoLow = low ∧ k.field.vfoCut = cut := fun k hk =>
    ⟨congrArg Prod.fst hk, congrArg Prod.snd hk⟩
  split
  · simp only [ModuleState.log_frame, ModuleState.setField_field]
    exact hparts _ (m1.each_setFout_vfoFlags nums16 _)
  split
  · simp only [ModuleState.log_frame, ModuleState.restoreFo, ModuleState.setField_field]
    exact hparts _ (m1.each_setFout_vfoFlags nums16 _)
  · exact hparts _ rfl

/-- The first output that waits to be restored (R296). -/
theorem foRestartStep_restores (hdue : (s.then t).field.restartAt ≤ (s.then t).now) (hruns : (s.then t).runs isForeland)
    (hfind : (nums16.find? fun k => bit (s.then t).field.restore (k - 1)) = some n) : Gives (.foRestartStep t) s
      (((s.then t).setField fun f =>
        { f with restore := setBit f.restore (n - 1) false, restartAt := (s.then t).now + 100000 }).foFollow n) :=
  gives_of_there (ok := true) rfl rfl ((if_neg (by simp [hruns, hdue])).trans (by simp only [hfind]))

end

/-- Settles O8, row by row. -/
theorem fieldOutputRowsRun : Obligations.FieldOutputRowsRun := by
  intro s t n hlo hhi m x
  have hn : (decide (1 ≤ n) && decide (n ≤ 16)) = true := by simp [hlo, hhi]
  refine ⟨foOverloadTimeout_turnsOff hn, foOverloadTimeout_latches hn, foThermalShutdown_turnsOff hn, ?_, ?_, foOpenWireTimeout_sets hn,
    foOffDiagJudged_high hn, vfoLevelChange_sets, foRestartStep_restores⟩
  · exact fun since hover hdue hruns hdemand hdrives hoff hlatched hcut hlink hrestore hvfo =>
      foOverloadRetry_turnsOn hn hruns hdemand hdrives hoff hlatched hcut hlink hrestore hvfo hover hdue
  · exact fun hthermal _ hruns hdemand hdrives hoff hlatched hcut hlink hrestore hvfo =>
      foCooled_turnsOn hn hruns hdemand hdrives hoff hlatched hcut hlink hrestore hvfo hthermal

end Sys2Proof.Machine
end

section
/-! The rows of the barrier link (R293 to R297): lost and wrong frames, frames in sequence, lanes lost and restored. -/

namespace Sys2Proof.Machine

/-! ### Errors counted, frames taken, lanes lost and restored -/

section

variable {m : ModuleState}

/-- Counted errors are the lane's, which keeps all else (R300). -/
theorem ModuleState.laneErrors_lane {i : Nat} (crc seq : Nat) (h : i < (m.lanesOf false).length) :
    (m.laneErrors i crc seq).lane false i = { m.lane false i with
      crcErrors := satAdd max32 (m.lane false i).crcErrors crc, seqErrors := satAdd max32 (m.lane false i).seqErrors seq } :=
  ModuleState.setLane_lane (m := m)
    (fun l => { l with crcErrors := satAdd max32 l.crcErrors crc, seqErrors := satAdd max32 l.seqErrors seq }) h

/-- Whether or not the content of a frame of lane A or B is taken, the lanes are as they were (R293). -/
theorem ModuleState.ite_takeFrame_lane (up : Prop) [Decidable up] (i loopMa vA vB : Nat) (fore : Bool) (k : Nat) :
    (if up then m.takeFrame (i + 1) false loopMa vA vB else m).lane fore k = m.lane fore k := by
  split <;> rfl

/-- The sequence number after another, which differs from it (R294). -/
theorem seq_next (q : Nat) : (q + 1) % 256 % 256 = (q + 1) % 256 ∧ q ≠ (q + 1) % 256 ∧ ((q + 1) % 256 + 255 - q) % 256 = 0 := by
  omega

/-- The lanes are no part of the axes and portals that accepted edges change. -/
theorem offEdges_lanesOf (fore : Bool) : OffEdges fun m => m.lanesOf fore where
  axis _ _ _ := rfl
  drive _ _ _ := rfl
  comm _ _ := rfl
  load _ _ _ := rfl
  loads _ _ := rfl
  free _ _ := rfl
  fb _ _ _ := rfl
  portal _ _ _ := rfl

/-- A pushbutton's requests leave the lanes alone (R48). -/
theorem ModuleState.button_lanesOf (fi : Nat) (fore : Bool) : (m.button fi).lanesOf fore = m.lanesOf fore :=
  m.each_frame _ _ (fun m => m.lanesOf fore) fun m p => by
    dsimp only
    split
    · rfl
    split
    · rfl
    · rfl

/-- A delivered edge leaves the lanes alone (R276). -/
theorem ModuleState.deliverEdge_lanesOf (e : Edge) (fore : Bool) : (m.deliverEdge e).lanesOf fore = m.lanesOf fore := by
  unfold ModuleState.deliverEdge
  extract_lets m1 m2 lane inLoss
  have hm1 : m1.lanesOf fore = m.lanesOf fore := rfl
  have hm2 : m2.lanesOf fore = m1.lanesOf fore := m1.each_frame axisNums _ (fun m => m.lanesOf fore) fun m a => by
    split
    · exact ((offEdges_lanesOf fore).latchEdges _ _ _ _ _ _ _).trans ((offEdges_lanesOf fore).acceptEdges _ _)
    · rfl
  split
  · exact (m2.button_lanesOf e.input fore).trans (hm2.trans hm1)
  · exact hm2.trans hm1

/-- The safety edges looked at again leave the lanes alone (R205). -/
theorem ModuleState.noteEdges_lanesOf (fore : Bool) : m.noteEdges.lanesOf fore = m.lanesOf fore :=
  m.each_frame _ _ (fun m => m.lanesOf fore) fun _ _ => rfl

/-- The image a frame carries leaves the lanes alone (R293). -/
theorem ModuleState.takeImage_lanesOf (readback : Nat × Nat × Nat) (fore : Bool) : (m.takeImage readback).lanesOf fore = m.lanesOf fore := by
  unfold ModuleState.takeImage
  extract_lets four lost m1
  have hm1 : m1.lanesOf fore = m.lanesOf fore := rfl
  have hdelivered : (m1.each four fun m e => m.deliverEdge e).lanesOf fore = m1.lanesOf fore :=
    m1.each_frame four _ (fun m => m.lanesOf fore) fun m e => m.deliverEdge_lanesOf e fore
  exact (ModuleState.noteEdges_lanesOf fore).trans (((offEdges_lanesOf fore).logIf _ _ _ _ _).trans (hdelivered.trans hm1))

/-- Changes of the outputs leave the lanes alone. -/
theorem ModuleState.each_setFout_lane (l : List Nat) (f : ModuleState → Nat → FieldOut → FieldOut) (fore : Bool) (i : Nat) :
    (m.each l fun m n => m.setFout n (f m n)).lane fore i = m.lane fore i :=
  m.each_frame l _ (fun m => m.lane fore i) fun _ _ => rfl

/-- A change of the field part that keeps both sides' lanes keeps each lane. -/
theorem ModuleState.setField_lane {f : Foreland → Foreland} (hfore : (f m.field).fore = m.field.fore) (hlanes : (f m.field).lanes = m.field.lanes)
    (fore : Bool) (i : Nat) : (m.setField f).lane fore i = m.lane fore i := by
  simp only [ModuleState.lane, ModuleState.setField, hfore, hlanes]

/-- A restored lane is up, whatever becomes of the outputs (R296). -/
theorem ModuleState.restoreLane_state {i : Nat} {fore : Bool} (h : i < (m.lanesOf fore).length) :
    ((m.restoreLane i fore).lane fore i).state = .up := by
  unfold ModuleState.restoreLane
  extract_lets l long m1 m2 back m3
  have hm1 : (m1.lane fore i).state = .up := by rw [ModuleState.setLane_lane _ h]
  have hm2 : m2.lane fore i = m1.lane fore i := by
    unfold m2
    split
    · exact ModuleState.setField_lane rfl rfl fore i
    · rfl
  have hm3 : m3.lane fore i = m2.lane fore i := by
    unfold m3
    split
    · rw [ModuleState.restoreFo, ModuleState.setField_lane rfl rfl, ModuleState.each_setFout_lane, ModuleState.setField_lane rfl rfl]
    · rfl
  exact (congrArg Lane.state (hm3.trans hm2)).trans hm1

/-- An event leaves the lanes alone. -/
theorem ModuleState.logIf_lane (b : Bool) (code source : Nat) (items : List Int) (fore : Bool) (i : Nat) :
    (m.logIf b code source items).lane fore i = m.lane fore i := rfl

/-- The module with a lane lost on one side, before what the loss brings (R295). -/
def ModuleState.downLane (m : ModuleState) (fore : Bool) (i : Nat) : ModuleState :=
  m.setLane fore i fun l => { l with state := .lost, lostAt := m.now, goodRun := 0 }

theorem ModuleState.downLane_state {fore : Bool} {i : Nat} (h : i < (m.lanesOf fore).length) : ((m.downLane fore i).lane fore i).state = .lost := by
  rw [ModuleState.downLane, ModuleState.setLane_lane _ h]

/-- The general lane lost on the polder side: the image is held, and no output changes (R295). -/
theorem ModuleState.loseLane_polder (h : 0 < (m.lanesOf false).length) (hup : (m.lane false 0).state = .up) :
    ((m.loseLane 0 false).lane false 0).state = .lost ∧ (m.loseLane 0 false).field.stale = true ∧
      (m.loseLane 0 false).field.outputs = m.field.outputs := by
  have hlen : 0 < ((m.downLane false 0).lanesOf false).length := by rwa [ModuleState.downLane, ModuleState.setLane_lanesOf, upd_length]
  have hcounted := ModuleState.setLane_lane (fun l => { l with losses := sat max16 l.losses }) hlen
  rw [ModuleState.loseLane, if_neg (not_not.mpr hup)]
  exact ⟨(congrArg Lane.state hcounted).trans (ModuleState.downLane_state h), rfl, rfl⟩

/-- A lane that has lost three frames in a row is in its side's list (R295). -/
theorem ModuleState.lane_lt_of_lost {fore : Bool} {i : Nat} (h : 3 ≤ (m.lane fore i).lostRun) : i < (m.lanesOf fore).length :=
  ModuleState.lane_lt (fun l => decide (3 ≤ l.lostRun)) (decide_eq_true h) (by decide)

/-- An output that is off into LINK_OFF (R295). -/
def FieldOut.offByLink (x : FieldOut) : Prop := x.on = false ∧ x.linkOff = true

/-- The outputs turned off into LINK_OFF, each of them in its turn (R295). -/
theorem ModuleState.each_offByLink {l : List Nat} {n : Nat} (hn : n ∈ l) :
    ∀ x ∈ (m.each l fun m n => m.setFout n fun x => { x.switchOff m.now with linkOff := true }).field.outputs[n - 1]?, x.offByLink := by
  refine ModuleState.each_reaches (P := fun m => ∀ x ∈ m.field.outputs[n - 1]?, x.offByLink) hn (fun m x hx => ?_) (fun m k hm => ?_) m
  · rw [ModuleState.setFout_getElem?] at hx
    obtain ⟨y, -, rfl⟩ := Option.map_eq_some_iff.mp hx
    exact ⟨rfl, rfl⟩
  · exact ModuleState.setFout_keeps (fun _ => ⟨rfl, rfl⟩) k hm

/-- Changes of the outputs keep their number. -/
theorem ModuleState.each_setFout_length (l : List Nat) (f : ModuleState → Nat → FieldOut → FieldOut) :
    (m.each l fun m n => m.setFout n (f m n)).field.outputs.length = m.field.outputs.length :=
  m.each_frame l _ (fun m => m.field.outputs.length) fun _ _ => upd_length _ _ _

/-- The general lane lost on the foreland turns every output off into LINK_OFF (R295). -/
theorem ModuleState.loseLane_foreland (h : 0 < (m.lanesOf true).length) (hup : (m.lane true 0).state = .up) :
    ((m.loseLane 0 true).lane true 0).state = .lost ∧ (m.loseLane 0 true).field.outputs.length = m.field.outputs.length ∧
      ∀ n ∈ nums16, ∀ x ∈ (m.loseLane 0 true).field.outputs[n - 1]?, x.offByLink := by
  rw [ModuleState.loseLane, if_neg (not_not.mpr hup)]
  simp only [ModuleState.logIf_lane, ModuleState.logIf_frame, ModuleState.setField_field, if_true]
  refine ⟨?_, ModuleState.each_setFout_length nums16 _, fun n hn => ModuleState.each_offByLink hn⟩
  rw [ModuleState.setField_lane rfl rfl, ModuleState.each_setFout_lane]
  exact ModuleState.downLane_state h

/-- What the outputs off into LINK_OFF are, said of one output and of the list. -/
theorem ModuleState.fout_offByLink {m' : ModuleState} {n : Nat} (hlen : m'.field.outputs.length = m.field.outputs.length)
    (h : ∀ x ∈ m'.field.outputs[n - 1]?, x.offByLink) : (m'.fout n).on = false ∧
      (m'.field.outputs[n - 1]?.map (·.linkOff)) = (m.field.outputs[n - 1]?.map fun _ => true) := by
  by_cases hlt : n - 1 < m.field.outputs.length
  · have hlt' : n - 1 < m'.field.outputs.length := hlen ▸ hlt
    obtain ⟨hoff, hlink⟩ := h _ (List.getElem?_eq_getElem hlt')
    simp [ModuleState.fout, hlt, hlt', hoff, hlink]
  · have hlt' : ¬ n - 1 < m'.field.outputs.length := hlen ▸ hlt
    simp [ModuleState.fout, hlt, hlt']

end

/-! ### The rows -/

section

variable {s : State} {t lane : Nat}

section

variable (hlane : lane < 3) (loop vA vB : Nat)
include hlane

/-- A slot without a frame (R294). -/
theorem barrierFrameReceived_empty (crc : Bool) : Gives (.barrierFrameReceived t lane false none crc loop vA vB) s
    ((s.then t).setLane false lane Lane.lost) :=
  gives_of_there (decide_eq_true hlane) rfl rfl

/-- A frame with a wrong CRC (R294). -/
theorem barrierFrameReceived_wrong (q : Nat) : Gives (.barrierFrameReceived t lane false (some q) false loop vA vB) s
    (((s.then t).setLane false lane Lane.lost).laneErrors lane 1 0) :=
  gives_of_there (decide_eq_true hlane) rfl rfl

/-- A valid frame in sequence on lane A or B (R293, R294). -/
theorem barrierFrameReceived_inSequence (q : Nat) (hring : 1 ≤ lane) (hseq : ((s.then t).lane false lane).seq = some q) :
    Runs (.barrierFrameReceived t lane false (some ((q + 1) % 256)) true loop vA vB) s fun m' =>
      (m'.lane false lane).seq = some ((q + 1) % 256) ∧ (m'.lane false lane).lostRun = 0 ∧
      (m'.lane false lane).framesOk = (((s.then t).lane false lane).framesOk + 1) % 2 ^ 32 := by
  have hlt := ModuleState.lane_lt Lane.seq hseq nofun
  obtain ⟨k, rfl⟩ := Nat.exists_eq_add_of_le' hring
  obtain ⟨hmod, hne, hskip⟩ := seq_next q
  have hfresh : ((s.then t).lane false (k + 1)).seq ≠ some ((q + 1) % 256 % 256) := by rw [hseq, hmod]; simpa using hne
  refine runs_of_there (decide_eq_true hlane) rfl ((if_neg Bool.false_ne_true).trans ((if_neg Bool.false_ne_true).trans (if_neg hfresh))) ?_
  extract_lets skip m1 m2
  have hskipped : skip = 0 := by simp only [skip, hseq, hskip]
  have hm1 : m1 = s.then t := if_neg (by omega)
  have hm2 : (m2.lane false (k + 1)).seq = some ((q + 1) % 256 % 256) ∧ (m2.lane false (k + 1)).lostRun = 0 ∧
      (m2.lane false (k + 1)).framesOk = ((m1.lane false (k + 1)).framesOk + 1) % 2 ^ 32 := by
    rw [← hm1] at hlt
    unfold m2
    rw [ModuleState.laneErrors_lane _ _ (by rwa [ModuleState.setLane_lanesOf, upd_length]), ModuleState.setLane_lane _ hlt]
    exact ⟨rfl, rfl, rfl⟩
  rw [ModuleState.ite_takeFrame_lane]
  rwa [hm1, hmod] at hm2

/-- Ten valid frames of a lost lane (R296). -/
theorem barrierLaneRestored_up (fore : Bool) (hstate : ((s.then t).lane fore lane).state = .recovering)
    (hrun : 10 ≤ ((s.then t).lane fore lane).goodRun) : Runs (.barrierLaneRestored t lane fore) s fun m' =>
      (m'.lane fore lane).state = .up := by
  have hlt := ModuleState.lane_lt Lane.state hstate (by decide)
  refine runs_of_there (decide_eq_true hlane) rfl (if_neg (by simp [hstate, hrun])) ?_
  split
  · exact (congrArg (fun l : List Lane => (l.getD lane {}).state) (ModuleState.takeImage_lanesOf _ fore)).trans
      (ModuleState.restoreLane_state hlt)
  · exact ModuleState.restoreLane_state hlt

end

/-- Three lost frames in a row of the general lane, on the polder side (R295). -/
theorem barrierLaneLost_polder (hlost : 3 ≤ ((s.then t).lane false 0).lostRun) (hup : ((s.then t).lane false 0).state = .up) :
    Runs (.barrierLaneLost t 0 false) s fun m' =>
      (m'.lane false 0).state = .lost ∧ m'.field.stale = true ∧ m'.field.outputs = (s.then t).field.outputs :=
  runs_of_there rfl rfl (if_pos hlost) (ModuleState.loseLane_polder (ModuleState.lane_lt_of_lost hlost) hup)

/-- Three lost frames in a row of the general lane, on the foreland (R295). -/
theorem barrierLaneLost_foreland (hlost : 3 ≤ ((s.then t).lane true 0).lostRun) (hup : ((s.then t).lane true 0).state = .up) :
    Runs (.barrierLaneLost t 0 true) s fun m' =>
      (m'.lane true 0).state = .lost ∧ ∀ n, 1 ≤ n → n ≤ 16 → (m'.fout n).on = false ∧
        (m'.field.outputs[n - 1]?.map (·.linkOff)) = ((s.then t).field.outputs[n - 1]?.map fun _ => true) := by
  obtain ⟨hstate, hlen, hoff⟩ := ModuleState.loseLane_foreland (ModuleState.lane_lt_of_lost hlost) hup
  exact runs_of_there rfl rfl (if_pos hlost)
    ⟨hstate, fun n hlo hhi => ModuleState.fout_offByLink hlen (hoff n (by simp [nums16]; omega))⟩

end

/-- Settles O9, row by row. -/
theorem barrierLinkRowsRun : Obligations.BarrierLinkRowsRun := by
  intro s t lane loop vA vB hlane m
  exact ⟨barrierFrameReceived_empty hlane loop vA vB, barrierFrameReceived_wrong hlane loop vA vB,
    fun q _ => barrierFrameReceived_inSequence hlane loop vA vB q, barrierLaneLost_polder, barrierLaneLost_foreland, barrierLaneRestored_up hlane⟩

end Sys2Proof.Machine
end

section
/-! The state after reset (R51, R222, R324, R403, R421), and a well-formed row that stops (R225, R306). -/

namespace Sys2Proof.Machine

/-- Every load channel of the module after reset is off. -/
theorem reset_loads_off : ∀ k < 16, (State.reset.m.load (k + 1)).on = false := by decide

/-- Settles O52, by the values the fields have after reset. -/
theorem resetIsAtRest : Obligations.ResetIsAtRest := by
  refine ⟨rfl, ⟨.nil, nofun⟩, fun _ => rfl, rfl, rfl, rfl, rfl, rfl, rfl, rfl, rfl, by decide, fun n hlo hhi => ?_, rfl, rfl, rfl, rfl⟩
  obtain ⟨k, rfl⟩ := Nat.exists_eq_add_of_le' hlo
  exact reset_loads_off k hhi

/-- Refutes O54: DISCREPANCY_LATCH of a kind beyond the four of a comparison word is well-formed, as its switch is there, and faults, as the model
has no such kind. -/
theorem not_everyRowRuns : ¬ Obligations.EveryRowRuns := by
  unfold Obligations.EveryRowRuns
  intro h
  have hwf : (Instr.discrepancyLatch 0 0 4 0).wf := rfl
  have hfault : exec (.discrepancyLatch 0 0 4 0) .reset = .fault .noSuchObject := rfl
  obtain ⟨hruns, -, -⟩ := h .reset (.discrepancyLatch 0 0 4 0)
  obtain ⟨s', hnext, -⟩ := hruns hwf
  rw [hfault] at hnext
  cases hnext

end Sys2Proof.Machine
end

section
/-! A packet that fails step 6 of the checks on arrival (R307, R500, R507): what the step leaves of the module, and the answer. -/

namespace Sys2Proof.Machine

/-- The module apart from the count of failed tags, the list of sessions, and what events and replies touch. -/
def ModuleState.apartTags (m : ModuleState) : ModuleState :=
  m.apart fun n m => { m with sec := { m.sec with tagFails := n.sec.tagFails, sessions := n.sec.sessions } }

/-- Two modules alike apart from these parts: one is the other with its own of them. -/
theorem ModuleState.eq_of_apartTags {m n : ModuleState} (h : n.apartTags = m.apartTags) :
    n = ({ m with sec := { m.sec with tagFails := n.sec.tagFails, sessions := n.sec.sessions } }).withComm n.comm :=
  congrArg (fun k : ModuleState => ({ k with sec := { k.sec with tagFails := n.sec.tagFails, sessions := n.sec.sessions } }).withComm n.comm) h

theorem ModuleState.closeSession_apartTags (m : ModuleState) (n cause : Nat) : (m.closeSession n cause).apartTags = m.apartTags := rfl

/-- A failed tag noted (R507): it is counted, and with the sixteenth within 1 s the session closes. -/
theorem ModuleState.tagFailed_apartTags (m : ModuleState) (x : Transport) (n : Nat) : (m.tagFailed x n).apartTags = m.apartTags := by
  unfold ModuleState.tagFailed
  extract_lets q now fails sec interp m1 m2
  have hm2 : m2.apartTags = m.apartTags := rfl
  split
  · rw [m2.closeSession_apartTags, hm2]
  · exact hm2

/-- A packet that fails step 6 (R307): a tag that does not verify is noted, every other failure leaves the module alone. -/
theorem admission_failed {spec : CmdSpec} {p : Packet} {m : ModuleState} {st : Nat} (h : (admission spec p m).fail = some st) :
    (admission spec p m).m.apartTags = m.apartTags ∧ (st ≠ stTagInvalid → (admission spec p m).m = m) := by
  unfold admission at h ⊢
  by_cases hsecured : bit p.flags 0
  · simp only [hsecured, if_true] at h ⊢
    cases hsession : (m.sec.session p.session).filter fun s => s.transport == p.transport && (s.active || spec.opcode == 0x0E03) with
    | none => exact ⟨rfl, fun _ => rfl⟩
    | some x =>
      simp only [hsession] at h ⊢
      by_cases htag : tagOk x.kCmd { p with opcode := spec.opcode }
      · by_cases hseq : x.accepts p.seq
        · simp [htag, hseq] at h
        · simp [htag, hseq]
      · simp only [htag, Bool.not_false, if_true, Option.some.injEq] at h ⊢
        exact ⟨m.tagFailed_apartTags _ _, fun hne => absurd h.symm hne⟩
  · simp only [hsecured, Bool.false_eq_true, if_false, apply_ite Admission.m, ite_self, implies_true, and_self]

/-- The module that judges a packet differs from the one at its instant in what events and replies touch. -/
theorem arrived_withComm (spec : CmdSpec) (p : Packet) (s : State) : arrived spec p s = (s.then p.time).withComm (arrived spec p s).comm := by
  unfold arrived ModuleState.drained
  split
  · dsimp only
    split <;> rfl
  · rfl

/-- A packet that fails step 6 is answered on the module that step leaves. -/
theorem process_failed {spec : CmdSpec} {p : Packet} {s : State} {st : Nat} (hv : p.version = 2) (hlen : p.payload.length ≤ 4080)
    (hann : announced p ≤ p.payload.length) (h : (admission spec (asOpcode spec p) (arrived spec p s)).fail = some st) :
    process (some spec) (asOpcode spec p) (arrived spec p s) = (admission spec (asOpcode spec p) (arrived spec p s)).m.answer
      (replyTo (arrived spec p s) (asOpcode spec p) spec.opcode (st == stSessionUnknown || st == stTagInvalid)) st [] := by
  have hv' : (asOpcode spec p).version = 2 := hv
  have hlen' : ¬ (4080 < (asOpcode spec p).payload.length ∨ (asOpcode spec p).payload.length < announced (asOpcode spec p)) :=
    not_or.mpr ⟨Nat.not_lt.mpr hlen, Nat.not_lt.mpr hann⟩
  simp only [process, hv', hlen', h, ne_eq, not_true_eq_false, if_false]

/-- Settles O58: what step 6 leaves of the module, then the answer, which touches what replies touch. -/
theorem failedAdmissionHasNoEffect : Obligations.FailedAdmissionHasNoEffect := by
  intro s p r hr hfree hv hlen hann st hfail
  obtain ⟨htags, hsame⟩ := admission_failed hfail
  have harrived := arrived_withComm r.2 p s
  refine ⟨_, by rw [exec_packetRows s p r hr, submit_free hfree, process_failed hv hlen hann hfail], fun _ => ?_, fun hne => ?_⟩
  · refine ModuleState.eq_of_apartTags (Eq.trans ?_ (htags.trans ?_))
    · rfl
    · rw [harrived]; rfl
  · rw [hsame hne, harrived]; rfl

end Sys2Proof.Machine
end

section
/-! ECHO and the notification routes (R318, R332): what the commands' own conditions give. -/

namespace Sys2Proof.Machine

/-- A route set on each routable transport is set on that one alone. -/
theorem routable_foldl_getElem? (f : Transport → Port → Port) (l : List Port) {x : Transport} (hx : x ∈ routable) :
    (routable.foldl (fun l x => upd l x.index (f x)) l)[x.index]? = l[x.index]?.map (f x) := by
  simp only [routable, List.mem_cons, List.not_mem_nil, or_false] at hx
  rcases hx with rfl | rfl | rfl <;> simp [routable, upd, Transport.index]

/-- A NOTIFY_ROUTE without routes, or of a session that names its own transport or an address, sets the routes (R318). -/
theorem notifyRouteBody_routes {c : Cmd} {m : ModuleState} (hsec : getN c.data 0 1 = 0 ∨ bit c.p.flags 0)
    (haddr : ∀ x ∈ routable, bit (getN c.data 0 1) x.index → x ≠ c.p.transport → getN c.data 2 4 ≠ 0) :
    notifyRouteBody c m =
      { m := { m with interp := { m.interp with ports := routable.foldl (fun l x => upd l x.index fun q => q.rerouted x c) m.interp.ports } } } := by
  have hown : ¬ (getN c.data 0 1 ≠ 0 ∧ (!bit c.p.flags 0) = true) := by
    rintro ⟨hmask, hopen⟩
    rw [hsec.resolve_left hmask] at hopen
    exact absurd hopen (by decide)
  refine if_neg (not_or.mpr ⟨hown, ?_⟩)
  rintro ⟨hforeign, hnone⟩
  obtain ⟨x, hx, hnamed⟩ := List.any_eq_true.mp hforeign
  obtain ⟨hbit, hne⟩ := Bool.and_eq_true_iff.mp hnamed
  exact haddr x hx hbit (bne_iff_ne.mp hne) hnone

/-- Settles O48, command by command. -/
theorem transportCommandsDo : Obligations.TransportCommandsDo := by
  intro s p b
  refine ⟨does_of_ok rfl rfl rfl, fun hsec haddr => ⟨_, does_of_ok rfl (notifyRouteBody_routes hsec haddr) rfl, fun x hx q hq => ?_⟩⟩
  rw [routable_foldl_getElem? _ _ hx, hq]
  rfl

end Sys2Proof.Machine
end

section
/-! The Ethernet commands, commands by UDP and the door process images (R319, R383, R395, R400, R401): what the commands' own conditions give, and
the rows' effects. -/

namespace Sys2Proof.Machine

variable {s : State} {t : Nat} {c : Cmd} {m : ModuleState}

/-! ### Raw-frame rings -/

/-- ETH_RING_SET of a stopped ring that fits the window defines it (R400). -/
theorem ethRingSetBody_defines (hlo : 1 ≤ getN c.data 2 2) (hhi : getN c.data 2 2 ≤ 256) (halign : getN c.data 4 4 % 32 = 0)
    (hfits : getN c.data 4 4 + 32 * getN c.data 2 2 ≤ 0x40000)
    (hstopped : (if getN c.data 0 1 = 0 then m.eth.tx else m.eth.rx).count = 0) : ethRingSetBody c m =
      { acts := [.net]
        m := m.setEth fun e =>
          if getN c.data 0 1 = 0 then { e with tx := { base := getN c.data 4 4, count := getN c.data 2 2, idle := true } }
          else { e with rx := { base := getN c.data 4 4, count := getN c.data 2 2, idle := false } } } := by
  have hrange : ¬ (256 < getN c.data 2 2 ∨ getN c.data 4 4 % 32 ≠ 0 ∨ 0x40000 < getN c.data 4 4 + 32 * getN c.data 2 2) := by omega
  have hne : getN c.data 2 2 ≠ 0 := Nat.one_le_iff_ne_zero.mp hlo
  simp only [ethRingSetBody, hrange, hstopped, hne, if_false, ne_eq, not_true_eq_false, and_false, false_and]
  by_cases hring : getN c.data 0 1 = 0
  · simp only [hring, if_true]; rfl
  · simp only [hring, if_false, beq_eq_false_iff_ne.mpr hring]

/-- ETH_RING_SET with count 0 stops a ring with no frame in sending (R400). -/
theorem ethRingSetBody_stops (hcount : getN c.data 2 2 = 0) (halign : getN c.data 4 4 % 32 = 0) (hfits : getN c.data 4 4 ≤ 0x40000)
    (hidle : (if getN c.data 0 1 = 0 then m.eth.tx else m.eth.rx).sending = none) : ethRingSetBody c m =
      { acts := [.net], m := m.setEth fun e => if getN c.data 0 1 = 0 then { e with tx := {} } else { e with rx := {} } } := by
  have hrange : ¬ (256 < 0 ∨ getN c.data 4 4 % 32 ≠ 0 ∨ 0x40000 < getN c.data 4 4 + 32 * 0) := by omega
  simp only [ethRingSetBody, hcount, hrange, hidle, if_false, ne_eq, not_true_eq_false, false_and, Option.isSome_none, Bool.false_eq_true,
    and_false, if_true]

/-! ### Commands by UDP -/

/-- A UDP datagram of a served port is delivered (R319). -/
theorem udpDatagramReceived_delivers (src port ident : Nat) (data : List Byte) (hruns : (s.then t).ethRuns) (hserved : bit (s.then t).ethFlags 0) :
    Gives (.udpDatagramReceived t src port ident data) s
      (((s.then t).setEth fun e => { e with reasm := e.reasm.filter (·.key != (src, ident)) }).deliver .ethernet (src, port) data) :=
  gives_of_happen rfl (if_neg (by rw [hruns, hserved]; decide))

/-! ### Door process images -/

/-- An unsecured image of a member on duty: the image and 12 bytes 0 (R383). -/
theorem ModuleState.formImage_unsecured (m : ModuleState) (group id seq : Nat) :
    m.formImage false group id seq = some (m, m.processImage seq ++ zeros 12) := rfl

/-- A member on duty counts SEQ on (R477). -/
theorem ModuleState.imageSeq_onDuty (h : m.notOnDuty = false) (last modulus : Nat) : m.imageSeq last modulus = (last + 1) % modulus := by
  rw [ModuleState.imageSeq, h]; rfl

/-- A controller that carries frames is one the module has. -/
theorem ModuleState.ctl_lt_of_carries {i : Nat} (h : (m.ctl i).carries) : i < m.can.length := by
  by_contra hle
  rw [ModuleState.ctl, List.getD_eq_default _ _ (Nat.not_lt.mp hle)] at h
  exact absurd h (by decide)

/-- One controller of the list changed, then read. -/
theorem ModuleState.setCtl_ctl {i : Nat} (h : i < m.can.length) (f : Can → Can) : (m.setCtl i f).ctl i = f (m.ctl i) :=
  upd_getD_self _ _ _ _ h

/-- At its period a controller in NORMAL queues the image with the next SEQ (R383). -/
theorem canPiPeriod_queues {i : Nat} (hi : i < 2) (hcarries : ((s.then t).ctl i).carries) (hconfigured : (s.then t).configured)
    (hid : (s.then t).piId i ≠ 0xFFFFFFFF) (hdue : ((s.then t).ctl i).piAt + ms ((s.then t).cfg (canCfg i + 28) 2) ≤ (s.then t).now)
    (hplain : bit ((s.then t).canFlags i) 4 = false) (hduty : (s.then t).notOnDuty = false) (hbuf : ((s.then t).ctl i).piBuf = none) :
    Runs (.canPiPeriod t i) s fun m' =>
      (m'.ctl i).piSeq = (((s.then t).ctl i).piSeq + 1) % 65536 ∧ (m'.ctl i).piAt = (s.then t).now ∧
      (m'.ctl i).piBuf = some ({ id := (s.then t).piId i, fd := true, brs := true
                                 data := (s.then t).processImage ((((s.then t).ctl i).piSeq + 1) % 65536) ++ zeros 12 }, 0) := by
  have hlt := ModuleState.ctl_lt_of_carries hcarries
  have hsends : ¬ ((!((s.then t).ctl i).carries) = true ∨ (!(s.then t).configured) = true ∨ (s.then t).piId i = 0xFFFFFFFF ∨
      (!(s.then t).due ((s.then t).ctl i).piAt (ms ((s.then t).cfg (canCfg i + 28) 2))) = true) := by
    simp [hcarries, hconfigured, hid, ModuleState.due, hdue]
  refine runs_of_there (decide_eq_true hi) rfl (if_neg hsends) ?_
  simp only [hplain, ModuleState.formImage_unsecured, ModuleState.imageSeq_onDuty hduty, hbuf, Option.isSome_none, Bool.false_and,
    ModuleState.logIf_false]
  have hlt' : i < ((s.then t).setCtl i fun q => { q with piAt := (s.then t).now }).can.length := by
    rwa [ModuleState.setCtl_can, upd_length]
  rw [ModuleState.setCtl_ctl hlt', ModuleState.setCtl_ctl hlt]
  exact ⟨rfl, rfl, rfl⟩

/-- TRDP without the datagram pending, which has left. -/
theorem ModuleState.pdLeaves_out {b : List Byte} (h : m.eth.pd = some b) :
    m.pdLeaves.out = m.out ++ [{ transport := .ethernet, dest := (m.cfg (ethCfg + 20) 4, 17224), bytes := b }] := by
  rw [ModuleState.pdLeaves, h]

/-- A datagram that leaves touches Ethernet and the packets sent alone. -/
theorem ModuleState.pdLeaves_frame (m : ModuleState) : m.pdLeaves = { m with eth := m.pdLeaves.eth, out := m.pdLeaves.out } := by
  unfold ModuleState.pdLeaves
  split <;> rfl

/-- At its period TRDP publishes the image with the next sequence counter, the datagram before it having left (R395). -/
theorem trdpPdPeriod_publishes (hon : bit (s.then t).ethFlags 1) (hlink : (s.then t).hostLink) (hready : (s.then t).reset.phase = .ready)
    (hruns : (s.then t).ethRuns) (hdue : (s.then t).eth.pdAt + ms ((s.then t).cfg (ethCfg + 28) 2) ≤ (s.then t).now)
    (hplain : bit (s.then t).ethFlags 2 = false) (hduty : (s.then t).notOnDuty = false) :
    Runs (.trdpPdPeriod t true) s fun m' =>
      m'.eth.pdSeq = ((s.then t).eth.pdSeq + 1) % 2 ^ 32 ∧ m'.eth.dsSeq = ((s.then t).eth.dsSeq + 1) % 65536 ∧ m'.eth.pdAt = (s.then t).now ∧
      m'.eth.pd = some ((s.then t).pdHeader (((s.then t).eth.pdSeq + 1) % 2 ^ 32) ++
        ((s.then t).processImage (((s.then t).eth.dsSeq + 1) % 65536) ++ zeros 12)) ∧
      (∀ b, (s.then t).eth.pd = some b →
        m'.out = (s.then t).out ++ [{ transport := .ethernet, dest := ((s.then t).cfg (ethCfg + 20) 4, 17224), bytes := b }]) := by
  have hsends : ¬ (!bit (s.then t).ethFlags 1 || !(s.then t).hostLink || (s.then t).reset.phase != .ready || !(s.then t).ethRuns ||
      !(s.then t).due (s.then t).eth.pdAt (ms ((s.then t).cfg (ethCfg + 28) 2))) = true := by
    simp [hon, hlink, hready, hruns, ModuleState.due, hdue]
  refine runs_of_happen rfl ?_
  extract_lets m0 m1 seq pdu skip say
  have himage : ∀ n, m1.processImage n = (s.then t).processImage n := fun n => by
    simp only [m1, m0, if_true]
    rw [ModuleState.pdLeaves_frame]
    rfl
  have hquiet : say = false := rfl
  have hseq : seq = ((s.then t).eth.dsSeq + 1) % 65536 := ModuleState.imageSeq_onDuty hduty _ _
  have hpdu : pdu = ((s.then t).eth.pdSeq + 1) % 2 ^ 32 := ModuleState.imageSeq_onDuty hduty _ _
  simp only [if_neg hsends, hplain, ModuleState.formImage_unsecured, himage, hquiet, ModuleState.logIf_false, hseq, hpdu]
  exact ⟨rfl, rfl, rfl, rfl, fun b hb => by simp only [ModuleState.setEth_frame, m1, m0, if_true, ModuleState.pdLeaves_out hb]⟩

/-- Settles O30: the body of each command under its conditions, and the three rows. -/
theorem ethCommandsDo : Obligations.EthCommandsDo := by
  refine ⟨fun s p => ?_, fun s t => ?_⟩
  · exact ⟨fun hlo hhi halign hfits hstopped => does_of_ok rfl (ethRingSetBody_defines hlo hhi halign hfits hstopped) rfl,
      fun hcount halign hfits hidle => does_of_ok rfl (ethRingSetBody_stops hcount halign hfits hidle) rfl, does_of_ok rfl rfl rfl⟩
  · exact ⟨fun src port ident data => udpDatagramReceived_delivers src port ident data, fun i => canPiPeriod_queues, trdpPdPeriod_publishes⟩

end Sys2Proof.Machine
end

section
/-! What events and answers leave of Ethernet (R312, R315, R319): those that go to Ethernet send datagrams, all others leave it alone. -/

namespace Sys2Proof.Machine

/-! ### Frames sent -/

/-- A part of Ethernet that frames on ETH1 and ETH2 leave alone, sent, queued or dropped (R390). -/
structure OffPorts {β : Type} (π : Eth → β) : Prop where
  sent : ∀ e port, π (Eth.setPort e port fun x => { x with tx := (x.tx + 1) % 2 ^ 32 }) = π e
  dropped : ∀ e port, π (Eth.setPort e port fun x => { x with drops := sat max32 x.drops }) = π e
  queues : ∀ e out busy queued, π { e with out, busy, queued } = π e

/-- A part of Ethernet that datagrams of the module leave alone (R319, R393): the host port counts them besides. -/
structure OffSending {β : Type} (π : Eth → β) : Prop extends OffPorts π where
  host : ∀ e, π (Eth.setPort e 2 fun x => { x with rx := (x.rx + 1) % 2 ^ 32 }) = π e
  ident : ∀ e n, π { e with ipIdent := n } = π e

section

variable {β : Type} {π : Eth → β}

theorem OffPorts.begins (h : OffPorts π) (e : Eth) (port prio start : Nat) (b : List Byte) : π (e.begins port prio start b) = π e :=
  (h.queues _ _ _ _).trans (h.sent e port)

theorem OffPorts.servePort (h : OffPorts π) (now port n : Nat) (e : Eth) : π (e.servePort now port n) = π e := by
  induction n generalizing e with
  | zero => rfl
  | succ n ih =>
    unfold Eth.servePort
    split
    · rfl
    · dsimp only
      split
      · rw [ih, h.begins]
        exact h.queues e _ _ _
      · rfl

theorem OffPorts.served (h : OffPorts π) (e : Eth) (now : Nat) : π (e.served now) = π e :=
  (h.servePort _ _ _ _).trans (h.servePort _ _ _ _)

theorem OffPorts.put (h : OffPorts π) (e : Eth) (now port prio : Nat) (b : List Byte) : π (e.put now port prio b) = π e := by
  unfold Eth.put
  split
  · exact h.begins e port prio now b
  split
  · exact h.dropped e port
  · exact h.queues e _ _ _

theorem OffPorts.putOn (h : OffPorts π) (m : ModuleState) (e : Eth) (vid : Nat) (ports : List Nat) (f : Nat → SwFrame) :
    π (m.putOn e vid ports f) = π e :=
  (List.foldlRecOn ports _ (motive := fun k => π k = π (e.served m.now)) rfl fun k hk p _ => by
    split
    · rw [h.put, hk]
    · exact hk).trans (h.served e m.now)

theorem OffSending.ownFrame (h : OffSending π) (m : ModuleState) (e : Eth) (pcp : Nat) (body : List Byte) : π (m.ownFrame e pcp body) = π e :=
  (h.putOn _ _ _ _ _).trans (h.host e)

theorem OffSending.sendUdp (h : OffSending π) (m : ModuleState) (e : Eth) (srcPort pcp : Nat) (dest : Nat × Nat) (b : List Byte) :
    π (m.sendUdp e srcPort pcp dest b) = π e :=
  List.foldlRecOn _ _ (motive := fun k => π k = π e) (h.ident e _) fun k hk f _ => by rw [h.ownFrame, hk]

/-- A packet handed to whatever transport: on Ethernet it is a datagram (R319). -/
theorem OffSending.hand (h : OffSending π) (m : ModuleState) (c : Comm) (x : Transport) (dest : Nat × Nat) (b : List Byte) :
    π (m.hand c x dest b).eth = π c.eth := by
  cases x with
  | ethernet => exact h.sendUdp m c.eth _ _ dest b
  | spi | canA | canB | levee => rfl

end

/-! ### Events -/

@[simp] theorem Comm.port_eth (c : Comm) (x : Transport) (f : Port → Port) : (c.port x f).eth = c.eth := rfl

/-- An event without notification leaves Ethernet alone (R315, R425). -/
theorem ModuleState.logE_eth (m : ModuleState) (c : Comm) {e : Event} (hq : notifying.contains e.code = false) : (m.logE c e).eth = c.eth := by
  unfold ModuleState.logE
  split
  · rfl
  split
  · simp only [ModuleState.takeEvent, hq, Bool.false_eq_true, if_false]
  · rfl

theorem ModuleState.logC_eth (m : ModuleState) {code : Nat} (hq : notifying.contains code = false) (c : Comm) (source : Nat) (items : List Int) :
    (m.logC c code source items).eth = c.eth :=
  m.logE_eth c hq

theorem ModuleState.logIf_eth (m : ModuleState) {code : Nat} (hq : notifying.contains code = false) (b : Bool) (source : Nat) (items : List Int) :
    (m.logIf b code source items).eth = m.eth := by
  cases b
  · rfl
  · exact m.logE_eth m.comm hq

@[simp] theorem ModuleState.saturated_eth (m : ModuleState) (max before source opcode off : Nat) :
    (m.saturated max before source opcode off).eth = m.eth :=
  m.logIf_eth (by decide) _ _ _

section

variable {β : Type} {π : Eth → β}

/-- A notification on one transport leaves what datagrams leave (R315). -/
theorem OffSending.notifyOn (h : OffSending π) (m : ModuleState) (c : Comm) (x : Transport) (e : Event) (k : Key) :
    π (m.notifyOn c x e k).1.eth = π c.eth := by
  unfold ModuleState.notifyOn
  dsimp only
  split
  · rfl
  · simp only [apply_ite Prod.fst, apply_ite Comm.eth, apply_ite π, Comm.port_eth, h.hand, ite_self]

theorem OffSending.takeEvent (h : OffSending π) (m : ModuleState) (c : Comm) (e : Event) : π (m.takeEvent c e).eth = π c.eth := by
  unfold ModuleState.takeEvent
  dsimp only
  split
  · exact List.foldlRecOn notifyPorts _ (motive := fun q : Comm × List (Nat × List Int) => π q.1.eth = π c.eth) rfl fun q hq x _ => by
      rw [h.notifyOn, hq]
  · rfl

/-- An event leaves what datagrams leave (R443). -/
theorem OffSending.logE (h : OffSending π) (m : ModuleState) (c : Comm) (e : Event) : π (m.logE c e).eth = π c.eth := by
  unfold ModuleState.logE
  split
  · rfl
  split
  · exact h.takeEvent m c e
  · rfl

theorem OffSending.logIf (h : OffSending π) (m : ModuleState) (b : Bool) (code source : Nat) (items : List Int) :
    π (m.logIf b code source items).eth = π m.eth := by
  cases b
  · rfl
  · exact h.logE m m.comm _

end

/-! ### Answers -/

theorem ModuleState.bumpC_eth (m : ModuleState) (c : Comm) (x : Transport) (lost : Bool) : (m.bumpC c x lost).eth = c.eth := by
  have hq : notifying.contains evCounterSaturated = false := by decide
  simp only [ModuleState.bumpC, apply_ite Comm.eth, m.logC_eth hq, Comm.port_eth, ite_self]

theorem ModuleState.rejectC_eth (m : ModuleState) (c : Comm) (r : ReplyTo) (status : Nat) : (m.rejectC c r status).eth = c.eth := by
  have hq : notifying.contains evCmdRejected = false := by decide
  simp only [ModuleState.rejectC, apply_ite Comm.eth, m.logC_eth hq, Comm.port_eth, ite_self]

/-- A packet handed to another transport leaves Ethernet alone. -/
theorem ModuleState.hand_eth (m : ModuleState) (c : Comm) {x : Transport} (hx : x ≠ .ethernet) (dest : Nat × Nat) (b : List Byte) :
    (m.hand c x dest b).eth = c.eth := by
  cases x with
  | ethernet => exact absurd rfl hx
  | spi | canA | canB | levee => rfl

section

variable {β : Type} {π : Eth → β} {m : ModuleState} {r : ReplyTo}
variable (hhand : ∀ c dest b, π (m.hand c r.transport dest b).eth = π c.eth)
include hhand

/-- A reply leaves of Ethernet what its packets leave, handed to its transport (R312). -/
theorem ModuleState.sendReply_eth (c : Comm) (status : Nat) (data : List Byte) : π (m.sendReply c r status data).eth = π c.eth := by
  unfold ModuleState.sendReply
  dsimp only
  split
  · rfl
  · have hsent : ∀ ps : List (List Byte), π (ps.foldl (fun c p => if m.takes c r.transport r.src [p] then m.hand c r.transport r.src p
        else m.bumpC c r.transport true) c).eth = π c.eth := fun ps =>
      List.foldlRecOn ps _ (motive := fun k : Comm => π k.eth = π c.eth) rfl fun k hk p _ => by
        split
        · rw [hhand, hk]
        · rw [m.bumpC_eth, hk]
    split <;> exact hsent _

theorem ModuleState.answerC_eth (c : Comm) (status : Nat) (data : List Byte) : π (m.answerC c r status data).eth = π c.eth := by
  unfold ModuleState.answerC
  dsimp only
  split
  · split
    · split
      · rw [m.rejectC_eth, m.bumpC_eth]
      · rw [m.bumpC_eth]
    · rw [ModuleState.sendReply_eth hhand]
      split
      · rw [m.bumpC_eth]
      · rfl
  · split
    · rw [m.rejectC_eth]
    · rfl

end

/-- A part of a command in flight done leaves of Ethernet what the packets of its reply leave (R21). -/
theorem ModuleState.settle_eth {β : Type} {π : Eth → β} {m : ModuleState}
    (hhand : ∀ f ∈ m.interp.inflight, ∀ c dest b, π (m.hand c f.replyTo.transport dest b).eth = π c.eth) (ref : Nat) (status : Option Nat)
    (data : Option (List Byte)) : π (m.settle ref status data).eth = π m.eth := by
  show π (m.settleC m.comm ref status data).eth = π m.eth
  unfold ModuleState.settleC
  split
  · rfl
  · next f hf =>
    dsimp only
    split
    · exact ModuleState.answerC_eth (r := f.replyTo) (hhand f (List.mem_of_find?_eq_some hf)) _ _ _
    · rfl

/-- A part of a command in flight done: what stays in flight is answered as before. -/
theorem ModuleState.settle_replyTo {m : ModuleState} {ref : Nat} {status : Option Nat} {data : Option (List Byte)} {x : Inflight}
    (hx : x ∈ (m.settle ref status data).interp.inflight) : ∃ y ∈ m.interp.inflight, y.replyTo = x.replyTo := by
  cases hf : m.interp.inflight.find? fun x => x.ref == ref with
  | none =>
    have hfc : (m.comm.interp.inflight.find? fun x => x.ref == ref) = none := hf
    have hx' : x ∈ (m.settleC m.comm ref status data).interp.inflight := hx
    simp only [ModuleState.settleC, hfc] at hx'
    exact ⟨x, hx', rfl⟩
  | some f =>
    rcases Nat.lt_or_ge 1 f.left with hl | hl
    · rw [ModuleState.settle_more status data hf hl] at hx
      obtain ⟨y, hy, rfl⟩ := List.mem_map.mp hx
      split
      · exact ⟨f, List.mem_of_find?_eq_some hf, rfl⟩
      · exact ⟨y, hy, rfl⟩
    · rw [Interp.inflight_of_work (y := { m.interp with inflight := m.interp.inflight.filter (·.ref != ref) })
        (ModuleState.settle_last status data hf hl)] at hx
      exact ⟨x, List.mem_of_mem_filter hx, rfl⟩

end Sys2Proof.Machine
end

section
/-! Frames on the switch (R388 to R394): what each operation leaves of the learned addresses, the ports and the rings, and where a frame goes. -/

namespace Sys2Proof.Machine

/-! ### Parts of Ethernet that frames leave alone -/

/-- Link, speed and flags of a port. -/
def EthPort.line (q : EthPort) : Bool × Nat × Nat := (q.link, q.speed, q.flags)

/-- One port changed, then read. -/
theorem Eth.setPort_port (e : Eth) {k : Nat} (hk : k < 2) (f : EthPort → EthPort) : (e.setPort k f).port k = f (e.port k) := by
  obtain rfl | rfl : k = 0 ∨ k = 1 := by omega
  · rfl
  · rfl

/-- ETH1 and ETH2 are two ports. -/
theorem Eth.setPort_other (e : Eth) {k : Nat} (hk : k < 2) (f : EthPort → EthPort) : (e.setPort k f).port (1 - k) = e.port (1 - k) := by
  obtain rfl | rfl : k = 0 ∨ k = 1 := by omega
  · rfl
  · rfl

/-- What a change of a port leaves of it, it leaves of every port. -/
theorem Eth.setPort_part {β : Type} (g : EthPort → β) {f : EthPort → EthPort} (e : Eth) (port k : Nat)
    (hf : ∀ q, g (f q) = g q := by intros; rfl) : g ((e.setPort port f).port k) = g (e.port k) := by
  simp only [Eth.setPort, Eth.port, apply_ite Eth.port1, apply_ite Eth.port2, apply_ite Eth.portH, apply_ite g, hf, ite_self]

/-- A change of a port leaves every other field alone. -/
theorem Eth.setPort_frame (e : Eth) (port : Nat) (f : EthPort → EthPort) :
    e.setPort port f = { e with port1 := (e.setPort port f).port1, port2 := (e.setPort port f).port2, portH := (e.setPort port f).portH } := by
  unfold Eth.setPort
  split
  · rfl
  split <;> rfl

@[simp] theorem Eth.setPort_learned (e : Eth) (port : Nat) (f : EthPort → EthPort) : (e.setPort port f).learned = e.learned := by
  rw [Eth.setPort_frame]

@[simp] theorem Eth.setPort_tx (e : Eth) (port : Nat) (f : EthPort → EthPort) : (e.setPort port f).tx = e.tx := by
  rw [Eth.setPort_frame]

@[simp] theorem Eth.setPort_out (e : Eth) (port : Nat) (f : EthPort → EthPort) : (e.setPort port f).out = e.out := by
  rw [Eth.setPort_frame]

@[simp] theorem Eth.setPort_queued (e : Eth) (port : Nat) (f : EthPort → EthPort) : (e.setPort port f).queued = e.queued := by
  rw [Eth.setPort_frame]

@[simp] theorem Eth.setPort_busy (e : Eth) (port : Nat) (f : EthPort → EthPort) : (e.setPort port f).busy = e.busy := by
  rw [Eth.setPort_frame]

theorem offSending_line (k : Nat) : OffSending fun e => (e.port k).line where
  sent e port := Eth.setPort_part EthPort.line e port k
  dropped e port := Eth.setPort_part EthPort.line e port k
  queues _ _ _ _ := rfl
  host e := Eth.setPort_part EthPort.line e 2 k
  ident _ _ := rfl

theorem offPorts_rx (k : Nat) : OffPorts fun e => (e.port k).rx where
  sent e port := Eth.setPort_part EthPort.rx e port k
  dropped e port := Eth.setPort_part EthPort.rx e port k
  queues _ _ _ _ := rfl

theorem offSending_learned : OffSending Eth.learned where
  sent _ _ := Eth.setPort_learned _ _ _
  dropped _ _ := Eth.setPort_learned _ _ _
  queues _ _ _ _ := rfl
  host _ := rfl
  ident _ _ := rfl

theorem offSending_tx : OffSending Eth.tx where
  sent _ _ := Eth.setPort_tx _ _ _
  dropped _ _ := Eth.setPort_tx _ _ _
  queues _ _ _ _ := rfl
  host _ := rfl
  ident _ _ := rfl

/-! ### Operations of the module on Ethernet -/

@[simp] theorem ModuleState.portError_eth (m : ModuleState) (port : Nat) (drop : Bool) : (m.portError port drop).eth =
    m.eth.setPort port fun x => if drop then { x with drops := sat max32 x.drops } else { x with rxErrors := sat max32 x.rxErrors } :=
  ModuleState.saturated_eth _ _ _ _ _ _

@[simp] theorem ModuleState.sendFrame_eth (m : ModuleState) (vid : Nat) (ports : List Nat) (f : Nat → SwFrame) :
    (m.sendFrame vid ports f).eth = m.putOn m.eth vid ports f :=
  ModuleState.each_frame _ [0, 1] _ (·.eth) fun n _ => n.logIf_eth (by decide) _ _ _

theorem ModuleState.logIf_inflight (m : ModuleState) (b : Bool) (code source : Nat) (items : List Int) :
    (m.logIf b code source items).interp.inflight = m.interp.inflight := by
  cases b
  · rfl
  · exact Interp.inflight_of_work (m.log_work code source items)

theorem ModuleState.sendFrame_inflight (m : ModuleState) (vid : Nat) (ports : List Nat) (f : Nat → SwFrame) :
    (m.sendFrame vid ports f).interp.inflight = m.interp.inflight :=
  ModuleState.each_frame _ [0, 1] _ (·.interp.inflight) fun n _ => n.logIf_inflight _ _ _ _

@[simp] theorem ModuleState.sendOwn_learned (m : ModuleState) (pcp : Nat) (body : List Byte) :
    (m.sendOwn pcp body).eth.learned = m.eth.learned :=
  offSending_learned.ownFrame m m.eth pcp body

@[simp] theorem ModuleState.arpReply_learned (m : ModuleState) (f : SwFrame) : (m.arpReply f).eth.learned = m.eth.learned := by
  unfold ModuleState.arpReply
  dsimp only
  split
  · exact m.sendOwn_learned _ _
  · rfl

@[simp] theorem ModuleState.echoReply_learned (m : ModuleState) (f : SwFrame) : (m.echoReply f).eth.learned = m.eth.learned := by
  unfold ModuleState.echoReply
  dsimp only
  split
  · exact m.sendOwn_learned _ _
  · rfl

@[simp] theorem ModuleState.takeFragment_learned (m : ModuleState) (f : SwFrame) : (m.takeFragment f).eth.learned = m.eth.learned := by
  simp only [ModuleState.takeFragment, ModuleState.setEth_eth, apply_ite Eth.learned, ite_self]

@[simp] theorem ModuleState.ringIrq_eth (m : ModuleState) (b : Bool) : (m.ringIrq b).eth = m.eth := rfl

@[simp] theorem ModuleState.mend_eth (m : ModuleState) (a n : Nat) : (m.mend a n).eth = m.eth := rfl

@[simp] theorem ModuleState.descDone_eth (m : ModuleState) (ring index ctrl result : Nat) : (m.descDone ring index ctrl result).eth = m.eth :=
  m.logIf_eth (by decide) _ _ _

/-! ### Addresses learned -/

/-- Reception by the receive ring leaves the learned addresses alone (R398). -/
theorem ringReceive_learned (sof : Nat) (f : SwFrame) (x : ModuleState × Memory) : (ringReceive sof f x).1.eth.learned = x.1.eth.learned := by
  unfold ringReceive
  dsimp only
  split
  · rfl
  split
  · rw [ModuleState.ringIrq_eth, ModuleState.logIf_eth _ (by decide), ModuleState.portError_eth, Eth.setPort_learned _ _ _]
    rfl
  · simp only [ModuleState.descDone_eth, ModuleState.setEth_eth, ModuleState.mend_eth, apply_ite ModuleState.eth, ite_self]

/-- So does whatever the host port does with a frame (R391, R393). -/
theorem hostReceive_learned (sof vid : Nat) (f : SwFrame) (x : ModuleState × Memory) : (hostReceive sof vid f x).1.eth.learned = x.1.eth.learned := by
  obtain ⟨m, mem⟩ := x
  unfold hostReceive
  dsimp -zeta only
  extract_lets window say drop m1
  have hm1 : m1.eth.learned = m.eth.learned := Eth.setPort_learned _ _ _
  split
  · dsimp only [drop]
    rw [ModuleState.logIf_eth _ (by decide), ModuleState.portError_eth, Eth.setPort_learned]
    rfl
  split
  · simp only [apply_ite ModuleState.eth, apply_ite Eth.learned, ModuleState.takeFragment_learned, ModuleState.arpReply_learned,
      ModuleState.echoReply_learned, ite_self, hm1]
  split
  · rw [ringReceive_learned, hm1]
  · exact hm1

theorem forward_learned (vid sof : Nat) (ports : List Nat) (residence : Nat → Nat) (f : SwFrame) (x : ModuleState × Memory) :
    (forward vid sof ports residence f x).1.eth.learned = x.1.eth.learned := by
  have hsent : ∀ g, (x.1.sendFrame vid (ports.filter (· != 2)) g).eth.learned = x.1.eth.learned := fun g => by
    rw [ModuleState.sendFrame_eth, offSending_learned.putOn]
  unfold forward
  dsimp only
  split
  · rw [hostReceive_learned, hsent]
  · exact hsent _

/-- Follow_Ups sent on one after the other (R394). -/
theorem foldl_forward_learned (sof : Nat) (l : List HeldFollowUp) (x : ModuleState × Memory) :
    (l.foldl (fun z h =>
      let g : SwFrame := { tci := h.tci, tagged := true, body := h.body }
      forward h.vid sof (z.1.egressPorts h.vid h.ingress g) (fun _ => 0) g z) x).1.eth.learned = x.1.eth.learned := by
  induction l generalizing x with
  | nil => rfl
  | cons h l ih => rw [List.foldl_cons, ih, forward_learned]

/-- The VLAN of a frame received at a port (R390). -/
def ModuleState.vidOf (m : ModuleState) (ingress : Nat) (frame : List Byte) : Nat :=
  if (readFrame frame).tci % 4096 = 0 then m.pvid ingress else (readFrame frame).tci % 4096

variable {m : ModuleState} {mem : Memory} {frame : List Byte} {port : Nat}

/-- A frame of a VLAN that its port is no member of is dropped (R390). -/
theorem switchFrame_foreign (sof : Nat) (residence : Option Nat) (hport : port < 2) (h : bit (m.vlan (m.vidOf port frame)).1 port = false) :
    switchFrame port sof residence frame (m, mem) = (m.portError port true, mem) := by
  have hforeign : (!bit (m.vlan (m.vidOf port frame)).1 port) = true := by rw [h]; rfl
  have hne : port ≠ 2 := by omega
  exact (if_pos hforeign).trans (by rw [if_neg hne])

/-- A frame that is taken in leaves the addresses learned as its source has left them, whatever it carries (R390, R394). -/
theorem switchFrame_learned (sof : Nat) (residence : Option Nat) (h : bit (m.vlan (m.vidOf port frame)).1 port) :
    (switchFrame port sof residence frame (m, mem)).1.eth.learned =
      (m.eth.learn m.now (m.vidOf port frame) (readFrame frame).src port).learned := by
  unfold switchFrame
  dsimp -zeta only
  extract_lets f vid m1 ports took m2 y
  have hmember : ¬ (!bit (m.vlan vid).1 port) = true := by rw [show bit (m.vlan vid).1 port = true from h]; decide
  have hm2 : m2.eth.learned = (m.eth.learn m.now vid f.src port).learned := by
    unfold m2
    split <;> rfl
  change _ = (m.eth.learn m.now vid f.src port).learned
  rw [if_neg hmember, ← hm2]
  clear_value m2 took ports
  have hy : y.1.eth.learned = m2.eth.learned := forward_learned vid sof ports took f (m2, mem)
  clear_value y
  split
  · split
    · extract_lets key m3 y3 late z
      have hm3 : m3.eth.learned = m2.eth.learned := by simp only [m3, ModuleState.setEth_eth]
      have hy3 : y3.1.eth.learned = m2.eth.learned := (forward_learned vid sof ports took f (m3, mem)).trans hm3
      clear_value y3
      have hz : z.1.eth.learned = m2.eth.learned := (foldl_forward_learned sof late y3).trans hy3
      clear_value z
      split
      · exact hy3
      · simp only [ModuleState.setEth_eth, hz]
    · exact forward_learned vid sof ports took f (m2, mem)
  · extract_lets key
    split
    · simp only [ModuleState.setEth_eth, hy]
    · simp only [ModuleState.setEth_eth]
  · exact forward_learned vid sof ports took f (m2, mem)

/-! ### Where a frame goes -/

@[simp] theorem Eth.begins_out (e : Eth) (port prio start : Nat) (b : List Byte) :
    (e.begins port prio start b).out = e.out ++ [(port, prio, b)] := rfl

@[simp] theorem Eth.begins_queued (e : Eth) (port prio start : Nat) (b : List Byte) : (e.begins port prio start b).queued = e.queued :=
  Eth.setPort_queued _ _ _

theorem Eth.begins_tx (e : Eth) {port : Nat} (hport : port < 2) (prio start : Nat) (b : List Byte) :
    ((e.begins port prio start b).port port).tx = ((e.port port).tx + 1) % 2 ^ 32 :=
  congrArg EthPort.tx (Eth.setPort_port e hport _)

/-- With nothing queued the egress queues have nothing to serve. -/
theorem Eth.served_of_none {e : Eth} (h : e.queued = []) (now : Nat) : e.served now = e := by
  simp [Eth.served, h, Eth.servePort]

/-- A frame put on a port that is free with nothing queued leaves at once (R390). -/
theorem Eth.put_free {e : Eth} (hq : e.queued = []) {now port : Nat} (hfree : e.freeAt port ≤ now) (prio : Nat) (b : List Byte) :
    e.put now port prio b = e.begins port prio now b := by
  simp [Eth.put, hq, hfree]

/-- A frame put on a busy port with nothing queued waits, unless the queues have no room at all (R390; log entry 145). -/
theorem Eth.put_busy {e : Eth} (hq : e.queued = []) {now port : Nat} (hbusy : now < e.freeAt port) (prio : Nat) (b : List Byte) :
    e.put now port prio b = if Config.queueDepth = 0 then e.setPort port fun x => { x with drops := sat max32 x.drops }
      else { e with queued := [{ port, prio, bytes := b, since := now }] } := by
  simp [Eth.put, Eth.roomIn, hq, Nat.not_le.mpr hbusy]

/-- Learning a source changes the learned addresses alone. -/
theorem Eth.learn_frame (e : Eth) (now vid mac port : Nat) :
    e.learn now vid mac port = { e with learned := (e.learn now vid mac port).learned } := by
  unfold Eth.learn
  split_ifs <;> rfl

/-- A new source address is learned while there is room (R390). -/
theorem Eth.learn_new {e : Eth} {vid mac : Nat} (hmac : bit mac 0 = false) (hnew : ∀ x ∈ e.learned, ¬ (x.vid = vid ∧ x.mac = mac))
    (hroom : e.learned.length < 1024) (now port : Nat) :
    e.learn now vid mac port = { e with learned := e.learned ++ [{ vid, mac, port, seen := now }] } := by
  have hnone : (e.learned.any fun x => x.vid == vid && x.mac == mac) = false := by simpa using hnew
  simp [Eth.learn, hmac, hnone, hroom]

/-- Another address is found as before (R390). -/
theorem Eth.find_learn {e : Eth} {vid mac other : Nat} {x : Learned}
    (hx : (e.learned.find? fun y => y.vid == vid && y.mac == mac) = some x) (hne : other ≠ mac) (now port : Nat) :
    ((e.learn now vid other port).learned.find? fun y => y.vid == vid && y.mac == mac) = some x := by
  have hmac : x.mac ≠ other := by
    have hfound := List.find?_some hx
    rw [Bool.and_eq_true_iff, beq_iff_eq, beq_iff_eq] at hfound
    exact hfound.2 ▸ hne.symm
  unfold Eth.learn
  split
  · exact hx
  split
  · have hsame : ((fun y : Learned => y.vid == vid && y.mac == mac) ∘
        fun y => if y.vid == vid && y.mac == other then { y with port, seen := now } else y) = fun y => y.vid == vid && y.mac == mac := by
      funext y
      dsimp only [Function.comp]
      split <;> rfl
    rw [updIf, List.find?_map, hsame, hx]
    simp [hmac]
  split
  · exact hx
  · rw [List.find?_append, hx]
    rfl

/-- A unicast frame whose address was learned at the other member port goes there alone (R390). -/
theorem ModuleState.egressPorts_learned {vid : Nat} {f : SwFrame} {x : Learned} (hport : port < 2) (hown : f.dst ≠ Config.macBase)
    (hgroup : f.group = false) (hmember : bit (m.vlan vid).1 (1 - port))
    (hx : (m.eth.learned.find? fun y => y.vid == vid && y.mac == f.dst) = some x) (hthere : x.port = 1 - port) :
    m.egressPorts vid port f = [1 - port] := by
  have hnot : ¬ (f.dst = Config.macBase ∧ bit (m.vlan vid).1 2) := fun h => hown h.1
  simp only [ModuleState.egressPorts, ModuleState.egressOf, if_neg hnot, hgroup, Bool.false_eq_true, if_false, hx, hthere]
  obtain rfl | rfl : port = 0 ∨ port = 1 := by omega
  · simp [List.filter_cons, show bit (m.vlan vid).1 1 from hmember]
  · simp [List.filter_cons, show bit (m.vlan vid).1 0 from hmember]

/-- A frame without PTP leaves the transparent clock as it came (R394). -/
theorem Eth.corrected_of_none {f : SwFrame} (h : ptpOffset f = none) (e : Eth) (residence port : Nat) : e.corrected residence port f = f := by
  simp [Eth.corrected, SwFrame.ptpKind, h]

/-- A frame that goes to ETH1 or ETH2 alone leaves memory alone. -/
theorem forward_ports {f : SwFrame} (h : ptpOffset f = none) (vid sof : Nat) {k : Nat} (hk : k < 2) (residence : Nat → Nat) :
    forward vid sof [k] residence f (m, mem) = (m.sendFrame vid [k] fun _ => f, mem) := by
  have hne : k ≠ 2 := by omega
  simp [forward, hne, hne.symm, Eth.corrected_of_none h]

/-- A unicast frame whose address was learned at the other member port is sent on there (R390). -/
theorem switchFrame_unicast (sof : Nat) (residence : Option Nat) {x : Learned} (hport : port < 2)
    (hmember : bit (m.vlan (m.vidOf port frame)).1 port) (hother : bit (m.vlan (m.vidOf port frame)).1 (1 - port))
    (hptp : ptpOffset (readFrame frame) = none) (hown : (readFrame frame).dst ≠ Config.macBase) (hgroup : (readFrame frame).group = false)
    (hx : (m.eth.learned.find? fun y => y.vid == m.vidOf port frame && y.mac == (readFrame frame).dst) = some x) (hthere : x.port = 1 - port)
    (hsrc : (readFrame frame).src ≠ (readFrame frame).dst) : switchFrame port sof residence frame (m, mem) =
      ((m.setEth fun e => e.learn m.now (m.vidOf port frame) (readFrame frame).src port).sendFrame (m.vidOf port frame) [1 - port]
        fun _ => readFrame frame, mem) := by
  have hkind : (readFrame frame).ptpKind = none := by rw [SwFrame.ptpKind, hptp]; rfl
  have hevent : (readFrame frame).ptpEvent = false := by rw [SwFrame.ptpEvent, hptp]; rfl
  unfold switchFrame
  dsimp -zeta only
  extract_lets f vid m1 ports took m2 y
  have hin : ¬ (!bit (m.vlan vid).1 port) = true := by rw [show bit (m.vlan vid).1 port = true from hmember]; decide
  have hports : ports = [1 - port] :=
    ModuleState.egressPorts_learned (m := m1) hport hown hgroup hother (Eth.find_learn hx hsrc m.now port) hthere
  have hm2 : m2 = m1 := if_neg (by rw [hevent]; decide)
  rw [if_neg hin, hkind]
  dsimp only [y]
  rw [hports, hm2]
  exact forward_ports hptp vid sof (by omega) took

/-- A frame sent on one port with link that is free, nothing queued: it leaves there at once (R390). -/
theorem ModuleState.putOn_free {e : Eth} {k : Nat} (hlink : (e.port k).link) (hq : e.queued = []) (hfree : e.freeAt k ≤ m.now) (vid : Nat)
    (f : Nat → SwFrame) : m.putOn e vid [k] f = e.begins k (f k).queue m.now (m.egressBytes vid k (f k)) := by
  simp only [ModuleState.putOn, List.foldl_cons, List.foldl_nil, Eth.served_of_none hq, hlink, if_true, Eth.put_free hq hfree]

end Sys2Proof.Machine
end

section
/-! The Ethernet rows and ring doorbells (R319, R387, R390, R392, R397 to R400). -/

namespace Sys2Proof.Machine

variable {s : State} {t port : Nat}

/-! ### Links -/

/-- A link its port's mode allows comes up (R387): the event that says so leaves it as it is. -/
theorem ethLinkChange_up (hport : port < 2) (hruns : (s.then t).runs isNetwork) {speed flags : Nat} (hallowed : (s.then t).linkAllowed port speed flags) :
    Runs (.ethLinkChange t port true speed flags) s fun m' =>
      (m'.eth.port port).link = true ∧ (m'.eth.port port).speed = speed ∧ (m'.eth.port port).flags = flags := by
  refine runs_of_there (decide_eq_true hport) rfl rfl ?_
  have hon : (true && (s.then t).linkAllowed port speed flags && (s.then t).runs isNetwork) = true := by rw [hallowed, hruns]; rfl
  have hline := fun (m : ModuleState) b items => (offSending_line port).logIf m b evEthLink tgModule items
  simp only [hon, if_true, ← Prod.mk.injEq] at hline ⊢
  refine (hline _ _ _).trans ?_
  rw [ModuleState.setEth_eth, Eth.setPort_port _ hport]
  rfl

/-! ### Frames received -/

/-- A good frame received is counted. -/
def ModuleState.counted (m : ModuleState) (port : Nat) : ModuleState :=
  m.setEth fun e => e.setPort port fun q => { q with rx := (q.rx + 1) % 2 ^ 32 }

section

variable (sof res : Nat) (frame : List Byte) (hport : port < 2) (hruns : (s.then t).runs isNetwork) (hlink : ((s.then t).eth.port port).link)
include hport hruns hlink

/-- A frame with a wrong FCS counts and goes nowhere (R390). -/
theorem ethFrameReceived_wrongFcs : Gives (.ethFrameReceived t port sof res false frame) s ((s.then t).portError port false) := by
  have hup : ¬ (!(s.then t).runs isNetwork || !((s.then t).eth.port port).link) = true := by rw [hruns, hlink]; decide
  exact next_of_both (if_pos hport) ((if_neg hup).trans (if_pos rfl))

/-- A good frame once the configuration is loaded goes into the switch (R390, R392). -/
theorem ethFrameReceived_switches (hconf : (s.then t).eth.configured) {m' : ModuleState} {mem' : Memory}
    (h : switchFrame port sof (some res) frame ((s.then t).counted port, s.mem) = (m', mem')) :
    exec (.ethFrameReceived t port sof res true frame) s = .next { s with m := m', mem := mem' } := by
  have hup : ¬ (!(s.then t).runs isNetwork || !((s.then t).eth.port port).link) = true := by rw [hruns, hlink]; decide
  exact next_of_both (if_pos hport) ((if_neg hup).trans ((if_neg (by decide)).trans ((if_pos hconf).trans h)))

/-- Before the configuration is loaded a frame passes to the other port (R392). -/
theorem ethFrameReceived_unconfigured (hconf : (s.then t).eth.configured = false) : Gives (.ethFrameReceived t port sof res true frame) s
    (if ((s.then t).eth.port (1 - port)).link && !([1, 2].contains (s.then t).reset.cause && !(s.then t).due (s.then t).reset.resetEndAt (ms 40)) then
      ((s.then t).counted port).setEth fun e => (e.served (s.then t).now).put (s.then t).now (1 - port) (readFrame frame).queue frame
    else (s.then t).counted port) := by
  have hup : ¬ (!(s.then t).runs isNetwork || !((s.then t).eth.port port).link) = true := by rw [hruns, hlink]; decide
  exact next_of_both (if_pos hport) ((if_neg hup).trans ((if_neg (by decide)).trans (if_neg (by rw [hconf]; decide))))

/-- Before the configuration is loaded, but not within 50 ms of VCTL, a frame passes to the other port when that has link (R392). -/
theorem ethFrameReceived_passes (hconf : (s.then t).eth.configured = false) :
    let m := s.then t
    let early := (m.reset.cause = 1 ∨ m.reset.cause = 2) ∧ m.now < m.reset.resetEndAt + ms 40
    Runs (.ethFrameReceived t port sof res true frame) s fun m' =>
      (m'.eth.port port).rx = ((m.eth.port port).rx + 1) % 2 ^ 32 ∧
      ((m.eth.port (1 - port)).link = false ∨ early → m'.eth.out = m.eth.out ∧ m'.eth.queued = m.eth.queued) ∧
      ((m.eth.port (1 - port)).link → ¬ early → m.eth.queued = [] →
        (m.eth.freeAt (1 - port) ≤ m.now → m'.eth.out = m.eth.out ++ [(1 - port, (readFrame frame).queue, frame)] ∧ m'.eth.queued = [] ∧
          (m'.eth.port (1 - port)).tx = ((m.eth.port (1 - port)).tx + 1) % 2 ^ 32) ∧
        (m.now < m.eth.freeAt (1 - port) → m'.eth.out = m.eth.out ∧ m'.eth.queued =
          if Config.queueDepth = 0 then [] else [{ port := 1 - port, prio := (readFrame frame).queue, bytes := frame, since := m.now }])) := by
  intro m early
  have hearly : ([1, 2].contains m.reset.cause && !m.due m.reset.resetEndAt (ms 40)) = true ↔ early := by
    simp [early, ModuleState.due]
  have hcounted : (m.counted port).eth = m.eth.setPort port fun q => { q with rx := (q.rx + 1) % 2 ^ 32 } := rfl
  have hout : (m.counted port).eth.out = m.eth.out := Eth.setPort_out _ _ _
  have hqueued : (m.counted port).eth.queued = m.eth.queued := Eth.setPort_queued _ _ _
  have hbusy : (m.counted port).eth.busy = m.eth.busy := Eth.setPort_busy _ _ _
  refine ⟨_, ethFrameReceived_unconfigured sof res frame hport hruns hlink hconf, ?_, fun hshut => ?_, fun hother hlate hnone => ?_⟩
  · have hrx : ((m.counted port).eth.port port).rx = ((m.eth.port port).rx + 1) % 2 ^ 32 := by rw [hcounted, Eth.setPort_port _ hport]
    split
    · rw [← hrx, ModuleState.setEth_eth, (offPorts_rx port).put, (offPorts_rx port).served]
    · exact hrx
  · rw [if_neg, hout, hqueued]
    · exact ⟨rfl, rfl⟩
    · rw [Bool.and_eq_true, Bool.not_eq_true', ← Bool.not_eq_true, hearly]
      rintro ⟨hup, hlate⟩
      rw [hup] at hshut
      exact hlate (hshut.resolve_left (by decide))
  · have hopen : ((m.eth.port (1 - port)).link && !([1, 2].contains m.reset.cause && !m.due m.reset.resetEndAt (ms 40))) = true := by
      rw [Bool.and_eq_true, Bool.not_eq_true', ← Bool.not_eq_true, hearly]
      exact ⟨hother, hlate⟩
    have hempty : (m.counted port).eth.queued = [] := hqueued.trans hnone
    have hport' : 1 - port < 2 := by omega
    have hfreeAt : (m.counted port).eth.freeAt (1 - port) = m.eth.freeAt (1 - port) := by rw [Eth.freeAt, Eth.freeAt, hbusy]
    rw [if_pos hopen, ModuleState.setEth_eth, Eth.served_of_none hempty]
    refine ⟨fun hfree => ?_, fun hbusy => ?_⟩
    · rw [Eth.put_free hempty (hfreeAt.trans_le hfree), ← hout]
      refine ⟨Eth.begins_out _ _ _ _ _, (Eth.begins_queued _ _ _ _ _).trans hempty, ?_⟩
      rw [Eth.begins_tx _ hport', hcounted, Eth.setPort_other _ hport]
    · rw [Eth.put_busy hempty (hbusy.trans_eq hfreeAt.symm), ← hout]
      split
      · exact ⟨Eth.setPort_out _ _ _, (Eth.setPort_queued _ _ _).trans hempty⟩
      · exact ⟨rfl, rfl⟩

/-- A frame of a VLAN its port is no member of is dropped and counted (R390). -/
theorem ethFrameReceived_foreign (hconf : (s.then t).eth.configured) (hforeign : bit ((s.then t).vlan ((s.then t).vidOf port frame)).1 port = false) :
    Runs (.ethFrameReceived t port sof res true frame) s fun m' => m'.eth.out = (s.then t).eth.out ∧
      (m'.eth.port port).drops = sat max32 ((s.then t).eth.port port).drops ∧ m'.eth.learned = (s.then t).eth.learned := by
  have hcounted : ((s.then t).counted port).eth = (s.then t).eth.setPort port fun q => { q with rx := (q.rx + 1) % 2 ^ 32 } := rfl
  refine ⟨_, ethFrameReceived_switches sof res frame hport hruns hlink hconf
    (switchFrame_foreign (m := (s.then t).counted port) sof (some res) hport hforeign), ?_⟩
  beta_reduce
  rw [ModuleState.portError_eth, hcounted, Eth.setPort_port _ hport, Eth.setPort_port _ hport]
  simp only [Eth.setPort_out, Eth.setPort_learned, if_true, and_self]

/-- A new source address is learned (R390). -/
theorem ethFrameReceived_learns (hconf : (s.then t).eth.configured) (hmember : bit ((s.then t).vlan ((s.then t).vidOf port frame)).1 port)
    (hmac : bit (readFrame frame).src 0 = false)
    (hnew : ∀ x ∈ (s.then t).eth.learned, ¬ (x.vid = (s.then t).vidOf port frame ∧ x.mac = (readFrame frame).src))
    (hroom : (s.then t).eth.learned.length < 1024) : Stores (.ethFrameReceived t port sof res true frame) s fun m' _ => m'.eth.learned =
      (s.then t).eth.learned ++ [{ vid := (s.then t).vidOf port frame, mac := (readFrame frame).src, port, seen := (s.then t).now }] := by
  have hlearned : ((s.then t).counted port).eth.learned = (s.then t).eth.learned := Eth.setPort_learned _ _ _
  refine ⟨_, _, ethFrameReceived_switches sof res frame hport hruns hlink hconf Prod.mk.eta.symm, ?_⟩
  beta_reduce
  rw [switchFrame_learned (m := (s.then t).counted port) sof (some res) hmember, Eth.learn_new hmac (hlearned ▸ hnew) (hlearned ▸ hroom), hlearned]
  rfl

/-- A unicast frame whose address was learned at the other member port leaves there alone, at once when that port is free (R390). -/
theorem ethFrameReceived_unicast {x : Learned} (hconf : (s.then t).eth.configured)
    (hmember : bit ((s.then t).vlan ((s.then t).vidOf port frame)).1 port) (hother : bit ((s.then t).vlan ((s.then t).vidOf port frame)).1 (1 - port))
    (hup : ((s.then t).eth.port (1 - port)).link) (hptp : ptpOffset (readFrame frame) = none) (hown : (readFrame frame).dst ≠ Config.macBase)
    (hgroup : (readFrame frame).group = false)
    (hx : ((s.then t).eth.learned.find? fun y => y.vid == (s.then t).vidOf port frame && y.mac == (readFrame frame).dst) = some x)
    (hthere : x.port = 1 - port) (hsrc : (readFrame frame).src ≠ (readFrame frame).dst) (hnone : (s.then t).eth.queued = [])
    (hfree : (s.then t).eth.freeAt (1 - port) ≤ (s.then t).now) : Runs (.ethFrameReceived t port sof res true frame) s fun m' =>
      m'.eth.out = (s.then t).eth.out ++
        [(1 - port, (readFrame frame).queue, (s.then t).egressBytes ((s.then t).vidOf port frame) (1 - port) (readFrame frame))] := by
  have hlearned : ((s.then t).counted port).eth.learned = (s.then t).eth.learned := Eth.setPort_learned _ _ _
  have hother' : ((s.then t).counted port).eth.port (1 - port) = (s.then t).eth.port (1 - port) := Eth.setPort_other _ hport _
  have hout : ((s.then t).counted port).eth.out = (s.then t).eth.out := Eth.setPort_out _ _ _
  have hqueued : ((s.then t).counted port).eth.queued = (s.then t).eth.queued := Eth.setPort_queued _ _ _
  have hbusy : ((s.then t).counted port).eth.busy = (s.then t).eth.busy := Eth.setPort_busy _ _ _
  refine ⟨_, ethFrameReceived_switches sof res frame hport hruns hlink hconf
    (switchFrame_unicast (m := (s.then t).counted port) sof (some res) hport hmember hother hptp hown hgroup (hlearned ▸ hx) hthere hsrc), ?_⟩
  beta_reduce
  rw [ModuleState.sendFrame_eth, ModuleState.setEth_eth, Eth.learn_frame, ModuleState.putOn_free, Eth.begins_out]
  · exact congrArg (· ++ _) hout
  · exact (congrArg EthPort.link hother').trans hup
  · exact hqueued.trans hnone
  · exact (congrArg (fun p : Nat × Nat => if 1 - port = 0 then p.1 else p.2) hbusy).trans_le hfree

end

/-! ### Addresses and datagrams that time out -/

/-- An address not seen for AGE_TIME is forgotten (R390). -/
theorem ethAddressAged_forgets (v mac : Nat) : Gives (.ethAddressAged t v mac) s ((s.then t).setEth fun e => { e with
    learned := e.learned.filter fun x =>
      !(x.vid == v && x.mac == mac && decide (x.seen + seconds ((s.then t).cfg (ethCfg + 72) 2) ≤ (s.then t).now)) }) :=
  gives_of_happen rfl rfl

/-- A datagram in pieces is dropped after 200 ms (R319). -/
theorem udpReassemblyTimeout_drops (src ident : Nat) : Gives (.udpReassemblyTimeout t src ident) s ((s.then t).setEth fun e => { e with
    reasm := e.reasm.filter fun x => !(x.key == (src, ident) && decide (x.since + ms 200 ≤ (s.then t).now)) }) :=
  gives_of_happen rfl rfl

/-! ### Ring doorbells -/

/-- A ring whose next descriptor is the host's has none of the module's. -/
theorem Memory.owned_none {mem : Memory} {r : EthRing} (h : bit (mem.ringDesc r.addr).1 31 = false) (n : Nat) : mem.owned n r = 0 := by
  cases n with
  | zero => rfl
  | succ n => simp [Memory.owned, h]

/-- A ring whose next descriptor is the module's has one at least. -/
theorem Memory.owned_some {mem : Memory} {r : EthRing} (h : bit (mem.ringDesc r.addr).1 31) {n : Nat} (hn : n ≠ 0) : mem.owned n r ≠ 0 := by
  obtain ⟨n, rfl⟩ := Nat.exists_eq_succ_of_ne_zero hn
  simp [Memory.owned, h]

theorem Memory.length_bytes (mem : Memory) (a n : Nat) : (mem.bytes a n).length = n := by
  induction n generalizing a with
  | zero => rfl
  | succ n ih => rw [Memory.bytes, List.length_cons, ih]

/-- The transmit ring told how many of its descriptors are the module's (R399). -/
def ModuleState.tellTx (m : ModuleState) (n : Nat) : ModuleState := m.setEth fun e => { e with tx := { e.tx with told := n } }

section

variable {m : ModuleState} {mem : Memory} {told : Nat} (hcount : m.eth.tx.count ≠ 0) (hsending : m.eth.tx.sending = none)
include hcount hsending

/-- With no descriptor told of, an idle transmit ring idles on (R399). -/
theorem fetchTx_idle (hidle : m.eth.tx.idle) (n : Nat) : fetchTx (n + 1) (m.tellTx 0, mem) = (m.tellTx 0, mem) := by
  simp [fetchTx, ModuleState.tellTx, ModuleState.setEth, hcount, hsending, ← hidle]

/-- A good descriptor of the module's for ETH1 with link has its frame in sending (R396, R398). -/
theorem fetchTx_sends {ctrl addr len : Nat} (htold : told ≠ 0) (hdesc : mem.ringDesc m.eth.tx.addr = (ctrl, addr, len)) (hown : bit ctrl 31)
    (hport : bitsAt ctrl 4 2 = 1) (hlink : m.eth.port1.link) (hmin : 60 ≤ len) (hmax : len ≤ 1518) (hbuf : bufOk addr len)
    (hwhole : m.host.damaged = []) (n : Nat) : fetchTx (n + 1) (m.tellTx told, mem) =
      (m.setEth fun e => { e with tx := { e.tx with told, idle := false, sending := some (ctrl, mem.bytes addr len) } }, mem) := by
  have hlen : ¬ (len < 14 ∨ 1518 < len) := by omega
  have hpad : mem.bytes addr len ++ zeros (60 - (mem.bytes addr len).length) = mem.bytes addr len := by
    rw [Memory.length_bytes, Nat.sub_eq_zero_of_le hmin]
    exact List.append_nil _
  have hdesc' : mem.ringDesc (m.tellTx told).eth.tx.addr = (ctrl, addr, len) := hdesc
  have hwhole' : (m.tellTx told).host.damaged = [] := hwhole
  simp only [fetchTx, hdesc', hwhole', hown, hport, hlen, hbuf, hpad]
  simp [ModuleState.tellTx, ModuleState.setEth, hcount, hsending, htold, hlink]

end

section

variable (hopen : (s.then t).windowOpen) (hruns : (s.then t).runs isNetwork) (hconf : (s.then t).eth.configured) (hidle : (s.then t).eth.tx.idle)
include hopen hruns hconf hidle

/-- The transmit doorbell has an idle ring read its next descriptor again (R399). -/
theorem doorbellEthTx_fetches {m' : ModuleState}
    (h : fetchTx 257 ((s.then t).tellTx (s.mem.owned (s.then t).eth.tx.count (s.then t).eth.tx), s.mem) = (m', s.mem)) :
    Gives (.doorbellEthTx t) s m' := by
  have hserved : ¬ (!(s.then t).windowOpen || !(s.then t).ethRuns) = true := by rw [hopen, ModuleState.ethRuns, hruns, hconf]; decide
  exact next_of_both rfl ((if_neg hserved).trans ((if_pos hidle).trans h))

variable (hcount : (s.then t).eth.tx.count ≠ 0) (hsending : (s.then t).eth.tx.sending = none)
include hcount hsending

/-- A ring whose next descriptor is the host's stays idle. -/
theorem doorbellEthTx_idles (hown : bit (s.mem.ringDesc (s.then t).eth.tx.addr).1 31 = false) :
    Gives (.doorbellEthTx t) s ((s.then t).setEth fun e => { e with tx := { e.tx with told := 0 } }) := by
  refine doorbellEthTx_fetches hopen hruns hconf hidle ?_
  rw [Memory.owned_none hown]
  exact fetchTx_idle hcount hsending hidle 256

/-- A good descriptor of the module's for ETH1 with link has its frame in sending. -/
theorem doorbellEthTx_sends (hown : bit (s.mem.ringDesc (s.then t).eth.tx.addr).1 31)
    (hport : bitsAt (s.mem.ringDesc (s.then t).eth.tx.addr).1 4 2 = 1) (hlink : (s.then t).eth.port1.link)
    (hmin : 60 ≤ (s.mem.ringDesc (s.then t).eth.tx.addr).2.2) (hmax : (s.mem.ringDesc (s.then t).eth.tx.addr).2.2 ≤ 1518)
    (hbuf : bufOk (s.mem.ringDesc (s.then t).eth.tx.addr).2.1 (s.mem.ringDesc (s.then t).eth.tx.addr).2.2) (hwhole : (s.then t).host.damaged = []) :
    Gives (.doorbellEthTx t) s ((s.then t).setEth fun e => { e with tx := { e.tx with
      told := s.mem.owned (s.then t).eth.tx.count (s.then t).eth.tx
      idle := false
      sending := some ((s.mem.ringDesc (s.then t).eth.tx.addr).1,
        s.mem.bytes (s.mem.ringDesc (s.then t).eth.tx.addr).2.1 (s.mem.ringDesc (s.then t).eth.tx.addr).2.2) } }) :=
  doorbellEthTx_fetches hopen hruns hconf hidle
    (fetchTx_sends hcount hsending (Memory.owned_some hown hcount) rfl hown hport hlink hmin hmax hbuf hwhole 256)

end

/-- Without the host window the doorbells do nothing (R323). -/
theorem doorbellEthTx_shut (hshut : (s.then t).windowOpen = false) : Gives (.doorbellEthTx t) s (s.then t) := by
  have hunserved : (!(s.then t).windowOpen || !(s.then t).ethRuns) = true := by rw [hshut]; rfl
  exact next_of_both rfl (if_pos hunserved)

theorem doorbellEthRx_shut (hshut : (s.then t).windowOpen = false) : Gives (.doorbellEthRx t) s (s.then t) :=
  gives_of_happen rfl (if_neg (by rw [hshut]; decide))

/-- The receive doorbell ends the receive ring's idling (R399). -/
theorem doorbellEthRx_wakes (hopen : (s.then t).windowOpen) :
    Gives (.doorbellEthRx t) s ((s.then t).setEth fun e => { e with rx := { e.rx with idle := false } }) :=
  gives_of_happen rfl (if_pos hopen)

end Sys2Proof.Machine
end

section
/-! A frame of the transmit ring that has left (R397 to R400), and the obligation. -/

namespace Sys2Proof.Machine

variable {s : State} {t : Nat} {m : ModuleState}

/-! ### A frame sent off -/

/-- A frame of the host port counted there, with none in sending (R400). -/
def ModuleState.hostSent (m : ModuleState) : ModuleState :=
  m.setEth fun e => { e.setPort 2 (fun q => { q with rx := (q.rx + 1) % 2 ^ 32 }) with tx := { e.tx with sending := none } }

/-- A frame of the host port sent on ETH1, when both are members of its VLAN (R390, R397). -/
def ModuleState.hostSentOn1 (m : ModuleState) (frame : List Byte) : ModuleState :=
  let f := readFrame frame
  let vid := if f.tci % 4096 = 0 then m.hostVid else f.tci % 4096
  if bit (m.vlan vid).1 2 && bit (m.vlan vid).1 0 then m.hostSent.sendFrame vid [0] fun _ => f else m.hostSent

/-- The descriptor of a frame sent completed, and the ring moved on (R398, R399). -/
def ModuleState.txDone (m : ModuleState) (r : EthRing) (ctrl : Nat) : ModuleState :=
  (((if bit ctrl 6 then m.mend (r.addr + 16) 10 else m).mend r.addr 4).setEth fun e => { e with tx := e.tx.advance }).descDone 0 r.next ctrl 0

/-- The transmit ring stopped once a frame of it has left ETH1 (R400). -/
def ModuleState.txStopped (m : ModuleState) (ctrl : Nat) (frame : List Byte) : ModuleState :=
  ((m.hostSentOn1 frame).txDone m.eth.tx ctrl).setEth fun e => { e with tx := {} }

/-- The time a frame was sent, stored in its descriptor when that asks for it (R398). -/
def Memory.storeSent (mem : Memory) (m : ModuleState) (sof ctrl : Nat) : Memory :=
  if bit ctrl 6 then mem.store (m.eth.tx.addr + 16) (stampBytes (m.time.stamp sof)) else mem

/-- A frame sent on ETH1 by a transmit ring that is to stop: its descriptor is stored back and the ring stops (R397 to R400). -/
theorem ethTxComplete_stops (sof : Nat) {ctrl : Nat} {b : List Byte} (hsent : (s.then t).eth.tx.sending = some (ctrl, b)) (hport : bitsAt ctrl 4 2 = 1)
    (hstop : (s.then t).eth.tx.stopping ≠ []) : exec (.ethTxComplete t sof) s = .next { s with
      m := ((s.then t).txStopped ctrl b).each (s.then t).eth.tx.stopping fun m ref => m.settle ref none none
      mem := (s.mem.storeSent (s.then t) sof ctrl).store (s.then t).eth.tx.addr (leBytes 4 (doneCtrl ctrl 0)) } := by
  have hstops : ¬ (s.then t).eth.tx.stopping.isEmpty = true := by rwa [List.isEmpty_iff]
  refine next_of_both rfl ?_
  generalize s.then t = m at *
  dsimp -zeta only
  rw [hsent]
  dsimp -zeta only
  extract_lets r port m0 m1 f vid y mem1 mem2 m2
  have hport1 : port = 1 := (if_neg (by omega)).trans hport
  have hm0 : m0 = m := if_neg (by omega)
  have hm1 : m1 = m.hostSent := congrArg ModuleState.hostSent hm0
  have hy : y = (m.hostSentOn1 b, s.mem) := by
    unfold y
    rw [hport1, hm1, if_neg (by decide)]
    rfl
  rw [if_neg hstops]
  unfold m2 mem2 mem1
  rw [hy]
  rfl

theorem ModuleState.hostSentOn1_rx (m : ModuleState) (frame : List Byte) :
    (m.hostSentOn1 frame).eth.portH.rx = (m.eth.portH.rx + 1) % 2 ^ 32 := by
  unfold ModuleState.hostSentOn1
  extract_lets f vid
  split
  · rw [ModuleState.sendFrame_eth]
    exact (offPorts_rx 2).putOn _ _ _ _ _
  · rfl

theorem ModuleState.hostSentOn1_inflight (m : ModuleState) (frame : List Byte) : (m.hostSentOn1 frame).interp.inflight = m.interp.inflight := by
  unfold ModuleState.hostSentOn1
  extract_lets f vid
  split
  · exact ModuleState.sendFrame_inflight _ _ _ _
  · rfl

theorem ModuleState.txStopped_rx (m : ModuleState) (ctrl : Nat) (frame : List Byte) :
    (m.txStopped ctrl frame).eth.portH.rx = (m.eth.portH.rx + 1) % 2 ^ 32 := by
  rw [← m.hostSentOn1_rx frame]
  unfold ModuleState.txStopped ModuleState.txDone
  split <;> rfl

theorem ModuleState.txStopped_inflight (m : ModuleState) (ctrl : Nat) (frame : List Byte) :
    (m.txStopped ctrl frame).interp.inflight = m.interp.inflight := by
  rw [← m.hostSentOn1_inflight frame]
  unfold ModuleState.txStopped ModuleState.txDone
  split <;> rfl

theorem Memory.storeSent_wf {mem : Memory} (h : mem.wf) (m : ModuleState) (sof ctrl : Nat) : (mem.storeSent m sof ctrl).wf := by
  unfold Memory.storeSent
  split
  · exact Memory.store_wf h _ _
  · exact h

/-- Commands answered leave the transmit ring alone (R312). -/
theorem ModuleState.settles_tx (m : ModuleState) (refs : List Nat) : (m.each refs fun m ref => m.settle ref none none).eth.tx = m.eth.tx :=
  ModuleState.each_frame _ refs _ (·.eth.tx) fun _ _ => ModuleState.settle_eth (fun _ _ _ _ _ => offSending_tx.hand _ _ _ _ _) _ _ _

/-- Commands answered elsewhere leave Ethernet alone (R312). -/
theorem ModuleState.settles_eth (refs : List Nat) (h : ∀ x ∈ m.interp.inflight, x.replyTo.transport ≠ .ethernet) :
    (m.each refs fun m ref => m.settle ref none none).eth = m.eth := by
  refine (ModuleState.each_keeps _ refs _ (fun n => (∀ x ∈ n.interp.inflight, x.replyTo.transport ≠ .ethernet) ∧ n.eth = m.eth) ?_ ⟨h, rfl⟩).2
  rintro n ref ⟨hn, he⟩
  refine ⟨fun x hx => ?_, ?_⟩
  · obtain ⟨y, hy, hyx⟩ := ModuleState.settle_replyTo hx
    exact hyx ▸ hn y hy
  · exact (ModuleState.settle_eth (π := id) (fun x hx c dest b => n.hand_eth c (hn x hx) dest b) ref none none).trans he

/-- Four bytes of a number below 2^32 read back as it. -/
theorem leNat_leBytes4 {v : Nat} (h : v < 2 ^ 32) : leNat (leBytes 4 v) = v := by
  simp only [leBytes, leNat, BitVec.toNat_ofNat]
  omega

/-- A descriptor completed without error: OWN clear, RESULT 0, the rest kept (R398). -/
theorem doneCtrl_zero (ctrl : Nat) : doneCtrl ctrl 0 = ctrl % 2 ^ 31 / 2 ^ 24 * 2 ^ 24 + ctrl % 2 ^ 16 := by
  simp [doneCtrl]

/-- A frame that has left ETH1 completes its descriptor; the ordered stop then stops the ring (R397 to R400). -/
theorem ethTxComplete_completes (sof : Nat) {ctrl : Nat} {b : List Byte} (hsent : (s.then t).eth.tx.sending = some (ctrl, b))
    (hport : bitsAt ctrl 4 2 = 1) (hstop : (s.then t).eth.tx.stopping ≠ []) :
    Stores (.ethTxComplete t sof) s fun m' mem' => m'.eth.tx = {} ∧
      ((∀ x ∈ (s.then t).interp.inflight, x.replyTo.transport ≠ .ethernet) → m'.eth.portH.rx = ((s.then t).eth.portH.rx + 1) % 2 ^ 32) ∧
      (s.memOk → leNat (mem'.bytes (s.then t).eth.tx.addr 4) = ctrl % 2 ^ 31 / 2 ^ 24 * 2 ^ 24 + ctrl % 2 ^ 16) := by
  refine ⟨_, _, ethTxComplete_stops sof hsent hport hstop, ?_, fun helse => ?_, fun hmem => ?_⟩
  · rw [ModuleState.settles_tx]
    rfl
  · rw [ModuleState.settles_eth, ModuleState.txStopped_rx]
    rwa [ModuleState.txStopped_inflight]
  · have hsmall : doneCtrl ctrl 0 < 2 ^ 32 := by
      rw [doneCtrl_zero]
      omega
    exact (congrArg leNat (Memory.bytes_store (Memory.storeSent_wf hmem _ _ _) _ (leBytes 4 (doneCtrl ctrl 0)))).trans
      ((leNat_leBytes4 hsmall).trans (doneCtrl_zero ctrl))

/-! ### The obligation -/

/-- Settles O29, row by row. -/
theorem ethRowsRun : Obligations.EthRowsRun := by
  intro s t port hport hruns
  refine ⟨fun _ _ => ethLinkChange_up hport hruns, fun sof res frame hlink => ethFrameReceived_wrongFcs sof res frame hport hruns hlink,
    fun sof res frame hlink => ethFrameReceived_passes sof res frame hport hruns hlink,
    fun sof res frame hlink => ethFrameReceived_foreign sof res frame hport hruns hlink,
    fun sof res frame hlink => ethFrameReceived_learns sof res frame hport hruns hlink,
    fun sof res frame _ hlink => ethFrameReceived_unicast sof res frame hport hruns hlink, ethAddressAged_forgets, ?_,
    fun hshut => ⟨doorbellEthTx_shut hshut, doorbellEthRx_shut hshut⟩, doorbellEthRx_wakes,
    fun sof _ _ hsent _ => ethTxComplete_completes sof hsent, udpReassemblyTimeout_drops⟩
  exact fun hopen hconf hidle hcount hsending => ⟨doorbellEthTx_idles hopen hruns hconf hidle hcount hsending,
    doorbellEthTx_sends hopen hruns hconf hidle hcount hsending⟩

end Sys2Proof.Machine
end

section
/-! A culvert burst between memory regions (R405, R409): it moves bytes one by one, as many as its 64 and its descriptor leave, and stores in all the
source bytes at the destination. -/

namespace Sys2Proof.Machine

variable {m : ModuleState} {c : Nat} {d : Desc}

/-! ### One channel of the list -/

/-- A channel in a descriptor is one of the list. -/
theorem ModuleState.chan_lt_of_desc (h : (m.chan c).desc = some d) : c < m.cv.chans.length := by
  by_contra hle
  rw [ModuleState.chan, List.getD_eq_default _ _ (Nat.le_of_not_lt hle)] at h
  simp at h

theorem ModuleState.setChan_chan (hc : c < m.cv.chans.length) (f : CvChan → CvChan) : (m.setChan c f).chan c = f (m.chan c) :=
  upd_getD_self _ _ _ _ hc

theorem ModuleState.setChan_chan_ne {k : Nat} (hk : k ≠ c) (f : CvChan → CvChan) : (m.setChan c f).chan k = m.chan k :=
  upd_getD_ne _ _ _ _ _ (Ne.symm hk)

theorem ModuleState.setChan_setChan (f g : CvChan → CvChan) : (m.setChan c f).setChan c g = m.setChan c (g ∘ f) := by
  simp only [ModuleState.setChan, upd_upd]

theorem ModuleState.setChan_id : m.setChan c id = m := by
  simp [ModuleState.setChan, upd]

/-! ### Memory regions -/

/-- A byte of memory belongs to no port (R403 Table 1). -/
theorem cvTrace_of_memory {a : Nat} (h : cvMemory a) : cvTrace a = false := by
  simp only [cvMemory, cvTrace, Bool.or_eq_true, Bool.and_eq_true, decide_eq_true_eq] at h ⊢
  simp
  omega

theorem cvSink_of_memory {a : Nat} (h : cvMemory a) : cvSink a = false := by
  simp only [cvMemory, cvSink, Bool.or_eq_true, Bool.and_eq_true, decide_eq_true_eq] at h ⊢
  simp
  omega

/-- With no damaged word none is mended. -/
theorem ModuleState.mend_of_undamaged (h : m.host.damaged = []) (a n : Nat) : m.mend a n = m := by
  unfold ModuleState.mend
  rw [h, List.filter_nil, ← h]

theorem Memory.bytes_write_outside {mem : Memory} {a : Nat} (b : Byte) {x n : Nat} (h : a < x ∨ x + n ≤ a) :
    (mem.write a b).bytes x n = mem.bytes x n := by
  induction n generalizing x with
  | zero => rfl
  | succ n ih =>
    rw [Memory.bytes, Memory.bytes, ih (by omega), Memory.read_write_ne _ _ (by omega)]

/-- Bytes copied one by one to where no source byte lies are the source bytes stored. -/
theorem Memory.store_bytes_succ (mem : Memory) {src dst n : Nat} (h : src + (n + 1) ≤ dst ∨ dst + (n + 1) ≤ src) :
    (mem.write dst (mem.read src)).store (dst + 1) ((mem.write dst (mem.read src)).bytes (src + 1) n) =
      mem.store dst (mem.bytes src (n + 1)) := by
  rw [Memory.bytes_write_outside _ (by omega)]
  rfl

/-! ### One byte -/

/-- A descriptor that moves single bytes upward on both sides, unpaced and without a list. -/
structure Desc.Plain (d : Desc) : Prop where
  gather : d.gather = false
  scatter : d.scatter = false
  srcInc : bitsAt d.ctrl 10 2 = 0
  dstInc : bitsAt d.ctrl 8 2 = 0
  pace : d.pace = 0

theorem Desc.Plain.srcAt (h : d.Plain) (k : Nat) : d.srcAt k = d.src + k := by
  simp [Desc.srcAt, h.gather, h.srcInc]

theorem Desc.Plain.dstAt (h : d.Plain) (k : Nat) : d.dstAt k = d.dst + k := by
  simp [Desc.dstAt, h.scatter, h.dstInc]

/-- A channel that has moved one byte more. -/
def CvChan.moveByte (q : CvChan) : CvChan := { q with moved := q.moved + 1, bytes := (q.bytes + 1) % 2 ^ 32 }

/-- A channel that has moved some bytes more. -/
theorem CvChan.moveByte_iterate (q : CvChan) (n : Nat) : (CvChan.moveByte^[n + 1] q) =
    { q with moved := q.moved + (n + 1), bytes := (q.bytes + (n + 1)) % 2 ^ 32 } := by
  induction n generalizing q with
  | zero => rfl
  | succ n ih =>
    rw [Function.iterate_succ_apply, ih]
    simp only [CvChan.moveByte, CvChan.mk.injEq, true_and, and_true]
    omega

/-- A channel whose next source and destination bytes lie in memory can move one. -/
theorem ModuleState.cvReady_memory (hd : d.Plain) (hdesc : (m.chan c).desc = some d) (hruns : m.cvRuns) (hleft : (m.chan c).moved < d.count)
    (hsrc : cvMemory (d.src + (m.chan c).moved)) (hdst : cvMemory (d.dst + (m.chan c).moved)) : m.cvReady c := by
  have hsilent : m.cvSilent (m.chan c) = none := by
    simp [ModuleState.cvSilent, hdesc, Nat.not_le.mpr hleft, hd.gather, hd.scatter, hd.srcAt, hd.dstAt, cvTrace_of_memory hsrc,
      cvSink_of_memory hdst, ModuleState.cvReads, cvWrites, hsrc, hdst]
  simp [ModuleState.cvReady, hdesc, hruns, hleft, hsilent, hd.pace, hd.srcAt, hd.dstAt, cvTrace_of_memory hsrc, cvSink_of_memory hdst]

/-- One byte moved between memory regions. -/
theorem cvMove_memory (hd : d.Plain) (hund : m.host.damaged = []) (hsrc : cvMemory (d.src + (m.chan c).moved))
    (hdst : cvMemory (d.dst + (m.chan c).moved)) (mem : Memory) : cvMove c d (m, mem) =
      (m.setChan c CvChan.moveByte, mem.write (d.dst + (m.chan c).moved) (mem.read (d.src + (m.chan c).moved))) := by
  simp only [cvMove, hd.srcAt, hd.dstAt, cvTrace_of_memory hsrc, cvSink_of_memory hdst, Bool.or_self, Bool.false_eq_true, if_false,
    ModuleState.mend_of_undamaged hund, ite_self]
  rfl

/-- Up to n bytes between memory regions that do not meet (R405). -/
theorem cvBurst_memory (hd : d.Plain) (n : Nat) (hdesc : (m.chan c).desc = some d) (hruns : m.cvRuns) (hund : m.host.damaged = [])
    (hmem : ∀ k, k < min n (d.count - (m.chan c).moved) →
      cvMemory (d.src + (m.chan c).moved + k) ∧ cvMemory (d.dst + (m.chan c).moved + k))
    (hapart : d.src + (m.chan c).moved + min n (d.count - (m.chan c).moved) ≤ d.dst + (m.chan c).moved ∨
      d.dst + (m.chan c).moved + min n (d.count - (m.chan c).moved) ≤ d.src + (m.chan c).moved) (mem : Memory) :
    cvBurst c d n (m, mem) = (m.setChan c CvChan.moveByte^[min n (d.count - (m.chan c).moved)],
      mem.store (d.dst + (m.chan c).moved) (mem.bytes (d.src + (m.chan c).moved) (min n (d.count - (m.chan c).moved)))) := by
  induction n generalizing m mem with
  | zero => simp [cvBurst, Memory.bytes, Memory.store, ModuleState.setChan_id]
  | succ n ih =>
    by_cases hleft : (m.chan c).moved < d.count
    · have hlt := ModuleState.chan_lt_of_desc hdesc
      obtain ⟨hsrc, hdst⟩ : cvMemory (d.src + (m.chan c).moved) ∧ cvMemory (d.dst + (m.chan c).moved) := hmem 0 (by omega)
      have hchan := ModuleState.setChan_chan hlt CvChan.moveByte
      have hmoved : ((m.setChan c CvChan.moveByte).chan c).moved = (m.chan c).moved + 1 := by rw [hchan]; rfl
      obtain ⟨r, hr⟩ : ∃ r, min (n + 1) (d.count - (m.chan c).moved) = r + 1 := ⟨_, (Nat.sub_add_cancel (by omega)).symm⟩
      have hr' : min n (d.count - ((m.chan c).moved + 1)) = r := by omega
      have hstep : cvBurst c d (n + 1) (m, mem) = cvBurst c d n (cvMove c d (m, mem)) := by
        simp [cvBurst, ModuleState.cvReady_memory hd hdesc hruns hleft hsrc hdst, hund, hd.srcAt, hd.dstAt, cvTrace_of_memory hsrc,
          cvSink_of_memory hdst]
      rw [hstep, cvMove_memory hd hund hsrc hdst, ih (m := m.setChan c CvChan.moveByte) (by rw [hchan]; exact hdesc) hruns hund, hmoved, hr', hr,
        ModuleState.setChan_setChan, Function.iterate_succ]
      · rw [← Nat.add_assoc, ← Nat.add_assoc, Memory.store_bytes_succ _ (by omega)]
      · rw [hmoved, hr']
        intro k hk
        have := hmem (k + 1) (by omega)
        rwa [show d.src + ((m.chan c).moved + 1) + k = d.src + (m.chan c).moved + (k + 1) by omega,
          show d.dst + ((m.chan c).moved + 1) + k = d.dst + (m.chan c).moved + (k + 1) by omega]
      · rw [hmoved, hr']
        omega
    · have hzero : min (n + 1) (d.count - (m.chan c).moved) = 0 := by omega
      have hnot : m.cvReady c = false := by simp [ModuleState.cvReady, hdesc, hleft]
      simp [cvBurst, hnot, hzero, Memory.bytes, Memory.store, ModuleState.setChan_id]

/-! ### The row -/

/-- An unpaced channel is not judged by a queue. -/
theorem ModuleState.cvPause_unpaced (hdesc : (m.chan c).desc = some d) (hd : d.pace = 0) : m.cvPause c = m := by
  simp [ModuleState.cvPause, hdesc, hd]

/-- Judging the paced channels leaves an unpaced one as it was. -/
theorem ModuleState.cvSettle_unpaced (hdesc : (m.chan c).desc = some d) (hd : d.pace = 0) : m.cvSettle.chan c = m.chan c := by
  refine m.each_keeps _ _ (fun n => n.chan c = m.chan c) (fun n k hn => ?_) rfl
  by_cases hk : k = c
  · subst hk
    rw [ModuleState.cvPause_unpaced (hn ▸ hdesc) hd, hn]
  · unfold ModuleState.cvPause
    dsimp only
    split
    · exact hn
    · split
      · exact (ModuleState.setChan_chan_ne (Ne.symm hk) _).trans hn
      · exact hn

/-- A channel whose turn it is can move bytes. -/
theorem ModuleState.cvReady_of_turn (h : m.cvTurn = some c) : m.cvReady c := List.find?_some h

theorem ModuleState.cvRuns_of_ready (h : m.cvReady c) : m.cvRuns := by
  unfold ModuleState.cvReady at h
  dsimp only at h
  split at h <;> simp only [Bool.and_eq_true] at h <;> tauto

theorem ModuleState.left_of_ready (h : m.cvReady c) (hdesc : (m.chan c).desc = some d) : (m.chan c).moved < d.count := by
  simp only [ModuleState.cvReady, hdesc, Bool.and_eq_true, decide_eq_true_eq] at h
  exact h.1.1.1.1.2

/-- The round robin after a burst of a channel (R405). -/
def ModuleState.cvServed (m : ModuleState) (c : Nat) : ModuleState :=
  { m with cv := { m.cv with rr := if c < 14 then (c + 1) % 14 else m.cv.rr } }

theorem ModuleState.cvServed_chan (m : ModuleState) (c k : Nat) : (m.cvServed c).chan k = m.chan k := rfl

/-- A burst of a channel in a descriptor whose turn it is, and which then need not wait (R405). -/
theorem cvBurst_gives {s : State} {t : Nat} {m' : ModuleState} {mem' : Memory} (hc : c < 16) (hturn : (s.then t).cvSettle.cvTurn = some c)
    (hdesc : ((s.then t).cvSettle.chan c).desc = some d) (hburst : cvBurst c d 64 ((s.then t).cvSettle, s.mem) = (m', mem'))
    (hpause : m'.cvPause c = m') : exec (.cvBurst t c) s = .next { s with m := m'.cvServed c, mem := mem' } := by
  refine next_of_both (t := t) (if_pos hc) ?_
  simp only [hturn, hdesc, ne_eq, not_true_eq_false, if_false, hburst, hpause]
  rfl

/-- Settles O32: the burst stores the source bytes at the destination, and moves its channel on by as many. -/
theorem culvertBurstMovesItsBytes : Obligations.CulvertBurstMovesItsBytes := by
  intro s t c d hc hwf m q n src dst hdesc hturn hund hgather hscatter hsrcInc hdstInc hpace hmem hapart
  have hd : d.Plain := ⟨hgather, hscatter, hsrcInc, hdstInc, hpace⟩
  have hchan : m.cvSettle.chan c = q := ModuleState.cvSettle_unpaced hdesc hpace
  have hdesc' : (m.cvSettle.chan c).desc = some d := hchan ▸ hdesc
  have hund' : m.cvSettle.host.damaged = [] := by
    obtain ⟨cv, hcv⟩ := m.cvSettle_cv
    rw [hcv]
    exact hund
  have hready := ModuleState.cvReady_of_turn hturn
  have hleft : q.moved < d.count := hchan ▸ ModuleState.left_of_ready hready hdesc'
  obtain ⟨r, hr⟩ : ∃ r, n = r + 1 := ⟨_, (Nat.sub_add_cancel (by omega)).symm⟩
  have hburst : cvBurst c d 64 (m.cvSettle, s.mem) = (m.cvSettle.setChan c CvChan.moveByte^[n], s.mem.store dst (s.mem.bytes src n)) := by
    rw [cvBurst_memory hd 64 hdesc' (ModuleState.cvRuns_of_ready hready) hund' (by rwa [hchan]) (by rwa [hchan]), hchan]
  have hself : (m.cvSettle.setChan c CvChan.moveByte^[n]).chan c = { q with moved := q.moved + n, bytes := (q.bytes + n) % 2 ^ 32 } := by
    rw [ModuleState.setChan_chan (ModuleState.chan_lt_of_desc hdesc'), hchan, hr]
    exact CvChan.moveByte_iterate q r
  have hpause := ModuleState.cvPause_unpaced (m := m.cvSettle.setChan c CvChan.moveByte^[n]) (by rw [hself]; exact hdesc) hpace
  have hlen : (s.mem.bytes src n).length = n := s.mem.length_bytes src n
  refine ⟨_, _, cvBurst_gives hc hturn hdesc' hburst hpause, ?_, fun a ha => ?_, Memory.store_wf hwf _ _, ?_⟩
  · exact (congrArg (Memory.bytes _ dst) hlen).symm.trans (Memory.bytes_store hwf dst (s.mem.bytes src n))
  · exact Memory.read_store_outside _ _ _ _ (by rwa [hlen])
  · simp only [ModuleState.cvServed_chan]
    exact ⟨congrArg CvChan.moved hself, congrArg CvChan.bytes hself, (congrArg CvChan.desc hself).trans hdesc,
        fun k hk => ModuleState.setChan_chan_ne hk _⟩

end Sys2Proof.Machine
end

section
/-! The canonical form of the memory (R324, R403; log entry 10): every operation that may store to memory keeps it, and so does every row. -/

namespace Sys2Proof.Machine

/-- An operation on the module and the memory leaves the memory in its canonical form. -/
def KeepsForm (f : ModuleState × Memory → ModuleState × Memory) : Prop := ∀ x, x.2.wf → (f x).2.wf

/-- A choice between two outcomes, each with a memory in its canonical form. -/
theorem wf_ite {p : Prop} [Decidable p] {x y : ModuleState × Memory} (hx : p → x.2.wf) (hy : ¬ p → y.2.wf) : (if p then x else y).2.wf := by
  split
  · exact hx ‹_›
  · exact hy ‹_›

/-- A choice between two memories, each in its canonical form. -/
theorem Memory.ite_wf {p : Prop} [Decidable p] {mem mem' : Memory} (h : mem.wf) (h' : mem'.wf) : (if p then mem else mem').wf := by
  split
  · exact h
  · exact h'

/-- What each operation of a list keeps, all of them keep. -/
theorem foldl_keeps {α β : Type} (P : β → Prop) (l : List α) {f : β → α → β} (hf : ∀ x a, P x → P (f x a)) {x : β} (h : P x) :
    P (l.foldl f x) := by
  induction l generalizing x with
  | nil => exact h
  | cons a r ih => exact ih (hf x a h)

/-! ### Ethernet -/

theorem ringReceive_keepsForm (sof : Nat) (f : SwFrame) : KeepsForm (ringReceive sof f) := by
  rintro ⟨m, mem⟩ (h : mem.wf)
  unfold ringReceive
  dsimp only [Memory.ringDesc]
  refine wf_ite (fun _ => h) fun _ => wf_ite (fun _ => h) fun _ => ?_
  dsimp only
  refine Memory.store_wf (Memory.store_wf (Memory.store_wf (Memory.store_wf ?_ _ _) _ _) _ _) _ _
  exact Memory.ite_wf h (Memory.store_wf h _ _)

theorem hostReceive_keepsForm (sof vid : Nat) (f : SwFrame) : KeepsForm (hostReceive sof vid f) := by
  rintro ⟨m, mem⟩ (h : mem.wf)
  exact wf_ite (fun _ => h) fun _ => wf_ite (fun _ => h) fun _ => wf_ite (fun _ => ringReceive_keepsForm _ _ _ h) fun _ => h

theorem forward_keepsForm (vid sof : Nat) (ports : List Nat) (residence : Nat → Nat) (f : SwFrame) :
    KeepsForm (forward vid sof ports residence f) := by
  rintro ⟨m, mem⟩ (h : mem.wf)
  exact wf_ite (fun _ => hostReceive_keepsForm _ _ _ _ h) fun _ => h

theorem switchFrame_keepsForm (ingress sof : Nat) (residence : Option Nat) (b : List Byte) :
    KeepsForm (switchFrame ingress sof residence b) := by
  rintro ⟨m, mem⟩ (h : mem.wf)
  unfold switchFrame
  dsimp only
  refine wf_ite (fun _ => h) fun _ => ?_
  split
  · refine wf_ite (fun _ => wf_ite (fun _ => forward_keepsForm _ _ _ _ _ _ h) fun _ => ?_) fun _ => forward_keepsForm _ _ _ _ _ _ h
    dsimp only
    exact foldl_keeps (fun z : ModuleState × Memory => z.2.wf) _ (fun _ _ hz => forward_keepsForm _ _ _ _ _ _ hz) (forward_keepsForm _ _ _ _ _ _ h)
  · refine wf_ite (fun _ => ?_) fun _ => h
    dsimp only
    exact forward_keepsForm _ _ _ _ _ _ h
  · exact forward_keepsForm _ _ _ _ _ _ h

theorem fetchTx_keepsForm (n : Nat) : KeepsForm (fetchTx n) := by
  induction n with
  | zero => exact fun _ h => h
  | succ n ih =>
    rintro ⟨m, mem⟩ (h : mem.wf)
    unfold fetchTx
    dsimp only [Memory.ringDesc]
    exact wf_ite (fun _ => h) fun _ => wf_ite (fun _ => h) fun _ => wf_ite (fun _ => h) fun _ => ih _ (Memory.store_wf h _ _)

/-! ### The culvert -/

theorem writeBack_wf (m : ModuleState) {mem : Memory} (h : mem.wf) (a : Nat) (d : Desc) (moved result : Nat) (halt tail : Bool) :
    (writeBack m mem a d moved result halt tail).wf := by
  refine Memory.store_wf ?_ _ _
  split
  · exact Memory.store_wf (Memory.store_wf h _ _) _ _
  · exact Memory.store_wf h _ _

theorem cvError_keepsForm (c : Nat) (d : Desc) (moved result : Nat) : KeepsForm (cvError c d moved result) :=
  fun _ h => writeBack_wf _ h _ _ _ _ _ _

theorem cvStart_keepsForm (c : Nat) : KeepsForm (cvStart c) := by
  rintro ⟨m, mem⟩ (h : mem.wf)
  unfold cvStart
  dsimp only
  exact wf_ite (fun _ => h) fun _ => wf_ite (fun _ => h) fun _ => wf_ite (fun _ => cvError_keepsForm _ _ _ _ _ h) fun _ =>
    wf_ite (fun _ => h) fun _ => wf_ite (fun _ => h) fun _ => wf_ite (fun _ => cvError_keepsForm _ _ _ _ _ h) fun _ =>
    wf_ite (fun _ => cvError_keepsForm _ _ _ _ _ h) fun _ => h

theorem cvMove_keepsForm (c : Nat) (d : Desc) : KeepsForm (cvMove c d) := by
  rintro ⟨m, mem⟩ (h : mem.wf)
  unfold cvMove
  dsimp only
  exact wf_ite (fun _ => wf_ite (fun _ => h) fun _ => foldl_keeps Memory.wf _ (fun _ _ h => Memory.write_wf h _ _) h) fun _ => Memory.write_wf h _ _

theorem cvBurst_keepsForm (c : Nat) (d : Desc) (n : Nat) : KeepsForm (cvBurst c d n) := by
  induction n using Nat.strong_induction_on with
  | _ n ih =>
    intro x h
    unfold cvBurst
    split
    · exact h
    · exact wf_ite (fun _ => h) fun _ => wf_ite (fun _ => cvError_keepsForm _ _ _ _ _ h) fun _ =>
        wf_ite (fun _ => wf_ite (fun _ => cvMove_keepsForm _ _ _ h) fun _ => ih _ (by omega) _ (cvMove_keepsForm _ _ _ h)) fun _ =>
        ih _ (by omega) _ (cvMove_keepsForm _ _ _ h)

theorem ownBurst_keepsForm (c : Nat) : KeepsForm (ownBurst c) := by
  rintro ⟨m, mem⟩ (h : mem.wf)
  exact wf_ite (fun _ => h) fun _ => Memory.store_wf h _ _

theorem cvPart_keepsForm (c : Nat) : KeepsForm (cvPart c) := by
  rintro ⟨m, mem⟩ (h : mem.wf)
  unfold cvPart
  dsimp only
  split
  · exact h
  · exact wf_ite (fun _ => h) fun _ => foldl_keeps Memory.wf _ (fun _ _ h => Memory.write_wf h _ _) h

theorem cvHalt_keepsForm (c cause addr : Nat) (wbFail : Option Nat) : KeepsForm (cvHalt c cause addr wbFail) := by
  rintro ⟨m, mem⟩ (h : mem.wf)
  unfold cvHalt
  dsimp only
  refine wf_ite (fun _ => ?_) fun _ => foldl_keeps Memory.wf _ (fun mem k hm => ?_) h
  · split
    · exact Memory.store_wf h _ _
    · exact h
  · split
    · split
      · exact hm
      · exact writeBack_wf _ hm _ _ _ _ _ _
    · exact hm

/-! ### Rows -/

variable {s s' : State} {t : Nat}

/-- A happening leaves the memory as it was. -/
theorem memOk_of_happen {i : Instr} {ok : Bool} {f : ModuleState → ModuleState} (hs : s.memOk) (h : exec i s = .next s')
    (he : exec i s = happen ok t f s) : s'.memOk := by
  obtain ⟨-, ho⟩ | ⟨-, ho⟩ := happen_cases s (he.symm.trans h)
  · exact Host.Outcome.next.inj ho ▸ hs
  · cases ho

/-- A row that answers a next state with the memory as it was. -/
theorem memOk_of_next {x : State} (hs : s.memOk) (h : Host.Outcome.next (φ := Fault) (ρ := Refusal) x = .next s') (hx : x.mem = s.mem) : s'.memOk := by
  rw [← Host.Outcome.next.inj h, State.memOk, hx]
  exact hs

/-- A row that may store to memory, and keeps its form. -/
theorem memOk_of_both {f : ModuleState × Memory → ModuleState × Memory} (hs : s.memOk)
    (h : Host.Outcome.next (φ := Fault) (ρ := Refusal) (s.both t f) = .next s') (hf : KeepsForm f) : s'.memOk :=
  Host.Outcome.next.inj h ▸ hf (s.then t, s.mem) hs

/-- A row of an object that may store to memory, and keeps its form. -/
theorem memOk_of_object {p : Prop} [Decidable p] {f : ModuleState × Memory → ModuleState × Memory} (hs : s.memOk)
    (h : (if p then Host.Outcome.next (s.both t f) else .fault Fault.noSuchObject : Host.Outcome State Fault Refusal) = .next s')
    (hf : KeepsForm f) : s'.memOk := by
  split at h
  · exact memOk_of_both hs h hf
  · cases h

theorem ethFrameReceived_memOk {port sof res : Nat} {good : Bool} {frame : List Byte} (hs : s.memOk)
    (h : exec (.ethFrameReceived t port sof res good frame) s = .next s') : s'.memOk := by
  refine memOk_of_object hs h fun x (hx : x.2.wf) => ?_
  exact wf_ite (fun _ => hx) fun _ => wf_ite (fun _ => hx) fun _ => wf_ite (fun _ => switchFrame_keepsForm _ _ _ _ _ hx) fun _ => hx

theorem ethTxComplete_memOk {sof : Nat} (hs : s.memOk) (h : exec (.ethTxComplete t sof) s = .next s') : s'.memOk := by
  refine memOk_of_both hs h fun x (hx : x.2.wf) => ?_
  dsimp only
  split
  · exact hx
  · next ctrl b hsent =>
    have hback : ∀ y : ModuleState × Memory, y.2.wf →
        (Memory.store (if bit ctrl 6 then y.2.store (x.1.eth.tx.addr + 16) (stampBytes (x.1.time.stamp sof)) else y.2) x.1.eth.tx.addr
          (leBytes 4 (doneCtrl ctrl 0))).wf :=
      fun y hy => Memory.store_wf (Memory.ite_wf (Memory.store_wf hy _ _) hy) _ _
    have hsent : ∀ (p : Prop) [Decidable p] (m n : ModuleState), (if p then switchFrame 2 sof none b (m, x.2) else (n, x.2)).2.wf :=
      fun p _ m n => wf_ite (fun _ => switchFrame_keepsForm _ _ _ _ (m, x.2) hx) fun _ => hx
    refine wf_ite (fun _ => fetchTx_keepsForm 256 _ ?_) fun _ => ?_
    · dsimp only
      exact hback _ (hsent _ _ _)
    · dsimp only
      exact hback _ (hsent _ _ _)

theorem doorbellEthTx_memOk (hs : s.memOk) (h : exec (.doorbellEthTx t) s = .next s') : s'.memOk :=
  memOk_of_both hs h fun _ hx => wf_ite (fun _ => hx) fun _ => wf_ite (fun _ => fetchTx_keepsForm _ _ hx) fun _ => hx

theorem winDataRead_memOk {err : CodeErr} (hs : s.memOk) (h : exec (.winDataRead t err) s = .next s') : s'.memOk :=
  memOk_of_both hs h fun _ hx => wf_ite (fun _ => hx) fun _ => hx

theorem winDataWrite_memOk {w : Word} (hs : s.memOk) (h : exec (.winDataWrite t w) s = .next s') : s'.memOk :=
  memOk_of_both hs h fun _ hx => wf_ite (fun _ => hx) fun _ => Memory.store_wf hx _ _

theorem powerOnReset_memOk {brownout : Bool} {straps : Nat} {damage : List Nat} (hs : s.memOk)
    (h : exec (.powerOnReset t brownout straps damage) s = .next s') : s'.memOk :=
  memOk_of_both hs h fun _ _ => ⟨.nil, by simp⟩

theorem cvDescriptorStart_memOk {c : Nat} (hs : s.memOk) (h : exec (.cvDescriptorStart t c) s = .next s') : s'.memOk :=
  memOk_of_object hs h fun x hx => wf_ite (fun _ => cvStart_keepsForm c x hx) fun _ => hx

theorem cvBurst_memOk {c : Nat} (hs : s.memOk) (h : exec (.cvBurst t c) s = .next s') : s'.memOk := by
  refine memOk_of_object hs h fun x hx => wf_ite (fun _ => hx) fun _ => ?_
  split
  · exact cvBurst_keepsForm c _ 64 _ hx
  · exact ownBurst_keepsForm c _ hx

theorem cvDescriptorComplete_memOk {c : Nat} (hs : s.memOk) (h : exec (.cvDescriptorComplete t c) s = .next s') : s'.memOk := by
  refine memOk_of_object hs h fun x (hx : x.2.wf) => ?_
  dsimp only
  split
  · exact hx
  · exact wf_ite (fun _ => hx) fun _ => wf_ite (fun _ => cvError_keepsForm _ _ _ _ _ hx) fun _ => writeBack_wf _ hx _ _ _ _ _ _

theorem cvAccessTimeout_memOk {c : Nat} {wbFail : Option Nat} (hs : s.memOk) (h : exec (.cvAccessTimeout t c wbFail) s = .next s') : s'.memOk := by
  refine memOk_of_object hs h fun x (hx : x.2.wf) => ?_
  split
  · exact wf_ite (fun _ => cvHalt_keepsForm _ _ _ _ _ (cvPart_keepsForm c x hx)) fun _ =>
      wf_ite (fun _ => cvHalt_keepsForm _ _ _ _ _ hx) fun _ => hx
  · exact hx

theorem cvBusError_memOk {c addr : Nat} {wbFail : Option Nat} (hs : s.memOk) (h : exec (.cvBusError t c addr wbFail) s = .next s') : s'.memOk :=
  memOk_of_object hs h fun x hx => wf_ite (fun _ => cvHalt_keepsForm _ _ _ _ x hx) fun _ => hx

/-- Every row keeps the canonical form: those that may store to memory one by one, every other with the memory as it was. -/
theorem exec_memOk {i : Instr} (hs : s.memOk) (h : exec i s = .next s') : s'.memOk := by
  cases i
  case ethFrameReceived => exact ethFrameReceived_memOk hs h
  case ethTxComplete => exact ethTxComplete_memOk hs h
  case doorbellEthTx => exact doorbellEthTx_memOk hs h
  case winDataRead => exact winDataRead_memOk hs h
  case winDataWrite => exact winDataWrite_memOk hs h
  case powerOnReset => exact powerOnReset_memOk hs h
  case cvDescriptorStart => exact cvDescriptorStart_memOk hs h
  case cvBurst => exact cvBurst_memOk hs h
  case cvDescriptorComplete => exact cvDescriptorComplete_memOk hs h
  case cvAccessTimeout => exact cvAccessTimeout_memOk hs h
  case cvBusError => exact cvBusError_memOk hs h
  case doorbellCv | registerWrite | canTpFrameReceived | canTpNCrTimeout | canTpNBsTimeout | leveeFrameReceived | scrubPass
      | memTransientReport | watchdogExpiry | islandRestartDone | contactDisagreeTimeout | unlockTimeout | unlockPulseEnd | lockTimeout
      | moveTimeout | autoCloseExpiry | warnTimeElapsed | warningPatternToggle | recloseDelayElapsed | stepTimeout | stepRestowWait
      | homeTimeout | stepTimerExpiry | fallbackIncrementLoad | stepTimerRestore | currentLoopUpdate | stallWindowExceeded
      | holdDelayExpiry | solenoidPullEnd | bridgeOvercurrentTrip | bridgeOvertemp | openPhaseDetected | gateSupplyFault
      | gateSupplyRecovered | sluiceCheck | sluiceClosedReadback | angleValidationDone | standbyBridgeTest | encoderEdge | edgeFaultsReport
      | encSupplyOverload | encSupplyRetry | encSignalLoss | encSignalRestored | termPartnerTimeout | termPartnerReturn | observerUpdate
      | speedStillTimeout | sspReading | forceEstimateUpdate | obstTimeElapsed | keExceeded | edgeFaultTimeout | edgeDegradeEnd
      | safetyEvaluation | closeConfirmElapsed | releaseConfirmElapsed | comparisonWordReceived | discrepancyLatch | compareLost
      | compareResumed | positionWordReceived | positionWordStale | ringReadbackFault | ringTestPulseDue | ringTestPulseJudged
      | ringTestOverdue | lsCurrentLimit | lsThermalShutdown | lsCooled | lsRetryReset | pgPeriodEdge | lspwmEdge | lsOpenLoadTimeout
      | lsOffDiagJudged | fieldInputEdge | fiReversedTimeout | sampleDisagreeTimeout | supervisedMeasure | supFaultTimeout
      | barrierFrameReceived | barrierLaneLost | barrierLaneRestored | foOverloadTimeout | foThermalShutdown | foOverloadRetry | foCooled
      | foOpenWireTimeout | foOffDiagJudged | compareTargetArm | compareUnitFire | canFrameReceived | canRateDwellEnd | canTxSuccess
      | canTxErrorFrame | canBusOffRecovered | canModeApply | canBusIntegrated | canTxdTimeout | canBusDominant | canPiPeriod
      | ethLinkChange | cvPaceReady | traceSample | traceSpacingSample | fenceInputAsserted | fenceInputReleased | fenceOutputEnd
      | leveePortChange | leveeDelayMeasure | tamperTrip | freshnessLow | wardenSensorSample | railFaultDetected | canRxError
      | fenceWireFault | transceiverThermal =>
    exact memOk_of_happen hs h rfl
  case arm | disarm | moduleReset | islandRestart | resetStatus | readIslandHealth | echo | notifyRoute | transportStatus | portalOpen
      | portalClose | trainOpen | trainClose | setPlatformClass | portalClear | portalHome | portalStatus | readPortalConfig
      | profileSetLoad | profileSelect | profileCancel | profileStatus | axisMove | axisStop | axisStatus | readAxisConfig
      | axisSetPosition | axisStepPath | driveStatus | readDriveConfig | driveFaultClear | solenoidSet | bridgeTest | feedbackStatus
      | readFeedbackConfig | markSet | markClear | latchArm | latchRead | obstacleStatus | readObstacleConfig | forceMapRead
      | forceMapReset | ringStatus | readRingConfig | ringTest | ringClear | lsSet | lsSetMulti | lsClear | lsStatus | readLsConfig | pgSet
      | pgStatus | fiStatus | foSet | foSetMulti | foClear | foStatus | linkStatus | readFieldConfig | timeStatus | timeSet
      | readTimeConfig | scheduleCancel | canStatus | readCanConfig | canMode | canRxBind | canRxRead | canTx | canTxAbort | ethStatus
      | readEthConfig | ethRingSet | ethTopoSet | cvStart | cvStop | cvStatus | culvertClear | cvTraceSet | recStatus | logRead
      | logReadNext | logReadStop | readRecConfig | snapshotTrigger | clusterStatus | readPairConfig | dutyHandover | clusterForward
      | discordClear | clusterSolo | secStatus | identityRead | sessionOpen | sessionConfirm | sessionClose | attest | keySet
      | lifecycleAdvance | kemRotate | mgmtHealth | bankStatus | imageWrite | imageVerify | configLoad | activate | supplyStatus
      | regenLimitEnter | regenLimitEnd | regenBrake =>
    exact memOk_of_next hs h rfl
  all_goals exact memOk_of_happen (ok := true) hs h rfl

/-- Settles O53: an empty queue idles, and every row keeps the form. -/
theorem everyStepKeepsTheMemoryForm : Obligations.EveryStepKeepsTheMemoryForm := by
  intro s s' hs h
  unfold step at h
  split at h
  · exact Host.Outcome.next.inj h ▸ hs
  · next i rest _ => exact exec_memOk (s := { s with pending := rest }) hs h

end Sys2Proof.Machine
end

section
/-! Restarts that disarm (R571), and the arming and reset commands (R579 to R581): what the stop of an island makes of arming, and what the commands'
own conditions give. -/

namespace Sys2Proof.Machine

variable {m : ModuleState} {i : Nat}

/-! ### Restarts -/

theorem ModuleState.armed_of_base {n : ModuleState} (h : n.base = m.base) : n.reset.armed = m.reset.armed :=
  congrArg ResetState.armed (ModuleState.reset_of_base h)

/-- A module that is disarmed, or was, is disarmed (R580). -/
theorem ModuleState.disarm_armed (m : ModuleState) (cause : Nat) (relinquish : Bool) (holdFor : Option Nat) :
    (m.disarm cause relinquish holdFor).reset.armed = false := by
  unfold ModuleState.disarm
  split
  · next h => simpa using h
  · dsimp only
    generalize hm1 : (m.dropDuty relinquish).setReset _ = m1
    have hoff : m1.reset.armed = false := by rw [← hm1]; rfl
    exact (ModuleState.armed_of_base (by simp)).trans hoff

/-- The stop of an island disarms for four islands (R571). -/
theorem ModuleState.stopDisarms_armed (m : ModuleState) (i : Nat) (cause : RestartCause) :
    (m.stopDisarms i cause).reset.armed = if disarming i then false else m.reset.armed := by
  unfold ModuleState.stopDisarms
  split
  · exact m.disarm_armed _ _ _
  · rfl

/-- What the stop of an island does and loses is not arming (R570, R575). -/
theorem ModuleState.islandStops_armed (m : ModuleState) (i : Nat) : (m.islandStops i).reset.armed = m.reset.armed := by
  unfold ModuleState.islandStops
  split
  · rfl
  · exact ModuleState.armed_of_base (m.motionStops_base _)
  · exact ModuleState.armed_of_base (m.motionStops_base _)
  · exact ModuleState.armed_of_base (m.safetyStops_base _)
  · exact ModuleState.armed_of_base (m.safetyStops_base _)
  · rfl
  · exact ModuleState.armed_of_base m.networkStops_base
  · exact ModuleState.armed_of_base m.recorderStops_base
  · exact ModuleState.armed_of_base (m.closeSessions_base _ _)
  · rfl

theorem ModuleState.halted_armed (m : ModuleState) (i : Nat) (cause : RestartCause) :
    (m.halted i cause).reset.armed = if disarming i then false else m.reset.armed := by
  rw [ModuleState.halted, ModuleState.islandStops_armed, ModuleState.stopDisarms_armed, ModuleState.silence_reset]

theorem ModuleState.keepStopped_armed (m : ModuleState) (i : Nat) (cause : RestartCause) :
    (m.keepStopped i cause).reset.armed = if disarming i then false else m.reset.armed := by
  refine (ModuleState.islandStops_armed _ i).trans ?_
  exact (ModuleState.stopDisarms_armed _ i cause).trans (by rw [ModuleState.silence_reset])

/-- A restart disarms for the four islands of R571 alone. -/
theorem ModuleState.restartIsland_armed {cause : RestartCause} (h : (m.island i).state = .running) :
    (m.restartIsland i cause).reset.armed = if disarming i then false else m.reset.armed := by
  simp only [ModuleState.restartIsland, h, bne_self_eq_false, Bool.false_eq_true, if_false]
  generalize m.restarts1h i ++ _ = recent
  split
  · exact ModuleState.keepStopped_armed _ i cause
  · exact ModuleState.halted_armed _ i cause

theorem disarming_iff : disarming i = true ↔ i = isM1 ∨ i = isM2 ∨ i = isForeland ∨ i = isPolder := by
  simp [disarming]
  tauto

/-- Settles O57: a restart stops its island, and a stop disarms for four islands. -/
theorem restartDisarmsForFourIslands : Obligations.RestartDisarmsForFourIslands := by
  refine ⟨fun m i cause h => ?_, fun s t i hi hr => runs_of_happen (congrArg (happen · t _ s) (decide_eq_true hi)) ?_⟩
  · rw [ModuleState.restartIsland_armed h]
    simp only [disarming_iff]
  · simp only [hr, if_true]
    rw [ModuleState.restartIsland_armed (ModuleState.state_of_runs hr)]
    simp only [disarming_iff]
    rfl

end Sys2Proof.Machine
end

section
/-! The arming and reset commands (R579 to R581), and the table of commands (R622). -/

namespace Sys2Proof.Machine

variable {s : State} {p : Packet} {c : Cmd} {m : ModuleState} {n : Nat}

/-! ### Arming -/

/-- What arming makes of the reset state (R579). -/
theorem ModuleState.arm_reset (m : ModuleState) (cause holdMs : Nat) : (m.arm cause holdMs).reset =
    if m.reset.armed then { m.reset with holdMs } else { m.reset with holdMs, armed := true, armedAt := m.now, autoRearm := false } := by
  unfold ModuleState.arm
  dsimp only
  split
  · rfl
  · generalize hm1 : ModuleState.log _ _ _ _ = m1
    have hreset : m1.reset = { m.reset with holdMs, armed := true, armedAt := m.now, autoRearm := false } := by rw [← hm1]; rfl
    refine (ModuleState.reset_of_base ?_).trans hreset
    rw [ModuleState.setPair_base, ModuleState.each_base]
    · simp
    · exact fun _ _ => rfl

theorem armBody_arms (hhold : getN c.data 0 2 ≤ 2000) (hfails : m.armFails = none) : armBody c m =
    { acts := [.m1ax, .m2ax], m := m.arm 0 (getN c.data 0 2) } := by
  simp only [armBody, Nat.not_lt.mpr hhold, if_false, hfails]

/-! ### Demands -/

/-- What every change of a channel keeps stands of any one channel after a change of another or of itself. -/
theorem ModuleState.setLoad_keeps {P : Load → Prop} {f : Load → Load} (hf : ∀ x, P x → P (f x)) (k : Nat) (h : P (m.load n)) :
    P ((m.setLoad k f).load n) := by
  rcases eq_or_ne (k - 1) (n - 1) with heq | hne
  · have hload : (m.setLoad k f).load n = (m.setLoad n f).load n := by rw [ModuleState.setLoad, heq, ModuleState.setLoad]
    rw [hload]
    by_cases hlt : n - 1 < m.loads.length
    · rw [ModuleState.setLoad_load f hlt]
      exact hf _ h
    · rwa [ModuleState.setLoad, upd, List.modify_eq_self (Nat.le_of_not_lt hlt)]
  · rwa [ModuleState.load, ModuleState.setLoad, upd_getD_ne _ _ _ _ _ hne]

theorem ModuleState.setLoad_demandOff_of {f : Load → Load} (k : Nat) (h : (m.load n).demand = false)
    (hf : ∀ x, (f x).demand = x.demand := by intros; rfl) : ((m.setLoad k f).load n).demand = false :=
  ModuleState.setLoad_keeps (P := fun x => x.demand = false) (fun x hx => (hf x).trans hx) k h

/-- A turn-off accounted changes no demand (R251). -/
theorem ModuleState.spillway_demandOff (k : Nat) (h : (m.load n).demand = false) : ((m.spillway k).load n).demand = false := by
  unfold ModuleState.spillway
  split
  · exact h
  · exact ModuleState.setLoad_demandOff_of (m := { m with free := m.free + 1 }) (n := n) k h

theorem ModuleState.lsOff_demandOff (k : Nat) (h : (m.load n).demand = false) : ((m.lsOff k).load n).demand = false := by
  unfold ModuleState.lsOff
  dsimp only
  split
  · exact ModuleState.spillway_demandOff k (ModuleState.setLoad_demandOff_of k h)
  · exact ModuleState.setLoad_demandOff_of k h

/-- A channel's demand that is off stays off when another, or its own, is taken off (R246). -/
theorem ModuleState.lsDemand_keepsOff (m : ModuleState) (k : Nat) (h : (m.load n).demand = false) :
    ((m.lsDemand k false).load n).demand = false := by
  refine ModuleState.lsOff_demandOff k ?_
  refine ModuleState.setLoad_demandOff_of k ?_
  exact ModuleState.setLoad_keeps (P := fun x => x.demand = false) (fun _ _ => rfl) k h

theorem ModuleState.setLoad_demandOff (m : ModuleState) (n : Nat) :
    ((m.setLoad n fun x => { x with demand := false }).load n).demand = false := by
  by_cases hlt : n - 1 < m.loads.length
  · rw [ModuleState.setLoad_load _ hlt]
  · rw [ModuleState.load, List.getD_eq_default _ _ (by simpa [ModuleState.setLoad] using hlt)]

theorem ModuleState.lsDemand_off (m : ModuleState) (n : Nat) : ((m.lsDemand n false).load n).demand = false :=
  ModuleState.lsOff_demandOff n (ModuleState.setLoad_demandOff_of n (m.setLoad_demandOff n))

theorem ModuleState.foDemand_keepsOff (m : ModuleState) (k : Nat) (h : (m.fout n).demand = false) :
    ((m.foDemand k false).fout n).demand = false := by
  rcases eq_or_ne (k - 1) (n - 1) with heq | hne
  · by_cases hlt : n - 1 < m.field.outputs.length
    · rw [ModuleState.fout, ModuleState.foDemand, ModuleState.setFout, ← heq, upd_getD_self _ _ _ _ (heq ▸ hlt)]
    · rwa [ModuleState.fout, ModuleState.foDemand, ModuleState.setFout, upd, List.modify_eq_self (by omega)]
  · rwa [ModuleState.fout, ModuleState.foDemand, ModuleState.setFout, upd_getD_ne _ _ _ _ _ hne]

theorem ModuleState.foDemand_off (m : ModuleState) (n : Nat) : ((m.foDemand n false).fout n).demand = false := by
  by_cases hlt : n - 1 < m.field.outputs.length
  · rw [ModuleState.foDemand, ModuleState.setFout_fout _ hlt]
  · rw [ModuleState.fout, List.getD_eq_default _ _ (by simpa [ModuleState.foDemand, ModuleState.setFout] using hlt)]

/-- Field outputs have no part in load channels. -/
theorem ModuleState.each_foDemand_load (l : List Nat) (m : ModuleState) :
    (m.each l fun m k => if (none : Option Nat) == some isForeland && (m.fout k).cut then m else m.foDemand k false).loads = m.loads :=
  m.each_frame _ _ ModuleState.loads fun _ _ => rfl

/-- An armed module that is disarmed with no hold window has every demand off (R580). -/
theorem ModuleState.disarm_demandsOff (cause : Nat) (relinquish : Bool) (harmed : m.reset.armed) (hn : n ∈ nums16) :
    ((m.disarm cause relinquish none).load n).demand = false ∧ ((m.disarm cause relinquish none).fout n).demand = false := by
  rw [ModuleState.disarm, if_neg (by simp [harmed])]
  dsimp only
  generalize ModuleState.each _ axisNums _ = m2
  simp only [Option.isSome_none, Bool.false_and, List.filter_false, List.contains_nil, Bool.false_eq_true, if_false]
  generalize hm3 : (m2.each nums16 fun m n => m.lsDemand n false) = m3
  have hload : (m3.load n).demand = false := hm3 ▸ ModuleState.each_reaches (P := fun m => (m.load n).demand = false) hn
    (fun m => m.lsDemand_off n) (fun m k => m.lsDemand_keepsOff k) m2
  have hloads := m3.each_foDemand_load nums16
  have hfout := ModuleState.each_reaches (P := fun m => (m.fout n).demand = false) hn
    (f := fun m k => if (none : Option Nat) == some isForeland && (m.fout k).cut then m else m.foDemand k false)
    (fun m => m.foDemand_off n) (fun m k => m.foDemand_keepsOff k) m3
  revert hloads hfout
  generalize ModuleState.each m3 nums16 _ = m4
  intro hloads hfout
  simp only [ModuleState.load, ModuleState.fout, ModuleState.log_frame] at hload hfout ⊢
  exact ⟨hloads ▸ hload, hfout⟩

/-! ### Resets and restarts that are ordered -/

theorem moduleResetBody_orders (h : m.warden.activation = none) : moduleResetBody c m =
    { acts := [.wd], m := m.leave.setReset fun r => { r with resetPending := true } } := by
  simp [moduleResetBody, h]

theorem islandRestartBody_orders (hstate : (m.island (getN c.data 0 1)).state ≠ .stopped) (h : m.warden.activation = none) :
    islandRestartBody c m = { acts := [.wd], m := m.setReset fun r => { r with restartOrders := r.restartOrders ++ [getN c.data 0 1] } } := by
  simp [islandRestartBody, h, hstate]

theorem mem_nums16 {n : Nat} (h1 : 1 ≤ n) (h2 : n ≤ 16) : n ∈ nums16 := by simp [nums16]; omega

/-- Settles O15: each command's own result, and with it its row's effect. -/
theorem armingCommandsDo : Obligations.ArmingCommandsDo := by
  intro s p
  refine ⟨fun hhold hfails => ?_, ?_, ?_, ?_⟩
  · refine ⟨_, does_of_ok rfl (armBody_arms (c := cmdOf armSpec p s) hhold hfails) rfl, ModuleState.arm_armed _ _ _, ?_, fun hoff => ?_⟩
    · rw [ModuleState.arm_reset]
      split <;> rfl
    · rw [ModuleState.arm_reset, if_neg (by simp [hoff])]
  · exact ⟨_, does_of_ok rfl rfl rfl, ModuleState.disarm_armed _ _ _ _, rfl,
      fun harmed n h1 h2 => ModuleState.disarm_demandsOff 0 true harmed (mem_nums16 h1 h2)⟩
  · exact fun h => does_of_ok rfl (moduleResetBody_orders (c := cmdOf moduleResetSpec p s) h) rfl
  · exact fun hstate h => does_of_ok rfl (islandRestartBody_orders (c := cmdOf islandRestartSpec p s) hstate h) rfl

/-! ### The table of commands -/

/-- The table has the opcodes of R622 Table 2, in the order of its groups. -/
theorem mem_commandTable_opcodes (op : Nat) : op ∈ commandTable.map (·.opcode) ↔ op ∈ tableTwo :=
  (show commandTable.map (·.opcode) ⊆ tableTwo ∧ tableTwo ⊆ commandTable.map (·.opcode) by decide +kernel).elim fun h k => ⟨@h op, @k op⟩

/-- A command is found under an opcode exactly when the table lists it (R307 step 5). -/
theorem command_isSome {op : Nat} : (command op).isSome ↔ op ∈ tableTwo := by
  rw [← mem_commandTable_opcodes]
  simp [command]

/-- Settles O56: the table finds a command under its own opcode, and a packet without one stops at step 5. -/
theorem unknownOpcodeFails : Obligations.UnknownOpcodeFails := by
  refine ⟨fun op hop => ?_, fun p m hop hversion hlong hshort => ?_⟩
  · obtain ⟨c, hc⟩ := Option.isSome_iff_exists.mp (command_isSome.mpr hop)
    exact ⟨c, hc, by simpa using List.find?_some hc⟩
  · have hnone : command p.opcode = none := Option.not_isSome_iff_eq_none.mp (mt command_isSome.mp hop)
    refine ⟨hnone, ?_⟩
    simp [process, hnone, hversion, Nat.not_lt.mpr hlong, Nat.not_lt.mpr hshort, stOpcodeUnknown]

end Sys2Proof.Machine
end

section
/-! Module time (R341 to R358): what the operations of the time unit make of it, then the rows and commands that use them. -/

namespace Sys2Proof.Machine

variable {s : State} {t : Nat} {m : ModuleState}

/-! ### An interpreter with nothing to take -/

/-- Nothing launched and nothing waiting (R22). -/
def ModuleState.NothingWaits (m : ModuleState) : Prop := m.interp.launched = [] ∧ m.interp.waiting = []

theorem ModuleState.NothingWaits.pump (h : m.NothingWaits) : m.pump = m := ModuleState.pump_of_idle h.1 h.2

theorem ModuleState.NothingWaits.of_work {n : ModuleState} (h : m.NothingWaits) (hw : n.interp.work = m.interp.work) : n.NothingWaits :=
  ⟨(congrArg Interp.launched hw).trans h.1, (congrArg Interp.waiting hw).trans h.2⟩

theorem ModuleState.logIf_work (m : ModuleState) (b : Bool) (code source : Nat) (items : List Int) :
    (m.logIf b code source items).interp.work = m.interp.work := by
  cases b
  · rfl
  · exact m.log_work code source items

/-! ### The time unit -/

@[simp] theorem ModuleState.setQuality_time (m : ModuleState) (q : Quality) : (m.setQuality q).time =
    { m.time with
      quality := q, ppsOut := m.time.ppsOut && m.ppsDriven q
      trims := if m.time.quality = q then m.time.trims else []
      goodRun := if m.time.quality = .locked ∧ q ≠ .locked then 0 else m.time.goodRun
      holdoverAt := if q = .holdover then m.time.holdoverAt.or (some m.now) else none } := by
  simp [ModuleState.setQuality]

@[simp] theorem ModuleState.setQuality_now (m : ModuleState) (q : Quality) : (m.setQuality q).now = m.now := by simp [ModuleState.setQuality]

theorem ModuleState.NothingWaits.setQuality (h : m.NothingWaits) (q : Quality) : (m.setQuality q).NothingWaits :=
  ModuleState.NothingWaits.of_work (m := m) h (ModuleState.logIf_work _ _ _ _ _)

/-- The clock that a measurement within 1 s leaves (R346): its offset is kept, to be slewed out. -/
def ModuleState.slewed (m : ModuleState) (source : Nat) (offset : Int) : TimeUnit :=
  let v := m.time.rebase m.now
  let rate : Int := 1 + Config.servo 0 [offset] % 17179869
  { v with
    trims := m.time.spans m.now, offset, residue := offset * 4294967296, slew := if 0 < offset then -rate else rate
    trim := if source = 3 then v.trim else clampTrim (Config.servo 1 [offset, v.trim]) }

theorem ModuleState.applyOffset_slews {source : Nat} {offset : Int} (h : offset.natAbs ≤ 1000000000) :
    m.applyOffset source offset = { m with time := m.slewed source offset } := by
  rw [ModuleState.applyOffset, if_neg (Nat.not_lt.mpr h)]
  rfl

/-- What a measurement within 1 s leaves of the source, the quality and the step count (R346). -/
@[simp] theorem ModuleState.slewed_frame (source : Nat) (offset : Int) :
    (m.slewed source offset).offset = offset ∧ (m.slewed source offset).steps = m.time.steps ∧
    (m.slewed source offset).quality = m.time.quality ∧ (m.slewed source offset).goodRun = m.time.goodRun ∧
    (m.slewed source offset).ptpAt = m.time.ptpAt ∧ (m.slewed source offset).ppsAt = m.time.ppsAt ∧
    (m.slewed source offset).pathDelay = m.time.pathDelay ∧ (m.slewed source offset).timeSet = m.time.timeSet :=
  ⟨rfl, rfl, rfl, rfl, rfl, rfl, rfl, rfl⟩

/-! ### TIME_SET and SCHEDULE_CANCEL -/

/-- TIME_SET within 1 s of module time, with a source it may be applied under (R357). -/
theorem timeSetBody_sets {c : Cmd} {offset : Int}
    (hoffset : (m.count : Int) - (stampNs (getN c.data 0 6, getN c.data 6 4) + (m.now - c.p.time) : Nat) = offset)
    (hns : getN c.data 6 4 < 1000000000) (hsource : m.timeSource = 3 ∨ m.timeSource = 2 ∨ m.time.quality = .free)
    (hnear : offset.natAbs ≤ 1000000000) : ∃ m', timeSetBody c m = { acts := [.net], m := m' } ∧ m'.now = m.now ∧
      (m.NothingWaits → m'.NothingWaits) ∧ m'.time.offset = offset ∧ m'.time.timeSet = true ∧ m'.time.steps = m.time.steps := by
  have hallowed : ¬ (m.timeSource ≠ 3 ∧ m.timeSource ≠ 2 ∧ m.time.quality ≠ .free) := by tauto
  simp only [timeSetBody, Nat.not_le.mpr hns, if_false, hallowed, hoffset, ModuleState.applyOffset_slews hnear, ModuleState.setTime]
  obtain ⟨hkept, hsteps, -⟩ := m.slewed_frame m.timeSource offset
  generalize m.slewed m.timeSource offset = u at hkept hsteps ⊢
  generalize (match m.time.quality with | .locked => _ | .holdover => _ | q => q : Quality) = q
  refine ⟨_, rfl, ModuleState.setQuality_now _ _, fun h => ?_, ?_, ?_, ?_⟩
  · exact ModuleState.NothingWaits.of_work h (ModuleState.logIf_work _ _ _ _ _)
  · rw [ModuleState.setQuality_time]; exact hkept
  · rw [ModuleState.setQuality_time]
  · rw [ModuleState.setQuality_time]; exact hsteps

theorem scheduleCancelBody_cancels {c : Cmd} {x : Sched} (hx : x ∈ m.interp.scheduled)
    (hit : x.packet.seq == getN c.data 0 4 && x.packet.transport.index == getN c.data 4 1) : scheduleCancelBody c m =
      { m := { m with interp := { m.interp with scheduled := m.interp.scheduled.eraseIdx (m.interp.scheduled.findIdx fun x =>
          x.packet.seq == getN c.data 0 4 && x.packet.transport.index == getN c.data 4 1) } } } := by
  rw [scheduleCancelBody, if_pos (List.any_eq_true.mpr ⟨x, hx, hit⟩)]

/-- The instant of a packet is not after the instant its command is carried out at. -/
theorem taken_now (spec : CmdSpec) (p : Packet) (s : State) : (taken spec p s).now = max s.m.now p.time := by
  unfold taken arrived
  split <;> split <;> simp [ModuleState.drained, apply_ite ModuleState.now] <;> rfl

theorem taken_launched (spec : CmdSpec) (p : Packet) (s : State) : (taken spec p s).interp.launched = s.m.interp.launched := by
  unfold taken arrived
  split <;> split <;> simp [ModuleState.drained, apply_ite ModuleState.interp] <;> rfl

/-- An actionful command leaves what the interpreter has to take as its own result does (R21). -/
theorem dispatched_nothingWaits {spec : CmdSpec} {p : Packet} {x : Result} (hx : x.acts ≠ []) (h : x.m.NothingWaits) :
    (dispatched spec p m x).NothingWaits ∧ (dispatched spec p m x).now = x.m.now := by
  rw [dispatched, if_neg (by simp [hx])]
  exact ⟨h, rfl⟩

/-- The effect of a command that may launch held packets and launches none (R351). -/
theorem does_of_launching {spec : CmdSpec} {i : Instr} {p : Packet} {s : State} {x : Result}
    (he : exec i s = .next ((submit spec p s).at p.time ModuleState.pump)) (hx : spec.body (cmdOf spec p s) (taken spec p s) = x) (hok : x.status = 0)
    (hacts : x.acts ≠ []) (hnow : x.m.now = (taken spec p s).now) (hnone : s.m.interp.launched = [] → x.m.NothingWaits) : Does spec i p s x := by
  intro ha hc
  obtain ⟨⟨-, -, hlaunched, -⟩, -⟩ := id ha
  obtain ⟨hd, hdnow⟩ := dispatched_nothingWaits (spec := spec) (p := p) (m := taken spec p s) hacts (hnone (List.isEmpty_iff.mp hlaunched))
  rw [Gives, he, submit_of_accepted ha, runCmd_clear hx (fun h => absurd (hok ▸ h) (by decide)) hc, State.at]
  have hsame : max (dispatched spec p (taken spec p s) x).now p.time = (dispatched spec p (taken spec p s) x).now := by
    rw [hdnow, hnow, taken_now]
    omega
  simp only [hsame]
  exact congrArg (fun m => Host.Outcome.next { s with m }) hd.pump

/-- Settles O26: the result of each command, with nothing for TIME_SET to launch. -/
theorem timeCommandsDo : Obligations.TimeCommandsDo := by
  intro s p
  refine ⟨fun hns hsource hnear hwaits => ?_, fun x hx hit => does_of_ok rfl (scheduleCancelBody_cancels (c := cmdOf scheduleCancelSpec p s) hx hit) rfl⟩
  obtain ⟨m', hbody, hnow, hnone, htime⟩ := timeSetBody_sets (c := cmdOf timeSetSpec p s) rfl hns hsource hnear
  refine ⟨m', ?_, htime⟩
  exact does_of_launching rfl hbody rfl (List.cons_ne_nil _ _) hnow fun h => hnone ⟨(taken_launched _ _ _).trans h, hwaits⟩

/-! ### Masters -/

/-- The masters heard of a module are those whose last Announce is recent enough (R344). -/
def ModuleState.mastersHeard (m : ModuleState) : List Foreign := m.time.masters.filter fun f => f.heard m.now

theorem ModuleState.chooseMaster_none (h : bestMaster (m.mastersHeard.filter (·.qualified)) = none) : m.chooseMaster =
    m.setTime fun u => { u with masters := m.mastersHeard, gmData := none } := by
  simp only [ModuleState.mastersHeard] at h
  simp only [ModuleState.chooseMaster, ModuleState.setTime, h]
  rfl

theorem ModuleState.chooseMaster_some {f : Foreign} (h : bestMaster (m.mastersHeard.filter (·.qualified)) = some f) : m.chooseMaster =
    (m.setTime fun u => { u with masters := m.mastersHeard, gm := f.data.getD 5 0, gmData := some f.data, utc := f.utc }).logIf
      (m.time.gm != f.data.getD 5 0) evPtpMasterChanged tgModule [(m.time.gm : Int), (f.data.getD 5 0 : Int)] := by
  simp only [ModuleState.mastersHeard] at h
  simp only [ModuleState.chooseMaster, ModuleState.setTime, h]
  rfl

/-- An Announce in the configured domain and transport (R344). -/
theorem ModuleState.announce_notes {utc : Nat} {data : List Nat} (heth : m.ethRuns) (hptp : m.sources.contains 1) :
    m.ptpMessage (.announce (m.cfg (timeCfg + 4) 1) (m.cfg (timeCfg + 5) 1) utc data) =
      (m.setTime fun u => { u with masters := noteMaster u.masters m.now data utc }).chooseMaster := by
  rw [ModuleState.ptpMessage, if_neg (by simp only [heth, hptp]; simp)]

/-- A master whose last Announce is now is heard. -/
theorem Foreign.heard_now (f : Foreign) (h : f.last = m.now) : f.heard m.now = true := by simp [Foreign.heard, seconds, h]

theorem ptpMessage_firstAnnounce {utc : Nat} {data : List Nat} (hwaits : (s.then t).NothingWaits) (heth : (s.then t).ethRuns)
    (hptp : (s.then t).sources.contains 1) (hnone : (s.then t).time.masters = []) :
    Runs (.ptpMessageReceived t (.announce ((s.then t).cfg (timeCfg + 4) 1) ((s.then t).cfg (timeCfg + 5) 1) utc data)) s fun m' =>
      m'.time.masters = [{ data, utc, last := (s.then t).now, prev := none }] ∧ m'.time.gmData = none ∧ m'.time.gm = (s.then t).time.gm := by
  refine runs_of_happen rfl ?_
  rw [ModuleState.announce_notes heth hptp]
  have hheard : ((s.then t).setTime fun u => { u with masters := noteMaster u.masters (s.then t).now data utc }).mastersHeard =
      [{ data, utc, last := (s.then t).now, prev := none }] := by
    simp [ModuleState.mastersHeard, hnone, noteMaster, Foreign.heard_now (m := s.then t)]
  rw [ModuleState.chooseMaster_none (by rw [hheard]; rfl), hheard, ModuleState.NothingWaits.pump (by exact hwaits)]
  exact ⟨rfl, rfl, rfl⟩

/-- The second Announce of the only master heard makes it the grandmaster (R344; log entry 160). -/
theorem ptpMessage_secondAnnounce {utc : Nat} {data : List Nat} {f : Foreign} (hwaits : (s.then t).NothingWaits) (heth : (s.then t).ethRuns)
    (hptp : (s.then t).sources.contains 1) (hone : (s.then t).time.masters = [f]) (hsame : f.data.getD 5 0 = data.getD 5 0)
    (hsoon : (s.then t).now ≤ f.last + seconds 8) :
    Runs (.ptpMessageReceived t (.announce ((s.then t).cfg (timeCfg + 4) 1) ((s.then t).cfg (timeCfg + 5) 1) utc data)) s fun m' =>
      m'.time.gm = data.getD 5 0 ∧ m'.time.gmData = some data ∧ m'.time.utc = utc := by
  refine runs_of_happen rfl ?_
  rw [ModuleState.announce_notes heth hptp]
  have hnoted : noteMaster (s.then t).time.masters (s.then t).now data utc = [{ data, utc, last := (s.then t).now, prev := some f.last }] := by
    have hkey : (f.data.getD 5 0 == data.getD 5 0) = true := beq_iff_eq.mpr hsame
    simp only [noteMaster, hone, List.find?_cons, List.filter_cons, List.filter_nil, hkey, Bool.not_true, Bool.and_false, Bool.false_eq_true,
      if_false, Option.map_some, List.nil_append]
  have hheard : ((s.then t).setTime fun u => { u with masters := noteMaster u.masters (s.then t).now data utc }).mastersHeard =
      [{ data, utc, last := (s.then t).now, prev := some f.last }] := by
    simp [ModuleState.mastersHeard, hnoted, Foreign.heard_now (m := s.then t)]
  have hbest : bestMaster ([{ data, utc, last := (s.then t).now, prev := some f.last }].filter (·.qualified)) =
      some { data, utc, last := (s.then t).now, prev := some f.last } := by
    simp [Foreign.qualified, hsoon, bestMaster]
  rw [ModuleState.chooseMaster_some (hheard ▸ hbest), ModuleState.NothingWaits.pump]
  · simp
  · exact hwaits.of_work (ModuleState.logIf_work _ _ _ _ _)

/-! ### Measurements -/

/-- A measurement within 1 s of the source that module time follows (R342, R346). -/
theorem ModuleState.measure_time {source : Nat} {offset : Int} (h : offset.natAbs ≤ 1000000000) :
    (m.measure source offset).time.offset = offset ∧ (m.measure source offset).time.ptpAt = m.time.ptpAt ∧
    (m.measure source offset).time.ppsAt = m.time.ppsAt ∧ (m.measure source offset).time.pathDelay = m.time.pathDelay ∧
    (m.time.quality = .syncing → m.time.goodRun = 15 → offset.natAbs ≤ 500 → (m.measure source offset).time.quality = .locked) := by
  simp only [ModuleState.measure, ModuleState.applyOffset_slews h, ModuleState.setQuality_time, ModuleState.setTime_time, ModuleState.slewed_frame]
  refine ⟨trivial, trivial, trivial, trivial, fun hq hrun hsmall => ?_⟩
  simp [hq, hrun, hsmall]

theorem ModuleState.NothingWaits.measure {source : Nat} {offset : Int} (hwaits : m.NothingWaits) (h : offset.natAbs ≤ 1000000000) :
    (m.measure source offset).NothingWaits := by
  simp only [ModuleState.measure, ModuleState.applyOffset_slews h]
  exact hwaits.of_work (ModuleState.logIf_work _ _ _ _ _)

/-- What a Delay_Req touches (R344): the count of its messages and the Ethernet transport. -/
theorem ModuleState.sendDelayReq_only (m : ModuleState) : ∃ e, m.sendDelayReq =
    { m with time := { m.time with delaySeq := (m.time.delaySeq + 1) % 65536 }, eth := e } := by
  unfold ModuleState.sendDelayReq
  dsimp only
  split <;> exact ⟨_, rfl⟩

/-- The source of highest priority, when it is usable, is the one module time follows (R341). -/
theorem ModuleState.timeSource_first (code : Nat) (hfirst : m.cfg timeCfg 1 = code) (halone : m.isStandby = false) (h : m.time.usable code = true) :
    m.timeSource = code := by
  simp [ModuleState.timeSource, halone, ModuleState.sources, hfirst, h]

theorem ModuleState.sources_first (code : Nat) (hfirst : m.cfg timeCfg 1 = code) : m.sources.contains code := by
  simp [ModuleState.sources, hfirst]

/-- A measurement of the chosen master in the configured domain and transport (R344). -/
theorem ModuleState.measurement_measures {arrived source delay : Nat} {d : List Nat} (heth : m.ethRuns) (hfirst : m.cfg timeCfg 1 = 1)
    (halone : m.isStandby = false) (hgm : m.time.gmData = some d) :
    ∃ n : ModuleState, m.ptpMessage (.measurement (m.cfg (timeCfg + 4) 1) (m.cfg (timeCfg + 5) 1) m.time.gm arrived source delay) =
      n.measure 1 ((m.time.count arrived : Int) - source) ∧ n.interp = m.interp ∧ n.time.ptpAt = some m.now ∧ n.time.pathDelay = delay ∧
      n.time.quality = m.time.quality ∧ n.time.goodRun = m.time.goodRun := by
  obtain ⟨e, he⟩ := m.sendDelayReq_only
  have hptp := ModuleState.sources_first 1 hfirst
  rw [ModuleState.ptpMessage, if_neg (by simp only [heth, hptp, hgm]; simp), he]
  dsimp only
  split
  · exact ⟨_, rfl, rfl, rfl, rfl, rfl, rfl⟩
  · next hother => exact (hother (ModuleState.timeSource_first 1 hfirst halone rfl)).elim

theorem ptpMessage_measures {arrived source delay : Nat} {d : List Nat} (hwaits : (s.then t).NothingWaits) (heth : (s.then t).ethRuns)
    (hfirst : (s.then t).cfg timeCfg 1 = 1) (halone : (s.then t).isStandby = false) (hgm : (s.then t).time.gmData = some d)
    (hnear : (((s.then t).time.count arrived : Int) - source).natAbs ≤ 1000000000) :
    Runs (.ptpMessageReceived t (.measurement ((s.then t).cfg (timeCfg + 4) 1) ((s.then t).cfg (timeCfg + 5) 1) (s.then t).time.gm arrived source delay)) s
      fun m' => m'.time.ptpAt = some (s.then t).now ∧ m'.time.pathDelay = delay ∧ m'.time.offset = ((s.then t).time.count arrived : Int) - source ∧
        ((s.then t).time.quality = .syncing → (s.then t).time.goodRun = 15 → (((s.then t).time.count arrived : Int) - source).natAbs ≤ 500 →
          m'.time.quality = .locked) := by
  refine runs_of_happen rfl ?_
  obtain ⟨n, hn, hinterp, hptp, hdelay, hquality, hrun⟩ :=
    ModuleState.measurement_measures (arrived := arrived) (source := source) (delay := delay) heth hfirst halone hgm
  obtain ⟨hoffset, hptpAt, -, hpath, hlocks⟩ := ModuleState.measure_time (m := n) (source := 1) hnear
  have hnone : n.NothingWaits := by rwa [ModuleState.NothingWaits, hinterp]
  rw [hn, (hnone.measure hnear).pump]
  exact ⟨hptpAt.trans hptp, hpath.trans hdelay, hoffset, fun hq hg => hlocks (hquality.trans hq) (hrun.trans hg)⟩

/-- A PPS_IN edge of the configured polarity near a whole second (R341, R349). -/
theorem ppsInEdge_measures {edge : Nat} (hwaits : (s.then t).NothingWaits) (hnet : (s.then t).runs isNetwork) (hpps : (s.then t).sources.contains 2)
    (hset : (s.then t).time.timeSet)
    (hnear : (((s.then t).time.count edge : Int) - (s.then t).cfgInt (timeCfg + 14) 2) % 1000000000 ≤ 100000) :
    Runs (.ppsInEdge t edge (bit (s.then t).timeFlags 0)) s fun m' => m'.time.ppsAt = some (s.then t).now ∧
      ((s.then t).cfg timeCfg 1 = 2 → (s.then t).isStandby = false →
        m'.time.offset = (((s.then t).time.count edge : Int) - (s.then t).cfgInt (timeCfg + 14) 2) % 1000000000) := by
  refine runs_of_happen rfl ?_
  rw [ModuleState.ppsEdge, if_neg (by simp only [hnet, hpps]; simp)]
  generalize hn : (((s.then t).time.count edge : Int) - (s.then t).cfgInt (timeCfg + 14) 2) % 1000000000 = n at hnear ⊢
  have hpos : 0 ≤ n := hn ▸ Int.emod_nonneg _ (by decide)
  have hlow : n < 500000000 := by omega
  have hgood : n.natAbs ≤ 100000 := by omega
  simp only [if_pos hlow, hgood, hset, decide_true, Bool.and_self, if_true]
  split
  · obtain ⟨hoffset, -, hppsAt, -⟩ := ModuleState.measure_time (m := (s.then t).setTime fun u => { u with ppsAt := some (s.then t).now }) (source := 2)
      (show n.natAbs ≤ 1000000000 by omega)
    rw [ModuleState.NothingWaits.pump]
    · exact ⟨hppsAt, fun _ _ => hoffset⟩
    · exact ModuleState.NothingWaits.measure (by exact hwaits) (by omega)
  · next hother =>
    rw [ModuleState.NothingWaits.pump (by exact hwaits)]
    exact ⟨rfl, fun hfirst halone => (hother (ModuleState.timeSource_first 2 hfirst halone rfl)).elim⟩

/-! ### Losing a source -/

/-- Without a master left in the list none is chosen (R344). -/
theorem ModuleState.chooseMaster_time (m : ModuleState) : m.chooseMaster.time.quality = m.time.quality ∧ m.chooseMaster.time.ptpAt = m.time.ptpAt ∧
    m.chooseMaster.time.holdoverAt = m.time.holdoverAt ∧ m.chooseMaster.now = m.now ∧ (m.time.masters = [] → m.chooseMaster.time.gmData = none) := by
  cases h : bestMaster (m.mastersHeard.filter (·.qualified)) with
  | none =>
    rw [ModuleState.chooseMaster_none h]
    exact ⟨rfl, rfl, rfl, rfl, fun _ => rfl⟩
  | some f =>
    rw [ModuleState.chooseMaster_some h]
    simp only [ModuleState.logIf_frame, ModuleState.setTime_time, ModuleState.setTime_frame, true_and]
    intro hnone
    simp [ModuleState.mastersHeard, hnone, bestMaster] at h

/-- SYNC_TIMEOUT without PTP, the source of a locked module (R341, R342). -/
theorem ptpSourceLost_holds {b : Nat} (hat : (s.then t).time.ptpAt = some b) (hdue : b + (s.then t).syncTimeout ≤ (s.then t).now)
    (hfirst : (s.then t).cfg timeCfg 1 = 1) (halone : (s.then t).isStandby = false) (hlocked : (s.then t).time.quality = .locked)
    (hfresh : (s.then t).time.holdoverAt = none) : Runs (.ptpSourceLost t) s fun m' =>
      m'.time.ptpAt = none ∧ ((∀ f ∈ (s.then t).time.masters, f.data.getD 5 0 = (s.then t).time.gm) → m'.time.gmData = none) ∧
        m'.time.quality = .holdover ∧ m'.time.holdoverAt = some (s.then t).now := by
  refine runs_of_happen rfl ?_
  generalize s.then t = m at *
  have hlost : m.dueO m.time.ptpAt m.syncTimeout = true := by rw [hat]; exact decide_eq_true hdue
  have hsource : m.timeSource = 1 := ModuleState.timeSource_first 1 hfirst halone (by simp [TimeUnit.usable, hat])
  have hptp : m.sources.contains 1 := ModuleState.sources_first 1 hfirst
  simp only [hlost, hsource, if_true, beq_self_eq_true, Bool.and_self, Bool.true_or]
  generalize hm0 : m.setTime _ = m0
  obtain ⟨hquality, hptpAt, hholdover, hnow, hnone⟩ := m0.chooseMaster_time
  have hq : m0.chooseMaster.time.quality = .locked := by rw [hquality, ← hm0]; exact hlocked
  rw [if_pos hptp, ModuleState.loseSource, hq]
  simp only [ModuleState.setQuality_time, ModuleState.setTime_time, ModuleState.setTime_frame, if_true, true_and]
  refine ⟨?_, fun hall => ?_, ?_⟩
  · show m0.chooseMaster.time.ptpAt = none
    rw [hptpAt, ← hm0]
    exact if_pos hlost
  · refine hnone ?_
    rw [← hm0]
    refine (if_pos hlost).trans (List.filter_eq_nil_iff.mpr fun f hf => ?_)
    simpa using hall f hf
  · show m0.chooseMaster.time.holdoverAt.or (some m0.chooseMaster.now) = some m.now
    rw [hholdover, hnow, ← hm0]
    simp [hfresh]

/-- HOLDOVER_MAX passes in HOLDOVER (R342). -/
theorem holdoverExpiry_frees {b : Nat} (hat : (s.then t).time.holdoverAt = some b) (hdue : b + seconds ((s.then t).cfg (timeCfg + 10) 2) ≤ (s.then t).now) :
    Runs (.holdoverExpiry t) s fun m' => m'.time.quality = .free ∧ m'.time.holdoverAt = none := by
  refine runs_of_happen rfl ?_
  rw [if_pos (by rw [hat]; exact decide_eq_true hdue), ModuleState.setQuality_time]
  exact ⟨rfl, by simp⟩

/-! ### PPS_OUT -/

/-- A whole second that no step has crossed raises a driven PPS_OUT (R348). -/
theorem ModuleState.raisePps_raises {second : Nat} (hlocked : m.time.quality = .locked) (hcrossed : m.time.crossed ≠ some second) :
    m.raisePps second = m.setTime fun u => { u with ppsOut := true, ppsOutAt := m.now } := by
  rw [ModuleState.raisePps, if_pos (by simp [ModuleState.ppsDriven, hlocked, hcrossed])]

theorem ppsOutPulse_rises (hnet : (s.then t).runs isNetwork) (hlocked : (s.then t).time.quality = .locked) (hwhole : (s.then t).stamp.2 = 0)
    (hcrossed : (s.then t).time.crossed ≠ some (s.then t).stamp.1)
    (hunit : (s.then t).time.units.contains (some ((s.then t).stamp.1 * 1000000000)) ∨ (s.then t).time.units.contains none) :
    Gives (.ppsOutPulse t) s ((s.then t).setTime fun u => { u with
      units := if ((s.then t).interp.scheduled.any fun q => stampNs q.launch == (s.then t).stamp.1 * 1000000000) ||
          (s.then t).can.any fun c => c.bufs.any fun b => b.state == .waiting && stampNs b.launch == (s.then t).stamp.1 * 1000000000
        then u.units else u.units.map (fun y => if y = some ((s.then t).stamp.1 * 1000000000) then none else y)
      ppsOut := true, ppsOutAt := (s.then t).now }) := by
  refine gives_of_happen rfl ?_
  simp only [hwhole, Nat.zero_le, decide_true, if_true, hnet, Bool.true_or, Bool.and_self, Bool.or_eq_true _ _ ▸ hunit]
  split
  · exact ModuleState.raisePps_raises hlocked hcrossed
  · exact ModuleState.raisePps_raises (m := (s.then t).setTime _) hlocked hcrossed

theorem ppsOutPulse_unserved (hwhole : (s.then t).stamp.2 = 0)
    (hunit : ¬ (s.then t).time.units.contains (some ((s.then t).stamp.1 * 1000000000))) (hfree : ¬ (s.then t).time.units.contains none) :
    Gives (.ppsOutPulse t) s (s.then t) := by
  refine gives_of_happen rfl ?_
  simp only [hwhole, Nat.zero_le, if_true, hunit, hfree, Bool.or_self, Bool.and_false, Bool.false_eq_true, if_false]

/-! ### Compare units -/

theorem compareTargetArm_takes {unit x : Nat} (hlt : unit < 8) (hnet : (s.then t).runs isNetwork) (hfree : (s.then t).time.units.getD unit none = none)
    (hnear : ((s.then t).nearTargets.find? fun y => !(s.then t).time.units.contains (some y)) = some x) :
    Gives (.compareTargetArm t unit) s ((s.then t).setTime fun u => { u with units := upd u.units unit fun _ => some x }) := by
  refine gives_of_happen (congrArg (happen · t _ s) (decide_eq_true hlt)) ?_
  simp only [hfree, hnet, if_true, hnear]

/-- No buffer of a controller waits for its LAUNCH. -/
def ModuleState.NoneWaiting (m : ModuleState) : Prop := ∀ c b, c < 2 → b < 3 → ((m.ctl c).buf b).state ≠ .waiting

theorem ModuleState.releaseCan_none (h : m.NoneWaiting) (hit : Nat → Bool) : m.releaseCan hit = m := by
  have hone : ∀ c b, c < 2 → b < 3 → (((m.ctl c).buf b).state == .waiting && hit (stampNs ((m.ctl c).buf b).launch)) = false := fun c b hc hb => by
    simp [h c b hc hb]
  simp only [ModuleState.releaseCan, ModuleState.each_cons, ModuleState.each_nil, hone 0 0 (by decide) (by decide), hone 0 1 (by decide) (by decide),
    hone 0 2 (by decide) (by decide), hone 1 0 (by decide) (by decide), hone 1 1 (by decide) (by decide), hone 1 2 (by decide) (by decide),
    Bool.false_eq_true, if_false]

/-- The only held packet, of the launch time that is reached, is launched (R353). -/
theorem ModuleState.releaseSched_one {x : Sched} (h : m.interp.scheduled = [x]) : m.releaseSched (· == stampNs x.launch) =
    { m with interp := { m.interp with scheduled := [], launched := m.interp.launched ++ [x] } } := by
  simp [ModuleState.releaseSched, h]

/-- An interpreter that has nothing in hand, with nothing put into its hand. -/
theorem Interp.nothing_inHand {x : Interp} (hhold : x.hold = none) (hlaunched : x.launched = []) (hwaiting : x.waiting = []) :
    { x with hold := none, launched := [], waiting := [] } = x := by
  obtain ⟨⟩ := x
  subst hhold hlaunched hwaiting
  rfl

/-- A launched packet is dispatched when the interpreter is free and nothing else is there (R22, R353). -/
theorem ModuleState.pump_launched {x : Sched} (hi : m.interprets) (hhold : m.interp.hold = none) (hwaits : m.NothingWaits) :
    ({ m with interp := { m.interp with launched := m.interp.launched ++ [x] } } : ModuleState).pump = launch command x m := by
  obtain ⟨hlaunched, hwaiting⟩ := hwaits
  have hruns : ModuleState.interprets { m with interp := { m.interp with launched := m.interp.launched ++ [x] } } = true := hi
  rw [ModuleState.pump, if_pos hruns]
  simp only [hlaunched, hwaiting, List.nil_append, List.length_singleton, List.length_nil, Nat.add_zero, drain, hhold, Option.isSome_none,
    Bool.false_eq_true, if_false]
  exact congrArg (fun i => launch command x { m with interp := i }) (Interp.nothing_inHand hhold hlaunched hwaiting)

/-- PPS_OUT has no part in what is launched. -/
theorem ModuleState.raisePps_interp (m : ModuleState) (x : Interp) (second : Nat) :
    ({ m with interp := x } : ModuleState).raisePps second = { m.raisePps second with interp := x } := by
  unfold ModuleState.raisePps
  split
  · next h => rw [if_pos (by exact h)]; rfl
  · next h => rw [if_neg (by exact h)]

theorem ModuleState.raisePps_only (m : ModuleState) (second : Nat) : m.raisePps second = { m with time := (m.raisePps second).time } := by
  unfold ModuleState.raisePps
  split <;> rfl

theorem ModuleState.pump_raisePps_launched {x : Sched} (hi : m.interprets) (hhold : m.interp.hold = none) (hwaits : m.NothingWaits) (second : Nat) :
    (ModuleState.raisePps { m with interp := { m.interp with launched := m.interp.launched ++ [x] } } second).pump =
      launch command x (m.raisePps second) := by
  rw [ModuleState.raisePps_interp, m.raisePps_only]
  exact ModuleState.pump_launched (m := { m with time := (m.raisePps second).time }) hi hhold hwaits

theorem compareUnitFire_launches {unit : Nat} {x : Sched} (hwaits : (s.then t).NothingWaits) (hlt : unit < 8) (hnet : (s.then t).runs isNetwork)
    (hunit : (s.then t).time.units.getD unit none = some (stampNs x.launch)) (hreached : stampNs x.launch ≤ (s.then t).count)
    (hsched : (s.then t).interp.scheduled = [x]) (hcan : (s.then t).NoneWaiting) (hhold : (s.then t).interp.hold = none) (hi : (s.then t).interprets) :
    let n := { s.then t with
      time := { (s.then t).time with units := upd (s.then t).time.units unit fun _ => none }, interp := { (s.then t).interp with scheduled := [] } }
    Gives (.compareUnitFire t unit) s (launch command x
      (if stampNs x.launch % 1000000000 = 0 ∧ (s.then t).count ≤ stampNs x.launch + 20 then n.raisePps (stampNs x.launch / 1000000000) else n)) := by
  refine gives_of_happen (congrArg (happen · t _ s) (decide_eq_true hlt)) ?_
  generalize s.then t = m at *
  simp only [ModuleState.fireUnit, hunit, hnet, hreached, decide_true, Bool.and_self, if_true]
  have hsched' : (m.setTime fun u => { u with units := upd u.units unit fun _ => none }).interp.scheduled = [x] := hsched
  rw [ModuleState.releaseSched_one hsched', ModuleState.releaseCan_none (by exact hcan)]
  split
  · exact ModuleState.pump_raisePps_launched (m := { m with
      time := { m.time with units := upd m.time.units unit fun _ => none }, interp := { m.interp with scheduled := [] } }) hi hhold hwaits _
  · exact ModuleState.pump_launched (m := { m with
      time := { m.time with units := upd m.time.units unit fun _ => none }, interp := { m.interp with scheduled := [] } }) hi hhold hwaits

/-- Settles O25, row by row. -/
theorem timeRowsRun : Obligations.TimeRowsRun := by
  intro s t m hlaunched hwaiting
  have hwaits : (s.then t).NothingWaits := ⟨hlaunched, hwaiting⟩
  exact ⟨fun _ _ heth hptp => ⟨ptpMessage_firstAnnounce hwaits heth hptp, fun _ => ptpMessage_secondAnnounce hwaits heth hptp⟩,
    fun _ _ _ _ => ptpMessage_measures hwaits, fun _ => ppsInEdge_measures hwaits, fun _ => ptpSourceLost_holds, fun _ => holdoverExpiry_frees,
    fun hnet hlocked hwhole hcrossed => ⟨ppsOutPulse_rises hnet hlocked hwhole hcrossed, ppsOutPulse_unserved hwhole⟩,
    fun hout hdue => gives_of_happen rfl (if_pos (Bool.and_eq_true_iff.mpr ⟨hout, decide_eq_true hdue⟩)), gives_of_happen rfl rfl, gives_of_happen rfl rfl,
    fun _ _ => compareTargetArm_takes, fun _ _ => compareUnitFire_launches hwaits⟩

end Sys2Proof.Machine
end

section
/-! The CAN controllers (R362 to R386): what events leave of a controller, then the commands. -/

namespace Sys2Proof.Machine

variable {s : State} {t : Nat} {m : ModuleState} {c : Nat}

/-! ### What events leave of a controller -/

/-- A controller without its transport's transmissions, all that a notification or a reply touches of it (R381, R382). -/
def Can.bus (q : Can) : Can := { q with tpBuf := none, tpSince := 0, tpBufFc := false, tpTx := none, tpWait := [] }

theorem ModuleState.tpStart_bus (m : ModuleState) (i : Nat) (q : Can) : (m.tpStart i q).bus = q.bus := by
  unfold ModuleState.tpStart
  split
  · dsimp only
    split
    · rfl
    · split <;> rfl
  · rfl

/-- The controllers without their transmissions. -/
def Comm.buses (c : Comm) : List Can := c.can.map Can.bus

theorem upd_map_of_eq {α β : Type} (g : α → β) (l : List α) (i : Nat) {f : α → α} (hf : ∀ x, g (f x) = g x) : (upd l i f).map g = l.map g := by
  refine List.ext_getElem? fun j => ?_
  rcases eq_or_ne i j with rfl | hne
  · rw [List.getElem?_map, upd_getElem?, List.getElem?_map, Option.map_map]
    exact congrArg (fun k => Option.map k l[i]?) (funext hf)
  · rw [List.getElem?_map, upd_getElem?_ne hne, List.getElem?_map]

theorem ModuleState.hand_buses (m : ModuleState) (c : Comm) (x : Transport) (dest : Nat × Nat) (b : List Byte) :
    (m.hand c x dest b).buses = c.buses := by
  cases x with
  | canA => exact upd_map_of_eq Can.bus c.can 0 fun q => m.tpStart_bus 0 _
  | canB => exact upd_map_of_eq Can.bus c.can 1 fun q => m.tpStart_bus 1 _
  | spi | ethernet | levee => rfl

@[simp] theorem Comm.port_buses (c : Comm) (x : Transport) (f : Port → Port) : (c.port x f).buses = c.buses := rfl

theorem ModuleState.notifyOn_buses (m : ModuleState) (c : Comm) (x : Transport) (e : Event) (k : Key) :
    (m.notifyOn c x e k).1.buses = c.buses := by
  unfold ModuleState.notifyOn
  dsimp only
  split
  · rfl
  · simp only [apply_ite Prod.fst, apply_ite Comm.buses, Comm.port_buses, m.hand_buses]
    simp only [Comm.buses, ite_self]

theorem ModuleState.takeEvent_buses (m : ModuleState) (c : Comm) (e : Event) : (m.takeEvent c e).buses = c.buses := by
  unfold ModuleState.takeEvent
  dsimp only
  split
  · exact List.foldlRecOn notifyPorts _ (motive := fun q : Comm × List (Nat × List Int) => q.1.buses = c.buses) rfl fun q hq x _ => by
      rw [m.notifyOn_buses, hq]
  · rfl

theorem ModuleState.logE_buses (m : ModuleState) (c : Comm) (e : Event) : (m.logE c e).buses = c.buses := by
  unfold ModuleState.logE
  split
  · rfl
  split
  · exact m.takeEvent_buses c e
  · rfl

theorem ModuleState.bumpC_buses (m : ModuleState) (c : Comm) (x : Transport) (lost : Bool) : (m.bumpC c x lost).buses = c.buses := by
  unfold ModuleState.bumpC
  dsimp only
  rw [apply_ite Comm.buses, ModuleState.logC, m.logE_buses, ite_self]
  rfl

/-- A part of a controller, when the module has it. -/
def ModuleState.seen {α : Type} (m : ModuleState) (π : Can → α) (c : Nat) : Option α := m.can[c]?.map π

theorem ModuleState.seen_of_lt {α : Type} (π : Can → α) (h : c < m.can.length) : m.seen π c = some (π (m.ctl c)) := by
  simp [ModuleState.seen, ModuleState.ctl, List.getD_eq_getElem?_getD, List.getElem?_eq_getElem h]

theorem ModuleState.seen_of_le {α : Type} (π : Can → α) (h : ¬ c < m.can.length) : m.seen π c = none := by
  simp [ModuleState.seen, List.getElem?_eq_none (Nat.not_lt.mp h)]

theorem ModuleState.ctl_of_seen {α : Type} {π : Can → α} {x : α} (h : m.seen π c = some x) : π (m.ctl c) = x := by
  by_cases hlt : c < m.can.length
  · exact Option.some.inj ((ModuleState.seen_of_lt π hlt).symm.trans h)
  · rw [ModuleState.seen_of_le π hlt] at h
    exact absurd h (by simp)

/-- A controller that is not as a missing one is one the module has. -/
theorem ModuleState.ctl_lt {β : Type} {g : Can → β} {b : β} (h : g (m.ctl c) = b) (hb : g {} ≠ b) : c < m.can.length :=
  lt_of_getD g h hb

/-- One controller of the list changed, then seen. -/
theorem ModuleState.setCtl_seen {α : Type} (π : Can → α) (c : Nat) (f : Can → Can) : (m.setCtl c f).seen π c = m.seen (fun q => π (f q)) c := by
  rw [ModuleState.seen, ModuleState.setCtl, upd_getElem?, Option.map_map]
  rfl

section

variable {α : Type} {π : Can → α} (hπ : ∀ q : Can, π q.bus = π q)
include hπ

/-- What an event or a reply leaves of the controllers is what it leaves of a part of one that sees no transmissions. -/
theorem ModuleState.withComm_seen {k : Comm} (h : k.buses = m.comm.buses) (c : Nat) : (m.withComm k).seen π c = m.seen π c := by
  have hmap : ∀ l : List Can, l[c]?.map π = (l.map Can.bus)[c]?.map π := fun l => by
    rw [List.getElem?_map, Option.map_map]
    exact congrArg (fun g => Option.map g l[c]?) (funext fun q => (hπ q).symm)
  exact (hmap _).trans ((congrArg (fun l : List Can => l[c]?.map π) h).trans (hmap _).symm)

theorem ModuleState.log_seen (m : ModuleState) (c code source : Nat) (items : List Int) : (m.log code source items).seen π c = m.seen π c :=
  ModuleState.withComm_seen hπ (m.logE_buses _ _) c

theorem ModuleState.logIf_seen (m : ModuleState) (c : Nat) (b : Bool) (code source : Nat) (items : List Int) :
    (m.logIf b code source items).seen π c = m.seen π c := by
  cases b
  · rfl
  · exact m.log_seen hπ c code source items

theorem ModuleState.saturated_seen (m : ModuleState) (c max before source opcode off : Nat) :
    (m.saturated max before source opcode off).seen π c = m.seen π c := m.logIf_seen hπ c _ _ _ _

theorem ModuleState.lostOn_seen (m : ModuleState) (c : Nat) (x : Transport) (n : Nat) : (m.lostOn x n).seen π c = m.seen π c := by
  induction n with
  | zero => rfl
  | succ n ih => exact (ModuleState.withComm_seen hπ (ModuleState.bumpC_buses _ _ _ _) c).trans ih

end

/-! ### CAN_MODE, CAN_RX_BIND and CAN_RX_READ -/

variable {cmd : Cmd}

theorem canModeBody_orders (hmode : CanMode.ofCode (getN cmd.data 1 1) ≠ .normal) : canModeBody cmd m =
    { acts := [.net], m := m.setCtl (getN cmd.data 0 1) fun q => { q with order := some (CanMode.ofCode (getN cmd.data 1 1)) } } := by
  have hother : (CanMode.ofCode (getN cmd.data 1 1) == .normal) = false := beq_eq_false_iff_ne.mpr hmode
  simp only [canModeBody, hmode, false_and, if_false, hother, Bool.false_and, Bool.or_false]

theorem canRxBindBody_binds (hid : getN cmd.data 0 4 ≠ 0xFFFFFFFF) (hrange : idInRange (getN cmd.data 0 4))
    (hown : ∀ x ∈ (m.ctl (cmd.idx / 128)).objs, x.bound ≠ some (getN cmd.data 0 4)) (hreq : getN cmd.data 0 4 ≠ m.reqId (cmd.idx / 128))
    (hrsp : getN cmd.data 0 4 ≠ m.rspId (cmd.idx / 128)) (hpi : getN cmd.data 0 4 ≠ m.piId (cmd.idx / 128)) : canRxBindBody cmd m =
      { acts := [.net]
        m := m.setCtl (cmd.idx / 128) fun q => { q with objs := upd q.objs (cmd.idx % 64) fun _ =>
          { bound := some (getN cmd.data 0 4), secured := bit (getN cmd.data 4 1) 1, dedup := bit (getN cmd.data 4 1) 0 } } } := by
  have hunused : (((m.ctl (cmd.idx / 128)).objs.eraseIdx (cmd.idx % 64)).any (·.bound == some (getN cmd.data 0 4))) = false := by
    rw [List.any_eq_false]
    exact fun x hx => by simpa using hown x (List.mem_of_mem_eraseIdx hx)
  simp [canRxBindBody, hid, hrange, hunused, hreq, hrsp, hpi]

theorem canRxBindBody_unbinds (hid : getN cmd.data 0 4 = 0xFFFFFFFF) : canRxBindBody cmd m =
    { acts := [.net], m := m.setCtl (cmd.idx / 128) fun q => { q with objs := upd q.objs (cmd.idx % 64) fun _ => {} } } := by
  simp [canRxBindBody, hid]

/-- NEW and LOST of an object. -/
def RxObj.marks (x : RxObj) : Bool × Bool := (x.fresh, x.lost)

/-- An object whose frame has been read. -/
def RxObj.read (x : RxObj) : RxObj := { x with fresh := false, lost := false }

/-- Reading some objects ends NEW and LOST of exactly those (R372). -/
theorem foldl_read_marks (take : List Nat) (l : List RxObj) (o : Nat) :
    ((take.foldl (fun l o => upd l o RxObj.read) l).getD o {}).marks = if o ∈ take then (false, false) else (l.getD o {}).marks := by
  induction take generalizing l with
  | nil => rfl
  | cons k take ih =>
    rw [List.foldl_cons, ih]
    by_cases hin : o ∈ take
    · rw [if_pos hin, if_pos (List.mem_cons_of_mem _ hin)]
    · rw [if_neg hin]
      rcases eq_or_ne k o with rfl | hne
      · rw [if_pos List.mem_cons_self]
        by_cases hlt : k < l.length
        · rw [upd_getD_self _ _ _ _ hlt]
          rfl
        · rw [List.getD_eq_default _ _ (by simpa using hlt)]
          rfl
      · rw [if_neg (by simp [hne.symm, hin]), upd_getD_ne _ _ _ _ _ hne]

/-- The objects that CAN_RX_READ returns (R372). -/
def rxNamed (b : List Byte) (q : Can) : List Nat :=
  (List.range 64).filter fun o => bit (getN b 4 8) o && (!bit (getN b 1 1) 1 || (q.objs.getD o {}).fresh)

/-- The module once those objects have been read. -/
def ModuleState.rxRead (m : ModuleState) (i : Nat) (b : List Byte) : ModuleState :=
  m.setCtl i fun q => { q with objs := (rxNamed b (m.ctl i)).foldl (fun l o => upd l o RxObj.read) q.objs }

theorem canRxReadBody_reads : canRxReadBody cmd m =
    { needs := [.net]
      data := ((rxNamed cmd.data (m.ctl (getN cmd.data 0 1))).map fun o => rxEntry o ((m.ctl (getN cmd.data 0 1)).objs.getD o {})).flatten
      m := if bit (getN cmd.data 1 1) 0 then m.rxRead (getN cmd.data 0 1) cmd.data else m } := rfl

theorem noObjs_marks (o : Nat) : ((List.replicate 64 ({} : RxObj)).getD o {}).marks = (false, false) := by
  simp only [List.getD_eq_getElem?_getD, List.getElem?_replicate]
  split <;> rfl

theorem ModuleState.rxRead_marks (i : Nat) (b : List Byte) (o : Nat) : (((m.rxRead i b).ctl i).objs.getD o {}).marks =
    if o ∈ rxNamed b (m.ctl i) then (false, false) else ((m.ctl i).objs.getD o {}).marks := by
  by_cases hlt : i < m.can.length
  · rw [ModuleState.rxRead, ModuleState.setCtl_ctl hlt]
    exact foldl_read_marks _ _ o
  · have hnone : ∀ n : ModuleState, n.can.length = m.can.length → ((n.ctl i).objs.getD o {}).marks = (false, false) := fun n hn => by
      have habsent : n.ctl i = {} := List.getD_eq_default _ _ (by omega)
      rw [habsent]
      exact noObjs_marks o
    rw [hnone m rfl, hnone _ (by simp [ModuleState.rxRead, ModuleState.setCtl])]
    split <;> rfl

/-! ### CAN_TX and CAN_TX_ABORT -/

/-- An unsecured buffer becomes PENDING (R379). -/
theorem ModuleState.makePending_plain {b : Nat} {late : Bool} (h : ((m.ctl c).buf b).secured = false) : m.makePending c b late =
    m.setCtl c fun q => { q with bufs := upd q.bufs b fun x => { x with state := .pending, late, since := m.now } } := by
  simp only [ModuleState.makePending, h, Bool.false_eq_true, if_false]

/-- A buffer loaded with an unsecured frame is unsecured, whether or not the controller has it. -/
theorem ModuleState.setCtl_buf_secured {b : Nat} {x : TxBuf} (h : x.secured = false) (hc : c < m.can.length) :
    (((m.setCtl c fun q => { q with bufs := upd q.bufs b fun _ => x }).ctl c).buf b).secured = false := by
  rw [ModuleState.setCtl_ctl hc, Can.buf]
  by_cases hlt : b < (m.ctl c).bufs.length
  · rw [upd_getD_self _ _ _ _ hlt, h]
  · rw [List.getD_eq_default _ _ (by simpa using hlt)]

theorem canTxBody_loads (hnow : bit (getN cmd.data 0 1) 6 = false) (hplain : bit (getN cmd.data 0 1) 4 = false)
    (hbrs : bit (getN cmd.data 0 1) 3 = false ∨ bit (getN cmd.data 0 1) 2 = true)
    (hfd : bit (getN cmd.data 0 1) 2 = false ∨ bit (m.canFlags (cmd.idx / 128)) 0 = true) (hid : idInRange (getN cmd.data 4 4))
    (hlen : lenOk (bit (getN cmd.data 0 1) 2) (getN cmd.data 2 1)) (hretry : getN cmd.data 1 1 ≤ 15) (hcarries : (m.ctl (cmd.idx / 128)).carries)
    (hwaiting : ((m.ctl (cmd.idx / 128)).buf (cmd.idx % 64)).state ≠ .waiting)
    (hpending : ((m.ctl (cmd.idx / 128)).buf (cmd.idx % 64)).state ≠ .pending) : canTxBody cmd m =
      { acts := [.net]
        m := m.setCtl (cmd.idx / 128) fun q => { q with bufs := upd q.bufs (cmd.idx % 64) fun _ =>
          { state := .pending
            frame := { id := getN cmd.data 4 4, fd := bit (getN cmd.data 0 1) 2, brs := bit (getN cmd.data 0 1) 3
                       data := (cmd.data.drop 20).take (getN cmd.data 2 1) }
            retry := getN cmd.data 1 1, notify := bit (getN cmd.data 0 1) 5, secured := false, strict := bit (getN cmd.data 0 1) 7
            launch := (0, 0), late := false, since := m.now } } } := by
  have hform : (bit (getN cmd.data 0 1) 3 && !bit (getN cmd.data 0 1) 2) = false := by rcases hbrs with h | h <;> simp [h]
  have hmode : (bit (getN cmd.data 0 1) 2 && !bit (m.canFlags (cmd.idx / 128)) 0) = false := by rcases hfd with h | h <;> simp [h]
  have hidle : ¬ (((m.ctl (cmd.idx / 128)).buf (cmd.idx % 64)).state = .waiting ∨ ((m.ctl (cmd.idx / 128)).buf (cmd.idx % 64)).state = .pending) :=
    not_or.mpr ⟨hwaiting, hpending⟩
  have hlt := ModuleState.ctl_lt_of_carries hcarries
  simp only [canTxBody, hnow, hplain, hform, hmode, hid, hlen, hcarries, Nat.not_lt.mpr hretry, decide_false, if_neg hidle, Bool.false_and,
    Bool.not_true, Bool.or_self, Bool.false_eq_true, if_false]
  rw [ModuleState.makePending_plain (ModuleState.setCtl_buf_secured rfl hlt)]
  simp only [ModuleState.setCtl, upd_upd, Function.comp_def]

theorem canTxAbortBody_waiting (h : ((m.ctl (cmd.idx / 128)).buf (cmd.idx % 64)).state = .waiting) : canTxAbortBody cmd m =
    { acts := [.net], m := m.abortBuf (cmd.idx / 128) (cmd.idx % 64) 1 } := by
  simp only [canTxAbortBody, h]

/-- Settles O28: the result of each command, and with it its row's effect. -/
theorem canCommandsDo : Obligations.CanCommandsDo := by
  intro s p
  refine ⟨fun h => does_of_ok rfl (canModeBody_orders (cmd := cmdOf canModeSpec p s) h) rfl,
    fun hid hr ho h1 h2 h3 => does_of_ok rfl (canRxBindBody_binds (cmd := cmdOf canRxBindSpec p s) hid hr ho h1 h2 h3) rfl,
    fun h => does_of_ok rfl (canRxBindBody_unbinds (cmd := cmdOf canRxBindSpec p s) h) rfl, ?_,
    fun hnow hplain hbrs hfd hid hlen hretry hcarries hwaiting hpending => does_of_ok rfl
      (canTxBody_loads (cmd := cmdOf canTxSpec p s) hnow hplain hbrs hfd hid hlen hretry hcarries hwaiting hpending) rfl,
    fun h => does_of_ok rfl (canTxAbortBody_waiting (cmd := cmdOf canTxAbortSpec p s) h) rfl⟩
  refine ⟨_, does_of_ok rfl (canRxReadBody_reads (cmd := cmdOf canRxReadSpec p s)) rfl, fun h => if_neg (by simp [cmdOf, h]), fun h o _ => ?_⟩
  have hclear : bit (getN (cmdOf canRxReadSpec p s).data 1 1) 0 = true := h
  rw [if_pos hclear]
  exact ModuleState.rxRead_marks _ _ o

end Sys2Proof.Machine
end

section
/-! The rows of the CAN controllers and their buses (R362 to R386). -/

namespace Sys2Proof.Machine

variable {s : State} {t : Nat} {m : ModuleState} {c : Nat}

/-! ### Aborts and error counters -/

/-- A buffer without what an abort writes. -/
def TxBuf.loaded (x : TxBuf) : TxBuf := { x with state := .empty, cause := 0, abortAsked := false }

/-- A controller without what events, aborts and a bus-off change (R365, R377). -/
def Can.face (q : Can) : Can :=
  { q.bus with bufs := q.bufs.map TxBuf.loaded, piBuf := none, recovering := false, tpRx := none, fcPend := none }

/-- A controller with a buffer aborted when it is PENDING (R377). -/
def Can.abortIf (q : Can) (b cause : Nat) : Can :=
  if (q.buf b).state = .pending then
    { q with bufs := upd q.bufs b fun x => { x with state := .aborted, cause, abortAsked := false } } else q

/-- A controller with every PENDING buffer aborted (R365). -/
def Can.abortAll (q : Can) (cause : Nat) : Can := ((q.abortIf 0 cause).abortIf 1 cause).abortIf 2 cause

theorem Can.abortIf_bus (q : Can) (b cause : Nat) : (q.bus.abortIf b cause).bus = (q.abortIf b cause).bus := by
  unfold Can.abortIf
  split
  · next h => rw [if_pos (by exact h)]; rfl
  · next h => rw [if_neg (by exact h)]; rfl

theorem Can.abortIf_face (q : Can) (b cause : Nat) : (q.abortIf b cause).face = q.face := by
  unfold Can.abortIf
  split
  · have hbufs := upd_map_of_eq TxBuf.loaded q.bufs b (f := fun x => { x with state := .aborted, cause, abortAsked := false }) fun _ => rfl
    simp only [Can.face, hbufs]
    rfl
  · rfl

theorem Can.abortAll_face (q : Can) (cause : Nat) : (q.abortAll cause).face = q.face := by simp only [Can.abortAll, Can.abortIf_face]

theorem Can.abortIf_buf (q : Can) (k cause b : Nat) : (q.abortIf k cause).buf b =
    if k = b ∧ (q.buf b).state = .pending then { q.buf b with state := .aborted, cause, abortAsked := false } else q.buf b := by
  unfold Can.abortIf
  rcases eq_or_ne k b with rfl | hne
  · by_cases hpending : (q.buf k).state = .pending
    · have hlt : k < q.bufs.length := lt_of_getD (d := {}) TxBuf.state hpending (by simp)
      rw [if_pos hpending, if_pos ⟨rfl, hpending⟩, Can.buf, upd_getD_self _ _ _ _ hlt]
      rfl
    · rw [if_neg hpending, if_neg (by simp [hpending])]
  · rw [if_neg fun h : k = b ∧ _ => hne h.1]
    split
    · exact upd_getD_ne _ _ _ _ _ hne
    · rfl

/-- Each of the three buffers that is PENDING is aborted (R365, R367). -/
theorem Can.abortAll_buf (q : Can) (cause : Nat) {b : Nat} (hb : b < 3) : (q.abortAll cause).buf b =
    if (q.buf b).state = .pending then { q.buf b with state := .aborted, cause, abortAsked := false } else q.buf b := by
  simp only [Can.abortAll, Can.abortIf_buf]
  obtain rfl | rfl | rfl : b = 0 ∨ b = 1 ∨ b = 2 := by omega
  all_goals simp only [true_and, false_and, if_false, Nat.reduceEqDiff]

section

variable {α : Type} {π : Can → α}

/-- A part of a controller that sees no aborts sees no transmissions. -/
theorem offBus_of_offFace (hπ : ∀ q : Can, π q.face = π q) (q : Can) : π q.bus = π q := (hπ q.bus).symm.trans (hπ q)

theorem ModuleState.abortIf_seen (hπ : ∀ q : Can, π q.bus = π q) (m : ModuleState) (c b cause : Nat) :
    (if ((m.ctl c).buf b).state = .pending then m.abortBuf c b cause else m).seen π c = m.seen (fun q => π (q.abortIf b cause)) c := by
  by_cases hlt : c < m.can.length
  · rw [ModuleState.seen_of_lt _ hlt, Can.abortIf]
    split
    · rw [ModuleState.abortBuf, ModuleState.log_seen hπ, ModuleState.setCtl_seen, ModuleState.seen_of_lt _ hlt]
    · rw [ModuleState.seen_of_lt _ hlt]
  · rw [ModuleState.seen_of_le _ hlt]
    split
    · rw [ModuleState.abortBuf, ModuleState.log_seen hπ, ModuleState.setCtl_seen, ModuleState.seen_of_le _ hlt]
    · rw [ModuleState.seen_of_le _ hlt]

theorem ModuleState.abortPending_seen (hπ : ∀ q : Can, π q.bus = π q) (m : ModuleState) (c cause : Nat) :
    (m.abortPending c cause).seen π c = m.seen (fun q => π (q.abortAll cause)) c := by
  have hstep : ∀ b q, π ((Can.bus q).abortIf b cause) = π (q.abortIf b cause) := fun b q => by rw [← hπ, Can.abortIf_bus, hπ]
  have hstep2 : ∀ b k q, π (((Can.bus q).abortIf b cause).abortIf k cause) = π ((q.abortIf b cause).abortIf k cause) := fun b k q => by
    rw [← hstep, Can.abortIf_bus, hstep]
  simp only [ModuleState.abortPending, ModuleState.each_cons, ModuleState.each_nil]
  rw [ModuleState.abortIf_seen hπ, ModuleState.abortIf_seen (hstep 2), ModuleState.abortIf_seen (hstep2 1 2)]
  rfl

/-- What is left of a controller once its transport exchanges are dropped (R320). -/
def Can.untransported (q : Can) : Can :=
  { q with tpWait := [], tpTx := none, tpRx := none, tpBuf := none, tpBufFc := false, fcPend := none }

theorem ModuleState.dropTp_seen (hπ : ∀ q : Can, π q.bus = π q) (m : ModuleState) (c : Nat) :
    (m.dropTp c).seen π c = m.seen (fun q => π q.untransported) c :=
  (ModuleState.lostOn_seen hπ _ c _ _).trans (ModuleState.setCtl_seen π c _)

/-- A controller with new error counters (R365). -/
def Can.counted (q : Can) (tec rc : Nat) : Can := { q with tec, rec_ := rc, err := errorOf tec rc }

/-- New counters that bring no bus-off change nothing else (R365). -/
theorem ModuleState.setErrors_calm (hπ : ∀ q : Can, π q.bus = π q) {tec rc : Nat} (hcalm : (m.ctl c).err = .busOff ∨ errorOf tec rc ≠ .busOff) :
    (m.setErrors c tec rc).seen π c = m.seen (fun q => π (q.counted tec rc)) c := by
  have hno : ¬ ((m.ctl c).err ≠ .busOff ∧ errorOf tec rc = .busOff) := by tauto
  rw [ModuleState.setErrors, if_neg hno, ModuleState.logIf_seen hπ, ModuleState.setCtl_seen]
  rfl

/-- New counters, seen without what a bus-off ends (R365). -/
theorem ModuleState.setErrors_seen (hπ : ∀ q : Can, π q.face = π q) (m : ModuleState) (c tec rc : Nat) :
    (m.setErrors c tec rc).seen π c = m.seen (fun q => π (q.counted tec rc)) c := by
  have hbus := offBus_of_offFace hπ
  have habort : ∀ q cause, π (Can.abortAll q cause) = π q := fun q cause => by rw [← hπ, Can.abortAll_face, hπ]
  have hdrop : ∀ q, π (Can.untransported q) = π q := fun q => (hπ _).symm.trans (hπ q)
  have hoff : ∀ (q : Can) r, π { q with piBuf := none, recovering := r } = π q := fun q r => (hπ _).symm.trans (hπ q)
  unfold ModuleState.setErrors
  dsimp only
  split
  · rw [ModuleState.setCtl_seen]
    simp only [hoff]
    rw [ModuleState.dropTp_seen hbus]
    simp only [hdrop]
    rw [ModuleState.abortPending_seen hbus]
    simp only [habort]
    rw [ModuleState.logIf_seen hbus, ModuleState.setCtl_seen]
    rfl
  · rw [ModuleState.logIf_seen hbus, ModuleState.setCtl_seen]
    rfl

theorem ModuleState.clearNoAck_seen (hπ : ∀ q : Can, π q.bus = π q) (m : ModuleState) (c : Nat) :
    (m.clearNoAck c).seen π c = m.seen (fun q => π { q with noAck := false, noAckRun := 0, busFault := false }) c := by
  rw [ModuleState.clearNoAck, ModuleState.logIf_seen hπ, ModuleState.setCtl_seen]

/-- What entering a mode makes of a controller (R364, R367). -/
def Can.entering (q : Can) (old mode : CanMode) (now : Nat) : Can :=
  { q with
    mode
    piBuf := if mode = .normal then q.piBuf else none
    piAt := if mode = .normal && old != .normal then now else q.piAt
    recovering := if mode = .normal && q.err == .busOff then true else q.recovering
    candidate := if mode = .autoRate then none else q.candidate
    trying := if mode = .autoRate then 0 else q.trying
    dwellAt := if mode = .autoRate then now else q.dwellAt
    goodRun := 0, brsSeen := false
    cycles := if mode = .autoRate then 0 else q.cycles }

theorem ModuleState.enterMode_seen (π : Can → α) (m : ModuleState) (c : Nat) (mode : CanMode) : (m.enterMode c mode).seen π c =
    (if (m.ctl c).mode = .normal ∧ mode ≠ .normal then (m.abortPending c 3).dropTp c else m).seen
      (fun q => π (q.entering (m.ctl c).mode mode m.now)) c :=
  ModuleState.setCtl_seen π c _

/-- Entering a mode, seen without what leaving NORMAL ends (R367). -/
theorem ModuleState.enterMode_seen_face (m : ModuleState) (c : Nat) (mode : CanMode)
    (hπ : ∀ q : Can, π (q.face.entering (m.ctl c).mode mode m.now) = π (q.entering (m.ctl c).mode mode m.now)) :
    (m.enterMode c mode).seen π c = m.seen (fun q => π (q.entering (m.ctl c).mode mode m.now)) c := by
  have hbus := offBus_of_offFace (π := fun q => π (q.entering (m.ctl c).mode mode m.now)) hπ
  rw [ModuleState.enterMode_seen]
  split
  · rw [ModuleState.dropTp_seen hbus]
    have hdrop : ∀ q, π ((Can.untransported q).entering (m.ctl c).mode mode m.now) = π (q.entering (m.ctl c).mode mode m.now) :=
      fun q => (hπ _).symm.trans (hπ q)
    simp only [hdrop]
    rw [ModuleState.abortPending_seen hbus]
    have habort : ∀ q, π ((Can.abortAll q 3).entering (m.ctl c).mode mode m.now) = π (q.entering (m.ctl c).mode mode m.now) :=
      fun q => by rw [← hπ, Can.abortAll_face, hπ]
    simp only [habort]
  · rfl

end

/-! ### What the controllers leave of the module -/

section

variable {β : Type} {π : ModuleState → β} (h : ∀ m k, π (ModuleState.withComm m k) = π m)
include h

theorem offComm_setCtl (m : ModuleState) (c : Nat) (f : Can → Can) : π (m.setCtl c f) = π m := h m { m.comm with can := upd m.can c f }

theorem offComm_logIf (m : ModuleState) (b : Bool) (code source : Nat) (items : List Int) : π (m.logIf b code source items) = π m := h _ _

theorem offComm_lostOn (m : ModuleState) (x : Transport) (n : Nat) : π (m.lostOn x n) = π m := by
  induction n with
  | zero => rfl
  | succ n ih => exact (h _ _).trans ih

theorem offComm_abortBuf (m : ModuleState) (c b cause : Nat) : π (m.abortBuf c b cause) = π m := (h _ _).trans (offComm_setCtl h m c _)

theorem offComm_abortPending (m : ModuleState) (c cause : Nat) : π (m.abortPending c cause) = π m :=
  m.each_frame [0, 1, 2] _ π fun n b => by rw [apply_ite π, offComm_abortBuf h, ite_self]

theorem offComm_dropTp (m : ModuleState) (c : Nat) : π (m.dropTp c) = π m := (offComm_lostOn h _ _ _).trans (offComm_setCtl h m c _)

theorem offComm_setErrors (m : ModuleState) (c tec rc : Nat) : π (m.setErrors c tec rc) = π m := by
  unfold ModuleState.setErrors
  dsimp only
  split
  · rw [offComm_setCtl h, offComm_dropTp h, offComm_abortPending h, offComm_logIf h, offComm_setCtl h]
  · rw [offComm_logIf h, offComm_setCtl h]

theorem offComm_clearNoAck (m : ModuleState) (c : Nat) : π (m.clearNoAck c) = π m := (offComm_logIf h _ _ _ _ _).trans (offComm_setCtl h m c _)

theorem offComm_enterMode (m : ModuleState) (c : Nat) (mode : CanMode) : π (m.enterMode c mode) = π m := by
  refine (offComm_setCtl h _ c _).trans ?_
  rw [apply_ite π, offComm_dropTp h, offComm_abortPending h, ite_self]

end

/-! ### Modes -/

/-- Leaving NORMAL, seen at a buffer (R367). -/
theorem ModuleState.enterMode_left_buf {mode : CanMode} (hnormal : (m.ctl c).mode = .normal) (hleaves : mode ≠ .normal) (b : Nat) :
    (m.enterMode c mode).seen (fun q => q.buf b) c = m.seen (fun q => (q.abortAll 3).buf b) c := by
  rw [ModuleState.enterMode_seen, if_pos ⟨hnormal, hleaves⟩]
  show ((m.abortPending c 3).dropTp c).seen (fun q => q.buf b) c = _
  rw [ModuleState.dropTp_seen fun _ => rfl]
  show (m.abortPending c 3).seen (fun q => q.buf b) c = _
  exact ModuleState.abortPending_seen (π := fun q => q.buf b) (fun _ => rfl) m c 3

theorem canModeApply_applies (hc : c < 2) {mode : CanMode} (horder : ((s.then t).ctl c).order = some mode) :
    Runs (.canModeApply t c) s fun m' => (m'.ctl c).mode = mode ∧ (m'.ctl c).order = none ∧
      (((s.then t).ctl c).mode = .normal → mode ≠ .normal → ∀ b, b < 3 → (((s.then t).ctl c).buf b).state = .pending →
        ((m'.ctl c).buf b).state = .aborted ∧ ((m'.ctl c).buf b).cause = 3) := by
  have hlt : c < (s.then t).can.length := ModuleState.ctl_lt (g := Can.order) horder (by simp)
  refine runs_of_there (m' := ((s.then t).enterMode c mode).setCtl c fun q => { q with order := none }) (decide_eq_true hc) rfl (by simp only [horder]) ?_
  generalize hm' : ((s.then t).enterMode c mode).setCtl c (fun q => { q with order := none }) = m'
  have hfields : m'.seen (fun q => (q.mode, q.order)) c = some (mode, none) := by
    rw [← hm', ModuleState.setCtl_seen, ModuleState.enterMode_seen_face _ _ _ fun _ => rfl, ModuleState.seen_of_lt _ hlt]
    rfl
  have hfields := ModuleState.ctl_of_seen hfields
  simp only [Prod.mk.injEq] at hfields
  obtain ⟨hentered, hordered⟩ := hfields
  refine ⟨hentered, hordered, fun hnormal hleaves b hb hpending => ?_⟩
  have hbuf : m'.seen (fun q => q.buf b) c = some (((s.then t).ctl c).abortAll 3 |>.buf b) := by
    rw [← hm', ModuleState.setCtl_seen]
    exact (ModuleState.enterMode_left_buf hnormal hleaves b).trans (ModuleState.seen_of_lt _ hlt)
  have hdone := (ModuleState.ctl_of_seen hbuf).trans (Can.abortAll_buf _ 3 hb)
  rw [if_pos hpending] at hdone
  exact ⟨congrArg TxBuf.state hdone, congrArg TxBuf.cause hdone⟩

theorem canBusIntegrated_enters (hc : c < 2) (hint : ((s.then t).ctl c).integrating) (hnet : (s.then t).runs isNetwork)
    (hcfg : (s.then t).configured) (hready : (s.then t).reset.phase = .ready) : Runs (.canBusIntegrated t c) s fun m' =>
      (m'.ctl c).mode = CanMode.ofCode ((s.then t).cfg (canCfg c + 1) 1) ∧ (m'.ctl c).integrating = false := by
  have hlt : c < (s.then t).can.length := ModuleState.ctl_lt (g := Can.integrating) hint (by simp)
  refine runs_of_there (decide_eq_true hc) rfl (if_pos (by simp [hint, hnet, hcfg, hready])) ?_
  generalize CanMode.ofCode _ = mode
  have hseen : (((s.then t).enterMode c mode).setCtl c fun q => { q with integrating := false }).seen (fun q => (q.mode, q.integrating)) c =
      some (mode, false) := by
    rw [ModuleState.setCtl_seen, ModuleState.enterMode_seen_face _ _ _ fun _ => rfl, ModuleState.seen_of_lt _ hlt]
    rfl
  simpa only [Prod.mk.injEq] using ModuleState.ctl_of_seen hseen

theorem canBusOffRecovered_returns (hc : c < 2) (hoff : ((s.then t).ctl c).err = .busOff) (hrec : ((s.then t).ctl c).recovering)
    (hmode : ((s.then t).ctl c).mode = .normal) : Runs (.canBusOffRecovered t c) s fun m' =>
      (m'.ctl c).err = .active ∧ (m'.ctl c).tec = 0 ∧ (m'.ctl c).rec_ = 0 ∧ (m'.ctl c).recovering = false := by
  have hlt : c < (s.then t).can.length := ModuleState.ctl_lt (g := Can.err) hoff (by simp)
  refine runs_of_there (decide_eq_true hc) rfl (if_pos ⟨hoff, hrec, hmode⟩) ?_
  have hseen : (((s.then t).setErrors c 0 0).setCtl c fun q => { q with recovering := false }).seen
      (fun q => (q.err, q.tec, q.rec_, q.recovering)) c = some (.active, 0, 0, false) := by
    rw [ModuleState.setCtl_seen, ModuleState.setErrors_seen fun _ => rfl, ModuleState.seen_of_lt _ hlt]
    rfl
  simpa only [Prod.mk.injEq] using ModuleState.ctl_of_seen hseen

/-! ### Frames -/

/-- A plain object is stored into whole (R371, R372). -/
theorem ModuleState.offerFrame_plain {f : CanFrame} {o sof : Nat} (ho : ((m.ctl c).objs.findIdx fun x => x.bound == some f.id) = o)
    (hlt : o < (m.ctl c).objs.length) (hdedup : ((m.ctl c).objs.getD o {}).dedup = false) (hplain : ((m.ctl c).objs.getD o {}).secured = false) :
    m.offerFrame c sof f = m.setCtl c fun q => { q with objs := upd q.objs o (storeFrame m.now (m.time.stamp sof) f) } := by
  simp only [ModuleState.offerFrame, ho, Nat.not_le.mpr hlt, hdedup, hplain, Bool.false_and, Bool.false_eq_true, if_false]

/-- A controller that has received a good frame, before its objects see it (R365, R371). -/
def Can.heard (q : Can) (rc : Nat) (f : CanFrame) (now : Nat) : Can :=
  { { q with noAck := false, noAckRun := 0, busFault := false }.counted q.tec rc with
    rxFrames := (q.rxFrames + 1) % 2 ^ 32, unverified := q.unverified && !f.brs, idleAt := now }

/-- The module that has received a good frame, before the objects see it (R366, R371, R378). -/
def ModuleState.heardFrame (m : ModuleState) (c rc : Nat) (f : CanFrame) : ModuleState :=
  (((m.clearNoAck c).setErrors c (m.ctl c).tec rc).setCtl c fun q =>
    { q with rxFrames := (q.rxFrames + 1) % 2 ^ 32, unverified := q.unverified && !f.brs, idleAt := m.now }).each [0, 1, 2] fun m b =>
      if ((m.ctl c).buf b).abortAsked then m.abortBuf c b 1 else m

/-- A part that sees no aborts after the aborts that a lost arbitration brings (R378). -/
theorem ModuleState.abortAsked_seen {α : Type} {π : Can → α} (hπ : ∀ q : Can, π q.face = π q) (m : ModuleState) (c : Nat) (l : List Nat) :
    (m.each l fun m b => if ((m.ctl c).buf b).abortAsked then m.abortBuf c b 1 else m).seen π c = m.seen π c := by
  refine m.each_frame l _ (fun n => n.seen π c) fun n b => ?_
  split
  · rw [ModuleState.abortBuf, ModuleState.log_seen (offBus_of_offFace hπ), ModuleState.setCtl_seen]
    refine congrArg (fun g : Can → α => n.seen g c) (funext fun q => ?_)
    have hbufs := upd_map_of_eq TxBuf.loaded q.bufs b (f := fun x => { x with state := .aborted, cause := 1, abortAsked := false }) fun _ => rfl
    rw [← hπ, ← hπ q]
    simp only [Can.face, hbufs]
    rfl
  · rfl

/-- A controller that is seen is one the module has. -/
theorem ModuleState.lt_of_seen {α : Type} {π : Can → α} {x : α} (h : m.seen π c = some x) : c < m.can.length := by
  by_contra hout
  rw [ModuleState.seen_of_le _ hout] at h
  exact absurd h (by simp)

theorem Can.face_face (q : Can) : q.face.face = q.face := by
  simp [Can.face, Can.bus, Function.comp_def, TxBuf.loaded]

theorem ModuleState.seen_congr {α : Type} {π ρ : Can → α} (h : π (m.ctl c) = ρ (m.ctl c)) : m.seen π c = m.seen ρ c := by
  by_cases hlt : c < m.can.length
  · rw [ModuleState.seen_of_lt _ hlt, ModuleState.seen_of_lt _ hlt, h]
  · rw [ModuleState.seen_of_le _ hlt, ModuleState.seen_of_le _ hlt]

theorem ModuleState.heardFrame_face (m : ModuleState) (c rc : Nat) (f : CanFrame) :
    (m.heardFrame c rc f).seen Can.face c = m.seen (fun q => (q.heard rc f m.now).face) c := by
  rw [ModuleState.heardFrame, ModuleState.abortAsked_seen Can.face_face, ModuleState.setCtl_seen,
    ModuleState.setErrors_seen fun q => Can.face_face { q with
      rxFrames := (q.rxFrames + 1) % 2 ^ 32, unverified := q.unverified && !f.brs, idleAt := m.now },
    ModuleState.clearNoAck_seen fun _ => rfl]
  exact ModuleState.seen_congr rfl

theorem offComm_heardFrame {β : Type} {π : ModuleState → β} (h : ∀ m k, π (ModuleState.withComm m k) = π m) (m : ModuleState) (c rc : Nat)
    (f : CanFrame) : π (m.heardFrame c rc f) = π m := by
  refine (ModuleState.each_frame (m := _) [0, 1, 2] _ π fun n b => by rw [apply_ite π, offComm_abortBuf h, ite_self]).trans ?_
  rw [offComm_setCtl h, offComm_setErrors h, offComm_clearNoAck h]

/-- A good frame on a controller in NORMAL is heard, and offered to the objects (R365, R371). -/
theorem canFrameReceived_normal (hc : c < 2) {sof : Nat} {f : CanFrame} (hmode : ((s.then t).ctl c).mode = .normal)
    (herr : ((s.then t).ctl c).err ≠ .busOff) (hrec : ((s.then t).ctl c).rec_ ≤ 127) : Gives (.canFrameReceived t c sof f) s
      (((s.then t).heardFrame c (((s.then t).ctl c).rec_ - 1) f).offerFrame c sof f) := by
  refine gives_of_there (decide_eq_true hc) rfl ?_
  simp only [hmode, herr, Nat.not_lt.mpr hrec, and_false, if_false, reduceCtorEq]
  rfl

/-- What a good frame leaves of a controller, when a plain object of it is bound to the identifier (R365, R371, R372). -/
theorem ModuleState.offerFrame_heard {sof o rc : Nat} {f : CanFrame} (hin : c < m.can.length)
    (ho : ((m.ctl c).objs.findIdx fun x => x.bound == some f.id) = o) (hlt : o < (m.ctl c).objs.length)
    (hdedup : ((m.ctl c).objs.getD o {}).dedup = false) (hplain : ((m.ctl c).objs.getD o {}).secured = false) :
    (((m.heardFrame c rc f).offerFrame c sof f).ctl c).rxFrames = ((m.ctl c).rxFrames + 1) % 2 ^ 32 ∧
    (((m.heardFrame c rc f).offerFrame c sof f).ctl c).rec_ = rc ∧
    (((m.heardFrame c rc f).offerFrame c sof f).ctl c).objs.getD o {} = storeFrame m.now (m.time.stamp sof) f ((m.ctl c).objs.getD o {}) := by
  have hseen := (m.heardFrame_face c rc f).trans (ModuleState.seen_of_lt _ hin)
  have hnow : (m.heardFrame c rc f).now = m.now := offComm_heardFrame (fun _ _ => rfl) m c _ f
  have htime : (m.heardFrame c rc f).time = m.time := offComm_heardFrame (fun _ _ => rfl) m c _ f
  generalize m.heardFrame c rc f = n at *
  have hface := ModuleState.ctl_of_seen hseen
  have hobjs : (n.ctl c).face.objs = (m.ctl c).objs := by rw [hface]; rfl
  have hframes : (n.ctl c).face.rxFrames = ((m.ctl c).rxFrames + 1) % 2 ^ 32 := by rw [hface]; rfl
  have hcount : (n.ctl c).face.rec_ = rc := by rw [hface]; rfl
  change (n.ctl c).objs = _ at hobjs
  have hin' : c < n.can.length := ModuleState.lt_of_seen hseen
  rw [ModuleState.offerFrame_plain (o := o) (by rw [hobjs, ho]) (by rw [hobjs]; exact hlt) (by rw [hobjs]; exact hdedup) (by rw [hobjs]; exact hplain),
    ModuleState.setCtl_ctl hin', hnow, htime]
  refine ⟨hframes, hcount, ?_⟩
  dsimp only
  rw [hobjs, upd_getD_self _ _ _ _ hlt]

/-- A good frame for a plain object of a controller in NORMAL (R365, R371, R372). -/
theorem canFrameReceived_stores (hc : c < 2) {sof o : Nat} {f : CanFrame} (hmode : ((s.then t).ctl c).mode = .normal)
    (herr : ((s.then t).ctl c).err ≠ .busOff) (hrec : ((s.then t).ctl c).rec_ ≤ 127)
    (ho : (((s.then t).ctl c).objs.findIdx fun x => x.bound == some f.id) = o) (hlt : o < ((s.then t).ctl c).objs.length)
    (hdedup : (((s.then t).ctl c).objs.getD o {}).dedup = false) (hplain : (((s.then t).ctl c).objs.getD o {}).secured = false) :
    Runs (.canFrameReceived t c sof f) s fun m' =>
        (m'.ctl c).rxFrames = (((s.then t).ctl c).rxFrames + 1) % 2 ^ 32 ∧ (m'.ctl c).rec_ = ((s.then t).ctl c).rec_ - 1 ∧
        (m'.ctl c).objs.getD o {} = storeFrame (s.then t).now ((s.then t).time.stamp sof) f (((s.then t).ctl c).objs.getD o {}) :=
  ⟨_, canFrameReceived_normal hc hmode herr hrec,
    ModuleState.offerFrame_heard (ModuleState.ctl_lt (g := Can.mode) hmode (by simp)) ho hlt hdedup hplain⟩

/-- An error while receiving on a controller in NORMAL (R365). -/
theorem canRxError_counts (hc : c < 2) (dominant : Bool) (hmode : ((s.then t).ctl c).mode = .normal) (herr : ((s.then t).ctl c).err ≠ .busOff) :
    Runs (.canRxError t c dominant) s fun m' =>
      (m'.ctl c).errors = sat max32 ((s.then t).ctl c).errors ∧ (m'.ctl c).rec_ = min 255 (((s.then t).ctl c).rec_ + if dominant then 9 else 1) := by
  have hin : c < (s.then t).can.length := ModuleState.ctl_lt (g := Can.mode) hmode (by simp)
  generalize hm : s.then t = m at *
  generalize hm1 : ((m.setCtl c fun q => { q with errors := sat max32 q.errors }).saturated max32 (m.ctl c).errors tgModule 0x0900 34).setErrors c
      (m.ctl c).tec (min 255 ((m.ctl c).rec_ + 1)) = m1
  have hrow : Gives (.canRxError t c dominant) s (if dominant then m1.setErrors c (m.ctl c).tec (min 255 ((m.ctl c).rec_ + 9)) else m1) :=
    gives_of_there (decide_eq_true hc) rfl (by rw [hm, ← hm1]; simp only [hmode, herr, if_false])
  refine ⟨_, hrow, ?_⟩
  have hfirst : ∀ rc : Nat, m1.seen (fun q => (q.errors, rc)) c = some (sat max32 (m.ctl c).errors, rc) := fun rc => by
    rw [← hm1, ModuleState.setErrors_seen fun _ => rfl, ModuleState.saturated_seen fun _ => rfl, ModuleState.setCtl_seen, ModuleState.seen_of_lt _ hin]
    rfl
  have hplain : m1.seen (fun q => (q.errors, q.rec_)) c = some (sat max32 (m.ctl c).errors, min 255 ((m.ctl c).rec_ + 1)) := by
    rw [← hm1, ModuleState.setErrors_seen fun _ => rfl, ModuleState.saturated_seen fun _ => rfl, ModuleState.setCtl_seen, ModuleState.seen_of_lt _ hin]
    rfl
  cases dominant with
  | false => simpa only [Prod.mk.injEq, Bool.false_eq_true, if_false] using ModuleState.ctl_of_seen hplain
  | true =>
    have hseen : (m1.setErrors c (m.ctl c).tec (min 255 ((m.ctl c).rec_ + 9))).seen (fun q => (q.errors, q.rec_)) c =
        some (sat max32 (m.ctl c).errors, min 255 ((m.ctl c).rec_ + 9)) := by
      rw [ModuleState.setErrors_seen fun _ => rfl]
      exact hfirst _
    simpa only [Prod.mk.injEq, if_true] using ModuleState.ctl_of_seen hseen

/-! ### AUTO_RATE -/

/-- A dwell that ends before the last candidate (R368). -/
theorem canRateDwellEnd_tries (hc : c < 2) (hmode : ((s.then t).ctl c).mode = .autoRate)
    (hdue : ((s.then t).ctl c).dwellAt + ms ((s.then t).cfg (canCfg c + 36) 2) ≤ (s.then t).now)
    (hmore : ((s.then t).ctl c).trying + 1 < (s.then t).cfg (canCfg c + 38) 1) : Runs (.canRateDwellEnd t c) s fun m' =>
      (m'.ctl c).trying = ((s.then t).ctl c).trying + 1 ∧ (m'.ctl c).dwellAt = (s.then t).now ∧ (m'.ctl c).goodRun = 0 := by
  have hin : c < (s.then t).can.length := ModuleState.ctl_lt (g := Can.mode) hmode (by simp)
  have hwrap : ¬ (s.then t).cfg (canCfg c + 38) 1 ≤ ((s.then t).ctl c).trying + 1 := by omega
  refine runs_of_there (decide_eq_true hc) rfl (if_pos ⟨hmode, decide_eq_true hdue⟩) ?_
  simp only [hwrap, decide_false, Bool.false_and, Bool.false_eq_true, if_false, ModuleState.logIf_false, ModuleState.setCtl_ctl hin, and_self]

/-- Accepting the candidate that is tried (R369). -/
theorem ModuleState.acceptRate_seen (m : ModuleState) (c : Nat) (brs : Bool) :
    (m.acceptRate c brs).seen (fun q => (q.candidate, q.mode, q.rxFrames, q.noAck, q.order)) c =
      m.seen (fun q => (some (m.ctl c).trying, if bit (m.canFlags c) 2 then .normal else .listenOnly, q.rxFrames, q.noAck, q.order)) c := by
  rw [ModuleState.acceptRate, ModuleState.log_seen fun _ => rfl, ModuleState.setCtl_seen, ModuleState.enterMode_seen_face _ _ _ fun _ => rfl,
    ModuleState.setCtl_seen]
  rfl

/-- The second good frame in a row accepts the candidate rate (R368, R369). -/
theorem canFrameReceived_accepts (hc : c < 2) {sof : Nat} {f : CanFrame} (hmode : ((s.then t).ctl c).mode = .autoRate)
    (hrun : ((s.then t).ctl c).goodRun = 1) : Runs (.canFrameReceived t c sof f) s fun m' =>
      (m'.ctl c).candidate = some ((s.then t).ctl c).trying ∧ (m'.ctl c).mode = (if bit ((s.then t).canFlags c) 2 then .normal else .listenOnly) ∧
        (m'.ctl c).rxFrames = (((s.then t).ctl c).rxFrames + 1) % 2 ^ 32 ∧ (m'.ctl c).noAck = false ∧ (m'.ctl c).order = ((s.then t).ctl c).order := by
  have hin : c < (s.then t).can.length := ModuleState.ctl_lt (g := Can.mode) hmode (by simp)
  generalize hm : s.then t = m at *
  generalize hn : ((m.clearNoAck c).setCtl c fun q => { q with
    rxFrames := (q.rxFrames + 1) % 2 ^ 32, unverified := q.unverified && !f.brs, goodRun := q.goodRun + 1, brsSeen := (m.ctl c).brsSeen || f.brs }) = n
  have hrow : Gives (.canFrameReceived t c sof f) s (n.acceptRate c ((m.ctl c).brsSeen || f.brs)) :=
    gives_of_there (decide_eq_true hc) rfl (by rw [hm, ← hn]; simp only [hmode, hrun, Nat.le_refl, if_true])
  refine ⟨_, hrow, ?_⟩
  have hbefore : n.seen (fun q => (q.trying, q.rxFrames, q.noAck, q.order)) c =
      some ((m.ctl c).trying, ((m.ctl c).rxFrames + 1) % 2 ^ 32, false, (m.ctl c).order) := by
    rw [← hn, ModuleState.setCtl_seen, ModuleState.clearNoAck_seen fun _ => rfl, ModuleState.seen_of_lt _ hin]
  have hflags : n.canFlags c = m.canFlags c := by
    rw [← hn]
    exact (offComm_setCtl (π := fun n => n.canFlags c) (fun _ _ => rfl) _ c _).trans (offComm_clearNoAck (π := fun n => n.canFlags c) (fun _ _ => rfl) m c)
  have hin' : c < n.can.length := ModuleState.lt_of_seen hbefore
  have hfields := ModuleState.ctl_of_seen hbefore
  have hseen := ModuleState.ctl_of_seen ((n.acceptRate_seen c ((m.ctl c).brsSeen || f.brs)).trans (ModuleState.seen_of_lt _ hin'))
  simp only [Prod.mk.injEq] at hfields hseen ⊢
  obtain ⟨htrying, hframes, hack, horder⟩ := hfields
  rw [htrying, hflags, hframes, hack, horder] at hseen
  exact hseen

/-! ### Attempts -/

theorem Can.attempts_of_loaded {q r : Can} (h : q.bufs.map TxBuf.loaded = r.bufs.map TxBuf.loaded) (b : Nat) :
    (q.buf b).attempts = (r.buf b).attempts := by
  have hmap : ∀ x : Can, (x.buf b).attempts = ((x.bufs.map TxBuf.loaded).getD b (TxBuf.loaded {})).attempts := fun x => by
    simp only [Can.buf, List.getD_eq_getElem?_getD, List.getElem?_map]
    cases x.bufs[b]? <;> rfl
  rw [hmap, hmap, h]

/-- The module whose controller has sent a frame, before its buffer says so (R365, R366, R377). -/
def ModuleState.sentFrame (m : ModuleState) (c : Nat) : ModuleState :=
  ((m.clearNoAck c).setErrors c ((m.ctl c).tec - 1) (m.ctl c).rec_).setCtl c fun q => { q with txFrames := (q.txFrames + 1) % 2 ^ 32, idleAt := m.now }

theorem ModuleState.sentFrame_face (m : ModuleState) (c : Nat) : (m.sentFrame c).seen Can.face c = m.seen (fun q => Can.face
    { { q with noAck := false, noAckRun := 0, busFault := false }.counted ((m.ctl c).tec - 1) (m.ctl c).rec_ with
      txFrames := (q.txFrames + 1) % 2 ^ 32, idleAt := m.now }) c := by
  rw [ModuleState.sentFrame, ModuleState.setCtl_seen,
    ModuleState.setErrors_seen fun q => Can.face_face { q with txFrames := (q.txFrames + 1) % 2 ^ 32, idleAt := m.now },
    ModuleState.clearNoAck_seen fun _ => rfl]
  rfl

/-- An acknowledged attempt of a host buffer (R365, R377). -/
theorem canTxSuccess_done (hc : c < 2) {b sof : Nat} (hb : b < 3) (hpending : (((s.then t).ctl c).buf b).state = .pending)
    (hoffers : (s.then t).offers c b) : Runs (.canTxSuccess t c b sof) s fun m' =>
      ((m'.ctl c).buf b).state = .done ∧ ((m'.ctl c).buf b).attempts = (((s.then t).ctl c).buf b).attempts + 1 ∧
      (m'.ctl c).tec = ((s.then t).ctl c).tec - 1 ∧ (m'.ctl c).txFrames = (((s.then t).ctl c).txFrames + 1) % 2 ^ 32 := by
  have hbin : b < ((s.then t).ctl c).bufs.length := lt_of_getD (d := {}) TxBuf.state hpending (by simp)
  have hin : c < (s.then t).can.length := by
    refine ModuleState.ctl_lt_of_carries (Bool.and_eq_true_iff.mp hoffers).1
  generalize hm : s.then t = m at *
  have hseen := (m.sentFrame_face c).trans (ModuleState.seen_of_lt _ hin)
  generalize hn : m.sentFrame c = n at *
  have hrow : Gives (.canTxSuccess t c b sof) s ((n.setCtl c fun q => { q with bufs := upd q.bufs b fun x =>
      { x with state := .done, attempts := x.attempts + 1, abortAsked := false } }).logIf ((m.ctl c).buf b).notify evCanTxDone tgModule
        [(c : Int), (b : Int), ((m.time.stamp sof).1 : Int), ((m.time.stamp sof).2 : Int), (((m.ctl c).buf b).attempts + 1 : Nat),
          flagItem ((m.ctl c).buf b).late]) := by
    refine gives_of_there (decide_eq_true hc) rfl ?_
    rw [hm, ← hn]
    simp only [hoffers, hb, Bool.not_true, Bool.false_eq_true, if_false, if_true]
    rfl
  refine ⟨_, hrow, ?_⟩
  have hface := ModuleState.ctl_of_seen hseen
  have hbufs : (n.ctl c).bufs.map TxBuf.loaded = (m.ctl c).bufs.map TxBuf.loaded := congrArg Can.bufs hface
  have hlen : b < (n.ctl c).bufs.length := by
    have := congrArg List.length hbufs
    simp only [List.length_map] at this
    omega
  have htec : (n.ctl c).face.tec = (m.ctl c).tec - 1 := by rw [hface]; rfl
  have hframes : (n.ctl c).face.txFrames = ((m.ctl c).txFrames + 1) % 2 ^ 32 := by rw [hface]; rfl
  have hafter : ∀ k : ModuleState, k.seen (fun q => ((q.buf b).state, (q.buf b).attempts, q.tec, q.txFrames)) c =
      some (.done, ((m.ctl c).buf b).attempts + 1, (m.ctl c).tec - 1, ((m.ctl c).txFrames + 1) % 2 ^ 32) → ((k.ctl c).buf b).state = .done ∧
        ((k.ctl c).buf b).attempts = ((m.ctl c).buf b).attempts + 1 ∧ (k.ctl c).tec = (m.ctl c).tec - 1 ∧
        (k.ctl c).txFrames = ((m.ctl c).txFrames + 1) % 2 ^ 32 := fun k hk => by
    simpa only [Prod.mk.injEq] using ModuleState.ctl_of_seen hk
  refine hafter _ ?_
  rw [ModuleState.logIf_seen fun _ => rfl, ModuleState.setCtl_seen, ModuleState.seen_of_lt _ (ModuleState.lt_of_seen hseen)]
  have hattempts : ((n.ctl c).buf b).attempts = ((m.ctl c).buf b).attempts := Can.attempts_of_loaded hbufs b
  have hbuf : (upd (n.ctl c).bufs b fun x => { x with state := .done, attempts := x.attempts + 1, abortAsked := false }).getD b {} =
      { (n.ctl c).buf b with state := .done, attempts := ((n.ctl c).buf b).attempts + 1, abortAsked := false } := upd_getD_self _ _ _ _ hlen
  change (n.ctl c).tec = _ at htec
  change (n.ctl c).txFrames = _ at hframes
  simp only [Can.buf] at hattempts hbuf ⊢
  rw [hbuf, htec, hframes, hattempts]

/-- A controller whose attempt of a buffer has ended in an error frame without an acknowledgement error (R365, R377). -/
def Can.failed (q : Can) (b now : Nat) : Can :=
  { q with
    errors := sat max32 q.errors, noAckRun := 0, idleAt := now, bufs := upd q.bufs b fun x => { x with attempts := x.attempts + 1 } }

theorem canTxErrorFrame_fails (hc : c < 2) {b : Nat} (hb : b < 3) (hpending : (((s.then t).ctl c).buf b).state = .pending)
    (hoffers : (s.then t).offers c b) (hretry : (((s.then t).ctl c).buf b).retry = 0) (hasked : (((s.then t).ctl c).buf b).abortAsked = false)
    (htec : ((s.then t).ctl c).tec + 8 < 256) : Runs (.canTxErrorFrame t c b .other) s fun m' =>
      ((m'.ctl c).buf b).state = .pending ∧ ((m'.ctl c).buf b).attempts = (((s.then t).ctl c).buf b).attempts + 1 ∧
      (m'.ctl c).tec = ((s.then t).ctl c).tec + 8 ∧ (m'.ctl c).errors = sat max32 ((s.then t).ctl c).errors := by
  have hbin : b < ((s.then t).ctl c).bufs.length := lt_of_getD (d := {}) TxBuf.state hpending (by simp)
  have hin : c < (s.then t).can.length := ModuleState.ctl_lt_of_carries (Bool.and_eq_true_iff.mp hoffers).1
  generalize hm : s.then t = m at *
  generalize hn : ((m.setCtl c fun q => q.failed b m.now).saturated max32 (m.ctl c).errors tgModule 0x0900 34).setErrors c ((m.ctl c).tec + 8)
    (m.ctl c).rec_ = n
  have hcalm : errorOf ((m.ctl c).tec + 8) (m.ctl c).rec_ ≠ .busOff := by
    simp only [errorOf, Nat.not_le.mpr htec, if_false]
    split <;> simp
  have hseen : n.seen Can.bus c = some ((((m.ctl c).failed b m.now).counted ((m.ctl c).tec + 8) (m.ctl c).rec_).bus) := by
    rw [← hn, ModuleState.setErrors_calm (fun _ => rfl) (.inr hcalm), ModuleState.saturated_seen fun _ => rfl, ModuleState.setCtl_seen,
      ModuleState.seen_of_lt _ hin]
  have hbus := ModuleState.ctl_of_seen hseen
  have hbufs : (n.ctl c).bus.bufs = ((m.ctl c).failed b m.now).bufs := by rw [hbus]; rfl
  change (n.ctl c).bufs = _ at hbufs
  have htecs : (n.ctl c).bus.tec = (m.ctl c).tec + 8 := by rw [hbus]; rfl
  have herrors : (n.ctl c).bus.errors = sat max32 (m.ctl c).errors := by rw [hbus]; rfl
  have hbuf : (n.ctl c).buf b = { (m.ctl c).buf b with attempts := ((m.ctl c).buf b).attempts + 1 } := by
    rw [Can.buf, hbufs]
    exact upd_getD_self _ _ _ _ hbin
  have hrow : Gives (.canTxErrorFrame t c b .other) s n := by
    refine gives_of_there (decide_eq_true hc) rfl ?_
    have hnever : (0 == 16) = false := rfl
    have hother : b ≠ 4 := by omega
    simp only [Can.failed] at hn
    simp only [hm, hoffers, Bool.not_true, Bool.false_eq_true, if_false, tecAfter, hnever, Bool.false_and, Bool.or_false, if_neg hother,
      ModuleState.logIf_false, if_pos hb, hn, hbuf, hpending, hretry, hasked]
    simp
  exact ⟨n, hrow, by rw [hbuf, hpending], by rw [hbuf], htecs, herrors⟩

/-! ### The transport -/

theorem ModuleState.tpError_seen {α : Type} {π : Can → α} (hπ : ∀ q : Can, π q.bus = π q) (m : ModuleState) (c cause : Nat) :
    (m.tpError c cause).seen π c = m.seen (fun q => π { q with tpErrors := sat max16 q.tpErrors }) c := by
  rw [ModuleState.tpError, ModuleState.log_seen hπ, ModuleState.saturated_seen hπ, ModuleState.setCtl_seen]

theorem canTpNCrTimeout_aborts (hc : c < 2) {x : TpRx} (hrx : ((s.then t).ctl c).tpRx = some x)
    (hdue : x.last + ms ((s.then t).cfg (canCfg c + 32) 2) ≤ (s.then t).now) : Runs (.canTpNCrTimeout t c) s fun m' =>
      (m'.ctl c).tpRx = none ∧ (m'.ctl c).tpErrors = sat max16 ((s.then t).ctl c).tpErrors := by
  have hin : c < (s.then t).can.length := ModuleState.ctl_lt (g := Can.tpRx) hrx (by simp)
  have hd : (s.then t).due x.last (ms ((s.then t).cfg (canCfg c + 32) 2)) = true := decide_eq_true hdue
  have hrow : Gives (.canTpNCrTimeout t c) s (((s.then t).setCtl c fun q => { q with tpRx := none }).tpError c 0) :=
    gives_of_there (decide_eq_true hc) rfl (by simp only [hrx, hd, if_true])
  refine ⟨_, hrow, ?_⟩
  have hseen : (((s.then t).setCtl c fun q => { q with tpRx := none }).tpError c 0).seen (fun q => (q.tpRx, q.tpErrors)) c =
      some (none, sat max16 ((s.then t).ctl c).tpErrors) := by
    rw [ModuleState.tpError_seen fun _ => rfl, ModuleState.setCtl_seen, ModuleState.seen_of_lt _ hin]
  simpa only [Prod.mk.injEq] using ModuleState.ctl_of_seen hseen

theorem canTpNBsTimeout_aborts (hc : c < 2) {x : TpTx} {b : Nat} (htx : ((s.then t).ctl c).tpTx = some x) (hwait : x.waitFc = some b)
    (hdue : b + ms ((s.then t).cfg (canCfg c + 34) 2) ≤ (s.then t).now) (hbuf : ((s.then t).ctl c).tpBuf = none) :
    Runs (.canTpNBsTimeout t c) s fun m' => (m'.ctl c).tpErrors = sat max16 ((s.then t).ctl c).tpErrors := by
  have hin : c < (s.then t).can.length := ModuleState.ctl_lt (g := Can.tpTx) htx (by simp)
  have hd : (s.then t).dueO x.waitFc (ms ((s.then t).cfg (canCfg c + 34) 2)) = true := by rw [hwait]; exact decide_eq_true hdue
  have hrow : Gives (.canTpNBsTimeout t c) s ((s.then t).abortTx c 1) :=
    gives_of_there (decide_eq_true hc) rfl (by simp only [htx, hd, hbuf, Option.isNone_none, Bool.and_self, if_true])
  refine ⟨_, hrow, ?_⟩
  have hseen : ((s.then t).abortTx c 1).seen Can.tpErrors c = some (sat max16 ((s.then t).ctl c).tpErrors) := by
    rw [ModuleState.abortTx, ModuleState.lostOn_seen fun _ => rfl, ModuleState.tpError_seen fun _ => rfl, ModuleState.setCtl_seen,
      ModuleState.seen_of_lt _ hin]
    have hkept : ∀ q, ((s.then t).tpStart c q).tpErrors = q.tpErrors := fun q => by
      have h := congrArg Can.tpErrors ((s.then t).tpStart_bus c q)
      exact h
    simp only [hkept]
  exact ModuleState.ctl_of_seen hseen

/-- A single frame delivers its message (R381). -/
theorem canTpFrameReceived_single (hc : c < 2) {d : List Byte} {n : Nat} (hcarries : ((s.then t).ctl c).carries) (hcfg : (s.then t).configured)
    (hreq : (s.then t).reqId c ≠ 0xFFFFFFFF) (hrx : ((s.then t).ctl c).tpRx = none) (hn : getN d 0 1 = n) (hpos : 1 ≤ n) (hle : n ≤ 7)
    (hlen : n < d.length) : Gives (.canTpFrameReceived t c d) s ((s.then t).deliver (if c = 0 then .canA else .canB) (0, 0) ((d.drop 1).take n)) := by
  have hserves : (((s.then t).ctl c).carries && (s.then t).configured && (s.then t).reqId c != 0xFFFFFFFF) = true := by simp [hcarries, hcfg, hreq]
  have hkind : n / 16 = 0 := by omega
  have hmod : n % 16 = n := by omega
  have hreceive : (s.then t).tpReceive c d = (s.then t, some ((d.drop 1).take n)) := by
    have hwhole : ¬ ((d.drop 1).take n).length < n := by simp; omega
    have hone : n ≠ 0 := by omega
    simp only [ModuleState.tpReceive, hcarries, hcfg, hreq, hrx, hn, hkind, hmod, hone, hwhole, decide_false, Bool.not_true, Bool.or_self, or_self,
      Bool.false_eq_true, if_false, Option.isSome_none]
  refine gives_of_there (decide_eq_true hc) rfl ?_
  simp only [hserves, hreceive, Bool.not_true, Bool.false_eq_true, if_false]

/-- Flow control leaves the reception it is for (R381). -/
theorem ModuleState.sendFc_tpRx (m : ModuleState) (i status : Nat) (q : Can) : (m.sendFc i status q).tpRx = q.tpRx := by
  unfold ModuleState.sendFc
  dsimp only
  split <;> rfl

/-- A first frame opens a reception (R381). -/
theorem canTpFrameReceived_first (hc : c < 2) {d : List Byte} {n : Nat} (hcarries : ((s.then t).ctl c).carries) (hcfg : (s.then t).configured)
    (hreq : (s.then t).reqId c ≠ 0xFFFFFFFF) (hrx : ((s.then t).ctl c).tpRx = none) (h0 : getN d 0 1 = 16 + n / 256) (h1 : getN d 1 1 = n % 256)
    (hpos : 1 ≤ n) (hlt : n < 4096) : Runs (.canTpFrameReceived t c d) s fun m' =>
      (m'.ctl c).tpRx = some { len := n, got := (d.drop 2).take n, next := 1, block := 0, last := (s.then t).now } := by
  have hserves : (((s.then t).ctl c).carries && (s.then t).configured && (s.then t).reqId c != 0xFFFFFFFF) = true := by simp [hcarries, hcfg, hreq]
  have hkind : (16 + n / 256) / 16 = 1 := by omega
  have hshort : (16 + n / 256) % 16 * 256 + n % 256 = n := by omega
  have hone : n ≠ 0 := by omega
  have hfits : ¬ 4096 < n := by omega
  have hreceive : (s.then t).tpReceive c d = ((s.then t).setCtl c fun q => (s.then t).sendFc c 0
      { q with tpRx := some { len := n, got := (d.drop 2).take n, next := 1, block := 0, last := (s.then t).now } }, none) := by
    simp only [ModuleState.tpReceive, hcarries, hcfg, hreq, hrx, h0, h1, hkind, hshort, hone, hfits, decide_false, Bool.not_true, Bool.or_self,
      Bool.false_eq_true, if_false, Option.isSome_none]
  refine runs_of_there (m' := ((s.then t).tpReceive c d).1) (decide_eq_true hc) rfl ?_ ?_
  · simp only [hserves, hreceive, Bool.not_true, Bool.false_eq_true, if_false]
  · rw [hreceive, ModuleState.setCtl_ctl (ModuleState.ctl_lt_of_carries hcarries), ModuleState.sendFc_tpRx]

/-- A bus fault sets its flag and is logged (R362, R386). -/
theorem gives_busFault {i : Instr} {cause : Nat} (hc : c < 2) (hnet : (s.then t).runs isNetwork)
    (he : exec i s = happen (c < 2) t (fun m => if m.runs isNetwork then m.busFault c cause else m) s) : Gives i s
      (((s.then t).setCtl c fun q => { q with busFault := true }).log evCanBusFault tgModule [(c : Int), (cause : Int)]) :=
  gives_of_there (decide_eq_true hc) he (if_pos hnet)

/-- Settles O27, row by row. -/
theorem canBusRowsRun : Obligations.CanBusRowsRun := by
  intro s t c hc
  refine ⟨fun _ => canModeApply_applies hc, canBusIntegrated_enters hc, canBusOffRecovered_returns hc, fun h => gives_busFault hc h rfl,
    fun h => gives_busFault hc h rfl, fun h => gives_busFault hc h rfl, fun sof f o hmode herr hrec ho hlt hdedup hplain => ?_,
    fun dominant => canRxError_counts hc dominant, canRateDwellEnd_tries hc, fun _ _ => canFrameReceived_accepts hc,
    fun b sof hb _ _ hpending => canTxSuccess_done hc hb hpending,
    fun b hb _ _ hpending hoffers hretry hasked => canTxErrorFrame_fails hc hb hpending hoffers hretry hasked,
    fun _ => canTpNCrTimeout_aborts hc, fun _ _ => canTpNBsTimeout_aborts hc, fun _ _ => canTpFrameReceived_single hc,
    fun _ _ => canTpFrameReceived_first hc⟩
  obtain ⟨m', hrow, hframes, hcount, hobj⟩ := canFrameReceived_stores (sof := sof) hc hmode herr hrec ho hlt hdedup hplain
  refine ⟨m', hrow, hframes, hcount, ?_⟩
  simp only [hobj, storeFrame, and_self]

end Sys2Proof.Machine
end

section
/-! The culvert's commands (R410 to R423): the result each command's own conditions give. -/

namespace Sys2Proof.Machine

variable {m : ModuleState} {c : Cmd}

theorem cvStartBody_starts (haligned : getN c.data 0 4 % 32 = 0) (hregion : cvDescRegion (getN c.data 0 4)) (hlow : 1 ≤ getN c.data 4 2)
    (hhigh : getN c.data 4 2 ≤ 1024) (hmarks : getN c.data 6 2 < getN c.data 4 2) (hhost : c.idx < 14) (hruns : m.cv.halted = false)
    (hstate : (m.chan c.idx).state = .idle ∨ (m.chan c.idx).state = .error ∨ (m.chan c.idx).state = .lapEnd) : cvStartBody c m =
      { acts := [.recd]
        m := m.setChan c.idx fun _ =>
          { state := .running, descAddr := getN c.data 0 4, start := getN c.data 0 4, high := getN c.data 4 2, low := getN c.data 6 2
            lapLimit := getN c.data 8 2, due := true } } := by
  have hform : ¬ (getN c.data 0 4 % 32 ≠ 0 ∨ !cvDescRegion (getN c.data 0 4) ∨ getN c.data 4 2 < 1 ∨ 1024 < getN c.data 4 2 ∨
      getN c.data 4 2 ≤ getN c.data 6 2) := by
    simp only [haligned, hregion, Bool.not_true, Bool.false_eq_true, ne_eq, not_true_eq_false, false_or, not_or]
    omega
  have hfree : ¬ ((m.chan c.idx).state ≠ .idle ∧ (m.chan c.idx).state ≠ .error ∧ (m.chan c.idx).state ≠ .lapEnd) := by tauto
  simp only [cvStartBody, if_neg hform, Nat.not_le.mpr hhost, hruns, Bool.false_eq_true, if_false, if_neg hfree]

/-- A stop at a descriptor boundary is answered at once (R415). -/
theorem cvStopBody_boundary (hhost : c.idx < 14) (hstate : (m.chan c.idx).state = .starved ∨ (m.chan c.idx).state = .lapEnd) : cvStopBody c m =
    { acts := [.recd], data := leBytes 4 (m.chan c.idx).descAddr
      m := (m.setChan c.idx fun q => { q with state := .idle, due := false, desc := none, flowing := false }).log evCvStopped (tgChan c.idx)
        [(c.idx : Int), ((m.chan c.idx).descAddr : Int)] } := by
  rcases hstate with h | h <;> simp [cvStopBody, h, Nat.not_le.mpr hhost]

/-- A stop in a descriptor waits for it (R415). -/
theorem cvStopBody_waits (hhost : c.idx < 14) (hstate : (m.chan c.idx).state = .running) (hdue : (m.chan c.idx).due = false) : cvStopBody c m =
    { acts := [.recd], wait := true, m := m.setChan c.idx fun q => { q with state := .stopping, stops := q.stops ++ [c.ref] } } := by
  simp [cvStopBody, hstate, hdue, Nat.not_le.mpr hhost]

theorem culvertClearBody_clears (h : m.cv.halted) : culvertClearBody c m =
    { acts := [.recd]
      m := { m with cv := { m.cv with
        halted := false, chans := (m.cv.chans.take 14).map (fun q => { q with state := .idle }) ++ m.cv.chans.drop 14 } } } :=
  if_pos h

theorem cvTraceSetBody_sets (h : getN c.data 0 2 ≠ 0) : cvTraceSetBody c m =
    { acts := [.recd], data := leBytes 4 (m.cv.traces.getD c.idx {}).drops ++ leBytes 2 (m.cv.traces.getD c.idx {}).words.length
      m := { m with cv := { m.cv with traces := upd m.cv.traces c.idx fun q =>
        { on := bit (getN c.data 2 1) 0, div := getN c.data 0 2, words := if bit (getN c.data 2 1) 0 then q.words else [], drops := 0 } } } } :=
  if_neg h

/-- Settles O33: the result of each command, and with it its row's effect. -/
theorem culvertCommandsDo : Obligations.CulvertCommandsDo := by
  intro s p
  refine ⟨fun h1 h2 h3 h4 h5 h6 h7 h8 => ?_, fun h1 h2 => ?_, fun h1 h2 h3 => ?_, fun h => ?_, fun h => ?_⟩
  · exact does_of_ok rfl (cvStartBody_starts (c := cmdOf cvStartSpec p s) h1 h2 h3 h4 h5 h6 h7 h8) rfl
  · exact does_of_ok rfl (cvStopBody_boundary (c := cmdOf cvStopSpec p s) h1 h2) rfl
  · exact does_of_ok rfl (cvStopBody_waits (c := cmdOf cvStopSpec p s) h1 h2 h3) rfl
  · exact does_of_ok rfl (culvertClearBody_clears (c := cmdOf culvertClearSpec p s) h) rfl
  · exact does_of_ok rfl (cvTraceSetBody_sets (c := cmdOf cvTraceSetSpec p s) h) rfl

end Sys2Proof.Machine
end

section
/-! The culvert's rows (R403 to R418): what a write-back leaves in memory, what a channel does next, and what a halt makes of all of them. -/

namespace Sys2Proof.Machine

variable {s : State} {t c : Nat} {m : ModuleState} {d : Desc}

/-! ### Write-backs -/

theorem writeBack_outside (m : ModuleState) (mem : Memory) (a : Nat) (d : Desc) (moved result : Nat) (halt tail : Bool) {x : Nat}
    (h : x < a ∨ (a + 8 ≤ x ∧ (x < a + 28 ∨ bit d.ctrl 13 = false)) ∨ a + 32 ≤ x) :
    (writeBack m mem a d moved result halt tail).read x = mem.read x := by
  have hlen : ∀ v, (leBytes 4 v).length = 4 := fun v => rfl
  unfold writeBack
  dsimp only
  rw [Memory.read_store_outside _ _ _ _ (by rw [hlen]; omega)]
  split
  · next hstamp =>
    rw [Memory.read_store_outside _ _ _ _ (by rw [hlen]; simp [hstamp] at h; omega), Memory.read_store_outside _ _ _ _ (by rw [hlen]; omega)]
  · rw [Memory.read_store_outside _ _ _ _ (by rw [hlen]; omega)]

theorem leNat_stored {mem : Memory} (h : mem.wf) (a : Nat) {v : Nat} (hv : v < 2 ^ 32) : leNat ((mem.store a (leBytes 4 v)).bytes a 4) = v :=
  (congrArg leNat (Memory.bytes_store h a (leBytes 4 v))).trans (leNat_leBytes4 hv)

theorem Memory.bytes_storeWord_outside (mem : Memory) {a x n : Nat} (v : Nat) (h : x + n ≤ a ∨ a + 4 ≤ x) :
    (mem.store a (leBytes 4 v)).bytes x n = mem.bytes x n := by
  induction n generalizing x with
  | zero => rfl
  | succ n ih =>
    have hread : (mem.store a (leBytes 4 v)).read x = mem.read x :=
      Memory.read_store_outside mem a (leBytes 4 v) x (by rw [show (leBytes 4 v).length = 4 from rfl]; omega)
    rw [Memory.bytes, Memory.bytes, ih (by omega), hread]

section

variable {mem : Memory} (h : mem.wf) (m : ModuleState) (a : Nat) (d : Desc) (moved result : Nat) (halt tail : Bool)
include h

theorem writeBack_status (hsmall : bitOf tail 30 + bitOf halt 29 + result * 2 ^ 24 + d.ctrl % 2 ^ 24 < 2 ^ 32) :
    leNat ((writeBack m mem a d moved result halt tail).bytes a 4) = bitOf tail 30 + bitOf halt 29 + result * 2 ^ 24 + d.ctrl % 2 ^ 24 := by
  refine leNat_stored (mem := if bit d.ctrl 13 then _ else _) ?_ a hsmall
  split
  · exact Memory.store_wf (Memory.store_wf h _ _) _ _
  · exact Memory.store_wf h _ _

theorem writeBack_count (hsmall : moved < 2 ^ 32) : leNat ((writeBack m mem a d moved result halt tail).bytes (a + 4) 4) = moved := by
  unfold writeBack
  dsimp only
  rw [Memory.bytes_storeWord_outside _ _ (by omega)]
  split
  · rw [Memory.bytes_storeWord_outside _ _ (by omega)]
    exact leNat_stored h _ hsmall
  · exact leNat_stored h _ hsmall

theorem writeBack_stamp (hstamp : bit d.ctrl 13) :
    leNat ((writeBack m mem a d moved result halt tail).bytes (a + 28) 4) = m.count % 2 ^ 32 := by
  unfold writeBack
  dsimp only
  rw [Memory.bytes_storeWord_outside _ _ (by omega), if_pos hstamp]
  refine (congrArg leNat (Memory.bytes_store (Memory.store_wf h _ _) _ (leBytes 4 m.count))).trans ?_
  simp only [leBytes, leNat, BitVec.toNat_ofNat]
  omega

end

/-! ### What a row's bookkeeping leaves of the engine -/

@[simp] theorem ModuleState.mendBack_cv (m : ModuleState) (a : Nat) (d : Desc) : (m.mendBack a d).cv = m.cv := by
  unfold ModuleState.mendBack
  dsimp only
  split <;> rfl

@[simp] theorem ModuleState.settles_cv (m : ModuleState) (l : List Nat) (data : Option (List Byte)) :
    (m.each l fun m ref => m.settle ref none data).cv = m.cv := m.each_frame _ _ ModuleState.cv fun _ _ => rfl

theorem ModuleState.chan_of_cv {n : ModuleState} (h : n.cv = m.cv) (c : Nat) : n.chan c = m.chan c := by rw [ModuleState.chan, h]; rfl

@[simp] theorem ModuleState.logIf_chan (m : ModuleState) (b : Bool) (code source : Nat) (items : List Int) (c : Nat) :
    (m.logIf b code source items).chan c = m.chan c := ModuleState.chan_of_cv (by simp) c

@[simp] theorem ModuleState.log_chan (m : ModuleState) (code source : Nat) (items : List Int) (c : Nat) :
    (m.log code source items).chan c = m.chan c := ModuleState.chan_of_cv (by simp) c

/-- A channel that is not as a missing one is in the list. -/
theorem ModuleState.chan_lt {β : Type} {g : CvChan → β} {b : β} (h : g (m.chan c) = b) (hb : g {} ≠ b) : c < m.cv.chans.length :=
  lt_of_getD g h hb

theorem ModuleState.setChan_congr {f g : CvChan → CvChan} (h : f (m.chan c) = g (m.chan c)) : m.setChan c f = m.setChan c g :=
  congrArg (fun l => { m with cv := { m.cv with chans := l } }) (upd_congr h)

/-! ### Starting a descriptor -/

/-- The descriptor a channel reads, without a list. -/
def descAt (mem : Memory) (a : Nat) : Desc :=
  { ctrl := leNat (mem.bytes (a + 0) 4), count := leNat (mem.bytes (a + 4) 4) % 2 ^ 24, src := leNat (mem.bytes (a + 8) 4)
    dst := leNat (mem.bytes (a + 12) 4), next := leNat (mem.bytes (a + 16) 4), sgl := [] }

/-- Its format is good (R407). -/
def formatAt (mem : Memory) (a : Nat) : Bool :=
  descFormatOk (descAt mem a) (leNat (mem.bytes (a + 4) 4)) (leNat (mem.bytes (a + 20) 4)) (leNat (mem.bytes (a + 24) 2)) (leNat (mem.bytes (a + 26) 2))

/-- A descriptor of a good format without a list has no list pointer (R407). -/
theorem sglPtr_of_format {mem : Memory} {a : Nat} (h : formatAt mem a) (hg : (descAt mem a).gather = false) (hs : (descAt mem a).scatter = false) :
    leNat (mem.bytes (a + 20) 4) = 0 := by
  simp only [formatAt, descFormatOk, hg, hs, Bool.and_eq_true, Bool.false_or, beq_iff_eq] at h
  exact h.1.1.1.1.1.1.2.1

theorem cvStart_starved {mem : Memory} (hund : m.host.damaged = []) (hown : bit (descAt mem (m.chan c).descAddr).ctrl 31 = false) :
    cvStart c (m, mem) = (m.starve c, mem) := by
  simp only [descAt] at hown
  simp only [cvStart, hund, List.any_nil, Bool.false_eq_true, if_false, hown, Bool.not_false, if_true]

theorem ModuleState.starve_chan (h : c < m.cv.chans.length) : (m.starve c).chan c = { m.chan c with state := .starved, due := false } := by
  simp only [ModuleState.starve, ModuleState.logIf_chan, ModuleState.setChan_chan h]

/-- A good unpaced descriptor without a list starts (R407, R410). -/
theorem cvStart_starts {mem : Memory} (hund : m.host.damaged = [])
    (hown : bit (descAt mem (m.chan c).descAddr).ctrl 31) (hg : (descAt mem (m.chan c).descAddr).gather = false)
    (hs : (descAt mem (m.chan c).descAddr).scatter = false) (hgood : formatAt mem (m.chan c).descAddr) (hpace : (descAt mem (m.chan c).descAddr).pace = 0) :
    cvStart c (m, mem) = (m.setChan c fun q =>
      { q with state := .running, due := false, desc := some (descAt mem (m.chan c).descAddr), moved := 0, flowing := true }, mem) := by
  have hptr := sglPtr_of_format hgood hg hs
  simp only [formatAt, descAt, Desc.gather, Desc.scatter, Desc.pace, hptr] at hown hg hs hgood hpace
  have hready : ∀ q : CvChan, ∀ n : ModuleState, n.paceReady q (descAt mem (m.chan c).descAddr) = true := fun q n => by
    simp only [ModuleState.paceReady, descAt, Desc.pace, hpace, beq_self_eq_true, Bool.true_or]
  simp only [descAt] at hready
  simp only [cvStart, hund, List.any_nil, Bool.false_eq_true, if_false, Desc.gather, Desc.scatter, hg, hs, Bool.or_self, Bool.false_and, hown,
    Bool.not_true, hptr, hgood, Option.isSome_none, hready, if_true, ModuleState.setChan_setChan]
  rfl

/-- A descriptor with a format error ends at once (R407, R420). -/
theorem cvStart_badFormat {mem : Memory} (hund : m.host.damaged = []) (hown : bit (descAt mem (m.chan c).descAddr).ctrl 31)
    (hg : (descAt mem (m.chan c).descAddr).gather = false) (hs : (descAt mem (m.chan c).descAddr).scatter = false)
    (hbad : formatAt mem (m.chan c).descAddr = false) : ∃ d, d.ctrl = (descAt mem (m.chan c).descAddr).ctrl ∧
      cvStart c (m, mem) = cvError c d 0 1 (m.setChan c fun q =>
        { q with state := .running, due := false, desc := some d, moved := 0, flowing := false }, mem) := by
  refine ⟨{ descAt mem (m.chan c).descAddr with sglPtr := leNat (mem.bytes ((m.chan c).descAddr + 20) 4) }, rfl, ?_⟩
  have hbad' : descFormatOk { descAt mem (m.chan c).descAddr with sglPtr := leNat (mem.bytes ((m.chan c).descAddr + 20) 4) }
    (leNat (mem.bytes ((m.chan c).descAddr + 4) 4)) (leNat (mem.bytes ((m.chan c).descAddr + 20) 4))
    (leNat (mem.bytes ((m.chan c).descAddr + 24) 2)) (leNat (mem.bytes ((m.chan c).descAddr + 26) 2)) = false := hbad
  simp only [descAt, Desc.gather, Desc.scatter] at hown hg hs hbad'
  simp only [cvStart, hund, List.any_nil, Bool.false_eq_true, if_false, Desc.gather, Desc.scatter, hg, hs, Bool.or_self, Bool.false_and, hown,
    Bool.not_true, hbad', Bool.not_false, if_true]
  rfl

/-- A descriptor that ends in an error (R407, R415). -/
theorem cvError_chan (hlt : c < m.cv.chans.length) (d : Desc) (moved result : Nat) (mem : Memory) :
    ((cvError c d moved result (m, mem)).1.chan c).state = (if (m.chan c).stops = [] then .error else .idle) ∧
    ((cvError c d moved result (m, mem)).1.chan c).desc = none := by
  unfold cvError
  dsimp only
  rw [ModuleState.chan_of_cv (ModuleState.mendBack_cv _ _ _), ModuleState.chan_of_cv (ModuleState.settles_cv _ _ _)]
  generalize hm2 : ModuleState.log _ evCvDescError _ _ = m2
  have hchan : m2.chan c = { m.chan c with state := .error, desc := none, due := false, sink := [], sinkBad := false, stops := [] } := by
    rw [← hm2, ModuleState.log_chan]
    exact (ModuleState.chan_of_cv (m := m.setChan c _) rfl c).trans (ModuleState.setChan_chan hlt _)
  have hlt2 : c < m2.cv.chans.length := by
    rw [← hm2]
    simpa [ModuleState.cvIrq, ModuleState.setChan] using hlt
  by_cases hstops : (m.chan c).stops = []
  · rw [hstops, List.isEmpty_nil, if_pos rfl, hchan]
    exact ⟨rfl, rfl⟩
  · rw [if_neg (by simpa using hstops), if_neg hstops, ModuleState.log_chan, ModuleState.setChan_chan hlt2, hchan]
    exact ⟨rfl, rfl⟩

/-! ### Completion -/

/-- A channel whose descriptor has ended well: counted, and logged where it asks for it (R408). -/
def ModuleState.cvEnds (m : ModuleState) (c : Nat) (d : Desc) : ModuleState :=
  ((m.setChan c fun q => { q with desc := none, flowing := false, descriptors := (q.descriptors + 1) % 2 ^ 32 }).cvIrq (bit d.ctrl 15)).logIf
    (bit d.ctrl 14) evCvDone (tgChan c) [(c : Int), ((m.chan c).descAddr : Int), (d.count : Int)]

theorem ModuleState.cvEnds_length (m : ModuleState) (c : Nat) (d : Desc) : (m.cvEnds c d).cv.chans.length = m.cv.chans.length := by
  simp [ModuleState.cvEnds, ModuleState.cvIrq, ModuleState.setChan]

theorem ModuleState.cvEnds_chan (hlt : c < m.cv.chans.length) (d : Desc) : (m.cvEnds c d).chan c =
    { m.chan c with desc := none, flowing := false, descriptors := ((m.chan c).descriptors + 1) % 2 ^ 32 } := by
  rw [ModuleState.cvEnds, ModuleState.logIf_chan]
  exact (ModuleState.chan_of_cv (m := m.setChan c _) rfl c).trans (ModuleState.setChan_chan hlt _)

/-- A channel that stops at the descriptor's end (R415). -/
theorem cvFollow_stopping (hlt : c < m.cv.chans.length) (hstate : (m.chan c).state = .stopping) : (m.cvFollow c d).chan c =
    { m.chan c with state := .idle, stops := [], descAddr := if bit d.ctrl 12 then (m.chan c).descAddr else d.next } := by
  simp only [ModuleState.cvFollow, hstate, if_true]
  rw [ModuleState.chan_of_cv (ModuleState.settles_cv _ _ _), ModuleState.log_chan, ModuleState.setChan_chan hlt]

theorem cvFollow_end (hlt : c < m.cv.chans.length) (hstate : (m.chan c).state ≠ .stopping) (hend : bit d.ctrl 12) :
    (m.cvFollow c d).chan c = { m.chan c with state := .idle } := by
  simp only [ModuleState.cvFollow, hstate, hend, if_true, if_false, ModuleState.setChan_chan hlt]

theorem cvFollow_next (hlt : c < m.cv.chans.length) (hstate : (m.chan c).state ≠ .stopping) (hend : bit d.ctrl 12 = false)
    (hnext : d.next ≠ (m.chan c).start) : (m.cvFollow c d).chan c = { m.chan c with descAddr := d.next, due := true, state := .running } := by
  have hlap : (d.next == (m.chan c).start) = false := beq_eq_false_iff_ne.mpr hnext
  simp only [ModuleState.cvFollow, hstate, hend, hlap, Bool.false_eq_true, if_false, Bool.false_and, ModuleState.logIf_false, ModuleState.setChan_chan hlt]

theorem sat_eq_min (max v : Nat) : sat max v = min max (v + 1) := by
  unfold sat
  split <;> omega

/-- A channel that returns to the descriptor it started at (R414). -/
theorem cvFollow_lap (hlt : c < m.cv.chans.length) (hstate : (m.chan c).state ≠ .stopping) (hend : bit d.ctrl 12 = false)
    (hnext : d.next = (m.chan c).start) : ((m.cvFollow c d).chan c).laps = sat max16 (m.chan c).laps ∧
      (((m.cvFollow c d).chan c).state = .lapEnd ↔ (m.chan c).lapLimit ≠ 0 ∧ (m.chan c).lapLimit ≤ sat max16 (m.chan c).laps) ∧
      ((m.cvFollow c d).chan c).desc = (m.chan c).desc ∧ ((m.cvFollow c d).chan c).descriptors = (m.chan c).descriptors := by
  have hlap : (d.next == (m.chan c).start) = true := beq_iff_eq.mpr hnext
  simp only [ModuleState.cvFollow, hstate, hend, hlap, Bool.false_eq_true, if_false, Bool.true_and, if_true]
  split
  · next hreached =>
    rw [ModuleState.log_chan, ModuleState.setChan_chan (by simpa [ModuleState.setChan] using hlt), ModuleState.logIf_chan, ModuleState.setChan_chan hlt]
    simp at hreached
    exact ⟨rfl, by simp [hreached], rfl, rfl⟩
  · next hshort =>
    rw [ModuleState.logIf_chan, ModuleState.setChan_chan hlt]
    simp at hshort
    refine ⟨rfl, ?_, rfl, rfl⟩
    simp
    exact hshort

/-- Following a descriptor keeps what its end has set. -/
theorem ModuleState.cvFollow_keeps (hlt : c < m.cv.chans.length) : ((m.cvFollow c d).chan c).desc = (m.chan c).desc ∧
    ((m.cvFollow c d).chan c).descriptors = (m.chan c).descriptors := by
  by_cases hstate : (m.chan c).state = .stopping
  · rw [cvFollow_stopping hlt hstate]
    exact ⟨rfl, rfl⟩
  cases hend : bit d.ctrl 12 with
  | true =>
    rw [cvFollow_end hlt hstate hend]
    exact ⟨rfl, rfl⟩
  | false =>
    by_cases hnext : d.next = (m.chan c).start
    · obtain ⟨-, -, hdesc, hcount⟩ := cvFollow_lap hlt hstate hend hnext
      exact ⟨hdesc, hcount⟩
    · rw [cvFollow_next hlt hstate hend hnext]
      exact ⟨rfl, rfl⟩

/-! ### What events and replies leave of the recorder -/

/-- The recorder without what taking, queueing or dropping records changes: its keys, queue, buffer and the snapshot being collected. -/
def Recorder.kept (r : Recorder) : Recorder :=
  { r with
    seq := 0, lastKey := ⟨0, 0, 0⟩, queue := [], producers := [], queuePeak := 0, drops := 0, dropGroups := [], dropSpan := (0, 0), suppressed := 0
    buf := [], bufBytes := 0, bufAt := none, flushing := [], flushBusy := false, flushLeft := 0, startKeys := [], notKept := 0, nextSlot := 0
    collecting := none }

theorem Recorder.startFlush_kept (r : Recorder) : r.startFlush.kept = r.kept := by
  unfold Recorder.startFlush
  split <;> rfl

theorem ModuleState.takeRec_kept (m : ModuleState) (r : Recorder) (b : RecordBody) : (m.takeRec r b).kept = r.kept := by
  unfold ModuleState.takeRec
  dsimp only
  rw [apply_ite Recorder.kept, Recorder.startFlush_kept, ite_self]
  rfl

theorem Recorder.noteStart_kept (r : Recorder) (e : Event) (k : Key) : (r.noteStart e k).kept = r.kept := by
  unfold Recorder.noteStart
  split <;> rfl

theorem ModuleState.trigger_kept (m : ModuleState) (r : Recorder) (e : Option Event) : (m.trigger r e).kept = r.kept := by
  unfold ModuleState.trigger
  split
  · rfl
  · split <;> rfl

theorem Recorder.enqueue_kept (r : Recorder) (now : Nat) (e : Event) : (r.enqueue now e).kept = r.kept := by
  unfold Recorder.enqueue
  dsimp only
  split
  · split
    · rfl
    · split <;> rfl
  · split <;> rfl

theorem ModuleState.takeNext_kept (m : ModuleState) (r : Recorder) (e : Event) : (m.takeNext r e).kept = r.kept := by
  unfold ModuleState.takeNext
  split
  · exact m.takeRec_kept r _
  · exact r.enqueue_kept _ e

theorem ModuleState.hand_recd (m : ModuleState) (c : Comm) (x : Transport) (dest : Nat × Nat) (b : List Byte) : (m.hand c x dest b).recd = c.recd := by
  cases x <;> rfl

theorem ModuleState.notifyOn_recd (m : ModuleState) (c : Comm) (x : Transport) (e : Event) (k : Key) : (m.notifyOn c x e k).1.recd = c.recd := by
  unfold ModuleState.notifyOn
  dsimp only
  split
  · rfl
  · simp only [apply_ite Prod.fst, apply_ite Comm.recd, Comm.port, m.hand_recd, ite_self]

theorem ModuleState.takeEvent_kept (m : ModuleState) (c : Comm) (e : Event) : (m.takeEvent c e).recd.kept = c.recd.kept := by
  unfold ModuleState.takeEvent
  dsimp only
  generalize hk : (Key.mk m.opTime c.recd.cycle c.recd.seq) = k
  have hrecords : (((List.range e.parts).foldl (fun r i => m.takeRec r (.event e i)) c.recd).noteStart e k).kept = c.recd.kept :=
    (Recorder.noteStart_kept _ _ _).trans
      (List.foldlRecOn _ _ (motive := fun r => r.kept = c.recd.kept) rfl fun r hr i _ => (m.takeRec_kept r _).trans hr)
  generalize hr2 : (if e.snapshots then m.trigger _ (some e) else _) = r2
  have htrigger : r2.kept = c.recd.kept := by
    rw [← hr2]
    split
    · exact (m.trigger_kept _ _).trans hrecords
    · exact hrecords
  split
  · refine List.foldlRecOn _ _ (motive := fun r => r.kept = c.recd.kept) ?_ fun r hr x _ => (m.takeNext_kept r _).trans hr
    exact List.foldlRecOn _ _ (motive := fun q : Comm × List (Nat × List Int) => q.1.recd.kept = c.recd.kept) htrigger
      fun q hq x _ => (congrArg Recorder.kept (m.notifyOn_recd _ _ _ _)).trans hq
  · exact htrigger

theorem ModuleState.logE_kept (m : ModuleState) (c : Comm) (e : Event) : (m.logE c e).recd.kept = c.recd.kept := by
  unfold ModuleState.logE
  split
  · rfl
  · split
    · exact m.takeEvent_kept c e
    · dsimp only
      split
      · exact ((c.recd.enqueue m.now e).enqueue_kept _ _).trans (c.recd.enqueue_kept _ _)
      · exact c.recd.enqueue_kept _ _

@[simp] theorem ModuleState.log_kept (m : ModuleState) (code source : Nat) (items : List Int) : (m.log code source items).recd.kept = m.recd.kept :=
  m.logE_kept m.comm _

@[simp] theorem ModuleState.logIf_kept (m : ModuleState) (b : Bool) (code source : Nat) (items : List Int) :
    (m.logIf b code source items).recd.kept = m.recd.kept := by
  unfold ModuleState.logIf
  split
  · exact m.logE_kept m.comm _
  · rfl

@[simp] theorem ModuleState.saturated_kept (m : ModuleState) (max before source opcode off : Nat) :
    (m.saturated max before source opcode off).recd.kept = m.recd.kept := m.logIf_kept _ _ _ _

theorem ModuleState.bumpC_kept (m : ModuleState) (c : Comm) (x : Transport) (lost : Bool) : (m.bumpC c x lost).recd.kept = c.recd.kept := by
  unfold ModuleState.bumpC
  dsimp only
  rw [apply_ite Comm.recd, apply_ite Recorder.kept]
  exact (ite_congr rfl (fun _ => m.logE_kept _ _) fun _ => rfl).trans (ite_self _)

theorem ModuleState.rejectC_kept (m : ModuleState) (c : Comm) (r : ReplyTo) (status : Nat) : (m.rejectC c r status).recd.kept = c.recd.kept := by
  unfold ModuleState.rejectC
  dsimp only
  split
  · exact m.logE_kept _ _
  · rfl

theorem ModuleState.sendReply_kept (m : ModuleState) (c : Comm) (r : ReplyTo) (status : Nat) (data : List Byte) :
    (m.sendReply c r status data).recd.kept = c.recd.kept := by
  have hsent : ∀ (x : Transport) (ps : List (List Byte)),
      (ps.foldl (fun c p => if m.takes c x r.src [p] then m.hand c x r.src p else m.bumpC c x true) c).recd.kept = c.recd.kept := fun x ps =>
    List.foldlRecOn _ _ (motive := fun y : Comm => y.recd.kept = c.recd.kept) rfl fun y hy p _ => by
      split
      · exact (congrArg Recorder.kept (m.hand_recd _ _ _ _)).trans hy
      · exact (m.bumpC_kept _ _ _).trans hy
  unfold ModuleState.sendReply
  dsimp only
  split
  · rfl
  · split <;> exact hsent _ _

theorem ModuleState.answerC_kept (m : ModuleState) (c : Comm) (r : ReplyTo) (status : Nat) (data : List Byte) :
    (m.answerC c r status data).recd.kept = c.recd.kept := by
  have hbump := fun lost => m.bumpC_kept c r.transport lost
  unfold ModuleState.answerC
  dsimp only
  split
  · split
    · split
      · exact (m.rejectC_kept _ _ _).trans (hbump true)
      · exact hbump true
    · rw [m.sendReply_kept]
      split
      · exact hbump false
      · rfl
  · split
    · exact m.rejectC_kept c r status
    · rfl

@[simp] theorem ModuleState.answer_kept (m : ModuleState) (r : ReplyTo) (status : Nat) (data : List Byte) :
    (m.answer r status data).recd.kept = m.recd.kept := m.answerC_kept m.comm _ _ _

@[simp] theorem ModuleState.settle_kept (m : ModuleState) (ref : Nat) (status : Option Nat) (data : Option (List Byte)) :
    (m.settle ref status data).recd.kept = m.recd.kept := by
  show (m.settleC m.comm ref status data).recd.kept = m.recd.kept
  unfold ModuleState.settleC
  split
  · rfl
  · dsimp only
    split
    · exact m.answerC_kept _ _ _ _
    · rfl

@[simp] theorem ModuleState.settles_kept (m : ModuleState) (l : List (Nat × Nat)) :
    (m.each l fun m r => m.settle r.1 (some stOk) (some (leBytes 4 r.2))).recd.kept = m.recd.kept :=
  m.each_frame _ _ (·.recd.kept) fun m _ => m.settle_kept _ _ _

/-! ### The global halt -/

/-- A fold that only one element of its list changes anything in is one step. -/
theorem foldl_only {α β : Type} {f : α → β → α} {b : β} {l : List β} (hl : l.Nodup) (hb : b ∈ l) (hf : ∀ a k, k ≠ b → f a k = a) (a : α) :
    l.foldl f a = f a b := by
  induction l generalizing a with
  | nil => exact absurd hb (List.not_mem_nil)
  | cons x l ih =>
    obtain ⟨hx, hl⟩ := List.nodup_cons.mp hl
    have hkeep : ∀ (l : List β) (a : α), b ∉ l → l.foldl f a = a := fun l a h =>
      List.foldlRecOn l f (motive := (· = a)) rfl fun y hy k hk => (hf y k fun heq => h (heq ▸ hk)).trans hy
    rw [List.foldl_cons]
    by_cases hxb : x = b
    · subst hxb
      exact hkeep l _ hx
    · rw [hf a x hxb]
      exact ih hl ((List.mem_cons.mp hb).resolve_left (Ne.symm hxb)) a

@[simp] theorem ModuleState.mendBack_recd (m : ModuleState) (a : Nat) (d : Desc) : (m.mendBack a d).recd = m.recd := by
  unfold ModuleState.mendBack
  dsimp only
  split <;> rfl

/-- A halted engine and its record (R416 to R418): every channel HALTED, the recorder's own ones too (R419). -/
def ModuleState.HaltedAs (m : ModuleState) (cause c addr : Nat) : Prop :=
  m.cv.halted ∧ m.cv.halt.cause = cause ∧ m.cv.halt.channel = c ∧ m.cv.halt.failAddr = addr ∧
    (∀ y ∈ m.cv.chans, y.state = .halted ∧ y.desc = none) ∧ m.recd.cv14Halted ∧ m.recd.cv15Halted

theorem ModuleState.HaltedAs.of_kept {n : ModuleState} {cause addr : Nat} (h : m.HaltedAs cause c addr) (hcv : n.cv = m.cv)
    (hrecd : n.recd.kept = m.recd.kept) : n.HaltedAs cause c addr := by
  obtain ⟨hhalted, hcause, hchan, haddr, hchans, h14, h15⟩ := h
  have hown14 : n.recd.cv14Halted = m.recd.cv14Halted := show n.recd.kept.cv14Halted = _ by rw [hrecd]; rfl
  have hown15 : n.recd.cv15Halted = m.recd.cv15Halted := show n.recd.kept.cv15Halted = _ by rw [hrecd]; rfl
  rw [ModuleState.HaltedAs, hcv, hown14, hown15]
  exact ⟨hhalted, hcause, hchan, haddr, hchans, h14, h15⟩

/-- A halt's event, its mended words and its replies leave the engine halted as it is. -/
theorem ModuleState.HaltedAs.noted {cause addr : Nat} (h : m.HaltedAs cause c addr) {f : ModuleState → Nat → ModuleState}
    (hf : ∀ m k, (f m k).cv = m.cv ∧ (f m k).recd = m.recd) (code source : Nat) (items : List Int) (l : List Nat) (stops : List (Nat × Nat)) :
    ((((m.cvIrq true).log code source items).each l f).each stops fun m r => m.settle r.1 (some stOk) (some (leBytes 4 r.2))).HaltedAs cause c addr := by
  refine h.of_kept ?_ ?_
  · rw [ModuleState.each_frame (π := ModuleState.cv) (h := fun _ _ => by simp), ModuleState.each_frame (π := ModuleState.cv) (h := fun m k => (hf m k).1)]
    simp [ModuleState.cvIrq]
  · rw [ModuleState.settles_kept, ModuleState.each_frame (π := (·.recd.kept)) (h := fun m k => congrArg Recorder.kept (hf m k).2), ModuleState.log_kept]
    rfl

/-- The engine halts while one channel alone carries a descriptor (R416 to R418). -/
theorem cvHalt_one {mem : Memory} (hlive : m.cv.halted = false) (hc : c < 16) (hd : (m.chan c).desc = some d) (hothers : ∀ k, k ≠ c → (m.chan k).desc = none)
    (cause addr : Nat) :
    ∃ m', cvHalt c cause addr none (m, mem) = (m', writeBack m mem (m.chan c).descAddr d (m.chan c).moved 0
        (!decide (d.count ≤ (m.chan c).moved)) (decide (d.count ≤ (m.chan c).moved))) ∧
      m'.HaltedAs (if d.count ≤ (m.chan c).moved then 3 else cause) c addr := by
  unfold cvHalt
  dsimp only [Option.filter]
  rw [if_neg (by simp [hlive])]
  refine ⟨_, Prod.ext rfl ?_, ModuleState.HaltedAs.noted ⟨rfl, ?_, rfl, rfl, ?_, rfl, rfl⟩ ?_ _ _ _ _ _⟩
  · rw [foldl_only List.nodup_range (List.mem_range.mpr hc) fun mem k hk => by rw [hothers k hk]]
    simp [hd]
  · simp [hd]
  · intro y hy
    obtain ⟨q, -, rfl⟩ := List.mem_map.mp (show y ∈ m.cv.chans.map _ from hy)
    exact ⟨rfl, rfl⟩
  · intro n k
    cases (m.chan k).desc with
    | none => exact ⟨rfl, rfl⟩
    | some d => simp

/-- Further errors of a halted engine are counted (R418). -/
theorem cvHalt_more {mem : Memory} (hhalted : m.cv.halted) (cause addr : Nat) : ∃ m', cvHalt c cause addr none (m, mem) = (m', mem) ∧
    m'.cv.halt = { m.cv.halt with errors := min max16 (m.cv.halt.errors + 1) } := by
  unfold cvHalt
  dsimp only [Option.filter]
  rw [if_pos hhalted, ← sat_eq_min]
  exact ⟨_, rfl, by simp⟩

/-- The bytes of a trace word that reach memory before the address that does not answer are moved, and nothing else changes in what a halt looks at. -/
theorem cvPart_parts {mem : Memory} (h : mem.wf) (hd : (m.chan c).desc = some d) :
    (cvPart c (m, mem)).2.wf ∧ (cvPart c (m, mem)).1.cv.halted = m.cv.halted ∧ ((cvPart c (m, mem)).1.chan c).desc = some d ∧
      ((cvPart c (m, mem)).1.chan c).descAddr = (m.chan c).descAddr ∧
      ((cvPart c (m, mem)).1.chan c).moved = (m.chan c).moved + m.cvPartBytes (m.chan c) ∧
      ∀ k, k ≠ c → (cvPart c (m, mem)).1.chan k = m.chan k := by
  unfold cvPart
  simp only [hd]
  split
  · next hnone =>
    rw [hnone]
    exact ⟨h, rfl, hd, rfl, rfl, fun _ _ => rfl⟩
  · have hchan := ModuleState.setChan_chan (ModuleState.chan_lt_of_desc hd) fun q : CvChan =>
      { q with moved := q.moved + m.cvPartBytes (m.chan c), bytes := (q.bytes + m.cvPartBytes (m.chan c)) % 2 ^ 32 }
    refine ⟨?_, rfl, ?_, ?_, ?_, fun k hk => ModuleState.setChan_chan_ne hk _⟩
    · exact List.foldlRecOn _ _ (motive := Memory.wf) h fun mem hmem k _ => Memory.write_wf hmem _ _
    · rw [hchan]
      exact hd
    · rw [hchan]
    · rw [hchan]

/-! ### The rows -/

section

variable (hc : c < 16)
include hc

/-- A channel that is to read its descriptor reads it. -/
theorem cvDescriptorStart_reads (hruns : (s.then t).cvRuns) (hdue : ((s.then t).chan c).due) {y : ModuleState × Memory}
    (h : cvStart c (s.then t, s.mem) = y) : exec (.cvDescriptorStart t c) s = .next { s with m := y.1, mem := y.2 } :=
  next_of_both (t := t) (if_pos hc) ((if_pos (by simp [hruns, hdue])).trans h)

theorem cvDescriptorStart_badFormat (hwf : s.mem.wf) (hruns : (s.then t).cvRuns) (hdue : ((s.then t).chan c).due)
    (hund : (s.then t).host.damaged = []) (hown : bit (descAt s.mem ((s.then t).chan c).descAddr).ctrl 31)
    (hg : (descAt s.mem ((s.then t).chan c).descAddr).gather = false) (hs : (descAt s.mem ((s.then t).chan c).descAddr).scatter = false)
    (hbad : formatAt s.mem ((s.then t).chan c).descAddr = false) :
    Stores (.cvDescriptorStart t c) s fun m' mem' =>
      (m'.chan c).state = (if ((s.then t).chan c).stops = [] then .error else .idle) ∧ (m'.chan c).desc = none ∧
      leNat (mem'.bytes ((s.then t).chan c).descAddr 4) = 2 ^ 24 + (descAt s.mem ((s.then t).chan c).descAddr).ctrl % 2 ^ 24 ∧
      leNat (mem'.bytes (((s.then t).chan c).descAddr + 4) 4) = 0 := by
  have hlt : c < (s.then t).cv.chans.length := ModuleState.chan_lt (g := CvChan.due) hdue Bool.false_ne_true
  obtain ⟨d, hctrl, hstart⟩ := cvStart_badFormat hund hown hg hs hbad
  generalize hm1 : (s.then t).setChan c _ = m1 at hstart
  have hlt1 : c < m1.cv.chans.length := by
    rw [← hm1]
    simpa [ModuleState.setChan] using hlt
  have hchan := ModuleState.setChan_chan hlt fun q => { q with state := .running, due := false, desc := some d, moved := 0, flowing := false }
  rw [hm1] at hchan
  have hstops : (m1.chan c).stops = ((s.then t).chan c).stops := by rw [hchan]
  have haddr : (m1.chan c).descAddr = ((s.then t).chan c).descAddr := by rw [hchan]
  obtain ⟨hstate, hdesc⟩ := cvError_chan hlt1 d 0 1 s.mem
  rw [hstops] at hstate
  refine ⟨_, _, cvDescriptorStart_reads hc hruns hdue hstart, hstate, hdesc, ?_, ?_⟩
  · rw [← hctrl, ← haddr]
    exact (writeBack_status hwf m1 _ d 0 1 false false (by simp only [bitOf, Bool.false_eq_true, if_false]; omega)).trans (by simp [bitOf])
  · rw [← haddr]
    exact writeBack_count hwf m1 _ d 0 1 false false (by omega)

/-- A finished descriptor is written back, and its channel goes on. -/
theorem cvDescriptorComplete_next (hruns : (s.then t).cvRuns) (hd : ((s.then t).chan c).desc = some d) (hall : d.count ≤ ((s.then t).chan c).moved)
    (hgood : ((s.then t).chan c).sinkBad = false) : exec (.cvDescriptorComplete t c) s = .next { s with
      m := (((s.then t).cvEnds c d).cvFollow c d).mendBack ((s.then t).chan c).descAddr d
      mem := writeBack (s.then t) s.mem ((s.then t).chan c).descAddr d d.count 0 false false } := by
  refine next_of_both (t := t) (if_pos hc) ?_
  simp only [hd, hruns, hgood, Nat.not_lt.mpr hall, Bool.not_true, Bool.false_or, decide_false, Bool.false_eq_true, if_false]
  rfl

/-- An access that never answers ends in a halt (R403, R416). -/
theorem cvAccessTimeout_halts {x : Nat} (hruns : (s.then t).cvRuns) (hsilent : (s.then t).cvSilent ((s.then t).chan c) = some x)
    {m' : ModuleState} {mem' : Memory} (h : cvHalt c 2 x none (cvPart c (s.then t, s.mem)) = (m', mem')) :
    exec (.cvAccessTimeout t c none) s = .next { s with m := m', mem := mem' } := by
  refine next_of_both (t := t) (if_pos hc) ?_
  simp only [hsilent, hruns, if_true, h]

theorem cvBusError_halts (hruns : (s.then t).runs isRecorder) (x : Nat) {y : ModuleState × Memory}
    (h : cvHalt c 1 x none (s.then t, s.mem) = y) : exec (.cvBusError t c x none) s = .next { s with m := y.1, mem := y.2 } :=
  next_of_both (t := t) (if_pos hc) ((if_pos hruns).trans h)

end

theorem ModuleState.cvRuns_iff : m.cvRuns ↔ m.runs isRecorder ∧ m.cv.halted = false := by
  simp [ModuleState.cvRuns]

/-- Settles O31: each row from what it makes of the channel, of the descriptor written back and of the halted engine. -/
theorem culvertRowsRun : Obligations.CulvertRowsRun := by
  intro s t c hc hwf m q a word d0 good
  refine ⟨fun hruns hdue hund => ⟨fun hown => ?_, fun hown hg hs => ⟨fun hgood hpace => ?_, fun hbad => ?_⟩⟩, fun d hruns hd hpace hflow hstate hlevel => ?_,
    fun d hruns hd hall hsink hsmall => ?_, fun hruns hstate => ?_, fun x d hruns hd hsmall hothers hsilent hpart => ?_,
    fun x d hruns hd hsmall hmoved hothers => ?_, fun x hruns hhalted => ?_⟩
  · refine ⟨_, cvDescriptorStart_reads hc hruns hdue (cvStart_starved hund hown), ?_⟩
    have hstarved := ModuleState.starve_chan (m := m) (ModuleState.chan_lt (g := CvChan.due) hdue Bool.false_ne_true)
    show (((s.then t).starve c).chan c).state = .starved ∧ (((s.then t).starve c).chan c).due = false ∧ (((s.then t).starve c).chan c).descAddr = a
    rw [hstarved]
    exact ⟨rfl, rfl, rfl⟩
  · exact cvDescriptorStart_reads hc hruns hdue (cvStart_starts hund hown hg hs hgood hpace)
  · exact cvDescriptorStart_badFormat hc hwf hruns hdue hund hown hg hs hbad
  · refine gives_of_there (decide_eq_true hc) rfl ?_
    have hready : m.paceReady q d = true := by
      rw [ModuleState.paceReady, CvChan.wordsLeft, decide_eq_true hlevel, Bool.or_true]
    have hflow' : (m.chan c).flowing = false := hflow
    have hpace' : (d.pace != 0) = true := bne_iff_ne.mpr hpace
    show (match (m.chan c).desc with | some d => _ | none => m) = _
    rw [show (m.chan c).desc = some d from hd]
    show (if (m.cvRuns && d.pace != 0 && !(m.chan c).flowing && m.paceReady q d) = true then _ else m) = _
    rw [hruns, hpace', hflow', hready]
    exact ModuleState.setChan_congr (by rw [show (m.chan c).state = .waiting from hstate]; rfl)
  · refine ⟨_, _, cvDescriptorComplete_next hc hruns hd hall hsink, ?_⟩
    have hlt : c < (m.cvEnds c d).cv.chans.length := by
      rw [ModuleState.cvEnds_length]
      exact ModuleState.chan_lt_of_desc hd
    have hends := ModuleState.cvEnds_chan (ModuleState.chan_lt_of_desc (m := m) hd) d
    obtain ⟨hdesc, hcount⟩ := ModuleState.cvFollow_keeps (d := d) hlt
    have hmend : ((((m.cvEnds c d).cvFollow c d).mendBack q.descAddr d).chan c) = ((m.cvEnds c d).cvFollow c d).chan c :=
      ModuleState.chan_of_cv (ModuleState.mendBack_cv _ _ _) c
    refine ⟨?_, ?_, fun hstamp => writeBack_stamp hwf m a d d.count 0 false false hstamp, fun x hx => writeBack_outside m s.mem a d d.count 0 false false hx,
      ?_⟩
    · exact (writeBack_status hwf m a d d.count 0 false false (by simp only [bitOf, Bool.false_eq_true, if_false]; omega)).trans (by simp [bitOf])
    · exact writeBack_count hwf m a d d.count 0 false false (by omega)
    · show ((((m.cvEnds c d).cvFollow c d).mendBack q.descAddr d).chan c).desc = none ∧
        ((((m.cvEnds c d).cvFollow c d).mendBack q.descAddr d).chan c).descriptors = (q.descriptors + 1) % 2 ^ 32 ∧ _
      rw [hmend, hdesc, hcount]
      generalize m.cvEnds c d = n at hlt hends
      have hstate : (n.chan c).state = q.state := by rw [hends]
      have haddr : (n.chan c).descAddr = a := by rw [hends]
      have hstart : (n.chan c).start = q.start := by rw [hends]
      have hlaps : (n.chan c).laps = q.laps := by rw [hends]
      have hlimit : (n.chan c).lapLimit = q.lapLimit := by rw [hends]
      rw [← hstate, ← hstart, ← hlaps, ← hlimit, ← haddr, ← sat_eq_min]
      refine ⟨by rw [hends], by rw [hends], fun hstop => ?_, fun hgo hend => ?_, fun hgo hend hnext => ?_, fun hgo hend hnext => ?_⟩
      · rw [cvFollow_stopping hlt hstop]
        exact ⟨rfl, rfl⟩
      · rw [cvFollow_end hlt hgo hend]
      · rw [cvFollow_next hlt hgo hend hnext]
        exact ⟨rfl, rfl, rfl⟩
      · obtain ⟨hlap, hat, -⟩ := cvFollow_lap hlt hgo hend hnext
        exact ⟨hlap, hat⟩
  · refine gives_of_there (decide_eq_true hc) rfl ?_
    show (if m.windowOpen ∧ (m.chan c).state = .starved ∧ m.cvRuns then _ else m) = _
    exact if_congr (and_iff_left ⟨hstate, hruns⟩) rfl rfl
  · obtain ⟨hwf', hlive, hd', haddr, hmoved, hothers'⟩ := cvPart_parts hwf hd
    generalize hp : cvPart c (s.then t, s.mem) = p at *
    obtain ⟨n, mem1⟩ := p
    dsimp only at *
    obtain ⟨m', hhalt, hcv, hcause, hchan, hfail, hchans, h14, h15⟩ := cvHalt_one (mem := mem1) (hlive.trans (ModuleState.cvRuns_iff.mp hruns).2) hc hd'
      (fun k hk => (congrArg CvChan.desc (hothers' k hk)).trans (hothers k hk)) 2 x
    have hmore : ¬ d.count ≤ (n.chan c).moved := by
      rw [hmoved]
      exact Nat.not_le.mpr hpart
    rw [if_neg hmore] at hcause
    refine ⟨m', _, cvAccessTimeout_halts hc hruns hsilent (hp ▸ hhalt), hcv, hcause, hchan, hfail, hchans, h14, h15, ?_, ?_⟩
    · rw [decide_eq_false hmore]
      show leNat (Memory.bytes _ a 4) = _
      rw [haddr]
      exact (writeBack_status hwf' n a d _ 0 true false (by simp only [bitOf, Bool.false_eq_true, if_false, if_true]; omega)).trans (by simp [bitOf])
    · show leNat (Memory.bytes _ (a + 4) 4) = q.moved + m.cvPartBytes q
      rw [haddr, hmoved]
      exact writeBack_count hwf' n a d _ 0 _ _ (by have : q.moved + m.cvPartBytes q < d.count := hpart; omega)
  · obtain ⟨hrec, hlive⟩ := ModuleState.cvRuns_iff.mp hruns
    obtain ⟨m', hhalt, hcv, hcause, hchan, hfail, hchans, h14, h15⟩ := cvHalt_one (mem := s.mem) hlive hc hd hothers 1 x
    refine ⟨m', _, cvBusError_halts hc hrec x hhalt, hcv, ?_, hfail, hchans, h14, h15, ?_, writeBack_count hwf m a d _ 0 _ _ ?_⟩
    · rw [hcause, ← ite_not]
      exact if_congr Nat.not_le rfl rfl
    · refine (writeBack_status hwf m a d _ 0 _ _ ?_).trans ?_
      · cases decide (d.count ≤ (m.chan c).moved) <;> simp [bitOf] <;> omega
      · by_cases hmore : q.moved < d.count
        · rw [if_pos hmore, decide_eq_false (Nat.not_le.mpr hmore)]
          simp [bitOf]
        · rw [if_neg hmore, decide_eq_true (Nat.not_lt.mp hmore)]
          simp [bitOf]
    · exact Nat.lt_of_le_of_lt (Nat.le_trans hmoved (Nat.le_of_lt hsmall)) (by omega)
  · obtain ⟨m', hmore, herrors⟩ := cvHalt_more (c := c) (mem := s.mem) hhalted 1 x
    exact ⟨m', cvBusError_halts hc hruns x hmore, herrors⟩

end Sys2Proof.Machine
end

section
/-! The readout and snapshot commands (R439, R451). -/

namespace Sys2Proof.Machine

variable {c : Cmd} {m : ModuleState} {o : Readout}

/-- The key a LOG_READ names last, or the last key when it names none or one beyond it (R451). -/
def logReadTo (b : List Byte) (lastKey : Key) : Key :=
  if (b.drop 20).take 16 == List.replicate 16 (0xFF : Byte) || !(readKey ((b.drop 20).take 16)).le lastKey then lastKey
  else readKey ((b.drop 20).take 16)

/-- A recorder without a running flush that opens a readout: what its buffer holds is flushed first (R440, R451). -/
theorem Recorder.openReadout_idle {r : Recorder} (hidle : r.flushBusy = false) (o : Readout) :
    { r.startFlush with readout := some o } = { r with
      readout := some o
      flushing := if r.buf != [] then r.buf else r.flushing
      flushBusy := r.buf != []
      flushLeft := if r.buf != [] then r.bufBytes else r.flushLeft
      buf := []
      bufBytes := if r.buf != [] then 0 else r.bufBytes
      bufAt := if r.buf != [] then none else r.bufAt } := by
  cases hbuf : r.buf with
  | nil => simp [Recorder.startFlush, hidle, hbuf]
  | cons x l => simp [Recorder.startFlush, hidle, hbuf]

theorem logReadBody_opens (haddr : getN c.data 36 4 % 8 = 0) (hhalf : getN c.data 40 4 % 64 = 0) (hmin : 4096 ≤ getN c.data 40 4)
    (hmax : getN c.data 40 4 ≤ 65536) (hend : getN c.data 36 4 + 2 * getN c.data 40 4 ≤ 0x40000)
    (hkeys : ((c.data.drop 20).take 16 == List.replicate 16 (0xFF : Byte)) = true ∨ readKey (c.data.drop 4) = ⟨0, 0, 0⟩ ∨
      (readKey (c.data.drop 4)).le (readKey ((c.data.drop 20).take 16)))
    (hnone : m.recd.readout = none) (hfail : m.recd.failFlushAt = none) (hcv : m.recd.cv15Halted = false) (hidle : m.recd.flushBusy = false) :
    logReadBody c m = { acts := [.recd], wait := m.recd.buf != [], data := m.keyBytes (logReadTo c.data m.recd.lastKey)
                        m := m.setRec fun r => { r.startFlush with
                          readout := some { region := getN c.data 0 1, fromKey := readKey (c.data.drop 4), toKey := logReadTo c.data m.recd.lastKey
                                            bufAddr := getN c.data 36 4, halfSize := getN c.data 40 4, lastNext := m.now
                                            waiting := if m.recd.buf != [] then some c.ref else none } } } := by
  have hin : ¬ (getN c.data 36 4 % 8 ≠ 0 ∨ getN c.data 40 4 % 64 ≠ 0 ∨ getN c.data 40 4 < 4096 ∨ 65536 < getN c.data 40 4 ∨
      0x40000 < getN c.data 36 4 + 2 * getN c.data 40 4 ∨
      (!((c.data.drop 20).take 16 == List.replicate 16 (0xFF : Byte)) ∧ !(readKey (c.data.drop 4) == ⟨0, 0, 0⟩) ∧
        !(readKey (c.data.drop 4)).le (readKey ((c.data.drop 20).take 16)))) := by
    rintro (h | h | h | h | h | ⟨hclosed, hnonzero, hafter⟩)
    · exact h haddr
    · exact h hhalf
    · omega
    · omega
    · omega
    · rcases hkeys with h | h | h
      · exact Bool.false_ne_true ((congrArg not h).symm.trans hclosed)
      · simp [h] at hnonzero
      · simp [h] at hafter
  have hheld : (!m.recd.buf.isEmpty || m.recd.flushBusy) = (m.recd.buf != []) := by
    rw [hidle, Bool.or_false]
    cases m.recd.buf <;> rfl
  have hready : ¬ (m.recd.failFlushAt.isSome ∨ m.recd.cv15Halted) := by simp [hfail, hcv]
  unfold logReadBody
  dsimp only
  rw [if_neg hin, if_neg (by simp [hnone]), if_neg hready, hheld]
  rfl

theorem logReadNextBody_returns (ho : m.recd.readout = some o) (hfilled : bit o.filled (getN c.data 0 1)) : logReadNextBody c m =
    { acts := [.recd]
      m := m.setRec fun r => { r with
        readout := some { o with
          filled := setBit o.filled (getN c.data 0 1) false, free := setBit o.free (getN c.data 0 1) true, lastNext := m.now } } } := by
  simp only [logReadNextBody, ho, hfilled, if_true]

theorem ModuleState.endReadout_readout (m : ModuleState) (cause : Nat) : (m.endReadout cause).recd.readout = none := by
  unfold ModuleState.endReadout
  split
  · assumption
  · next o _ =>
    have hkept := (((m.setRec fun r => { r with readout := none }).log evLogReadEnd tgModule [(cause : Int), (o.chunk : Int)]).each_frame o.stopRefs
      (fun m ref => m.settle ref none (some (leBytes 4 o.chunk))) (·.recd.kept) fun m _ => m.settle_kept _ _ _).trans (ModuleState.log_kept _ _ _ _)
    exact congrArg Recorder.readout hkept

theorem logReadStopBody_ends (ho : m.recd.readout = some o) (hfree : bit o.free o.half = false) (hwaits : o.waiting = none) :
    logReadStopBody c m = { acts := [.recd], data := leBytes 4 o.chunk, m := m.endReadout 1 } := by
  simp only [logReadStopBody, ho, hfree, hwaits, Option.isSome_none, Bool.or_self, Bool.false_eq_true, if_false]

theorem logReadStopBody_waits (ho : m.recd.readout = some o) (hfree : bit o.free o.half) : logReadStopBody c m =
    { acts := [.recd], wait := true
      m := m.setRec fun r => { r with readout := some { o with stop := true, stopRefs := o.stopRefs ++ [c.ref] } } } := by
  simp only [logReadStopBody, ho, hfree, Bool.true_or, if_true]

theorem snapshotTriggerBody_starts (hnone : m.recd.collecting = none) (hfail : m.recd.failFlushAt = none) (hcv : m.recd.cv15Halted = false) :
    snapshotTriggerBody c m = { acts := [.recd], data := leBytes 1 m.recd.nextSlot, m := m.setRec fun r => m.trigger r none } := by
  simp [snapshotTriggerBody, hnone, hfail, hcv]

theorem ModuleState.trigger_none {r : Recorder} (hnone : r.collecting = none) (hfail : r.failFlushAt = none) (e : Option Event) :
    m.trigger r e = { r with
      seq := (r.seq + 1) % 2 ^ 32, lastKey := { op := m.opTime, cycle := r.cycle, seq := r.seq }, nextSlot := (r.nextSlot + 1) % 22
      collecting := some { key := { op := m.opTime, cycle := r.cycle, seq := r.seq }, time := m.stamp, quality := m.time.quality.code
                           slot := r.nextSlot, trigger := e, blocks := r.history, pre := (r.history.map List.length).foldl max 0 } } := by
  simp [ModuleState.trigger, hnone, hfail]

/-- Settles O35: the result of each command, and with it its row's effect. -/
theorem recorderCommandsDo : Obligations.RecorderCommandsDo := by
  intro s p
  refine ⟨fun h1 h2 h3 h4 h5 h6 h7 h8 h9 h10 => ?_, fun o ho hfilled => ?_, fun o ho => ⟨fun hfree hwaits => ?_, fun hfree => ?_⟩, fun h1 h2 h3 => ?_⟩
  · refine does_of_ok rfl ((logReadBody_opens (c := cmdOf logReadSpec p s) h1 h2 h3 h4 h5 h6 h7 h8 h9 h10).trans ?_) rfl
    rw [ModuleState.setRec, Recorder.openReadout_idle h10]
    rfl
  · exact does_of_ok rfl (logReadNextBody_returns (c := cmdOf logReadNextSpec p s) ho hfilled) rfl
  · exact ⟨_, does_of_ok rfl (logReadStopBody_ends (c := cmdOf logReadStopSpec p s) ho hfree hwaits) rfl, ModuleState.endReadout_readout _ _⟩
  · exact does_of_ok rfl (logReadStopBody_waits (c := cmdOf logReadStopSpec p s) ho hfree) rfl
  · refine does_of_ok rfl ((snapshotTriggerBody_starts (c := cmdOf snapshotTriggerSpec p s) h1 h2 h3).trans ?_) rfl
    rw [ModuleState.setRec, ModuleState.trigger_none h1 h2]
    rfl

end Sys2Proof.Machine
end

section
/-! The pair commands (R465, R470, R473, R491, R492). -/

namespace Sys2Proof.Machine

variable {c : Cmd} {m : ModuleState}

theorem PairRole.holds_iff {r : PairRole} : r.holds ↔ r = .duty ∨ r = .solo := by
  simp [PairRole.holds]

theorem dutyHandoverBody_plans (hpartner : m.pair.partner = some .standby) (hheard : m.heard m.pair.heardAt) (hdigest : m.pair.discordant = none)
    (htest : m.pair.partnerTestFailed = false) (hrole : m.pair.role = .duty ∨ m.pair.role = .solo) : dutyHandoverBody c m =
      { status := if getN c.data 0 1 = 0 then stDeferred else stOk, acts := [.llu]
        m := m.setPair fun x => { x with planned := some (5, getN c.data 0 1 == 0) } } := by
  simp only [dutyHandoverBody, PairRole.holds_iff.mpr hrole, hpartner, hheard, hdigest, htest, Bool.true_or, Bool.not_true, Option.isNone_some,
    Option.isSome_none, bne_self_eq_false, Bool.or_self, Bool.false_eq_true, if_false, beq_iff_eq]

theorem clusterForwardBody_sends (h : getN c.data 2 2 ≠ 0x0D03) : clusterForwardBody c m =
    { acts := [.llu], wait := true
      m := m.setPair fun x => { x with
        forwards := x.forwards ++ [{ ref := c.ref, dest := if c.idx ≠ 0xFF then c.idx else if m.pair.role.holds then m.pair.id else m.partnerId
                                     sent := m.now, seq := x.ownSeq }]
        out := x.out ++ [(0, { src := x.id, dest := if c.idx ≠ 0xFF then c.idx else if m.pair.role.holds then m.pair.id else m.partnerId
                               seq := x.ownSeq, body := .inner x.ownSeq c.data })]
        ownSeq := (x.ownSeq + 1) % 2 ^ 32 } } :=
  if_neg h

theorem discordClearBody_clears (h : m.pair.discord) : discordClearBody c m =
    { acts := [.llu], m := (m.setPair fun x => { x with discord := false }).log evDiscord tgModule [1] } :=
  if_neg (by simp [h])

theorem clusterSoloBody_allows (hfenced : m.pair.fenced) (hrole : m.pair.role = .searching) : clusterSoloBody c m =
    { acts := [.llu], m := m.setPair fun x => { x with soloAllowed := true } } :=
  if_neg (by simp [hfenced, hrole])

/-- Settles O39: the result of each command, and with it its row's effect. -/
theorem pairCommandsDo : Obligations.PairCommandsDo := by
  intro s p
  refine ⟨fun h1 h2 h3 h4 h5 => ?_, fun h => ?_, fun h => ?_, fun h1 h2 => ?_⟩
  · refine does_of_accepted rfl (dutyHandoverBody_plans (c := cmdOf dutyHandoverSpec p s) h1 h2 h3 h4 h5) ?_
    show (if _ then stDeferred else stOk) < 0x8000
    split <;> decide
  · exact does_of_ok rfl (clusterForwardBody_sends (c := cmdOf clusterForwardSpec p s) h) rfl
  · exact does_of_ok rfl (discordClearBody_clears (c := cmdOf discordClearSpec p s) h) rfl
  · exact does_of_ok rfl (clusterSoloBody_allows (c := cmdOf clusterSoloSpec p s) h1 h2) rfl

end Sys2Proof.Machine
end

section
/-! The floodgate (R496 to R520): what closing sessions, using a leaf and setting a key leave, its commands and its own rows. -/

namespace Sys2Proof.Machine

variable {c : Cmd} {m : ModuleState} {s : State} {t : Nat}

theorem ModuleState.log_sec (m : ModuleState) (code source : Nat) (items : List Int) : (m.log code source items).sec = m.sec := rfl

/-! ### Sessions -/

@[simp] theorem ModuleState.closeSession_sec (m : ModuleState) (n cause : Nat) :
    (m.closeSession n cause).sec = { m.sec with sessions := m.sec.sessions.filter (·.num != n) } := by
  simp [ModuleState.closeSession]

theorem ModuleState.closeSessions_sec (m : ModuleState) (l : List Nat) (cause : Nat) :
    (m.closeSessions l cause).sec = { m.sec with sessions := m.sec.sessions.filter fun q => !l.contains q.num } := by
  unfold ModuleState.closeSessions
  induction l generalizing m with
  | nil => simp
  | cons n l ih =>
    rw [ModuleState.each_cons, ih, ModuleState.closeSession_sec, List.filter_filter]
    refine congrArg (fun l => { m.sec with sessions := l }) (List.filter_congr fun q _ => ?_)
    simp only [List.contains_cons, Bool.not_or, bne, Bool.and_comm]

/-- Every session that is open closes (R508). -/
theorem ModuleState.closeSessions_all (m : ModuleState) (cause : Nat) :
    (m.closeSessions (m.sec.sessions.map (·.num)) cause).sec = { m.sec with sessions := [] } := by
  rw [ModuleState.closeSessions_sec]
  refine congrArg (fun l => { m.sec with sessions := l }) (List.filter_eq_nil_iff.mpr fun q hq => ?_)
  simpa using ⟨q, hq, rfl⟩

/-- A leaf used is the next one gone, whether or not it is the tree's last (R502). -/
theorem ModuleState.useLeaf_keeps (m : ModuleState) : m.useLeaf.sec.leafNext = m.sec.leafNext + 1 ∧ m.useLeaf.sec.sessions = m.sec.sessions ∧
    m.useLeaf.free = m.free := by
  unfold ModuleState.useLeaf
  dsimp only
  split
  · simp [ModuleState.stopSigning, ModuleState.setSec]
  · exact ⟨rfl, rfl, rfl⟩

/-! ### The session commands -/

/-- The number a SESSION_OPEN gives (R505). -/
def Security.nextNum (x : Security) : Nat := Machine.nextNum (x.sessions.map (·.num)) 17 x.lastNum

/-- The head of its answer (R504). -/
def ModuleState.openHead (m : ModuleState) (d : List Byte) : List Byte :=
  leBytes 2 m.sec.nextNum ++ zeros 2 ++ leBytes 32 (Config.freeValue m.free) ++ leBytes 4 (getN d 4 4) ++ leBytes 8 m.sec.leafNext

/-- The keys a session derives (R505). -/
def ModuleState.openKeys (m : ModuleState) (d : List Byte) : Nat :=
  Config.kmac256 (Config.decapsulate m.sec.kemGen (d.drop 44) ++
      leBytes 32 ((m.sec.roleKeys.getD (4 * (Role.ofCode (getN d 0 1)).code + getN d 1 1) none).getD 0))
    (leBytes 32 (Config.shake256 (d ++ m.openHead d) 32)) 768 "YL-D480 SESSION"

/-- The session it adds (R504). -/
def ModuleState.openSession (m : ModuleState) (d : List Byte) (transport : Transport) : Session :=
  { num := m.sec.nextNum, role := Role.ofCode (getN d 0 1), slot := getN d 1 1, transport, kCmd := m.openKeys d % 2 ^ 256
    kRsp := m.openKeys d / 2 ^ 256 % 2 ^ 256, kWrap := m.openKeys d / 2 ^ 512 % 2 ^ 256, h := Config.shake256 (d ++ m.openHead d) 32 % 2 ^ 256
    active := false, life := getN d 4 4, since := m.now, high := none, seen := 0, fails := [] }

/-- SESSION_OPEN outside BLANK, with nothing in its way (R504). -/
theorem sessionOpenBody_opens (hslot : getN c.data 1 1 ≤ 3) (hmin : 60 ≤ getN c.data 4 4) (hmax : getN c.data 4 4 ≤ 86400)
    (hlife : m.sec.life = .provisioned ∨ m.sec.life = .sealed)
    (hkey : (m.sec.roleKeys.getD (4 * (Role.ofCode (getN c.data 0 1)).code + getN c.data 1 1) none).isSome) (htrip : m.sec.tripped = 0)
    (hheld : m.sec.heldBack = none) (hgen : getN c.data 8 4 = m.sec.kemGen) (hkem : m.sec.kemOk) (hroom : m.sec.sessions.length < 16)
    (hsign : m.signFails = none) : sessionOpenBody c m =
      { acts := [.fg]
        data := m.openHead c.data ++ padTo 9893 (Config.sign m.sec.leafNext (leBytes 32 (Config.shake256 (c.data ++ m.openHead c.data) 32)))
        m := m.fresh.2.useLeaf.setSec fun y => { y with
          sessions := y.sessions ++ [m.openSession c.data c.p.transport], lastNum := m.sec.nextNum } } := by
  have hblank : (m.sec.life == .blank) = false := by rcases hlife with h | h <;> rw [h] <;> rfl
  have hlived : m.sec.life ≠ .retired := by rcases hlife with h | h <;> rw [h] <;> decide
  unfold sessionOpenBody
  dsimp only
  rw [if_neg (by omega), if_neg (by simp [hblank, hlived]), if_neg (by simp [htrip, hheld]), hblank,
    if_neg (by simpa [hgen, hkem, Option.isSome_iff_ne_none] using hkey), if_neg (by omega), hsign]
  rfl

theorem sessionConfirmBody_confirms {q : Session} (hq : m.sec.session c.p.session = some q) (hh : leNat c.data = q.h) (hnew : q.active = false) :
    sessionConfirmBody c m =
      { acts := [.fg]
        m := (m.setSec fun x => { x with
          sessions := updIf x.sessions (·.num == q.num) fun y => { y with active := true, since := m.now } }).log evSessionOpened tgModule
            [(q.num : Int), (q.role.code : Int), (q.slot : Int), (q.transport.index : Int)] } := by
  simp only [sessionConfirmBody, hq, hh, hnew, ne_eq, not_true_eq_false, if_false, Bool.false_eq_true]

theorem attestBody_signs (hsign : m.signFails = none) : attestBody c m =
    { acts := [.fg]
      data := (padTo 32 c.data ++ m.secStatus ++ leBytes 32 m.configDigest ++ leBytes 2 m.compat ++
          m.keyBytes { op := m.opTime, cycle := m.recd.cycle, seq := m.recd.seq } ++ leBytes 8 m.sec.leafNext) ++
        padTo 9893 (Config.sign m.sec.leafNext (padTo 32 c.data ++ m.secStatus ++ leBytes 32 m.configDigest ++ leBytes 2 m.compat ++
          m.keyBytes { op := m.opTime, cycle := m.recd.cycle, seq := m.recd.seq } ++ leBytes 8 m.sec.leafNext))
      m := m.useLeaf } := by
  rw [attestBody, hsign]

theorem kemRotateBody_signs (hsign : m.signFails = none) : kemRotateBody c m =
    { acts := [.fg], data := leBytes 4 ((m.sec.kemGen + 1) % 2 ^ 32)
      m := m.useLeaf.setSec fun x => { x with kemGen := (m.sec.kemGen + 1) % 2 ^ 32, kemLeaf := m.sec.leafNext, kemOk := true } } := by
  rw [kemRotateBody, hsign]

/-! ### The key and lifecycle commands -/

/-- The mask under which a key comes (R509). -/
def ModuleState.wrapMask (m : ModuleState) (p : Packet) : Nat :=
  Config.kmac256 (leBytes 32 (((m.sec.session p.session).map (·.kWrap)).getD 0)) (leBytes 4 p.seq ++ leBytes 2 p.session) 256 "YL-D480 WRAP" % 2 ^ 256

/-- The module after a KEY_SET has put its key (R512, R514). -/
def ModuleState.keyPut (m : ModuleState) (d : List Byte) (p : Packet) : ModuleState :=
  m.putKey (getN d 0 1) (getN d 1 1) (getN d 2 1) (getN d 4 2) (leNat ((d.drop 8).take (getN d 4 2)) ^^^ m.wrapMask p) ((d.drop 8).take (getN d 4 2))

/-- The security state without its sessions. -/
def Security.lasting (x : Security) : Security := { x with sessions := [] }

@[simp] theorem ModuleState.closeSessions_lasting (m : ModuleState) (l : List Nat) (cause : Nat) :
    (m.closeSessions l cause).sec.lasting = m.sec.lasting := by
  rw [ModuleState.closeSessions_sec]
  rfl

theorem ModuleState.setSec_lasting (m : ModuleState) (f : Security → List Session) :
    (m.setSec fun x => { x with sessions := f x }).sec.lasting = m.sec.lasting := rfl

/-- A KEY_SET that its conditions let through has put its key; after it only sessions close (R512, R521). -/
theorem keySetBody_puts (hslot : getN c.data 2 1 < if getN c.data 0 1 = 0 ∨ getN c.data 0 1 = 3 then 4 else if getN c.data 0 1 = 2 then 2 else 1)
    (hlen : getN c.data 4 2 = 0 ∨ getN c.data 4 2 = if getN c.data 0 1 = 2 then 68 else if getN c.data 0 1 = 3 then 0 else 32)
    (hlife : m.sec.life ≠ .retired) (hlast : m.lastKey (getN c.data 0 1) (getN c.data 1 1) (getN c.data 2 1) (getN c.data 4 2) = false) :
    ∃ m', keySetBody c m = { acts := [.fg], m := m' } ∧ m'.sec.lasting = (m.keyPut c.data c.p).sec.lasting := by
  unfold keySetBody
  dsimp only
  rw [if_neg (by rintro (h | ⟨h, g⟩); · omega
                 · exact hlen.elim h g), if_neg hlife, if_neg (by simp [hlast])]
  refine ⟨_, rfl, ?_⟩
  split
  · rw [ModuleState.setSec_lasting, ModuleState.closeSessions_lasting, ModuleState.log_sec]
    rfl
  · rw [ModuleState.closeSessions_lasting, ModuleState.log_sec]
    rfl

/-- What a role key is set to (R512). -/
theorem ModuleState.keyPut_role {d : List Byte} {p : Packet} (hkind : getN d 0 1 = 0) : (m.keyPut d p).sec.roleKeys =
    upd m.sec.roleKeys (4 * getN d 1 1 + getN d 2 1) fun _ =>
      if getN d 4 2 = 0 then none else some (leNat ((d.drop 8).take (getN d 4 2)) ^^^ m.wrapMask p) := by
  rw [ModuleState.keyPut, hkind]
  rfl

theorem ModuleState.keyPut_group {d : List Byte} {p : Packet} (hkind : getN d 0 1 = 1) (hlen : getN d 4 2 = 32) :
    (m.keyPut d p).sec.groupKeys = (upd m.sec.groupKeys (getN d 1 1) fun _ => some (leNat ((d.drop 8).take 32) ^^^ m.wrapMask p)) ∧
    (m.keyPut d p).sec.epochs = (upd m.sec.epochs (getN d 1 1) fun e => (e + 1) % 2 ^ 32) ∧
    (m.keyPut d p).sec.fresh = upd m.sec.fresh (getN d 1 1) fun _ => 0 := by
  rw [ModuleState.keyPut, hkind, hlen]
  exact ⟨rfl, rfl, rfl⟩

theorem ModuleState.keyPut_sign {d : List Byte} {p : Packet} (hkind : getN d 0 1 = 2) (hlen : getN d 4 2 = 68) :
    (m.keyPut d p).sec.signKeys = upd m.sec.signKeys (getN d 2 1) fun _ => some ((d.drop 8).take 68) := by
  rw [ModuleState.keyPut, hkind, hlen]
  rfl

theorem ModuleState.keyPut_vendor {d : List Byte} {p : Packet} (hkind : getN d 0 1 = 3) :
    (m.keyPut d p).sec.vendorRevoked = setBit m.sec.vendorRevoked (getN d 2 1) true := by
  rw [ModuleState.keyPut, hkind]
  rfl

theorem Security.advanced_life (x : Security) (dest : Lifecycle) : (x.advanced dest).life = dest := by
  cases dest <;> rfl

theorem lifecycleAdvanceBody_advances
    (hid : getN c.data 4 4 = Config.shake256 Config.identityKey 32 % 2 ^ 32) (hok : m.advanceOk (Lifecycle.ofCode (getN c.data 0 1))) :
    ∃ m', lifecycleAdvanceBody c m = { acts := [.fg], m := m' } ∧ m'.sec.life = Lifecycle.ofCode (getN c.data 0 1) ∧ m'.sec.sessions = [] := by
  unfold lifecycleAdvanceBody
  dsimp only
  rw [if_neg (by simp [hid, hok])]
  refine ⟨_, rfl, ?_⟩
  rw [ModuleState.closeSessions_all, ModuleState.log_sec]
  exact ⟨Security.advanced_life _ _, rfl⟩

/-- A KEY_SET's row has the effect of its put. -/
theorem keySet_does {p : Packet} {P : ModuleState → Prop} (hslot : getN (commandPart p) 2 1 <
      if getN (commandPart p) 0 1 = 0 ∨ getN (commandPart p) 0 1 = 3 then 4 else if getN (commandPart p) 0 1 = 2 then 2 else 1)
    (hlen : getN (commandPart p) 4 2 = 0 ∨
      getN (commandPart p) 4 2 = if getN (commandPart p) 0 1 = 2 then 68 else if getN (commandPart p) 0 1 = 3 then 0 else 32)
    (hlife : (taken keySetSpec p s).sec.life ≠ .retired)
    (hlast : (taken keySetSpec p s).lastKey (getN (commandPart p) 0 1) (getN (commandPart p) 1 1) (getN (commandPart p) 2 1) (getN (commandPart p) 4 2) = false)
    (hP : ∀ m', m'.sec.lasting = ((taken keySetSpec p s).keyPut (commandPart p) p).sec.lasting → P m') :
    ∃ m', Does keySetSpec (.keySet p) p s { acts := [.fg], m := m' } ∧ P m' := by
  obtain ⟨m', hbody, hsec⟩ := keySetBody_puts (c := cmdOf keySetSpec p s) hslot hlen hlife hlast
  exact ⟨m', does_of_ok rfl hbody rfl, hP m' hsec⟩

/-- Settles O41: the result of each command, and with it its row's effect. -/
theorem securityCommandsDo : Obligations.SecurityCommandsDo := by
  intro s p
  refine ⟨fun h1 h2 h3 h4 h5 h6 h7 h8 h9 h10 h11 => ?_, fun q hq hh hnew => ?_, ?_, fun hsign => ?_, fun hsign => ?_, ?_, fun hid hok => ?_⟩
  · refine ⟨_, does_of_ok rfl (sessionOpenBody_opens (c := cmdOf sessionOpenSpec p s) h1 h2 h3 h4 h5 h6 h7 h8 h9 h10 h11) rfl, ?_⟩
    obtain ⟨hleaf, hsessions, hfree⟩ := (taken sessionOpenSpec p s).fresh.2.useLeaf_keeps
    exact ⟨hleaf, rfl, hfree, _, congrArg (· ++ [_]) hsessions, rfl, rfl, rfl, rfl, rfl, rfl, rfl, rfl⟩
  · refine ⟨_, does_of_ok rfl (sessionConfirmBody_confirms (c := cmdOf sessionConfirmSpec p s) hq hh hnew) rfl, ?_⟩
    rw [ModuleState.log_sec]
    rfl
  · refine ⟨_, does_of_ok rfl rfl rfl, ?_⟩
    rw [ModuleState.closeSession_sec]
    rfl
  · exact does_of_ok rfl (attestBody_signs (c := cmdOf attestSpec p s) hsign) rfl
  · exact does_of_ok rfl (kemRotateBody_signs (c := cmdOf kemRotateSpec p s) hsign) rfl
  · intro m kind which slot kw mask sets hlife
    refine ⟨fun (hkind : getN (commandPart p) 0 1 = 0) (hslot : getN (commandPart p) 2 1 < 4) (hlen : getN (commandPart p) 4 2 = 32) => ?_,
      fun (hkind : getN (commandPart p) 0 1 = 0) (hslot : getN (commandPart p) 2 1 < 4) (hlen : getN (commandPart p) 4 2 = 0) hlast => ?_,
      fun (hkind : getN (commandPart p) 0 1 = 1) (hslot : getN (commandPart p) 2 1 = 0) (hlen : getN (commandPart p) 4 2 = 32) => ?_,
      fun (hkind : getN (commandPart p) 0 1 = 2) (hslot : getN (commandPart p) 2 1 < 2) (hlen : getN (commandPart p) 4 2 = 68) => ?_,
      fun (hkind : getN (commandPart p) 0 1 = 3) (hslot : getN (commandPart p) 2 1 < 4) (hlen : getN (commandPart p) 4 2 = 0) hlast => ?_⟩
    · refine keySet_does (by simpa [hkind] using hslot) (by simp [hkind, hlen]) hlife (by simp [hkind, hlen, ModuleState.lastKey]) fun m' h => ?_
      refine (congrArg Security.roleKeys h).trans ((ModuleState.keyPut_role hkind).trans ?_)
      rw [hlen]
      rfl
    · refine keySet_does (by simpa [hkind] using hslot) (by simp [hlen]) hlife (by rw [hkind, hlen]; exact hlast) fun m' h => ?_
      refine (congrArg Security.roleKeys h).trans ((ModuleState.keyPut_role hkind).trans ?_)
      rw [hlen]
      rfl
    · refine keySet_does (by simp [hkind, hslot]) (by simp [hkind, hlen]) hlife (by rw [hkind]; rfl) fun m' h => ?_
      obtain ⟨hgroup, hepochs, hfresh⟩ := ModuleState.keyPut_group (m := m) (p := p) hkind hlen
      exact ⟨(congrArg Security.groupKeys h).trans hgroup, (congrArg Security.epochs h).trans hepochs,
        (congrArg Security.fresh h).trans hfresh⟩
    · refine keySet_does (by simpa [hkind] using hslot) (by simp [hkind, hlen]) hlife (by simp [hkind, hlen, ModuleState.lastKey]) fun m' h => ?_
      exact (congrArg Security.signKeys h).trans (ModuleState.keyPut_sign hkind hlen)
    · refine keySet_does (by simpa [hkind] using hslot) (by simp [hlen]) hlife (by rw [hkind, hlen]; exact hlast) fun m' h => ?_
      exact (congrArg Security.vendorRevoked h).trans (ModuleState.keyPut_vendor hkind)
  · obtain ⟨m', hbody, hafter⟩ := lifecycleAdvanceBody_advances (c := cmdOf lifecycleAdvanceSpec p s) hid hok
    exact ⟨m', does_of_ok rfl hbody rfl, hafter⟩

end Sys2Proof.Machine
end

section
/-! The floodgate's own rows (R498 to R518). -/

namespace Sys2Proof.Machine

variable {s : State} {t : Nat} {m : ModuleState}

theorem ModuleState.due_of_le {began span : Nat} (h : began + span ≤ m.now) : m.due began span = true := decide_eq_true h

theorem sessionConfirmTimeout_closes {num : Nat} {q : Session} (hq : (s.then t).sec.session num = some q) (hnew : q.active = false)
    (hdue : q.since + seconds 5 ≤ (s.then t).now) : Gives (.sessionConfirmTimeout t num) s ((s.then t).closeSession num 6) :=
  gives_of_happen rfl (by simp only [hq, hnew, ModuleState.due_of_le hdue, Bool.not_false, Bool.and_self, if_true])

theorem sessionExpiry_closes {num : Nat} {q : Session} (hq : (s.then t).sec.session num = some q) (hactive : q.active)
    (hdue : q.since + seconds q.life ≤ (s.then t).now) : Gives (.sessionExpiry t num) s ((s.then t).closeSession num 1) :=
  gives_of_happen rfl (by simp only [hq, hactive, ModuleState.due_of_le hdue, Bool.and_self, if_true])

/-- The floodgate's state once a sensor has tripped (R518). -/
def Security.trippedBy (x : Security) (sensor now : Nat) : Security :=
  { x with tripped := setBit x.tripped sensor true, tamperCount := sat max32 x.tamperCount, heldBack := some now }

/-- A tamper sensor that trips closes every session (R518). -/
theorem tamperTrip_sec {sensor : Nat} (hruns : (s.then t).runs isFloodgate) (hsensor : sensor < 2) (hclear : bit (s.then t).sec.tripped sensor = false) :
    Runs (.tamperTrip t sensor) s fun m' => m'.sec = { (s.then t).sec.trippedBy sensor (s.then t).now with sessions := [] } := by
  refine runs_of_there (decide_eq_true hsensor) rfl (if_neg (by simp [hclear, hruns])) ?_
  rw [ModuleState.log_sec, show ∀ (n : ModuleState) max before source opcode off, (n.saturated max before source opcode off).sec = n.sec from
    fun n max before source opcode off => by simp, ModuleState.closeSessions_all]
  rfl

/-- After 10 s clear the trip ends (R518). -/
theorem tamperCleared_ends {since h : Nat} (hruns : (s.then t).runs isFloodgate) (hheld : (s.then t).sec.heldBack = some h) (hsince : h ≤ since)
    (hdue : since + seconds 10 ≤ (s.then t).now) :
    Runs (.tamperCleared t since) s fun m' => m'.sec.tripped = 0 ∧ m'.sec.heldBack = none :=
  runs_of_there rfl rfl (if_pos (by simp [hruns, hheld, hsince, ModuleState.due_of_le hdue])) (by simp)

theorem freshnessLow_reports {ctl : Nat} (hruns : (s.then t).runs isFloodgate) (hctl : ctl < 2) (hhigh : 0xC0000000 ≤ (s.then t).sec.fresh.getD ctl 0)
    (hnew : (s.then t).sec.freshLowAt.getD ctl none = none) : Runs (.freshnessLow t ctl) s fun m' =>
      m'.sec.freshLowAt = upd (s.then t).sec.freshLowAt ctl fun _ => some (s.then t).now := by
  refine runs_of_there (decide_eq_true hctl) rfl (if_pos ?_) ?_
  · rw [hruns, decide_eq_true hhigh, hnew]
    rfl
  · rw [ModuleState.log_sec]
    rfl

/-- Settles O40: each row through its condition. -/
theorem securityRowsRun : Obligations.SecurityRowsRun := by
  intro s t m x
  refine ⟨fun num q hq => ⟨fun hnew hdue => ?_, fun hactive hdue => ?_⟩, fun hruns sensor hsensor hclear => ?_, fun hruns h since hheld hsince hdue => ?_,
    fun hruns ctl hctl hhigh hnew => freshnessLow_reports hruns hctl hhigh hnew, fun on hlife => gives_of_happen rfl (if_pos hlife),
    fun hruns hlife => gives_of_happen rfl (if_pos ?_)⟩
  · refine ⟨_, sessionConfirmTimeout_closes hq hnew hdue, ?_⟩
    exact congrArg Security.sessions (ModuleState.closeSession_sec _ _ _)
  · refine ⟨_, sessionExpiry_closes hq hactive hdue, ?_⟩
    exact congrArg Security.sessions (ModuleState.closeSession_sec _ _ _)
  · obtain ⟨m', hm', hsec⟩ := tamperTrip_sec hruns hsensor hclear
    have hcount := (congrArg Security.tamperCount hsec).trans (sat_eq_min max32 x.tamperCount)
    exact ⟨m', hm', congrArg Security.tripped hsec, hcount, congrArg Security.heldBack hsec, congrArg Security.sessions hsec⟩
  · exact tamperCleared_ends hruns hheld hsince hdue
  · simp [show (s.then t).runs isFloodgate = true from hruns, show (s.then t).sec.life ≠ .retired from hlife]

end Sys2Proof.Machine
end

section
/-! The update commands (R530 to R541). -/

namespace Sys2Proof.Machine

variable {c : Cmd} {m : ModuleState}

/-- The answer of an IMAGE_WRITE in range: NOR_FAULT where the bank could not be written, else the erase begun or the data added (R532, R541). -/
def ModuleState.imageWritten (m : ModuleState) (d : List Byte) : Result :=
  if (m.norTry m.inactive (if bit (getN d 4 1) 0 then 1 else 0)).1 then
    { status := stNorFault
      m := (m.norTry m.inactive (if bit (getN d 4 1) 0 then 1 else 0)).2.setBank m.inactive fun b => { b with state := .written } }
  else if bit (getN d 4 1) 0 then
    { acts := [.wd]
      m := ((m.norTry m.inactive (if bit (getN d 4 1) 0 then 1 else 0)).2.setBank m.inactive fun b => { b with state := .written }).setWarden fun w =>
        { w with erasing := some m.now, afterErase := d.drop 8 } }
  else
    { acts := [.wd]
      m := (m.norTry m.inactive (if bit (getN d 4 1) 0 then 1 else 0)).2.setBank m.inactive fun x =>
        { x with state := .written, writes := x.writes ++ [(getN d 0 4, d.drop 8)] } }

theorem imageWriteBody_writes (halign : getN c.data 0 4 % 8 = 0) (hend : getN c.data 0 4 + (c.data.drop 8).length ≤ 24 * 1048576)
    (herase : bit (getN c.data 4 1) 0 → getN c.data 0 4 = 0) (hidle : m.warden.erasing = none) : imageWriteBody c m = m.imageWritten c.data := by
  have hin : ¬ (getN c.data 0 4 % 8 ≠ 0 ∨ 24 * 1048576 < getN c.data 0 4 + (c.data.drop 8).length ∨ (bit (getN c.data 4 1) 0 ∧ getN c.data 0 4 ≠ 0)) := by
    rintro (h | h | ⟨he, h⟩)
    · exact h halign
    · omega
    · exact h (herase he)
  unfold imageWriteBody
  dsimp only
  rw [if_neg hin, if_neg (by simp [hidle])]
  rfl

theorem ModuleState.imageWritten_refused {d : List Byte} (h : 0x8000 ≤ (m.imageWritten d).status) :
    (m.imageWritten d).acts = [] ∧ (m.imageWritten d).wait = false := by
  revert h
  unfold ModuleState.imageWritten
  generalize m.norTry _ _ = k
  split
  · exact fun _ => ⟨rfl, rfl⟩
  · split <;> exact fun h => absurd (show 0x8000 ≤ stOk from h) (by decide)

theorem imageVerifyBody_starts (hidle : m.warden.erasing = none) : imageVerifyBody c m =
    { acts := [.wd, .fg], m := m.setWarden fun w => { w with verifying := some m.now } } :=
  if_neg (by simp [hidle])

/-- The answer of a CONFIG_LOAD of the right length (R530, R541). -/
def ModuleState.configLoaded (m : ModuleState) (d : List Byte) : Result :=
  if m.integratorSigned (d.take 3152) (d.drop 3154) = false then { status := stSignatureInvalid, m }
  else match configFails (d.take 3152) m.variant m.pair.id with
    | some o => { status := (configAnswer (d.take 3152) m.variant o).1, data := (configAnswer (d.take 3152) m.variant o).2, m }
    | none =>
      if (m.norTry 0 0).1 then { status := stNorFault, m := (m.norTry 0 0).2 }
      else
        { acts := [.fg, .wd]
          m := ((m.norTry 0 0).2.setWarden fun w => { w with pendingCfg := some (d.take 3152) }).log evConfigStored tgModule
            [(getN (d.take 3152) 4 4 : Int), ((Config.shake256 (d.take 3152) 32 % 2 ^ 64 : Nat) : Int)] }

theorem configLoadBody_loads (hlen : c.data.length = 3154 + getN c.data 3152 2) (hidle : m.warden.activation = none) :
    configLoadBody c m = m.configLoaded c.data := by
  unfold configLoadBody ModuleState.configLoaded
  dsimp only
  cases hsigned : m.integratorSigned (c.data.take 3152) (c.data.drop 3154) with
  | false =>
    rw [if_pos (by simp), if_pos rfl]
    rfl
  | true =>
    rw [if_neg (by simp [hlen]), if_neg (by simp [hidle]), if_neg (c := true = false) (by simp)]
    rfl

theorem ModuleState.configLoaded_refused {d : List Byte} (h : 0x8000 ≤ (m.configLoaded d).status) :
    (m.configLoaded d).acts = [] ∧ (m.configLoaded d).wait = false := by
  revert h
  unfold ModuleState.configLoaded
  split
  · exact fun _ => ⟨rfl, rfl⟩
  · split
    · exact fun _ => ⟨rfl, rfl⟩
    · split
      · exact fun _ => ⟨rfl, rfl⟩
      · exact fun h => absurd (show 0x8000 ≤ stOk from h) (by decide)

/-- The answer of an ACTIVATE of a pending configuration (R534, R535, R541). -/
def ModuleState.configActivated (m : ModuleState) (d : List Byte) : Result :=
  if (m.norTry 0 0).1 then { status := stNorFault, m := (m.norTry 0 0).2 }
  else
    { acts := [.wd]
      m := ((m.norTry 0 0).2.leave.journal fun j =>
        { j with step := 1, what := 1, fromBank := m.warden.activeBank, toBank := m.warden.activeBank, doneMask := 0 }).setWarden fun w =>
          { w with activation := some (m.now, bit (getN d 1 1) 1, 0) } }

theorem activateBody_activates (hwhat : getN c.data 0 1 = 1) (hpending : m.warden.pendingCfg.isSome) (hphase : m.reset.phase ≠ .recovery)
    (halone : m.paired = false) (hflag : bit (getN c.data 1 1) 0) (hwindow : m.windowOk) (herase : m.warden.erasing = none)
    (hload : m.loadingConfig = false) (hidle : m.warden.activation = none) : activateBody c m = m.configActivated c.data := by
  have hrec : (m.reset.phase == .recovery) = false := beq_eq_false_iff_ne.mpr hphase
  have hok : m.whatOk 1 = true := hpending
  simp only [activateBody, hwhat, hrec, halone, hflag, hwindow, herase, hload, hidle, hok, Bool.and_false, Bool.false_and, Bool.false_eq_true, if_false,
    Nat.reduceEqDiff, Bool.not_true, Bool.not_false, Bool.and_self, Option.isSome_none, Bool.or_self]
  rfl

theorem ModuleState.configActivated_refused {d : List Byte} (h : 0x8000 ≤ (m.configActivated d).status) :
    (m.configActivated d).acts = [] ∧ (m.configActivated d).wait = false := by
  revert h
  unfold ModuleState.configActivated
  split
  · exact fun _ => ⟨rfl, rfl⟩
  · exact fun h => absurd (show 0x8000 ≤ stOk from h) (by decide)

/-- Settles O43: the answer of each command, and with it its row's effect. -/
theorem wardenCommandsDo : Obligations.WardenCommandsDo := by
  intro s p
  refine ⟨fun h1 h2 h3 h4 => ?_, fun h => ?_, fun _ h2 h3 => ?_, fun h1 h2 h3 h4 h5 h6 h7 h8 h9 => ?_⟩
  · exact does_of_body rfl (imageWriteBody_writes (c := cmdOf imageWriteSpec p s) h1 h2 h3 h4) ModuleState.imageWritten_refused
  · exact does_of_ok rfl (imageVerifyBody_starts (c := cmdOf imageVerifySpec p s) h) rfl
  · exact does_of_body rfl (configLoadBody_loads (c := cmdOf configLoadSpec p s) h2 h3) ModuleState.configLoaded_refused
  · exact does_of_body rfl (activateBody_activates (c := cmdOf activateSpec p s) h1 h2 h3 h4 h5 h6 h7 h8 h9) ModuleState.configActivated_refused

end Sys2Proof.Machine
end

section
/-! What leaves the clock and what the recorder keeps alone: the operations on axes, drives, load channels, outputs and the ring that disarming and a
power fail set going (R549, R580). -/

namespace Sys2Proof.Machine

/-- The clock, and the recorder without what taking records changes. -/
def ModuleState.recNow (m : ModuleState) : Nat × Recorder := (m.now, m.recd.kept)

theorem ModuleState.recNow_ext {m n : ModuleState} (hnow : m.now = n.now) (hkept : m.recd.kept = n.recd.kept) : m.recNow = n.recNow :=
  congrArg₂ Prod.mk hnow hkept

variable (m : ModuleState)

/-! ### Updates, events and answers -/

@[simp] theorem ModuleState.setAxis_recNow (a : Nat) (f : Axis → Axis) : (m.setAxis a f).recNow = m.recNow := rfl
@[simp] theorem ModuleState.setDrive_recNow (a : Nat) (f : Drive → Drive) : (m.setDrive a f).recNow = m.recNow := rfl
@[simp] theorem ModuleState.setLoad_recNow (n : Nat) (f : Load → Load) : (m.setLoad n f).recNow = m.recNow := rfl
@[simp] theorem ModuleState.setLoads_recNow (f : LoadCommon → LoadCommon) : (m.setLoads f).recNow = m.recNow := rfl
@[simp] theorem ModuleState.setRing_recNow (f : DikeRing → DikeRing) : (m.setRing f).recNow = m.recNow := rfl
@[simp] theorem ModuleState.setSafety_recNow (k : Nat) (f : Safety → Safety) : (m.setSafety k f).recNow = m.recNow := rfl
@[simp] theorem ModuleState.setTest_recNow (f : RingTest → RingTest) : (m.setTest f).recNow = m.recNow := rfl
@[simp] theorem ModuleState.setPair_recNow (f : Pair → Pair) : (m.setPair f).recNow = m.recNow := rfl
@[simp] theorem ModuleState.setReset_recNow (f : ResetState → ResetState) : (m.setReset f).recNow = m.recNow := rfl
@[simp] theorem ModuleState.setWarden_recNow (f : Warden → Warden) : (m.setWarden f).recNow = m.recNow := rfl

@[simp] theorem ModuleState.log_recNow (code source : Nat) (items : List Int) : (m.log code source items).recNow = m.recNow :=
  ModuleState.recNow_ext rfl (m.log_kept _ _ _)

@[simp] theorem ModuleState.logIf_recNow (b : Bool) (code source : Nat) (items : List Int) : (m.logIf b code source items).recNow = m.recNow :=
  ModuleState.recNow_ext rfl (m.logIf_kept _ _ _ _)

@[simp] theorem ModuleState.saturated_recNow (max before source opcode off : Nat) : (m.saturated max before source opcode off).recNow = m.recNow :=
  m.logIf_recNow _ _ _ _

@[simp] theorem ModuleState.settle_recNow (ref : Nat) (status : Option Nat) (data : Option (List Byte)) : (m.settle ref status data).recNow = m.recNow :=
  ModuleState.recNow_ext rfl (m.settle_kept _ _ _)

@[simp] theorem ModuleState.recNow_ite (c : Prop) [Decidable c] (x y : ModuleState) : (if c then x else y).recNow = if c then x.recNow else y.recNow :=
  apply_ite ModuleState.recNow c x y

@[simp] theorem ModuleState.each_recNow {α : Type} (l : List α) (f : ModuleState → α → ModuleState) (h : ∀ m x, (f m x).recNow = m.recNow) :
    (m.each l f).recNow = m.recNow :=
  m.each_frame l f ModuleState.recNow h

/-! ### Motion -/

@[simp] theorem ModuleState.bridgeOff_recNow (a : Nat) : (m.bridgeOff a).recNow = m.recNow := rfl
@[simp] theorem ModuleState.newMove_recNow (a : Nat) : (m.newMove a).recNow = m.recNow := rfl
@[simp] theorem ModuleState.energise_recNow (a : Nat) : (m.energise a).recNow = m.recNow := by simp [ModuleState.energise]
@[simp] theorem ModuleState.rest_recNow (a : Nat) : (m.rest a).recNow = m.recNow := by simp [ModuleState.rest]

@[simp] theorem ModuleState.completeMove_recNow (a : Nat) : (m.completeMove a).recNow = m.recNow := by
  unfold ModuleState.completeMove
  dsimp only
  split <;> simp

@[simp] theorem ModuleState.skipDone_recNow (a n : Nat) : (m.skipDone a n).recNow = m.recNow := by
  induction n generalizing m with
  | zero => rfl
  | succ n ih =>
    unfold ModuleState.skipDone
    split
    · rfl
    · simp [ih]

@[simp] theorem ModuleState.joinQueue_recNow (a : Nat) (k : Plan) : (m.joinQueue a k).recNow = m.recNow := by
  unfold ModuleState.joinQueue
  dsimp only
  split <;> simp

@[simp] theorem ModuleState.plot_recNow (a : Nat) (k : Plan) (rest : Bool) : (m.plot a k rest).recNow = m.recNow := by
  unfold ModuleState.plot
  dsimp only
  split
  · split
    · simp
    · split <;> simp
  · simp

@[simp] theorem ModuleState.travelOn_recNow (a : Nat) (p : Plan) : (m.travelOn a p).recNow = m.recNow := m.plot_recNow a _ _

@[simp] theorem ModuleState.arrived_recNow (a : Nat) (p : Plan) : (m.arrived a p).recNow = m.recNow := by
  unfold ModuleState.arrived
  dsimp only
  split <;> simp

@[simp] theorem ModuleState.reload_recNow (a n : Nat) : (m.reload a n).recNow = m.recNow := by
  unfold ModuleState.reload
  dsimp only
  split
  · split <;> simp
  · rfl

@[simp] theorem ModuleState.depart_recNow (a : Nat) (v : Move) : (m.depart a v).recNow = m.recNow := by simp [ModuleState.depart]

@[simp] theorem ModuleState.start_recNow (a : Nat) : (m.start a).recNow = m.recNow := by
  unfold ModuleState.start
  dsimp only
  split
  · rfl
  split
  · simp
  split <;> simp

@[simp] theorem ModuleState.afterStep_recNow (a : Nat) : (m.afterStep a).recNow = m.recNow := by
  unfold ModuleState.afterStep
  split <;> simp

@[simp] theorem ModuleState.planAnew_recNow (a : Nat) : (m.planAnew a).recNow = m.recNow := by simp [ModuleState.planAnew]
@[simp] theorem ModuleState.flush_recNow (a cause : Nat) : (m.flush a cause).recNow = m.recNow := by simp [ModuleState.flush]

@[simp] theorem ModuleState.stopAxis_recNow (a : Nat) (kind : StopKind) (cause : Nat) : (m.stopAxis a kind cause).recNow = m.recNow := by
  simp [ModuleState.stopAxis]

@[simp] theorem ModuleState.offAtRest_recNow (a : Nat) : (m.offAtRest a).recNow = m.recNow := by simp [ModuleState.offAtRest]

/-! ### Load channels and outputs -/

@[simp] theorem ModuleState.spillway_recNow (n : Nat) : (m.spillway n).recNow = m.recNow := by
  unfold ModuleState.spillway
  split
  · rfl
  · simp only [ModuleState.logIf_recNow, ModuleState.saturated_recNow, ModuleState.setLoads_recNow, ModuleState.setLoad_recNow]
    rfl

@[simp] theorem ModuleState.lsOff_recNow (n : Nat) : (m.lsOff n).recNow = m.recNow := by simp [ModuleState.lsOff]

@[simp] theorem ModuleState.lsFollow_recNow (n : Nat) : (m.lsFollow n).recNow = m.recNow := by
  unfold ModuleState.lsFollow
  dsimp only
  split
  · rfl
  split <;> simp

@[simp] theorem ModuleState.lsDemand_recNow (n : Nat) (on : Bool) : (m.lsDemand n on).recNow = m.recNow := by simp [ModuleState.lsDemand]
@[simp] theorem ModuleState.foDemand_recNow (n : Nat) (on : Bool) : (m.foDemand n on).recNow = m.recNow := rfl

/-! ### The ring -/

@[simp] theorem ModuleState.noteObs_recNow : m.noteObs.recNow = m.recNow := rfl
@[simp] theorem ModuleState.testPassed_recNow (i : Nat) : (m.testPassed i).recNow = m.recNow := rfl

@[simp] theorem ModuleState.endTest_recNow : m.endTest.recNow = m.recNow := by
  unfold ModuleState.endTest
  split <;> simp

@[simp] theorem ModuleState.testDone_recNow (i res : Nat) : (m.testDone i res).recNow = m.recNow := by
  unfold ModuleState.testDone
  split <;> simp

@[simp] theorem ModuleState.endIfDone_recNow : m.endIfDone.recNow = m.recNow := by
  unfold ModuleState.endIfDone
  split <;> simp

@[simp] theorem ModuleState.endProof_recNow (x : RingTest) : (m.endProof x).recNow = m.recNow := by simp [ModuleState.endProof]

@[simp] theorem ModuleState.dropPulse_recNow (i : Nat) : (m.dropPulse i).recNow = m.recNow := by
  unfold ModuleState.dropPulse
  split <;> simp

@[simp] theorem ModuleState.openSwitch_recNow (i chans cause mask : Nat) : (m.openSwitch i chans cause mask).recNow = m.recNow := by
  simp [ModuleState.openSwitch]

/-! ### Disarming and leaving the pair -/

@[simp] theorem ModuleState.sendLease_recNow (kind leaseNo : Nat) : (m.sendLease kind leaseNo).recNow = m.recNow := rfl

@[simp] theorem ModuleState.stopExclusive_recNow : m.stopExclusive.recNow = m.recNow := by
  unfold ModuleState.stopExclusive
  dsimp only
  rw [ModuleState.each_recNow, ModuleState.each_recNow, ModuleState.each_recNow]
  · exact fun m n => m.lsOff_recNow n
  · exact fun _ _ => rfl
  · exact fun _ _ => rfl

@[simp] theorem ModuleState.handOver_recNow (cause : Nat) (role : PairRole) : (m.handOver cause role).recNow = m.recNow := by
  simp [ModuleState.handOver]

@[simp] theorem ModuleState.leave_recNow : m.leave.recNow = m.recNow := by simp [ModuleState.leave]
@[simp] theorem ModuleState.dropDuty_recNow (relinquish : Bool) : (m.dropDuty relinquish).recNow = m.recNow := by simp [ModuleState.dropDuty]

@[simp] theorem ModuleState.disarm_recNow (cause : Nat) (relinquish : Bool) (holdFor : Option Nat) :
    (m.disarm cause relinquish holdFor).recNow = m.recNow := by
  simp [ModuleState.disarm]

end Sys2Proof.Machine
end

section
/-! The supplies' rows (R549 to R562). -/

namespace Sys2Proof.Machine

variable {s : State} {t : Nat} {m : ModuleState}

/-! ### What giving up duty and disarming leave alone -/

/-- A part of the module that giving up duty leaves alone: motion, load channels, outputs, the pair and events do not touch it. -/
structure OffDuty {β : Type} (π : ModuleState → β) : Prop extends OffMotion π, OffLoads π where
  fout : ∀ m n f, π (m.setFout n f) = π m
  pair : ∀ m f, π (m.setPair f) = π m

/-- One that disarming leaves alone too. -/
structure OffArming {β : Type} (π : ModuleState → β) : Prop extends OffDuty π where
  reset : ∀ m f, π (m.setReset f) = π m

section

variable {β : Type} {π : ModuleState → β} (h : OffDuty π) (m : ModuleState)
include h

theorem OffDuty.log (code source : Nat) (items : List Int) : π (m.log code source items) = π m := h.toOffMotion.comm _ _

theorem OffDuty.stopExclusive : π m.stopExclusive = π m :=
  calc π m.stopExclusive
    _ = π ((m.each (nums16.filter fun n => m.exclusiveLs n && (m.load n).on) fun m n => m.lsOff n).each (nums16.filter m.exclusiveFo) fun m n =>
          m.setFout n fun x => x.switchOff m.now) := ModuleState.each_frame _ _ _ π fun m a => (h.toOffMotion.bridgeOff _ a).trans (h.axis m a _)
    _ = π (m.each (nums16.filter fun n => m.exclusiveLs n && (m.load n).on) fun m n => m.lsOff n) := ModuleState.each_frame _ _ _ π fun m n => h.fout m n _
    _ = π m := m.each_frame _ _ π fun m n => h.toOffLoads.lsOff m n

theorem OffDuty.sendLease (kind leaseNo : Nat) : π (m.sendLease kind leaseNo) = π m := by
  unfold ModuleState.sendLease ModuleState.sendLevee
  exact h.pair m _

theorem OffDuty.handOver (cause : Nat) (role : PairRole) : π (m.handOver cause role) = π m :=
  (h.log _ _ _ _).trans ((h.pair _ _).trans ((h.sendLease _ _ _).trans (h.stopExclusive m)))

theorem OffDuty.leave : π m.leave = π m := by
  simp only [ModuleState.leave, apply_ite π, h.sendLease, h.handOver, ite_self]

theorem OffDuty.dropDuty (relinquish : Bool) : π (m.dropDuty relinquish) = π m := by
  simp only [ModuleState.dropDuty, apply_ite π, h.handOver, h.pair, ite_self]

end

theorem OffArming.disarm {β : Type} {π : ModuleState → β} (h : OffArming π) (m : ModuleState) (cause : Nat) (relinquish : Bool) (holdFor : Option Nat) :
    π (m.disarm cause relinquish holdFor) = π m := by
  unfold ModuleState.disarm
  split
  · rfl
  · dsimp only
    generalize hm1 : (m.dropDuty relinquish).setReset _ = m1
    have hm : π m1 = π m := by
      rw [← hm1]
      exact (h.reset _ _).trans (h.toOffDuty.dropDuty m relinquish)
    rw [h.toOffDuty.log, ModuleState.each_frame (π := π), ModuleState.each_frame (π := π), ModuleState.each_frame (π := π), hm]
    · exact fun m a => (h.toOffMotion.offAtRest _ a).trans (h.toOffMotion.stopAxis m a _ _)
    · exact fun m n => by simp only [apply_ite π, h.load, h.toOffLoads.lsDemand, ite_self]
    · exact fun m n => by
        simp only [apply_ite π, ModuleState.foDemand, h.fout, ite_self]

theorem offArming_warden : OffArming ModuleState.warden where
  toOffMotion := offEdges_warden.toOffMotion
  load := fun _ _ _ => rfl
  loads := fun _ _ => rfl
  free := fun _ _ => rfl
  fout := fun _ _ _ => rfl
  pair := fun _ _ => rfl
  reset := fun _ _ => rfl

/-! ### Power fail -/

theorem ModuleState.failFlushAt_of_recNow {n : ModuleState} (h : n.recNow = m.recNow) : n.recd.failFlushAt = m.recd.failFlushAt :=
  congrArg (fun x : Nat × Recorder => x.2.failFlushAt) h

theorem ModuleState.now_of_recNow {n : ModuleState} (h : n.recNow = m.recNow) : n.now = m.now := congrArg Prod.fst h

/-- A VCTL power fail disarms and begins the flush (R549, R553). -/
theorem vctlPowerFail_flushes (hheld : (s.then t).reset.phase ≠ .held) (hlock : (s.then t).reset.phase ≠ .lockout)
    (hidle : (s.then t).recd.failFlushAt = none) : Runs (.vctlPowerFail t) s fun m' =>
      m'.reset.armed = false ∧ m'.recd.failFlushAt = some (s.then t).now := by
  refine runs_of_there rfl rfl (if_neg (by simp [hheld, hlock, hidle])) ?_
  dsimp only
  generalize hm1 : (if (s.then t).paired && (s.then t).pair.role.holds then _ else _ : ModuleState) = m1
  have hnow : m1.now = (s.then t).now := ModuleState.now_of_recNow (by rw [← hm1]; simp)
  generalize hm3 : m1.beginFlush.disarm 2 false none = m3
  have harmed : m3.reset.armed = false := hm3 ▸ ModuleState.disarm_armed _ _ _ _
  have hflush : m3.recd.failFlushAt = some (s.then t).now := by
    rw [← hm3, ModuleState.failFlushAt_of_recNow (ModuleState.disarm_recNow _ _ _ _), ← hnow]
    rfl
  generalize hm4 : ({ m3 with can := updAll m3.can fun q => { q with term := false } } : ModuleState) = m4
  have hbase : m4.base = m3.base := by rw [← hm4]; rfl
  have hrec : m4.recNow = m3.recNow := by rw [← hm4]; rfl
  constructor
  · rw [ModuleState.armed_of_base (m := m3) ?_, harmed]
    rw [ModuleState.openSwitch_base, ModuleState.openSwitch_base, ModuleState.each_base, hbase]
    exact fun _ _ => rfl
  · rw [ModuleState.failFlushAt_of_recNow (m := m3) ?_, hflush]
    rw [ModuleState.openSwitch_recNow, ModuleState.openSwitch_recNow, ModuleState.each_recNow, hrec]
    exact fun _ _ => rfl

/-! ### Holdup -/

theorem ModuleState.setHoldup_keeps (m : ModuleState) (x : Holdup) : (m.setHoldup x).warden.holdup = x ∧ (m.setHoldup x).warden.holdCap = m.warden.holdCap := by
  unfold ModuleState.setHoldup
  split
  · next h => exact ⟨h, rfl⟩
  · exact ⟨rfl, rfl⟩

/-- The usable energy judged at 0.30 J (R550). -/
def ModuleState.judgeHoldup (m : ModuleState) : ModuleState :=
  if 300 ≤ m.warden.holdMj then m.setHoldup .ready else if m.warden.holdup = .ready then m.setHoldup .low else m

theorem ModuleState.judgeHoldup_keeps (m : ModuleState) : m.judgeHoldup.warden.holdCap = m.warden.holdCap ∧
    m.judgeHoldup.warden.holdup = if 300 ≤ m.warden.holdMj then .ready else if m.warden.holdup = .ready then .low else m.warden.holdup := by
  obtain ⟨hready, hreadyCap⟩ := m.setHoldup_keeps .ready
  obtain ⟨hlow, hlowCap⟩ := m.setHoldup_keeps .low
  unfold ModuleState.judgeHoldup
  split
  · exact ⟨hreadyCap, hready⟩
  split
  · exact ⟨hlowCap, hlow⟩
  · exact ⟨rfl, rfl⟩

theorem holdupStateChange_gives (cap : Nat) :
    Gives (.holdupStateChange t cap) s ((s.then t).setWarden fun w => { w with holdCap := cap }).judgeHoldup := gives_of_happen rfl rfl

/-! ### Levels of VDRV -/

/-- A VDRV level change is kept through what it makes of motion (R555). -/
theorem vdrvLevelChange_keeps (bulk : Nat) (hruns : (s.then t).runs isWarden)
    (hnew : (s.then t).warden.level ≠ levelOf (s.then t).warden.level bulk) : Runs (.vdrvLevelChange t bulk) s fun m' =>
      m'.warden.level = levelOf (s.then t).warden.level bulk ∧ m'.warden.bulk = bulk := by
  refine runs_of_there rfl rfl (if_neg (by simp [hnew, hruns])) ?_
  dsimp only
  generalize hm1 : ((s.then t).setWarden fun w => { w with level := levelOf (s.then t).warden.level bulk, bulk }).log _ _ _ = m1
  have hwarden : m1.warden = { (s.then t).warden with level := levelOf (s.then t).warden.level bulk, bulk } := by rw [← hm1]; rfl
  have hmotion := offEdges_warden.toOffMotion
  have hhalve : (m1.halveMoves ((levelOf (s.then t).warden.level bulk).code != 0)).warden = m1.warden :=
    m1.each_frame _ _ ModuleState.warden fun m a => by
      simp only [apply_ite ModuleState.warden, hmotion.planAnew, hmotion.axis, ite_self]
  have hpause : ∀ m : ModuleState, (m.each axisNums fun m a => m.pauseAxis a).warden = m.warden := fun m =>
    m.each_frame _ _ ModuleState.warden fun m a => by
      simp only [ModuleState.pauseAxis, apply_ite ModuleState.warden, ModuleState.log, hmotion.comm, hmotion.axis, ite_self]
  have hresume : ∀ m : ModuleState, (m.each axisNums fun m a => m.resumeAxis a).warden = m.warden := fun m =>
    m.each_frame _ _ ModuleState.warden fun m a => by
      unfold ModuleState.resumeAxis
      split
      · rfl
      · exact (hmotion.comm _ _).trans ((hmotion.start _ a).trans (hmotion.axis _ _ _))
  suffices h : ∀ m' : ModuleState, m'.warden = m1.warden → m'.warden.level = levelOf (s.then t).warden.level bulk ∧ m'.warden.bulk = bulk by
    refine h _ ?_
    simp only [apply_ite ModuleState.warden, hresume, offSupply_warden.followVdrv, hpause, hhalve, ite_self]
  intro m' hm'
  rw [hm', hwarden]
  exact ⟨rfl, rfl⟩

theorem vdrvSurgeDisconnect_disconnects {v : Nat} (hon : (s.then t).warden.disconnected = false)
    (hsurge : 1800 < v ∨ (1560 < v ∧ ∃ a, (s.then t).warden.surgeAt = some a ∧ a + seconds 1 ≤ (s.then t).now)) :
    Runs (.vdrvSurgeDisconnect t v) s fun m' => m'.warden.disconnected ∧ m'.warden.vdrv = v := by
  have hdue : (decide (1800 < v) || (decide (1560 < v) && (s.then t).dueO (s.then t).warden.surgeAt (seconds 1))) = true := by
    rcases hsurge with hpeak | ⟨hhigh, a, ha, hlast⟩
    · rw [decide_eq_true hpeak, Bool.true_or]
    · rw [decide_eq_true hhigh, ModuleState.dueO_some ha hlast, Bool.and_self, Bool.or_true]
  refine runs_of_there rfl rfl (if_neg (by simp only [hon, hdue]; decide)) ?_
  show (ModuleState.warden (ModuleState.followVdrv _ _)).disconnected ∧ (ModuleState.warden (ModuleState.followVdrv _ _)).vdrv = v
  rw [offSupply_warden.followVdrv]
  exact ⟨rfl, rfl⟩

theorem vdrvReconnect_reconnects {v since : Nat} (hoff : (s.then t).warden.disconnected) (hlow : v < 1500) (hdue : since + ms 100 ≤ (s.then t).now) :
    Runs (.vdrvReconnect t v since) s fun m' => m'.warden.disconnected = false ∧ m'.warden.vdrv = v ∧ m'.warden.surgeAt = none := by
  refine runs_of_there rfl rfl (if_neg (by simp [hoff, ModuleState.due_of_le hdue, hlow])) ?_
  show (ModuleState.warden (ModuleState.followVdrv _ _)).disconnected = false ∧ (ModuleState.warden (ModuleState.followVdrv _ _)).vdrv = v ∧
    (ModuleState.warden (ModuleState.followVdrv _ _)).surgeAt = none
  rw [offSupply_warden.followVdrv]
  exact ⟨rfl, rfl, rfl⟩

/-! ### The baseplate -/

/-- 1 s at 115 °C disarms without re-arming (R562). -/
theorem thermalShutdown_disarms {since : Nat} {x : Int} (hon : (s.then t).warden.shutdown = false) (hhot : 1150 ≤ x)
    (hdue : since + seconds 1 ≤ (s.then t).now) : Runs (.thermalShutdown t since x) s fun m' =>
      m'.warden.shutdown ∧ m'.reset.armed = false ∧ m'.reset.autoRearm = false := by
  refine runs_of_there rfl rfl (if_neg (by simp [hon, ModuleState.due_of_le hdue, hhot])) ?_
  refine ⟨?_, ModuleState.disarm_armed _ _ _ _, rfl⟩
  show (ModuleState.warden (ModuleState.disarm _ 3 true none)).shutdown = true
  rw [offArming_warden.disarm]
  rfl

/-- Settles O44: each row through its condition. -/
theorem supplyRowsRun : Obligations.SupplyRowsRun := by
  intro s t m w
  refine ⟨vctlPowerFail_flushes, fun cap => ?_, fun hcharging hheld hdue => ?_, fun uf h => ?_, vdrvLevelChange_keeps,
    fun v hon hsurge => vdrvSurgeDisconnect_disconnects hon hsurge, fun v since hoff hlow hdue => vdrvReconnect_reconnects hoff hlow hdue,
    fun since x hcold hhot hdue => ?_, fun since x hhot hcold hdue => ?_, fun since x hon hhot hdue => thermalShutdown_disarms hon hhot hdue⟩
  · obtain ⟨hcap, hjudged⟩ := ((s.then t).setWarden fun w => { w with holdCap := cap }).judgeHoldup_keeps
    have hmj : ((s.then t).setWarden fun w => { w with holdCap := cap }).warden.holdMj = w.holdUf * (cap * cap - 130 * 130) / 200000 := rfl
    rw [hmj] at hjudged
    exact ⟨_, holdupStateChange_gives cap, hcap, hjudged⟩
  · exact runs_of_there rfl rfl (if_pos ⟨hcharging, hheld, ModuleState.due_of_le hdue⟩) (ModuleState.setHoldup_keeps _ _).1
  · exact gives_of_happen rfl (if_pos (h.imp_right ModuleState.due_of_le))
  · exact runs_of_there rfl rfl (if_neg (by simp [show (s.then t).warden.hot = false from hcold, ModuleState.due_of_le (m := s.then t) hdue, hhot])) ⟨rfl, rfl⟩
  · exact runs_of_there rfl rfl (if_neg (by simp [show (s.then t).warden.hot = true from hhot, ModuleState.due_of_le (m := s.then t) hdue, hcold])) ⟨rfl, rfl⟩

end Sys2Proof.Machine
end

section
/-! Transfers of duty, and the ends of forwards (R465, R484, R485, R486, R491). -/

namespace Sys2Proof.Machine

variable {s : State} {t : Nat} {m : ModuleState}

theorem ModuleState.leveeRuns_iff : m.leveeRuns ↔ m.runs isPolder ∧ m.runs isNetwork := by
  simp [ModuleState.leveeRuns]

/-- A planned transfer leaves the holder in its new role (R465). -/
theorem ModuleState.handOver_pair (m : ModuleState) (cause : Nat) (role : PairRole) :
    (m.handOver cause role).pair.role = role ∧ (m.handOver cause role).pair.planned = none ∧ (m.handOver cause role).pair.leaseEnd = none ∧
      (m.handOver cause role).pair.dutyAt = m.now ∧ (m.handOver cause role).pair.checkAt = none := ⟨rfl, rfl, rfl, rfl, rfl⟩

theorem plannedTransfer_hands {cause : Nat} (asked : Bool) (hpaired : (s.then t).paired) (hlink : (s.then t).leveeRuns)
    (hplan : (s.then t).pair.planned = some (cause, false)) (hrole : (s.then t).pair.role = .duty) (hfit : (s.then t).partnerFit)
    (hdiscord : (s.then t).pair.discord = false) : Gives (.plannedTransfer t asked) s ((s.then t).handOver cause .standby) :=
  gives_of_happen rfl (by
    simp only [hplan, Option.some_or, hpaired, hlink, hrole, hfit, hdiscord, beq_self_eq_true, Bool.and_self, Bool.false_and, Bool.not_false, Bool.true_or,
      if_true])

theorem rotateDue_plans (hpaired : (s.then t).paired) (hlink : (s.then t).leveeRuns) (hrole : (s.then t).pair.role = .duty)
    (hon : bit ((s.then t).cfg (pairCfg + 1) 1) 2)
    (hdue : (s.then t).pair.dutyAt + seconds (3600 * (s.then t).cfg (pairCfg + 6) 2) ≤ (s.then t).now) (hdiscord : (s.then t).pair.discord = false)
    (hfit : (s.then t).partnerFit) (hplan : (s.then t).pair.planned = none) :
    Gives (.rotateDue t) s ((s.then t).setPair fun x => { x with planned := some (3, true) }) :=
  gives_of_happen rfl (if_pos (by
    simp only [hpaired, (ModuleState.leveeRuns_iff.mp hlink).1, hrole, hon, ModuleState.due_of_le hdue, hdiscord, hfit, hplan, beq_self_eq_true,
      Bool.and_self, Bool.not_false, Option.isNone_none]))

theorem revertDue_plans {a : Nat} (hpaired : (s.then t).paired) (hlink : (s.then t).leveeRuns) (hpref : (s.then t).preferred)
    (hrole : (s.then t).pair.role = .standby) (hon : bit ((s.then t).cfg (pairCfg + 1) 1) 1) (hlost : (s.then t).pair.lostDuty)
    (hdiscord : (s.then t).pair.discord = false) (hsince : (s.then t).pair.standbySince = some a)
    (hdue : a + seconds ((s.then t).cfg (pairCfg + 12) 2) ≤ (s.then t).now) :
    Gives (.revertDue t) s ((s.then t).setPair fun x => { x with planned := some (4, true) }) :=
  gives_of_happen rfl (if_pos (by
    simp only [hpaired, (ModuleState.leveeRuns_iff.mp hlink).1, hpref, hrole, hon, hlost, ModuleState.dueO_some hsince hdue, hdiscord, beq_self_eq_true,
      Bool.and_self, Bool.not_false]))

/-- The check after a transfer looks at the axes that the pair shares (R484). -/
theorem transferCheckDone_gives {a : Nat} (hat : (s.then t).pair.checkAt = some a) (hdue : a + ms 5 ≤ (s.then t).now) :
    Gives (.transferCheckDone t) s
      (if (s.then t).pair.role == .duty && (s.then t).sharedAxes.any (fun k => ((s.then t).drive k).bridge == .latched &&
          (((s.then t).drive k).fault.code == 5 || ((s.then t).drive k).fault.code == 8)) then
        ((s.then t).setPair fun x => { x with checkAt := none }).handOver 8 .standby
      else (s.then t).setPair fun x => { x with checkAt := none }) :=
  gives_of_happen rfl (if_neg (by rw [ModuleState.dueO_some hat hdue]; decide))

theorem discordantEnd_ends {k a : Nat} (hdis : (s.then t).pair.discordant = some k) (hat : (s.then t).pair.matchSince = some a)
    (hdue : a + seconds 1 ≤ (s.then t).now) : Runs (.discordantEnd t) s fun m' =>
      m'.pair.discordant = none ∧ m'.pair.role = if (s.then t).pair.role = .cold then .unfit else (s.then t).pair.role :=
  runs_of_there rfl rfl (if_pos (by rw [hdis, ModuleState.dueO_some hat hdue]; rfl)) ⟨rfl, if_congr beq_iff_eq rfl rfl⟩

theorem forwardTimeout_ends {f : Forward} (hf : (s.then t).pair.forwards = [f]) (hdue : f.sent + ms 50 ≤ (s.then t).now) :
    Runs (.forwardTimeout t f.seq) s fun m' => m'.pair.forwards = [] := by
  refine runs_of_happen rfl ?_
  simp [hf, ModuleState.due_of_le hdue, ModuleState.setPair]

/-- Settles O38: each row through its condition. -/
theorem transferRowsRun : Obligations.TransferRowsRun := by
  intro s t m x hpaired hlink
  refine ⟨fun cause asked hplan hrole hfit hdiscord => ?_, fun hrole hon hdue hdiscord hfit hplan => rotateDue_plans hpaired hlink hrole hon hdue hdiscord hfit hplan,
    fun a hpref hrole hon hlost hdiscord hsince hdue => revertDue_plans hpaired hlink hpref hrole hon hlost hdiscord hsince hdue,
    fun a hat hdue => ⟨fun hfree => ?_, fun k hk hlatched hcode hrole => ?_⟩, fun k a hdis hat hdue => discordantEnd_ends hdis hat hdue,
    fun f hf hdue => forwardTimeout_ends hf hdue⟩
  · obtain ⟨hrole', hplanned, hlease, hduty, -⟩ := (s.then t).handOver_pair cause .standby
    exact ⟨_, plannedTransfer_hands asked hpaired hlink hplan hrole hfit hdiscord, hrole', hplanned, hlease, hduty⟩
  · have hgives := transferCheckDone_gives hat hdue
    rwa [if_neg] at hgives
    simp only [Bool.and_eq_true, List.any_eq_true, beq_iff_eq]
    rintro ⟨-, k, -, hlatched, -⟩
    exact hfree k hlatched
  · have hgives := transferCheckDone_gives hat hdue
    rw [if_pos] at hgives
    · exact ⟨_, hgives, rfl, rfl⟩
    · have hany : ((s.then t).sharedAxes.any fun k => ((s.then t).drive k).bridge == .latched &&
          (((s.then t).drive k).fault.code == 5 || ((s.then t).drive k).fault.code == 8)) = true :=
        List.any_eq_true.mpr ⟨k, hk, by
          rw [show ((s.then t).drive k).bridge = .latched from hlatched, show ((s.then t).drive k).fault.code = 5 from hcode]; rfl⟩
      rw [hany, show (s.then t).pair.role = .duty from hrole]
      rfl

end Sys2Proof.Machine
end

section
/-! Why not every epoch's schedule is the module's once it is current (R478): an epoch holds for how long a held-back launch has waited, the module
since when. -/

namespace Sys2Proof.Machine

/-- An epoch whose profile launch has been held back for 1 ns. -/
def heldEpoch : Epoch :=
  { schedule := some { slot := 0, launch := (0, 0), strict := false, transport := 0, seq := 0, heldSince := some 1 } }

/-- A standby at instant 0 to which that epoch's commit comes. -/
def mirroring : State := Sys2Proof.Tests.pair0 { role := .standby }

/-- What the model makes of it: the launch is held back since instant 0, from which 1 ns cannot be taken off. -/
theorem epochCommitReceived_held : Runs (.epochCommitReceived 0 heldEpoch true true) mirroring fun m' =>
    m'.profiles.schedule = some { slot := 0, launch := (0, 0), strict := false, transport := 0, seq := 0, heldSince := some 0 } :=
  runs_of_happen rfl (by decide +kernel)

/-- A row answers one next state. -/
theorem runs_unique {i : Instr} {s : State} {P Q : ModuleState → Prop} (hP : Runs i s P) (hQ : Runs i s Q) : Runs i s fun m' => P m' ∧ Q m' := by
  obtain ⟨m1, h1, hP⟩ := hP
  obtain ⟨m2, h2, hQ⟩ := hQ
  have hm : m1 = m2 := congrArg State.m (Host.Outcome.next.inj (h1.symm.trans h2))
  exact ⟨m1, h1, hP, hm ▸ hQ⟩

/-- Refutes O37: the schedule of an epoch that becomes current is taken over with the instant since when its launch is held back, not with the
epoch's duration; for a launch held back for 1 ns they differ at instant 0. -/
theorem not_mirrorRowsRun : ¬ Obligations.MirrorRowsRun := by
  intro h
  obtain ⟨-, -, -, -, hcommit, -⟩ := h mirroring 0 (by decide +kernel) (by decide +kernel)
  obtain ⟨hfull, -⟩ := hcommit heldEpoch true (.inl (by decide +kernel))
  obtain ⟨m', -, hheld, -, -, -, -, -, hschedule⟩ := runs_unique epochCommitReceived_held (hfull (.inl rfl))
  exact absurd (hheld.symm.trans hschedule) (by decide)

end Sys2Proof.Machine
end

section
/-! Resets begin and end (R458, R526, R553, R567, R569, R573, R577). -/

namespace Sys2Proof.Machine

variable {s : State} {t : Nat} {m : ModuleState}

/-! ### Going into reset -/

/-- The module has gone into reset at an instant, disarmed, with a cause (R567). -/
def ModuleState.WentIn (m : ModuleState) (phase : Phase) (cause now : Nat) : Prop :=
  m.reset.phase = phase ∧ m.reset.cause = cause ∧ m.reset.armed = false ∧ m.reset.heldAt = now

/-- A reset that no flush holds up keeps its cause (R567, R569). -/
theorem ModuleState.enterReset_wentIn (m : ModuleState) (h : m.recd.failFlushAt = none) (phase : Phase) (cause : Nat) :
    (m.enterReset phase cause).WentIn phase cause m.now := by
  refine ⟨rfl, ?_, rfl, rfl⟩
  show (if (m.recd.failFlushAt.isSome && !m.reset.resetPending) = true then 0x02 else cause) = cause
  rw [h]
  rfl

theorem ModuleState.held_iff : m.held = false ↔ m.reset.phase ≠ .held ∧ m.reset.phase ≠ .lockout := by
  simp [ModuleState.held]

theorem resetNAsserted_holds (hrun : (s.then t).held = false) (hidle : (s.then t).recd.failFlushAt = none) :
    Runs (.resetNAsserted t) s (·.WentIn .held 3 (s.then t).now) := by
  obtain ⟨hheld, hlock⟩ := ModuleState.held_iff.mp hrun
  exact ⟨_, gives_of_happen rfl ((if_neg (by simpa using hheld)).trans (if_neg (by simpa using hlock))), (s.then t).enterReset_wentIn hidle .held 3⟩

theorem resetNAsserted_unlocks (hlock : (s.then t).reset.phase = .lockout) :
    Gives (.resetNAsserted t) s ((s.then t).setReset fun r => { r with phase := .held, cause := 3, heldAt := (s.then t).now }) :=
  gives_of_happen rfl (by simp [hlock])

theorem wardenWatchdogReset_holds (hrun : (s.then t).held = false) (hidle : (s.then t).recd.failFlushAt = none) :
    Runs (.wardenWatchdogReset t) s (·.WentIn
      (if 3 ≤ (((s.then t).reset.wardenResets.filter fun x => (s.then t).now < x + seconds 3600) ++ [(s.then t).now]).length then .lockout else .held) 7
      (s.then t).now) :=
  ⟨_, gives_of_happen rfl (if_neg (by simp [hrun])), ModuleState.enterReset_wentIn ((s.then t).setReset fun r => { r with
      wardenResets := (r.wardenResets.filter fun x => (s.then t).now < x + seconds 3600) ++ [(s.then t).now] }) hidle _ 7⟩

theorem railFaultReset_holds (hrun : (s.then t).held = false) (hidle : (s.then t).recd.failFlushAt = none) (hrail : (s.then t).warden.railReset) :
    Runs (.railFaultReset t) s (·.WentIn .held 6 (s.then t).now) :=
  ⟨_, gives_of_happen rfl (if_pos (by simp [hrail, hrun])), (s.then t).enterReset_wentIn hidle .held 6⟩

theorem fenceInputAsserted_holds {link : Nat} (hlink : link = 1 ∨ link = 2) (hrun : (s.then t).held = false) (hidle : (s.then t).recd.failFlushAt = none)
    (hpaired : (s.then t).paired) (hfacing : (s.then t).facing.contains link) :
    Runs (.fenceInputAsserted t link) s (·.WentIn .held 5 (s.then t).now) := by
  have hthere : (decide (1 ≤ link) && decide (link ≤ 2)) = true := by rcases hlink with rfl | rfl <;> rfl
  refine ⟨_, gives_of_there hthere rfl ((if_neg (by simp [hpaired, List.contains_iff_mem.mp hfacing])).trans (if_neg (by simp [hrun]))), ?_⟩
  refine ModuleState.enterReset_wentIn _ ?_ .held 5
  exact (ModuleState.failFlushAt_of_recNow (ModuleState.log_recNow _ _ _ _)).trans hidle

/-! ### The end of a flush -/

theorem ModuleState.writeStage1_now (m : ModuleState) (x : SavedItems) (whole : Bool) : (m.writeStage1 x whole).now = m.now :=
  (ModuleState.each_frame _ _ _ ModuleState.now fun n a => by dsimp only; split <;> rfl).trans rfl

theorem ModuleState.writeSnapshot_now (m : ModuleState) : m.writeSnapshot.now = m.now := by
  unfold ModuleState.writeSnapshot
  split <;> rfl

theorem ModuleState.tearSnapshot_now (m : ModuleState) : m.tearSnapshot.now = m.now := by
  unfold ModuleState.tearSnapshot
  split <;> rfl

theorem ModuleState.writeStage2_now (m : ModuleState) (whole : Bool) : (m.writeStage2 whole).now = m.now := rfl

/-- The first stages of a flush take no time. -/
theorem ModuleState.flushStages_now (m : ModuleState) (stages : Nat) :
    (if stages = 0 then (match m.recd.stage1 with | some x => m.writeStage1 x (1 ≤ stages) | none => m)
      else (match m.recd.stage1 with | some x => m.writeStage1 x (1 ≤ stages) | none => m).writeStage2 (2 ≤ stages)).now = m.now := by
  have hstage1 : (match m.recd.stage1 with | some x => m.writeStage1 x (1 ≤ stages) | none => m).now = m.now := by
    split
    · exact m.writeStage1_now _ _
    · rfl
  rw [apply_ite ModuleState.now, ModuleState.writeStage2_now, hstage1, ite_self]

theorem ModuleState.snapshotStage_now (m : ModuleState) (stages : Nat) :
    (if 3 ≤ stages then m.writeSnapshot else if stages = 2 then m.tearSnapshot else m).now = m.now := by
  rw [apply_ite ModuleState.now, apply_ite ModuleState.now, m.writeSnapshot_now, m.tearSnapshot_now, ite_self, ite_self]

/-- A flush that ends is over at the same instant (R446). -/
theorem ModuleState.endFlush_ends (m : ModuleState) (stages : Nat) : (m.endFlush stages).now = m.now ∧ (m.endFlush stages).recd.failFlushAt = none := by
  unfold ModuleState.endFlush
  dsimp only
  split
  · exact ⟨rfl, rfl⟩
  · exact ⟨(ModuleState.snapshotStage_now _ stages).trans (m.flushStages_now stages), rfl⟩

theorem powerFailFlushDone_holds {a : Nat} (stages : Nat) (hrun : (s.then t).held = false) (hflush : (s.then t).recd.failFlushAt = some a) :
    Runs (.powerFailFlushDone t stages) s (·.WentIn .held (if (s.then t).reset.resetPending then 4 else 2) (s.then t).now) := by
  obtain ⟨hnow, hended⟩ := (s.then t).endFlush_ends stages
  have hin := ((s.then t).endFlush stages).enterReset_wentIn hended .held (if (s.then t).reset.resetPending then 4 else 2)
  rw [hnow] at hin
  exact ⟨_, gives_of_happen rfl (if_neg (by simp [hrun, hflush])), hin⟩

/-! ### Starting again -/

theorem resetReleased_restarts (straps : Nat) (damage : List Nat) (hheld : (s.then t).reset.phase = .held)
    (hcause : (s.then t).reset.cause = 3 ∨ (s.then t).reset.cause = 4 ∨ (s.then t).reset.cause = 6 ∨ (s.then t).reset.cause = 7)
    (hdue : (s.then t).reset.heldAt + (if (s.then t).reset.cause = 3 ∨ (s.then t).reset.cause = 4 then ms 1 else ms 10) ≤ (s.then t).now) :
    Gives (.resetReleased t straps damage) s ((s.then t).restart straps damage) := by
  refine gives_of_happen rfl (if_pos ?_)
  have hspan : (if [3, 4].contains (s.then t).reset.cause then ms 1 else ms 10) =
      if (s.then t).reset.cause = 3 ∨ (s.then t).reset.cause = 4 then ms 1 else ms 10 := if_congr (by simp) rfl rfl
  have hcauses : [3, 4, 6, 7].contains (s.then t).reset.cause = true := by simpa using hcause
  rw [hheld, hcauses, hspan, ModuleState.due_of_le hdue]
  rfl

theorem fenceInputReleased_restarts {link : Nat} (hlink : link = 1 ∨ link = 2) (straps : Nat) (damage : List Nat) {m1 : ModuleState}
    (hm1 : m1 = (s.then t).setPair fun x => x.setPort link fun q => { q with fenceIn := false })
    (hheld : (s.then t).reset.phase = .held) (hcause : (s.then t).reset.cause = 5) (hclear : ∀ n ∈ m1.facing, (m1.pair.port n).fenceIn = false) :
    Gives (.fenceInputReleased t link straps damage) s (m1.restart straps damage) := by
  have hthere : (decide (1 ≤ link) && decide (link ≤ 2)) = true := by rcases hlink with rfl | rfl <;> rfl
  have hany : (m1.facing.any fun n => (m1.pair.port n).fenceIn) = false := List.any_eq_false.mpr fun n hn => by rw [hclear n hn]; decide
  have hall : ((s.then t).reset.phase == .held && (s.then t).reset.cause == 5 && !(m1.facing.any fun n => (m1.pair.port n).fenceIn)) = true := by
    rw [hany, hheld, hcause]
    rfl
  subst hm1
  exact gives_of_there hthere rfl (if_pos hall)

/-! ### Power-on -/

theorem Recorder.stored_cycleRecs (r : Recorder) (cycles events traces : List Rec) (traceOff cycleMib traceMib : Nat) (wrapping : Bool) :
    { r with cycles, events, traces, traceOff, cycleMib, traceMib, wrapping }.cycleRecs = r.cycleRecs := rfl

theorem Recorder.store_cycleRecs (r : Recorder) (new : List Rec) : (r.store new).1.cycleRecs = r.cycleRecs := r.stored_cycleRecs _ _ _ _ _ _ _

theorem Recorder.cycle_of_recs {r : Recorder} {n : Nat} (h : r.cycleRecs = .both n) : r.cycle = n := congrArg (fun x => x.read.getD 0) h

theorem Recorder.cycle_of_kept {r r' : Recorder} (h : r.kept = r'.kept) : r.cycle = r'.cycle := congrArg (fun x => x.cycleRecs.read.getD 0) h

/-- What a start of the module finds: the count of power cycles, the sessions and the cause of the reset. -/
def ModuleState.found (m : ModuleState) : Nat × Security × ResetState := (m.recd.cycle, m.sec, m.reset)

theorem ModuleState.log_found (m : ModuleState) (code source : Nat) (items : List Int) : (m.log code source items).found = m.found :=
  congrArg (·, m.sec, m.reset) (Recorder.cycle_of_kept (m.log_kept code source items))

theorem ModuleState.logIf_found (m : ModuleState) (b : Bool) (code source : Nat) (items : List Int) : (m.logIf b code source items).found = m.found :=
  congrArg₂ Prod.mk (Recorder.cycle_of_kept (m.logIf_kept b code source items)) rfl

/-- Writing the spill area back is the recorder's alone. -/
theorem ModuleState.recoverSpill_found (m : ModuleState) (oldSeq : Nat) : (m.recoverSpill oldSeq).found = m.found := by
  have hgrown := fun (grown : List (Nat × Nat × Bool)) (r : Recorder) (h : r.cycleRecs = m.recd.cycleRecs) =>
    (ModuleState.each_frame (m.setRec fun _ => r) grown (fun m g => m.log evCycleRegionGrown tgModule [(g.1 : Int), (g.2.1 : Int), flagItem g.2.2])
      ModuleState.found fun m g => m.log_found _ _ _).trans (congrArg (fun x : Halves Nat => (x.read.getD 0, m.sec, m.reset)) h)
  unfold ModuleState.recoverSpill
  dsimp only
  split
  · rw [ModuleState.log_found]
    exact hgrown _ _ (Recorder.store_cycleRecs m.recd (m.recd.spill.filter fun x => !m.recd.inNand x))
  · rw [ModuleState.logIf_found]
    exact hgrown _ _ (Recorder.store_cycleRecs m.recd (m.recd.spill.filter fun x => !m.recd.inNand x))

/-- The module that starts after a power-on (R426, R448, R569): the power cycle is counted, no session is open. -/
theorem ModuleState.powered_found (m : ModuleState) (cause oldSeq : Nat) {n : ModuleState}
    (hn : n = ((m.powered cause).recoverSpill oldSeq).saturated max32 m.recd.cycle tgModule 0x0C00 8) :
    n.recd.cycle = sat max32 m.recd.cycle ∧ n.sec.sessions = [] ∧ n.reset.cause = cause := by
  have hfound : n.found = (m.powered cause).found := by rw [hn, ModuleState.saturated, ModuleState.logIf_found, ModuleState.recoverSpill_found]
  have hcycle : (m.powered cause).recd.cycle = sat max32 m.recd.cycle := Recorder.cycle_of_recs rfl
  exact ⟨(congrArg Prod.fst hfound).trans hcycle, congrArg (·.2.1.sessions) hfound, congrArg (·.2.2.cause) hfound⟩

theorem powerOnReset_starts (brownout : Bool) (straps : Nat) (damage : List Nat) (hheld : (s.then t).held) :
    Stores (.powerOnReset t brownout straps damage) s fun m' mem' => mem' = [] ∧
      ∃ m0 : ModuleState, m' = (m0.startUp straps (m0.recd.cycle - 1) damage).firstKeys ∧ m0.recd.cycle = min max32 ((s.then t).recd.cycle + 1) ∧
        m0.sec.sessions = [] ∧ m0.reset.cause = if brownout ∧ (s.then t).reset.cause = 2 then 2 else 1 := by
  let cause := if brownout && (s.then t).reset.cause == 0x02 then 0x02 else 0x01
  obtain ⟨hcycle, hsessions, hcause⟩ := (s.then t).powered_found cause (s.then t).recd.seq rfl
  refine ⟨_, [], next_of_both rfl ?_, rfl, _, rfl, hcycle.trans (sat_eq_min _ _), hsessions, hcause.trans (if_congr (by simp) rfl rfl)⟩
  dsimp only
  rw [if_pos hheld]

/-! ### Ready -/

/-- A controller that starts changes no reset (R364). -/
theorem ModuleState.startCan_reset (m : ModuleState) (c : Nat) : (m.startCan c).reset = m.reset := by
  have hoff : ∀ (m : ModuleState) (k : Comm), (m.withComm k).reset = m.reset := fun _ _ => rfl
  unfold ModuleState.startCan
  split
  · rfl
  · exact (offComm_enterMode hoff _ c _).trans (offComm_setCtl hoff m c _)

theorem ModuleState.startEth_reset (m : ModuleState) : m.startEth.reset = m.reset :=
  m.each_frame _ _ ModuleState.reset fun _ _ => (apply_ite ModuleState.reset _ _ _).trans (ite_self _)

theorem ModuleState.journalDone_reset (m : ModuleState) :
    (if m.warden.journal.step = 2 then m.journal fun j => { j with step := 3 } else m).reset = m.reset :=
  (apply_ite ModuleState.reset _ _ _).trans (ite_self _)

theorem moduleReady_ready (hstart : (s.then t).reset.phase = .starting) (hall : ∀ x ∈ (s.then t).islands, x.state = .running)
    (hsettled : (s.then t).unsettled = false) :
    Runs (.moduleReady t) s fun m' => m'.reset.phase = .ready ∧
      m'.reset.readyMs = min max16 (((s.then t).now - (s.then t).reset.resetEndAt) / 1000000) := by
  have hislands : ((s.then t).islands.all (·.state == .running)) = true := List.all_eq_true.mpr fun x hx => by rw [hall x hx]; rfl
  refine runs_of_happen rfl ?_
  rw [if_neg (by simp [hstart, hislands, hsettled])]
  rw [ModuleState.journalDone_reset, ModuleState.each_frame (π := ModuleState.reset) (h := fun m p => congrArg Prod.snd (m.fieldSoon_base p)),
    ModuleState.startEth_reset, ModuleState.startCan_reset, ModuleState.startCan_reset]
  exact ⟨rfl, rfl⟩

/-- Settles O45: a reset keeps its cause because no flush holds it up; what starts again is the model's own start; at ready only what precedes it writes the phase. -/
theorem resetRowsRun : Obligations.ResetRowsRun := by
  intro s t
  refine ⟨fun hrun hidle => ⟨resetNAsserted_holds hrun hidle, wardenWatchdogReset_holds hrun hidle, railFaultReset_holds hrun hidle,
      fun link hlink => fenceInputAsserted_holds hlink hrun hidle⟩, resetNAsserted_unlocks, fun a stages => powerFailFlushDone_holds stages,
    fun straps damage => resetReleased_restarts straps damage, ?_, fun brownout straps damage => powerOnReset_starts brownout straps damage, moduleReady_ready⟩
  exact fun link straps damage hlink hheld hcause => fenceInputReleased_restarts hlink straps damage rfl hheld hcause

end Sys2Proof.Machine
end

section
/-! The warden's own rows (R511, R523 to R526, R532, R533, R536, R538, R541). -/

namespace Sys2Proof.Machine

variable {s : State} {t : Nat} {m : ModuleState}

/-! ### The measured VLS through a change of VDRV -/

/-- VLS as measured last (R263). -/
def ModuleState.vls (m : ModuleState) : Nat := m.loadCommon.vls

theorem offMotion_vls : OffMotion ModuleState.vls := ⟨fun _ _ _ => rfl, fun _ _ _ => rfl, fun _ _ => rfl⟩

theorem offReadings_vls : OffReadings ModuleState.vls where
  fb _ _ _ := rfl
  comm _ _ := rfl
  axis _ _ _ := rfl
  portal _ _ _ := rfl

section

variable (m : ModuleState) (n a : Nat)

theorem ModuleState.log_vls (code source : Nat) (items : List Int) : (m.log code source items).vls = m.vls := rfl

theorem ModuleState.logIf_vls (b : Bool) (code source : Nat) (items : List Int) : (m.logIf b code source items).vls = m.vls := rfl

theorem ModuleState.setLoad_vls (f : Load → Load) : (m.setLoad n f).vls = m.vls := rfl

theorem ModuleState.setFb_vls (f : Feedback → Feedback) : (m.setFb a f).vls = m.vls := rfl

theorem ModuleState.setAxis_vls (f : Axis → Axis) : (m.setAxis a f).vls = m.vls := rfl

theorem ModuleState.setDrive_vls (f : Drive → Drive) : (m.setDrive a f).vls = m.vls := rfl

theorem ModuleState.setAccums_vls (accum1 accum2 : Rat) (accumAt : Nat) (spent : Bool) :
    (m.setLoads fun c => { c with accum1, accum2, accumAt, moduleSpent := c.moduleSpent || spent }).vls = m.vls := rfl

/-- A turn-off is accounted in the accumulators. -/
theorem ModuleState.spillway_vls : (m.spillway n).vls = m.vls := by
  unfold ModuleState.spillway
  split
  · rfl
  · simp only [ModuleState.saturated, ModuleState.logIf_vls]
    exact ModuleState.setAccums_vls _ _ _ _ _

theorem ModuleState.lsOff_vls : (m.lsOff n).vls = m.vls := by
  simp only [ModuleState.lsOff, apply_ite ModuleState.vls, ModuleState.spillway_vls, ModuleState.setLoad_vls, ite_self]

theorem ModuleState.lsFollow_vls : (m.lsFollow n).vls = m.vls := by
  unfold ModuleState.lsFollow
  dsimp only
  split
  · rfl
  split <;> simp only [apply_ite ModuleState.vls, ModuleState.setLoad_vls, ite_self]

theorem ModuleState.lsDemand_vls (on : Bool) : (m.lsDemand n on).vls = m.vls := by
  simp only [ModuleState.lsDemand, apply_ite ModuleState.vls, ModuleState.lsFollow_vls, ModuleState.lsOff_vls, ModuleState.setLoad_vls, ite_self]

theorem ModuleState.lsOrder_vls (requester : Nat) (on : Bool) : (m.lsOrder requester n on).vls = m.vls := by
  simp [ModuleState.lsOrder, apply_ite ModuleState.vls, ModuleState.logIf_vls, ModuleState.lsDemand_vls]

theorem ModuleState.slow_vls (value : Nat) : (m.slow a value).vls = m.vls := by
  simp [ModuleState.slow, apply_ite ModuleState.vls, offMotion_vls.planAnew, ModuleState.setAxis_vls]

theorem ModuleState.markAction_vls (k : Mark) : (m.markAction a k).vls = m.vls := by
  unfold ModuleState.markAction
  split
  · rfl
  split <;> simp [ModuleState.lsOrder_vls, ModuleState.slow_vls, offMotion_vls.stopAxis]

theorem ModuleState.judgeMark_vls (measured : Bool) (old new : Int) (i : Nat) : (m.judgeMark a measured old new i).vls = m.vls := by
  simp [ModuleState.judgeMark, apply_ite ModuleState.vls, ModuleState.logIf_vls, ModuleState.markAction_vls, ModuleState.setFb_vls]

theorem ModuleState.judgeMarks_vls (measured : Bool) (old new : Int) : (m.judgeMarks a measured old new).vls = m.vls :=
  m.each_frame axisNums _ ModuleState.vls fun m i => m.judgeMark_vls a measured old new i

theorem ModuleState.moved_vls (old : Int) (at_ : Nat) : (m.moved a old at_).vls = m.vls := by
  simp only [ModuleState.moved, ModuleState.judgeMarks_vls, ModuleState.setFb_vls]

theorem ModuleState.count'_vls (k : Int) (at_ : Nat) : (m.count' a k at_).vls = m.vls := by
  simp [ModuleState.count', apply_ite ModuleState.vls, ModuleState.moved_vls, ModuleState.logIf_vls, ModuleState.setFb_vls]

theorem ModuleState.invalidate_vls (cause : Nat) : (m.invalidate a cause).vls = m.vls :=
  offReadings_vls.invalidate m a cause

theorem ModuleState.edgeFault_vls : (m.edgeFault a n).vls = m.vls := by
  simp [ModuleState.edgeFault, apply_ite ModuleState.vls, ModuleState.invalidate_vls, ModuleState.logIf_vls, ModuleState.setFb_vls]

theorem ModuleState.toothEdge_vls (at_ : Nat) (aim : Option Bool) : (m.toothEdge a at_ aim).vls = m.vls := by
  unfold ModuleState.toothEdge
  dsimp only
  cases aim <;> simp [apply_ite ModuleState.vls, ModuleState.invalidate_vls, ModuleState.edgeFault_vls, ModuleState.count'_vls, ModuleState.log_vls,
    ModuleState.setFb_vls]

theorem ModuleState.latchEdge_vls (index : Bool) (input : Nat) (rising : Bool) (at_ : Nat) (stamp : Nat × Nat) (i : Nat) :
    (m.latchEdge a index input rising at_ stamp i).vls = m.vls := by
  unfold ModuleState.latchEdge
  generalize (m.fb a).latches.getD i {} = l, m.posAtStamp a at_ = pos
  dsimp only
  split
  · rfl
  obtain ⟨state⟩ := l
  cases state with
  | armed => cases pos <;> simp only [ModuleState.logIf_vls, ModuleState.setFb_vls]
  | captured => simp only [ModuleState.saturated, ModuleState.logIf_vls, ModuleState.setFb_vls]
  | idle | stale => rfl

theorem ModuleState.acceptEdges_vls : (m.acceptEdges a).vls = m.vls := by
  refine (ModuleState.each_frame _ _ _ ModuleState.vls fun m e => ?_).trans (m.setFb_vls a _)
  simp [ModuleState.edgeActs, apply_ite ModuleState.vls, ModuleState.latchEdges, ModuleState.latchEdge_vls, ModuleState.toothEdge_vls,
    ModuleState.edgeFault_vls, ModuleState.count'_vls, ModuleState.setFb_vls]

theorem ModuleState.beginValidation_vls : (m.beginValidation a).vls = m.vls := by
  unfold ModuleState.beginValidation
  dsimp only
  split
  · simp only [ModuleState.setOffset, ModuleState.setDrive_vls, ModuleState.setAxis_vls, apply_ite ModuleState.vls, ModuleState.setFb_vls,
      ModuleState.acceptEdges_vls, ite_self]
  · simp only [ModuleState.setDrive_vls, ModuleState.acceptEdges_vls]

theorem ModuleState.enableBridge_vls : (m.enableBridge a).vls = m.vls := by
  simp only [ModuleState.enableBridge, apply_ite ModuleState.vls, ModuleState.beginValidation_vls, ModuleState.setDrive_vls, ite_self]

/-- VLS is not measured anew when the bridges follow VDRV. -/
theorem ModuleState.followVdrv_vls (was : Bool) : (m.followVdrv was).vls = m.vls := by
  unfold ModuleState.followVdrv
  split
  · refine (ModuleState.each_frame _ _ _ ModuleState.vls fun m a => ?_).trans rfl
    simp only [ModuleState.holdAxis, apply_ite ModuleState.vls, offMotion_vls.rest, ModuleState.setAxis_vls, ite_self]
  split
  · refine m.each_frame _ _ ModuleState.vls fun m a => ?_
    simp only [ModuleState.reenter, apply_ite ModuleState.vls, offMotion_vls.start, ModuleState.setDrive_vls, ModuleState.enableBridge_vls, ite_self]
  · rfl

end

end Sys2Proof.Machine
end

section
/-! The warden's own rows (R511, R523 to R526, R532, R533, R536, R538, R541). -/

namespace Sys2Proof.Machine

variable {s : State} {t : Nat} {m : ModuleState}

/-! ### One bit of a word -/

/-- A word with one bit written, in its parts above and below it. -/
theorem setBit_parts (v i : Nat) (b : Bool) : setBit v i b = 2 ^ i * (v / 2 ^ i / 2 * 2 + b.toNat) + v % 2 ^ i := by
  have hv := Nat.div_add_mod v (2 ^ i)
  have hmul : ∀ x, 2 ^ i * (x + 1) = 2 ^ i * x + 2 ^ i := fun x => Nat.mul_add_one _ x
  unfold setBit
  rw [Nat.testBit_eq_decide_div_mod_eq]
  rcases Nat.mod_two_eq_zero_or_one (v / 2 ^ i) with h | h <;> cases b
  · rw [if_pos (by simp [h]), show v / 2 ^ i / 2 * 2 + false.toNat = v / 2 ^ i by simp; omega, hv]
  · rw [if_neg (by simp [h]), if_pos rfl, show v / 2 ^ i / 2 * 2 + true.toNat = v / 2 ^ i + 1 by simp; omega, hmul]
    omega
  · have hodd : v / 2 ^ i = v / 2 ^ i / 2 * 2 + 1 := by omega
    rw [hodd, hmul] at hv
    rw [if_neg (by simp [h]), if_neg (by simp)]
    simp only [Bool.toNat_false, Nat.add_zero]
    omega
  · rw [if_pos (by simp [h]), show v / 2 ^ i / 2 * 2 + true.toNat = v / 2 ^ i by simp; omega, hv]

/-- A bit of a word after one was written. -/
theorem bit_setBit (v i k : Nat) (b : Bool) : bit (setBit v i b) k = if k = i then b else bit v k := by
  unfold bit
  rw [setBit_parts, Nat.testBit_two_pow_mul_add _ (Nat.mod_lt _ (Nat.two_pow_pos i))]
  rcases Nat.lt_trichotomy k i with hlt | rfl | hgt
  · rw [if_pos hlt, if_neg (Nat.ne_of_lt hlt), Nat.testBit_mod_two_pow, decide_eq_true hlt, Bool.true_and]
  · rw [if_neg (Nat.lt_irrefl k), if_pos rfl, Nat.sub_self, Nat.testBit_zero]
    cases b <;> simp
  · obtain ⟨n, rfl⟩ := Nat.exists_eq_add_of_lt hgt
    have habove : (v / 2 ^ i / 2 * 2 + b.toNat) / 2 = v / 2 ^ i / 2 := by cases b <;> simp only [Bool.toNat_false, Bool.toNat_true] <;> omega
    rw [if_neg (by omega), if_neg (by omega), show i + n + 1 - i = n + 1 by omega, Nat.testBit_succ, habove, ← Nat.testBit_succ,
      Nat.testBit_div_two_pow, Nat.add_comm, Nat.add_assoc]

/-! ### The sensor sample -/

/-- A temperature's warning as its level says (R523). -/
def Warden.warns (w : Warden) (k : Nat) : Bool :=
  decide ((if bit w.tempWarn k then warnLevel k - 50 else warnLevel k) < w.temps.getD k 0)

/-- Judging one temperature writes its own warning alone. -/
theorem ModuleState.judgeTemp_keeps (m : ModuleState) (k : Nat) : ∃ v, (m.judgeTemp k).warden = { m.warden with tempWarn := v } ∧
    (m.judgeTemp k).vls = m.vls ∧ ∀ i, bit v i = if i = k then m.warden.warns k else bit m.warden.tempWarn i := by
  have hwarns : (if bit m.warden.tempWarn k then decide (warnLevel k - 50 < m.warden.temps.getD k 0) else decide (warnLevel k < m.warden.temps.getD k 0)) =
      m.warden.warns k := by
    unfold Warden.warns
    split <;> rfl
  unfold ModuleState.judgeTemp
  dsimp only
  rw [hwarns]
  split
  · next hsame =>
    refine ⟨m.warden.tempWarn, rfl, rfl, fun i => ?_⟩
    split
    · next h => rw [h, eq_of_beq hsame]
    · rfl
  · exact ⟨_, rfl, rfl, fun i => bit_setBit _ _ _ _⟩

/-- All temperatures below n judged. -/
theorem ModuleState.judgeTemps_keep (m : ModuleState) (n : Nat) : ∃ v, (m.each (List.range n) fun m k => m.judgeTemp k).warden = { m.warden with tempWarn := v } ∧
    (m.each (List.range n) fun m k => m.judgeTemp k).vls = m.vls ∧ ∀ i, bit v i = if i < n then m.warden.warns i else bit m.warden.tempWarn i := by
  induction n with
  | zero => exact ⟨m.warden.tempWarn, rfl, rfl, fun i => (if_neg (Nat.not_lt_zero i)).symm⟩
  | succ n ih =>
    obtain ⟨v, hwarden, hvls, hbits⟩ := ih
    obtain ⟨v', hwarden', hvls', hbits'⟩ := (m.each (List.range n) fun m k => m.judgeTemp k).judgeTemp_keeps n
    rw [hwarden] at hwarden' hbits'
    have hsucc : m.each (List.range (n + 1)) (fun m k => m.judgeTemp k) = (m.each (List.range n) fun m k => m.judgeTemp k).judgeTemp n := by
      rw [List.range_succ, ModuleState.each, List.foldl_append]
      rfl
    have hsame : ({ m.warden with tempWarn := v } : Warden).warns n = m.warden.warns n := by
      unfold Warden.warns
      rw [show bit v n = bit m.warden.tempWarn n from (hbits n).trans (if_neg (Nat.lt_irrefl n))]
    refine ⟨v', hsucc ▸ hwarden', hsucc ▸ hvls'.trans hvls, fun i => ?_⟩
    rw [hbits', hsame, hbits]
    rcases Nat.lt_trichotomy i n with h | rfl | h
    · rw [if_neg (Nat.ne_of_lt h), if_pos h, if_pos (by omega)]
    · rw [if_pos rfl, if_pos (Nat.lt_succ_self i)]
    · rw [if_neg (by omega), if_neg (by omega), if_neg (by omega)]

theorem ModuleState.judgeShock_keeps (m : ModuleState) (x : Nat × Nat × Nat) : ∃ at_, (m.judgeShock x).warden = { m.warden with shockAt := at_ } ∧
    (m.judgeShock x).vls = m.vls := by
  unfold ModuleState.judgeShock
  split
  · exact ⟨_, rfl, rfl⟩
  · exact ⟨_, rfl, rfl⟩

/-- A sample is taken over before anything is judged; judging writes the warnings and the instant of the last shock. -/
theorem wardenSensorSample_taken (hrun : (s.then t).runs isWarden) (x : SensorSample) (hlen : x.temps.length = 12) :
    Runs (.wardenSensorSample t x) s fun m' => ∃ W at_ v, W = ((s.then t).warden.sampled { x with vfo := if (s.then t).field.stale then (s.then t).warden.vfo else x.vfo }
        (s.then t).now).spent ((s.then t).dissipation x) (s.then t).now ∧
      m'.warden = { W with tempWarn := v, shockAt := at_ } ∧ m'.vls = x.vls ∧ ∀ i, bit v i = if i < 12 then W.warns i else bit W.tempWarn i := by
  refine runs_of_there (by simp [hlen]) rfl (if_neg (by simp [hrun])) ?_
  dsimp only
  generalize hW : ((s.then t).warden.sampled { x with vfo := if (s.then t).field.stale then (s.then t).warden.vfo else x.vfo }
    (s.then t).now).spent ((s.then t).dissipation x) (s.then t).now = W
  generalize hm1 : (({ s.then t with loadCommon := { (s.then t).loadCommon with vls := x.vls } } : ModuleState).setWarden fun w =>
    (w.sampled { x with vfo := if (s.then t).field.stale then w.vfo else x.vfo } (s.then t).now).spent ((s.then t).dissipation x) (s.then t).now).noteVdrv = m1
  have hwarden : m1.warden = W := by
    rw [← hm1, ← hW]
    rfl
  have hvls : m1.vls = x.vls := by
    rw [← hm1]
    rfl
  obtain ⟨v, hjudged, hjudgedVls, hbits⟩ := (m1.followVdrv (s.then t).vdrvPresent).judgeTemps_keep 12
  obtain ⟨at_, hshock, hshockVls⟩ := ((m1.followVdrv (s.then t).vdrvPresent).each (List.range 12) fun m k => m.judgeTemp k).judgeShock_keeps x.shock
  rw [offSupply_warden.followVdrv, hwarden] at hjudged hbits
  rw [hjudged] at hshock
  exact ⟨W, at_, v, rfl, hshock, hshockVls.trans (hjudgedVls.trans ((m1.followVdrv_vls _).trans hvls)), hbits⟩

theorem wardenSensorSample_shows (hrun : (s.then t).runs isWarden) (x : SensorSample) (hlen : x.temps.length = 12) :
    Runs (.wardenSensorSample t x) s fun m' =>
      m'.warden.temps = x.temps ∧ m'.warden.vctl = x.vctl ∧ m'.warden.vdrv = x.vdrv ∧ m'.warden.bulk = x.bulk ∧
      m'.warden.holdCap = x.holdCap ∧ m'.warden.dew = x.dew ∧ m'.loadCommon.vls = x.vls ∧
      m'.warden.shock = (max (s.then t).warden.shock.1 x.shock.1, max (s.then t).warden.shock.2.1 x.shock.2.1, max (s.then t).warden.shock.2.2 x.shock.2.2) ∧
      ∀ k, k < 12 → bit m'.warden.tempWarn k =
        decide ((if bit (s.then t).warden.tempWarn k then warnLevel k - 50 else warnLevel k) < x.temps.getD k 0) := by
  obtain ⟨m', hgives, W, at_, v, hW, hwarden, hvls, hbits⟩ := wardenSensorSample_taken hrun x hlen
  refine ⟨m', hgives, ?_⟩
  beta_reduce
  rw [hwarden]
  refine ⟨?_, ?_, ?_, ?_, ?_, ?_, hvls, ?_, fun k hk => (hbits k).trans ((if_pos hk).trans ?_)⟩ <;> rw [hW] <;> rfl

/-! ### Condensation and rails -/

theorem condensationChange_turns (hrun : (s.then t).runs isWarden) {b : Nat}
    (hsince : (if (s.then t).warden.condensation then (s.then t).warden.dewHighSince else (s.then t).warden.dewLowSince) = some b)
    (hdue : b + seconds 60 ≤ (s.then t).now) :
    Runs (.condensationChange t) s fun m' => m'.warden.condensation = !(s.then t).warden.condensation := by
  refine runs_of_happen rfl ?_
  dsimp only
  rw [if_pos (by rw [hrun, ModuleState.dueO_some hsince hdue]; rfl)]
  rfl

/-- A failed rail as the warden keeps it (R526): resets says that the module is to be reset for it. -/
def ModuleState.railHit (m : ModuleState) (rail : Nat) (resets : Bool) : ModuleState :=
  m.setWarden fun w => { w with rails := setBit w.rails rail true, railFault := true, railReset := w.railReset || resets }

theorem railFaultDetected_resets {rail : Nat} (mv : Nat) (hrail : rail < 8) (hheld : (s.then t).reset.phase ≠ .held) (hlock : (s.then t).reset.phase ≠ .lockout) :
    Gives (.railFaultDetected t rail mv none) s (((s.then t).railHit rail true).log evRailFault tgModule [(rail : Int), (mv : Int)]) :=
  gives_of_there (by simp [hrail]) rfl (if_neg (by simp [hheld, hlock]))

theorem railFaultDetected_restarts {rail k : Nat} (mv : Nat) (hrail : rail < 8) (hk : k < 2) (hheld : (s.then t).reset.phase ≠ .held)
    (hlock : (s.then t).reset.phase ≠ .lockout) : Gives (.railFaultDetected t rail mv (some k)) s
      ((((s.then t).railHit rail false).log evRailFault tgModule [(rail : Int), (mv : Int)]).restartIsland (3 + k) .rail) :=
  gives_of_there (by simp [hrail, Nat.le_of_lt_succ hk]) rfl (if_neg (by simp [hheld, hlock]))

/-! ### Images -/

theorem ModuleState.log_warden (m : ModuleState) (code source : Nat) (items : List Int) : (m.log code source items).warden = m.warden := rfl

theorem imageEraseDone_leaves (hrun : (s.then t).runs isWarden) {a : Nat} (failed : Bool) (herase : (s.then t).warden.erasing = some a) :
    Runs (.imageEraseDone t failed) s fun m' => m'.warden.erasing = none ∧ m'.warden.afterErase = [] ∧
      m'.warden.banks = upd (s.then t).warden.banks (1 - (s.then t).warden.activeBank) fun b =>
        { b with erased := true, writes := if failed then [] else [(0, (s.then t).warden.afterErase)] } := by
  refine runs_of_happen rfl ?_
  rw [if_neg (by simp [hrun, herase])]
  dsimp only
  split <;> (rw [ModuleState.log_warden]; exact ⟨rfl, rfl, rfl⟩)

theorem ModuleState.judgeImage_keeps (m : ModuleState) (n : Nat) : (m.judgeImage n).1 = m.imageFails n ∧ (m.judgeImage n).2.warden = m.warden := by
  unfold ModuleState.judgeImage
  split
  · next h => exact ⟨h.symm, rfl⟩
  · next h => exact ⟨h.symm, rfl⟩

theorem imageVerifyDone_judges (hrun : (s.then t).runs isWarden) {a : Nat} (hverify : (s.then t).warden.verifying = some a)
    (hidle : (s.then t).warden.erasing = none) : Runs (.imageVerifyDone t) s fun m' => m'.warden.verifying = none ∧
      m'.warden.banks = upd (s.then t).warden.banks (1 - (s.then t).warden.activeBank) fun b =>
        { b with state := if ((s.then t).imageFails (1 - (s.then t).warden.activeBank)).isNone then .verified else .refused } := by
  obtain ⟨hfails, hwarden⟩ := (s.then t).judgeImage_keeps (s.then t).inactive
  refine runs_of_happen rfl ?_
  rw [if_neg (by simp [hrun, hverify, hidle])]
  dsimp only
  generalize (s.then t).judgeImage (s.then t).inactive = judged at hfails hwarden ⊢
  obtain ⟨fails, m1⟩ := judged
  dsimp only at hfails hwarden ⊢
  rw [ModuleState.log_warden]
  refine ⟨rfl, ?_⟩
  show upd m1.warden.banks (s.then t).inactive (fun b => { b with state := if fails.isNone then .verified else .refused }) = _
  rw [hfails, hwarden]
  rfl

/-! ### Activation -/

theorem ModuleState.abandon_idles (m : ModuleState) : m.abandon.warden.activation = none ∧ m.abandon.warden.journal.step = 0 ∧
    m.abandon.warden.activeBank = m.warden.activeBank ∧ m.abandon.warden.config = m.warden.config := ⟨rfl, rfl, rfl, rfl⟩

theorem ModuleState.raiseSvn_warden (m : ModuleState) (n : Nat) : (m.raiseSvn n).warden = m.warden := by
  unfold ModuleState.raiseSvn
  dsimp only
  split <;> rfl

theorem activationCheckDone_abandons {a : Nat} {rearm bad : Bool} (hact : (s.then t).warden.activation = some (a, rearm, 0))
    (hfail : ((s.then t).imageFails (s.then t).warden.journal.toBank).isSome ∨ bad) : Runs (.activationCheckDone t bad) s fun m' =>
      m'.warden.activation = none ∧ m'.warden.journal.step = 0 ∧ m'.warden.activeBank = (s.then t).warden.activeBank ∧
        m'.warden.config = (s.then t).warden.config := by
  obtain ⟨hfails, hwarden⟩ := (s.then t).judgeImage_keeps (s.then t).warden.journal.toBank
  refine runs_of_happen rfl ?_
  dsimp only
  rw [hact]
  rw [← hfails] at hfail
  generalize (s.then t).judgeImage (s.then t).warden.journal.toBank = judged at hfail hwarden ⊢
  rw [← hwarden]
  by_cases hf : judged.1.isSome
  · simp only [if_pos hf]
    exact judged.2.abandon_idles
  · simp only [if_neg hf, if_pos (hfail.resolve_left hf)]
    exact (judged.2.log evNorFault tgModule [0, 0, 0]).abandon_idles

theorem activationCheckDone_commits {a : Nat} {rearm bad : Bool} (hact : (s.then t).warden.activation = some (a, rearm, 0))
    (hpass : ¬ (((s.then t).imageFails (s.then t).warden.journal.toBank).isSome ∨ bad)) : Runs (.activationCheckDone t bad) s fun m' =>
      ∃ m0 : ModuleState, m' = m0.activateIsland 6 ∧ m0.warden.activeBank = (s.then t).warden.journal.toBank ∧
        m0.warden.config = (s.then t).warden.pendingCfg.getD (s.then t).warden.config ∧ m0.warden.pendingCfg = none ∧ m0.warden.journal.step = 2 ∧
        m0.warden.activation = some (a, rearm, 1) := by
  obtain ⟨hfails, hwarden⟩ := (s.then t).judgeImage_keeps (s.then t).warden.journal.toBank
  refine runs_of_happen rfl ?_
  dsimp only
  rw [hact]
  rw [← hfails, not_or] at hpass
  generalize (s.then t).judgeImage (s.then t).warden.journal.toBank = judged at hpass hwarden ⊢
  refine ⟨_, (if_neg hpass.1).trans (if_neg hpass.2), ?_⟩
  simp only [ModuleState.setWarden, ModuleState.commit, ModuleState.raiseSvn_warden, ModuleState.journal, hwarden, and_self]

/-- An island that runs again is recorded, and the next one restarts. -/
theorem activationIslandDone_next {a k : Nat} {rearm : Bool} (damage : List Nat) (hact : (s.then t).warden.activation = some (a, rearm, k + 1))
    (hmore : activationOrder.getD k 9 ≠ isWarden) : Runs (.activationIslandDone t true false damage) s fun m' =>
      ∃ m0 : ModuleState, m' = m0.activateIsland (activationOrder.getD (k + 1) 9) ∧ m0.warden.activation = some (a, rearm, k + 2) := by
  refine runs_of_happen rfl ?_
  dsimp only
  rw [hact]
  exact ⟨_, if_neg hmore, rfl⟩

theorem ModuleState.activated_ends (m : ModuleState) (began : Nat) : (m.activated began).warden.activation = none ∧
    (m.activated began).warden.journal.step = 3 := by
  unfold ModuleState.activated
  dsimp only
  split
  · exact ⟨rfl, rfl⟩
  · exact ⟨rfl, rfl⟩

theorem activationIslandDone_last {a k : Nat} {rearm : Bool} (damage : List Nat) (hact : (s.then t).warden.activation = some (a, rearm, k + 1))
    (hlast : activationOrder.getD k 9 = isWarden) : Runs (.activationIslandDone t true false damage) s fun m' =>
      m'.warden.activation = none ∧ m'.warden.journal.step = 3 := by
  refine runs_of_happen rfl ?_
  dsimp only
  rw [hact]
  dsimp only
  rw [if_pos hlast]
  exact ModuleState.activated_ends _ _

/-- Settles O42: judging an image, a temperature or a shock and logging leave the rest of the warden as it is; VDRV's followers leave the sample. -/
theorem wardenRowsRun : Obligations.WardenRowsRun := by
  intro s t hrun
  refine ⟨fun x => wardenSensorSample_shows hrun x, fun b => condensationChange_turns hrun, fun rail mv hrail hheld hlock =>
      ⟨railFaultDetected_resets mv hrail hheld hlock, fun k hk => railFaultDetected_restarts mv hrail hk hheld hlock⟩,
    fun a failed => imageEraseDone_leaves hrun failed, fun a => imageVerifyDone_judges hrun, fun a rearm bad hact => ?_,
    fun a rearm k damage hact => ⟨activationIslandDone_next damage hact, activationIslandDone_last damage hact⟩⟩
  by_cases hfail : ((s.then t).imageFails (s.then t).warden.journal.toBank).isSome ∨ bad
  · obtain ⟨m', hgives, habandoned⟩ := activationCheckDone_abandons hact hfail
    refine ⟨m', hgives, ?_⟩
    beta_reduce
    rw [if_pos hfail]
    exact habandoned
  · obtain ⟨m', hgives, hcommitted⟩ := activationCheckDone_commits hact hfail
    refine ⟨m', hgives, ?_⟩
    beta_reduce
    rw [if_neg hfail]
    exact hcommitted

end Sys2Proof.Machine
end

section
/-! The recorder's rows (R412, R419, R425, R426, R430, R435, R439, R440, R451, R452). -/

namespace Sys2Proof.Machine

variable {s : State} {t : Nat} {m : ModuleState}

/-! ### Records taken in -/

/-- What the recorder counts and queues beside its buffer. -/
def Recorder.line (r : Recorder) : Halves Nat × List Event × Nat × Option Snapshot := (r.cycleRecs, r.queue, r.drops, r.collecting)

theorem Recorder.startFlush_line (r : Recorder) : r.startFlush.line = r.line ∧ r.startFlush.seq = r.seq := by
  unfold Recorder.startFlush
  split <;> exact ⟨rfl, rfl⟩

theorem Recorder.startFlush_last (r : Recorder) (x : Rec) (h : r.buf.getLast? = some x) :
    (r.startFlush.flushing ++ r.startFlush.buf).getLast? = some x := by
  unfold Recorder.startFlush
  split
  · rw [List.getLast?_append, h]
    rfl
  · rwa [List.append_nil]

/-- A half that is full goes to NAND as it stands. -/
theorem Recorder.flushIf_keeps {r r1 : Recorder} {x : Rec} {c : Prop} [Decidable c] (hline : r1.line = r.line) (hlast : r1.buf.getLast? = some x) :
    (if c then r1.startFlush else r1).line = r.line ∧ (if c then r1.startFlush else r1).seq = r1.seq ∧
      ((if c then r1.startFlush else r1).flushing ++ (if c then r1.startFlush else r1).buf).getLast? = some x := by
  split
  · exact ⟨r1.startFlush_line.1.trans hline, r1.startFlush_line.2, r1.startFlush_last x hlast⟩
  · refine ⟨hline, rfl, ?_⟩
    rw [List.getLast?_append, hlast]
    rfl

/-- A record taken in has the next key and stands last in the buffer (R425, R440). -/
theorem ModuleState.takeRec_takes (m : ModuleState) (r : Recorder) (b : RecordBody) : (m.takeRec r b).line = r.line ∧
    (m.takeRec r b).seq = (r.seq + 1) % 2 ^ 32 ∧
    ((m.takeRec r b).flushing ++ (m.takeRec r b).buf).getLast? = some { key := { op := m.opTime, cycle := r.cycle, seq := r.seq }, body := b } :=
  Recorder.flushIf_keeps rfl (List.getLast?_append.trans rfl)

theorem Recorder.cycle_of_line {r r' : Recorder} (h : r.line = r'.line) : r.cycle = r'.cycle :=
  congrArg (fun x : Halves Nat × List Event × Nat × Option Snapshot => x.1.read.getD 0) h

/-- The records of an event, one for each part, with the next keys (R425, R435). -/
theorem ModuleState.takeParts_takes (m : ModuleState) (r : Recorder) (e : Event) (n : Nat) (hseq : r.seq < 2 ^ 32) :
    ((List.range n).foldl (fun r i => m.takeRec r (.event e i)) r).line = r.line ∧
    ((List.range n).foldl (fun r i => m.takeRec r (.event e i)) r).seq = (r.seq + n) % 2 ^ 32 := by
  induction n with
  | zero => exact ⟨rfl, (Nat.mod_eq_of_lt hseq).symm⟩
  | succ n ih =>
    obtain ⟨hline, hcount⟩ := ih
    rw [List.range_succ, List.foldl_append]
    obtain ⟨hline', hcount', -⟩ := m.takeRec_takes ((List.range n).foldl (fun r i => m.takeRec r (.event e i)) r) (.event e n)
    refine ⟨hline'.trans hline, hcount'.trans ?_⟩
    rw [hcount]
    omega

theorem Recorder.noteStart_keeps (r : Recorder) (e : Event) (k : Key) : (r.noteStart e k).line = r.line ∧ (r.noteStart e k).seq = r.seq ∧
    (r.noteStart e k).flushing = r.flushing ∧ (r.noteStart e k).buf = r.buf := by
  unfold Recorder.noteStart
  split <;> exact ⟨rfl, rfl, rfl, rfl⟩

/-- A plain event taken in: nothing but its records (R425). -/
theorem ModuleState.takeEvent_plain {m : ModuleState} {c : Comm} {e : Event} (hsnap : e.snapshots = false) (hnotify : notifying.contains e.code = false) :
    (m.takeEvent c e).recd = ((List.range e.parts).foldl (fun r i => m.takeRec r (.event e i)) c.recd).noteStart e
      { op := m.opTime, cycle := c.recd.cycle, seq := c.recd.seq } := by
  unfold ModuleState.takeEvent
  dsimp only
  rw [hsnap, hnotify]
  rfl

theorem ModuleState.tooLate_plain {m : ModuleState} {r : Recorder} {e : Event} (hsnap : e.snapshots = false) : m.tooLate r e = false := by
  unfold ModuleState.tooLate
  split
  · rw [show (snapshotting.contains e.code || (e.code == evDutyTaken && e.items.head? == some 1)) = false from hsnap]
    rfl
  · rfl

/-- A plain event that the recorder takes from its queue: its records, and no report of drops when there were none. -/
theorem ModuleState.takeIn_plain {m m' : ModuleState} {e : Event} (hm' : m' = (m.withComm (m.takeEvent m.comm e)).reportDrops) (hdrops : m.recd.drops = 0)
    (hseq : m.recd.seq < 2 ^ 32) (hsnap : e.snapshots = false) (hnotify : notifying.contains e.code = false) :
    m'.recd.queue = m.recd.queue ∧ m'.recd.seq = (m.recd.seq + e.parts) % 2 ^ 32 ∧ (m'.recd.flushing ++ m'.recd.buf).getLast? = some {
        key := { op := m.opTime, cycle := m.recd.cycle, seq := (m.recd.seq + e.parts - 1) % 2 ^ 32 }
        body := .event e (e.parts - 1) } := by
  obtain ⟨n, hn⟩ : ∃ n, e.parts = n + 1 := ⟨e.parts - 1, by unfold Event.parts; omega⟩
  have hparts : (List.range e.parts).foldl (fun r i => m.takeRec r (.event e i)) m.recd =
      m.takeRec ((List.range n).foldl (fun r i => m.takeRec r (.event e i)) m.recd) (.event e n) := by
    rw [hn, List.range_succ, List.foldl_append]
    rfl
  obtain ⟨hline, hcount⟩ := m.takeParts_takes m.recd e n hseq
  generalize (List.range n).foldl (fun r i => m.takeRec r (.event e i)) m.recd = r at hparts hline hcount
  obtain ⟨hlastLine, hlastCount, hlast⟩ := m.takeRec_takes r (.event e n)
  rw [← hparts] at hlastLine hlastCount hlast
  have hevent := ModuleState.takeEvent_plain (m := m) (c := m.comm) hsnap hnotify
  change _ = ((List.range e.parts).foldl (fun r i => m.takeRec r (.event e i)) m.recd).noteStart e
    { op := m.opTime, cycle := m.recd.cycle, seq := m.recd.seq } at hevent
  generalize (List.range e.parts).foldl (fun r i => m.takeRec r (.event e i)) m.recd = r' at hevent hlastLine hlastCount hlast
  obtain ⟨hnoteLine, hnoteSeq, hflushing, hbuf⟩ := r'.noteStart_keeps e { op := m.opTime, cycle := m.recd.cycle, seq := m.recd.seq }
  have hall : (m.takeEvent m.comm e).recd.line = m.recd.line := hevent ▸ hnoteLine.trans (hlastLine.trans hline)
  have hnone : (m.takeEvent m.comm e).recd.drops = 0 := (congrArg (fun x : Halves Nat × List Event × Nat × Option Snapshot => x.2.2.1) hall).trans hdrops
  have hrecd : m'.recd = (m.takeEvent m.comm e).recd := by
    rw [hm', ModuleState.reportDrops, if_neg (fun h => h.1 hnone)]
    rfl
  rw [hrecd]
  refine ⟨congrArg (fun x : Halves Nat × List Event × Nat × Option Snapshot => x.2.1) hall, ?_, ?_⟩
  · rw [hevent, hnoteSeq, hlastCount, hcount, hn]
    omega
  · rw [hevent, hflushing, hbuf, hlast, hn, hcount, Recorder.cycle_of_line hline]
    rfl

theorem recordTakeIn_takes {e : Event} {rest : List Event} (hwait : (s.then t).recd.waiting = []) (hqueue : (s.then t).recd.queue = e :: rest)
    (htakes : (s.then t).recTakes (s.then t).recd (64 * e.parts)) (hprod : (s.then t).recd.producers = []) (hdrops : (s.then t).recd.drops = 0)
    (hseq : (s.then t).recd.seq < 2 ^ 32) (hsnap : e.snapshots = false) (hnotify : notifying.contains e.code = false) :
    Runs (.recordTakeIn t) s fun m' =>
      m'.recd.queue = rest ∧ m'.recd.seq = ((s.then t).recd.seq + e.parts) % 2 ^ 32 ∧
      (m'.recd.flushing ++ m'.recd.buf).getLast? = some {
        key := { op := (s.then t).opTime, cycle := (s.then t).recd.cycle, seq := ((s.then t).recd.seq + e.parts - 1) % 2 ^ 32 }
        body := .event e (e.parts - 1) } := by
  refine runs_of_happen rfl ?_
  rw [if_neg (by simp [hwait]), hqueue]
  dsimp only
  rw [ModuleState.tooLate_plain hsnap, if_neg Bool.false_ne_true, if_pos htakes]
  simp only [ModuleState.setRec, hprod]
  exact ModuleState.takeIn_plain (m := { s.then t with recd := { (s.then t).recd with queue := rest, producers := [] } }) rfl hdrops hseq hsnap hnotify

/-! ### Flushing -/

/-- A half with records goes to NAND when no flush runs. -/
theorem Recorder.startFlush_idle {r : Recorder} (hidle : r.flushBusy = false) (hsome : r.buf ≠ []) : r.startFlush =
    { r with flushing := r.buf, flushBusy := true, flushLeft := r.bufBytes, buf := [], bufBytes := 0, bufAt := none } :=
  if_neg (by simp [hidle, hsome])

theorem recordFlushTimer_flushes {b : Nat} (hrun : (s.then t).runs isRecorder) (hat : (s.then t).recd.bufAt = some b) (hdue : b + seconds 1 ≤ (s.then t).now)
    (hfail : (s.then t).recd.failFlushAt = none) (hidle : (s.then t).recd.flushBusy = false) (hsome : (s.then t).recd.buf ≠ []) :
    Gives (.recordFlushTimer t) s ((s.then t).setRec fun r =>
      { r with flushing := r.buf, flushBusy := true, flushLeft := r.bufBytes, buf := [], bufBytes := 0, bufAt := none }) := by
  refine gives_of_happen rfl ((if_pos ?_).trans ?_)
  · rw [hrun, ModuleState.dueO_some hat hdue, hfail]
    rfl
  · rw [ModuleState.setRec, Recorder.startFlush_idle hidle hsome]
    rfl

/-- The records of a flush in their regions while the cycle region has room (R430, R431). -/
theorem Recorder.store_fits {r : Recorder} {new : List Rec} (hroom : (r.cycles ++ new.filter Rec.isCycle).length * 64 ≤ r.cycleMib * 1048576) :
    (r.store new).2 = [] ∧ (r.store new).1.cycles = r.cycles ++ new.filter Rec.isCycle ∧
      ((r.events ++ new.filter Rec.isEvent).length ≤ 8388608 → (r.store new).1.events = r.events ++ new.filter Rec.isEvent) := by
  have hneed : ((r.cycles ++ new.filter Rec.isCycle).length * 64 + 1048575) / 1048576 ≤ r.cycleMib := by omega
  have hkeep : (r.cycles ++ new.filter Rec.isCycle).length - r.cycleMib * 1048576 / 64 = 0 := by omega
  have hwrap : decide (r.cycleMib < ((r.cycles ++ new.filter Rec.isCycle).length * 64 + 1048575) / 1048576) = false :=
    decide_eq_false (Nat.not_lt.mpr hneed)
  unfold Recorder.store
  simp only [if_pos (Or.inl hneed), Nat.zero_mul, Nat.add_zero, List.range_zero, List.map_nil, hwrap, hkeep, Bool.or_false, Bool.and_not_self,
    Bool.false_eq_true, if_false, List.drop_zero, List.nil_append, true_and]
  intro hevents
  rw [Nat.sub_eq_zero_of_le hevents, List.drop_zero]

/-- What is not of the regions stays as it is when records are stored. -/
theorem Recorder.store_keeps (r : Recorder) (new : List Rec) : (r.store new).1.buf = r.buf ∧ (r.store new).1.bufBytes = r.bufBytes ∧
    (r.store new).1.readout = r.readout := by
  obtain ⟨cycles, events, traces, traceOff, cycleMib, traceMib, wrapping, hstore⟩ : ∃ cycles events traces traceOff cycleMib traceMib wrapping,
      (r.store new).1 = { r with cycles, events, traces, traceOff, cycleMib, traceMib, wrapping } := ⟨_, _, _, _, _, _, _, rfl⟩
  rw [hstore]
  exact ⟨rfl, rfl, rfl⟩

/-- The recorder once a flushed half is in NAND (R428, R440). -/
def Recorder.flushed (r r1 : Recorder) : Recorder :=
  { r1.overran r with flushing := [], flushBusy := false, seqRecs := .both r.seq }

theorem ModuleState.readoutReady_none {m : ModuleState} (h : m.recd.readout = none) : m.readoutReady = m := by
  simp only [ModuleState.readoutReady, h]

/-- A finished flush with the regions that store gives: nothing follows it without a readout (R440). -/
theorem nandFlushDone_flushes {r r1 : Recorder} {grown : List (Nat × Nat × Bool)} (hr : r = (s.then t).recd) (hrun : (s.then t).runs isRecorder)
    (hbusy : r.flushBusy) (hleft : r.flushLeft = 0) (hhalt : r.cv14Halted = false) (hfail : r.failFlushAt = none)
    (hstored : r.copyEvents.store r.flushing = (r1, grown)) (hgrown : grown = []) (hfull : r1.bufBytes ≠ 65536) (hread : r1.readout = none) :
    Runs (.nandFlushDone t) s (·.recd = r.flushed r1) := by
  subst hr hgrown
  have hempty : ((s.then t).recd.flushed r1).bufBytes ≠ 65536 := hfull
  have hnone : ((s.then t).recd.flushed r1).readout = none := by
    show r1.readout.map _ = none
    rw [hread]
    rfl
  refine runs_of_happen rfl ?_
  rw [if_pos (by simp [hrun, hbusy, hleft, hhalt, hfail]), hstored]
  show (({ s.then t with recd := if ((s.then t).recd.flushed r1).bufBytes = 65536 then ((s.then t).recd.flushed r1).startFlush
    else (s.then t).recd.flushed r1 } : ModuleState).ownDone 14).readoutReady.recd = _
  rw [if_neg hempty, ModuleState.readoutReady_none (m := ({ s.then t with recd := (s.then t).recd.flushed r1 } : ModuleState).ownDone 14) hnone]
  rfl

theorem nandFlushDone_stores {r : Recorder} (hr : r = (s.then t).recd) (hrun : (s.then t).runs isRecorder) (hbusy : r.flushBusy) (hleft : r.flushLeft = 0)
    (hhalt : r.cv14Halted = false) (hfail : r.failFlushAt = none) (hread : r.readout = none) (hfull : r.bufBytes ≠ 65536)
    (hroom : (r.cycles ++ r.flushing.filter Rec.isCycle).length * 64 ≤ r.cycleMib * 1048576) :
    Runs (.nandFlushDone t) s fun m' => m'.recd.flushing = [] ∧ m'.recd.flushBusy = false ∧ m'.recd.seqSaved = r.seq ∧ m'.recd.buf = r.buf ∧
      m'.recd.cycles = r.cycles ++ r.flushing.filter Rec.isCycle ∧
      ((r.events ++ r.flushing.filter Rec.isEvent).length ≤ 8388608 → m'.recd.events = r.events ++ r.flushing.filter Rec.isEvent) := by
  obtain ⟨hgrown, hcycles, hevents⟩ := Recorder.store_fits (r := r.copyEvents) (new := r.flushing) hroom
  obtain ⟨hbuf, hbytes, hreadout⟩ := r.copyEvents.store_keeps r.flushing
  cases hstored : r.copyEvents.store r.flushing with
  | mk r1 grown =>
    rw [hstored] at hgrown hcycles hevents hbuf hbytes hreadout
    obtain ⟨m', hgives, hrecd⟩ := nandFlushDone_flushes hr hrun hbusy hleft hhalt hfail hstored hgrown (fun h => hfull (hbytes.symm.trans h)) (hreadout.trans hread)
    refine ⟨m', hgives, ?_⟩
    beta_reduce
    rw [hrecd]
    exact ⟨rfl, rfl, rfl, hbuf, hcycles, hevents⟩

/-! ### Blocks and operating time -/

theorem ModuleState.unreadable_retired (m : ModuleState) (region block : Nat) : (m.unreadable region block).recd.retired = m.recd.retired := by
  unfold ModuleState.unreadable
  dsimp only [ModuleState.setRec]
  split
  · rfl
  · split <;> rfl

theorem nandBlockFailure_retires (region block cause : Nat) (hrun : (s.then t).runs isRecorder) :
    Runs (.nandBlockFailure t region block cause) s fun m' => m'.recd.retired = min max16 ((s.then t).recd.retired + 1) := by
  refine runs_of_happen rfl ?_
  rw [if_neg (by simp [hrun])]
  dsimp only
  have hkept := fun (m : ModuleState) => ((m.saturated max16 (s.then t).recd.retired tgModule 0x0C00 38).log_kept evNandBlockRetired tgModule
    [(region : Int), (block : Int), (cause : Int)]).trans (m.saturated_kept _ _ _ _ _)
  refine (congrArg Recorder.retired (hkept _)).trans ?_
  show sat max16 (if cause = 2 then (s.then t).unreadable region block else s.then t).recd.retired = _
  rw [sat_eq_min, apply_ite ModuleState.recd, apply_ite Recorder.retired, ModuleState.unreadable_retired, ite_self]

theorem opTimeSave_saves (hrun : (s.then t).runs isRecorder) :
    Gives (.opTimeSave t) s ((s.then t).setRec fun r => { r with opRecs := .both (s.then t).opTime }) := gives_of_happen rfl (if_pos hrun)

end Sys2Proof.Machine
end

section
/-! The recorder's own channels, readouts and samples (R405, R412, R419, R439, R451, R452). -/

namespace Sys2Proof.Machine

variable {s : State} {t : Nat} {m : ModuleState}

/-! ### Bursts of the recorder's own channels -/

/-- Judging the paced channels leaves the recorder's own ones as they were. -/
theorem ModuleState.cvSettle_own {c : Nat} (hown : 14 ≤ c) : m.cvSettle.chan c = m.chan c := by
  refine List.foldlRecOn (motive := fun n : ModuleState => n.chan c = m.chan c) _ _ rfl fun n hn k hk => ?_
  have hne : c ≠ k := fun h => absurd (List.mem_range.mp hk) (by omega)
  unfold ModuleState.cvPause
  dsimp only
  split
  · exact hn
  · split
    · exact (ModuleState.setChan_chan_ne hne _).trans hn
    · exact hn

/-- A burst of one of the recorder's own channels (R405). -/
theorem cvBurst_own {c : Nat} (hown : c = 14 ∨ c = 15) (hdesc : ((s.then t).chan c).desc = none) (hturn : (s.then t).cvSettle.cvTurn = some c) :
    exec (.cvBurst t c) s = .next { s with m := (ownBurst c ((s.then t).cvSettle, s.mem)).1, mem := (ownBurst c ((s.then t).cvSettle, s.mem)).2 } := by
  have hc : c < 16 := by omega
  have hnone : ((s.then t).cvSettle.chan c).desc = none := by rw [ModuleState.cvSettle_own (by omega), hdesc]
  refine next_of_both (if_pos hc) ?_
  dsimp only
  rw [if_neg (fun h => h hturn), hnone]

/-- A channel of the recorder that can move bytes has some left (R419). -/
theorem ModuleState.ownLeft_of_turn {c : Nat} (hdesc : (m.chan c).desc = none) (hturn : m.cvTurn = some c) : 0 < m.ownLeft c := by
  have hready := ModuleState.cvReady_of_turn hturn
  simp only [ModuleState.cvReady, hdesc, ModuleState.ownReady, Bool.and_eq_true, decide_eq_true_eq] at hready
  exact hready.2.1

/-- What a burst of CV14 leaves of the module. -/
def ModuleState.flushBurst (m : ModuleState) : ModuleState :=
  let n := min 64 (m.ownLeft 14)
  let m1 := m.setChan 14 fun q => { q with bytes := (q.bytes + n) % 2 ^ 32 }
  { m1 with recd := { m1.recd with flushLeft := m1.recd.flushLeft - n } }

theorem ownBurst_flush (m : ModuleState) (mem : Memory) : ownBurst 14 (m, mem) = (m.flushBurst, mem) := rfl

theorem ModuleState.flushBurst_recd (m : ModuleState) :
    m.flushBurst.recd = { m.recd with flushLeft := m.recd.flushLeft - min 64 (m.ownLeft 14) } := rfl

theorem cvBurst_flush (hdesc : ((s.then t).chan 14).desc = none) (hturn : (s.then t).cvSettle.cvTurn = some 14) : Runs (.cvBurst t 14) s fun m' =>
    m'.recd = { (s.then t).recd with flushLeft := (s.then t).recd.flushLeft - min 64 (s.then t).recd.flushLeft } := by
  obtain ⟨cv, hcv⟩ := (s.then t).cvSettle_cv
  have hleft := ModuleState.ownLeft_of_turn (c := 14) (by rw [ModuleState.cvSettle_own (Nat.le_refl 14), hdesc]) hturn
  have hrecd : (s.then t).cvSettle.recd = (s.then t).recd := by rw [hcv]
  have hall : (s.then t).cvSettle.ownLeft 14 = (s.then t).recd.flushLeft := by
    unfold ModuleState.ownLeft at hleft ⊢
    split at hleft
    · exact absurd hleft (Nat.lt_irrefl 0)
    · next hbusy => rw [if_neg hbusy, if_pos rfl, hrecd]
  have hexec := cvBurst_own (Or.inl rfl) hdesc hturn
  rw [ownBurst_flush] at hexec
  refine ⟨(s.then t).cvSettle.flushBurst, hexec, ?_⟩
  beta_reduce
  rw [ModuleState.flushBurst_recd, hall, hrecd]

theorem ModuleState.recBytes_cv (m : ModuleState) (cv : Culvert) : ({ m with cv } : ModuleState).recBytes = m.recBytes := by
  funext x
  rfl

theorem ModuleState.takeFit_cv (m : ModuleState) (cv : Culvert) (room : Nat) (l : List Rec) : takeFit { m with cv } room l = takeFit m room l := by
  induction l generalizing room with
  | nil => rfl
  | cons x l ih => simp only [takeFit, m.recBytes_cv, ih]

/-- The next chunk does not depend on the culvert. -/
theorem ModuleState.nextChunk_cv (m : ModuleState) (cv : Culvert) (o : Readout) : ({ m with cv } : ModuleState).nextChunk o = m.nextChunk o := by
  simp only [ModuleState.nextChunk, m.recBytes_cv, m.takeFit_cv]

/-- A burst of CV15 stores what is left of the chunk, up to its n bytes, where it stands (R451). -/
theorem ownBurst_chunk {m : ModuleState} {a n : Nat} {left : List Byte} (hrest : m.chunkRest = (a, left)) (hn : min 64 (m.ownLeft 15) = n) (mem : Memory) :
    ∃ m', ownBurst 15 (m, mem) = (m', mem.store a (left.take n)) ∧
      m'.recd = { m.recd with readout := m.recd.readout.map fun o => { o with moved := o.moved + n } } := by
  refine ⟨(((m.setChan 15 fun q => { q with bytes := (q.bytes + n) % 2 ^ 32 }).setReadout fun o => { o with moved := o.moved + n }).mend a n), ?_, rfl⟩
  unfold ownBurst
  dsimp only
  rw [if_neg (by decide), hrest, hn]

theorem cvBurst_chunk {o : Readout} (ho : (s.then t).recd.readout = some o) (hdesc : ((s.then t).chan 15).desc = none)
    (hturn : (s.then t).cvSettle.cvTurn = some 15) {left : List Byte} (hleft : left = ((s.then t).nextChunk o).1.drop o.moved) {n a : Nat}
    (hn : n = min 64 left.length) (ha : a = o.bufAddr + o.half * o.halfSize + o.moved) :
    Stores (.cvBurst t 15) s fun m' mem' => m'.recd = { (s.then t).recd with readout := some { o with moved := o.moved + n } } ∧
      (∀ b, b < a ∨ a + n ≤ b → mem'.read b = s.mem.read b) ∧ (s.memOk → mem'.bytes a n = left.take n) := by
  obtain ⟨cv, hcv⟩ := (s.then t).cvSettle_cv
  have hsome := ModuleState.ownLeft_of_turn (c := 15) (by rw [ModuleState.cvSettle_own (by decide), hdesc]) hturn
  have hrecd : (s.then t).cvSettle.recd = (s.then t).recd := by rw [hcv]
  have hrest : (s.then t).cvSettle.chunkRest = (a, left) := by
    unfold ModuleState.chunkRest
    rw [hrecd, ho, ha, hleft, hcv]
    dsimp only
    rw [ModuleState.nextChunk_cv]
  have hall : (s.then t).cvSettle.ownLeft 15 = left.length := by
    unfold ModuleState.ownLeft at hsome ⊢
    split at hsome
    · exact absurd hsome (Nat.lt_irrefl 0)
    · next hbusy => rw [if_neg hbusy, if_neg (by decide), hrest]
  obtain ⟨m', hburst, hmoved⟩ := ownBurst_chunk hrest ((congrArg (min 64) hall).trans hn.symm) s.mem
  have hexec := cvBurst_own (Or.inr rfl) hdesc hturn
  rw [hburst] at hexec
  have hlen : (left.take n).length = n := by rw [List.length_take]; omega
  refine ⟨m', _, hexec, ?_, fun b hb => Memory.read_store_outside _ _ _ _ (by rwa [hlen]), fun hm => ?_⟩
  · rw [hmoved, hrecd, ho]
    rfl
  · have hbytes := Memory.bytes_store hm a (left.take n)
    rwa [hlen] at hbytes

/-! ### Readouts -/

/-- A chunk that CV15 has moved whole: its half is filled, and it is the other one's turn (R451). -/
def Readout.passed (o o1 : Readout) : Readout :=
  { o1 with moved := 0, chunk := (o.chunk + 1) % 2 ^ 32, half := 1 - o.half, free := setBit o.free o.half false
            filled := setBit o.filled o.half true, overrun := false }

theorem logChunkDone_waits {o : Readout} (ho : (s.then t).recd.readout = some o) (hmore : o.moved < ((s.then t).nextChunk o).1.length) :
    Gives (.logChunkDone t) s (s.then t) := by
  refine gives_of_happen rfl ?_
  dsimp only
  rw [ho]
  exact if_pos (by simp [Nat.ne_of_lt hmore])

theorem logChunkDone_passes (hrun : (s.then t).runs isRecorder) {o : Readout} (ho : (s.then t).recd.readout = some o) (hhalt : (s.then t).recd.cv15Halted = false)
    (hwait : o.waiting = none) (hfree : bit o.free o.half) (hwhole : o.moved = ((s.then t).nextChunk o).1.length) :
    Runs (.logChunkDone t) s fun m' => ∃ m1 : ModuleState, m1.recd.readout = some (o.passed ((s.then t).nextChunk o).2.2) ∧
      m' = if ((s.then t).nextChunk o).2.1 then m1.endReadout 0 else if o.stop then m1.endReadout 1 else m1 := by
  refine runs_of_happen rfl ?_
  dsimp only
  rw [ho]
  dsimp only
  rw [if_neg (by simp [hrun, hhalt, hwait, hfree, hwhole])]
  exact ⟨_, congrArg Recorder.readout (ModuleState.log_kept _ _ _ _), rfl⟩

theorem logChunkDone_turns (hrun : (s.then t).runs isRecorder) {o : Readout} (ho : (s.then t).recd.readout = some o) (hhalt : (s.then t).recd.cv15Halted = false)
    (hwait : o.waiting = none) (hfree : bit o.free o.half) (hwhole : o.moved = ((s.then t).nextChunk o).1.length) :
    Runs (.logChunkDone t) s fun m' => (((s.then t).nextChunk o).2.1 → m'.recd.readout = none) ∧
      (((s.then t).nextChunk o).2.1 = false → o.stop = false → ∃ o', m'.recd.readout = some o' ∧ o'.chunk = (o.chunk + 1) % 2 ^ 32 ∧ o'.half = 1 - o.half ∧
        bit o'.filled o.half ∧ bit o'.free o.half = false) := by
  obtain ⟨m', hgives, m1, hpassed, hm'⟩ := logChunkDone_passes hrun ho hhalt hwait hfree hwhole
  refine ⟨m', hgives, fun hlast => ?_, fun hmore hgoes => ⟨o.passed ((s.then t).nextChunk o).2.2, ?_, rfl, rfl, ?_, ?_⟩⟩
  · rw [hm', if_pos hlast]
    exact m1.endReadout_readout 0
  · rw [hm', if_neg (by simp [hmore]), if_neg (by simp [hgoes])]
    exact hpassed
  · exact (bit_setBit _ _ _ _).trans (if_pos rfl)
  · exact (bit_setBit _ _ _ _).trans (if_pos rfl)

theorem logReadTimeout_ends (hrun : (s.then t).runs isRecorder) {o : Readout} (ho : (s.then t).recd.readout = some o) (hwait : o.waiting = none)
    (hdue : o.lastNext + seconds 60 ≤ (s.then t).now) : Runs (.logReadTimeout t) s fun m' => m'.recd.readout = none := by
  refine runs_of_happen rfl ?_
  rw [ho]
  dsimp only
  rw [if_pos (by rw [hrun, hwait, ModuleState.due_of_le hdue]; rfl)]
  exact (s.then t).endReadout_readout 2

theorem cvRecorderResume_resumes (hrun : (s.then t).runs isRecorder) {h : Nat} (hhalt : (s.then t).cv.haltAt = some h) (hdue : h + ms 1 ≤ (s.then t).now) :
    Gives (.cvRecorderResume t) s { s.then t with
      cv := { (s.then t).cv with
        haltAt := none, chans := (s.then t).cv.chans.take 14 ++ ((s.then t).cv.chans.drop 14).map fun q => { q with state := .idle } }
      recd := { (s.then t).recd with
        cv14Halted := false, cv15Halted := false, flushLeft := if (s.then t).recd.flushBusy then recBytesSum (s.then t).recd.flushing else 0
        readout := (s.then t).recd.readout.map fun o => { o with moved := 0 } } } :=
  gives_of_happen rfl (if_pos (by rw [hrun, ModuleState.dueO_some hhalt hdue]; rfl))

end Sys2Proof.Machine
end

section
/-! Samples of the axes and fault snapshots (R412, R439), and the recorder's rows together. -/

namespace Sys2Proof.Machine

variable {s : State} {t : Nat} {m : ModuleState}

/-! ### Trace samples -/

theorem ModuleState.cvPause_traces (m : ModuleState) (c : Nat) : (m.cvPause c).cv.traces = m.cv.traces := by
  unfold ModuleState.cvPause
  dsimp only
  split
  · rfl
  · split <;> rfl

/-- Judging the paced channels takes nothing from the trace queues. -/
theorem ModuleState.cvSettle_traces (m : ModuleState) : m.cvSettle.cv.traces = m.cv.traces := by
  unfold ModuleState.cvSettle
  exact m.each_frame (List.range 14) (fun m c => m.cvPause c) (fun n => n.cv.traces) fun n c => n.cvPause_traces c

/-- A trace sample is due: none was taken, or DIV × 20 µs ago (R412). -/
def TraceQ.due (q : TraceQ) (now : Nat) : Prop := ∀ b, q.lastAt = some b → b + q.div * 20000 ≤ now

theorem TraceQ.due_iff (q : TraceQ) (now : Nat) : q.due now ↔ (q.lastAt.any fun b => decide (now < b + q.div * 20000)) = false := by
  unfold TraceQ.due
  cases q.lastAt with
  | none => simp
  | some b => simp

section

variable {axis : Nat} {q : TraceQ} (haxis : axis < 8) (hq : (s.then t).cv.traces[axis]? = some q)
include haxis hq

theorem traceSample_waits (hdue : ¬ q.due (s.then t).now) : Gives (.traceSample t axis) s (s.then t) := by
  refine gives_of_there (decide_eq_true haxis) rfl ?_
  rw [TraceQ.due_iff, Bool.not_eq_false] at hdue
  dsimp only
  rw [List.getD_eq_getElem?_getD, hq, Option.getD_some, hdue, if_pos (by simp)]

theorem traceSample_taken (hrec : (s.then t).runs isRecorder) (hon : q.on) (hrun : (s.then t).runs (axisIsland axis)) (hdue : q.due (s.then t).now)
    {n : ModuleState} (hn : n = (s.then t).cvSettle) (hroom : q.words.length + 4 ≤ 1024) :
    Gives (.traceSample t axis) s { n with
      cv := { n.cv with traces := upd n.cv.traces axis fun q => { q with lastAt := some n.now, words := q.words ++ n.sampleWords axis } } } := by
  refine gives_of_there (decide_eq_true haxis) rfl ?_
  rw [TraceQ.due_iff] at hdue
  dsimp only
  rw [← hn]
  rw [List.getD_eq_getElem?_getD, hq, Option.getD_some, hdue, if_neg (by simp [hon, hrun, hrec])]
  simp only [decide_eq_false (Nat.not_lt.mpr hroom), Bool.false_eq_true, if_false]

theorem traceSample_dropped (hrec : (s.then t).runs isRecorder) (hon : q.on) (hrun : (s.then t).runs (axisIsland axis)) (hdue : q.due (s.then t).now)
    (hfull : 1024 < q.words.length + 4) : Runs (.traceSample t axis) s fun m' =>
      m'.cv.traces[axis]? = some { q with lastAt := some (s.then t).now, drops := min max32 (q.drops + 1) } := by
  refine runs_of_there (decide_eq_true haxis) rfl rfl ?_
  rw [TraceQ.due_iff] at hdue
  dsimp only
  rw [List.getD_eq_getElem?_getD, hq, Option.getD_some, hdue, if_neg (by simp [hon, hrun, hrec])]
  simp only [decide_eq_true hfull, if_true]
  show (upd (s.then t).cvSettle.cv.traces axis _)[axis]? = _
  have hnow : (s.then t).cvSettle.now = (s.then t).now := by
    obtain ⟨cv, hcv⟩ := (s.then t).cvSettle_cv
    rw [hcv]
  rw [upd_getElem?, ModuleState.cvSettle_traces, hq, hnow, Option.map_some, sat_eq_min]

end

/-! ### Snapshots -/

theorem axisNums_getElem? {a : Nat} (ha : a < 8) : axisNums[a]? = some a := by
  interval_cases a <;> rfl

theorem ModuleState.mem_sampledAxes {a : Nat} (ha : a < 8) (hpop : m.populated a) (hmode : m.axisMode a ≠ 0) : a ∈ m.sampledAxes :=
  List.mem_filter.mpr ⟨List.mem_of_getElem? (axisNums_getElem? ha), by simp [hpop, hmode]⟩

/-- What each axis adds to its history and to a snapshot (R439). -/
def ModuleState.newSamples (m : ModuleState) : List (List (List Word)) :=
  axisNums.map fun a => if m.sampledAxes.contains a && m.runs (axisIsland a) then [m.sampleWords a] else []

/-- Samples joined axis by axis. -/
def joinSamples (new l : List (List (List Word))) : List (List (List Word)) := (l.zip new).map fun x => x.1 ++ x.2

theorem snapshotSample_gives (hrun : (s.then t).runs isRecorder) (hfail : (s.then t).recd.failFlushAt = none) :
    Gives (.snapshotSample t) s ((s.then t).setRec fun r => { r with
        history := (joinSamples (s.then t).newSamples r.history).map (lastN 2000)
        collecting := r.collecting.map fun o => if o.post < 500 then { o with blocks := joinSamples (s.then t).newSamples o.blocks, post := o.post + 1 } else o }) :=
  gives_of_happen rfl (if_neg (by simp [hrun, hfail]))

theorem joinSamples_getElem? {new l : List (List (List Word))} {a : Nat} {x y : List (List Word)} (hl : l[a]? = some x) (hnew : new[a]? = some y) :
    (joinSamples new l)[a]? = some (x ++ y) := by
  rw [joinSamples, List.getElem?_map, (List.getElem?_zip_eq_some (z := (x, y))).mpr ⟨hl, hnew⟩]
  rfl

theorem ModuleState.newSamples_getElem? {a : Nat} (ha : a < 8) (hpop : m.populated a) (hmode : m.axisMode a ≠ 0) (hrun : m.runs (axisIsland a)) :
    m.newSamples[a]? = some [m.sampleWords a] := by
  rw [ModuleState.newSamples, List.getElem?_map, axisNums_getElem? ha, Option.map_some,
    if_pos (by rw [List.contains_iff_mem.mpr (ModuleState.mem_sampledAxes ha hpop hmode), hrun]; rfl)]

theorem snapshotSample_adds (hrun : (s.then t).runs isRecorder) (hfail : (s.then t).recd.failFlushAt = none) :
    Runs (.snapshotSample t) s fun m' =>
      (∀ a h, a < 8 → (s.then t).populated a → (s.then t).axisMode a ≠ 0 → (s.then t).runs (axisIsland a) → (s.then t).recd.history[a]? = some h →
        m'.recd.history[a]? = some (lastN 2000 (h ++ [(s.then t).sampleWords a]))) ∧
      (∀ o, (s.then t).recd.collecting = some o → o.post < 500 → m'.recd.collecting.map (·.post) = some (o.post + 1)) := by
  refine ⟨_, snapshotSample_gives hrun hfail, fun a h ha hpop hmode hisland hh => ?_, fun o ho hpost => ?_⟩
  · show ((joinSamples (s.then t).newSamples (s.then t).recd.history).map (lastN 2000))[a]? = _
    rw [List.getElem?_map, joinSamples_getElem? hh (ModuleState.newSamples_getElem? ha hpop hmode hisland)]
    rfl
  · show ((s.then t).recd.collecting.map fun o => if o.post < 500 then { o with blocks := joinSamples (s.then t).newSamples o.blocks, post := o.post + 1 }
      else o).map (·.post) = _
    rw [ho, Option.map_some, if_pos hpost]
    rfl

/-! ### Events that trigger no snapshot -/

theorem ModuleState.takeRec_collecting (m : ModuleState) (r : Recorder) (b : RecordBody) : (m.takeRec r b).collecting = r.collecting :=
  congrArg (fun x : Halves Nat × List Event × Nat × Option Snapshot => x.2.2.2) (m.takeRec_takes r b).1

theorem Recorder.enqueue_collecting (r : Recorder) (now : Nat) (e : Event) : (r.enqueue now e).collecting = r.collecting := by
  unfold Recorder.enqueue
  dsimp only
  split
  · split
    · rfl
    · split <;> rfl
  · split <;> rfl

theorem ModuleState.takeNext_collecting (m : ModuleState) (r : Recorder) (e : Event) : (m.takeNext r e).collecting = r.collecting := by
  unfold ModuleState.takeNext
  split
  · exact m.takeRec_collecting r _
  · exact r.enqueue_collecting _ e

/-- An event without a snapshot, taken in with what its notifications log, starts none. -/
theorem ModuleState.takeEvent_collecting {m : ModuleState} {c : Comm} {e : Event} (hsnap : e.snapshots = false) :
    (m.takeEvent c e).recd.collecting = c.recd.collecting := by
  have hrecords : ∀ k, (((List.range e.parts).foldl (fun r i => m.takeRec r (.event e i)) c.recd).noteStart e k).collecting = c.recd.collecting := fun k =>
    (congrArg (fun x : Halves Nat × List Event × Nat × Option Snapshot => x.2.2.2) (Recorder.noteStart_keeps _ e k).1).trans
      (List.foldlRecOn _ _ (motive := fun r => r.collecting = c.recd.collecting) rfl fun r hr i _ => (m.takeRec_collecting r _).trans hr)
  unfold ModuleState.takeEvent
  dsimp only
  rw [hsnap, if_neg Bool.false_ne_true]
  split
  · refine List.foldlRecOn _ _ (motive := fun r => r.collecting = c.recd.collecting) ?_ fun r hr x _ => (m.takeNext_collecting r _).trans hr
    exact List.foldlRecOn _ _ (motive := fun q : Comm × List (Nat × List Int) => q.1.recd.collecting = c.recd.collecting) (hrecords _)
      fun q hq x _ => (congrArg Recorder.collecting (m.notifyOn_recd _ _ _ _)).trans hq
  · exact hrecords _

theorem ModuleState.log_collecting {m : ModuleState} {code source : Nat} {items : List Int} (hsnap : (m.event code source items).snapshots = false) :
    (m.log code source items).recd.collecting = m.recd.collecting := by
  show (m.logE m.comm (m.event code source items)).recd.collecting = _
  unfold ModuleState.logE
  split
  · rfl
  · split
    · exact ModuleState.takeEvent_collecting hsnap
    · dsimp only
      split
      · exact (Recorder.enqueue_collecting _ _ _).trans (Recorder.enqueue_collecting _ _ _)
      · exact Recorder.enqueue_collecting _ _ _

/-! ### A snapshot closed -/

theorem ModuleState.writeSnapshot_closes {o : Snapshot} (ho : m.recd.collecting = some o) : m.writeSnapshot.recd.collecting = none ∧
    m.closedSnapshot o ∈ m.writeSnapshot.recd.snaps := by
  unfold ModuleState.writeSnapshot
  rw [ho]
  refine ⟨rfl, List.mem_append_right _ ?_⟩
  show m.closedSnapshot o ∈ slotWith (m.closedSnapshot o) _
  exact List.mem_append_right _ (List.mem_singleton_self _)

theorem snapshotCollectDone_closes (hrun : (s.then t).runs isRecorder) {o : Snapshot} (ho : (s.then t).recd.collecting = some o) (hpost : 500 ≤ o.post)
    (hfail : (s.then t).recd.failFlushAt = none) (hhalt : (s.then t).recd.cv15Halted = false) : Runs (.snapshotCollectDone t) s fun m' =>
      m'.recd.collecting = none ∧ ∃ d ∈ m'.recd.snaps, d.slot = o.slot ∧ d.key = o.key ∧
        d.header = (s.then t).snapshotHeader o ((s.then t).sampledAxes.map fun a => 2 ^ a).sum := by
  obtain ⟨hnone, hmem⟩ := ModuleState.writeSnapshot_closes ho
  refine runs_of_happen rfl ?_
  rw [if_pos (by simp [hrun, hfail, hhalt, ho, hpost]), ModuleState.finishSnapshot, ho]
  refine ⟨(ModuleState.log_collecting ?_).trans hnone, (s.then t).closedSnapshot o, ?_, rfl, rfl, rfl⟩
  · show (snapshotting.contains evSnapshotTaken || (evSnapshotTaken == evDutyTaken && _)) = false
    rw [show snapshotting.contains evSnapshotTaken = false by decide, show (evSnapshotTaken == evDutyTaken) = false by decide]
    rfl
  · exact (congrArg Recorder.snaps (ModuleState.log_kept _ _ _ _)).symm ▸ hmem

/-- Settles O34: each row through what its step makes of the recorder; records, bursts and logging leave what is claimed besides as it was. -/
theorem recorderRowsRun : Obligations.RecorderRowsRun := by
  intro s t hrun
  refine ⟨fun e rest => recordTakeIn_takes, fun b => recordFlushTimer_flushes hrun, cvBurst_flush, nandFlushDone_stores rfl hrun,
    fun region block cause => nandBlockFailure_retires region block cause hrun, opTimeSave_saves hrun,
    fun o ho hdesc hturn => cvBurst_chunk ho hdesc hturn rfl rfl rfl,
    fun o ho hhalt hwait hfree _ => ⟨logChunkDone_waits ho, logChunkDone_turns hrun ho hhalt hwait hfree⟩,
    fun o => logReadTimeout_ends hrun, fun h => cvRecorderResume_resumes hrun,
    fun axis q haxis hq hon hisland => ⟨traceSample_waits haxis hq, fun hdue => traceSample_taken haxis hq hrun hon hisland hdue rfl,
      traceSample_dropped haxis hq hrun hon hisland⟩,
    snapshotSample_adds hrun, fun o ho hpost hfail hhalt => snapshotCollectDone_closes hrun ho hpost hfail hhalt⟩

end Sys2Proof.Machine
end

section
/-! What the rows of the logic side leave alone (R327, R345, R392, R421, R446, R459, R517, R524), for every part of the module that sees none of what
they change. What events, replies and the transports touch is one part, that of withComm. -/

namespace Sys2Proof.Machine

/-! ### Rows of the host window, the CAN controllers and the recorder -/

section

variable {β : Type} {π : ModuleState → β} (h : ∀ m k, π (ModuleState.withComm m k) = π m) {t : Nat}
include h

theorem offComm_log (m : ModuleState) (code source : Nat) (items : List Int) : π (m.log code source items) = π m := h _ _

theorem offComm_setHost (m : ModuleState) (f : HostWin → HostWin) : π (m.setHost f) = π m := h m { m.comm with host := f m.host }

theorem offComm_setRec (m : ModuleState) (f : Recorder → Recorder) : π (m.setRec f) = π m := h m { m.comm with recd := f m.recd }

theorem offComm_setEth (m : ModuleState) (f : Eth → Eth) : π (m.setEth f) = π m := h m { m.comm with eth := f m.eth }

theorem offComm_settle (m : ModuleState) (ref : Nat) (status : Option Nat) (data : Option (List Byte)) : π (m.settle ref status data) = π m := h _ _

theorem offComm_saturated (m : ModuleState) (max before source opcode off : Nat) : π (m.saturated max before source opcode off) = π m := h _ _

theorem offComm_endRef (m : ModuleState) (ref status : Nat) (data : List Byte) : π (m.endRef ref status data) = π m := h _ _

/-! The host window. -/

theorem offComm_flushCmd (m : ModuleState) : π m.flushCmd = π m := by
  have hraise : ∀ m : ModuleState, π { m with host := m.host.raise 2 } = π m := fun m => offComm_setHost h m fun w => w.raise 2
  simp only [ModuleState.flushCmd, ModuleState.drained, apply_ite π, hraise, offComm_setHost h, ite_self]

theorem offComm_evtFifoRead : Leaves π (.evtFifoRead t) t :=
  leaves_of_happen (ok := true) (fun _ => rfl) fun m => by simp only [apply_ite π, offComm_setHost h, ite_self]

theorem offComm_hwIrqStatusClear (w : Word) : Leaves π (.hwIrqStatusClear t w) t :=
  leaves_of_happen (ok := true) (fun _ => rfl) fun m => by simp only [apply_ite π, offComm_flushCmd h, offComm_setHost h, ite_self]

theorem offComm_cmdErrFlush : Leaves π (.cmdErrFlush t) t :=
  leaves_of_happen (ok := true) (fun _ => rfl) fun m => by simp only [apply_ite π, offComm_flushCmd h, offComm_setHost h, ite_self]

theorem offComm_timeSnapRead : Leaves π (.timeSnapRead t) t :=
  leaves_of_happen (ok := true) (fun _ => rfl) fun m => by simp only [apply_ite π, offComm_setHost h, ite_self]

theorem offComm_registerWrite (reg : Nat) (w : Word) : Leaves π (.registerWrite t reg w) t :=
  leaves_of_happen (fun _ => rfl) fun m => by
    split
    · rfl
    split
    · exact offComm_setHost h m _
    · split
      · exact offComm_setHost h m _
      · rfl
    · exact offComm_setHost h m _
    · rfl

theorem offComm_spiTransactionAborted : Leaves π (.spiTransactionAborted t) t :=
  leaves_of_happen (ok := true) (fun _ => rfl) fun m => by simp only [apply_ite π, offComm_setHost h, ite_self]

theorem offComm_segmentTimeout (x : Transport) : Leaves π (.segmentTimeout t x) t :=
  leaves_of_happen (ok := true) (fun _ => rfl) fun m => (ModuleState.each_frame _ _ _ π fun _ _ => h _ _).trans
    (h m { m.comm with interp := { m.interp with collections := m.interp.collections.filter fun c => !(c.transport == x && m.due c.last (seconds 2)) } })

/-! The CAN controllers. -/

theorem offComm_tpError (m : ModuleState) (c cause : Nat) : π (m.tpError c cause) = π m := by
  unfold ModuleState.tpError
  rw [offComm_log h, offComm_saturated h, offComm_setCtl h]

theorem offComm_canTpNCrTimeout (c : Nat) : Leaves π (.canTpNCrTimeout t c) t :=
  leaves_of_happen (fun _ => rfl) fun m => by
    split
    · simp only [apply_ite π, offComm_tpError h, offComm_setCtl h, ite_self]
    · rfl

theorem offComm_canTpNBsTimeout (c : Nat) : Leaves π (.canTpNBsTimeout t c) t :=
  leaves_of_happen (fun _ => rfl) fun m => by
    split
    · simp only [apply_ite π, ModuleState.abortTx, offComm_lostOn h, offComm_tpError h, offComm_setCtl h, ite_self]
    · rfl

theorem offComm_canRateDwellEnd (c : Nat) : Leaves π (.canRateDwellEnd t c) t :=
  leaves_of_happen (fun _ => rfl) fun m => by simp only [apply_ite π, offComm_logIf h, offComm_setCtl h, ite_self]

theorem offComm_canTxSuccess (c buf sof : Nat) : Leaves π (.canTxSuccess t c buf sof) t :=
  leaves_of_happen (fun _ => rfl) fun m => by
    simp only [apply_ite π, offComm_logIf h, offComm_setCtl h, offComm_setErrors h, offComm_clearNoAck h, ite_self]

theorem offComm_canTxErrorFrame (c buf : Nat) (err : TxErr) : Leaves π (.canTxErrorFrame t c buf err) t :=
  leaves_of_happen (fun _ => rfl) fun m => by
    simp only [apply_ite π, offComm_abortBuf h, offComm_logIf h, offComm_setErrors h, offComm_saturated h, offComm_setCtl h, ite_self]

theorem offComm_canBusOffRecovered (c : Nat) : Leaves π (.canBusOffRecovered t c) t :=
  leaves_of_happen (fun _ => rfl) fun m => by simp only [apply_ite π, offComm_setCtl h, offComm_setErrors h, ite_self]

theorem offComm_canModeApply (c : Nat) : Leaves π (.canModeApply t c) t :=
  leaves_of_happen (fun _ => rfl) fun m => by
    split
    · rw [offComm_setCtl h, offComm_enterMode h]
    · rfl

theorem offComm_canBusIntegrated (c : Nat) : Leaves π (.canBusIntegrated t c) t :=
  leaves_of_happen (fun _ => rfl) fun m => by simp only [apply_ite π, offComm_setCtl h, offComm_enterMode h, ite_self]

theorem offComm_busFault (m : ModuleState) (c cause : Nat) : π (m.busFault c cause) = π m := (offComm_log h _ _ _ _).trans (offComm_setCtl h m c _)

theorem offComm_canTxdTimeout (c : Nat) : Leaves π (.canTxdTimeout t c) t :=
  leaves_of_happen (fun _ => rfl) fun m => by simp only [apply_ite π, offComm_busFault h, ite_self]

theorem offComm_canBusDominant (c : Nat) : Leaves π (.canBusDominant t c) t :=
  leaves_of_happen (fun _ => rfl) fun m => by simp only [apply_ite π, offComm_busFault h, ite_self]

theorem offComm_transceiverThermal (c : Nat) : Leaves π (.transceiverThermal t c) t :=
  leaves_of_happen (fun _ => rfl) fun m => by simp only [apply_ite π, offComm_busFault h, ite_self]

theorem offComm_canRxError (c : Nat) (dominant : Bool) : Leaves π (.canRxError t c dominant) t :=
  leaves_of_happen (fun _ => rfl) fun m => by
    dsimp only
    split
    · rfl
    · simp only [apply_ite π, offComm_setErrors h, offComm_saturated h, offComm_setCtl h, ite_self]
    · rw [offComm_saturated h, offComm_setCtl h]

theorem offComm_acceptRate (m : ModuleState) (c : Nat) (brs : Bool) : π (m.acceptRate c brs) = π m := by
  unfold ModuleState.acceptRate
  dsimp only
  rw [offComm_log h, offComm_setCtl h, offComm_enterMode h, offComm_setCtl h]

theorem offComm_authFail (m : ModuleState) (c o cause : Nat) : π (m.authFail c o cause) = π m := by
  unfold ModuleState.authFail
  dsimp only
  rw [offComm_logIf h, offComm_saturated h, offComm_setCtl h]

theorem offComm_offerFrame (m : ModuleState) (c sof : Nat) (f : CanFrame) : π (m.offerFrame c sof f) = π m := by
  simp only [ModuleState.offerFrame, apply_ite π, offComm_saturated h, offComm_setCtl h, offComm_authFail h, ite_self]

/-- A received frame may take a free value as well, for a receive error counter that comes back from above 127. -/
theorem offComm_canFrameReceived (hfree : ∀ m k, π { m with free := k } = π m) (c sof : Nat) (f : CanFrame) : Leaves π (.canFrameReceived t c sof f) t :=
  leaves_of_happen (fun _ => rfl) fun m => by
    dsimp only
    split
    · rfl
    · simp only [apply_ite π, offComm_acceptRate h, offComm_setCtl h, offComm_clearNoAck h, ite_self]
    · split
      · rfl
      · generalize hx : (if 127 < (m.ctl c).rec_ then m.fresh else (0, m)) = x
        have hfresh : π x.2 = π m := by
          rw [← hx]
          split
          · exact hfree m _
          · rfl
        rw [offComm_offerFrame h, ModuleState.each_frame (π := π) (h := fun n b => by rw [apply_ite π, offComm_abortBuf h, ite_self]), offComm_setCtl h,
          offComm_setErrors h, offComm_clearNoAck h, hfresh]

/-! The recorder. -/

theorem offComm_reportDrops (m : ModuleState) : π m.reportDrops = π m := by
  simp only [ModuleState.reportDrops, apply_ite π, offComm_log h, offComm_setRec h, ite_self]

theorem offComm_recordTakeIn : Leaves π (.recordTakeIn t) t :=
  leaves_of_happen (ok := true) (fun _ => rfl) fun m => by
    split
    · exact offComm_setRec h m _
    split
    · rfl
    · simp only [apply_ite π, offComm_reportDrops h, h, offComm_setRec h, ite_self]

theorem offComm_recordFlushTimer : Leaves π (.recordFlushTimer t) t :=
  leaves_of_happen (ok := true) (fun _ => rfl) fun m => by simp only [apply_ite π, offComm_setRec h, ite_self]

theorem offComm_opTimeSave : Leaves π (.opTimeSave t) t :=
  leaves_of_happen (ok := true) (fun _ => rfl) fun m => by simp only [apply_ite π, offComm_setRec h, ite_self]

theorem offComm_snapshotSample : Leaves π (.snapshotSample t) t :=
  leaves_of_happen (ok := true) (fun _ => rfl) fun m => by simp only [apply_ite π, offComm_setRec h, ite_self]

theorem offComm_writeSnapshot (m : ModuleState) : π m.writeSnapshot = π m := by
  unfold ModuleState.writeSnapshot
  split
  · rfl
  · exact offComm_setRec h m _

theorem offComm_finishSnapshot (m : ModuleState) : π m.finishSnapshot = π m := by
  unfold ModuleState.finishSnapshot
  split
  · rfl
  · rw [offComm_log h, offComm_writeSnapshot h]

theorem offComm_snapshotCollectDone : Leaves π (.snapshotCollectDone t) t :=
  leaves_of_happen (ok := true) (fun _ => rfl) fun m => by simp only [apply_ite π, offComm_finishSnapshot h, ite_self]

theorem offComm_endReadout (m : ModuleState) (cause : Nat) : π (m.endReadout cause) = π m := by
  unfold ModuleState.endReadout
  split
  · rfl
  · exact (ModuleState.each_frame _ _ _ π fun m ref => offComm_settle h m ref _ _).trans ((offComm_log h _ _ _ _).trans (offComm_setRec h m _))

theorem offComm_logReadTimeout : Leaves π (.logReadTimeout t) t :=
  leaves_of_happen (ok := true) (fun _ => rfl) fun m => by
    split
    · simp only [apply_ite π, offComm_endReadout h, ite_self]
    · rfl

theorem offComm_nandBlockFailure (hfree : ∀ m k, π { m with free := k } = π m) (region block cause : Nat) : Leaves π (.nandBlockFailure t region block cause) t := by
  have hunread : ∀ m : ModuleState, π (m.unreadable region block) = π m := fun m => by
    unfold ModuleState.unreadable
    exact (offComm_setRec h _ _).trans (hfree m _)
  exact leaves_of_happen (ok := true) (fun _ => rfl) fun m => by
    simp only [apply_ite π, offComm_log h, offComm_saturated h, offComm_setRec h, hunread, ite_self]

theorem offComm_readoutReady (m : ModuleState) : π m.readoutReady = π m := by
  unfold ModuleState.readoutReady
  split
  · split
    · simp only [apply_ite π, offComm_settle h, offComm_setRec h, ite_self]
    · rfl
  · rfl

/-! Ethernet. -/

theorem offComm_pdLeaves (m : ModuleState) : π m.pdLeaves = π m := by
  unfold ModuleState.pdLeaves
  split
  · rfl
  · exact h m { m.comm with eth := _, out := _ }

theorem offComm_doorbellEthRx : Leaves π (.doorbellEthRx t) t :=
  leaves_of_happen (ok := true) (fun _ => rfl) fun m => by simp only [apply_ite π, offComm_setEth h, ite_self]

theorem offComm_udpReassemblyTimeout (src ident : Nat) : Leaves π (.udpReassemblyTimeout t src ident) t :=
  leaves_of_happen (ok := true) (fun _ => rfl) fun m => offComm_setEth h m _

theorem offComm_ethLinkChange (port : Nat) (up : Bool) (speed flags : Nat) : Leaves π (.ethLinkChange t port up speed flags) t :=
  leaves_of_happen (fun _ => rfl) fun m => (offComm_logIf h _ _ _ _ _).trans (offComm_setEth h m _)

theorem offComm_ethAddressAged (vid mac : Nat) : Leaves π (.ethAddressAged t vid mac) t :=
  leaves_of_happen (ok := true) (fun _ => rfl) fun m => offComm_setEth h m _

end

end Sys2Proof.Machine
end

section
/-! What the rows of the culvert, security, time, the pair and the warden leave alone, and the rows of the logic side together. -/

namespace Sys2Proof.Machine

/-! ### The culvert -/

section

variable {β : Type} {π : ModuleState → β} (h : ∀ m k, π (ModuleState.withComm m k) = π m) (hcv : ∀ m cv, π { m with cv := cv } = π m) {t : Nat}
include hcv

theorem offCulvert_setChan (m : ModuleState) (c : Nat) (f : CvChan → CvChan) : π (m.setChan c f) = π m := hcv m _

theorem offCulvert_doorbellCv (c : Nat) : Leaves π (.doorbellCv t c) t :=
  leaves_of_happen (fun _ => rfl) fun m => by simp only [apply_ite π, offCulvert_setChan hcv, ite_self]

theorem offCulvert_cvPaceReady (c : Nat) : Leaves π (.cvPaceReady t c) t :=
  leaves_of_happen (fun _ => rfl) fun m => by
    dsimp only
    split
    · simp only [apply_ite π, offCulvert_setChan hcv, ite_self]
    · rfl

theorem offCulvert_cvSettle (m : ModuleState) : π m.cvSettle = π m := by
  obtain ⟨cv, hcv'⟩ := m.cvSettle_cv
  rw [hcv', hcv]

include h

theorem offCulvert_cvRecorderResume : Leaves π (.cvRecorderResume t) t :=
  leaves_of_happen (ok := true) (fun _ => rfl) fun m => by simp only [apply_ite π, offComm_setRec h, hcv, ite_self]

theorem offCulvert_traceSample (axis : Nat) : Leaves π (.traceSample t axis) t :=
  leaves_of_happen (fun _ => rfl) fun m => by
    simp only [apply_ite π, offComm_saturated h, hcv, offCulvert_cvSettle hcv, ite_self]

theorem offCulvert_nandFlushDone : Leaves π (.nandFlushDone t) t :=
  leaves_of_happen (ok := true) (fun _ => rfl) fun m => by
    have hgrown : ∀ (n : ModuleState) (l : List (Nat × Nat × Bool)),
        π (n.each l fun m g => m.log evCycleRegionGrown tgModule [(g.1 : Int), (g.2.1 : Int), flagItem g.2.2]) = π n :=
      fun n l => n.each_frame l _ π fun m g => offComm_log h m _ _ _
    split
    · rw [offComm_readoutReady h, hgrown]
      exact (offCulvert_setChan hcv _ 14 _).trans (offComm_setRec h m _)
    · rfl

end

/-! ### Security -/

section

variable {β : Type} {π : ModuleState → β} (h : ∀ m k, π (ModuleState.withComm m k) = π m) (hsec : ∀ m sec, π { m with sec := sec } = π m) {t : Nat}
include hsec

theorem offSecurity_setSec (m : ModuleState) (f : Security → Security) : π (m.setSec f) = π m := hsec m _

theorem offSecurity_subtreeBuildDone : Leaves π (.subtreeBuildDone t) t :=
  leaves_of_happen (ok := true) (fun _ => rfl) fun m => by simp only [apply_ite π, offSecurity_setSec hsec, ite_self]

theorem offSecurity_debugProbeAttached (attached : Bool) : Leaves π (.debugProbeAttached t attached) t :=
  leaves_of_happen (ok := true) (fun _ => rfl) fun m => by simp only [apply_ite π, offSecurity_setSec hsec, ite_self]

include h

theorem offSecurity_closeSession (m : ModuleState) (n cause : Nat) : π (m.closeSession n cause) = π m := by
  unfold ModuleState.closeSession
  refine (offComm_logIf h _ _ _ _ _).trans ?_
  exact (h { m with sec := { m.sec with sessions := m.sec.sessions.filter (·.num != n) } } { m.comm with interp := { m.interp with
    ports := updAll m.interp.ports fun q => { q with route := if q.routedTo n then none else q.route } } }).trans (hsec m _)

theorem offSecurity_closeSessions (m : ModuleState) (l : List Nat) (cause : Nat) : π (m.closeSessions l cause) = π m :=
  m.each_frame l _ π fun m n => offSecurity_closeSession h hsec m n cause

theorem offSecurity_tamperTrip (sensor : Nat) : Leaves π (.tamperTrip t sensor) t :=
  leaves_of_happen (fun _ => rfl) fun m => by
    simp only [apply_ite π, offComm_log h, offComm_saturated h, offSecurity_closeSessions h hsec, offSecurity_setSec hsec, ite_self]

theorem offSecurity_tamperCleared (since : Nat) : Leaves π (.tamperCleared t since) t :=
  leaves_of_happen (ok := true) (fun _ => rfl) fun m => by simp only [apply_ite π, offComm_logIf h, offSecurity_setSec hsec, ite_self]

theorem offSecurity_sessionConfirmTimeout (n : Nat) : Leaves π (.sessionConfirmTimeout t n) t :=
  leaves_of_happen (ok := true) (fun _ => rfl) fun m => by
    split
    · simp only [apply_ite π, offSecurity_closeSession h hsec, ite_self]
    · rfl

theorem offSecurity_sessionExpiry (n : Nat) : Leaves π (.sessionExpiry t n) t :=
  leaves_of_happen (ok := true) (fun _ => rfl) fun m => by
    split
    · simp only [apply_ite π, offSecurity_closeSession h hsec, ite_self]
    · rfl

theorem offSecurity_freshnessLow (c : Nat) : Leaves π (.freshnessLow t c) t :=
  leaves_of_happen (fun _ => rfl) fun m => by simp only [apply_ite π, offComm_log h, offSecurity_setSec hsec, ite_self]

omit h in
/-- A process image formed has taken at most a transmit counter. -/
theorem offSecurity_formImage {m : ModuleState} {secured : Bool} {group id seq : Nat} {x : ModuleState × List Byte}
    (hx : m.formImage secured group id seq = some x) : π x.1 = π m := by
  unfold ModuleState.formImage at hx
  dsimp only at hx
  split at hx
  · obtain ⟨y, hy, rfl⟩ := Option.map_eq_some_iff.mp hx
    unfold ModuleState.imageFresh at hy
    split at hy
    · cases hy
    split at hy
    · cases hy
    split at hy
    · cases hy
      rfl
    · cases hy
      exact hsec m _
  · cases hx
    rfl

theorem offSecurity_canPiPeriod (c : Nat) : Leaves π (.canPiPeriod t c) t :=
  leaves_of_happen (fun _ => rfl) fun m => by
    dsimp only
    split
    · rfl
    split
    · exact offComm_setCtl h m c _
    · next hx =>
      rw [offComm_logIf h, offComm_logIf h, offComm_setCtl h]
      exact (offSecurity_formImage hsec hx).trans (offComm_setCtl h m c _)

theorem offSecurity_trdpPdPeriod (left : Bool) : Leaves π (.trdpPdPeriod t left) t :=
  leaves_of_happen (ok := true) (fun _ => rfl) fun m => by
    have hleft : π (if left then m.pdLeaves.setEth fun e => { e with pd := none } else m) = π m := by
      simp only [apply_ite π, offComm_setEth h, offComm_pdLeaves h, ite_self]
    dsimp only
    split
    · exact hleft
    split
    · exact (offComm_setEth h _ _).trans hleft
    · next hx =>
      rw [offComm_logIf h, offComm_setEth h]
      exact (offSecurity_formImage hsec hx).trans ((offComm_setEth h _ _).trans hleft)

end

/-! ### Time -/

section

variable {β : Type} {π : ModuleState → β} (h : ∀ m k, π (ModuleState.withComm m k) = π m) (htime : ∀ m time, π { m with time := time } = π m) {t : Nat}
include htime

theorem offTime_setTime (m : ModuleState) (f : TimeUnit → TimeUnit) : π (m.setTime f) = π m := htime m _

theorem offTime_ref25mLost : Leaves π (.ref25mLost t) t := leaves_of_happen (ok := true) (fun _ => rfl) fun m => offTime_setTime htime m _

theorem offTime_ref25mRestored : Leaves π (.ref25mRestored t) t := leaves_of_happen (ok := true) (fun _ => rfl) fun m => offTime_setTime htime m _

theorem offTime_ppsOutFall : Leaves π (.ppsOutFall t) t :=
  leaves_of_happen (ok := true) (fun _ => rfl) fun m => by simp only [apply_ite π, offTime_setTime htime, ite_self]

theorem offTime_raisePps (m : ModuleState) (second : Nat) : π (m.raisePps second) = π m := by
  simp only [ModuleState.raisePps, apply_ite π, offTime_setTime htime, ite_self]

theorem offTime_ppsOutPulse : Leaves π (.ppsOutPulse t) t :=
  leaves_of_happen (ok := true) (fun _ => rfl) fun m => by simp only [apply_ite π, offTime_raisePps htime, offTime_setTime htime, ite_self]

theorem offTime_compareTargetArm (unit : Nat) : Leaves π (.compareTargetArm t unit) t :=
  leaves_of_happen (fun _ => rfl) fun m => by
    split
    · exact offTime_setTime htime m _
    · rfl

include h

theorem offTime_setQuality (m : ModuleState) (q : Quality) : π (m.setQuality q) = π m := (offComm_logIf h _ _ _ _ _).trans (offTime_setTime htime m _)

theorem offTime_holdoverExpiry : Leaves π (.holdoverExpiry t) t :=
  leaves_of_happen (ok := true) (fun _ => rfl) fun m => by simp only [apply_ite π, offTime_setQuality h htime, ite_self]

theorem offTime_loseSource (m : ModuleState) : π m.loseSource = π m := by
  unfold ModuleState.loseSource
  split
  · exact offTime_setQuality h htime m _
  · exact (offTime_setQuality h htime _ _).trans (offTime_setTime htime m _)
  · rfl

theorem offTime_chooseMaster (m : ModuleState) : π m.chooseMaster = π m := by
  unfold ModuleState.chooseMaster
  dsimp only
  split
  · rw [offTime_setTime htime, offTime_setTime htime]
  · rw [offComm_logIf h, offTime_setTime htime, offTime_setTime htime]

theorem offTime_ptpSourceLost : Leaves π (.ptpSourceLost t) t :=
  leaves_of_happen (ok := true) (fun _ => rfl) fun m => by
    simp only [apply_ite π, offTime_loseSource h htime, offTime_chooseMaster h htime, offTime_setTime htime, ite_self]

end

/-! ### The pair -/

section

variable {β : Type} {π : ModuleState → β} (h : ∀ m k, π (ModuleState.withComm m k) = π m) (hpair : ∀ m pair, π { m with pair := pair } = π m) {t : Nat}
include hpair

theorem offPair_setPair (m : ModuleState) (f : Pair → Pair) : π (m.setPair f) = π m := hpair m _

theorem offPair_sendLevee (m : ModuleState) (dest : Nat) (body : LeveeBody) : π (m.sendLevee dest body) = π m := offPair_setPair hpair m _

theorem offPair_sendLease (m : ModuleState) (kind leaseNo : Nat) : π (m.sendLease kind leaseNo) = π m := offPair_sendLevee hpair m _ _

theorem offPair_follow (m : ModuleState) : π m.follow = π m := by
  simp only [ModuleState.follow, apply_ite π, offPair_setPair hpair, ite_self]

theorem offPair_leaseRenewSend : Leaves π (.leaseRenewSend t) t :=
  leaves_of_happen (ok := true) (fun _ => rfl) fun m => by
    simp only [apply_ite π, offPair_sendLease hpair, offPair_setPair hpair, ite_self]

theorem offPair_helloSend : Leaves π (.helloSend t) t :=
  leaves_of_happen (ok := true) (fun _ => rfl) fun m => by
    simp only [apply_ite π, offPair_sendLease hpair, offPair_setPair hpair, ite_self]

theorem offPair_fenceOutputEnd (link : Nat) : Leaves π (.fenceOutputEnd t link) t :=
  leaves_of_happen (fun _ => rfl) fun m => by simp only [apply_ite π, offPair_setPair hpair, ite_self]

theorem offPair_mirrorEpochClose (wanted : Bool) : Leaves π (.mirrorEpochClose t wanted) t :=
  leaves_of_happen (ok := true) (fun _ => rfl) fun m => by
    simp only [apply_ite π, offPair_sendLevee hpair, offPair_setPair hpair, ite_self]

theorem offPair_standbyFit : Leaves π (.standbyFit t) t :=
  leaves_of_happen (ok := true) (fun _ => rfl) fun m => by simp only [apply_ite π, offPair_setPair hpair, ite_self]

theorem offPair_rotateDue : Leaves π (.rotateDue t) t :=
  leaves_of_happen (ok := true) (fun _ => rfl) fun m => by simp only [apply_ite π, offPair_setPair hpair, ite_self]

theorem offPair_revertDue : Leaves π (.revertDue t) t :=
  leaves_of_happen (ok := true) (fun _ => rfl) fun m => by simp only [apply_ite π, offPair_setPair hpair, ite_self]

include h

theorem offPair_hear (m : ModuleState) (msg : LeaseMsg) : π (m.hear msg) = π m :=
  (offComm_logIf h _ _ _ _ _).trans ((offComm_logIf h _ _ _ _ _).trans (offPair_setPair hpair m _))

theorem offPair_leaseRenewReceived (msg : LeaseMsg) : Leaves π (.leaseRenewReceived t msg) t :=
  leaves_of_happen (ok := true) (fun _ => rfl) fun m => by
    simp only [apply_ite π, offPair_sendLease hpair, offPair_setPair hpair, offPair_follow hpair, offPair_hear h hpair, ite_self]

theorem offPair_helloReceived (msg : LeaseMsg) : Leaves π (.helloReceived t msg) t :=
  leaves_of_happen (ok := true) (fun _ => rfl) fun m => by
    simp only [apply_ite π, offPair_sendLease hpair, offPair_setPair hpair, offPair_follow hpair, offPair_hear h hpair, ite_self]

theorem offPair_claimReceived (msg : LeaseMsg) : Leaves π (.claimReceived t msg) t :=
  leaves_of_happen (ok := true) (fun _ => rfl) fun m => by
    simp only [apply_ite π, offPair_sendLease hpair, offPair_follow hpair, offPair_hear h hpair, ite_self]

/-- A partner lost touches what it had on besides: load channels and field outputs shared with it. -/
theorem offPair_partnerLost (hshared : ∀ m loads field, π { m with loads := loads, field := field } = π m) (m : ModuleState) : π m.partnerLost = π m :=
  (offComm_logIf h _ _ _ _ _).trans ((offPair_setPair hpair _ _).trans (hshared m _ _))

theorem offPair_leaveReceived (hshared : ∀ m loads field, π { m with loads := loads, field := field } = π m) (msg : LeaseMsg) :
    Leaves π (.leaveReceived t msg) t :=
  leaves_of_happen (ok := true) (fun _ => rfl) fun m => by
    simp only [apply_ite π, offPair_partnerLost h hpair hshared, offPair_setPair hpair, offPair_hear h hpair, ite_self]

theorem offPair_discordTimeout : Leaves π (.discordTimeout t) t :=
  leaves_of_happen (ok := true) (fun _ => rfl) fun m => by simp only [apply_ite π, offComm_log h, offPair_setPair hpair, ite_self]

theorem offPair_epochCommitTimeout : Leaves π (.epochCommitTimeout t) t :=
  leaves_of_happen (ok := true) (fun _ => rfl) fun m => by
    simp only [apply_ite π, ModuleState.discardEpoch, offComm_log h, offPair_setPair hpair, ite_self]

theorem offPair_discordantEnd : Leaves π (.discordantEnd t) t :=
  leaves_of_happen (ok := true) (fun _ => rfl) fun m => by simp only [apply_ite π, offComm_log h, offPair_setPair hpair, ite_self]

theorem offPair_leveePortChange (link : Nat) (up : Bool) : Leaves π (.leveePortChange t link up) t :=
  leaves_of_happen (fun _ => rfl) fun m => by simp only [apply_ite π, offComm_log h, offPair_setPair hpair, ite_self]

theorem offPair_forwardTimeout (forward : Nat) : Leaves π (.forwardTimeout t forward) t :=
  leaves_of_happen (ok := true) (fun _ => rfl) fun m => by
    split
    · exact (offComm_endRef h _ _ _ _).trans (offPair_setPair hpair m _)
    · rfl

theorem offPair_fenceWireFault (link : Nat) : Leaves π (.fenceWireFault t link) t :=
  leaves_of_happen (fun _ => rfl) fun m => by simp only [apply_ite π, offComm_log h, offPair_setPair hpair, ite_self]

end

/-! ### The warden -/

section

variable {β : Type} {π : ModuleState → β} (h : ∀ m k, π (ModuleState.withComm m k) = π m) (hwarden : ∀ m w, π { m with warden := w } = π m) {t : Nat}
include hwarden

theorem offWarden_setWarden (m : ModuleState) (f : Warden → Warden) : π (m.setWarden f) = π m := hwarden m _

theorem offWarden_setBank (m : ModuleState) (n : Nat) (f : Bank → Bank) : π (m.setBank n f) = π m := hwarden m _

theorem offWarden_setTs12 (m : ModuleState) (v : Int) : π (m.setTs12 v) = π m := hwarden m _

theorem offWarden_holdupCapMeasure (uf : Nat) : Leaves π (.holdupCapMeasure t uf) t :=
  leaves_of_happen (ok := true) (fun _ => rfl) fun m => by simp only [apply_ite π, offWarden_setWarden hwarden, ite_self]

include h

theorem offWarden_condensationChange : Leaves π (.condensationChange t) t :=
  leaves_of_happen (ok := true) (fun _ => rfl) fun m => by simp only [apply_ite π, offComm_log h, offWarden_setWarden hwarden, ite_self]

theorem offWarden_imageEraseDone (failed : Bool) : Leaves π (.imageEraseDone t failed) t :=
  leaves_of_happen (ok := true) (fun _ => rfl) fun m => by
    simp only [apply_ite π, offComm_log h, offWarden_setBank hwarden, offWarden_setWarden hwarden, ite_self]

omit hwarden in
theorem offComm_judgeImage (m : ModuleState) (n : Nat) : π (m.judgeImage n).2 = π m := by
  unfold ModuleState.judgeImage
  split
  · exact offComm_log h m _ _ _
  · rfl

theorem offWarden_imageVerifyDone : Leaves π (.imageVerifyDone t) t :=
  leaves_of_happen (ok := true) (fun _ => rfl) fun m => by
    simp only [apply_ite π, offComm_log h, offWarden_setBank hwarden, offWarden_setWarden hwarden, offComm_judgeImage h, ite_self]

theorem offWarden_setHoldup (m : ModuleState) (x : Holdup) : π (m.setHoldup x) = π m := by
  simp only [ModuleState.setHoldup, apply_ite π, offComm_log h, offWarden_setWarden hwarden, ite_self]

theorem offWarden_holdupStateChange (cap : Nat) : Leaves π (.holdupStateChange t cap) t :=
  leaves_of_happen (ok := true) (fun _ => rfl) fun m => by
    simp only [apply_ite π, offWarden_setHoldup h hwarden, offWarden_setWarden hwarden, ite_self]

theorem offWarden_holdupReadyTimeout : Leaves π (.holdupReadyTimeout t) t :=
  leaves_of_happen (ok := true) (fun _ => rfl) fun m => by simp only [apply_ite π, offWarden_setHoldup h hwarden, ite_self]

theorem offWarden_baseplateHot (since : Nat) (x : Int) : Leaves π (.baseplateHot t since x) t :=
  leaves_of_happen (ok := true) (fun _ => rfl) fun m => by
    simp only [apply_ite π, offComm_log h, offWarden_setWarden hwarden, offWarden_setTs12 hwarden, ite_self]

theorem offWarden_baseplateHotClear (since : Nat) (x : Int) : Leaves π (.baseplateHotClear t since x) t :=
  leaves_of_happen (ok := true) (fun _ => rfl) fun m => by
    simp only [apply_ite π, offComm_log h, offWarden_setWarden hwarden, offWarden_setTs12 hwarden, ite_self]

end

/-! ### Islands and portals -/

theorem memTransientReport_leaves {β : Type} {π : ModuleState → β} (h : ∀ m k, π (ModuleState.withComm m k) = π m)
    (hislands : ∀ m i f, π (ModuleState.setIsland m i f) = π m) (t island : Nat) : Leaves π (.memTransientReport t island) t :=
  leaves_of_happen (fun _ => rfl) fun m => by simp only [apply_ite π, offComm_log h, hislands, ite_self]

theorem traceSpacingSample_leaves {β : Type} {π : ModuleState → β} (hportal : ∀ m p f, π (ModuleState.setPortal m p f) = π m) (t portal : Nat) :
    Leaves π (.traceSpacingSample t portal) t :=
  leaves_of_happen (fun _ => rfl) fun m => by simp only [apply_ite π, hportal, ite_self]

/-- Settles O60: every row leaves the module apart from its parts alone. -/
theorem logicSideRowsKeep : Obligations.LogicSideRowsKeep := by
  intro s t
  refine ⟨fun y a b c z y1 p => ?_, fun a b c => ?_, fun y => ?_, fun a => ?_, fun a b c p => ?_, fun a p => ?_, fun p => ?_, fun a => ?_,
    fun a b y => ?_, fun y a p => ?_, fun p a u => ?_, fun a => ?_, fun a => ?_⟩
  · have h : ∀ (m : ModuleState) k, ModuleState.apart (fun _ m => m) (ModuleState.withComm m k) = ModuleState.apart (fun _ m => m) m := fun _ _ => rfl
    exact keeps_all (by simp [offComm_evtFifoRead h, offComm_hwIrqStatusClear h, offComm_cmdErrFlush h, offComm_timeSnapRead h,
      offComm_registerWrite h, offComm_spiTransactionAborted h, offComm_canTpNCrTimeout h, offComm_canTpNBsTimeout h, offComm_segmentTimeout h,
      offComm_canRateDwellEnd h, offComm_canTxSuccess h, offComm_canTxErrorFrame h, offComm_canBusOffRecovered h, offComm_canModeApply h,
      offComm_canBusIntegrated h, offComm_canTxdTimeout h, offComm_canBusDominant h, offComm_recordTakeIn h, offComm_recordFlushTimer h,
      offComm_opTimeSave h, offComm_snapshotSample h, offComm_snapshotCollectDone h, offComm_logReadTimeout h, offComm_canRxError h,
      offComm_transceiverThermal h]) s
  · exact (offComm_nandBlockFailure (fun _ _ => rfl) (fun _ _ => rfl) a b c).keeps s
  · exact (offPair_leaveReceived (fun _ _ => rfl) (fun _ _ => rfl) (fun _ _ _ => rfl) y).keeps s
  · have h : ∀ (m : ModuleState) k, ModuleState.apart (fun n m => { m with cv := n.cv }) (ModuleState.withComm m k) =
        m.apart fun n m => { m with cv := n.cv } := fun _ _ => rfl
    have hcv : ∀ (m : ModuleState) cv, ModuleState.apart (fun n m => { m with cv := n.cv }) { m with cv := cv } =
        m.apart fun n m => { m with cv := n.cv } := fun _ _ => rfl
    exact keeps_all (by simp [offCulvert_doorbellCv hcv, offCulvert_cvPaceReady hcv, offCulvert_cvRecorderResume h hcv, offCulvert_traceSample h hcv,
      offCulvert_nandFlushDone h hcv]) s
  · have h : ∀ (m : ModuleState) k, ModuleState.apart (fun n m => { m with eth := n.eth }) (ModuleState.withComm m k) =
        m.apart fun n m => { m with eth := n.eth } := fun _ _ => rfl
    exact keeps_all (by simp [offComm_doorbellEthRx h, offComm_udpReassemblyTimeout h, offComm_ethLinkChange h, offComm_ethAddressAged h]) s
  · have h : ∀ (m : ModuleState) k, ModuleState.apart (fun n m => { m with sec := n.sec }) (ModuleState.withComm m k) =
        m.apart fun n m => { m with sec := n.sec } := fun _ _ => rfl
    have hsec : ∀ (m : ModuleState) sec, ModuleState.apart (fun n m => { m with sec := n.sec }) { m with sec := sec } =
        m.apart fun n m => { m with sec := n.sec } := fun _ _ => rfl
    exact keeps_all (by simp [offSecurity_canPiPeriod h hsec, offSecurity_tamperTrip h hsec, offSecurity_tamperCleared h hsec,
      offSecurity_sessionConfirmTimeout h hsec, offSecurity_sessionExpiry h hsec, offSecurity_subtreeBuildDone hsec, offSecurity_freshnessLow h hsec,
      offSecurity_debugProbeAttached hsec]) s
  · exact (offSecurity_trdpPdPeriod (fun _ _ => rfl) (fun _ _ => rfl) p).keeps s
  · have h : ∀ (m : ModuleState) k, ModuleState.apart (fun n m => { m with time := n.time }) (ModuleState.withComm m k) =
        m.apart fun n m => { m with time := n.time } := fun _ _ => rfl
    have htime : ∀ (m : ModuleState) time, ModuleState.apart (fun n m => { m with time := n.time }) { m with time := time } =
        m.apart fun n m => { m with time := n.time } := fun _ _ => rfl
    exact keeps_all (by simp [offTime_ptpSourceLost h htime, offTime_holdoverExpiry h htime, offTime_ppsOutPulse htime, offTime_ppsOutFall htime,
      offTime_compareTargetArm htime, offTime_ref25mLost htime, offTime_ref25mRestored htime]) s
  · exact (offComm_canFrameReceived (fun _ _ => rfl) (fun _ _ => rfl) a b y).keeps s
  · have h : ∀ (m : ModuleState) k, ModuleState.apart (fun n m => { m with pair := n.pair }) (ModuleState.withComm m k) =
        m.apart fun n m => { m with pair := n.pair } := fun _ _ => rfl
    have hpair : ∀ (m : ModuleState) pair, ModuleState.apart (fun n m => { m with pair := n.pair }) { m with pair := pair } =
        m.apart fun n m => { m with pair := n.pair } := fun _ _ => rfl
    exact keeps_all (by simp [offPair_leaseRenewSend hpair, offPair_leaseRenewReceived h hpair, offPair_helloSend hpair, offPair_helloReceived h hpair,
      offPair_claimReceived h hpair, offPair_fenceOutputEnd hpair, offPair_discordTimeout h hpair, offPair_mirrorEpochClose hpair,
      offPair_epochCommitTimeout h hpair, offPair_standbyFit hpair, offPair_rotateDue hpair, offPair_revertDue hpair, offPair_discordantEnd h hpair,
      offPair_leveePortChange h hpair, offPair_forwardTimeout h hpair, offPair_fenceWireFault h hpair]) s
  · have h : ∀ (m : ModuleState) k, ModuleState.apart (fun n m => { m with warden := n.warden }) (ModuleState.withComm m k) =
        m.apart fun n m => { m with warden := n.warden } :=
      fun _ _ => rfl
    have hwarden : ∀ (m : ModuleState) w, ModuleState.apart (fun n m => { m with warden := n.warden }) { m with warden := w } =
        m.apart fun n m => { m with warden := n.warden } := fun _ _ => rfl
    exact keeps_all (by simp [offWarden_condensationChange h hwarden, offWarden_imageEraseDone h hwarden, offWarden_imageVerifyDone h hwarden,
      offWarden_holdupStateChange h hwarden, offWarden_holdupReadyTimeout h hwarden, offWarden_holdupCapMeasure hwarden, offWarden_baseplateHot h hwarden,
      offWarden_baseplateHotClear h hwarden]) s
  · exact (memTransientReport_leaves (fun _ _ => rfl) (fun _ _ _ => rfl) t a).keeps s
  · exact (traceSpacingSample_leaves (fun _ _ _ => rfl) t a).keeps s

end Sys2Proof.Machine
end
